-- ==== Sys2Proof/Word.lean ====
section
/-! DEFINITION. The word types of the module: R8 makes every multi-byte field little-endian, R11 makes every control and
status register 64 bits wide. -/

namespace Sys2Proof

/-- The smallest addressable unit (R8). -/
abbrev Byte := BitVec 8

/-- One register of a thread, or one control and status register (R11, R67). -/
abbrev Word := BitVec 64

end Sys2Proof
end

