-- ==== Sys2Proof/Syntax.lean ====
section
/-! DEFINITION. The commands the block takes: one constructor of Instr per row of spec/opcode_table.json, and the types of
their operands. An instruction row names its thread and carries the fields of its word (R466 to R470); the opcode is the
row itself. -/

namespace Sys2Proof

/-- A hardware thread: tile (R22), logical core (R23) and thread of the core (R58). -/
structure Tid where
  tile : Fin 36
  core : Fin 16
  th : Fin 128
  deriving DecidableEq, Repr

/-- A logical core of a tile (R22, R23). -/
structure Cid where
  tile : Fin 36
  core : Fin 16
  deriving DecidableEq, Repr

/-- The fields of an instruction word beside its opcode (R466), and its extension word (R468; read only when x is set).
In format I (R467) the 28 bits of IMM28 are imm, d, c, b read as one number, imm the high bits: see IWord.imm28. -/
structure IWord where
  x : Bool
  pred : BitVec 5
  mod : BitVec 16
  a : BitVec 6
  b : BitVec 6
  c : BitVec 6
  d : BitVec 6
  imm : BitVec 10
  ext : BitVec 64
  deriving DecidableEq, Repr

/-- Who writes a register (R47, R645, R560). -/
inductive Agent where
  | host
  | controller
  | thread (t : Tid)
  | peer
  deriving DecidableEq, Repr

/-- The width of an access in bytes. Only four and eight are supported by registers (R11). -/
inductive AccessSize where
  | one | two | four | eight
  deriving DecidableEq, Repr

/-- The two external DRAM tiers of R262. -/
inductive Tier where
  | far | near
  deriving DecidableEq, Repr

/-- A Jurvo port (R301). -/
abbrev Port := Fin 6

/-- A CXL port (R498). -/
abbrev CxlPort := Fin 2

/-- The MSI-X control bits of a function (R526): Enable and Function Mask, zero at reset as PCIe has them. -/
structure MsixCtl where
  enable : Bool := false
  mask : Bool := false
  deriving DecidableEq, Repr

/-- An 18-bit module ID (R41). -/
abbrev ModId := BitVec 18

/-- A packet as it reaches a destination or a forwarder: the header of R317 field by field (SEQ also carries the highest
accepted number of an ACK), and the body bytes of R318, prefix included. The packet's TYPE is the row that carries it. LEN
is the body's length. -/
structure Packet where
  dst : ModId
  src : ModId
  vc : BitVec 4
  dclass : Bool
  order : BitVec 3
  dir : BitVec 6
  opn : Bool
  cls : Bool
  seq : BitVec 32
  epoch : BitVec 16
  body : List Byte
  deriving DecidableEq, Repr

/-- A flit as decoded at a port (R305, R306): its header fields, its 256 body bytes and the CRC it carried. -/
structure Flit where
  kind : BitVec 2
  lseq : BitVec 12
  ack : BitVec 12
  nak : Bool
  vc : BitVec 4
  dclass : Bool
  crVc : BitVec 4
  crClass : Bool
  crCount : BitVec 6
  fill : BitVec 8
  last : Bool
  body : List Byte
  crc : BitVec 32
  deriving DecidableEq, Repr

/-- What the FEC of a port saw as a flit came in (R310, R341, R342): the time in ms, the symbol errors of each lane in the flit's
codewords, codewords corrected, codewords uncorrectable. -/
structure FecReport where
  ms : Nat := 0
  errs : List Nat := []
  corr : Nat := 0
  uncorr : Nat := 0
  deriving DecidableEq, Repr

/-- A stream command: its stream (R507) and its sequence number. -/
structure CmdRef where
  stream : Fin 4096
  seq : BitVec 32
  deriving DecidableEq, Repr

/-- The errors that one read of a line meets, as the code sees them (R277): each the INDEX of its unit as R636 numbers it and the symbol
(far: 0 to 3 of the device; near: of the burst) or bit (SRAM: 0 to 511 of the line) it lies at. -/
abbrev CodeErrors := List (Nat × Nat)

/-- A unit's present temperature in °C, signed, and supply class (R597, R598). -/
structure UnitCond where
  temp : BitVec 8
  supply : BitVec 2
  deriving DecidableEq, Repr

/-- What training settles for a port (R303, R304, R598): generation, the peer and its retired lanes, where the lanes stand, or
failure. -/
structure TrainInfo where
  ok : Bool
  gen : BitVec 2
  peerId : ModId
  peerPort : BitVec 3
  peerRetired : BitVec 32
  oftan : Bool
  cond : UnitCond
  deriving DecidableEq, Repr

/-- A DIMM in a far socket as its serial presence data shows it (R262, R263): whether the data could be read, the kind code, an ECC
DIMM, built from x4 devices, its capacity. -/
structure Dimm where
  spd : Bool
  kind : BitVec 3
  ecc : Bool
  x4 : Bool
  sizeGib : BitVec 16
  deriving DecidableEq, Repr

/-- A firmware slot of the carrier flash, as the ROM reads it (R618). -/
structure FwSlot where
  image : List Byte
  deriving DecidableEq, Repr

/-- An access through BAR4 (R501). -/
structure Bar4Access where
  write : Bool
  off : Nat
  bytes : List Byte
  deriving DecidableEq, Repr

/-- A licence record as read from the flash (R624): its 128 bytes, empty when unreadable. -/
structure Licence where
  bytes : List Byte
  deriving DecidableEq, Repr

/-- A defect the start-up test or a BIST found: the 56 low bits of its entry (R636). -/
abbrev Defect := BitVec 56

/-- An SPDM request as a transport delivered it (R621). -/
structure Spdm where
  transport : Fin 4
  session : Option (Fin 4)
  version : BitVec 8
  param1 : BitVec 8
  param2 : BitVec 8
  body : List Byte
  verified : Bool
  deriving DecidableEq, Repr

/-- R527: what an IDE stream protects: CXL.io link by link, CXL.cachemem in skid or containment mode, or CXL.io selectively. -/
inductive IdeKind where
  | link
  | cachemem (skid : Bool)
  | selective
  deriving DecidableEq, Repr

/-- An IDE_KM message (R527), for a stream of a kind. -/
structure IdeKm where
  session : Fin 4
  object : BitVec 8
  streamId : BitVec 8
  kind : IdeKind
  keySet : Bool
  rxTx : Bool
  subStream : BitVec 4
  key : List Byte
  deriving DecidableEq, Repr

/-- A unit whose settings are kept (R597 to R601): a far channel, a near stack, the lane set of a port, the core rail of a tile. -/
inductive SettingUnit where
  | channel (u : Fin 24)
  | stack (u : Fin 16)
  | port (p : Port)
  | tile (t : Fin 36)
  deriving DecidableEq, Repr

/-- What a background check of a unit finds (R599): where the unit stands, its error rate (corrected codewords per second of a lane
set, corrected errors per hour of a channel or stack), whether its margins are good, and whether it was under heavy load. -/
structure UnitCheck where
  cond : UnitCond
  rate : Nat
  margin : Bool
  heavy : Bool
  deriving DecidableEq, Repr

/-- One structure's result in a BIST group (R634). -/
structure BistResult where
  index : Fin 45
  lsig : BitVec 64
  msig : BitVec 64
  fails : List Defect
  deriving DecidableEq, Repr

/-- The commands of the block: one constructor per row of spec/opcode_table.json. -/
inductive Instr where
  /-- REGISTER_WRITE (R12). -/
  | registerWrite (agent : Agent) (off : BitVec 26) (size : AccessSize) (value : BitVec 64)
  /-- NOP (R480). -/
  | nop (t : Tid) (w : IWord)
  /-- EXIT (R140). -/
  | exitThread (t : Tid) (w : IWord)
  /-- BR (R481). -/
  | br (t : Tid) (w : IWord)
  /-- BRZ (R481). -/
  | brz (t : Tid) (w : IWord)
  /-- BRNZ (R481). -/
  | brnz (t : Tid) (w : IWord)
  /-- BRP (R481). -/
  | brp (t : Tid) (w : IWord)
  /-- BRNP (R481). -/
  | brnp (t : Tid) (w : IWord)
  /-- CALL (R481). -/
  | call (t : Tid) (w : IWord)
  /-- RET (R481). -/
  | ret (t : Tid) (w : IWord)
  /-- MOVI (R467). -/
  | movi (t : Tid) (w : IWord)
  /-- ADD (R482). -/
  | add (t : Tid) (w : IWord)
  /-- SUB (R482). -/
  | sub (t : Tid) (w : IWord)
  /-- MUL (R482). -/
  | mul (t : Tid) (w : IWord)
  /-- AND (R482). -/
  | and (t : Tid) (w : IWord)
  /-- OR (R482). -/
  | or (t : Tid) (w : IWord)
  /-- XOR (R482). -/
  | xor (t : Tid) (w : IWord)
  /-- SHL (R482). -/
  | shl (t : Tid) (w : IWord)
  /-- SHR (R482). -/
  | shr (t : Tid) (w : IWord)
  /-- SAR (R482). -/
  | sar (t : Tid) (w : IWord)
  /-- SMIN (R482). -/
  | smin (t : Tid) (w : IWord)
  /-- SMAX (R482). -/
  | smax (t : Tid) (w : IWord)
  /-- UMIN (R482). -/
  | umin (t : Tid) (w : IWord)
  /-- UMAX (R482). -/
  | umax (t : Tid) (w : IWord)
  /-- CMP (R482). -/
  | cmp (t : Tid) (w : IWord)
  /-- SEL (R482). -/
  | sel (t : Tid) (w : IWord)
  /-- PSET (R482). -/
  | pset (t : Tid) (w : IWord)
  /-- PGET (R482). -/
  | pget (t : Tid) (w : IWord)
  /-- DSC_SET (R483). -/
  | dscSet (t : Tid) (w : IWord)
  /-- DSC_GET (R483). -/
  | dscGet (t : Tid) (w : IWord)
  /-- DSC_OFS (R483). -/
  | dscOfs (t : Tid) (w : IWord)
  /-- FENCE_REL (R76). -/
  | fenceRel (t : Tid) (w : IWord)
  /-- FENCE_ACQ (R77). -/
  | fenceAcq (t : Tid) (w : IWord)
  /-- GATE (R104). -/
  | gate (t : Tid) (w : IWord)
  /-- PHASE (R118). -/
  | phase (t : Tid) (w : IWord)
  /-- CYC_READ (R117). -/
  | cycRead (t : Tid) (w : IWord)
  /-- ST_READ (R67). -/
  | stRead (t : Tid) (w : IWord)
  /-- RNG_SEEK (R228). -/
  | rngSeek (t : Tid) (w : IWord)
  /-- RNG_SEEK_POS (R228). -/
  | rngSeekPos (t : Tid) (w : IWord)
  /-- LD (R485). -/
  | ld (t : Tid) (w : IWord)
  /-- LD_GLIDE (R102). -/
  | ldGlide (t : Tid) (w : IWord)
  /-- ST (R485). -/
  | st (t : Tid) (w : IWord)
  /-- VLD (R485). -/
  | vld (t : Tid) (w : IWord)
  /-- VLD_GLIDE (R102). -/
  | vldGlide (t : Tid) (w : IWord)
  /-- VST (R485). -/
  | vst (t : Tid) (w : IWord)
  /-- DSC_LD (R485). -/
  | dscLd (t : Tid) (w : IWord)
  /-- ATOM (R486). -/
  | atom (t : Tid) (w : IWord)
  /-- ATOM_ADD_BFX (R453). -/
  | atomAddBfx (t : Tid) (w : IWord)
  /-- MOVE (R490). -/
  | move (t : Tid) (w : IWord)
  /-- MOVE_T (R490). -/
  | moveT (t : Tid) (w : IWord)
  /-- KV_GET (R359). -/
  | kvGet (t : Tid) (w : IWord)
  /-- KV_PUT (R362). -/
  | kvPut (t : Tid) (w : IWord)
  /-- LAP_POST (R392). -/
  | lapPost (t : Tid) (w : IWord)
  /-- LAP_POST_DISCARD (R394). -/
  | lapPostDiscard (t : Tid) (w : IWord)
  /-- LAP_SEND (R402). -/
  | lapSend (t : Tid) (w : IWord)
  /-- LAP_SEND_KV (R404). -/
  | lapSendKv (t : Tid) (w : IWord)
  /-- REL_ARM (R436). -/
  | relArm (t : Tid) (w : IWord)
  /-- REL_SEND (R438). -/
  | relSend (t : Tid) (w : IWord)
  /-- REL_POST (R439). -/
  | relPost (t : Tid) (w : IWord)
  /-- TBL_LOAD (R411). -/
  | tblLoad (t : Tid) (w : IWord)
  /-- TBL_FENCE (R412). -/
  | tblFence (t : Tid) (w : IWord)
  /-- BAR_INIT (R84). -/
  | barInit (t : Tid) (w : IWord)
  /-- BAR_ARRIVE (R85). -/
  | barArrive (t : Tid) (w : IWord)
  /-- BAR_ARRIVE_TX (R85). -/
  | barArriveTx (t : Tid) (w : IWord)
  /-- BAR_WAIT (R89). -/
  | barWait (t : Tid) (w : IWord)
  /-- BAR_WAIT_GLIDE (R89). -/
  | barWaitGlide (t : Tid) (w : IWord)
  /-- V_ADD (R493). -/
  | vAdd (t : Tid) (w : IWord)
  /-- V_SUB (R493). -/
  | vSub (t : Tid) (w : IWord)
  /-- V_MUL (R493). -/
  | vMul (t : Tid) (w : IWord)
  /-- V_FMA (R493). -/
  | vFma (t : Tid) (w : IWord)
  /-- V_MAX (R493). -/
  | vMax (t : Tid) (w : IWord)
  /-- V_MIN (R493). -/
  | vMin (t : Tid) (w : IWord)
  /-- V_ABS (R493). -/
  | vAbs (t : Tid) (w : IWord)
  /-- V_NEG (R493). -/
  | vNeg (t : Tid) (w : IWord)
  /-- V_CMP (R493). -/
  | vCmp (t : Tid) (w : IWord)
  /-- V_SEL (R493). -/
  | vSel (t : Tid) (w : IWord)
  /-- V_BCAST (R493). -/
  | vBcast (t : Tid) (w : IWord)
  /-- V_EXTR (R493). -/
  | vExtr (t : Tid) (w : IWord)
  /-- V_LANEID (R493). -/
  | vLaneid (t : Tid) (w : IWord)
  /-- V_CVT (R494). -/
  | vCvt (t : Tid) (w : IWord)
  /-- V_IADD (R493). -/
  | vIadd (t : Tid) (w : IWord)
  /-- V_ISUB (R493). -/
  | vIsub (t : Tid) (w : IWord)
  /-- V_IMUL (R493). -/
  | vImul (t : Tid) (w : IWord)
  /-- V_AND (R493). -/
  | vAnd (t : Tid) (w : IWord)
  /-- V_OR (R493). -/
  | vOr (t : Tid) (w : IWord)
  /-- V_XOR (R493). -/
  | vXor (t : Tid) (w : IWord)
  /-- V_SHL (R493). -/
  | vShl (t : Tid) (w : IWord)
  /-- V_SHR (R493). -/
  | vShr (t : Tid) (w : IWord)
  /-- V_SAR (R493). -/
  | vSar (t : Tid) (w : IWord)
  /-- SF_TANH (R241). -/
  | sfTanh (t : Tid) (w : IWord)
  /-- SF_LOGISTIC (R242). -/
  | sfLogistic (t : Tid) (w : IWord)
  /-- SF_EXP2 (R243). -/
  | sfExp2 (t : Tid) (w : IWord)
  /-- SF_RCP (R247). -/
  | sfRcp (t : Tid) (w : IWord)
  /-- SF_RSQRT (R247). -/
  | sfRsqrt (t : Tid) (w : IWord)
  /-- ROW_MAX (R251). -/
  | rowMax (t : Tid) (w : IWord)
  /-- ROW_SUMEXP (R251). -/
  | rowSumexp (t : Tid) (w : IWord)
  /-- ROW_RESCALE (R251). -/
  | rowRescale (t : Tid) (w : IWord)
  /-- ROW_RESCALE_T (R251). -/
  | rowRescaleT (t : Tid) (w : IWord)
  /-- ROW_RMS_PART (R251). -/
  | rowRmsPart (t : Tid) (w : IWord)
  /-- ROW_RMS_FIN (R251). -/
  | rowRmsFin (t : Tid) (w : IWord)
  /-- ATT_BIAS (R409). -/
  | attBias (t : Tid) (w : IWord)
  /-- ATT_KCVT (R415). -/
  | attKcvt (t : Tid) (w : IWord)
  /-- WUPD (R221). -/
  | wupd (t : Tid) (w : IWord)
  /-- WUPD_SR (R226). -/
  | wupdSr (t : Tid) (w : IWord)
  /-- WUPD_ADAM (R222). -/
  | wupdAdam (t : Tid) (w : IWord)
  /-- WUPD_ADAM_SR (R226). -/
  | wupdAdamSr (t : Tid) (w : IWord)
  /-- MMA_OPEN (R136). -/
  | mmaOpen (t : Tid) (w : IWord)
  /-- MMA_CLOSE (R138). -/
  | mmaClose (t : Tid) (w : IWord)
  /-- MMA_LOADW (R145). -/
  | mmaLoadw (t : Tid) (w : IWord)
  /-- MMA_LOADW_T (R174). -/
  | mmaLoadwT (t : Tid) (w : IWord)
  /-- MMA_STREAM (R146). -/
  | mmaStream (t : Tid) (w : IWord)
  /-- MMA_DRAIN (R178). -/
  | mmaDrain (t : Tid) (w : IWord)
  /-- MMA_DRAIN_T (R174). -/
  | mmaDrainT (t : Tid) (w : IWord)
  /-- RAMP_STEP (R173). -/
  | rampStep (c : Cid)
  /-- ARRAY_HOLD_EXPIRY (R171). -/
  | arrayHoldExpiry (c : Cid)
  /-- SHADOW_BANK_FULL (R163). -/
  | shadowBankFull (c : Cid)
  /-- SWAP_TOKEN_ENTER (R164). -/
  | swapTokenEnter (c : Cid)
  /-- SWAP_COMPLETE (R166). -/
  | swapComplete (c : Cid)
  /-- ARRAY_ROW_ENTER (R153). -/
  | arrayRowEnter (c : Cid)
  /-- PASS_COMPLETE (R149). -/
  | passComplete (c : Cid)
  /-- DRAIN_ROW_BEGIN (R183). -/
  | drainRowBegin (c : Cid)
  /-- DRAIN_TILE_CHECK (R214). -/
  | drainTileCheck (c : Cid)
  /-- DRAIN_COMPLETE (R183). -/
  | drainComplete (c : Cid)
  /-- FLIT_TRANSMIT (R314). -/
  | flitTransmit (p : Port)
  /-- FLIT_RECEIVE (R309). -/
  | flitReceive (p : Port) (f : Flit) (r : FecReport)
  /-- GLIDE_WINDOW_TIMEOUT (R114). -/
  | glideWindowTimeout (c : Cid) (w : Fin 8)
  /-- TILE_GLIDE_CTL_WRITE (R127). -/
  | tileGlideCtlWrite (tile : Fin 36) (value : BitVec 64)
  /-- ENGINE_TRANSACTION_COMPLETE (R260). -/
  | engineTransactionComplete (tile : Fin 36) (id : Nat)
  /-- LOCAL_LOAD_RETURN (R261). -/
  | localLoadReturn (t : Tid)
  /-- MAP_ENABLE (R270). -/
  | mapEnable (tier : Tier)
  /-- MAP_DISABLE (R269). -/
  | mapDisable (tier : Tier)
  /-- HASH_KEY_WRITE (R268). -/
  | hashKeyWrite (tier : Tier) (key : BitVec 64)
  /-- REGION_INIT_DONE (R270). -/
  | regionInitDone (tier : Tier) (region : Nat)
  /-- QUEUE_HOT_DETECT (R274). -/
  | queueHotDetect (tier : Tier) (unit : Fin 24) (depth : Fin 257)
  /-- ACT_LIMIT_REACHED (R275). -/
  | actLimitReached (tier : Tier) (unit : Fin 24) (row : Nat)
  /-- DIMM_ACT_ALERT (R275). -/
  | dimmActAlert (unit : Fin 24)
  /-- REFRESH_WINDOW_END (R275). -/
  | refreshWindowEnd (tier : Tier) (unit : Fin 24)
  /-- DRAM_TEMP_REPORT (R276). -/
  | dramTempReport (tier : Tier) (unit : Fin 24) (temp : BitVec 8)
  /-- PATROL_SCRUB_READ (R278). -/
  | patrolScrubRead (line : Nat) (errs : CodeErrors) (inner : BitVec 8) (hours : Nat)
  /-- SCRUB_WRITEBACK (R279). -/
  | scrubWriteback (line : Nat)
  /-- NEAR_COLUMN_REMAP_DONE (R282). -/
  | nearColumnRemapDone (unit : Fin 24)
  /-- PORT_TRAINING_DONE (R303). -/
  | portTrainingDone (p : Port) (info : TrainInfo)
  /-- LANE_LOSS_OF_LOCK (R332). -/
  | laneLossOfLock (p : Port) (lane : Fin 32) (ms : Nat)
  /-- LANE_THRESHOLD_REACHED (R332). -/
  | laneThresholdReached (p : Port) (lanes : BitVec 32)
  /-- PORT_DRAIN_DONE (R332). -/
  | portDrainDone (p : Port)
  /-- PORT_RETRAIN_DONE (R333). -/
  | portRetrainDone (p : Port) (ok : Bool) (peerRetired : BitVec 32)
  /-- PORT_DISABLE (R333). -/
  | portDisable (p : Port)
  /-- PORT_REVIVE (R336). -/
  | portRevive (p : Port)
  /-- TORUS_SEAL (R327). -/
  | torusSeal
  /-- LOAD_REQ (R322). -/
  | loadReq (p : Port) (k : Packet)
  /-- LOAD_RESP (R316). -/
  | loadResp (p : Port) (k : Packet)
  /-- STORE (R319). -/
  | store (p : Port) (k : Packet)
  /-- ATOMIC (R81). -/
  | atomic (p : Port) (k : Packet)
  /-- ATOMIC_RESP (R316). -/
  | atomicResp (p : Port) (k : Packet)
  /-- STATUS (R318). -/
  | status (p : Port) (k : Packet)
  /-- ACK (R321). -/
  | ack (p : Port) (k : Packet)
  /-- NACK (R325). -/
  | nack (p : Port) (k : Packet)
  /-- CLOSE (R318). -/
  | close (p : Port) (k : Packet)
  /-- NOTICE (R334). -/
  | notice (p : Port) (k : Packet)
  /-- BULK (R319). -/
  | bulk (p : Port) (k : Packet)
  /-- ACK_TIMER_EXPIRY (R323). -/
  | ackTimerExpiry (src : ModId) (vc : BitVec 4)
  /-- E2E_RESEND_TIMEOUT (R325). -/
  | e2eResendTimeout (dst : ModId) (vc : BitVec 4)
  /-- FLOW_FAIL (R325). -/
  | flowFail (dst : ModId) (vc : BitVec 4)
  /-- FLOW_REOPEN_WAIT_END (R324). -/
  | flowReopenWaitEnd (dst : ModId) (vc : BitVec 4)
  /-- IDLE_FLOW_CLOSE (R324). -/
  | idleFlowClose (dst : ModId) (vc : BitVec 4)
  /-- RECV_ENTRY_EXPIRY (R324). -/
  | recvEntryExpiry (src : ModId) (vc : BitVec 4)
  /-- CREATE (R377). -/
  | create (k : CmdRef)
  /-- SHARE (R366). -/
  | share (k : CmdRef)
  /-- WHEEL_COPY (R368). -/
  | wheelCopy (k : CmdRef)
  /-- FREE (R371). -/
  | free (k : CmdRef)
  /-- PARK (R373). -/
  | park (k : CmdRef)
  /-- RESUME (R374). -/
  | resume (k : CmdRef)
  /-- PARK_FINISH (R375). -/
  | parkFinish
  /-- POOL_LOW_PREEMPT (R372). -/
  | poolLowPreempt (pool : Fin 16)
  /-- COW_COPY_DONE (R368). -/
  | cowCopyDone
  /-- PAGE_WALK_DONE (R365). -/
  | pageWalkDone (tile : Fin 36)
  /-- FRAME_RECLAIM (R370). -/
  | frameReclaim (rec : BitVec 24)
  /-- KV_ENABLE (R356). -/
  | kvEnable
  /-- KV_CHECK_DONE (R356). -/
  | kvCheckDone
  /-- KV_DISABLE (R357). -/
  | kvDisable
  /-- KV_EVT_TAIL_WRITE (R375). -/
  | kvEvtTailWrite (tail : BitVec 20)
  /-- LAP_ARM (R391). -/
  | lapArm (i : Fin 2)
  /-- LAP_DISARM (R391). -/
  | lapDisarm (i : Fin 2)
  /-- LAPGEO (R391). -/
  | lapgeo (p : Port) (k : Packet)
  /-- LAP (R395). -/
  | lap (p : Port) (k : Packet)
  /-- LAP_SLICE_SEND (R402). -/
  | lapSliceSend (i : Fin 2)
  /-- TBL_LOAD_DONE (R411). -/
  | tblLoadDone (tile : Fin 36)
  /-- TBL_GEN_SWITCH (R412). -/
  | tblGenSwitch (tile : Fin 36)
  /-- RELAY_ENTRY_WRITE (R463). -/
  | relayEntryWrite (h : Fin 1024) (reg : Fin 10) (value : BitVec 64)
  /-- NORM_SET_WRITE (R464). -/
  | normSetWrite (set : Fin 16) (reg : Fin 4) (value : BitVec 64)
  /-- CONTRIB (R450). -/
  | contrib (p : Port) (k : Packet)
  /-- PARTIAL (R443). -/
  | partialSum (p : Port) (k : Packet)
  /-- RESULT (R445). -/
  | result (p : Port) (k : Packet)
  /-- EXPTAB (R445). -/
  | exptab (p : Port) (k : Packet)
  /-- PREPASS (R433). -/
  | prepass (p : Port) (k : Packet)
  /-- NORM (R456). -/
  | norm (p : Port) (k : Packet)
  /-- NORMRES (R457). -/
  | normres (p : Port) (k : Packet)
  /-- RELAY_LOCAL_ACCEPT (R449). -/
  | relayLocalAccept (h : Fin 1024) (slot : Fin 1024) (block : Nat)
  /-- RELAY_BLOCK_SEND (R443). -/
  | relayBlockSend (h : Fin 1024) (block : Nat)
  /-- NOISE_RECORD_WRITE (R458). -/
  | noiseRecordWrite (set : Fin 16)
  /-- NOISE_TAIL_WRITE (R464). -/
  | noiseTailWrite (tail : BitVec 20)
  /-- RELAY_TIMEOUT (R459). -/
  | relayTimeout (h : Fin 1024)
  /-- CXL_PORT_TRAIN (R498). -/
  | cxlPortTrain (q : CxlPort) (mode : Fin 4) (speed : Fin 4) (width : Fin 4) (msix : MsixCtl)
  /-- CXL_PORT_DOWN (R500). -/
  | cxlPortDown (q : CxlPort)
  /-- PORT_RESET (R583). -/
  | portReset (q : CxlPort)
  /-- WINDOW_LOCK (R505). -/
  | windowLock (q : CxlPort) (i : Fin 16)
  /-- HOST_BAR4_ACCESS (R501). -/
  | hostBar4Access (q : CxlPort) (a : Bar4Access)
  /-- STREAM_ENABLE (R507). -/
  | streamEnable (s : Fin 4096)
  /-- STREAM_DISABLE (R531). -/
  | streamDisable (s : Fin 4096)
  /-- STREAM_STOP (R531). -/
  | streamStop (s : Fin 4096)
  /-- STREAM_RESUME (R509). -/
  | streamResume (s : Fin 4096)
  /-- TAIL_LINE_INVALIDATE (R508). -/
  | tailLineInvalidate (s : Fin 4096) (tail : BitVec 32)
  /-- DOORBELL (R508). -/
  | doorbell (s : Fin 4096) (tail : BitVec 32)
  /-- ENTRY_FETCH (R509). -/
  | entryFetch (s : Fin 4096) (entry : BitVec 1024)
  /-- COMMAND_ACCEPT (R520). -/
  | commandAccept (s : Fin 4096)
  /-- JTAIL_WRITE (R520). -/
  | jtailWrite (tail : BitVec 32)
  /-- CPL_HEAD_WRITE (R518). -/
  | cplHeadWrite (s : Fin 4096) (head : BitVec 32)
  /-- LAUNCH (R512). -/
  | launch (k : CmdRef)
  /-- LAUNCH_COMPLETE (R513). -/
  | launchComplete (k : CmdRef)
  /-- COPY (R514). -/
  | copy (k : CmdRef)
  /-- COPY_T (R514). -/
  | copyT (k : CmdRef)
  /-- CAVE (R516). -/
  | cave (k : CmdRef)
  /-- RELAY_SET (R517). -/
  | relaySet (k : CmdRef)
  /-- PISTE_LOAD (R517). -/
  | pisteLoad (k : CmdRef)
  /-- CHECKPOINT_SAVE (R567). -/
  | checkpointSave (k : CmdRef)
  /-- CHECKPOINT_FILL (R568). -/
  | checkpointFill (k : CmdRef)
  /-- INGEST (R541). -/
  | ingest (k : CmdRef)
  /-- LICENCE (R626). -/
  | licence (k : CmdRef)
  /-- BIST (R633). -/
  | bist (k : CmdRef)
  /-- RESYNC (R645). -/
  | resync (k : CmdRef)
  /-- NOP_COMMAND (R511). -/
  | nopCommand (k : CmdRef)
  /-- COMMIT_POINT (R521). -/
  | commitPoint (s : Fin 4096)
  /-- SAMPLE_DISPATCH (R540). -/
  | sampleDispatch
  /-- INGEST_LOG_WRITE (R548). -/
  | ingestLogWrite
  /-- SAMPLE_DONE (R546). -/
  | sampleDone (pipe : Fin 8)
  /-- ING_LOG_TAIL_WRITE (R548). -/
  | ingLogTailWrite (tail : BitVec 20)
  /-- ING_PIPES_EN_WRITE (R550). -/
  | ingPipesEnWrite (en : BitVec 8)
  /-- JOB_ENABLE (R554). -/
  | jobEnable
  /-- JOB_DISABLE (R554). -/
  | jobDisable
  /-- STEP_BEGIN (R555). -/
  | stepBegin (verify : Bool) (step : BitVec 32) (mapGen : BitVec 8)
  /-- STEP_END (R558). -/
  | stepEnd
  /-- STEP_ABORT (R559). -/
  | stepAbort
  /-- JOB_LOSS_WRITE (R560). -/
  | jobLossWrite (t : Tid) (loss : BitVec 64)
  /-- FILL_PLAN_WRITE (R570). -/
  | fillPlanWrite (plan : BitVec 16)
  /-- FLOW_ROUTE_SWITCH (R562). -/
  | flowRouteSwitch (dst : ModId) (vc : BitVec 4)
  /-- STEP_RECORD_WRITE (R564). -/
  | stepRecordWrite
  /-- SREC_TAIL_WRITE (R564). -/
  | srecTailWrite (tail : BitVec 20)
  /-- POWER_GOOD_RISE (R579). -/
  | powerGoodRise (slotId : BitVec 3)
  /-- POWER_GOOD_FALL (R659). -/
  | powerGoodFall
  /-- INPUT_VOLTAGE_LOW (R659). -/
  | inputVoltageLow (mv : BitVec 16)
  /-- SIDEBAND_RESET (R583). -/
  | sidebandReset (us : Nat)
  /-- STAGE0_DONE (R579). -/
  | stage0Done (flashOk : Bool)
  /-- FIRMWARE_SELECT (R618). -/
  | firmwareSelect (a : FwSlot) (b : FwSlot) (lic : Licence) (pend : Licence)
  /-- FW_SLOT_WRITE (R619). -/
  | fwSlotWrite (slotB : Bool) (img : FwSlot)
  /-- STAGE2_START (R579). -/
  | stage2Start (dimms : List (Fin 24 × Dimm)) (tests : List BistResult)
  /-- DRAM_TRAINING_DONE (R263). -/
  | dramTrainingDone (tier : Tier) (unit : Fin 24) (ok : Bool) (c : UnitCond)
  /-- STAGE2_DONE (R581). -/
  | stage2Done
  /-- LIFT_RAIL_CHECK (R596). -/
  | liftRailCheck (bad : BitVec 36) (supply : BitVec 2)
  /-- LIFT_BIST_END (R595). -/
  | liftBistEnd (tests : List BistResult)
  /-- XTAL_DELAY_EXPIRY (R584). -/
  | xtalDelayExpiry
  /-- XTAL_QUAL_WINDOW_END (R584). -/
  | xtalQualWindowEnd (edges : Bool) (count : BitVec 32)
  /-- XTAL_RETRY_TIMER (R584). -/
  | xtalRetryTimer
  /-- XTAL_MONITOR_WINDOW_END (R585). -/
  | xtalMonitorWindowEnd (count : BitVec 32)
  /-- PLL_LOCK (R587). -/
  | pllLock (locked : Bool)
  /-- DOMAIN_RAMP_STEP (R589). -/
  | domainRampStep (d : Fin 8)
  /-- CORE_RATIO_WRITE (R591). -/
  | coreRatioWrite (num : BitVec 16) (den : BitVec 16)
  /-- DROOP_DETECT (R593). -/
  | droopDetect (tile : Fin 36)
  /-- DROOP_RECOVER (R593). -/
  | droopRecover (tile : Fin 36)
  /-- FREQ_COUNT_GATE (R594). -/
  | freqCountGate (d : Fin 8) (count : BitVec 32)
  /-- POWER_CONTROL_TICK (R605). -/
  | powerControlTick (panelW : BitVec 16) (dimmW : BitVec 16) (hottest : BitVec 8)
  /-- TILE_TEMP_TRIP (R606). -/
  | tileTempTrip (tile : Fin 36) (temp : BitVec 8)
  /-- COOLANT_SAMPLE (R606). -/
  | coolantSample (inlet : BitVec 8) (flow : BitVec 16)
  /-- COOLANT_TRIP_TIMER (R606). -/
  | coolantTripTimer
  /-- IIN_LIMIT_REACHED (R607). -/
  | iinLimitReached (da : BitVec 16)
  /-- IIN_LIMIT_CLEAR (R607). -/
  | iinLimitClear (da : BitVec 16)
  /-- BG_SETTING_CHECK (R599). -/
  | bgSettingCheck (u : SettingUnit) (o : UnitCheck)
  /-- QUIET_WINDOW_RETRAIN (R600). -/
  | quietWindowRetrain
  /-- RETRAIN_DONE (R601). -/
  | retrainDone (ok : Bool) (c : UnitCond)
  /-- CPR_REQUEST (R602). -/
  | cprRequest
  /-- RAIL_FAULT (R602). -/
  | railFault
  /-- CPR_RELEASE (R604). -/
  | cprRelease
  /-- COMPUTE_BRINGUP_STEP (R604). -/
  | computeBringupStep
  /-- COMPUTE_BRINGUP_DONE (R604). -/
  | computeBringupDone
  /-- SVN_COMMIT (R620). -/
  | svnCommit
  /-- SVN_FUSE_DONE (R620). -/
  | svnFuseDone
  /-- RNG_HEALTH_TEST (R616). -/
  | rngHealthTest (pass : Bool)
  /-- BIST_GROUP_DONE (R634). -/
  | bistGroupDone (rs : List BistResult)
  /-- WDT_KICK (R631). -/
  | wdtKick (agent : Agent)
  /-- WDT_EXPIRY (R631). -/
  | wdtExpiry
  /-- FW_LOAD_START (R639). -/
  | fwLoadStart
  /-- FWCHUNK (R640). -/
  | fwchunk (p : Port) (k : Packet)
  /-- FWSTATUS (R639). -/
  | fwstatus (p : Port) (k : Packet)
  /-- FW_IMAGE_TIMEOUT (R640). -/
  | fwImageTimeout (src : ModId)
  /-- RESYNC_SNAPSHOT_REFRESH (R641). -/
  | resyncSnapshotRefresh
  /-- MCTP_RESYNC_PAGE (R641). -/
  | mctpResyncPage (page : BitVec 16)
  /-- GET_VERSION (R621). -/
  | getVersion (m : Spdm)
  /-- GET_CAPABILITIES (R621). -/
  | getCapabilities (m : Spdm)
  /-- NEGOTIATE_ALGORITHMS (R621). -/
  | negotiateAlgorithms (m : Spdm)
  /-- GET_DIGESTS (R622). -/
  | getDigests (m : Spdm)
  /-- GET_CERTIFICATE (R622). -/
  | getCertificate (m : Spdm)
  /-- CHALLENGE (R621). -/
  | challenge (m : Spdm)
  /-- GET_MEASUREMENTS (R623). -/
  | getMeasurements (m : Spdm)
  /-- KEY_EXCHANGE (R621). -/
  | keyExchange (m : Spdm)
  /-- FINISH (R621). -/
  | finish (m : Spdm)
  /-- HEARTBEAT (R621). -/
  | heartbeat (m : Spdm)
  /-- KEY_UPDATE (R621). -/
  | keyUpdate (m : Spdm)
  /-- END_SESSION (R621). -/
  | endSession (m : Spdm)
  /-- CABLE_SEATED (R653). -/
  | cableSeated (p : Port) (watts : BitVec 8)
  /-- CABLE_REMOVED (R653). -/
  | cableRemoved (p : Port)
  /-- CABLE_OVERDRAW (R653). -/
  | cableOverdraw (p : Port)
  /-- DIMM_OVERDRAW (R660). -/
  | dimmOverdraw (unit : Fin 24)
  /-- DIMM_OVERDRAW_CLEAR (R660). -/
  | dimmOverdrawClear (unit : Fin 24)
  /-- DIMM_FUSE_OPEN (R660). -/
  | dimmFuseOpen (unit : Fin 24)
  /-- LEAK_DETECT (R662). -/
  | leakDetect
  /-- LEAK_CLEAR (R662). -/
  | leakClear
  /-- I3C_ADDRESS_ASSIGN (R656). -/
  | i3cAddressAssign (addr : BitVec 7)
  /-- TWIN_GRACE_EXPIRY (R451). -/
  | twinGraceExpiry (h : Fin 1024)
  /-- CAVE_SLOT_COPY_DONE (R374). -/
  | caveSlotCopyDone
  /-- DOE_DISCOVERY (R528). -/
  | doeDiscovery (q : CxlPort) (index : BitVec 8)
  /-- CXL_TABLE_ACCESS (R528). -/
  | cxlTableAccess (q : CxlPort) (handle : BitVec 16)
  /-- IDE_KM (R527). -/
  | ideKm (q : CxlPort) (m : IdeKm)
  /-- DVSEC_WRITE (R505). -/
  | dvsecWrite (q : CxlPort) (off : BitVec 12) (value : BitVec 64)
  deriving DecidableEq, Repr

end Sys2Proof
end

