-- ==== Sys2Proof/Decode.lean ====
section
/-! DEFINITION. The command that a word spells by the bits of spec/opcode_table.json: no row of that table gives bits, so a
word spells none. Beside it, the instruction that a word of a thread's program spells by the tables of chapter 11 (R466 to R495). -/

namespace Sys2Proof

/-- The command a word spells: none, since no row gives bits. -/
def decodeTableWord (_nbits _w : Nat) : Option Instr := none

/-- R466, R468: the fields of an instruction word beside its opcode, and the word after it. -/
def IWord.ofWord (w ext : BitVec 64) : IWord :=
  { x := w.getLsbD 8, pred := w.extractLsb' 9 5, mod := w.extractLsb' 14 16, a := w.extractLsb' 30 6, b := w.extractLsb' 36 6,
    c := w.extractLsb' 42 6, d := w.extractLsb' 48 6, imm := w.extractLsb' 54 10, ext := ext }

/-- A row of the opcode tables: the opcode, the MOD bit that tells two rows of one opcode apart, and the instruction. -/
structure OpRow where
  op : Nat
  bit : Option (Nat × Bool) := none
  make : Tid → IWord → Instr

/-- R480: the control unit. -/
def controlRows : List OpRow :=
  [{ op := 0x00, make := .nop }, { op := 0x01, make := .exitThread }, { op := 0x02, make := .br }, { op := 0x03, make := .brz },
   { op := 0x04, make := .brnz }, { op := 0x05, make := .brp }, { op := 0x06, make := .brnp }, { op := 0x07, make := .call },
   { op := 0x08, make := .ret }, { op := 0x09, make := .movi }, { op := 0x10, make := .add }, { op := 0x11, make := .sub },
   { op := 0x12, make := .mul }, { op := 0x13, make := .and }, { op := 0x14, make := .or }, { op := 0x15, make := .xor },
   { op := 0x16, make := .shl }, { op := 0x17, make := .shr }, { op := 0x18, make := .sar }, { op := 0x19, make := .smin }] ++
  [{ op := 0x1A, make := .smax }, { op := 0x1B, make := .umin }, { op := 0x1C, make := .umax }, { op := 0x1D, make := .cmp },
   { op := 0x1E, make := .sel }, { op := 0x1F, make := .pset }, { op := 0x20, make := .pget }, { op := 0x21, make := .dscSet },
   { op := 0x22, make := .dscGet }, { op := 0x23, make := .dscOfs }, { op := 0x28, make := .fenceRel },
   { op := 0x29, make := .fenceAcq }, { op := 0x2A, make := .gate }, { op := 0x2B, make := .phase }, { op := 0x2C, make := .cycRead },
   { op := 0x2D, make := .stRead }, { op := 0x2E, bit := some (0, false), make := .rngSeek },
   { op := 0x2E, bit := some (0, true), make := .rngSeekPos }]

/-- R484: the memory unit. -/
def memoryRows : List OpRow :=
  [{ op := 0x40, make := .ld }, { op := 0x41, make := .ldGlide }, { op := 0x42, make := .st }, { op := 0x43, make := .vld },
   { op := 0x44, make := .vldGlide }, { op := 0x45, make := .vst }, { op := 0x46, make := .dscLd }, { op := 0x47, make := .atom },
   { op := 0x48, make := .atomAddBfx }, { op := 0x50, make := .move }, { op := 0x51, make := .moveT }, { op := 0x52, make := .kvGet },
   { op := 0x53, make := .kvPut }, { op := 0x54, bit := some (1, false), make := .lapPost },
   { op := 0x54, bit := some (1, true), make := .lapPostDiscard }, { op := 0x55, make := .lapSend },
   { op := 0x56, make := .lapSendKv }, { op := 0x58, make := .relArm }, { op := 0x59, make := .relSend },
   { op := 0x5A, make := .relPost }, { op := 0x5B, make := .tblLoad }, { op := 0x5C, make := .tblFence },
   { op := 0x60, make := .barInit }, { op := 0x61, bit := some (0, false), make := .barArrive },
   { op := 0x61, bit := some (0, true), make := .barArriveTx }, { op := 0x62, make := .barWait },
   { op := 0x63, make := .barWaitGlide }]

/-- R492: the vector and special-function unit. -/
def vectorRows : List OpRow :=
  [{ op := 0x80, make := .vAdd }, { op := 0x81, make := .vSub }, { op := 0x82, make := .vMul }, { op := 0x83, make := .vFma },
   { op := 0x84, make := .vMax }, { op := 0x85, make := .vMin }, { op := 0x86, make := .vAbs }, { op := 0x87, make := .vNeg },
   { op := 0x88, make := .vCmp }, { op := 0x89, make := .vSel }, { op := 0x8A, make := .vBcast }, { op := 0x8B, make := .vExtr },
   { op := 0x8C, make := .vLaneid }, { op := 0x8D, make := .vCvt }, { op := 0x90, make := .vIadd }, { op := 0x91, make := .vIsub },
   { op := 0x92, make := .vImul }, { op := 0x93, make := .vAnd }, { op := 0x94, make := .vOr }, { op := 0x95, make := .vXor },
   { op := 0x96, make := .vShl }, { op := 0x97, make := .vShr }, { op := 0x98, make := .vSar }] ++
  [{ op := 0xA0, make := .sfTanh }, { op := 0xA1, make := .sfLogistic }, { op := 0xA2, make := .sfExp2 },
   { op := 0xA3, make := .sfRcp }, { op := 0xA4, make := .sfRsqrt }, { op := 0xA8, make := .rowMax },
   { op := 0xA9, make := .rowSumexp }, { op := 0xAA, make := .rowRescale }, { op := 0xAB, make := .rowRescaleT },
   { op := 0xAC, make := .rowRmsPart }, { op := 0xAD, make := .rowRmsFin }, { op := 0xB0, make := .attBias },
   { op := 0xB1, make := .attKcvt }, { op := 0xB8, bit := some (15, false), make := .wupd },
   { op := 0xB8, bit := some (15, true), make := .wupdSr }, { op := 0xB9, bit := some (15, false), make := .wupdAdam },
   { op := 0xB9, bit := some (15, true), make := .wupdAdamSr }]

/-- R495: the matrix unit. -/
def matrixRows : List OpRow :=
  [{ op := 0xC0, make := .mmaOpen }, { op := 0xC1, make := .mmaClose }, { op := 0xC2, bit := some (0, false), make := .mmaLoadw },
   { op := 0xC2, bit := some (0, true), make := .mmaLoadwT }, { op := 0xC4, make := .mmaStream },
   { op := 0xC6, bit := some (0, false), make := .mmaDrain }, { op := 0xC6, bit := some (0, true), make := .mmaDrainT }]

/-- R466: the table of the unit that bits [7:6] of an opcode name. -/
def opRows (op : Nat) : List OpRow :=
  match op / 64 with
  | 0 => controlRows
  | 1 => memoryRows
  | 2 => vectorRows
  | _ => matrixRows

/-- R466, R480, R484, R492, R495: the instruction of a thread that a word and the word after it spell, whatever its operand fields hold;
none where the opcode is reserved. -/
def decodeWord (t : Tid) (w ext : BitVec 64) : Option Instr :=
  let op := w.toNat % 256
  let i := IWord.ofWord w ext
  ((opRows op).find? (fun r => r.op = op && r.bit.all (fun b => i.mod.getLsbD b.1 = b.2))).map (fun r => r.make t i)

end Sys2Proof
end

