-- ==== Sys2Proof/Config.lean ====
section
/-! DEFINITION. What the spec leaves to fuses, flash, the random source, the outside world or the moment: constants without
a body, so that no proof can see a value of them. A statement that mentions one holds for every value. -/

namespace Sys2Proof.Config

/-- R14, R667: what the fuses hold for the field with this key, once loaded. Log entry 7. -/
opaque fuse : Nat → BitVec 64

/-- R14, R667: what the carrier flash holds for the field with this key, once loaded. Log entry 7. -/
opaque flash : Nat → BitVec 64

/-- A value the spec leaves open at the moment it is produced: the n-th free value of a run. Log entry 2. -/
opaque freeValue : Nat → BitVec 64

/-- R221, R222, R231: what a weight update stores where the spec states no result: the weight (0) or a moment (1 and 2), by the operands
of the element. Log entry 2. -/
opaque openUpdate : Nat → List Nat → BitVec 64

/-- R506, log entry 5: the byte host memory holds at an address of a port, before the module wrote there. -/
opaque hostByte : Nat → Nat → BitVec 8

/-- R635: entry 64 * d + k of the fused defect map is entry k of die d. Log entry 7. -/
opaque fusedDefect : Nat → BitVec 64

/-- R636: how many entries the fused defect map holds for a die, at most 64. Log entry 7. -/
opaque fusedCount : Nat → Fin 65

/-- R617, R624: a P-384 signature verifies under a key of the ROM (0 to 3 the firmware keys, 4 the licence key); the bytes
are the signed record with its signature. Log entry 8. -/
opaque sigOk : Nat → List (BitVec 8) → Bool

/-- R502: the Kensiost vendor ID, which the spec names without its number. Log entry 104. -/
opaque vendorId : BitVec 16

/-- R502: the subsystem ID of a module without a licence. Log entry 104. -/
opaque bareSubsystem : BitVec 16

/-! A sample's bitstream (R533, R534) -/

/-- R533: the profile a stream declares. -/
inductive VideoProfile where
  | main
  | main10
  | high
  | other
  deriving DecidableEq, Repr

/-- R533: how a stream's chroma is sampled. -/
inductive Chroma where
  | mono
  | c420
  | other
  deriving DecidableEq, Repr

/-- R533, R546: what a header of a stream declares: its byte offset, profile, level (ten times its number; for MPEG-2 10 Low to 40
High) and tier, whether its pictures go beyond the level's limits, its bit depth and chroma, and the size of the cropped pictures. -/
structure VideoHead where
  at0 : Nat
  profile : VideoProfile
  level : Nat
  highTier : Bool
  beyond : Bool
  depth : Nat
  chroma : Chroma
  width : Nat
  height : Nat
  deriving DecidableEq, Repr

/-- R534: a decoded picture: its luma row by row, then Cb, then Cr at half the size each way (rounded up), or luma alone. -/
structure Picture where
  head : VideoHead
  samples : List Nat
  deriving DecidableEq, Repr

/-- R534, R546: what decoding gives: does the sample begin with a random access point; the headers met, in decode order; the frames in
display order; the byte offset of a unit in error, where decoding ended; how many bytes it used, and whether it ended for want of more. -/
structure Decoded where
  start : Bool
  heads : List VideoHead
  frames : List Picture
  error : Option Nat
  used : Nat
  starved : Bool
  deriving DecidableEq, Repr, Inhabited

/-- R533, R534: what the standard of a codec (R533's code) says of these bytes, the first of a stream, decoded until the frame of this
number or the end. The standards' own text is not in the spec. Log entry 35. -/
opaque decode : Nat → Nat → List (BitVec 8) → Decoded

/-- R281: how many spare rows a scratchpad has, and how many a vat has; the spec names them without a number. Log entry 9. -/
opaque scratchSpares : Nat

/-- R281: the spare rows of a vat. Log entry 9. -/
opaque vatSpares : Nat

/-- R632, R634: the golden value of a die's LBIST signature (false) or MBIST signature (true), which the ROM holds for the
stepping. Log entry 9. -/
opaque golden : Nat → Bool → BitVec 64

/-- R643: the version of the boot ROM. Log entry 9. -/
opaque romVersion : BitVec 32

/-- R623: the SHA-384 digest of the boot ROM's code, 48 bytes. Log entry 9. -/
opaque romDigest : List (BitVec 8)

/-- R622: the certificate chain in the carrier flash; empty when it cannot be read. Log entry 9. -/
opaque certChain : List (BitVec 8)

/-- R597: the tag of the saved-setting record that the carrier flash holds for a unit, by KIND + UNIT * 16. Log entry 7. -/
opaque savedTag : Nat → BitVec 256

/-- R597: the payload of that record. Log entry 7. -/
opaque savedPayload : Nat → List (BitVec 8)

/-- R597: the version of the payloads that this module writes; their layout is the module's own. Log entry 88. -/
opaque payloadVersion : BitVec 8

/-- R597: the payload that the n-th measurement of a run yields. Log entry 88. -/
opaque measured : Nat → List (BitVec 8)

end Sys2Proof.Config
end

