-- ==== Sys2Proof/Machine/Store.lean ====
section
/-! DEFINITION. Plain-data stores: a sparse map keyed by a number, sorted by key, and byte memory in one canonical form
(addresses rising, no entry equal to the value an unlisted address reads as, which is zero: R270 for DRAM, a DESIGN CHOICE
for SRAM, log entry 4). -/

namespace Sys2Proof.Machine

/-- A sparse map: the entries that differ from what an unlisted key gives, by rising key. -/
abbrev SMap (α : Type) := List (Nat × α)

/-- The entry at a key. -/
def SMap.find {α : Type} : SMap α → Nat → Option α
  | [], _ => none
  | (k', v) :: m, k => if k' = k then some v else SMap.find m k

/-- The entry at a key, or a default. -/
def SMap.getD {α : Type} (m : SMap α) (k : Nat) (d : α) : α := (SMap.find m k).getD d

/-- Put an entry at a key, in the place its key has. -/
def SMap.set {α : Type} : SMap α → Nat → α → SMap α
  | [], k, v => [(k, v)]
  | (k', v') :: m, k, v =>
    if k' = k then (k, v) :: m
    else if k < k' then (k, v) :: (k', v') :: m
    else (k', v') :: SMap.set m k v

/-- Remove the entry at a key. -/
def SMap.erase {α : Type} (m : SMap α) (k : Nat) : SMap α := m.filter (fun e => e.1 ≠ k)

/-- Change the entry at a key, if there is one. -/
def SMap.alter {α : Type} (m : SMap α) (k : Nat) (f : α → α) : SMap α :=
  m.map (fun e => if e.1 = k then (e.1, f e.2) else e)

/-- The values held, by rising key. -/
def SMap.vals {α : Type} (m : SMap α) : List α := m.map (·.2)

/-- Byte memory: the bytes that are not zero, by rising address. -/
abbrev Memory := SMap Byte

/-- The byte at an address: zero where none is listed. -/
def Memory.get (m : Memory) (a : Nat) : Byte := SMap.getD m a 0

/-- Write one byte. Writing zero removes the entry, so that equal memories are equal data. -/
def Memory.set (m : Memory) (a : Nat) (b : Byte) : Memory :=
  if b = 0 then SMap.erase m a else SMap.set m a b

/-- Write bytes at rising addresses. -/
def Memory.write (m : Memory) (a : Nat) : List Byte → Memory
  | [] => m
  | b :: bs => Memory.write (m.set a b) (a + 1) bs

/-- Read n bytes at rising addresses. -/
def Memory.read (m : Memory) (a n : Nat) : List Byte := (List.range n).map (fun i => m.get (a + i))

/-- Set every byte of a range to zero. -/
def Memory.clear (m : Memory) (lo n : Nat) : Memory := m.filter (fun e => e.1 < lo ∨ lo + n ≤ e.1)

/-- The keys rise strictly. -/
def SMap.rising {α : Type} : SMap α → Bool
  | [] => true
  | [_] => true
  | (k, _) :: (k', v') :: m => k < k' && SMap.rising ((k', v') :: m)

/-- The canonical form: addresses strictly rising, no zero listed. -/
def Memory.wf (m : Memory) : Bool := SMap.rising m && m.all (fun e => e.2 ≠ 0)

/-- R8: the number that bytes spell, the lowest address first. -/
def leNat : List Byte → Nat
  | [] => 0
  | b :: bs => b.toNat + 256 * leNat bs

/-- R8: the n bytes of a number, the lowest address first. -/
def leBytes : Nat → Nat → List Byte
  | 0, _ => []
  | n + 1, v => BitVec.ofNat 8 v :: leBytes n (v / 256)

/-- R7: bits [lo + len - 1 : lo] of a number. -/
def bits (v lo len : Nat) : Nat := v / 2 ^ lo % 2 ^ len

/-- A number with bits [lo + len - 1 : lo] replaced. -/
def setBits (v lo len x : Nat) : Nat :=
  v % 2 ^ lo + x % 2 ^ len * 2 ^ lo + v / 2 ^ (lo + len) * 2 ^ (lo + len)

/-- Bit i of a number. -/
def bitAt (v i : Nat) : Bool := v / 2 ^ i % 2 = 1

/-- The signed reading of a number of the given width. -/
def signed (width v : Nat) : Int :=
  if v % 2 ^ width < 2 ^ (width - 1) then (v % 2 ^ width : Nat) else (v % 2 ^ width : Nat) - (2 ^ width : Nat)

/-- A Bool as a one-bit number. -/
def b2n (b : Bool) : Nat := if b then 1 else 0

end Sys2Proof.Machine
end

