-- ==== Sys2Proof/Machine/Float.lean ====
section
/-! DEFINITION. Number formats and exact arithmetic (R194 to R209, R220): a code is read as an exact dyadic value, the
operation is carried out exactly, and one rounding to the destination's format follows, to nearest with ties to even. -/

namespace Sys2Proof.Machine

/-- What a code denotes: a NaN (its sign, and its fraction aligned to 23 bits), an infinity, or the finite value
(-1)^neg * m * 2^e, whose sign is kept for zero (R195, R197). -/
inductive Num where
  | nan (neg : Bool) (frac : Nat)
  | inf (neg : Bool)
  | fin (neg : Bool) (m : Nat) (e : Int)
  deriving DecidableEq, Repr

/-- An exact dyadic number m * 2^e. -/
structure Dy where
  m : Int
  e : Int
  deriving DecidableEq, Repr

/-- What a floating-point format has beside finite codes (R195): infinities and NaNs, the single E4M3 NaN, or neither. -/
inductive Specials where
  | ieee | nanOnly | none
  deriving DecidableEq, Repr

/-- A floating-point format of R195: exponent bits, fraction bits, bias and specials. -/
structure FFmt where
  eb : Nat
  mb : Nat
  bias : Int
  sp : Specials
  deriving DecidableEq, Repr

/-- R195: the floating-point formats by their code of R194. -/
def ffmt : Nat → Option FFmt
  | 0 => some ⟨8, 23, 127, .ieee⟩
  | 1 => some ⟨8, 7, 127, .ieee⟩
  | 2 => some ⟨5, 10, 15, .ieee⟩
  | 3 => some ⟨4, 3, 7, .nanOnly⟩
  | 4 => some ⟨5, 2, 15, .ieee⟩
  | 5 => some ⟨3, 2, 3, .none⟩
  | 6 => some ⟨2, 1, 1, .none⟩
  | _ => none

/-- R195: binary32. -/
def fp32 : FFmt := ⟨8, 23, 127, .ieee⟩

/-- R195: BF16. -/
def bf16 : FFmt := ⟨8, 7, 127, .ieee⟩

/-- R194: the width in bits of an element, by format code; codes 0xB to 0xF name none. -/
def fmtWidth (c : Nat) : Nat := [32, 16, 16, 8, 8, 6, 4, 8, 32, 32, 64].getD c 0

/-- R194: a reserved or "none" format code. -/
def fmtBad (c : Nat) : Bool := 11 ≤ c

namespace FFmt

/-- The width of a format. -/
def width (f : FFmt) : Nat := f.eb + f.mb + 1

/-- The sign bit's weight. -/
def signBit (f : FFmt) : Nat := 2 ^ (f.eb + f.mb)

/-- The magnitude code of the largest finite value (R195). -/
def maxFin (f : FFmt) : Nat :=
  match f.sp with
  | .ieee => 2 ^ (f.eb + f.mb) - 2 ^ f.mb - 1
  | .nanOnly => 2 ^ (f.eb + f.mb) - 2
  | .none => 2 ^ (f.eb + f.mb) - 1

/-- The magnitude code of an infinity. -/
def infCode (f : FFmt) : Nat := 2 ^ (f.eb + f.mb) - 2 ^ f.mb

/-- R195: what a code denotes. The fraction of a NaN is aligned at the top, so that a widened FP8-E4M3 NaN keeps its fraction 111 (FP32
0x7FF00000; DESIGN CHOICE, log entry 100: R196 speaks of narrowing alone). -/
def dec (f : FFmt) (c : Nat) : Num :=
  let neg := bitAt c (f.eb + f.mb)
  let ex := bits c f.mb f.eb
  let fr := bits c 0 f.mb
  if f.sp = .ieee ∧ ex = 2 ^ f.eb - 1 then
    if fr = 0 then .inf neg else .nan neg (fr * 2 ^ (23 - f.mb))
  else if f.sp = .nanOnly ∧ ex = 2 ^ f.eb - 1 ∧ fr = 2 ^ f.mb - 1 then .nan neg (fr * 2 ^ (23 - f.mb))
  else if ex = 0 then .fin neg fr (1 - f.bias - f.mb)
  else .fin neg (2 ^ f.mb + fr) (ex - f.bias - f.mb)

/-- R196: the code of a NaN: its sign kept, the upper fraction bits that fit, the quiet bit set. -/
def nanCode (f : FFmt) (neg : Bool) (frac : Nat) : Nat :=
  let s := b2n neg * f.signBit
  match f.sp with
  | .ieee => s + f.infCode + (frac / 2 ^ (23 - f.mb) ||| 2 ^ (f.mb - 1))
  | .nanOnly => s + 2 ^ (f.eb + f.mb) - 1
  | .none => 0

end FFmt

/-- The nearest integer to m * 2^e, ties to even. -/
def rne (m : Nat) (e : Int) : Nat :=
  if 0 ≤ e then m * 2 ^ e.toNat
  else
    let k := (-e).toNat
    let q := m / 2 ^ k
    let r := m % 2 ^ k
    if 2 ^ k < 2 * r ∨ (2 * r = 2 ^ k ∧ q % 2 = 1) then q + 1 else q

/-- The magnitude code nearest to m * 2^e, ties to even (R206), with the exponent range open above: a code beyond maxFin is
an overflow under R195. -/
def FFmt.roundMag (f : FFmt) (m : Nat) (e : Int) : Nat :=
  if m = 0 then 0
  else
    let l : Int := Nat.log2 m + e
    let emin := 1 - f.bias
    if l + 1 < emin - f.mb then 0
    else if f.bias + 2 < l then 4 * f.signBit
    else
      let x := if l < emin then emin else l
      (x - emin).toNat * 2 ^ f.mb + rne m (e - (x - f.mb))

/-- The result of a conversion: the code, and the flags of R235 it raises. -/
structure Conv where
  code : Nat
  ovf : Bool := false
  sat : Bool := false
  lost : Bool := false
  deriving DecidableEq, Repr

/-- R206 to R209: convert to a floating-point format. -/
def FFmt.enc (f : FFmt) (satm : Bool) : Num → Conv
  | .nan neg fr => if f.sp = .none then { code := 0, lost := true } else { code := f.nanCode neg fr }
  | .inf neg =>
    let s := b2n neg * f.signBit
    if satm then { code := s + f.maxFin, sat := true }
    else match f.sp with
      | .ieee => { code := s + f.infCode }
      | .nanOnly => { code := s + f.signBit - 1 }
      | .none => { code := s + f.maxFin }
  | .fin neg m e =>
    let s := b2n neg * f.signBit
    let c := f.roundMag m e
    if c ≤ f.maxFin then { code := s + c }
    else if satm then { code := s + f.maxFin, sat := true }
    else match f.sp with
      | .ieee => { code := s + f.infCode, ovf := true }
      | .nanOnly => { code := s + f.signBit - 1, ovf := true }
      | .none => { code := s + f.maxFin, ovf := true }

/-- Does the magnitude overflow the format under R195? -/
def FFmt.overflows (f : FFmt) (m : Nat) (e : Int) : Bool := f.maxFin < f.roundMag m e

/-- Two's complement of the given width. -/
def toTwos (width : Nat) (v : Int) : Nat := (v % (2 ^ width : Nat)).toNat

/-- R206, R208, R209: convert to a two's-complement integer of the given width. -/
def encInt (width : Nat) (satm : Bool) : Num → Conv
  | .nan _ _ => { code := 0, lost := true }
  | .inf neg =>
    { code := if neg then 2 ^ (width - 1) else 2 ^ (width - 1) - 1, sat := satm }
  | .fin neg m e =>
    if m ≠ 0 ∧ (64 : Int) < Nat.log2 m + e then
      { code := if neg then 2 ^ (width - 1) else 2 ^ (width - 1) - 1, ovf := !satm, sat := satm }
    else
      let n := if m ≠ 0 ∧ Nat.log2 m + e < -2 then 0 else rne m e
      if neg then
        if n ≤ 2 ^ (width - 1) then { code := toTwos width (-(n : Int)) }
        else { code := 2 ^ (width - 1), ovf := !satm, sat := satm }
      else if n < 2 ^ (width - 1) then { code := n }
      else { code := 2 ^ (width - 1) - 1, ovf := !satm, sat := satm }

/-- R204, R205: n * 2^(e - 30), or the BFX NaN. -/
def decBfx (width : Nat) (e : Int) (c : Nat) : Num :=
  if c % 2 ^ width = 2 ^ (width - 1) then .nan false 0x400000
  else
    let n := signed width c
    .fin (n < 0) n.natAbs (e - 30)

/-- R205: the integer nearest to x * 2^(30 - e), or none for a NaN or an infinity. -/
def bfxInt (e : Int) : Num → Option Int
  | .fin neg m ex =>
    let n : Int := if m ≠ 0 ∧ Nat.log2 m + (ex + 30 - e) < -2 then 0 else rne m (ex + 30 - e)
    some (if neg then -n else n)
  | _ => none

/-- R205, R208: convert to a BFX word of the given width, saturating to its symmetric range. An infinity is the BFX NaN (R205), and with
.SAT the largest finite value of its sign (R208 names every destination format; log entry 100). -/
def encBfx (width : Nat) (satm : Bool) (e : Int) (x : Num) : Conv :=
  let lim : Int := (2 ^ (width - 1) : Nat) - 1
  match bfxInt e x with
  | none => match x, satm with
    | .inf neg, true => { code := toTwos width (if neg then -lim else lim), sat := true }
    | _, _ => { code := 2 ^ (width - 1) }
  | some n =>
    if lim < n then { code := toTwos width lim, sat := true }
    else if n < -lim then { code := toTwos width (-lim), sat := true }
    else { code := toTwos width n }

/-- What an element code of a format denotes (R194, R195, R200, R204). The exponent is that of a BFX block. -/
def decFmt (fmt : Nat) (bfxE : Int) (c : Nat) : Num :=
  match ffmt fmt with
  | some f => f.dec c
  | none =>
    if fmt = 7 then let v := signed 8 c; .fin (v < 0) v.natAbs 0
    else if fmt = 8 then let v := signed 32 c; .fin (v < 0) v.natAbs 0
    else if fmt = 9 then decBfx 32 bfxE c
    else decBfx 64 bfxE c

/-- R205 to R209: convert a value to a format. -/
def encFmt (fmt : Nat) (satm : Bool) (bfxE : Int) (x : Num) : Conv :=
  match ffmt fmt with
  | some f => f.enc satm x
  | none =>
    if fmt = 7 then encInt 8 satm x
    else if fmt = 8 then encInt 32 satm x
    else if fmt = 9 then encBfx 32 satm bfxE x
    else encBfx 64 satm bfxE x

/-- R200: multiply a value by 2^k. -/
def Num.scale (k : Int) : Num → Num
  | .fin neg m e => .fin neg m (e + k)
  | x => x

/-- The exact value of a finite number. -/
def Num.dy : Num → Dy
  | .fin neg m e => ⟨if neg then -(m : Int) else m, e⟩
  | _ => ⟨0, 0⟩

/-- Is the value finite? -/
def Num.isFin : Num → Bool
  | .fin _ _ _ => true
  | _ => false

/-- Is the value a NaN? -/
def Num.isNan : Num → Bool
  | .nan _ _ => true
  | _ => false

/-- Is the value an infinity? -/
def Num.isInf : Num → Bool
  | .inf _ => true
  | _ => false

/-- The sign of a value. -/
def Num.neg : Num → Bool
  | .nan s _ => s
  | .inf s => s
  | .fin s _ _ => s

/-- R196: the NaN the module creates, in FP32. -/
def createdNan : Nat := 0x7FC00000

namespace Dy

/-- Exact sum. -/
def add (a b : Dy) : Dy :=
  if a.e ≤ b.e then ⟨a.m + b.m * (2 ^ (b.e - a.e).toNat : Nat), a.e⟩
  else ⟨a.m * (2 ^ (a.e - b.e).toNat : Nat) + b.m, b.e⟩

/-- Exact product. -/
def mul (a b : Dy) : Dy := ⟨a.m * b.m, a.e + b.e⟩

/-- Exact negation. -/
def neg (a : Dy) : Dy := ⟨-a.m, a.e⟩

/-- Zero. -/
def zero : Dy := ⟨0, 0⟩

/-- Exact sum of a list. -/
def sum (l : List Dy) : Dy := l.foldl add zero

/-- Multiply by 2^k. -/
def shift (a : Dy) (k : Int) : Dy := ⟨a.m, a.e + k⟩

/-- a < b. -/
def lt (a b : Dy) : Bool := (a.add b.neg).m < 0

/-- The greatest integer not above the number. -/
def floor (a : Dy) : Int :=
  if 0 ≤ a.e then a.m * (2 ^ a.e.toNat : Nat) else Int.fdiv a.m (2 ^ (-a.e).toNat : Nat)

/-- The number as a value, with the sign of an exact zero supplied. -/
def num (a : Dy) (zeroNeg : Bool) : Num :=
  if a.m = 0 then .fin zeroNeg 0 0 else .fin (a.m < 0) a.m.natAbs a.e

/-- R206: round once to FP32; an exact zero is +0. -/
def rne32 (a : Dy) : Nat := (fp32.enc false (a.num false)).code

end Dy

/-- Exact quotient of two magnitudes to 80 bits beyond the leading one, with a sticky last bit: rounding it once to at most
64 bits gives the correctly rounded quotient. -/
def quot (a b : Dy) : Dy :=
  let k := 80 + Nat.log2 b.m.natAbs
  let num := a.m.natAbs * 2 ^ k
  let q := num / b.m.natAbs
  let s := if num % b.m.natAbs = 0 then 0 else 1
  let v : Int := 2 * q + s
  ⟨if (a.m < 0) = (b.m < 0) then v else -v, a.e - b.e - k - 1⟩

/-- The integer square root, by its binary digits: k digits suffice for n below 4^k. -/
def isqrt : Nat → Nat → Nat
  | 0, _ => 0
  | k + 1, n =>
    let r := 2 * isqrt k (n / 4)
    if (r + 1) * (r + 1) ≤ n then r + 1 else r

/-- The square root of a number not below zero, to more than 80 bits, with a sticky last bit. -/
def sqrtDy (a : Dy) : Dy :=
  let k : Nat := 164 + (if a.e % 2 = 0 then 0 else 1)
  let n := a.m.natAbs * 2 ^ k
  let r := isqrt (Nat.log2 n / 2 + 1) n
  let s := if r * r = n then 0 else 1
  ⟨2 * r + s, (a.e - k) / 2 - 1⟩

/-- R196: quiet the first NaN of a list of FP32 values, if there is one. -/
def firstNan (l : List Num) : Option Nat :=
  match l.find? Num.isNan with
  | some (.nan s f) => some (fp32.nanCode s f)
  | _ => none

/-- FP32 sum of two codes (R493: IEEE 754 binary32, nearest even; R196, R197). Of two NaNs the first operand's is kept: where R156 adds
a group to the running value that is the running value's (DESIGN CHOICE, log entry 100: R156 and R196 name no order there). -/
def f32add (a b : Nat) : Nat :=
  let x := fp32.dec a
  let y := fp32.dec b
  match firstNan [x, y] with
  | some c => c
  | none =>
    if x.isInf then (if y.isInf ∧ x.neg ≠ y.neg then createdNan else a % 2 ^ 32)
    else if y.isInf then b % 2 ^ 32
    else (fp32.enc false ((x.dy.add y.dy).num (x.neg && y.neg && x.dy.m == 0 && y.dy.m == 0))).code

/-- The sign bit flipped, a NaN left alone: the second operand of a subtraction. -/
def f32negOperand (b : Nat) : Nat :=
  if (fp32.dec b).isNan then b else (b % 2 ^ 32) ^^^ 0x80000000

/-- FP32 difference. -/
def f32sub (a b : Nat) : Nat := f32add a (f32negOperand b)

/-- FP32 product. -/
def f32mul (a b : Nat) : Nat :=
  let x := fp32.dec a
  let y := fp32.dec b
  let s := x.neg ^^ y.neg
  match firstNan [x, y] with
  | some c => c
  | none =>
    if x.isInf ∨ y.isInf then
      if (x.isFin ∧ x.dy.m = 0) ∨ (y.isFin ∧ y.dy.m = 0) then createdNan
      else (fp32.enc false (.inf s)).code
    else (fp32.enc false ((x.dy.mul y.dy).num s)).code

/-- FP32 b * c + d, rounded once (R493). -/
def f32fma (b c d : Nat) : Nat :=
  let x := fp32.dec b
  let y := fp32.dec c
  let z := fp32.dec d
  let s := x.neg ^^ y.neg
  match firstNan [x, y, z] with
  | some r => r
  | none =>
    if x.isInf ∨ y.isInf then
      if (x.isFin ∧ x.dy.m = 0) ∨ (y.isFin ∧ y.dy.m = 0) then createdNan
      else if z.isInf ∧ z.neg ≠ s then createdNan
      else (fp32.enc false (.inf s)).code
    else if z.isInf then d % 2 ^ 32
    else
      let p := x.dy.mul y.dy
      (fp32.enc false ((p.add z.dy).num (s && z.neg && p.m == 0 && z.dy.m == 0))).code

/-- Is a finite-or-infinite value below another? Zeros of either sign are equal. -/
def Num.lt (x y : Num) : Bool :=
  match x, y with
  | .nan _ _, _ => false
  | _, .nan _ _ => false
  | .inf s, .inf s' => s && !s'
  | .inf s, .fin _ _ _ => s
  | .fin _ _ _, .inf s => !s
  | x, y => x.dy.lt y.dy

/-- R251: the first NaN met, quieted; +0 above -0; otherwise the larger. -/
def max2 (a b : Nat) : Nat :=
  let x := fp32.dec a
  let y := fp32.dec b
  match firstNan [x, y] with
  | some c => c
  | none =>
    if x.lt y then b % 2 ^ 32
    else if y.lt x then a % 2 ^ 32
    else if x.neg then b % 2 ^ 32 else a % 2 ^ 32

/-- R493: V.MIN, with +0 above -0. -/
def min2 (a b : Nat) : Nat :=
  let x := fp32.dec a
  let y := fp32.dec b
  match firstNan [x, y] with
  | some c => c
  | none =>
    if x.lt y then a % 2 ^ 32
    else if y.lt x then b % 2 ^ 32
    else if x.neg then a % 2 ^ 32 else b % 2 ^ 32

/-- R155, R251: a sum whose exact value is rounded once: NaN and infinity rules of R156, the exact sum otherwise. A sum of
zeros alone is -0 only when every term is -0. -/
def sum32 (l : List Num) : Nat :=
  match firstNan l with
  | some c => c
  | none =>
    if l.any (fun x => x.isInf && !x.neg) then
      (if l.any (fun x => x.isInf && x.neg) then createdNan else 0x7F800000)
    else if l.any (fun x => x.isInf) then 0xFF800000
    else
      let d := Dy.sum (l.map Num.dy)
      (fp32.enc false (d.num (!l.isEmpty && l.all (fun x => x.neg && x.dy.m == 0)))).code

/-- R220: round to the 24-bit significand of WX, to nearest even. -/
def wx (a : Dy) : Dy :=
  if a.m = 0 then Dy.zero
  else
    let l := Nat.log2 a.m.natAbs
    if l < 24 then a
    else
      let n := rne a.m.natAbs (23 - (l : Int))
      ⟨if a.m < 0 then -(n : Int) else n, a.e + l - 23⟩

/-- The floor of the binary logarithm of a magnitude that is not zero. -/
def floorLog2 (a : Dy) : Int := Nat.log2 a.m.natAbs + a.e

/-- R202: emax by format code. -/
def emaxOf (fmt : Nat) : Int := if fmt = 3 then 8 else if fmt = 4 then 15 else if fmt = 5 then 4 else if fmt = 6 then 2 else 6

/-- Clamp to -127 to 127 (R202, R213). -/
def clamp127 (e : Int) : Int := if e < -127 then -127 else if 127 < e then 127 else e

/-- The larger of two magnitudes. -/
def Dy.maxAbs (a b : Dy) : Dy :=
  let a' : Dy := ⟨a.m.natAbs, a.e⟩
  let b' : Dy := ⟨b.m.natAbs, b.e⟩
  if a'.lt b' then b' else a'

/-- R202: the largest magnitude over the finite values. -/
def amaxOf (vs : List Num) : Dy := (vs.filter Num.isFin).foldl (fun a x => a.maxAbs x.dy) Dy.zero

/-- R203: does the block read as NaN in the format: it holds a NaN, or an infinity the format lacks? -/
def blockNan (fmt : Nat) (vs : List Num) : Bool :=
  vs.any Num.isNan || (fmt ≠ 4 && vs.any Num.isInf)

/-- R202, R203, R208: convert a block at exponent e, saturating finite values; an E5M2 infinity keeps its code. Answers the
scale code and the element codes. -/
def blockAt (fmt : Nat) (e : Int) (vs : List Num) : Nat × List Conv :=
  if blockNan fmt vs then (0xFF, vs.map (fun _ => { code := 0 }))
  else ((e + 127).toNat,
    vs.map (fun x => if x.isInf then encFmt fmt false 0 x else encFmt fmt true 0 (x.scale (-e))))

/-- R202, R203: convert a block at its computed scale. -/
def blockComputed (fmt : Nat) (vs : List Num) : Nat × List Conv :=
  let am := amaxOf vs
  blockAt fmt (if am.m = 0 then 0 else clamp127 (floorLog2 am - emaxOf fmt)) vs

/-- R201: the value of an element under a block scale: code 0xFF makes it NaN. -/
def scaled (code : Nat) (x : Num) : Num :=
  if code = 0xFF then .nan false 0x400000 else x.scale ((code : Int) - 127)

/-- R666: one bit of the reflected CRC of IEEE 802.3. -/
def crcBit (r : Nat) : Nat := if r % 2 = 1 then (r / 2) ^^^ 0xEDB88320 else r / 2

/-- R666: one byte enters, least significant bit first. -/
def crcByte (r : Nat) (b : Byte) : Nat :=
  crcBit (crcBit (crcBit (crcBit (crcBit (crcBit (crcBit (crcBit (r ^^^ b.toNat))))))))

/-- R666: the CRC-32 of a list of bytes. -/
def crc32 (l : List Byte) : Nat := (l.foldl crcByte 0xFFFFFFFF) ^^^ 0xFFFFFFFF

/-- R227: one round of the keyed permutation. -/
def permRound (key : Nat) (ab : Nat × Nat) (i : Nat) : Nat × Nat :=
  let k := if i % 2 = 0 then bits key 0 32 else bits key 32 32
  let y := ((ab.2 + k + i * 0x9E3779B9) % 2 ^ 32) * 0xD1B54A33 % 2 ^ 32
  let f := (y * 2 ^ 15 + y / 2 ^ 17) % 2 ^ 32
  (ab.2, ab.1 ^^^ f)

/-- R227: the keyed permutation P of 64-bit words. -/
def permP (key x : Nat) : Nat :=
  let ab := (List.range 8).foldl (permRound key) (bits x 32 32, bits x 0 32)
  ab.1 * 2 ^ 32 + ab.2

end Sys2Proof.Machine
end

