-- ==== Sys2Proof/Machine/Regs.lean ====
section
/-! DEFINITION. The control and status registers: where each one lies (R50 and the offset table of its chapter) and the
fields it has (bits, access code of R12, reset of R14), one named field per row of the spec's field tables. A field's
address is its register's byte offset in the 64 MiB control space, block b at b * 0x10_0000 (R44, R50); the fields of the
Kensiost DVSEC (R505), which lie in the configuration space of each port's function 0, are placed after it at 0x400_0000, a page apart;
the host windows are one set for both (log entry 55). -/

namespace Sys2Proof.Machine

/-- The access codes of R12. -/
inductive Acc where
  | ro | rw | w1c | w1s | wo | lk
  deriving DecidableEq, Repr

/-- The reset column of R14: a number, or a value that fuses or flash supply (R667). -/
inductive Rst where
  | num (n : Nat) | fuse | flash
  deriving DecidableEq, Repr

/-- One register field: its register's offset in control space, its lowest bit, its width, its access and its reset. -/
structure Fld where
  addr : Nat
  lo : Nat
  len : Nat
  acc : Acc
  rst : Rst
  deriving DecidableEq, Repr

/-- The key under which a field's value is held. -/
def Fld.key (f : Fld) : Nat := f.addr * 64 + f.lo

/-- R50: the block of tile t. -/
def tileBlk (t : Nat) : Nat := (0x10 + t) * 0x100000

/-- R50: the FAR block and the NEAR block. -/
def tierBlk : Tier → Nat
  | .far => 0x900000
  | .near => 0xA00000

/-- Every register of the field tables. -/
inductive Reg where
  | MC_PANEL_TILES
  | MC_PANEL_DIES
  | MC_PANEL_MEM
  | TILE_CORE_MAP (t : Nat)
  | TILE_THREAD_STATUS (t : Nat) (c : Nat) (h : Nat)
  | TILE_GLIDE_CTL (t : Nat)
  | TILE_CORE_CYCLES (t : Nat) (c : Nat)
  | TILE_GLIDE_STAT (t : Nat) (c : Nat)
  | TILE_PHASE_HEAD (t : Nat) (c : Nat)
  | TILE_ARRAY_STAT (t : Nat) (c : Nat)
  | TILE_ARRAY_ROWS (t : Nat) (c : Nat)
  | TILE_ARRAY_COUNT (t : Nat) (c : Nat)
  | TILE_NUM_STAT (t : Nat) (c : Nat)
  | TILE_NUM_COUNT (t : Nat) (c : Nat)
  | TILE_KV_PIN (t : Nat) (c : Nat)
  | TILE_ARRAY_CTL (t : Nat)
  | TILE_NUM_CTL (t : Nat)
  | TILE_SRAM_ECC (t : Nat)
  | TILE_KV_CACHE (t : Nat)
  | TILE_KV_PIN_ME (t : Nat)
  | TILE_ATT_TBL (t : Nat)
  | MC_SF_COEF (i : Nat)
  | MAP_CTL (k : Tier)
  | HASH_KEY (k : Tier)
  | MEM_INIT (k : Tier)
  | ERR_CTL (k : Tier)
  | GUARD (k : Tier)
  | CH_STAT (k : Tier) (u : Nat)
  | CH_ECC (k : Tier) (u : Nat)
  | CH_QDEPTH (k : Tier) (u : Nat)
  | CH_RH (k : Tier) (u : Nat)
  | NEAR_ST_SPARE (u : Nat)
  | JL_P_CTL (p : Nat)
  | JL_P_STAT (p : Nat)
  | JL_P_LANES (p : Nat)
  | JL_P_THRESH (p : Nat)
  | JL_P_COUNT (p : Nat)
  | JL_P_FEC (p : Nat)
  | JL_P_VC (p : Nat) (v : Nat)
  | JL_TORUS
  | JL_SEAL
  | JL_E2E_CTL
  | JL_FLOWS
  | JL_ROUTE_STAT
  | JL_GATEWAY (i : Nat)
  | KV_CTL
  | KV_TABLE
  | KV_TABLE_REC
  | KV_PROT
  | KV_EPOCH
  | KV_EVT
  | KV_EVT_PTR
  | KV_STAT
  | KV_TABLE_RECS
  | KV_POOL_CFG (i : Nat)
  | KV_POOL_STAT (i : Nat)
  | JOB_LAP_CFG (i : Nat)
  | JOB_LAP_STAT (i : Nat)
  | REL_CFG
  | REL_STAT
  | REL_NORM_CTL (i : Nat)
  | REL_NORM_ADDR (i : Nat)
  | REL_NORM_BAR (i : Nat)
  | REL_NORM_SLOTS (i : Nat)
  | REL_NOISE
  | REL_NOISE_PTR
  | REL_RED_CTL (h : Nat)
  | REL_RED_ID (h : Nat)
  | REL_RED_OWN (h : Nat)
  | REL_RED_RING (h : Nat)
  | REL_RED_SLOTS (h : Nat)
  | REL_RED_EXP (h : Nat)
  | REL_RED_ACC (h : Nat)
  | REL_RED_CMPA (h : Nat)
  | REL_RED_STAT (h : Nat)
  | REL_RED_CHK (h : Nat)
  | DVSEC_BAR0 (q : Nat)
  | DVSEC_BAR4 (q : Nat)
  | DVSEC_FAR (q : Nat)
  | DVSEC_WIN (i : Nat)
  | DVSEC_WIN_HPA (i : Nat)
  | HST_PORT_STAT (q : Nat)
  | HST_JRNL_BASE
  | HST_JRNL_PTR
  | HST_IRQ_CTL
  | HST_FLOG_PTR
  | HST_S_CTL (s : Nat)
  | HST_S_CMD (s : Nat)
  | HST_S_CPL (s : Nat)
  | HST_S_LINE (s : Nat)
  | HST_S_STAT (s : Nat)
  | HST_S_SEQ (s : Nat)
  | HST_S_CPLP (s : Nat)
  | HST_S_DB (s : Nat)
  | ING_CTL
  | ING_STAT
  | ING_LOG_BASE
  | ING_LOG_PTR
  | ING_PIPE_STAT (i : Nat)
  | ING_PROF_CROP (j : Nat)
  | ING_PROF_OUT (j : Nat)
  | ING_PROF_M (j : Nat) (m : Nat)
  | JOB_CTL
  | JOB_SEED
  | JOB_STEP
  | JOB_STEP_CMD
  | JOB_LOSS
  | JOB_VERIFY
  | JOB_FILL
  | JOB_PHASE
  | JOB_SREC
  | JOB_SREC_PTR
  | JOB_PHASE_MAP (k : Nat)
  | CLK_ROOT_STATUS
  | CLK_XTAL_CTL
  | CLK_SSC
  | CLK_DOM_CTL (d : Nat)
  | CLK_FCNT (d : Nat)
  | PWR_STAGE
  | PWR_CPR
  | PWR_CAP
  | PWR_IN
  | PWR_STAT
  | PWR_THERM
  | PWR_LIFT
  | PWR_CARRIER
  | PWR_TILE (t : Nat)
  | MC_SET_CTL
  | MC_SET_STAT
  | ID_MODULE
  | ID_SVN
  | ID_RNG
  | ID_CAPS
  | ID_PUB (i : Nat)
  | ID_DIE_LOT (i : Nat)
  | ID_DIE_POS (i : Nat)
  | LIC_STAT
  | LIC_FLOOR
  | LIC_PEND
  | BIST_STAT
  | BIST_QUICK
  | BIST_LSIG (i : Nat)
  | BIST_MSIG (i : Nat)
  | MC_WDT
  | MC_FWB_CTL
  | MC_FWB_SRC
  | MC_FWB_STAT
  | MC_FWB_COUNT
  deriving DecidableEq, Repr

/-- The offset of each register in control space. -/
def Reg.addr : Reg → Nat
  | .MC_PANEL_TILES => 0x100
  | .MC_PANEL_DIES => 0x108
  | .MC_PANEL_MEM => 0x110
  | .TILE_CORE_MAP t => tileBlk t + 0x0
  | .TILE_THREAD_STATUS t c h => tileBlk t + 0x10000 + c * 0x400 + h * 8
  | .TILE_GLIDE_CTL t => tileBlk t + 0x10
  | .TILE_CORE_CYCLES t c => tileBlk t + 0x100 + c * 8
  | .TILE_GLIDE_STAT t c => tileBlk t + 0x180 + c * 8
  | .TILE_PHASE_HEAD t c => tileBlk t + 0x200 + c * 8
  | .TILE_ARRAY_STAT t c => tileBlk t + 0x300 + c * 8
  | .TILE_ARRAY_ROWS t c => tileBlk t + 0x380 + c * 8
  | .TILE_ARRAY_COUNT t c => tileBlk t + 0x400 + c * 8
  | .TILE_NUM_STAT t c => tileBlk t + 0x480 + c * 8
  | .TILE_NUM_COUNT t c => tileBlk t + 0x500 + c * 8
  | .TILE_KV_PIN t c => tileBlk t + 0x580 + c * 8
  | .TILE_ARRAY_CTL t => tileBlk t + 0x20
  | .TILE_NUM_CTL t => tileBlk t + 0x28
  | .TILE_SRAM_ECC t => tileBlk t + 0x38
  | .TILE_KV_CACHE t => tileBlk t + 0x40
  | .TILE_KV_PIN_ME t => tileBlk t + 0x48
  | .TILE_ATT_TBL t => tileBlk t + 0x50
  | .MC_SF_COEF i => 0x2000 + i * 8
  | .MAP_CTL k => tierBlk k + 0xF0000
  | .HASH_KEY k => tierBlk k + 0xF0008
  | .MEM_INIT k => tierBlk k + 0xF0010
  | .ERR_CTL k => tierBlk k + 0xF0018
  | .GUARD k => tierBlk k + 0xF0020
  | .CH_STAT k u => tierBlk k + u * 0x8000 + 0x0
  | .CH_ECC k u => tierBlk k + u * 0x8000 + 0x8
  | .CH_QDEPTH k u => tierBlk k + u * 0x8000 + 0x10
  | .CH_RH k u => tierBlk k + u * 0x8000 + 0x18
  | .NEAR_ST_SPARE u => tierBlk .near + u * 0x8000 + 0x20
  | .JL_P_CTL p => 0x800000 + p * 0x10000
  | .JL_P_STAT p => 0x800008 + p * 0x10000
  | .JL_P_LANES p => 0x800010 + p * 0x10000
  | .JL_P_THRESH p => 0x800018 + p * 0x10000
  | .JL_P_COUNT p => 0x800020 + p * 0x10000
  | .JL_P_FEC p => 0x800028 + p * 0x10000
  | .JL_P_VC p v => 0x800100 + p * 0x10000 + v * 8
  | .JL_TORUS => 0x880000
  | .JL_SEAL => 0x880008
  | .JL_E2E_CTL => 0x880040
  | .JL_FLOWS => 0x880048
  | .JL_ROUTE_STAT => 0x880050
  | .JL_GATEWAY i => 0x880010 + i * 8
  | .KV_CTL => 0xB00000
  | .KV_TABLE => 0xB00008
  | .KV_TABLE_REC => 0xB00010
  | .KV_PROT => 0xB00018
  | .KV_EPOCH => 0xB00020
  | .KV_EVT => 0xB00028
  | .KV_EVT_PTR => 0xB00030
  | .KV_STAT => 0xB00038
  | .KV_TABLE_RECS => 0xB00040
  | .KV_POOL_CFG i => 0xB00100 + i * 16
  | .KV_POOL_STAT i => 0xB00108 + i * 16
  | .JOB_LAP_CFG i => 0xD03000 + i * 8
  | .JOB_LAP_STAT i => 0xD03010 + i * 8
  | .REL_CFG => 0xC00000
  | .REL_STAT => 0xC00008
  | .REL_NORM_CTL i => 0xC00100 + i * 0x40
  | .REL_NORM_ADDR i => 0xC00108 + i * 0x40
  | .REL_NORM_BAR i => 0xC00110 + i * 0x40
  | .REL_NORM_SLOTS i => 0xC00118 + i * 0x40
  | .REL_NOISE => 0xC00800
  | .REL_NOISE_PTR => 0xC00808
  | .REL_RED_CTL h => 0xC10000 + h * 0x80
  | .REL_RED_ID h => 0xC10008 + h * 0x80
  | .REL_RED_OWN h => 0xC10010 + h * 0x80
  | .REL_RED_RING h => 0xC10018 + h * 0x80
  | .REL_RED_SLOTS h => 0xC10020 + h * 0x80
  | .REL_RED_EXP h => 0xC10028 + h * 0x80
  | .REL_RED_ACC h => 0xC10030 + h * 0x80
  | .REL_RED_CMPA h => 0xC10038 + h * 0x80
  | .REL_RED_STAT h => 0xC10040 + h * 0x80
  | .REL_RED_CHK h => 0xC10048 + h * 0x80
  | .DVSEC_BAR0 q => 0x4000008 + q * 0x1000
  | .DVSEC_BAR4 q => 0x4000010 + q * 0x1000
  | .DVSEC_FAR q => 0x4000018 + q * 0x1000
  | .DVSEC_WIN i => 0x4000020 + i * 0x18
  | .DVSEC_WIN_HPA i => 0x4000028 + i * 0x18
  | .HST_PORT_STAT q => 0x600000 + q * 0x100
  | .HST_JRNL_BASE => 0x601000
  | .HST_JRNL_PTR => 0x601008
  | .HST_IRQ_CTL => 0x601010
  | .HST_FLOG_PTR => 0x602000
  | .HST_S_CTL s => 0x640000 + s * 0x40
  | .HST_S_CMD s => 0x640008 + s * 0x40
  | .HST_S_CPL s => 0x640010 + s * 0x40
  | .HST_S_LINE s => 0x640018 + s * 0x40
  | .HST_S_STAT s => 0x640020 + s * 0x40
  | .HST_S_SEQ s => 0x640028 + s * 0x40
  | .HST_S_CPLP s => 0x640030 + s * 0x40
  | .HST_S_DB s => 0x640038 + s * 0x40
  | .ING_CTL => 0x700000
  | .ING_STAT => 0x700008
  | .ING_LOG_BASE => 0x700010
  | .ING_LOG_PTR => 0x700018
  | .ING_PIPE_STAT i => 0x700020 + i * 8
  | .ING_PROF_CROP j => 0x700100 + j * 0x40
  | .ING_PROF_OUT j => 0x700108 + j * 0x40
  | .ING_PROF_M j m => 0x700110 + j * 0x40 + m * 8
  | .JOB_CTL => 0xD00000
  | .JOB_SEED => 0xD00008
  | .JOB_STEP => 0xD00010
  | .JOB_STEP_CMD => 0xD00018
  | .JOB_LOSS => 0xD00020
  | .JOB_VERIFY => 0xD00028
  | .JOB_FILL => 0xD00030
  | .JOB_PHASE => 0xD00038
  | .JOB_SREC => 0xD00040
  | .JOB_SREC_PTR => 0xD00048
  | .JOB_PHASE_MAP k => 0xD00100 + k * 8
  | .CLK_ROOT_STATUS => 0x100000
  | .CLK_XTAL_CTL => 0x100008
  | .CLK_SSC => 0x100010
  | .CLK_DOM_CTL d => 0x100100 + d * 8
  | .CLK_FCNT d => 0x100180 + d * 8
  | .PWR_STAGE => 0x200000
  | .PWR_CPR => 0x200008
  | .PWR_CAP => 0x200010
  | .PWR_IN => 0x200018
  | .PWR_STAT => 0x200020
  | .PWR_THERM => 0x200028
  | .PWR_LIFT => 0x200030
  | .PWR_CARRIER => 0x200038
  | .PWR_TILE t => 0x200100 + t * 8
  | .MC_SET_CTL => 0x300
  | .MC_SET_STAT => 0x308
  | .ID_MODULE => 0x300000
  | .ID_SVN => 0x300008
  | .ID_RNG => 0x300010
  | .ID_CAPS => 0x300018
  | .ID_PUB i => 0x300100 + i * 8
  | .ID_DIE_LOT i => 0x301000 + i * 16
  | .ID_DIE_POS i => 0x301008 + i * 16
  | .LIC_STAT => 0x400000
  | .LIC_FLOOR => 0x400008
  | .LIC_PEND => 0x400010
  | .BIST_STAT => 0x500000
  | .BIST_QUICK => 0x500008
  | .BIST_LSIG i => 0x500100 + i * 16
  | .BIST_MSIG i => 0x500108 + i * 16
  | .MC_WDT => 0x400
  | .MC_FWB_CTL => 0x410
  | .MC_FWB_SRC => 0x418
  | .MC_FWB_STAT => 0x420
  | .MC_FWB_COUNT => 0x428

/-- R587: the numerator of domain d's ratio at its nominal frequency. -/
def clkDomNum (d : Nat) : Nat := [8, 6, 15, 15, 384, 12, 15, 30].getD d 0

/-- R587: the denominator of domain d's ratio at its nominal frequency. -/
def clkDomDen (d : Nat) : Nat := [1, 1, 2, 2, 5, 1, 1, 1].getD d 0

namespace Fd

/-- R53. -/
def MC_PANEL_TILES_TILE_EN : Fld := ⟨(Reg.MC_PANEL_TILES).addr, 0, 36, .ro, .flash⟩
/-- R53. -/
def MC_PANEL_TILES_EXCL_ROW : Fld := ⟨(Reg.MC_PANEL_TILES).addr, 36, 3, .ro, .flash⟩
/-- R53. -/
def MC_PANEL_TILES_TILES_IN_SERVICE : Fld := ⟨(Reg.MC_PANEL_TILES).addr, 40, 8, .ro, .flash⟩
/-- R54. -/
def MC_PANEL_DIES_DIE_UP : Fld := ⟨(Reg.MC_PANEL_DIES).addr, 0, 9, .ro, .num 0x0⟩
/-- R54. -/
def MC_PANEL_DIES_DIE_COMPUTE : Fld := ⟨(Reg.MC_PANEL_DIES).addr, 16, 9, .ro, .num 0x1E0⟩
/-- R55. -/
def MC_PANEL_MEM_NEAR_EN : Fld := ⟨(Reg.MC_PANEL_MEM).addr, 0, 16, .ro, .flash⟩
/-- R55. -/
def MC_PANEL_MEM_FAR_POP : Fld := ⟨(Reg.MC_PANEL_MEM).addr, 16, 24, .ro, .num 0x0⟩
/-- R56. -/
def TILE_CORE_MAP_PHYS_GOOD (t : Nat) : Fld := ⟨(Reg.TILE_CORE_MAP t).addr, 0, 17, .ro, .flash⟩
/-- R56. -/
def TILE_CORE_MAP_DARK_PHYS (t : Nat) : Fld := ⟨(Reg.TILE_CORE_MAP t).addr, 24, 5, .ro, .flash⟩
/-- R56. -/
def TILE_CORE_MAP_FWD_ONLY (t : Nat) : Fld := ⟨(Reg.TILE_CORE_MAP t).addr, 32, 1, .ro, .flash⟩
/-- R70. -/
def TILE_THREAD_STATUS_FAULT (t : Nat) (c : Nat) (h : Nat) : Fld := ⟨(Reg.TILE_THREAD_STATUS t c h).addr, 0, 16, .ro, .num 0x0⟩
/-- R70. -/
def TILE_THREAD_STATUS_STATE (t : Nat) (c : Nat) (h : Nat) : Fld := ⟨(Reg.TILE_THREAD_STATUS t c h).addr, 16, 3, .ro, .num 0⟩
/-- R70. -/
def TILE_THREAD_STATUS_HELD (t : Nat) (c : Nat) (h : Nat) : Fld := ⟨(Reg.TILE_THREAD_STATUS t c h).addr, 19, 1, .ro, .num 0⟩
/-- R70. -/
def TILE_THREAD_STATUS_GLIDE (t : Nat) (c : Nat) (h : Nat) : Fld := ⟨(Reg.TILE_THREAD_STATUS t c h).addr, 20, 8, .ro, .num 0x0⟩
/-- R70. -/
def TILE_THREAD_STATUS_CTRL_GLIDE (t : Nat) (c : Nat) (h : Nat) : Fld := ⟨(Reg.TILE_THREAD_STATUS t c h).addr, 28, 1, .ro, .num 0⟩
/-- R70. -/
def TILE_THREAD_STATUS_FAULT_PC (t : Nat) (c : Nat) (h : Nat) : Fld := ⟨(Reg.TILE_THREAD_STATUS t c h).addr, 40, 24, .ro, .num 0x0⟩
/-- R126. -/
def TILE_GLIDE_CTL_CUT_EN (t : Nat) : Fld := ⟨(Reg.TILE_GLIDE_CTL t).addr, 0, 1, .rw, .num 1⟩
/-- R126. -/
def TILE_GLIDE_CTL_SCALE_EN (t : Nat) : Fld := ⟨(Reg.TILE_GLIDE_CTL t).addr, 1, 1, .rw, .num 1⟩
/-- R126. -/
def TILE_GLIDE_CTL_LAP_EN (t : Nat) : Fld := ⟨(Reg.TILE_GLIDE_CTL t).addr, 2, 1, .rw, .num 1⟩
/-- R126. -/
def TILE_GLIDE_CTL_TIMEOUT (t : Nat) : Fld := ⟨(Reg.TILE_GLIDE_CTL t).addr, 16, 16, .rw, .num 0x2000⟩
/-- R129. -/
def TILE_CORE_CYCLES_CYCLES (t : Nat) (c : Nat) : Fld := ⟨(Reg.TILE_CORE_CYCLES t c).addr, 0, 64, .ro, .num 0⟩
/-- R130. -/
def TILE_GLIDE_STAT_OPENED (t : Nat) (c : Nat) : Fld := ⟨(Reg.TILE_GLIDE_STAT t c).addr, 0, 32, .ro, .num 0⟩
/-- R130. -/
def TILE_GLIDE_STAT_REFUSED (t : Nat) (c : Nat) : Fld := ⟨(Reg.TILE_GLIDE_STAT t c).addr, 32, 32, .ro, .num 0⟩
/-- R131. -/
def TILE_PHASE_HEAD_HEAD (t : Nat) (c : Nat) : Fld := ⟨(Reg.TILE_PHASE_HEAD t c).addr, 0, 8, .ro, .num 0x0⟩
/-- R131. -/
def TILE_PHASE_HEAD_TILE_TAIL (t : Nat) (c : Nat) : Fld := ⟨(Reg.TILE_PHASE_HEAD t c).addr, 8, 8, .rw, .num 0x0⟩
/-- R131. -/
def TILE_PHASE_HEAD_CUR_PHASE (t : Nat) (c : Nat) : Fld := ⟨(Reg.TILE_PHASE_HEAD t c).addr, 16, 8, .ro, .num 0x0⟩
/-- R131. -/
def TILE_PHASE_HEAD_OVERRUN (t : Nat) (c : Nat) : Fld := ⟨(Reg.TILE_PHASE_HEAD t c).addr, 24, 32, .ro, .num 0⟩
/-- R190. -/
def TILE_ARRAY_STAT_HOLDER (t : Nat) (c : Nat) : Fld := ⟨(Reg.TILE_ARRAY_STAT t c).addr, 0, 7, .ro, .num 0x0⟩
/-- R190. -/
def TILE_ARRAY_STAT_LEASED (t : Nat) (c : Nat) : Fld := ⟨(Reg.TILE_ARRAY_STAT t c).addr, 7, 1, .ro, .num 0⟩
/-- R190. -/
def TILE_ARRAY_STAT_QUEUED (t : Nat) (c : Nat) : Fld := ⟨(Reg.TILE_ARRAY_STAT t c).addr, 8, 3, .ro, .num 0⟩
/-- R190. -/
def TILE_ARRAY_STAT_SWAP_PEND (t : Nat) (c : Nat) : Fld := ⟨(Reg.TILE_ARRAY_STAT t c).addr, 11, 1, .ro, .num 0⟩
/-- R190. -/
def TILE_ARRAY_STAT_FRONT_FMT (t : Nat) (c : Nat) : Fld := ⟨(Reg.TILE_ARRAY_STAT t c).addr, 12, 4, .ro, .num 0xF⟩
/-- R190. -/
def TILE_ARRAY_STAT_SHADOW_FMT (t : Nat) (c : Nat) : Fld := ⟨(Reg.TILE_ARRAY_STAT t c).addr, 16, 4, .ro, .num 0xF⟩
/-- R190. -/
def TILE_ARRAY_STAT_RAMP_STATE (t : Nat) (c : Nat) : Fld := ⟨(Reg.TILE_ARRAY_STAT t c).addr, 20, 2, .ro, .num 0⟩
/-- R190. -/
def TILE_ARRAY_STAT_F32_HELD (t : Nat) (c : Nat) : Fld := ⟨(Reg.TILE_ARRAY_STAT t c).addr, 22, 1, .ro, .num 0⟩
/-- R190. -/
def TILE_ARRAY_STAT_INT_SAT (t : Nat) (c : Nat) : Fld := ⟨(Reg.TILE_ARRAY_STAT t c).addr, 23, 1, .w1c, .num 0⟩
/-- R190. -/
def TILE_ARRAY_STAT_COLS_ON (t : Nat) (c : Nat) : Fld := ⟨(Reg.TILE_ARRAY_STAT t c).addr, 24, 8, .ro, .num 0x0⟩
/-- R191. -/
def TILE_ARRAY_ROWS_RETIRED0 (t : Nat) (c : Nat) : Fld := ⟨(Reg.TILE_ARRAY_ROWS t c).addr, 0, 9, .ro, .flash⟩
/-- R191. -/
def TILE_ARRAY_ROWS_RETIRED1 (t : Nat) (c : Nat) : Fld := ⟨(Reg.TILE_ARRAY_ROWS t c).addr, 16, 9, .ro, .flash⟩
/-- R192. -/
def TILE_ARRAY_COUNT_PASSES (t : Nat) (c : Nat) : Fld := ⟨(Reg.TILE_ARRAY_COUNT t c).addr, 0, 32, .ro, .num 0⟩
/-- R192. -/
def TILE_ARRAY_COUNT_RAMPS (t : Nat) (c : Nat) : Fld := ⟨(Reg.TILE_ARRAY_COUNT t c).addr, 32, 32, .ro, .num 0⟩
/-- R235. -/
def TILE_NUM_STAT_CONV_OVF (t : Nat) (c : Nat) : Fld := ⟨(Reg.TILE_NUM_STAT t c).addr, 0, 1, .w1c, .num 0⟩
/-- R235. -/
def TILE_NUM_STAT_CONV_SAT (t : Nat) (c : Nat) : Fld := ⟨(Reg.TILE_NUM_STAT t c).addr, 1, 1, .w1c, .num 0⟩
/-- R235. -/
def TILE_NUM_STAT_NAN_LOST (t : Nat) (c : Nat) : Fld := ⟨(Reg.TILE_NUM_STAT t c).addr, 2, 1, .w1c, .num 0⟩
/-- R235. -/
def TILE_NUM_STAT_SPRED_RETRY (t : Nat) (c : Nat) : Fld := ⟨(Reg.TILE_NUM_STAT t c).addr, 3, 1, .w1c, .num 0⟩
/-- R235. -/
def TILE_NUM_STAT_SPRED_SAT (t : Nat) (c : Nat) : Fld := ⟨(Reg.TILE_NUM_STAT t c).addr, 4, 1, .w1c, .num 0⟩
/-- R235. -/
def TILE_NUM_STAT_UPD_SAT (t : Nat) (c : Nat) : Fld := ⟨(Reg.TILE_NUM_STAT t c).addr, 5, 1, .w1c, .num 0⟩
/-- R235. -/
def TILE_NUM_STAT_UPD_SKIP (t : Nat) (c : Nat) : Fld := ⟨(Reg.TILE_NUM_STAT t c).addr, 6, 1, .w1c, .num 0⟩
/-- R235. -/
def TILE_NUM_STAT_MOM_SAT (t : Nat) (c : Nat) : Fld := ⟨(Reg.TILE_NUM_STAT t c).addr, 7, 1, .w1c, .num 0⟩
/-- R236. -/
def TILE_NUM_COUNT_RETRIES (t : Nat) (c : Nat) : Fld := ⟨(Reg.TILE_NUM_COUNT t c).addr, 0, 32, .ro, .num 0⟩
/-- R236. -/
def TILE_NUM_COUNT_UPD_SKIP (t : Nat) (c : Nat) : Fld := ⟨(Reg.TILE_NUM_COUNT t c).addr, 32, 32, .ro, .num 0⟩
/-- R382. -/
def TILE_KV_PIN_COUNT0 (t : Nat) (c : Nat) : Fld := ⟨(Reg.TILE_KV_PIN t c).addr, 0, 16, .ro, .num 0⟩
/-- R382. -/
def TILE_KV_PIN_COUNT1 (t : Nat) (c : Nat) : Fld := ⟨(Reg.TILE_KV_PIN t c).addr, 16, 16, .ro, .num 0⟩
/-- R382. -/
def TILE_KV_PIN_EPOCH_OLD (t : Nat) (c : Nat) : Fld := ⟨(Reg.TILE_KV_PIN t c).addr, 32, 32, .ro, .num 0⟩
/-- R189. -/
def TILE_ARRAY_CTL_RAMP_LEN (t : Nat) : Fld := ⟨(Reg.TILE_ARRAY_CTL t).addr, 0, 2, .rw, .flash⟩
/-- R189. -/
def TILE_ARRAY_CTL_HOLD (t : Nat) : Fld := ⟨(Reg.TILE_ARRAY_CTL t).addr, 8, 8, .rw, .num 0x10⟩
/-- R234. -/
def TILE_NUM_CTL_SPRED_MARGIN (t : Nat) : Fld := ⟨(Reg.TILE_NUM_CTL t).addr, 0, 2, .rw, .num 0⟩
/-- R299. -/
def TILE_SRAM_ECC_CE (t : Nat) : Fld := ⟨(Reg.TILE_SRAM_ECC t).addr, 0, 32, .ro, .num 0⟩
/-- R299. -/
def TILE_SRAM_ECC_UE (t : Nat) : Fld := ⟨(Reg.TILE_SRAM_ECC t).addr, 32, 16, .ro, .num 0⟩
/-- R299. -/
def TILE_SRAM_ECC_PENDING (t : Nat) : Fld := ⟨(Reg.TILE_SRAM_ECC t).addr, 48, 8, .ro, .num 0⟩
/-- R382. -/
def TILE_KV_CACHE_HITS (t : Nat) : Fld := ⟨(Reg.TILE_KV_CACHE t).addr, 0, 32, .ro, .num 0⟩
/-- R382. -/
def TILE_KV_CACHE_MISSES (t : Nat) : Fld := ⟨(Reg.TILE_KV_CACHE t).addr, 32, 32, .ro, .num 0⟩
/-- R382. -/
def TILE_KV_PIN_ME_EPOCH0 (t : Nat) : Fld := ⟨(Reg.TILE_KV_PIN_ME t).addr, 0, 32, .ro, .num 0⟩
/-- R382. -/
def TILE_KV_PIN_ME_EPOCH1 (t : Nat) : Fld := ⟨(Reg.TILE_KV_PIN_ME t).addr, 32, 32, .ro, .num 0⟩
/-- R422. -/
def TILE_ATT_TBL_GEN (t : Nat) : Fld := ⟨(Reg.TILE_ATT_TBL t).addr, 0, 16, .ro, .num 0x0⟩
/-- R422. -/
def TILE_ATT_TBL_SHADOW_READY (t : Nat) : Fld := ⟨(Reg.TILE_ATT_TBL t).addr, 16, 1, .ro, .num 0⟩
/-- R422. -/
def TILE_ATT_TBL_FENCE_PEND (t : Nat) : Fld := ⟨(Reg.TILE_ATT_TBL t).addr, 17, 1, .ro, .num 0⟩
/-- R422. -/
def TILE_ATT_TBL_OLD_LOOKUPS (t : Nat) : Fld := ⟨(Reg.TILE_ATT_TBL t).addr, 32, 32, .ro, .num 0⟩
/-- R256. -/
def MC_SF_COEF_COEF_EVEN (i : Nat) : Fld := ⟨(Reg.MC_SF_COEF i).addr, 0, 32, .ro, .fuse⟩
/-- R256. -/
def MC_SF_COEF_COEF_ODD (i : Nat) : Fld := ⟨(Reg.MC_SF_COEF i).addr, 32, 32, .ro, .fuse⟩
/-- R289. -/
def MAP_CTL_MAP_EN (k : Tier) : Fld := ⟨(Reg.MAP_CTL k).addr, 0, 1, .rw, .num 0⟩
/-- R289. -/
def MAP_CTL_INIT_DONE (k : Tier) : Fld := ⟨(Reg.MAP_CTL k).addr, 1, 1, .ro, .num 0⟩
/-- R289. -/
def MAP_CTL_UNITS (k : Tier) : Fld := ⟨(Reg.MAP_CTL k).addr, 8, 5, .ro, .num 0⟩
/-- R289. -/
def MAP_CTL_UNIT_GIB (k : Tier) : Fld := ⟨(Reg.MAP_CTL k).addr, 16, 16, .ro, .num 0⟩
/-- R289. -/
def MAP_CTL_REGIONS (k : Tier) : Fld := ⟨(Reg.MAP_CTL k).addr, 32, 16, .ro, .num 0⟩
/-- R290. -/
def HASH_KEY_KEY (k : Tier) : Fld := ⟨(Reg.HASH_KEY k).addr, 0, 64, .wo, .num 0⟩
/-- R291. -/
def MEM_INIT_NEXT (k : Tier) : Fld := ⟨(Reg.MEM_INIT k).addr, 0, 16, .ro, .num 0x0⟩
/-- R291. -/
def MEM_INIT_DONE (k : Tier) : Fld := ⟨(Reg.MEM_INIT k).addr, 16, 16, .ro, .num 0x0⟩
/-- R292. -/
def ERR_CTL_SCRUB_H (k : Tier) : Fld := ⟨(Reg.ERR_CTL k).addr, 0, 8, .rw, .num 24⟩
/-- R292. -/
def ERR_CTL_PERM_COUNT (k : Tier) : Fld := ⟨(Reg.ERR_CTL k).addr, 8, 4, .rw, .num 3⟩
/-- R292. -/
def ERR_CTL_PERM_WINDOW_H (k : Tier) : Fld := ⟨(Reg.ERR_CTL k).addr, 16, 8, .rw, .num 24⟩
/-- R292. -/
def ERR_CTL_HOT_DEPTH (k : Tier) : Fld := ⟨(Reg.ERR_CTL k).addr, 32, 8, .rw, .num 0x18⟩
/-- R292. -/
def ERR_CTL_HOT_TIME_US (k : Tier) : Fld := ⟨(Reg.ERR_CTL k).addr, 48, 8, .rw, .num 100⟩
/-- R293. -/
def GUARD_ACT_LIMIT (k : Tier) : Fld := ⟨(Reg.GUARD k).addr, 0, 16, .rw, .flash⟩
/-- R293. -/
def GUARD_ACT_MAX (k : Tier) : Fld := ⟨(Reg.GUARD k).addr, 16, 16, .ro, .fuse⟩
/-- R293. -/
def GUARD_THR1 (k : Tier) : Fld := ⟨(Reg.GUARD k).addr, 32, 8, .rw, .num 85⟩
/-- R293. -/
def GUARD_THR2 (k : Tier) : Fld := ⟨(Reg.GUARD k).addr, 40, 8, .rw, .num 95⟩
/-- R293. -/
def GUARD_CRIT (k : Tier) : Fld := ⟨(Reg.GUARD k).addr, 48, 8, .ro, .fuse⟩
/-- R294. -/
def CH_STAT_STATE (k : Tier) (u : Nat) : Fld := ⟨(Reg.CH_STAT k u).addr, 0, 3, .ro, .num 0⟩
/-- R294. -/
def CH_STAT_KIND (k : Tier) (u : Nat) : Fld := ⟨(Reg.CH_STAT k u).addr, 3, 3, .ro, .num 0⟩
/-- R294. -/
def CH_STAT_TEMP (k : Tier) (u : Nat) : Fld := ⟨(Reg.CH_STAT k u).addr, 8, 8, .ro, .num 0x0⟩
/-- R294. -/
def CH_STAT_THROTTLE (k : Tier) (u : Nat) : Fld := ⟨(Reg.CH_STAT k u).addr, 16, 2, .ro, .num 0⟩
/-- R294. -/
def CH_STAT_HOT (k : Tier) (u : Nat) : Fld := ⟨(Reg.CH_STAT k u).addr, 18, 1, .w1c, .num 0⟩
/-- R294. -/
def CH_STAT_CRIT_SEEN (k : Tier) (u : Nat) : Fld := ⟨(Reg.CH_STAT k u).addr, 19, 1, .w1c, .num 0⟩
/-- R294. -/
def CH_STAT_SPARE_DEV (k : Tier) (u : Nat) : Fld := ⟨(Reg.CH_STAT k u).addr, 24, 8, .ro, .num 0xFF⟩
/-- R294. -/
def CH_STAT_SIZE_GIB (k : Tier) (u : Nat) : Fld := ⟨(Reg.CH_STAT k u).addr, 32, 16, .ro, .num 0x0⟩
/-- R295. -/
def CH_ECC_CE (k : Tier) (u : Nat) : Fld := ⟨(Reg.CH_ECC k u).addr, 0, 32, .ro, .num 0⟩
/-- R295. -/
def CH_ECC_UE (k : Tier) (u : Nat) : Fld := ⟨(Reg.CH_ECC k u).addr, 32, 16, .ro, .num 0⟩
/-- R295. -/
def CH_ECC_PERM (k : Tier) (u : Nat) : Fld := ⟨(Reg.CH_ECC k u).addr, 48, 8, .ro, .num 0⟩
/-- R295. -/
def CH_ECC_INNER (k : Tier) (u : Nat) : Fld := ⟨(Reg.CH_ECC k u).addr, 56, 8, .ro, .num 0⟩
/-- R296. -/
def CH_QDEPTH_CUR (k : Tier) (u : Nat) : Fld := ⟨(Reg.CH_QDEPTH k u).addr, 0, 9, .ro, .num 0⟩
/-- R296. -/
def CH_QDEPTH_PEAK (k : Tier) (u : Nat) : Fld := ⟨(Reg.CH_QDEPTH k u).addr, 16, 9, .ro, .num 0⟩
/-- R296. -/
def CH_QDEPTH_HOT_EVENTS (k : Tier) (u : Nat) : Fld := ⟨(Reg.CH_QDEPTH k u).addr, 32, 32, .ro, .num 0⟩
/-- R297. -/
def CH_RH_MITIGATIONS (k : Tier) (u : Nat) : Fld := ⟨(Reg.CH_RH k u).addr, 0, 32, .ro, .num 0⟩
/-- R297. -/
def CH_RH_ALERTS (k : Tier) (u : Nat) : Fld := ⟨(Reg.CH_RH k u).addr, 32, 32, .ro, .num 0⟩
/-- R298. -/
def NEAR_ST_SPARE_USED (u : Nat) : Fld := ⟨(Reg.NEAR_ST_SPARE u).addr, 0, 16, .ro, .num 0⟩
/-- R298. -/
def NEAR_ST_SPARE_FREE_MIN (u : Nat) : Fld := ⟨(Reg.NEAR_ST_SPARE u).addr, 16, 4, .ro, .num 8⟩
/-- R298. -/
def NEAR_ST_SPARE_EXHAUSTED (u : Nat) : Fld := ⟨(Reg.NEAR_ST_SPARE u).addr, 20, 1, .w1c, .num 0⟩
/-- R338. -/
def JL_P_CTL_ENABLE (p : Nat) : Fld := ⟨(Reg.JL_P_CTL p).addr, 0, 1, .rw, .num 1⟩
/-- R338. -/
def JL_P_CTL_GEN1_ONLY (p : Nat) : Fld := ⟨(Reg.JL_P_CTL p).addr, 1, 1, .rw, .num 0⟩
/-- R338. -/
def JL_P_CTL_REVIVE (p : Nat) : Fld := ⟨(Reg.JL_P_CTL p).addr, 2, 1, .wo, .num 0⟩
/-- R339. -/
def JL_P_STAT_STATE (p : Nat) : Fld := ⟨(Reg.JL_P_STAT p).addr, 0, 3, .ro, .num 0⟩
/-- R339. -/
def JL_P_STAT_GEN (p : Nat) : Fld := ⟨(Reg.JL_P_STAT p).addr, 3, 2, .ro, .num 0⟩
/-- R339. -/
def JL_P_STAT_WIDTH (p : Nat) : Fld := ⟨(Reg.JL_P_STAT p).addr, 5, 2, .ro, .num 0⟩
/-- R339. -/
def JL_P_STAT_LANESET (p : Nat) : Fld := ⟨(Reg.JL_P_STAT p).addr, 7, 2, .ro, .num 0⟩
/-- R339. -/
def JL_P_STAT_OFTAN (p : Nat) : Fld := ⟨(Reg.JL_P_STAT p).addr, 9, 1, .ro, .num 0⟩
/-- R339. -/
def JL_P_STAT_GATEWAY (p : Nat) : Fld := ⟨(Reg.JL_P_STAT p).addr, 10, 1, .ro, .num 0⟩
/-- R339. -/
def JL_P_STAT_RETRAIN_FAILS (p : Nat) : Fld := ⟨(Reg.JL_P_STAT p).addr, 12, 4, .ro, .num 0⟩
/-- R339. -/
def JL_P_STAT_PEER_ID (p : Nat) : Fld := ⟨(Reg.JL_P_STAT p).addr, 16, 18, .ro, .num 0x0⟩
/-- R339. -/
def JL_P_STAT_PEER_PORT (p : Nat) : Fld := ⟨(Reg.JL_P_STAT p).addr, 34, 3, .ro, .num 0⟩
/-- R340. -/
def JL_P_LANES_RETIRED (p : Nat) : Fld := ⟨(Reg.JL_P_LANES p).addr, 0, 32, .ro, .num 0x0⟩
/-- R340. -/
def JL_P_LANES_LOCKED (p : Nat) : Fld := ⟨(Reg.JL_P_LANES p).addr, 32, 32, .ro, .num 0x0⟩
/-- R341. -/
def JL_P_THRESH_RETRY_LIMIT (p : Nat) : Fld := ⟨(Reg.JL_P_THRESH p).addr, 0, 8, .rw, .num 8⟩
/-- R341. -/
def JL_P_THRESH_RETRY_WIN_MS (p : Nat) : Fld := ⟨(Reg.JL_P_THRESH p).addr, 8, 16, .rw, .num 1000⟩
/-- R341. -/
def JL_P_THRESH_LOL_LIMIT (p : Nat) : Fld := ⟨(Reg.JL_P_THRESH p).addr, 24, 4, .rw, .num 3⟩
/-- R341. -/
def JL_P_THRESH_LOL_WIN_S (p : Nat) : Fld := ⟨(Reg.JL_P_THRESH p).addr, 32, 12, .rw, .num 600⟩
/-- R341. -/
def JL_P_THRESH_RETRAIN_LIMIT (p : Nat) : Fld := ⟨(Reg.JL_P_THRESH p).addr, 44, 4, .rw, .num 2⟩
/-- R342. -/
def JL_P_COUNT_RETRIES (p : Nat) : Fld := ⟨(Reg.JL_P_COUNT p).addr, 0, 32, .ro, .num 0⟩
/-- R342. -/
def JL_P_COUNT_RETRAINS (p : Nat) : Fld := ⟨(Reg.JL_P_COUNT p).addr, 32, 16, .ro, .num 0⟩
/-- R342. -/
def JL_P_COUNT_LANE_RETIRES (p : Nat) : Fld := ⟨(Reg.JL_P_COUNT p).addr, 48, 8, .ro, .num 0⟩
/-- R342. -/
def JL_P_FEC_CORR (p : Nat) : Fld := ⟨(Reg.JL_P_FEC p).addr, 0, 32, .ro, .num 0⟩
/-- R342. -/
def JL_P_FEC_UNCORR (p : Nat) : Fld := ⟨(Reg.JL_P_FEC p).addr, 32, 32, .ro, .num 0⟩
/-- R343. -/
def JL_P_VC_UNACKED (p : Nat) (v : Nat) : Fld := ⟨(Reg.JL_P_VC p v).addr, 0, 24, .ro, .num 0⟩
/-- R343. -/
def JL_P_VC_CREDIT0 (p : Nat) (v : Nat) : Fld := ⟨(Reg.JL_P_VC p v).addr, 24, 6, .ro, .num 0⟩
/-- R343. -/
def JL_P_VC_CREDIT1 (p : Nat) (v : Nat) : Fld := ⟨(Reg.JL_P_VC p v).addr, 32, 6, .ro, .num 0⟩
/-- R343. -/
def JL_P_VC_STOPPED (p : Nat) (v : Nat) : Fld := ⟨(Reg.JL_P_VC p v).addr, 63, 1, .ro, .num 0⟩
/-- R344. -/
def JL_TORUS_MODULE_ID : Fld := ⟨(Reg.JL_TORUS).addr, 0, 18, .lk, .num 0x0⟩
/-- R344. -/
def JL_TORUS_DIM_X : Fld := ⟨(Reg.JL_TORUS).addr, 24, 7, .lk, .num 1⟩
/-- R344. -/
def JL_TORUS_DIM_Y : Fld := ⟨(Reg.JL_TORUS).addr, 32, 7, .lk, .num 1⟩
/-- R344. -/
def JL_TORUS_DIM_Z : Fld := ⟨(Reg.JL_TORUS).addr, 40, 7, .lk, .num 1⟩
/-- R344. -/
def JL_SEAL_SEAL : Fld := ⟨(Reg.JL_SEAL).addr, 0, 1, .w1s, .num 0⟩
/-- R344. -/
def JL_E2E_CTL_TIMEOUT_US : Fld := ⟨(Reg.JL_E2E_CTL).addr, 0, 16, .rw, .num 200⟩
/-- R344. -/
def JL_E2E_CTL_LIMIT_MS : Fld := ⟨(Reg.JL_E2E_CTL).addr, 16, 16, .rw, .num 10000⟩
/-- R344. -/
def JL_FLOWS_SEND_OPEN : Fld := ⟨(Reg.JL_FLOWS).addr, 0, 16, .ro, .num 0⟩
/-- R344. -/
def JL_FLOWS_RECV_OPEN : Fld := ⟨(Reg.JL_FLOWS).addr, 16, 16, .ro, .num 0⟩
/-- R344. -/
def JL_FLOWS_REFUSED_FULL : Fld := ⟨(Reg.JL_FLOWS).addr, 32, 32, .ro, .num 0⟩
/-- R344. -/
def JL_ROUTE_STAT_REROUTES : Fld := ⟨(Reg.JL_ROUTE_STAT).addr, 0, 32, .ro, .num 0⟩
/-- R344. -/
def JL_ROUTE_STAT_DEAD_PORTS : Fld := ⟨(Reg.JL_ROUTE_STAT).addr, 32, 9, .ro, .num 0⟩
/-- R344. -/
def JL_GATEWAY_GW_ID (i : Nat) : Fld := ⟨(Reg.JL_GATEWAY i).addr, 0, 18, .lk, .num 0x0⟩
/-- R344. -/
def JL_GATEWAY_GW_PORT (i : Nat) : Fld := ⟨(Reg.JL_GATEWAY i).addr, 18, 3, .lk, .num 0⟩
/-- R344. -/
def JL_GATEWAY_JOINED (i : Nat) : Fld := ⟨(Reg.JL_GATEWAY i).addr, 24, 1, .lk, .num 0⟩
/-- R380. -/
def KV_CTL_EN : Fld := ⟨(Reg.KV_CTL).addr, 0, 1, .rw, .num 0⟩
/-- R380. -/
def KV_CTL_CHECKING : Fld := ⟨(Reg.KV_CTL).addr, 1, 1, .ro, .num 0⟩
/-- R380. -/
def KV_CTL_CFG_BAD : Fld := ⟨(Reg.KV_CTL).addr, 2, 1, .w1c, .num 0⟩
/-- R380. -/
def KV_CTL_CFG_ERR : Fld := ⟨(Reg.KV_CTL).addr, 16, 24, .ro, .num 0xFFFFFF⟩
/-- R380. -/
def KV_TABLE_DESC_BASE : Fld := ⟨(Reg.KV_TABLE).addr, 6, 40, .rw, .num 0⟩
/-- R380. -/
def KV_TABLE_WHEELS : Fld := ⟨(Reg.KV_TABLE).addr, 47, 17, .rw, .num 0⟩
/-- R380. -/
def KV_TABLE_REC_REC_BASE : Fld := ⟨(Reg.KV_TABLE_REC).addr, 5, 41, .rw, .num 0⟩
/-- R380. -/
def KV_PROT_BASE : Fld := ⟨(Reg.KV_PROT).addr, 12, 34, .rw, .num 0⟩
/-- R380. -/
def KV_PROT_SIZE_MIB : Fld := ⟨(Reg.KV_PROT).addr, 46, 18, .rw, .num 0⟩
/-- R380. -/
def KV_EPOCH_CUR : Fld := ⟨(Reg.KV_EPOCH).addr, 0, 32, .ro, .num 0⟩
/-- R380. -/
def KV_EPOCH_OLDEST : Fld := ⟨(Reg.KV_EPOCH).addr, 32, 32, .ro, .num 0⟩
/-- R380. -/
def KV_EVT_BASE : Fld := ⟨(Reg.KV_EVT).addr, 5, 41, .rw, .num 0⟩
/-- R380. -/
def KV_EVT_VEC : Fld := ⟨(Reg.KV_EVT).addr, 46, 12, .rw, .num 0⟩
/-- R380. -/
def KV_EVT_VEC_EN : Fld := ⟨(Reg.KV_EVT).addr, 58, 1, .rw, .num 0⟩
/-- R380. -/
def KV_EVT_ENTRIES_LOG : Fld := ⟨(Reg.KV_EVT).addr, 59, 5, .rw, .num 0⟩
/-- R380. -/
def KV_EVT_PTR_HEAD : Fld := ⟨(Reg.KV_EVT_PTR).addr, 0, 20, .ro, .num 0⟩
/-- R380. -/
def KV_EVT_PTR_KV_EVT_TAIL : Fld := ⟨(Reg.KV_EVT_PTR).addr, 32, 20, .rw, .num 0⟩
/-- R380. -/
def KV_STAT_PARKS : Fld := ⟨(Reg.KV_STAT).addr, 0, 16, .ro, .num 0⟩
/-- R380. -/
def KV_STAT_RESUMES : Fld := ⟨(Reg.KV_STAT).addr, 16, 16, .ro, .num 0⟩
/-- R380. -/
def KV_STAT_COWS : Fld := ⟨(Reg.KV_STAT).addr, 32, 32, .ro, .num 0⟩
/-- R380. -/
def KV_TABLE_RECS_RECS : Fld := ⟨(Reg.KV_TABLE_RECS).addr, 0, 24, .rw, .num 0⟩
/-- R381. -/
def KV_POOL_CFG_LOC (i : Nat) : Fld := ⟨(Reg.KV_POOL_CFG i).addr, 0, 3, .rw, .num 0⟩
/-- R381. -/
def KV_POOL_CFG_PSIZE (i : Nat) : Fld := ⟨(Reg.KV_POOL_CFG i).addr, 3, 4, .rw, .num 0⟩
/-- R381. -/
def KV_POOL_CFG_ZERO (i : Nat) : Fld := ⟨(Reg.KV_POOL_CFG i).addr, 7, 1, .rw, .num 1⟩
/-- R381. -/
def KV_POOL_CFG_PEN (i : Nat) : Fld := ⟨(Reg.KV_POOL_CFG i).addr, 8, 1, .rw, .num 0⟩
/-- R381. -/
def KV_POOL_CFG_HEAD (i : Nat) : Fld := ⟨(Reg.KV_POOL_CFG i).addr, 16, 24, .rw, .num 0xFFFFFF⟩
/-- R381. -/
def KV_POOL_CFG_LOW (i : Nat) : Fld := ⟨(Reg.KV_POOL_CFG i).addr, 40, 24, .rw, .num 0⟩
/-- R381. -/
def KV_POOL_STAT_FREE (i : Nat) : Fld := ⟨(Reg.KV_POOL_STAT i).addr, 0, 25, .rw, .num 0⟩
/-- R381. -/
def KV_POOL_STAT_EMPTY_HITS (i : Nat) : Fld := ⟨(Reg.KV_POOL_STAT i).addr, 32, 32, .ro, .num 0⟩
/-- R420. -/
def JOB_LAP_CFG_ARM (i : Nat) : Fld := ⟨(Reg.JOB_LAP_CFG i).addr, 0, 1, .rw, .num 0⟩
/-- R420. -/
def JOB_LAP_CFG_RING (i : Nat) : Fld := ⟨(Reg.JOB_LAP_CFG i).addr, 1, 3, .rw, .num 0⟩
/-- R420. -/
def JOB_LAP_CFG_SLICES_M1 (i : Nat) : Fld := ⟨(Reg.JOB_LAP_CFG i).addr, 4, 10, .rw, .num 0⟩
/-- R420. -/
def JOB_LAP_CFG_SLICE_PAGES (i : Nat) : Fld := ⟨(Reg.JOB_LAP_CFG i).addr, 16, 12, .rw, .num 1⟩
/-- R420. -/
def JOB_LAP_CFG_PEER_OK (i : Nat) : Fld := ⟨(Reg.JOB_LAP_CFG i).addr, 32, 1, .ro, .num 0⟩
/-- R420. -/
def JOB_LAP_CFG_MISMATCH (i : Nat) : Fld := ⟨(Reg.JOB_LAP_CFG i).addr, 33, 1, .w1c, .num 0⟩
/-- R421. -/
def JOB_LAP_STAT_LAPS_IN (i : Nat) : Fld := ⟨(Reg.JOB_LAP_STAT i).addr, 0, 24, .ro, .num 0⟩
/-- R421. -/
def JOB_LAP_STAT_LAPS_OUT (i : Nat) : Fld := ⟨(Reg.JOB_LAP_STAT i).addr, 24, 24, .ro, .num 0⟩
/-- R421. -/
def JOB_LAP_STAT_NO_POST (i : Nat) : Fld := ⟨(Reg.JOB_LAP_STAT i).addr, 48, 16, .ro, .num 0⟩
/-- R462. -/
def REL_CFG_TIMEOUT_MS : Fld := ⟨(Reg.REL_CFG).addr, 0, 16, .rw, .num 5000⟩
/-- R462. -/
def REL_CFG_TWIN_GRACE_US : Fld := ⟨(Reg.REL_CFG).addr, 16, 16, .rw, .num 1000⟩
/-- R462. -/
def REL_STAT_STALE : Fld := ⟨(Reg.REL_STAT).addr, 0, 32, .ro, .num 0⟩
/-- R462. -/
def REL_STAT_ATOM_OVF : Fld := ⟨(Reg.REL_STAT).addr, 32, 1, .w1c, .num 0⟩
/-- R462. -/
def REL_STAT_SUSPECT : Fld := ⟨(Reg.REL_STAT).addr, 33, 1, .w1c, .num 0⟩
/-- R464. -/
def REL_NORM_CTL_EN (i : Nat) : Fld := ⟨(Reg.REL_NORM_CTL i).addr, 0, 1, .rw, .num 0⟩
/-- R464. -/
def REL_NORM_CTL_OVF (i : Nat) : Fld := ⟨(Reg.REL_NORM_CTL i).addr, 1, 1, .ro, .num 0⟩
/-- R464. -/
def REL_NORM_CTL_EXPECT_M1 (i : Nat) : Fld := ⟨(Reg.REL_NORM_CTL i).addr, 2, 16, .rw, .num 0⟩
/-- R464. -/
def REL_NORM_CTL_OWNER (i : Nat) : Fld := ⟨(Reg.REL_NORM_CTL i).addr, 30, 18, .rw, .num 0⟩
/-- R464. -/
def REL_NORM_CTL_JOB (i : Nat) : Fld := ⟨(Reg.REL_NORM_CTL i).addr, 48, 16, .rw, .num 0⟩
/-- R464. -/
def REL_NORM_ADDR_RES_ADDR (i : Nat) : Fld := ⟨(Reg.REL_NORM_ADDR i).addr, 0, 46, .rw, .num 0⟩
/-- R464. -/
def REL_NORM_BAR_BAR_ADDR (i : Nat) : Fld := ⟨(Reg.REL_NORM_BAR i).addr, 0, 46, .rw, .num 0⟩
/-- R464. -/
def REL_NORM_SLOTS_NOISE_SLOTS (i : Nat) : Fld := ⟨(Reg.REL_NORM_SLOTS i).addr, 0, 46, .rw, .num 0⟩
/-- R464. -/
def REL_NOISE_BASE : Fld := ⟨(Reg.REL_NOISE).addr, 6, 40, .rw, .num 0⟩
/-- R464. -/
def REL_NOISE_VEC : Fld := ⟨(Reg.REL_NOISE).addr, 46, 12, .rw, .num 0⟩
/-- R464. -/
def REL_NOISE_VEC_EN : Fld := ⟨(Reg.REL_NOISE).addr, 58, 1, .rw, .num 0⟩
/-- R464. -/
def REL_NOISE_ENTRIES_LOG : Fld := ⟨(Reg.REL_NOISE).addr, 59, 5, .rw, .num 0⟩
/-- R464. -/
def REL_NOISE_PTR_HEAD : Fld := ⟨(Reg.REL_NOISE_PTR).addr, 0, 20, .ro, .num 0⟩
/-- R464. -/
def REL_NOISE_PTR_TAIL : Fld := ⟨(Reg.REL_NOISE_PTR).addr, 32, 20, .rw, .num 0⟩
/-- R463. -/
def REL_RED_CTL_STATE (h : Nat) : Fld := ⟨(Reg.REL_RED_CTL h).addr, 0, 3, .ro, .num 0⟩
/-- R463. -/
def REL_RED_CTL_MODE (h : Nat) : Fld := ⟨(Reg.REL_RED_CTL h).addr, 3, 1, .rw, .num 0⟩
/-- R463. -/
def REL_RED_CTL_RESULT (h : Nat) : Fld := ⟨(Reg.REL_RED_CTL h).addr, 4, 2, .rw, .num 0⟩
/-- R463. -/
def REL_RED_CTL_VC (h : Nat) : Fld := ⟨(Reg.REL_RED_CTL h).addr, 6, 4, .rw, .num 4⟩
/-- R463. -/
def REL_RED_CTL_HEADROOM (h : Nat) : Fld := ⟨(Reg.REL_RED_CTL h).addr, 10, 2, .rw, .num 1⟩
/-- R463. -/
def REL_RED_CTL_EXP_SRC (h : Nat) : Fld := ⟨(Reg.REL_RED_CTL h).addr, 12, 1, .rw, .num 1⟩
/-- R463. -/
def REL_RED_CTL_CMP (h : Nat) : Fld := ⟨(Reg.REL_RED_CTL h).addr, 13, 1, .rw, .num 0⟩
/-- R463. -/
def REL_RED_CTL_NORM_EN (h : Nat) : Fld := ⟨(Reg.REL_RED_CTL h).addr, 14, 1, .rw, .num 0⟩
/-- R463. -/
def REL_RED_CTL_NOISE_EN (h : Nat) : Fld := ⟨(Reg.REL_RED_CTL h).addr, 15, 1, .rw, .num 0⟩
/-- R463. -/
def REL_RED_CTL_NORM_SET (h : Nat) : Fld := ⟨(Reg.REL_RED_CTL h).addr, 16, 4, .rw, .num 0⟩
/-- R463. -/
def REL_RED_CTL_GEN (h : Nat) : Fld := ⟨(Reg.REL_RED_CTL h).addr, 20, 8, .rw, .num 0⟩
/-- R463. -/
def REL_RED_CTL_RING (h : Nat) : Fld := ⟨(Reg.REL_RED_CTL h).addr, 28, 3, .rw, .num 0⟩
/-- R463. -/
def REL_RED_CTL_EXP_STALE (h : Nat) : Fld := ⟨(Reg.REL_RED_CTL h).addr, 31, 1, .ro, .num 0⟩
/-- R463. -/
def REL_RED_CTL_FAULT (h : Nat) : Fld := ⟨(Reg.REL_RED_CTL h).addr, 32, 16, .ro, .num 0x0⟩
/-- R463. -/
def REL_RED_CTL_JOB (h : Nat) : Fld := ⟨(Reg.REL_RED_CTL h).addr, 48, 16, .rw, .num 0⟩
/-- R463. -/
def REL_RED_ID_RED (h : Nat) : Fld := ⟨(Reg.REL_RED_ID h).addr, 0, 24, .rw, .num 0⟩
/-- R463. -/
def REL_RED_ID_E (h : Nat) : Fld := ⟨(Reg.REL_RED_ID h).addr, 24, 29, .rw, .num 0⟩
/-- R463. -/
def REL_RED_ID_K_M1 (h : Nat) : Fld := ⟨(Reg.REL_RED_ID h).addr, 54, 10, .rw, .num 0⟩
/-- R463. -/
def REL_RED_OWN_OWNER (h : Nat) : Fld := ⟨(Reg.REL_RED_OWN h).addr, 0, 18, .rw, .num 0⟩
/-- R463. -/
def REL_RED_OWN_P (h : Nat) : Fld := ⟨(Reg.REL_RED_OWN h).addr, 32, 9, .ro, .num 0⟩
/-- R463. -/
def REL_RED_OWN_POS (h : Nat) : Fld := ⟨(Reg.REL_RED_OWN h).addr, 48, 8, .ro, .num 0⟩
/-- R463. -/
def REL_RED_RING_NEXT (h : Nat) : Fld := ⟨(Reg.REL_RED_RING h).addr, 0, 18, .ro, .num 0⟩
/-- R463. -/
def REL_RED_RING_PREV (h : Nat) : Fld := ⟨(Reg.REL_RED_RING h).addr, 32, 18, .ro, .num 0⟩
/-- R463. -/
def REL_RED_SLOTS_SLOT_MAP (h : Nat) : Fld := ⟨(Reg.REL_RED_SLOTS h).addr, 0, 46, .rw, .num 0⟩
/-- R463. -/
def REL_RED_EXP_EXP_ADDR (h : Nat) : Fld := ⟨(Reg.REL_RED_EXP h).addr, 0, 46, .rw, .num 0⟩
/-- R463. -/
def REL_RED_ACC_ACC_ADDR (h : Nat) : Fld := ⟨(Reg.REL_RED_ACC h).addr, 0, 46, .rw, .num 0⟩
/-- R463. -/
def REL_RED_CMPA_CMP_ADDR (h : Nat) : Fld := ⟨(Reg.REL_RED_CMPA h).addr, 0, 46, .rw, .num 0⟩
/-- R463. -/
def REL_RED_STAT_ESCALATED (h : Nat) : Fld := ⟨(Reg.REL_RED_STAT h).addr, 0, 20, .ro, .num 0⟩
/-- R463. -/
def REL_RED_STAT_TWINNED (h : Nat) : Fld := ⟨(Reg.REL_RED_STAT h).addr, 20, 20, .ro, .num 0⟩
/-- R463. -/
def REL_RED_STAT_NANB (h : Nat) : Fld := ⟨(Reg.REL_RED_STAT h).addr, 40, 20, .ro, .num 0⟩
/-- R463. -/
def REL_RED_STAT_SUSPECT (h : Nat) : Fld := ⟨(Reg.REL_RED_STAT h).addr, 60, 1, .ro, .num 0⟩
/-- R463. -/
def REL_RED_CHK_UNCHECKED (h : Nat) : Fld := ⟨(Reg.REL_RED_CHK h).addr, 0, 32, .ro, .num 0⟩
/-- R463. -/
def REL_RED_CHK_MISMATCH (h : Nat) : Fld := ⟨(Reg.REL_RED_CHK h).addr, 32, 32, .ro, .num 0⟩
/-- R505. -/
def DVSEC_BAR0_BAR0_PAGE (q : Nat) : Fld := ⟨(Reg.DVSEC_BAR0 q).addr, 0, 8, .rw, .num 0x0⟩
/-- R505. -/
def DVSEC_BAR4_BAR4_LOG (q : Nat) : Fld := ⟨(Reg.DVSEC_BAR4 q).addr, 0, 6, .rw, .num 30⟩
/-- R505. -/
def DVSEC_FAR_FAR_OFS (q : Nat) : Fld := ⟨(Reg.DVSEC_FAR q).addr, 30, 16, .rw, .num 0⟩
/-- R505. -/
def DVSEC_WIN_LOCAL (i : Nat) : Fld := ⟨(Reg.DVSEC_WIN i).addr, 30, 16, .rw, .num 0⟩
/-- R505. -/
def DVSEC_WIN_SIZE_LOG (i : Nat) : Fld := ⟨(Reg.DVSEC_WIN i).addr, 48, 8, .rw, .num 0⟩
/-- R505. -/
def DVSEC_WIN_PORT (i : Nat) : Fld := ⟨(Reg.DVSEC_WIN i).addr, 56, 2, .rw, .num 0⟩
/-- R505. -/
def DVSEC_WIN_RO (i : Nat) : Fld := ⟨(Reg.DVSEC_WIN i).addr, 58, 1, .rw, .num 0⟩
/-- R505. -/
def DVSEC_WIN_LOCK (i : Nat) : Fld := ⟨(Reg.DVSEC_WIN i).addr, 63, 1, .w1s, .num 0⟩
/-- R505. -/
def DVSEC_WIN_HPA_HPA (i : Nat) : Fld := ⟨(Reg.DVSEC_WIN_HPA i).addr, 12, 52, .rw, .num 0⟩
/-- R530. -/
def HST_PORT_STAT_MODE (q : Nat) : Fld := ⟨(Reg.HST_PORT_STAT q).addr, 0, 2, .ro, .num 0⟩
/-- R530. -/
def HST_PORT_STAT_SPEED (q : Nat) : Fld := ⟨(Reg.HST_PORT_STAT q).addr, 2, 2, .ro, .num 0⟩
/-- R530. -/
def HST_PORT_STAT_WIDTH (q : Nat) : Fld := ⟨(Reg.HST_PORT_STAT q).addr, 4, 2, .ro, .num 0⟩
/-- R530. -/
def HST_PORT_STAT_IDE_ON (q : Nat) : Fld := ⟨(Reg.HST_PORT_STAT q).addr, 6, 1, .ro, .num 0⟩
/-- R530. -/
def HST_PORT_STAT_DOWNS (q : Nat) : Fld := ⟨(Reg.HST_PORT_STAT q).addr, 32, 16, .ro, .num 0⟩
/-- R530. -/
def HST_JRNL_BASE_JBASE : Fld := ⟨(Reg.HST_JRNL_BASE).addr, 5, 41, .rw, .num 0⟩
/-- R530. -/
def HST_JRNL_BASE_ENTRIES_LOG : Fld := ⟨(Reg.HST_JRNL_BASE).addr, 48, 4, .rw, .num 0⟩
/-- R530. -/
def HST_JRNL_PTR_JHEAD : Fld := ⟨(Reg.HST_JRNL_PTR).addr, 0, 32, .ro, .num 0⟩
/-- R530. -/
def HST_JRNL_PTR_JTAIL : Fld := ⟨(Reg.HST_JRNL_PTR).addr, 32, 32, .rw, .num 0⟩
/-- R530. -/
def HST_IRQ_CTL_EVT_PORT : Fld := ⟨(Reg.HST_IRQ_CTL).addr, 0, 1, .rw, .num 0⟩
/-- R530. -/
def HST_IRQ_CTL_FLOG_VEC : Fld := ⟨(Reg.HST_IRQ_CTL).addr, 16, 12, .rw, .num 0⟩
/-- R530. -/
def HST_IRQ_CTL_FLOG_VEC_EN : Fld := ⟨(Reg.HST_IRQ_CTL).addr, 28, 1, .rw, .num 0⟩
/-- R530. -/
def HST_FLOG_PTR_FHEAD : Fld := ⟨(Reg.HST_FLOG_PTR).addr, 0, 8, .ro, .num 0⟩
/-- R530. -/
def HST_FLOG_PTR_FTAIL : Fld := ⟨(Reg.HST_FLOG_PTR).addr, 8, 8, .rw, .num 0⟩
/-- R530. -/
def HST_FLOG_PTR_FOVER : Fld := ⟨(Reg.HST_FLOG_PTR).addr, 32, 32, .ro, .num 0⟩
/-- R531. -/
def HST_S_CTL_EN (s : Nat) : Fld := ⟨(Reg.HST_S_CTL s).addr, 0, 1, .rw, .num 0⟩
/-- R531. -/
def HST_S_CTL_PORT (s : Nat) : Fld := ⟨(Reg.HST_S_CTL s).addr, 1, 1, .rw, .num 0⟩
/-- R531. -/
def HST_S_CTL_STOP (s : Nat) : Fld := ⟨(Reg.HST_S_CTL s).addr, 2, 1, .rw, .num 0⟩
/-- R531. -/
def HST_S_CTL_RESUME (s : Nat) : Fld := ⟨(Reg.HST_S_CTL s).addr, 3, 1, .wo, .num 0⟩
/-- R531. -/
def HST_S_CTL_CMD_LOG (s : Nat) : Fld := ⟨(Reg.HST_S_CTL s).addr, 4, 4, .rw, .num 0⟩
/-- R531. -/
def HST_S_CTL_CPL_LOG (s : Nat) : Fld := ⟨(Reg.HST_S_CTL s).addr, 8, 4, .rw, .num 0⟩
/-- R531. -/
def HST_S_CTL_VEC (s : Nat) : Fld := ⟨(Reg.HST_S_CTL s).addr, 16, 12, .rw, .num 0⟩
/-- R531. -/
def HST_S_CTL_VEC_EN (s : Nat) : Fld := ⟨(Reg.HST_S_CTL s).addr, 28, 1, .rw, .num 0⟩
/-- R531. -/
def HST_S_CMD_CMD_BASE (s : Nat) : Fld := ⟨(Reg.HST_S_CMD s).addr, 7, 39, .rw, .num 0⟩
/-- R531. -/
def HST_S_CPL_CPL_BASE (s : Nat) : Fld := ⟨(Reg.HST_S_CPL s).addr, 5, 41, .rw, .num 0⟩
/-- R531. -/
def HST_S_LINE_TAIL_LINE (s : Nat) : Fld := ⟨(Reg.HST_S_LINE s).addr, 6, 40, .rw, .num 0⟩
/-- R531. -/
def HST_S_STAT_STATE (s : Nat) : Fld := ⟨(Reg.HST_S_STAT s).addr, 0, 3, .ro, .num 0⟩
/-- R531. -/
def HST_S_STAT_LAST_FAULT (s : Nat) : Fld := ⟨(Reg.HST_S_STAT s).addr, 16, 16, .ro, .num 0x0⟩
/-- R531. -/
def HST_S_STAT_REPLAYS (s : Nat) : Fld := ⟨(Reg.HST_S_STAT s).addr, 32, 32, .ro, .num 0⟩
/-- R531. -/
def HST_S_SEQ_ACCEPTED (s : Nat) : Fld := ⟨(Reg.HST_S_SEQ s).addr, 0, 32, .ro, .num 0xFFFFFFFF⟩
/-- R531. -/
def HST_S_SEQ_COMMITTED (s : Nat) : Fld := ⟨(Reg.HST_S_SEQ s).addr, 32, 32, .ro, .num 0xFFFFFFFF⟩
/-- R531. -/
def HST_S_CPLP_CPL_HEAD (s : Nat) : Fld := ⟨(Reg.HST_S_CPLP s).addr, 0, 32, .rw, .num 0⟩
/-- R531. -/
def HST_S_CPLP_COMPLETED (s : Nat) : Fld := ⟨(Reg.HST_S_CPLP s).addr, 32, 32, .ro, .num 0xFFFFFFFF⟩
/-- R531. -/
def HST_S_DB_TAIL (s : Nat) : Fld := ⟨(Reg.HST_S_DB s).addr, 0, 32, .wo, .num 0⟩
/-- R550. -/
def ING_CTL_PIPES_EN : Fld := ⟨(Reg.ING_CTL).addr, 0, 8, .rw, .num 0xFF⟩
/-- R550. -/
def ING_STAT_DELIVERED : Fld := ⟨(Reg.ING_STAT).addr, 0, 32, .ro, .num 0⟩
/-- R550. -/
def ING_STAT_SKIPPED : Fld := ⟨(Reg.ING_STAT).addr, 32, 32, .ro, .num 0⟩
/-- R550. -/
def ING_LOG_BASE_BASE : Fld := ⟨(Reg.ING_LOG_BASE).addr, 5, 41, .rw, .num 0⟩
/-- R550. -/
def ING_LOG_BASE_ENTRIES_LOG : Fld := ⟨(Reg.ING_LOG_BASE).addr, 48, 4, .rw, .num 0⟩
/-- R550. -/
def ING_LOG_PTR_HEAD : Fld := ⟨(Reg.ING_LOG_PTR).addr, 0, 20, .ro, .num 0⟩
/-- R550. -/
def ING_LOG_PTR_TAIL : Fld := ⟨(Reg.ING_LOG_PTR).addr, 32, 20, .rw, .num 0⟩
/-- R550. -/
def ING_PIPE_STAT_STATE (i : Nat) : Fld := ⟨(Reg.ING_PIPE_STAT i).addr, 0, 2, .ro, .num 0⟩
/-- R550. -/
def ING_PIPE_STAT_SAMPLES (i : Nat) : Fld := ⟨(Reg.ING_PIPE_STAT i).addr, 32, 32, .ro, .num 0⟩
/-- R550. -/
def ING_PROF_CROP_X (j : Nat) : Fld := ⟨(Reg.ING_PROF_CROP j).addr, 0, 14, .rw, .num 0⟩
/-- R550. -/
def ING_PROF_CROP_Y (j : Nat) : Fld := ⟨(Reg.ING_PROF_CROP j).addr, 16, 14, .rw, .num 0⟩
/-- R550. -/
def ING_PROF_CROP_W (j : Nat) : Fld := ⟨(Reg.ING_PROF_CROP j).addr, 32, 14, .rw, .num 0⟩
/-- R550. -/
def ING_PROF_CROP_H (j : Nat) : Fld := ⟨(Reg.ING_PROF_CROP j).addr, 48, 14, .rw, .num 0⟩
/-- R550. -/
def ING_PROF_OUT_WO (j : Nat) : Fld := ⟨(Reg.ING_PROF_OUT j).addr, 0, 14, .rw, .num 0⟩
/-- R550. -/
def ING_PROF_OUT_HO (j : Nat) : Fld := ⟨(Reg.ING_PROF_OUT j).addr, 16, 14, .rw, .num 0⟩
/-- R550. -/
def ING_PROF_OUT_PATCH_LOG (j : Nat) : Fld := ⟨(Reg.ING_PROF_OUT j).addr, 32, 2, .rw, .num 0⟩
/-- R550. -/
def ING_PROF_OUT_OFMT (j : Nat) : Fld := ⟨(Reg.ING_PROF_OUT j).addr, 36, 4, .rw, .num 1⟩
/-- R550. -/
def ING_PROF_OUT_FRAMES_M1 (j : Nat) : Fld := ⟨(Reg.ING_PROF_OUT j).addr, 40, 16, .rw, .num 0⟩
/-- R550. -/
def ING_PROF_OUT_FSTEP_M1 (j : Nat) : Fld := ⟨(Reg.ING_PROF_OUT j).addr, 56, 4, .rw, .num 0⟩
/-- R550. -/
def ING_PROF_OUT_VALID (j : Nat) : Fld := ⟨(Reg.ING_PROF_OUT j).addr, 63, 1, .rw, .num 0⟩
/-- R550. -/
def ING_PROF_M_VAL_EVEN (j : Nat) (m : Nat) : Fld := ⟨(Reg.ING_PROF_M j m).addr, 0, 32, .rw, .num 0⟩
/-- R550. -/
def ING_PROF_M_VAL_ODD (j : Nat) (m : Nat) : Fld := ⟨(Reg.ING_PROF_M j m).addr, 32, 32, .rw, .num 0⟩
/-- R577. -/
def JOB_CTL_JOB : Fld := ⟨(Reg.JOB_CTL).addr, 0, 16, .rw, .num 0x0⟩
/-- R577. -/
def JOB_CTL_EN : Fld := ⟨(Reg.JOB_CTL).addr, 16, 1, .rw, .num 0⟩
/-- R577. -/
def JOB_CTL_IDLE_PISTE : Fld := ⟨(Reg.JOB_CTL).addr, 17, 4, .rw, .num 0⟩
/-- R577. -/
def JOB_CTL_MAP_GEN : Fld := ⟨(Reg.JOB_CTL).addr, 24, 8, .rw, .num 0⟩
/-- R577. -/
def JOB_CTL_HOLD : Fld := ⟨(Reg.JOB_CTL).addr, 32, 1, .ro, .num 0⟩
/-- R577. -/
def JOB_SEED_SEED : Fld := ⟨(Reg.JOB_SEED).addr, 0, 64, .rw, .num 0⟩
/-- R577. -/
def JOB_STEP_STEP : Fld := ⟨(Reg.JOB_STEP).addr, 0, 32, .ro, .num 0⟩
/-- R577. -/
def JOB_STEP_STATE : Fld := ⟨(Reg.JOB_STEP).addr, 32, 2, .ro, .num 0⟩
/-- R577. -/
def JOB_STEP_VERIFY : Fld := ⟨(Reg.JOB_STEP).addr, 34, 1, .ro, .num 0⟩
/-- R577. -/
def JOB_STEP_SUSPECT : Fld := ⟨(Reg.JOB_STEP).addr, 35, 1, .ro, .num 0⟩
/-- R577. -/
def JOB_STEP_LOSS_VALID : Fld := ⟨(Reg.JOB_STEP).addr, 36, 1, .ro, .num 0⟩
/-- R577. -/
def JOB_STEP_FAULT : Fld := ⟨(Reg.JOB_STEP).addr, 48, 16, .ro, .num 0x0⟩
/-- R577. -/
def JOB_STEP_CMD_OP : Fld := ⟨(Reg.JOB_STEP_CMD).addr, 0, 3, .wo, .num 0⟩
/-- R577. -/
def JOB_STEP_CMD_VERIFY : Fld := ⟨(Reg.JOB_STEP_CMD).addr, 3, 1, .wo, .num 0⟩
/-- R577. -/
def JOB_STEP_CMD_STEP : Fld := ⟨(Reg.JOB_STEP_CMD).addr, 8, 32, .wo, .num 0⟩
/-- R577. -/
def JOB_STEP_CMD_MAP_GEN : Fld := ⟨(Reg.JOB_STEP_CMD).addr, 40, 8, .wo, .num 0⟩
/-- R577. -/
def JOB_LOSS_LOSS : Fld := ⟨(Reg.JOB_LOSS).addr, 0, 64, .rw, .num 0⟩
/-- R577. -/
def JOB_VERIFY_EXPECT : Fld := ⟨(Reg.JOB_VERIFY).addr, 0, 64, .rw, .num 0⟩
/-- R577. -/
def JOB_FILL_PLAN : Fld := ⟨(Reg.JOB_FILL).addr, 0, 16, .rw, .num 0⟩
/-- R577. -/
def JOB_FILL_PENDING : Fld := ⟨(Reg.JOB_FILL).addr, 16, 16, .ro, .num 0⟩
/-- R577. -/
def JOB_FILL_DONE : Fld := ⟨(Reg.JOB_FILL).addr, 32, 32, .ro, .num 0⟩
/-- R577. -/
def JOB_PHASE_MPHASE : Fld := ⟨(Reg.JOB_PHASE).addr, 0, 8, .ro, .num 0x0⟩
/-- R577. -/
def JOB_PHASE_CUR_PISTE : Fld := ⟨(Reg.JOB_PHASE).addr, 8, 4, .ro, .num 0⟩
/-- R577. -/
def JOB_PHASE_DRAINING : Fld := ⟨(Reg.JOB_PHASE).addr, 12, 1, .ro, .num 0⟩
/-- R577. -/
def JOB_PHASE_PARTICIPANTS : Fld := ⟨(Reg.JOB_PHASE).addr, 32, 10, .ro, .num 0⟩
/-- R577. -/
def JOB_SREC_BASE : Fld := ⟨(Reg.JOB_SREC).addr, 5, 41, .rw, .num 0⟩
/-- R577. -/
def JOB_SREC_ENTRIES_LOG : Fld := ⟨(Reg.JOB_SREC).addr, 48, 4, .rw, .num 0⟩
/-- R577. -/
def JOB_SREC_PTR_HEAD : Fld := ⟨(Reg.JOB_SREC_PTR).addr, 0, 20, .ro, .num 0⟩
/-- R577. -/
def JOB_SREC_PTR_TAIL : Fld := ⟨(Reg.JOB_SREC_PTR).addr, 32, 20, .rw, .num 0⟩
/-- R577. -/
def JOB_PHASE_MAP_PISTE (k : Nat) (i : Nat) : Fld := ⟨(Reg.JOB_PHASE_MAP k).addr, 8 * i, 4, .rw, .num 0⟩
/-- R577. -/
def JOB_PHASE_MAP_SET (k : Nat) (i : Nat) : Fld := ⟨(Reg.JOB_PHASE_MAP k).addr, 8 * i + 4, 1, .rw, .num 0⟩
/-- R610. -/
def CLK_ROOT_STATUS_XTAL_OK : Fld := ⟨(Reg.CLK_ROOT_STATUS).addr, 0, 1, .ro, .num 0⟩
/-- R610. -/
def CLK_ROOT_STATUS_PLL_LOCK : Fld := ⟨(Reg.CLK_ROOT_STATUS).addr, 1, 1, .ro, .num 0⟩
/-- R610. -/
def CLK_ROOT_STATUS_RECOVERY : Fld := ⟨(Reg.CLK_ROOT_STATUS).addr, 2, 1, .ro, .num 0⟩
/-- R610. -/
def CLK_ROOT_STATUS_XTAL_FAILS : Fld := ⟨(Reg.CLK_ROOT_STATUS).addr, 16, 16, .ro, .num 0⟩
/-- R610. -/
def CLK_ROOT_STATUS_IOSC_CAL : Fld := ⟨(Reg.CLK_ROOT_STATUS).addr, 32, 32, .ro, .num 0⟩
/-- R610. -/
def CLK_XTAL_CTL_DELAY_US : Fld := ⟨(Reg.CLK_XTAL_CTL).addr, 0, 21, .rw, .flash⟩
/-- R610. -/
def CLK_SSC_CORE_DEPTH : Fld := ⟨(Reg.CLK_SSC).addr, 0, 4, .rw, .num 0⟩
/-- R610. -/
def CLK_SSC_CORE_RATE : Fld := ⟨(Reg.CLK_SSC).addr, 8, 2, .rw, .num 0⟩
/-- R610. -/
def CLK_SSC_MESH_DEPTH : Fld := ⟨(Reg.CLK_SSC).addr, 16, 4, .rw, .num 0⟩
/-- R610. -/
def CLK_SSC_MESH_RATE : Fld := ⟨(Reg.CLK_SSC).addr, 24, 2, .rw, .num 0⟩
/-- R610 and R587. -/
def CLK_DOM_CTL_NUM (d : Nat) : Fld := ⟨(Reg.CLK_DOM_CTL d).addr, 0, 16, (if d = 0 then .rw else .ro), .num (clkDomNum d)⟩
/-- R610 and R587. -/
def CLK_DOM_CTL_DEN (d : Nat) : Fld := ⟨(Reg.CLK_DOM_CTL d).addr, 16, 16, (if d = 0 then .rw else .ro), .num (clkDomDen d)⟩
/-- R610. -/
def CLK_DOM_CTL_SRC (d : Nat) : Fld := ⟨(Reg.CLK_DOM_CTL d).addr, 32, 1, .ro, .num 0⟩
/-- R610. -/
def CLK_DOM_CTL_RAMPING (d : Nat) : Fld := ⟨(Reg.CLK_DOM_CTL d).addr, 33, 1, .ro, .num 0⟩
/-- R610. -/
def CLK_FCNT_KHZ (d : Nat) : Fld := ⟨(Reg.CLK_FCNT d).addr, 0, 32, .ro, .num 0⟩
/-- R611. -/
def PWR_STAGE_STAGE : Fld := ⟨(Reg.PWR_STAGE).addr, 0, 4, .ro, .num 0⟩
/-- R611. -/
def PWR_STAGE_COMPUTE_UP : Fld := ⟨(Reg.PWR_STAGE).addr, 4, 1, .ro, .num 0⟩
/-- R611. -/
def PWR_STAGE_LIFTS_DONE : Fld := ⟨(Reg.PWR_STAGE).addr, 8, 6, .ro, .num 0x0⟩
/-- R611. -/
def PWR_STAGE_LIFT_FAIL : Fld := ⟨(Reg.PWR_STAGE).addr, 16, 6, .ro, .num 0x0⟩
/-- R611. -/
def PWR_STAGE_STAGE_MS : Fld := ⟨(Reg.PWR_STAGE).addr, 32, 32, .ro, .num 0⟩
/-- R611. -/
def PWR_CPR_REQ : Fld := ⟨(Reg.PWR_CPR).addr, 0, 1, .w1s, .num 0⟩
/-- R611. -/
def PWR_CPR_RELEASE : Fld := ⟨(Reg.PWR_CPR).addr, 1, 1, .w1s, .num 0⟩
/-- R611. -/
def PWR_CPR_AUTO : Fld := ⟨(Reg.PWR_CPR).addr, 2, 1, .rw, .num 1⟩
/-- R611. -/
def PWR_CPR_HELD : Fld := ⟨(Reg.PWR_CPR).addr, 3, 1, .ro, .num 0⟩
/-- R611. -/
def PWR_CPR_CAUSE : Fld := ⟨(Reg.PWR_CPR).addr, 4, 4, .ro, .num 0x0⟩
/-- R611. -/
def PWR_CPR_COUNT : Fld := ⟨(Reg.PWR_CPR).addr, 32, 32, .ro, .num 0⟩
/-- R611. -/
def PWR_CAP_CAP_W : Fld := ⟨(Reg.PWR_CAP).addr, 0, 16, .rw, .flash⟩
/-- R611. -/
def PWR_CAP_CEIL_W : Fld := ⟨(Reg.PWR_CAP).addr, 16, 16, .ro, .fuse⟩
/-- R611. -/
def PWR_CAP_COOL_CAP_W : Fld := ⟨(Reg.PWR_CAP).addr, 32, 16, .rw, .flash⟩
/-- R611. -/
def PWR_IN_VIN_MV : Fld := ⟨(Reg.PWR_IN).addr, 0, 16, .ro, .num 0⟩
/-- R611. -/
def PWR_IN_IIN_DA : Fld := ⟨(Reg.PWR_IN).addr, 16, 16, .ro, .num 0⟩
/-- R611. -/
def PWR_IN_P_PANEL_W : Fld := ⟨(Reg.PWR_IN).addr, 32, 16, .ro, .num 0⟩
/-- R611. -/
def PWR_IN_P_DIMM_W : Fld := ⟨(Reg.PWR_IN).addr, 48, 16, .ro, .num 0⟩
/-- R611. -/
def PWR_STAT_CAPPING : Fld := ⟨(Reg.PWR_STAT).addr, 0, 1, .w1c, .num 0⟩
/-- R611. -/
def PWR_STAT_THROTTLE : Fld := ⟨(Reg.PWR_STAT).addr, 1, 1, .w1c, .num 0⟩
/-- R611. -/
def PWR_STAT_LIMITER : Fld := ⟨(Reg.PWR_STAT).addr, 2, 1, .w1c, .num 0⟩
/-- R611. -/
def PWR_STAT_COOL_LOW : Fld := ⟨(Reg.PWR_STAT).addr, 3, 1, .ro, .num 0⟩
/-- R611. -/
def PWR_STAT_IIN_LIMIT : Fld := ⟨(Reg.PWR_STAT).addr, 4, 1, .w1c, .num 0⟩
/-- R611. -/
def PWR_STAT_CORE_TGT_MHZ : Fld := ⟨(Reg.PWR_STAT).addr, 16, 16, .ro, .num 1500⟩
/-- R611. -/
def PWR_THERM_TJ_THROTTLE : Fld := ⟨(Reg.PWR_THERM).addr, 0, 8, .rw, .num 95⟩
/-- R611. -/
def PWR_THERM_TJ_RESUME : Fld := ⟨(Reg.PWR_THERM).addr, 8, 8, .rw, .num 85⟩
/-- R611. -/
def PWR_THERM_TJ_TRIP : Fld := ⟨(Reg.PWR_THERM).addr, 16, 8, .ro, .fuse⟩
/-- R611. -/
def PWR_THERM_TJ_MAX : Fld := ⟨(Reg.PWR_THERM).addr, 24, 8, .ro, .num 0⟩
/-- R611. -/
def PWR_THERM_INLET_C : Fld := ⟨(Reg.PWR_THERM).addr, 32, 8, .ro, .num 0⟩
/-- R611. -/
def PWR_THERM_FLOW_DLPM : Fld := ⟨(Reg.PWR_THERM).addr, 40, 16, .ro, .num 0⟩
/-- R611. -/
def PWR_LIFT_RAMP_US : Fld := ⟨(Reg.PWR_LIFT).addr, 0, 12, .rw, .flash⟩
/-- R664. -/
def PWR_CARRIER_CAGE_PRES : Fld := ⟨(Reg.PWR_CARRIER).addr, 0, 6, .ro, .num 0x0⟩
/-- R664. -/
def PWR_CARRIER_CAGE_PWR_OFF : Fld := ⟨(Reg.PWR_CARRIER).addr, 6, 6, .ro, .num 0x0⟩
/-- R664. -/
def PWR_CARRIER_CXL_PRES : Fld := ⟨(Reg.PWR_CARRIER).addr, 12, 2, .ro, .num 0⟩
/-- R664. -/
def PWR_CARRIER_SLOT_ID : Fld := ⟨(Reg.PWR_CARRIER).addr, 16, 3, .ro, .num 0⟩
/-- R664. -/
def PWR_CARRIER_LEAK : Fld := ⟨(Reg.PWR_CARRIER).addr, 19, 1, .ro, .num 0⟩
/-- R664. -/
def PWR_CARRIER_DIMM_OFF : Fld := ⟨(Reg.PWR_CARRIER).addr, 24, 24, .ro, .num 0x0⟩
/-- R611. -/
def PWR_TILE_TEMP (t : Nat) : Fld := ⟨(Reg.PWR_TILE t).addr, 0, 8, .ro, .num 0⟩
/-- R611. -/
def PWR_TILE_DROOPS (t : Nat) : Fld := ⟨(Reg.PWR_TILE t).addr, 32, 32, .ro, .num 0⟩
/-- R612. -/
def MC_SET_CTL_TEMP_BAND : Fld := ⟨(Reg.MC_SET_CTL).addr, 0, 8, .rw, .num 10⟩
/-- R612. -/
def MC_SET_CTL_BG_CHECK_EN : Fld := ⟨(Reg.MC_SET_CTL).addr, 8, 1, .rw, .num 1⟩
/-- R612. -/
def MC_SET_CTL_LINK_CORR_PS : Fld := ⟨(Reg.MC_SET_CTL).addr, 16, 16, .rw, .num 1000⟩
/-- R612. -/
def MC_SET_CTL_DRAM_CE_PH : Fld := ⟨(Reg.MC_SET_CTL).addr, 32, 16, .rw, .num 100⟩
/-- R612. -/
def MC_SET_STAT_SAVED : Fld := ⟨(Reg.MC_SET_STAT).addr, 0, 16, .ro, .num 0⟩
/-- R612. -/
def MC_SET_STAT_REJECTED : Fld := ⟨(Reg.MC_SET_STAT).addr, 16, 16, .ro, .num 0⟩
/-- R612. -/
def MC_SET_STAT_RETRAINS : Fld := ⟨(Reg.MC_SET_STAT).addr, 32, 16, .ro, .num 0⟩
/-- R612. -/
def MC_SET_STAT_PENDING : Fld := ⟨(Reg.MC_SET_STAT).addr, 48, 16, .ro, .num 0⟩
/-- R647. -/
def ID_MODULE_SERIAL : Fld := ⟨(Reg.ID_MODULE).addr, 0, 48, .ro, .fuse⟩
/-- R647. -/
def ID_MODULE_GEN : Fld := ⟨(Reg.ID_MODULE).addr, 48, 4, .ro, .fuse⟩
/-- R647. -/
def ID_MODULE_STEPPING : Fld := ⟨(Reg.ID_MODULE).addr, 52, 4, .ro, .fuse⟩
/-- R647. -/
def ID_MODULE_KEY_PRESENT : Fld := ⟨(Reg.ID_MODULE).addr, 56, 1, .ro, .fuse⟩
/-- R647. -/
def ID_SVN_SVN : Fld := ⟨(Reg.ID_SVN).addr, 0, 7, .ro, .fuse⟩
/-- R647. -/
def ID_SVN_KEY_REVOKED : Fld := ⟨(Reg.ID_SVN).addr, 8, 4, .ro, .fuse⟩
/-- R647. -/
def ID_SVN_COMMIT : Fld := ⟨(Reg.ID_SVN).addr, 16, 1, .w1s, .num 0⟩
/-- R647. -/
def ID_RNG_HEALTHY : Fld := ⟨(Reg.ID_RNG).addr, 0, 1, .ro, .num 0⟩
/-- R647. -/
def ID_RNG_FAILS : Fld := ⟨(Reg.ID_RNG).addr, 16, 16, .ro, .num 0⟩
/-- R647. -/
def ID_CAPS_JURVO_TX_MV : Fld := ⟨(Reg.ID_CAPS).addr, 0, 12, .ro, .fuse⟩
/-- R647. -/
def ID_CAPS_CXL_TX_MV : Fld := ⟨(Reg.ID_CAPS).addr, 16, 12, .ro, .fuse⟩
/-- R647. -/
def ID_PUB_PUB (i : Nat) : Fld := ⟨(Reg.ID_PUB i).addr, 0, 64, .ro, .fuse⟩
/-- R647. -/
def ID_DIE_LOT_LOT (i : Nat) : Fld := ⟨(Reg.ID_DIE_LOT i).addr, 0, 60, .ro, .fuse⟩
/-- R647. -/
def ID_DIE_POS_WAFER (i : Nat) : Fld := ⟨(Reg.ID_DIE_POS i).addr, 0, 5, .ro, .fuse⟩
/-- R647. -/
def ID_DIE_POS_X (i : Nat) : Fld := ⟨(Reg.ID_DIE_POS i).addr, 8, 8, .ro, .fuse⟩
/-- R647. -/
def ID_DIE_POS_Y (i : Nat) : Fld := ⟨(Reg.ID_DIE_POS i).addr, 16, 8, .ro, .fuse⟩
/-- R647. -/
def LIC_STAT_VARIANT : Fld := ⟨(Reg.LIC_STAT).addr, 0, 2, .ro, .flash⟩
/-- R647. -/
def LIC_STAT_CLASS : Fld := ⟨(Reg.LIC_STAT).addr, 2, 1, .ro, .num 0⟩
/-- R647. -/
def LIC_STAT_ING_EN : Fld := ⟨(Reg.LIC_STAT).addr, 3, 1, .ro, .flash⟩
/-- R647. -/
def LIC_STAT_DEGRADE : Fld := ⟨(Reg.LIC_STAT).addr, 4, 1, .ro, .flash⟩
/-- R647. -/
def LIC_STAT_PORT_EN : Fld := ⟨(Reg.LIC_STAT).addr, 8, 6, .ro, .num 0x3F⟩
/-- R647. -/
def LIC_STAT_LSEQ : Fld := ⟨(Reg.LIC_STAT).addr, 32, 32, .ro, .flash⟩
/-- R647. -/
def LIC_FLOOR_FLOOR : Fld := ⟨(Reg.LIC_FLOOR).addr, 0, 32, .ro, .fuse⟩
/-- R647. -/
def LIC_PEND_PENDING : Fld := ⟨(Reg.LIC_PEND).addr, 0, 1, .ro, .flash⟩
/-- R647. -/
def LIC_PEND_PEND_LSEQ : Fld := ⟨(Reg.LIC_PEND).addr, 32, 32, .ro, .flash⟩
/-- R647. -/
def BIST_STAT_RUNNING : Fld := ⟨(Reg.BIST_STAT).addr, 0, 1, .ro, .num 0⟩
/-- R647. -/
def BIST_STAT_OVERFLOW : Fld := ⟨(Reg.BIST_STAT).addr, 1, 1, .ro, .flash⟩
/-- R647. -/
def BIST_STAT_ENTRIES : Fld := ⟨(Reg.BIST_STAT).addr, 16, 16, .ro, .flash⟩
/-- R647. -/
def BIST_STAT_FUSED : Fld := ⟨(Reg.BIST_STAT).addr, 32, 16, .ro, .fuse⟩
/-- R647. -/
def BIST_STAT_ADDED : Fld := ⟨(Reg.BIST_STAT).addr, 48, 16, .ro, .num 0⟩
/-- R647. -/
def BIST_QUICK_FAIL : Fld := ⟨(Reg.BIST_QUICK).addr, 0, 45, .ro, .num 0⟩
/-- R647. -/
def BIST_LSIG_LSIG (i : Nat) : Fld := ⟨(Reg.BIST_LSIG i).addr, 0, 64, .ro, .num 0⟩
/-- R647. -/
def BIST_MSIG_MSIG (i : Nat) : Fld := ⟨(Reg.BIST_MSIG i).addr, 0, 64, .ro, .num 0⟩
/-- R647. -/
def MC_WDT_TIMEOUT_MS : Fld := ⟨(Reg.MC_WDT).addr, 0, 16, .lk, .num 1000⟩
/-- R647. -/
def MC_WDT_EN : Fld := ⟨(Reg.MC_WDT).addr, 16, 1, .lk, .num 1⟩
/-- R647. -/
def MC_WDT_KICK : Fld := ⟨(Reg.MC_WDT).addr, 17, 1, .wo, .num 0⟩
/-- R647. -/
def MC_WDT_HUNG : Fld := ⟨(Reg.MC_WDT).addr, 18, 1, .w1c, .num 0⟩
/-- R647. -/
def MC_WDT_SEAL : Fld := ⟨(Reg.MC_WDT).addr, 19, 1, .w1s, .num 0⟩
/-- R647. -/
def MC_WDT_EXPIRIES : Fld := ⟨(Reg.MC_WDT).addr, 32, 32, .ro, .num 0⟩
/-- R647. -/
def MC_FWB_CTL_START : Fld := ⟨(Reg.MC_FWB_CTL).addr, 0, 1, .w1s, .num 0⟩
/-- R647. -/
def MC_FWB_CTL_KIND : Fld := ⟨(Reg.MC_FWB_CTL).addr, 1, 1, .rw, .num 0⟩
/-- R647. -/
def MC_FWB_CTL_TORUS : Fld := ⟨(Reg.MC_FWB_CTL).addr, 2, 1, .rw, .num 0⟩
/-- R647. -/
def MC_FWB_CTL_ONE : Fld := ⟨(Reg.MC_FWB_CTL).addr, 3, 1, .rw, .num 0⟩
/-- R647. -/
def MC_FWB_CTL_DSTMOD : Fld := ⟨(Reg.MC_FWB_CTL).addr, 4, 18, .rw, .num 0⟩
/-- R647. -/
def MC_FWB_CTL_DST : Fld := ⟨(Reg.MC_FWB_CTL).addr, 36, 28, .rw, .num 0⟩
/-- R647. -/
def MC_FWB_SRC_SRC : Fld := ⟨(Reg.MC_FWB_SRC).addr, 0, 46, .rw, .num 0⟩
/-- R647. -/
def MC_FWB_STAT_LEN : Fld := ⟨(Reg.MC_FWB_STAT).addr, 0, 27, .rw, .num 0⟩
/-- R647. -/
def MC_FWB_STAT_STATE : Fld := ⟨(Reg.MC_FWB_STAT).addr, 32, 2, .ro, .num 0⟩
/-- R647. -/
def MC_FWB_STAT_FAULT : Fld := ⟨(Reg.MC_FWB_STAT).addr, 48, 16, .ro, .num 0x0⟩
/-- R647. -/
def MC_FWB_COUNT_DONE : Fld := ⟨(Reg.MC_FWB_COUNT).addr, 0, 32, .ro, .num 0⟩
/-- R647. -/
def MC_FWB_COUNT_FAILED : Fld := ⟨(Reg.MC_FWB_COUNT).addr, 32, 32, .ro, .num 0⟩

end Fd

/-- The fields of each register, lowest first. -/
def Reg.fields : Reg → List Fld
  | .MC_PANEL_TILES =>
    [Fd.MC_PANEL_TILES_TILE_EN, Fd.MC_PANEL_TILES_EXCL_ROW, Fd.MC_PANEL_TILES_TILES_IN_SERVICE]
  | .MC_PANEL_DIES =>
    [Fd.MC_PANEL_DIES_DIE_UP, Fd.MC_PANEL_DIES_DIE_COMPUTE]
  | .MC_PANEL_MEM =>
    [Fd.MC_PANEL_MEM_NEAR_EN, Fd.MC_PANEL_MEM_FAR_POP]
  | .TILE_CORE_MAP t =>
    [Fd.TILE_CORE_MAP_PHYS_GOOD t, Fd.TILE_CORE_MAP_DARK_PHYS t, Fd.TILE_CORE_MAP_FWD_ONLY t]
  | .TILE_THREAD_STATUS t c h =>
    [Fd.TILE_THREAD_STATUS_FAULT t c h, Fd.TILE_THREAD_STATUS_STATE t c h, Fd.TILE_THREAD_STATUS_HELD t c h, Fd.TILE_THREAD_STATUS_GLIDE t c h, Fd.TILE_THREAD_STATUS_CTRL_GLIDE t c h, Fd.TILE_THREAD_STATUS_FAULT_PC t c h]
  | .TILE_GLIDE_CTL t =>
    [Fd.TILE_GLIDE_CTL_CUT_EN t, Fd.TILE_GLIDE_CTL_SCALE_EN t, Fd.TILE_GLIDE_CTL_LAP_EN t, Fd.TILE_GLIDE_CTL_TIMEOUT t]
  | .TILE_CORE_CYCLES t c =>
    [Fd.TILE_CORE_CYCLES_CYCLES t c]
  | .TILE_GLIDE_STAT t c =>
    [Fd.TILE_GLIDE_STAT_OPENED t c, Fd.TILE_GLIDE_STAT_REFUSED t c]
  | .TILE_PHASE_HEAD t c =>
    [Fd.TILE_PHASE_HEAD_HEAD t c, Fd.TILE_PHASE_HEAD_TILE_TAIL t c, Fd.TILE_PHASE_HEAD_CUR_PHASE t c, Fd.TILE_PHASE_HEAD_OVERRUN t c]
  | .TILE_ARRAY_STAT t c =>
    [Fd.TILE_ARRAY_STAT_HOLDER t c, Fd.TILE_ARRAY_STAT_LEASED t c, Fd.TILE_ARRAY_STAT_QUEUED t c, Fd.TILE_ARRAY_STAT_SWAP_PEND t c, Fd.TILE_ARRAY_STAT_FRONT_FMT t c, Fd.TILE_ARRAY_STAT_SHADOW_FMT t c, Fd.TILE_ARRAY_STAT_RAMP_STATE t c, Fd.TILE_ARRAY_STAT_F32_HELD t c, Fd.TILE_ARRAY_STAT_INT_SAT t c, Fd.TILE_ARRAY_STAT_COLS_ON t c]
  | .TILE_ARRAY_ROWS t c =>
    [Fd.TILE_ARRAY_ROWS_RETIRED0 t c, Fd.TILE_ARRAY_ROWS_RETIRED1 t c]
  | .TILE_ARRAY_COUNT t c =>
    [Fd.TILE_ARRAY_COUNT_PASSES t c, Fd.TILE_ARRAY_COUNT_RAMPS t c]
  | .TILE_NUM_STAT t c =>
    [Fd.TILE_NUM_STAT_CONV_OVF t c, Fd.TILE_NUM_STAT_CONV_SAT t c, Fd.TILE_NUM_STAT_NAN_LOST t c, Fd.TILE_NUM_STAT_SPRED_RETRY t c, Fd.TILE_NUM_STAT_SPRED_SAT t c, Fd.TILE_NUM_STAT_UPD_SAT t c, Fd.TILE_NUM_STAT_UPD_SKIP t c, Fd.TILE_NUM_STAT_MOM_SAT t c]
  | .TILE_NUM_COUNT t c =>
    [Fd.TILE_NUM_COUNT_RETRIES t c, Fd.TILE_NUM_COUNT_UPD_SKIP t c]
  | .TILE_KV_PIN t c =>
    [Fd.TILE_KV_PIN_COUNT0 t c, Fd.TILE_KV_PIN_COUNT1 t c, Fd.TILE_KV_PIN_EPOCH_OLD t c]
  | .TILE_ARRAY_CTL t =>
    [Fd.TILE_ARRAY_CTL_RAMP_LEN t, Fd.TILE_ARRAY_CTL_HOLD t]
  | .TILE_NUM_CTL t =>
    [Fd.TILE_NUM_CTL_SPRED_MARGIN t]
  | .TILE_SRAM_ECC t =>
    [Fd.TILE_SRAM_ECC_CE t, Fd.TILE_SRAM_ECC_UE t, Fd.TILE_SRAM_ECC_PENDING t]
  | .TILE_KV_CACHE t =>
    [Fd.TILE_KV_CACHE_HITS t, Fd.TILE_KV_CACHE_MISSES t]
  | .TILE_KV_PIN_ME t =>
    [Fd.TILE_KV_PIN_ME_EPOCH0 t, Fd.TILE_KV_PIN_ME_EPOCH1 t]
  | .TILE_ATT_TBL t =>
    [Fd.TILE_ATT_TBL_GEN t, Fd.TILE_ATT_TBL_SHADOW_READY t, Fd.TILE_ATT_TBL_FENCE_PEND t, Fd.TILE_ATT_TBL_OLD_LOOKUPS t]
  | .MC_SF_COEF i =>
    [Fd.MC_SF_COEF_COEF_EVEN i, Fd.MC_SF_COEF_COEF_ODD i]
  | .MAP_CTL k =>
    [Fd.MAP_CTL_MAP_EN k, Fd.MAP_CTL_INIT_DONE k, Fd.MAP_CTL_UNITS k, Fd.MAP_CTL_UNIT_GIB k, Fd.MAP_CTL_REGIONS k]
  | .HASH_KEY k =>
    [Fd.HASH_KEY_KEY k]
  | .MEM_INIT k =>
    [Fd.MEM_INIT_NEXT k, Fd.MEM_INIT_DONE k]
  | .ERR_CTL k =>
    [Fd.ERR_CTL_SCRUB_H k, Fd.ERR_CTL_PERM_COUNT k, Fd.ERR_CTL_PERM_WINDOW_H k, Fd.ERR_CTL_HOT_DEPTH k, Fd.ERR_CTL_HOT_TIME_US k]
  | .GUARD k =>
    [Fd.GUARD_ACT_LIMIT k, Fd.GUARD_ACT_MAX k, Fd.GUARD_THR1 k, Fd.GUARD_THR2 k, Fd.GUARD_CRIT k]
  | .CH_STAT k u =>
    [Fd.CH_STAT_STATE k u, Fd.CH_STAT_KIND k u, Fd.CH_STAT_TEMP k u, Fd.CH_STAT_THROTTLE k u, Fd.CH_STAT_HOT k u, Fd.CH_STAT_CRIT_SEEN k u, Fd.CH_STAT_SPARE_DEV k u, Fd.CH_STAT_SIZE_GIB k u]
  | .CH_ECC k u =>
    [Fd.CH_ECC_CE k u, Fd.CH_ECC_UE k u, Fd.CH_ECC_PERM k u, Fd.CH_ECC_INNER k u]
  | .CH_QDEPTH k u =>
    [Fd.CH_QDEPTH_CUR k u, Fd.CH_QDEPTH_PEAK k u, Fd.CH_QDEPTH_HOT_EVENTS k u]
  | .CH_RH k u =>
    [Fd.CH_RH_MITIGATIONS k u, Fd.CH_RH_ALERTS k u]
  | .NEAR_ST_SPARE u =>
    [Fd.NEAR_ST_SPARE_USED u, Fd.NEAR_ST_SPARE_FREE_MIN u, Fd.NEAR_ST_SPARE_EXHAUSTED u]
  | .JL_P_CTL p =>
    [Fd.JL_P_CTL_ENABLE p, Fd.JL_P_CTL_GEN1_ONLY p, Fd.JL_P_CTL_REVIVE p]
  | .JL_P_STAT p =>
    [Fd.JL_P_STAT_STATE p, Fd.JL_P_STAT_GEN p, Fd.JL_P_STAT_WIDTH p, Fd.JL_P_STAT_LANESET p, Fd.JL_P_STAT_OFTAN p, Fd.JL_P_STAT_GATEWAY p, Fd.JL_P_STAT_RETRAIN_FAILS p, Fd.JL_P_STAT_PEER_ID p, Fd.JL_P_STAT_PEER_PORT p]
  | .JL_P_LANES p =>
    [Fd.JL_P_LANES_RETIRED p, Fd.JL_P_LANES_LOCKED p]
  | .JL_P_THRESH p =>
    [Fd.JL_P_THRESH_RETRY_LIMIT p, Fd.JL_P_THRESH_RETRY_WIN_MS p, Fd.JL_P_THRESH_LOL_LIMIT p, Fd.JL_P_THRESH_LOL_WIN_S p, Fd.JL_P_THRESH_RETRAIN_LIMIT p]
  | .JL_P_COUNT p =>
    [Fd.JL_P_COUNT_RETRIES p, Fd.JL_P_COUNT_RETRAINS p, Fd.JL_P_COUNT_LANE_RETIRES p]
  | .JL_P_FEC p =>
    [Fd.JL_P_FEC_CORR p, Fd.JL_P_FEC_UNCORR p]
  | .JL_P_VC p v =>
    [Fd.JL_P_VC_UNACKED p v, Fd.JL_P_VC_CREDIT0 p v, Fd.JL_P_VC_CREDIT1 p v, Fd.JL_P_VC_STOPPED p v]
  | .JL_TORUS =>
    [Fd.JL_TORUS_MODULE_ID, Fd.JL_TORUS_DIM_X, Fd.JL_TORUS_DIM_Y, Fd.JL_TORUS_DIM_Z]
  | .JL_SEAL =>
    [Fd.JL_SEAL_SEAL]
  | .JL_E2E_CTL =>
    [Fd.JL_E2E_CTL_TIMEOUT_US, Fd.JL_E2E_CTL_LIMIT_MS]
  | .JL_FLOWS =>
    [Fd.JL_FLOWS_SEND_OPEN, Fd.JL_FLOWS_RECV_OPEN, Fd.JL_FLOWS_REFUSED_FULL]
  | .JL_ROUTE_STAT =>
    [Fd.JL_ROUTE_STAT_REROUTES, Fd.JL_ROUTE_STAT_DEAD_PORTS]
  | .JL_GATEWAY i =>
    [Fd.JL_GATEWAY_GW_ID i, Fd.JL_GATEWAY_GW_PORT i, Fd.JL_GATEWAY_JOINED i]
  | .KV_CTL =>
    [Fd.KV_CTL_EN, Fd.KV_CTL_CHECKING, Fd.KV_CTL_CFG_BAD, Fd.KV_CTL_CFG_ERR]
  | .KV_TABLE =>
    [Fd.KV_TABLE_DESC_BASE, Fd.KV_TABLE_WHEELS]
  | .KV_TABLE_REC =>
    [Fd.KV_TABLE_REC_REC_BASE]
  | .KV_PROT =>
    [Fd.KV_PROT_BASE, Fd.KV_PROT_SIZE_MIB]
  | .KV_EPOCH =>
    [Fd.KV_EPOCH_CUR, Fd.KV_EPOCH_OLDEST]
  | .KV_EVT =>
    [Fd.KV_EVT_BASE, Fd.KV_EVT_VEC, Fd.KV_EVT_VEC_EN, Fd.KV_EVT_ENTRIES_LOG]
  | .KV_EVT_PTR =>
    [Fd.KV_EVT_PTR_HEAD, Fd.KV_EVT_PTR_KV_EVT_TAIL]
  | .KV_STAT =>
    [Fd.KV_STAT_PARKS, Fd.KV_STAT_RESUMES, Fd.KV_STAT_COWS]
  | .KV_TABLE_RECS =>
    [Fd.KV_TABLE_RECS_RECS]
  | .KV_POOL_CFG i =>
    [Fd.KV_POOL_CFG_LOC i, Fd.KV_POOL_CFG_PSIZE i, Fd.KV_POOL_CFG_ZERO i, Fd.KV_POOL_CFG_PEN i, Fd.KV_POOL_CFG_HEAD i, Fd.KV_POOL_CFG_LOW i]
  | .KV_POOL_STAT i =>
    [Fd.KV_POOL_STAT_FREE i, Fd.KV_POOL_STAT_EMPTY_HITS i]
  | .JOB_LAP_CFG i =>
    [Fd.JOB_LAP_CFG_ARM i, Fd.JOB_LAP_CFG_RING i, Fd.JOB_LAP_CFG_SLICES_M1 i, Fd.JOB_LAP_CFG_SLICE_PAGES i, Fd.JOB_LAP_CFG_PEER_OK i, Fd.JOB_LAP_CFG_MISMATCH i]
  | .JOB_LAP_STAT i =>
    [Fd.JOB_LAP_STAT_LAPS_IN i, Fd.JOB_LAP_STAT_LAPS_OUT i, Fd.JOB_LAP_STAT_NO_POST i]
  | .REL_CFG =>
    [Fd.REL_CFG_TIMEOUT_MS, Fd.REL_CFG_TWIN_GRACE_US]
  | .REL_STAT =>
    [Fd.REL_STAT_STALE, Fd.REL_STAT_ATOM_OVF, Fd.REL_STAT_SUSPECT]
  | .REL_NORM_CTL i =>
    [Fd.REL_NORM_CTL_EN i, Fd.REL_NORM_CTL_OVF i, Fd.REL_NORM_CTL_EXPECT_M1 i, Fd.REL_NORM_CTL_OWNER i, Fd.REL_NORM_CTL_JOB i]
  | .REL_NORM_ADDR i =>
    [Fd.REL_NORM_ADDR_RES_ADDR i]
  | .REL_NORM_BAR i =>
    [Fd.REL_NORM_BAR_BAR_ADDR i]
  | .REL_NORM_SLOTS i =>
    [Fd.REL_NORM_SLOTS_NOISE_SLOTS i]
  | .REL_NOISE =>
    [Fd.REL_NOISE_BASE, Fd.REL_NOISE_VEC, Fd.REL_NOISE_VEC_EN, Fd.REL_NOISE_ENTRIES_LOG]
  | .REL_NOISE_PTR =>
    [Fd.REL_NOISE_PTR_HEAD, Fd.REL_NOISE_PTR_TAIL]
  | .REL_RED_CTL h =>
    [Fd.REL_RED_CTL_STATE h, Fd.REL_RED_CTL_MODE h, Fd.REL_RED_CTL_RESULT h, Fd.REL_RED_CTL_VC h, Fd.REL_RED_CTL_HEADROOM h, Fd.REL_RED_CTL_EXP_SRC h, Fd.REL_RED_CTL_CMP h, Fd.REL_RED_CTL_NORM_EN h, Fd.REL_RED_CTL_NOISE_EN h, Fd.REL_RED_CTL_NORM_SET h, Fd.REL_RED_CTL_GEN h, Fd.REL_RED_CTL_RING h, Fd.REL_RED_CTL_EXP_STALE h, Fd.REL_RED_CTL_FAULT h, Fd.REL_RED_CTL_JOB h]
  | .REL_RED_ID h =>
    [Fd.REL_RED_ID_RED h, Fd.REL_RED_ID_E h, Fd.REL_RED_ID_K_M1 h]
  | .REL_RED_OWN h =>
    [Fd.REL_RED_OWN_OWNER h, Fd.REL_RED_OWN_P h, Fd.REL_RED_OWN_POS h]
  | .REL_RED_RING h =>
    [Fd.REL_RED_RING_NEXT h, Fd.REL_RED_RING_PREV h]
  | .REL_RED_SLOTS h =>
    [Fd.REL_RED_SLOTS_SLOT_MAP h]
  | .REL_RED_EXP h =>
    [Fd.REL_RED_EXP_EXP_ADDR h]
  | .REL_RED_ACC h =>
    [Fd.REL_RED_ACC_ACC_ADDR h]
  | .REL_RED_CMPA h =>
    [Fd.REL_RED_CMPA_CMP_ADDR h]
  | .REL_RED_STAT h =>
    [Fd.REL_RED_STAT_ESCALATED h, Fd.REL_RED_STAT_TWINNED h, Fd.REL_RED_STAT_NANB h, Fd.REL_RED_STAT_SUSPECT h]
  | .REL_RED_CHK h =>
    [Fd.REL_RED_CHK_UNCHECKED h, Fd.REL_RED_CHK_MISMATCH h]
  | .DVSEC_BAR0 q =>
    [Fd.DVSEC_BAR0_BAR0_PAGE q]
  | .DVSEC_BAR4 q =>
    [Fd.DVSEC_BAR4_BAR4_LOG q]
  | .DVSEC_FAR q =>
    [Fd.DVSEC_FAR_FAR_OFS q]
  | .DVSEC_WIN i =>
    [Fd.DVSEC_WIN_LOCAL i, Fd.DVSEC_WIN_SIZE_LOG i, Fd.DVSEC_WIN_PORT i, Fd.DVSEC_WIN_RO i, Fd.DVSEC_WIN_LOCK i]
  | .DVSEC_WIN_HPA i =>
    [Fd.DVSEC_WIN_HPA_HPA i]
  | .HST_PORT_STAT q =>
    [Fd.HST_PORT_STAT_MODE q, Fd.HST_PORT_STAT_SPEED q, Fd.HST_PORT_STAT_WIDTH q, Fd.HST_PORT_STAT_IDE_ON q, Fd.HST_PORT_STAT_DOWNS q]
  | .HST_JRNL_BASE =>
    [Fd.HST_JRNL_BASE_JBASE, Fd.HST_JRNL_BASE_ENTRIES_LOG]
  | .HST_JRNL_PTR =>
    [Fd.HST_JRNL_PTR_JHEAD, Fd.HST_JRNL_PTR_JTAIL]
  | .HST_IRQ_CTL =>
    [Fd.HST_IRQ_CTL_EVT_PORT, Fd.HST_IRQ_CTL_FLOG_VEC, Fd.HST_IRQ_CTL_FLOG_VEC_EN]
  | .HST_FLOG_PTR =>
    [Fd.HST_FLOG_PTR_FHEAD, Fd.HST_FLOG_PTR_FTAIL, Fd.HST_FLOG_PTR_FOVER]
  | .HST_S_CTL s =>
    [Fd.HST_S_CTL_EN s, Fd.HST_S_CTL_PORT s, Fd.HST_S_CTL_STOP s, Fd.HST_S_CTL_RESUME s, Fd.HST_S_CTL_CMD_LOG s, Fd.HST_S_CTL_CPL_LOG s, Fd.HST_S_CTL_VEC s, Fd.HST_S_CTL_VEC_EN s]
  | .HST_S_CMD s =>
    [Fd.HST_S_CMD_CMD_BASE s]
  | .HST_S_CPL s =>
    [Fd.HST_S_CPL_CPL_BASE s]
  | .HST_S_LINE s =>
    [Fd.HST_S_LINE_TAIL_LINE s]
  | .HST_S_STAT s =>
    [Fd.HST_S_STAT_STATE s, Fd.HST_S_STAT_LAST_FAULT s, Fd.HST_S_STAT_REPLAYS s]
  | .HST_S_SEQ s =>
    [Fd.HST_S_SEQ_ACCEPTED s, Fd.HST_S_SEQ_COMMITTED s]
  | .HST_S_CPLP s =>
    [Fd.HST_S_CPLP_CPL_HEAD s, Fd.HST_S_CPLP_COMPLETED s]
  | .HST_S_DB s =>
    [Fd.HST_S_DB_TAIL s]
  | .ING_CTL =>
    [Fd.ING_CTL_PIPES_EN]
  | .ING_STAT =>
    [Fd.ING_STAT_DELIVERED, Fd.ING_STAT_SKIPPED]
  | .ING_LOG_BASE =>
    [Fd.ING_LOG_BASE_BASE, Fd.ING_LOG_BASE_ENTRIES_LOG]
  | .ING_LOG_PTR =>
    [Fd.ING_LOG_PTR_HEAD, Fd.ING_LOG_PTR_TAIL]
  | .ING_PIPE_STAT i =>
    [Fd.ING_PIPE_STAT_STATE i, Fd.ING_PIPE_STAT_SAMPLES i]
  | .ING_PROF_CROP j =>
    [Fd.ING_PROF_CROP_X j, Fd.ING_PROF_CROP_Y j, Fd.ING_PROF_CROP_W j, Fd.ING_PROF_CROP_H j]
  | .ING_PROF_OUT j =>
    [Fd.ING_PROF_OUT_WO j, Fd.ING_PROF_OUT_HO j, Fd.ING_PROF_OUT_PATCH_LOG j, Fd.ING_PROF_OUT_OFMT j, Fd.ING_PROF_OUT_FRAMES_M1 j, Fd.ING_PROF_OUT_FSTEP_M1 j, Fd.ING_PROF_OUT_VALID j]
  | .ING_PROF_M j m =>
    [Fd.ING_PROF_M_VAL_EVEN j m, Fd.ING_PROF_M_VAL_ODD j m]
  | .JOB_CTL =>
    [Fd.JOB_CTL_JOB, Fd.JOB_CTL_EN, Fd.JOB_CTL_IDLE_PISTE, Fd.JOB_CTL_MAP_GEN, Fd.JOB_CTL_HOLD]
  | .JOB_SEED =>
    [Fd.JOB_SEED_SEED]
  | .JOB_STEP =>
    [Fd.JOB_STEP_STEP, Fd.JOB_STEP_STATE, Fd.JOB_STEP_VERIFY, Fd.JOB_STEP_SUSPECT, Fd.JOB_STEP_LOSS_VALID, Fd.JOB_STEP_FAULT]
  | .JOB_STEP_CMD =>
    [Fd.JOB_STEP_CMD_OP, Fd.JOB_STEP_CMD_VERIFY, Fd.JOB_STEP_CMD_STEP, Fd.JOB_STEP_CMD_MAP_GEN]
  | .JOB_LOSS =>
    [Fd.JOB_LOSS_LOSS]
  | .JOB_VERIFY =>
    [Fd.JOB_VERIFY_EXPECT]
  | .JOB_FILL =>
    [Fd.JOB_FILL_PLAN, Fd.JOB_FILL_PENDING, Fd.JOB_FILL_DONE]
  | .JOB_PHASE =>
    [Fd.JOB_PHASE_MPHASE, Fd.JOB_PHASE_CUR_PISTE, Fd.JOB_PHASE_DRAINING, Fd.JOB_PHASE_PARTICIPANTS]
  | .JOB_SREC =>
    [Fd.JOB_SREC_BASE, Fd.JOB_SREC_ENTRIES_LOG]
  | .JOB_SREC_PTR =>
    [Fd.JOB_SREC_PTR_HEAD, Fd.JOB_SREC_PTR_TAIL]
  | .JOB_PHASE_MAP k =>
    (List.range 8).flatMap (fun i => [Fd.JOB_PHASE_MAP_PISTE k i, Fd.JOB_PHASE_MAP_SET k i])
  | .CLK_ROOT_STATUS =>
    [Fd.CLK_ROOT_STATUS_XTAL_OK, Fd.CLK_ROOT_STATUS_PLL_LOCK, Fd.CLK_ROOT_STATUS_RECOVERY, Fd.CLK_ROOT_STATUS_XTAL_FAILS, Fd.CLK_ROOT_STATUS_IOSC_CAL]
  | .CLK_XTAL_CTL =>
    [Fd.CLK_XTAL_CTL_DELAY_US]
  | .CLK_SSC =>
    [Fd.CLK_SSC_CORE_DEPTH, Fd.CLK_SSC_CORE_RATE, Fd.CLK_SSC_MESH_DEPTH, Fd.CLK_SSC_MESH_RATE]
  | .CLK_DOM_CTL d =>
    [Fd.CLK_DOM_CTL_NUM d, Fd.CLK_DOM_CTL_DEN d, Fd.CLK_DOM_CTL_SRC d, Fd.CLK_DOM_CTL_RAMPING d]
  | .CLK_FCNT d =>
    [Fd.CLK_FCNT_KHZ d]
  | .PWR_STAGE =>
    [Fd.PWR_STAGE_STAGE, Fd.PWR_STAGE_COMPUTE_UP, Fd.PWR_STAGE_LIFTS_DONE, Fd.PWR_STAGE_LIFT_FAIL, Fd.PWR_STAGE_STAGE_MS]
  | .PWR_CPR =>
    [Fd.PWR_CPR_REQ, Fd.PWR_CPR_RELEASE, Fd.PWR_CPR_AUTO, Fd.PWR_CPR_HELD, Fd.PWR_CPR_CAUSE, Fd.PWR_CPR_COUNT]
  | .PWR_CAP =>
    [Fd.PWR_CAP_CAP_W, Fd.PWR_CAP_CEIL_W, Fd.PWR_CAP_COOL_CAP_W]
  | .PWR_IN =>
    [Fd.PWR_IN_VIN_MV, Fd.PWR_IN_IIN_DA, Fd.PWR_IN_P_PANEL_W, Fd.PWR_IN_P_DIMM_W]
  | .PWR_STAT =>
    [Fd.PWR_STAT_CAPPING, Fd.PWR_STAT_THROTTLE, Fd.PWR_STAT_LIMITER, Fd.PWR_STAT_COOL_LOW, Fd.PWR_STAT_IIN_LIMIT, Fd.PWR_STAT_CORE_TGT_MHZ]
  | .PWR_THERM =>
    [Fd.PWR_THERM_TJ_THROTTLE, Fd.PWR_THERM_TJ_RESUME, Fd.PWR_THERM_TJ_TRIP, Fd.PWR_THERM_TJ_MAX, Fd.PWR_THERM_INLET_C, Fd.PWR_THERM_FLOW_DLPM]
  | .PWR_LIFT =>
    [Fd.PWR_LIFT_RAMP_US]
  | .PWR_CARRIER =>
    [Fd.PWR_CARRIER_CAGE_PRES, Fd.PWR_CARRIER_CAGE_PWR_OFF, Fd.PWR_CARRIER_CXL_PRES, Fd.PWR_CARRIER_SLOT_ID, Fd.PWR_CARRIER_LEAK, Fd.PWR_CARRIER_DIMM_OFF]
  | .PWR_TILE t =>
    [Fd.PWR_TILE_TEMP t, Fd.PWR_TILE_DROOPS t]
  | .MC_SET_CTL =>
    [Fd.MC_SET_CTL_TEMP_BAND, Fd.MC_SET_CTL_BG_CHECK_EN, Fd.MC_SET_CTL_LINK_CORR_PS, Fd.MC_SET_CTL_DRAM_CE_PH]
  | .MC_SET_STAT =>
    [Fd.MC_SET_STAT_SAVED, Fd.MC_SET_STAT_REJECTED, Fd.MC_SET_STAT_RETRAINS, Fd.MC_SET_STAT_PENDING]
  | .ID_MODULE =>
    [Fd.ID_MODULE_SERIAL, Fd.ID_MODULE_GEN, Fd.ID_MODULE_STEPPING, Fd.ID_MODULE_KEY_PRESENT]
  | .ID_SVN =>
    [Fd.ID_SVN_SVN, Fd.ID_SVN_KEY_REVOKED, Fd.ID_SVN_COMMIT]
  | .ID_RNG =>
    [Fd.ID_RNG_HEALTHY, Fd.ID_RNG_FAILS]
  | .ID_CAPS =>
    [Fd.ID_CAPS_JURVO_TX_MV, Fd.ID_CAPS_CXL_TX_MV]
  | .ID_PUB i =>
    [Fd.ID_PUB_PUB i]
  | .ID_DIE_LOT i =>
    [Fd.ID_DIE_LOT_LOT i]
  | .ID_DIE_POS i =>
    [Fd.ID_DIE_POS_WAFER i, Fd.ID_DIE_POS_X i, Fd.ID_DIE_POS_Y i]
  | .LIC_STAT =>
    [Fd.LIC_STAT_VARIANT, Fd.LIC_STAT_CLASS, Fd.LIC_STAT_ING_EN, Fd.LIC_STAT_DEGRADE, Fd.LIC_STAT_PORT_EN, Fd.LIC_STAT_LSEQ]
  | .LIC_FLOOR =>
    [Fd.LIC_FLOOR_FLOOR]
  | .LIC_PEND =>
    [Fd.LIC_PEND_PENDING, Fd.LIC_PEND_PEND_LSEQ]
  | .BIST_STAT =>
    [Fd.BIST_STAT_RUNNING, Fd.BIST_STAT_OVERFLOW, Fd.BIST_STAT_ENTRIES, Fd.BIST_STAT_FUSED, Fd.BIST_STAT_ADDED]
  | .BIST_QUICK =>
    [Fd.BIST_QUICK_FAIL]
  | .BIST_LSIG i =>
    [Fd.BIST_LSIG_LSIG i]
  | .BIST_MSIG i =>
    [Fd.BIST_MSIG_MSIG i]
  | .MC_WDT =>
    [Fd.MC_WDT_TIMEOUT_MS, Fd.MC_WDT_EN, Fd.MC_WDT_KICK, Fd.MC_WDT_HUNG, Fd.MC_WDT_SEAL, Fd.MC_WDT_EXPIRIES]
  | .MC_FWB_CTL =>
    [Fd.MC_FWB_CTL_START, Fd.MC_FWB_CTL_KIND, Fd.MC_FWB_CTL_TORUS, Fd.MC_FWB_CTL_ONE, Fd.MC_FWB_CTL_DSTMOD, Fd.MC_FWB_CTL_DST]
  | .MC_FWB_SRC =>
    [Fd.MC_FWB_SRC_SRC]
  | .MC_FWB_STAT =>
    [Fd.MC_FWB_STAT_LEN, Fd.MC_FWB_STAT_STATE, Fd.MC_FWB_STAT_FAULT]
  | .MC_FWB_COUNT =>
    [Fd.MC_FWB_COUNT_DONE, Fd.MC_FWB_COUNT_FAILED]

end Sys2Proof.Machine
end

