-- ==== Sys2Proof/Machine/Fuses.lean ====
section
/-! DEFINITION. What fuses and flash hold for a field (R14, R667), as far as rules fix it: the generation code and the stepping
(R4, R615), the coefficients of the special functions (R243, R244), and the ramp length as shipped (R189). -/

namespace Sys2Proof.Machine

/-- What the fuses hold for coefficient entry i, before what R243 and R244 say of it: tanh 0 to 287, exp2 288 to 543. -/
def sfFuse (i : Nat) : Nat :=
  (Config.fuse (if i % 2 = 0 then Fd.MC_SF_COEF_COEF_EVEN (i / 2) else Fd.MC_SF_COEF_COEF_ODD (i / 2)).key).toNat % 2 ^ 32

/-- R241, R243: the cubic of the four coefficients from an entry of a table, at an exact u. -/
def cubicAt (t : Nat → Nat) (i : Nat) (u : Dy) : Dy :=
  let c (j : Nat) : Dy := (fp32.dec (t (i + j))).dy
  (c 0).add (u.mul ((c 1).add (u.mul ((c 2).add (u.mul (c 3))))))

/-- a is at most b. -/
def Dy.le (a b : Dy) : Bool := !(b.lt a)

/-- R244: the cubic from an entry is non-decreasing from 0 to w: its slope is not negative at either end, nor at its least value where
that lies between. -/
def cubicRises (t : Nat → Nat) (i : Nat) (w : Dy) : Bool :=
  let c (j : Nat) : Dy := (fp32.dec (t (i + j))).dy
  let k (n : Int) : Dy := ⟨n, 0⟩
  let slopeEnd := (c 1).add (w.mul (((k 2).mul (c 2)).add (w.mul ((k 3).mul (c 3)))))
  Dy.zero.le (c 1) && Dy.zero.le slopeEnd
    && ((c 3).le Dy.zero || Dy.zero.le (c 2) || ((k 3).mul ((c 3).mul w)).le (c 2).neg
      || ((c 2).mul (c 2)).le ((k 3).mul ((c 1).mul (c 3))))

/-- R244: the segment from entry i, of width w, ends, in FP32 and in BF16, on the FP32 value b. -/
def seamAgrees (t : Nat → Nat) (i : Nat) (w : Dy) (b : Nat) : Bool :=
  [fp32, bf16].all (fun f => (f.enc false ((cubicAt t i w).num false)).code = (f.enc false (fp32.dec b)).code)

/-- R243, R244, R246: what the manual says of the coefficients: finite FP32 values; e0[0] exactly 1; every polynomial non-decreasing on
its interval; the seams agreeing, the last of exp2 with 2; and the seam values of tanh between Y_0 = 2^-12 and Y_72 = 1. -/
def sfTableOk (t : Nat → Nat) : Bool :=
  (List.range 544).all (fun i => (fp32.dec (t i)).isFin) && decide (t 288 = 0x3F800000)
    && (List.range 72).all (fun k => cubicRises t (4 * k) ⟨1, -3⟩)
    && (List.range 71).all (fun k => seamAgrees t (4 * k) ⟨1, -3⟩ (t (4 * k + 4)))
    && (List.range 71).all (fun k => (⟨1, -12⟩ : Dy).le (fp32.dec (t (4 * k + 4))).dy && (fp32.dec (t (4 * k + 4))).dy.le ⟨1, 0⟩)
    && (List.range 64).all (fun j => cubicRises t (288 + 4 * j) ⟨1, -6⟩)
    && (List.range 64).all (fun j => seamAgrees t (288 + 4 * j) ⟨1, -6⟩ (if j = 63 then 0x40000000 else t (292 + 4 * j)))

/-- A table that has those properties: tanh at 1 throughout, exp2 straight from 1 to 2. -/
def sfPlain (i : Nat) : Nat :=
  if i < 288 then (if i % 4 = 0 then 0x3F800000 else 0)
  else if i % 4 = 0 then 0x3F800000 + (i - 288) / 4 * 2 ^ 17
  else if i % 4 = 1 then 0x3F800000 else 0

/-- R243, R244: the coefficients of silicon of generation code 1. They are what the fuses hold, which is free but for what the manual
says of it: contents without those properties are no module's, and stand for the plain table (log entry 99). -/
def sfCoef (i : Nat) : Nat := if sfTableOk sfFuse then sfFuse i else sfPlain i

/-- R614: a lot: ten characters of 6 bits, of which 37 to 63 never occur. -/
def lotVal (v : Nat) : Nat := ((List.range 10).map (fun i => v / 64 ^ i % 64 % 37 * 64 ^ i)).sum

/-- R635, R636: the fused defect map: at most 64 entries for each of 45 dies, their SOURCE 0. -/
def fusedMap : List Nat :=
  (List.range 45).flatMap (fun d => (List.range (Config.fusedCount d).val).map (fun k =>
    setBits (setBits ((Config.fusedDefect (64 * d + k)).toNat % 2 ^ 48) 4 4 0) 8 8 d))

/-- R14: what the fuses hold for a field. R614, R636, R647: a lot's characters, a fused SVN of at most 64, the entries of the fused
map. R615: the generation code is 1; R4: the steppings are A0, A1 and B0. -/
def fuseVal (f : Fld) : Nat :=
  let v := (Config.fuse f.key).toNat
  if f = Fd.ID_MODULE_GEN then 1
  else if f = Fd.ID_MODULE_STEPPING then v % 3
  else if 0x2000 ≤ f.addr ∧ f.addr < 0x2880 then sfCoef ((f.addr - 0x2000) / 8 * 2 + f.lo / 32)
  else if f = Fd.ID_SVN_SVN then v % 65
  else if f = Fd.BIST_STAT_FUSED then fusedMap.length
  else if 0x301000 ≤ f.addr ∧ f.addr < 0x3012D0 ∧ f.addr % 16 = 0 then lotVal v
  else v % 2 ^ f.len

/-- R275: a value brought between 256 and the fused ACT_MAX of a tier. -/
def actClamp (k : Tier) (v : Nat) : Nat := max 256 (min v (fuseVal (Fd.GUARD_ACT_MAX k)))

/-- R14: what the carrier flash holds for a field. R189: it holds 0 for RAMP_LEN. R275: ACT_LIMIT is held between its bounds. R636: its
list has at most 16,384 entries. -/
def flashVal (f : Fld) : Nat :=
  if 0x1000000 ≤ f.addr ∧ f.addr % 0x100000 = 0x20 then 0
  else if f = Fd.BIST_STAT_ENTRIES then (Config.flash f.key).toNat % 16385
  else if f = Fd.GUARD_ACT_LIMIT .far then actClamp .far ((Config.flash f.key).toNat % 2 ^ f.len)
  else if f = Fd.GUARD_ACT_LIMIT .near then actClamp .near ((Config.flash f.key).toNat % 2 ^ f.len)
  else (Config.flash f.key).toNat % 2 ^ f.len

end Sys2Proof.Machine
end

