-- ==== Sys2Proof/Machine/State.lean ====
section
/-! DEFINITION. The state of the module as plain data: every register field (a sparse map over Regs.lean), every memory,
and the typed state behind them, chapter by chapter; the queue of waiting commands; the state after power-on reset. -/

namespace Sys2Proof.Machine

/-- Reasons a step could stop the block. The spec makes every misuse an outcome (R5), so no meaning answers one. -/
inductive Fault where
  /-- Raised by no meaning: R5 gives every misuse a stated outcome. Safe. -/
  | stuck
  deriving DecidableEq, Repr

/-- Reasons a command is not carried out. -/
inductive Refusal where
  /-- A command without a meaning yet, rejected by name. Safe: the machine stops. -/
  | notModelled (mnemonic : String)
  deriving DecidableEq, Repr

/-- R59: the states of a thread. -/
inductive TState where
  | free | ready | waitData | waitSync | waitGate | stopped
  deriving DecidableEq, Repr

/-- R59: the code of a thread state in the status word. -/
def TState.code : TState → Nat
  | .free => 0 | .ready => 1 | .waitData => 2 | .waitSync => 3 | .waitGate => 4 | .stopped => 6

/-- What a rewind restores of a thread (R109): its registers of R67, their glide tags (R96) keyed by kind and number, the
tags its control flow carries (R98), the program counter (R65), the lane generators' key and counter (R227), and a held
fault with its place (R105). -/
structure TRegs where
  g : SMap (BitVec 64) := []
  v : SMap (BitVec 2048) := []
  p : SMap (BitVec 64) := []
  d : SMap (BitVec 128) := []
  tags : SMap (BitVec 8) := []
  ctrl : BitVec 8 := 0
  pc : Nat := 0
  key : BitVec 64 := 0
  ctr : BitVec 58 := 0
  held : Option (BitVec 16 × Nat) := none
  deriving DecidableEq, Repr

/-- One line kept in the shadow store (R106): its address, prior bytes, prior tag, and whether it was poisoned. -/
structure ShadowLine where
  addr : Nat
  bytes : List Byte
  tag : BitVec 8
  owner : Nat
  poison : Bool
  deriving DecidableEq, Repr

/-- A thread's checkpoint for one window (R99), in the order the windows were joined, with the lines written since. -/
structure Ckpt where
  ord : Nat
  regs : TRegs
  lines : List ShadowLine := []
  deriving DecidableEq, Repr

/-- Where a load delivers (R485, R486). -/
inductive Dest where
  | scalar (i : Nat)
  | vector (i : Nat) (lanes : BitVec 64)
  | desc (i : Nat)
  deriving DecidableEq, Repr

/-- A load under way (R63, R261): its destination, size in bytes, sign extension, the value it will deliver, the glide tag
of the lines it read, the request tag when it went to a peer, the place of its instruction (R478), and how many windows the
thread had joined when it issued (R109); `skip` is the number of lanes of a vector image before the first one it asks for. -/
structure Load where
  dest : Dest
  size : Nat
  sext : Bool
  value : Nat
  tag : BitVec 8
  remote : Option (BitVec 32)
  pc : Nat
  ord : Nat
  skip : Nat := 0
  deriving DecidableEq, Repr

/-- A hardware thread (R58 to R60, R67, R70, R99, R105, R478, R513). `due` is a failure found after its instruction
retired; `owner` the launch it belongs to; `fence` says that it waits in TBL.FENCE (R412), `waitBar` the barrier it waits on
(R88). -/
structure Thread where
  regs : TRegs := {}
  st : TState := .free
  fault : BitVec 16 := 0
  faultPc : Nat := 0
  ckpts : SMap Ckpt := []
  joined : Nat := 0
  loads : List Load := []
  due : Option (BitVec 16 × Nat) := none
  owner : Option CmdRef := none
  fence : Bool := false
  waitBar : Option Nat := none
  deriving DecidableEq, Repr

/-- The glide tag of a scratchpad line (R96), and the thread of the core that wrote its gliding bytes (128 = input, not a
thread: R101). -/
structure LineTag where
  tag : BitVec 8
  owner : Nat
  deriving DecidableEq, Repr

/-- What holds a glide window open (R93): a barrier counting cut-through bytes, a lap buffer of a slice, or a drain. -/
inductive WKind where
  | cut (bar : Nat)
  | lap (vc slice : Nat)
  | scale (op : Nat)
  deriving DecidableEq, Repr

/-- Input attached to a window and not yet confirmed: its address and length, the barrier it counts on (0 = none) with the
BEPOCH its transfer recorded (R86), and whether it was refused and awaits re-delivery (R110). -/
structure Piece where
  addr : Nat
  len : Nat
  bar : Nat
  ep : Nat
  row : Nat := 0
  refused : Bool := false
  deriving DecidableEq, Repr

/-- An open glide window of a core (R93 to R95). -/
structure Window where
  kind : WKind
  pieces : List Piece := []
  deriving DecidableEq, Repr

/-- A stationary operand in a bank (R163): format, K, N, the K * N element codes row by row, the scale bytes of R143 row by
row (empty without block scales), and whether it was read from a poisoned line (R185). -/
structure Operand where
  fmt : Nat
  k : Nat
  n : Nat
  codes : List Nat
  scales : List Nat
  poisoned : Bool
  deriving DecidableEq, Repr

/-- What the issue check of a pass knows of an operand (R146). -/
structure OperandMeta where
  fmt : Nat
  k : Nat
  n : Nat
  scaled : Bool
  deriving DecidableEq, Repr

/-- A drain's parameters, fixed at issue (R178 to R182, R211, R212): descriptors, modifiers, the operands copied, the amax
table's tile offset, the margin, and whether an operand copied was poisoned (R186). -/
structure DrainSpec where
  tC : BitVec 128
  tD : BitVec 128
  trans : Bool
  act : Nat
  smode : Nat
  satm : Bool
  scale : Option (List Nat)
  bias : Option (List Nat)
  table : List Nat
  amax : Nat
  margin : Nat
  bad : Bool := false
  deriving DecidableEq, Repr

/-- A drain tile of a .SPRED drain (R211 to R217): the exponent in use (none: computed scales), retries, whether it is
final, and whether rows of it were written gliding. -/
structure DTile where
  e : Option Int := none
  k : Nat := 0
  final : Bool := false
  glided : Bool := false
  deriving DecidableEq, Repr

/-- A drain under way: rows of tC still to begin with their kind (0 first, 1 recomputed, 2 re-delivered), its tiles, the
values after step 3 of rows of tiles that are not final, the window it opened and whether that has been refused, the tags
its output carries, how many windows its thread had joined at issue (R184), and whether its thread must fault at the end
(R216), and the rows it has written under .SPRED (R186). -/
structure DrainRun where
  todo : List (Nat × Nat)
  tiles : SMap DTile := []
  vals : SMap (List Nat) := []
  window : Option Nat := none
  refused : Bool := false
  tag : BitVec 8 := 0
  ord : Nat := 0
  fail : Bool := false
  wrote : List Nat := []
  deriving DecidableEq, Repr

/-- An array instruction in the queue (R139). A load is loading (phase 0), full with its token placed (1) or with its
token inside the array (2). -/
inductive ArrKind where
  | load (w : BitVec 128) (trans : Bool) (phase : Nat)
  | pass (tA tC : BitVec 128) (g : Nat) (zacc : Bool) (mask : BitVec 128) (op : OperandMeta) (next : Nat)
  | drain (spec : DrainSpec) (run : DrainRun)
  deriving DecidableEq, Repr

/-- A queue entry: its kind, thread, program counter, launch, barrier (0 = none), the barrier's BEPOCH at acceptance, and
whether a write of it was discarded (R286). -/
structure ArrOp where
  id : Nat
  kind : ArrKind
  th : Nat
  pc : Nat
  owner : Option CmdRef
  bar : Nat
  ep : Nat
  lost : Bool := false
  deriving DecidableEq, Repr

/-- The matrix array of a core (R134 to R192): lease, threads waiting for it, queue, banks, the metadata of the latest
operand accepted, ramp state (0 OFF, 1 RAMP_UP, 2 RUN, 3 RAMP_DOWN), columns on, the length of the ramp under way, and
whether the HOLD wait has begun and at which setting (R171). -/
structure MatArray where
  lease : Option Nat := none
  last : Nat := 127
  wait : List Nat := []
  q : List ArrOp := []
  front : Option Operand := none
  shadow : Option Operand := none
  latest : Option OperandMeta := none
  ramp : Nat := 0
  cols : Nat := 0
  rampLen : Nat := 0
  hold : Option Nat := none
  nextId : Nat := 1
  deriving DecidableEq, Repr

/-- A logical core: glide windows (R93), phase and its start (R118, R119), phase-time ring (R121), array (R134). -/
structure Core where
  windows : SMap Window := []
  phase : Nat := 0
  phaseStart : Nat := 0
  ring : SMap (BitVec 128) := []
  array : MatArray := {}
  deriving DecidableEq, Repr

/-- A launch in progress (R512, R513): its threads, those still live, and the faults they stopped with. -/
structure Launch where
  tids : List Nat
  live : List Nat
  faults : List (Nat × BitVec 16) := []
  job : BitVec 16
  deriving DecidableEq, Repr

/-- Who must hear of a packet's acknowledgement or of its flow's failure (R321, R325, R478). -/
inductive Origin where
  /-- Nobody: management and answers. -/
  | none
  /-- A store or atomic without return: thread, place, launch. -/
  | store (t pc : Nat) (owner : Option CmdRef)
  /-- An atomic whose answer carries a tag. -/
  | atomic (t pc : Nat) (owner : Option CmdRef) (tag : Nat)
  /-- A request whose answer carries a tag. -/
  | request (tag : Nat)
  /-- A transaction of a tile's memory engine. -/
  | txn (tile id : Nat)
  /-- A packet of a slice of VC2 (0) or VC3 (1), by the number of its send. -/
  | lap (i id : Nat)
  /-- A batch packet of a reduction entry at a generation: of its norm batch, or of a REL.SEND under way. -/
  | relay (h gen send : Nat)
  /-- A checkpoint's bulk packet. -/
  | bulk (k : CmdRef)
  /-- A page written by the wheel unit. -/
  | wheel
  /-- A firmware chunk passed on (R639). -/
  | forward
  /-- A chunk of the load this module is the source of (R639). -/
  | fwLoad
  deriving DecidableEq, Repr

/-- A packet a send flow keeps until it is acknowledged (R321): its type code, the port it first left by. -/
structure SentPkt where
  typ : Nat
  pkt : Packet
  org : Origin
  port : Nat
  deriving DecidableEq, Repr

/-- A packet not yet sent. -/
structure WaitPkt where
  typ : Nat
  body : List Byte
  org : Origin
  cls : Bool
  deriving DecidableEq, Repr

/-- A send flow of one destination and VC (R320 to R325): epoch, next SEQ, packets kept, packets waiting, the piste whose
route it uses, the piste it changes to once drained (R562), its resend wait as a multiple of TIMEOUT_US, whether its CLOSE
has been sent, whether it stands for a failed flow whose wait has not ended (R324), whether it waits for a place among the open
flows (R320), and the bytes still to start of the relay batch it is inside of (R447). -/
structure SendFlow where
  epoch : BitVec 16
  next : BitVec 32 := 0
  unacked : List SentPkt := []
  waiting : List WaitPkt := []
  piste : Nat := 0
  toward : Option Nat := none
  wait : Nat := 1
  closing : Bool := false
  reopen : Bool := false
  held : Bool := false
  left : Nat := 0
  deriving DecidableEq, Repr

/-- A receive entry of one source and VC (R322, R323, R326, R643): epoch, EXPECTED, the port its packets come in by,
acceptances since its last ACK, body bytes of the next packet landed already, the LAP packets accepted (R390), and the relay batch it is inside of: its header's bytes and
the data gathered (R447). -/
structure RecvFlow where
  epoch : BitVec 16
  expected : BitVec 32
  port : Nat := 0
  since : Nat := 0
  landed : Nat := 0
  count : Nat := 0
  hdr : List Byte := []
  data : List Byte := []
  drop : Bool := false
  deriving DecidableEq, Repr

/-- A packet waiting to leave by a port: its type, whether its header has left, how many body bytes have left, and whether
its body is whole yet (a forwarded packet grows as its flits arrive, R311). Whence is the port it came in by, 6 for none; inCls the class
it came in on. -/
structure OutPkt where
  typ : Nat
  pkt : Packet
  len : Nat
  hdrSent : Bool := false
  off : Nat := 0
  whence : Nat := 6
  inCls : Bool := false
  deriving DecidableEq, Repr

/-- A slot of a replay buffer (R310, R311): a hole waits for the good copy from upstream. -/
structure ReplaySlot where
  flit : Flit
  hole : Bool := false
  deriving DecidableEq, Repr

/-- A packet whose header a port has received and whose data flits are arriving. -/
structure InPkt where
  typ : Nat
  pkt : Packet
  len : Nat
  deriving DecidableEq, Repr

/-- The link layer of a Jurvo port (R301 to R315, R331 to R333): sequence numbers, replay buffer and what of it must be sent
again, credits held and to be returned by VC * 2 + class, flits that wait in the receiver's own buffer of their VC and class and in its
shared pool (R314), packets to send, packets arriving, retries charged to lanes and losses of lock with their times, GEN1_ONLY as training
began (R338), and whether a REVIVE has begun the training (R336). -/
structure LinkPort where
  nextL : BitVec 12 := 0
  expL : BitVec 12 := 0
  replay : List ReplaySlot := []
  resend : List (BitVec 12) := []
  nakDue : Bool := false
  discarding : Bool := false
  credits : SMap Nat := []
  returns : SMap Nat := []
  kept : SMap Nat := []
  pooled : SMap Nat := []
  outq : List OutPkt := []
  arriving : List InPkt := []
  charges : List (Nat × Nat) := []
  lol : List (Nat × Nat) := []
  gen1 : Bool := false
  revived : Bool := false
  deriving DecidableEq, Repr

/-- The geometry of a transposing copy (R490). -/
structure Geom where
  fmt : Nat
  src : Nat
  dst : Nat
  sstride : Nat
  dstride : Nat
  rows : Nat
  cols : Nat
  deriving DecidableEq, Repr

/-- A wheel access not yet wholly translated (R364): wheel, stream, the region, the first token not yet translated, tokens
left, its row in the region, and whether a walk is under way. -/
structure KvRun where
  wheel : Nat
  d : Nat
  desc : BitVec 128
  token : Nat
  left : Nat
  row : Nat
  deriving DecidableEq, Repr

/-- Who asked for a copy: a thread's instruction, or a stream command. -/
inductive CopyOrg where
  | thread (t pc : Nat) (owner : Option CmdRef)
  | cmd (k : CmdRef)
  deriving DecidableEq, Repr

/-- What one transaction moves (R260), between device addresses: a run of bytes (of any length while not yet issued); n
elements from a place of a row of the transposed block; bytes gathered from several places, both from bytes read ahead; a run of bytes
read ahead for a transposition. `cnt` says whether the bytes count on the barrier. -/
inductive TxnOp where
  | mv (src dst len : Nat) (cnt : Bool)
  | tr (row col n : Nat)
  | gather (srcs : List Nat) (dst : Nat) (cnt : Bool)
  | rd (src len : Nat)
  deriving DecidableEq, Repr

/-- A copy of a tile's memory engine (R260, R490, R359): who asked, its barrier and the BEPOCH it recorded, what is not yet
issued, transactions outstanding, whether more will be added (a wheel access not yet translated), the wheel, layer stream and
kind of access behind it, bytes landed and to be counted, bytes moved, its fault and poison flag, whether a poisoned line
stops it (R285), whether it keeps order, its geometry if it transposes, bytes read ahead,
the lines of device addresses among them that were poisoned, how many such reads are outstanding, and the pin it holds (R369). -/
structure Copy where
  org : CopyOrg
  bar : Nat
  ep : Nat
  segs : List TxnOp
  out : Nat := 0
  walk : Option KvRun := none
  landed : Nat := 0
  moved : Nat := 0
  fault : Nat := 0
  poison : Bool := false
  blocked : Bool := false
  ordered : Bool := false
  geom : Option Geom := none
  buf : SMap Byte := []
  tainted : List Nat := []
  pre : Nat := 0
  pin : Option (Nat × Nat) := none
  deriving DecidableEq, Repr

/-- A transaction: its copy, what it moves, the data a peer returned for it, whether its write has been sent to a peer. -/
structure Txn where
  copy : Nat
  op : TxnOp
  data : Option (List Byte) := none
  sent : Bool := false
  deriving DecidableEq, Repr

/-- An entry of a page cache (R365): wheel, stream, page index, the page entry. -/
structure PageTag where
  wheel : Nat
  d : Nat
  i : Nat
  entry : BitVec 128
  deriving DecidableEq, Repr

/-- A TBL.LOAD accepted and not yet served (R411): thread, place, launch, source tile offset, first head, heads. -/
structure TblLoad where
  t : Nat
  pc : Nat
  owner : Option CmdRef
  src : Nat
  h0 : Nat
  n : Nat
  deriving DecidableEq, Repr

/-- A tile beside its cores: copies and transactions of its memory engine (R260), the next transaction number, its page
cache, the oldest entry first (R365), and its bias-table store (R408 to R414): FP16 entries of the front and shadow copies by
head * 256 + index, whether the front has been copied since the last switch, and the loads waiting. -/
structure Tile where
  copies : SMap Copy := []
  txns : SMap Txn := []
  nextId : Nat := 1
  pcache : List PageTag := []
  front : SMap Nat := []
  shadow : SMap Nat := []
  copied : Bool := false
  loads : List TblLoad := []
  deriving DecidableEq, Repr

/-- The two pin slots of a holder (R369). -/
structure Pins where
  e0 : BitVec 32 := 0
  c0 : Nat := 0
  e1 : BitVec 32 := 0
  c1 : Nat := 0
  deriving DecidableEq, Repr

/-- What the wheel unit, or an engine for it, is copying: pieces (source, destination, length as device addresses), a peer's
bytes by source address, reads of a peer outstanding, the pin held, whether the bytes have been written, and a fault of a
peer (R325). -/
structure PageCopy where
  pieces : List (Nat × Nat × Nat) := []
  pin : Nat × Nat := (2000, 0)
  buf : SMap Byte := []
  reads : Nat := 0
  moved : Bool := false
  fault : Nat := 0
  deriving DecidableEq, Repr

/-- An operation of the wheel unit under way (R378): a copy-on-write of one page, a COPY command with the entries still to
do, a park (page place, slots written, cause, command) or a resume (page place, frames
allocated). -/
inductive WheelOp where
  | cow (w d i rec : Nat) (cp : PageCopy)
  | cowList (w : Nat) (todo : List (Nat × Nat)) (k : CmdRef)
  | park (w : Nat) (todo : List (Nat × Nat)) (slots : Nat) (cause : Nat) (k : Option CmdRef) (fault : Nat)
      (cp : Option PageCopy) (finishing : Bool)
  | resume (w : Nat) (todo : List (Nat × Nat)) (got : List (Nat × Nat × Nat)) (k : CmdRef) (cp : Option PageCopy)
  deriving DecidableEq, Repr

/-- An allocation that found its pool empty (R372): the thread that asks, plus 1, or 0 for a command; the victims it has had parked. -/
structure Trial where
  who : Nat
  parked : List Nat
  deriving DecidableEq, Repr

/-- A KV.PUT that waits for the wheel unit, in the order in which they reached it (R378): thread, place, launch. -/
structure KvWait where
  t : Nat
  pc : Nat
  owner : Option CmdRef
  deriving DecidableEq, Repr

/-- A stream command from its acceptance on (R509 to R523): the 128-byte entry; 0 accepted, 1 started, 2 finished, 3 its
record written; its outcome; whether it is a commit point; the CRC its journal entry carries; whether it waits to be
fetched again, and the fault it then completes with unexecuted (R523, R569); whether JOB_FILL counts it as pending (R568). -/
structure Cmd where
  entry : BitVec 1024
  st : Nat := 0
  fault : Nat := 0
  poison : Bool := false
  suspect : Bool := false
  replayed : Bool := false
  result : Nat := 0
  commit : Bool := false
  crc : Nat := 0
  again : Bool := false
  pre : Nat := 0
  fill : Bool := false
  deriving DecidableEq, Repr

/-- A CHECKPOINT under way (R567, R568): FILL or SAVE, the header's device address, the VC, the job, step and source written
into it, the count of extents and what is left of them (source, destination, length), bytes moved and the CRC over them as it
runs, bytes and CRC expected, 0 header outstanding, 1 extents, 2 last header outstanding, a superseded plan (R570), a
fault found, and whether it waits for a held bank (R282, R600), with the bytes that a FILL has still to write there. -/
structure Chk where
  fill : Bool
  hdr : Nat
  vc : Nat
  job : Nat
  step : Nat
  count : Nat
  exts : List (Nat × Nat × Nat)
  bytes : Nat := 0
  crc : Nat := 0xFFFFFFFF
  want : Nat := 0
  wantCrc : Nat := 0
  stage : Nat := 0
  stop : Bool := false
  fault : Nat := 0
  wait : Option (List Byte) := none
  deriving DecidableEq, Repr

/-- The profile an INGEST command copied as it started (R540, R543). -/
structure Profile where
  x : Nat
  y : Nat
  w : Nat
  h : Nat
  wo : Nat
  ho : Nat
  patch : Nat
  ofmt : Nat
  frames : Nat
  fstep : Nat
  valid : Bool
  m : List Nat
  deriving DecidableEq, Repr

/-- The INGEST command under way (R540, R541): its reference, profile, whether its log record has been written, the next slot
to deal, slots finished, the status entries by slot, slots delivered and skipped, and whether a write of a slot met a poisoned line
(R286). -/
structure Ingest where
  k : CmdRef
  prof : Profile
  logged : Bool := false
  next : Nat := 0
  done : Nat := 0
  stats : SMap (BitVec 128) := []
  good : Nat := 0
  bad : Nat := 0
  lost : Bool := false
  deriving DecidableEq, Repr

/-- A sample in a decode pipeline (R536, R546): its slot, what its table entry gave, a reason and detail found
there, where its bitstream lies with its length, and the frames to skip. -/
structure Pipe where
  slot : Nat
  reason : Nat
  detail : Nat
  codec : Nat
  user : Nat
  src : Nat
  len : Nat
  fskip : Nat
  deriving DecidableEq, Repr

/-- What the front end holds of a stream beside its registers (R508, R509, R523): the count of commands written as last
learnt, an entry fetched and not yet accepted, whether it is HALTED, the next command to fetch again, and the SEQs of the REPLAY
entries still to be written. -/
structure Stream where
  tail : BitVec 32 := 0
  fetched : Option (BitVec 1024) := none
  halted : Bool := false
  replay : Option (BitVec 32) := none
  jrnl : List Nat := []
  deriving DecidableEq, Repr

/-- A lap buffer posted (R392, R394): who posted it, its number, slice, local address, barrier and BEPOCH, DISCARD, the first packet
of the slice it accepted and how many since, and the fault its completion reports (R86, R286). -/
structure Posting where
  t : Nat
  pc : Nat
  owner : Option CmdRef
  id : Nat
  slice : Nat
  addr : Nat
  bar : Nat
  ep : Nat
  discard : Bool
  start : Nat := 0
  got : Nat := 0
  late : Nat := 0
  deriving DecidableEq, Repr

/-- A slice handed to a lap sequencer (R402, R404): its number, slice, thread, place, launch, barrier and BEPOCH, its source
as device ranges, a fault its turn will find, the pin it holds, a peer's bytes by source address, whether they have been
asked for and how many answers are outstanding, and whether its packets have been sent. -/
structure LapSend where
  id : Nat
  slice : Nat
  t : Nat
  pc : Nat
  owner : Option CmdRef
  bar : Nat
  ep : Nat
  srcs : List (Nat × Nat)
  fault : Nat := 0
  pin : Option (Nat × Nat) := none
  buf : SMap Byte := []
  asked : Bool := false
  reads : Nat := 0
  sent : Bool := false
  deriving DecidableEq, Repr

/-- A lap VC in the rind (R390 to R404): postings and slices to send, oldest first, the slice that leaves next, slices of laps
given up that no LAP.SEND has named yet (R405), the geometry message held, packets accepted on a ring of one, the next
number, and NEXT of the lap in progress (R563). -/
structure LapVc where
  posts : List Posting := []
  sends : List LapSend := []
  cur : Nat := 0
  dead : List Nat := []
  geom : Option (Nat × Nat) := none
  loop : Nat := 0
  nextId : Nat := 1
  next : Nat := 0
  deriving DecidableEq, Repr

/-- Blocks offered by a REL.SEND (R438): who offered them, the slot and whether as its twin, the first block, the next to
contribute, the next to report in the pre-pass (R433), the end, the source, the bytes they hold, the barrier and its BEPOCH, and the
slot's host. -/
structure Offer where
  id : Nat
  t : Nat
  pc : Nat
  owner : Option CmdRef
  slot : Nat
  twin : Bool
  b0 : Nat
  next : Nat
  pre : Nat
  stop : Nat
  addr : Nat
  bytes : Nat
  bar : Nat
  ep : Nat
  host : Nat
  deriving DecidableEq, Repr

/-- A result region posted by REL.POST (R439). -/
structure RelPost where
  t : Nat
  pc : Nat
  owner : Option CmdRef
  addr : Nat
  bar : Nat
  ep : Nat
  deriving DecidableEq, Repr

/-- What an armed reduction entry holds beside its registers and its working store in memory (R436 to R460): the launch that
armed it, the slot map as read, offers, the posting, the next number, blocks offered so far, blocks whose exponent has been agreed, magnitudes reported by
block * 1024 + slot (offset by 128), partials received and not yet added (64-bit words, escalated), FP32 results of owned
blocks, blocks of other owners whose next exponent has come (R445), per chunk the next block to send, owned blocks whose results have gone out, blocks landed here, kept copies by
slot * 2^20 + block with whether they have been compared, whether the compare window is open, the sums of squares in units of
2^-316 with NaN, per slot too, the norm batch (0 not due yet, 1 sent, 2 acknowledged), NORM batches counted for it at the norm owner, and
SEQ of the set as the last was. -/
structure Relay where
  launch : Option CmdRef := none
  map : List Nat := []
  offers : List Offer := []
  post : Option RelPost := none
  nextId : Nat := 1
  offered : Nat := 0
  known : SMap Bool := []
  ms : SMap Nat := []
  part : SMap (List Nat × Bool) := []
  finals : SMap (List Nat) := []
  nexts : SMap Bool := []
  sentTo : SMap Nat := []
  outs : Nat := 0
  landed : SMap Bool := []
  kept : SMap Bool := []
  window : Bool := false
  ssq : Nat := 0
  nan : Bool := false
  slotSsq : SMap Nat := []
  norm : Nat := 0
  batches : Nat := 0
  inSet : BitVec 32 := 0
  deriving DecidableEq, Repr

/-- Batches of a reduction for its norm set (R456, R459): how many count, their sum in units of 2^-316, whether that saturated at its
sender, NaN, whether the reduction failed, whether slot entries are kept, its fault, those entries, and the sender with the
reduction, generation and VC its record goes back by. -/
structure NormBatch where
  n : Nat := 1
  ssq : Nat := 0
  sat : Bool := false
  nan : Bool := false
  failed : Bool := false
  noise : Bool := false
  fault : Nat := 0
  slots : List (Nat × Nat) := []
  sender : Option (Nat × Nat × Nat × Nat) := none
  deriving DecidableEq, Repr

/-- A norm set at its owner (R456 to R458): batches counted, the sum in units of 2^-316 with its saturation, NaN, the first
fault, whether slot entries are kept, and those entries, the senders with the reduction and generation their records go
back to, and completions since power-on; `closing` says that a completion waits for the noise ring, `late` holds the batches that have come
since. -/
structure NormSet where
  count : Nat := 0
  ssq : Nat := 0
  ovf : Bool := false
  nan : Bool := false
  failed : Bool := false
  fault : Nat := 0
  noise : Bool := false
  slots : List (Nat × Nat) := []
  senders : List (Nat × Nat × Nat × Nat) := []
  seq : BitVec 32 := 0
  closing : Bool := false
  late : List NormBatch := []
  deriving DecidableEq, Repr

/-- A peer's request that this module has accepted and not yet performed (R282, R322): source, VC, type and body. -/
structure PeerReq where
  src : Nat
  vc : Nat
  typ : Nat
  body : List Byte
  deriving DecidableEq, Repr

/-- An answer that came before its request was acknowledged (R321): status, data, and how much of it has landed flit by flit. -/
structure EarlyAnswer where
  status : Nat
  bytes : List Byte
  landed : Nat
  deriving DecidableEq, Repr

/-- Who waits for the answer that carries a tag (R316, R318). -/
inductive Waiter where
  | thread (t pc : Nat) (owner : Option CmdRef)
  | txn (tile id : Nat)
  | wheel (src : Nat)
  | fill (k : CmdRef) (at0 : Nat)
  | piste (k : CmdRef)
  | lap (i id src : Nat)
  deriving DecidableEq, Repr

/-- An image arriving in chunks from one source (R638, R640): IMAGE, KIND, its length, vat offset and CRC, and the chunks by
number. -/
structure FwImg where
  image : Nat
  kind : Nat
  total : Nat
  dst : Nat
  crc : Nat
  chunks : SMap (List Byte) := []
  deriving DecidableEq, Repr

/-- The management controller's firmware and licence as the flash holds them (R617, R624): slots A and B, the installed and
the pending licence, the running slot (0 none, 1 A, 2 B), images arriving by source, images sent so far, and the slot that a management
image loaded over the torus is to start from (R640; 0 none). -/
structure Firmware where
  slotA : List Byte := []
  slotB : List Byte := []
  lic : List Byte := []
  pend : List Byte := []
  run : Nat := 0
  imgs : SMap FwImg := []
  seq : BitVec 32 := 0
  prefer : Nat := 0
  deriving DecidableEq, Repr

/-- A saved-setting record (R597): its 32-byte tag and its payload. -/
structure Setting where
  tag : BitVec 256
  payload : List Byte
  deriving DecidableEq, Repr

/-- The DRAM tiers and the error codes beside their registers (R263, R266, R274, R275, R278 to R283, R660): the DIMMs in the far
sockets; the units of a tier as mapped (0 far, 1 near), physical numbers ascending; the hours of the last fifteen corrections of a
unit, by the unit's entry of R636; corrected lines to be written back, with where they were corrected last; the places each line was
corrected at since its last write-back, and before it; near columns being remapped (stack, INDEX of R636); spare columns in use, by stack * 2048 +
pseudo-channel * 64 + bank; the scrub pass in which a channel entered spare-device mode; rows that reached ACT_LIMIT in this refresh
window, and units whose queue is above its threshold, by unit (near from 24); channels throttled for overdraw. -/
structure Dram where
  dimms : SMap Dimm := []
  units : SMap (List Nat) := []
  recent : SMap (List Nat) := []
  scrubs : SMap CodeErrors := []
  seen : SMap (List CodeErrors) := []
  fixed : SMap (List CodeErrors) := []
  remaps : List (Nat × Nat) := []
  spares : SMap Nat := []
  spareAt : SMap Nat := []
  rows : List (Nat × Nat) := []
  hot : List Nat := []
  overdraw : List Nat := []
  deriving DecidableEq, Repr

/-- The start of the module and what it watches (R579 to R607, R659 to R662): power applied; stages 0, 1 and 2 complete and
stage 2 begun; the lift under way and whether its BIST runs; lifts ended; tiles whose rail failed twice, those to be ramped once
more, those powered; the crystal: 0 waiting its delay, 1 in its window, 2 waiting to repeat, 3 watched, 4 lost; whether its last
window failed; PLL tries; per domain, the target (NUM, DEN, from the PLL) of a ramp and the frequency reached, in Hz (0: stopped);
tiles that stretch their clock; the edges dropped for the input current (0 none, else one in that many); episodes recorded
(R605, R606, R659, R661) by number; whether the coolant trip's time runs, whether a coolant trip has held; units to be
retrained, the one that retrains, failures in a row by unit; whether stage 3 was refused; failed health tests in a row; whether the ROM
has read the slots (R618); the OVERFLOW flag as the start found it (R637); whether the power controller has set the core's target (R591);
transmit swings in mV, 0 of the Jurvo ports and 1 of CXL (R630). -/
structure Boot where
  powered : Bool := false
  done0 : Bool := false
  flash : Bool := false
  done1 : Bool := false
  done2 : Bool := false
  lift : Option (Nat × Bool) := none
  liftsEnded : Nat := 0
  rails : Nat := 0
  again : Nat := 0
  liveTiles : Nat := 0
  lifted : Nat := 0
  xtal : Nat := 0
  badWindow : Bool := false
  pllTries : Nat := 0
  goal : SMap (Nat × Nat × Bool) := []
  freq : SMap Nat := []
  droop : List Nat := []
  dropped : Nat := 0
  episodes : List Nat := []
  coolTimer : Bool := false
  coolTrip : Bool := false
  marked : List SettingUnit := []
  retraining : Option SettingUnit := none
  fails : SMap Nat := []
  refused : Bool := false
  rngFails : Nat := 0
  selected : Bool := false
  listFull : Bool := false
  coreSet : Bool := false
  swing : SMap Nat := []
  deriving DecidableEq, Repr

/-- A secured session (R621): the connection it was opened over, and whether FINISH has completed it. -/
structure Session where
  transport : Nat
  live : Bool
  deriving DecidableEq, Repr

/-- A BIST command under way (R633, R634): its reference, the dies selected, the groups still to test (six tiles, or one rind
die), what is tested, whether failures are appended, where results go, and how many dies have failed. -/
structure BistRun where
  k : CmdRef
  dies : List Nat
  todo : List (List Nat)
  lbist : Bool
  mbist : Bool
  retire : Bool
  res : Nat
  failed : Nat := 0
  deriving DecidableEq, Repr

/-- Trust and side band (R527, R616, R621 to R623, R641, R656): SPDM versions agreed by transport (0 and 1 the DOE mailbox of a
port, 2 and 3 MCTP) and how far each connection has come (1 version, 2 capabilities, 3 algorithms), sessions by number, requests
that wait for the random source (with their request code), the dynamic I3C address, the BIST command under way, the summary
record in BAR0 with SNAP, the record that MCTP reads page by page, records assembled, IDE keys with whether they are in use,
by port * 2^16 + stream * 2^8 + key set * 2^5 + direction * 2^4 + sub-stream, and the kinds of the IDE streams, by port * 2^8 + stream. -/
structure Trust where
  vers : SMap Nat := []
  phase : SMap Nat := []
  sessions : SMap Session := []
  stalled : List (Nat × Spdm) := []
  i3c : Option (BitVec 7) := none
  bist : Option BistRun := none
  bar0 : List Byte := []
  snap : BitVec 32 := 0
  mctp : List Byte := []
  rseq : BitVec 32 := 0
  ide : SMap (List Byte × Bool) := []
  ideKinds : SMap IdeKind := []
  deriving DecidableEq, Repr

/-- What left the block: an MSI-X message, a reply or data toward a transport or the host. -/
inductive Out where
  | msix (port vec : Nat)
  | reply (transport : Nat) (bytes : List Byte)
  | hostData (port : Nat) (bytes : List Byte) (poisoned : Bool)
  | flit (port : Nat) (f : Flit)
  deriving DecidableEq, Repr

/-- The whole module. -/
structure State where
  /-- The commands that are waiting, first in, first out. -/
  pending : List Instr
  /-- Cycles of the core clock since the compute part came up, as a tile that never stretched it has seen them (R117). -/
  cycle : Nat
  /-- Edges of the core clock before any is dropped, and the cycles a tile has missed by stretching its clock (R593, R607). -/
  edges : Nat
  lost : SMap Nat
  /-- The model's own counter of free values (log entry 2). -/
  free : Nat
  /-- R667: the fuses have been loaded. -/
  loaded : Bool
  /-- R667: fuse and flash fields whose held value changed since the load. -/
  held : SMap Nat
  /-- Register fields that differ from what an unlisted field reads (R12, R14). -/
  flds : SMap Nat
  /-- Far, near, vat and scratchpad bytes by local address (R44, R45). -/
  mem : Memory
  /-- Poisoned lines by line number (R284). -/
  poison : SMap Bool
  /-- Glide tags of scratchpad lines by line number (R96). -/
  ltags : SMap LineTag
  /-- Host memory as the module wrote it, by port and address (R506). -/
  host : SMap Byte
  threads : SMap Thread
  cores : SMap Core
  /-- Barrier objects in use, by address (R82, R83). -/
  bars : SMap Bool
  /-- Launches in progress, by stream * 2^32 + sequence number (R513). -/
  launches : SMap Launch
  tiles : SMap Tile
  /-- Stream commands accepted and not yet committed, by stream * 2^32 + sequence number. -/
  cmds : SMap Cmd
  /-- The stream front end (R508, R509, R523), by stream. -/
  streams : SMap Stream
  /-- Pin slots by holder (R369): core, 1000 + tile, 2000 for the wheel unit. -/
  pins : SMap Pins
  /-- Operations of the wheel unit under way, the active one first (R378). -/
  wops : List WheelOp
  /-- Page-frame records awaiting reclaim (R370). -/
  reclaim : List Nat
  /-- The allocation under way whose pool is empty (R372), the KV.PUTs that wait for the wheel unit (R378), and park events since the
  start (R375). -/
  tried : Option Trial
  kvLine : List KvWait
  kvSeq : BitVec 32
  /-- Regions of the DRAM tiers initialised since mapping, by tier * 2^20 + region (R270). -/
  inited : SMap Bool
  /-- CHECKPOINT commands under way (R567, R568), by stream * 2^32 + sequence number. -/
  chks : SMap Chk
  /-- A step record that waits for room, and whether HOLD clears with it (R564, R573); records written since power-on. -/
  jobRec : Option (Nat × Bool)
  srSeq : BitVec 32
  /-- The INGEST command under way, those that reached the engine and wait, and the samples in the decode pipelines (R535, R540). -/
  ingest : Option Ingest
  ingLine : List CmdRef
  pipes : SMap Pipe
  /-- A compute-part reset: 0 none, 1 held, 2 to 5 the bring-up step that runs (R602 to R604). -/
  cpr : Nat
  links : SMap LinkPort
  /-- Lap VCs: 0 for VC2, 1 for VC3. -/
  laps : SMap LapVc
  /-- Reduction entries' working state, by handle (R425); norm sets (R454). -/
  relays : SMap Relay
  norms : SMap NormSet
  /-- Send flows by destination * 16 + VC (R320). -/
  sends : SMap SendFlow
  /-- Receive entries by source * 16 + VC (R320). -/
  recvs : SMap RecvFlow
  /-- START_ID and FCOUNT (R324). -/
  startId : BitVec 8
  fcount : BitVec 8
  /-- The EPOCH of the last failed flow of a destination and VC in whose place none has opened since (R324). -/
  failedEp : SMap (BitVec 16)
  /-- Requests to peers awaiting an answer, by tag, and the next tag. -/
  waiters : SMap Waiter
  nextTag : Nat
  /-- R631: the MGMT packets that this module originates are stopped. -/
  mgmtStop : Bool
  /-- Peers' requests accepted that wait for a line or a bank, in their order (R282, R322). -/
  inbox : List PeerReq
  /-- Answers whose request is not acknowledged yet, by tag (R321). -/
  early : SMap EarlyAnswer
  /-- The set of retired ports: module ID * 8 + port (R334). -/
  retired : List Nat
  /-- The lanes of each port that this end has retired (R331, R340). -/
  ownLanes : SMap Nat
  /-- The lanes of each port that its peer has retired (R303, R340). -/
  peerLanes : SMap Nat
  /-- BAR4's size in force at a port, as a power of two, from its last sizing (R505); 30 where none is listed. -/
  bar4 : SMap Nat
  /-- Pistes 0 to 15, each 1,152 bits (R330). -/
  pistes : SMap Nat
  /-- Defect entries appended since power-on (R636), bits [55:0], oldest first. -/
  defects : List Nat
  /-- Defect entries that found the list full: retired for this power-on only (R637). -/
  unstored : List Nat
  /-- Firmware, licence and images (R617 to R619, R638 to R640). -/
  fw : Firmware
  dram : Dram
  /-- Saved-setting records written since the flash was as Config says, by KIND + UNIT * 16 (R597). -/
  settings : SMap Setting
  boot : Boot
  trust : Trust
  /-- Fault-log records (R671). -/
  flog : SMap (BitVec 128)
  /-- Fault-log records since power-on (R671). -/
  flogCount : BitVec 32
  /-- MSI-X table entries and pending bits, by port * 2048 + vector (R526). -/
  msix : SMap (BitVec 128)
  msixPend : SMap Bool
  /-- MSI-X Enable and Function Mask of each port's function 0 (R499, R526). -/
  msixCtl : SMap MsixCtl
  /-- What left the block, oldest first. -/
  out : List Out
  deriving DecidableEq, Repr

/-- The module right after power-on reset. -/
def State.reset : State where
  pending := []
  cycle := 0
  edges := 0
  lost := []
  free := 0
  loaded := false
  held := []
  flds := []
  mem := []
  poison := []
  ltags := []
  host := []
  threads := []
  cores := []
  bars := []
  launches := []
  tiles := []
  cmds := []
  streams := []
  pins := []
  wops := []
  reclaim := []
  tried := none
  kvLine := []
  kvSeq := 0
  inited := []
  chks := []
  jobRec := none
  srSeq := 0
  ingest := none
  ingLine := []
  pipes := []
  cpr := 0
  links := []
  laps := []
  relays := []
  norms := []
  sends := []
  recvs := []
  startId := 0
  fcount := 0
  failedEp := []
  waiters := []
  nextTag := 0
  mgmtStop := false
  inbox := []
  early := []
  retired := []
  ownLanes := []
  peerLanes := []
  bar4 := []
  pistes := []
  defects := []
  unstored := []
  fw := {}
  dram := {}
  settings := []
  boot := {}
  trust := {}
  flog := []
  flogCount := 0
  msix := []
  msixPend := []
  msixCtl := []
  out := []

end Sys2Proof.Machine
end

