-- ==== Sys2Proof/Machine/Ops.lean ====
section
/-! DEFINITION. The named operations over the state that every family shares: register fields, the fault log, addresses and
their checks, memory with poison, barriers, and what a fault does to a thread and its launch. -/

namespace Sys2Proof

/-- The key of a thread: tile * 2048 + core * 128 + thread. -/
def Tid.code (t : Tid) : Nat := t.tile.val * 2048 + t.core.val * 128 + t.th.val

/-- The key of a core: tile * 16 + core. -/
def Cid.code (c : Cid) : Nat := c.tile.val * 16 + c.core.val

/-- The key of a stream command. -/
def CmdRef.code (k : CmdRef) : Nat := k.stream.val * 2 ^ 32 + k.seq.toNat

end Sys2Proof

namespace Sys2Proof.Machine

/-- A little-endian number of n bytes at a place of a list. -/
def numAt (bs : List Byte) (off n : Nat) : Nat := leNat ((bs.drop off).take n)

/-- The core of a thread key. -/
def coreOf (t : Nat) : Nat := t / 128

/-- The tile of a thread key. -/
def tileOf (t : Nat) : Nat := t / 2048

/-- The number of a thread within its core. -/
def thOf (t : Nat) : Nat := t % 128

/-- The core within its tile, of a core key. -/
def coreIdx (c : Nat) : Nat := c % 16

/-! Register fields -/

/-- R14, R667: what a field reads while nothing has changed it. -/
def State.resetVal (s : State) (f : Fld) : Nat :=
  match f.rst with
  | .num n => n
  | .fuse => if s.loaded then s.held.getD f.key (fuseVal f) else 0
  | .flash => if s.boot.flash then s.held.getD f.key (flashVal f) else 0

/-- The current value of a field. -/
def State.fld (s : State) (f : Fld) : Nat :=
  match SMap.find s.flds f.key with
  | some v => v
  | none => s.resetVal f

/-- Give a field a value. -/
def State.setFld (s : State) (f : Fld) (v : Nat) : State :=
  { s with flds := SMap.set s.flds f.key (v % 2 ^ f.len) }

/-- R667: change the held value of a fuse or flash field, which resets keep. -/
def State.setHeld (s : State) (f : Fld) (v : Nat) : State :=
  { s with held := SMap.set s.held f.key (v % 2 ^ f.len), flds := SMap.erase s.flds f.key }

/-- Count up, wrapping at the field's width. -/
def State.incFld (s : State) (f : Fld) (n : Nat := 1) : State := s.setFld f (s.fld f + n)

/-- Count up, saturating at the field's width. -/
def State.satFld (s : State) (f : Fld) (n : Nat := 1) : State :=
  s.setFld f (min (s.fld f + n) (2 ^ f.len - 1))

/-- Set a one-bit field when a condition holds. -/
def State.flagFld (s : State) (f : Fld) (c : Bool) : State := if c then s.setFld f 1 else s

/-- Is a one-bit field set? -/
def State.isSet (s : State) (f : Fld) : Bool := s.fld f = 1

/-- R15: the fields of the blocks from one offset up to another take their reset values again. -/
def State.resetBlocks (s : State) (lo hi : Nat) : State :=
  { s with flds := s.flds.filter (fun e => e.1 < lo * 64 ∨ hi * 64 ≤ e.1) }

/-- The next free value, as a number below 2^n (log entry 2). -/
def State.freeVal (s : State) (n : Nat) : Nat := (Config.freeValue s.free).toNat % 2 ^ n

/-- A free value has been used. -/
def State.useFree (s : State) : State := { s with free := s.free + 1 }

/-! Interrupts and the fault log -/

/-- R526: MSI-X Enable and Function Mask of a port's function. -/
def State.msixOf (s : State) (port : Nat) : MsixCtl := s.msixCtl.getD port {}

/-- R526: is a vector masked? It is while its function has MSI-X off or masked (log entry 12). The vector-control word's mask bit is bit 96
of an entry; an entry nobody wrote is masked. -/
def State.vecMasked (s : State) (k : Nat) : Bool :=
  !(s.msixOf (k / 2048)).enable || (s.msixOf (k / 2048)).mask || (s.msix.getD k (1#128 <<< 96)).getLsbD 96

/-- R526, R500: raise an MSI-X vector of a port: a message, or its pending bit while it is masked or the port is down. -/
def State.raiseVec (s : State) (port vec : Nat) : State :=
  let k := port * 2048 + vec % 2048
  if s.vecMasked k ∨ s.fld (Fd.HST_PORT_STAT_MODE port) = 0 then { s with msixPend := s.msixPend.set k true }
  else { s with out := s.out ++ [.msix port (vec % 2048)] }

/-- R526, R500: the pending vectors of a port that are no longer held back leave. -/
def State.flushVecs (s : State) (port : Nat) : State :=
  if s.fld (Fd.HST_PORT_STAT_MODE port) = 0 then s
  else
    let go := (s.msixPend.map (·.1)).filter (fun k => k / 2048 = port && !s.vecMasked k)
    { s with
      msixPend := s.msixPend.filter (fun e => !go.contains e.1)
      out := s.out ++ go.map (fun k => .msix port (k % 2048)) }

/-- R671, R121: append a record to the fault log, advancing FTAIL and FOVER when it is full, and raise FLOG_VEC. -/
def State.logRec (s : State) (code source detail : Nat) : State :=
  let h := s.fld Fd.HST_FLOG_PTR_FHEAD
  let n := s.flogCount + 1
  let r : BitVec 128 := BitVec.ofNat 128
    (code % 2 ^ 16 + source % 2 ^ 8 * 2 ^ 16 + detail % 2 ^ 40 * 2 ^ 24
      + s.fld Fd.JOB_STEP_STEP * 2 ^ 64 + n.toNat * 2 ^ 96)
  let full := (h + 1) % 256 = s.fld Fd.HST_FLOG_PTR_FTAIL
  let s := if full then (s.incFld Fd.HST_FLOG_PTR_FTAIL).incFld Fd.HST_FLOG_PTR_FOVER else s
  let s := { s with flog := s.flog.set h r, flogCount := n }
  let s := s.incFld Fd.HST_FLOG_PTR_FHEAD
  if s.isSet Fd.HST_IRQ_CTL_FLOG_VEC_EN then
    s.raiseVec (s.fld Fd.HST_IRQ_CTL_EVT_PORT) (s.fld Fd.HST_IRQ_CTL_FLOG_VEC)
  else s

/-- R671: record a code that names no subject, with the SOURCE of its area. -/
def State.log (s : State) (code : Nat) (detail : Nat := 0) : State :=
  let area := code / 256
  let source :=
    if area = 0xA then 0 else if area = 5 then 3 else if area = 6 then 4
    else if area = 7 then 6 else if area = 9 then 5 else 7
  let detail := if area = 0xC then s.fld Fd.JOB_CTL_JOB else detail
  s.logRec code source detail

/-! The panel -/

/-- R604: the compute part is up. -/
def State.computeUp (s : State) : Bool := s.isSet Fd.PWR_STAGE_COMPUTE_UP

/-- R25, R53: tile t is in service. -/
def State.tileOn (s : State) (t : Nat) : Bool := bitAt (s.fld Fd.MC_PANEL_TILES_TILE_EN) t

/-- The tiles in service, ascending. -/
def State.tilesOn (s : State) : List Nat := (List.range 36).filter s.tileOn

/-- R42: this module's ID. -/
def State.moduleId (s : State) : Nat := s.fld Fd.JL_TORUS_MODULE_ID

/-- R636: a defect entry's unit: its bits [47:0] with SOURCE zero. -/
def unitOf (e : Nat) : Nat := setBits (e % 2 ^ 48) 4 4 0

/-- R646, R667: the entries the flash held at the start, and entry j of them. -/
def State.flashDefects (s : State) : Nat := if s.boot.flash then flashVal Fd.BIST_STAT_ENTRIES else 0

/-- R636: the CHECK of a defect entry: CRC-8 with polynomial 0x07 over its bits [55:0], the lowest byte first, each from its
highest bit (log entry 51). -/
def crc8 (v : Nat) : Nat :=
  (List.range 7).foldl (fun c i =>
    (List.range 8).foldl (fun c _ => if 128 ≤ c then (2 * c) % 256 ^^^ 7 else 2 * c) (c ^^^ (v / 256 ^ i % 256))) 0

/-- R636: the two copies of entry j of the flash list, in separate sectors. -/
def flashCopy (second : Bool) (j : Nat) : Nat := (Config.flash ((0x500000 + 0x1000 + 8 * j) * 64 + b2n second)).toNat

/-- R636: an entry passes its CHECK. -/
def defectValid (e : Nat) : Bool := decide (bits e 56 8 = crc8 e)

/-- R636, R646: entry j of the flash list at the start: the copy that passes its CHECK. -/
def flashDefect (j : Nat) : Nat := if defectValid (flashCopy false j) then flashCopy false j else flashCopy true j

/-- R636: no entry of the flash list has lost both its copies. -/
def flashListOk : Bool :=
  (List.range (flashVal Fd.BIST_STAT_ENTRIES)).all (fun j => defectValid (flashDefect j))

/-- R635: the effective list: fused, flash, and appended since. -/
def State.effective (s : State) : List Nat :=
  (if s.loaded then fusedMap else [])
    ++ (List.range s.flashDefects).map flashDefect ++ s.defects ++ s.unstored

/-- R635: a unit is retired. -/
def State.unitRetired (s : State) (kind die sub index : Nat) : Bool :=
  let u := kind + die * 2 ^ 8 + sub * 2 ^ 16 + index * 2 ^ 24
  s.effective.any (fun e => decide (unitOf e = u))

/-! Core cycles (R117, R593, R607) -/

/-- The cycles that each core of a tile has counted: a dropped edge is not a cycle. -/
def State.coreCycle (s : State) (t : Nat) : Nat := s.cycle - s.lost.getD t 0

/-- Is this edge of a clock that drops one in n the dropped one? -/
def State.edgeDropped (s : State) (n : Nat) : Bool := decide (n ≠ 0) && decide (s.edges % n = n - 1)

/-- R117: one edge of the core clock, while the compute part is up: a cycle of every core, unless the input-current limit drops it
(R607); a tile that stretches its clock misses one in 16 (R593). What a row of the command table names happens at that row, not
here (log entry 1). -/
def State.tick (s : State) : State :=
  if !s.computeUp then s
  else
    let t : State := { s with edges := s.edges + 1 }
    if s.edgeDropped s.boot.dropped then t
    else
      { t with
        cycle := s.cycle + 1
        lost := if s.edgeDropped 16 then s.boot.droop.foldl (fun m d => SMap.set m d (m.getD d 0 + 1)) s.lost else s.lost }

/-! Addresses -/

/-- R44, R45: where a local address lies. -/
inductive Region where
  | far | near
  | vat (t : Nat) | scratch (t c : Nat) | tileHole (t : Nat)
  | csr (off : Nat)
  | host
  | reserved
  deriving DecidableEq, Repr

/-- R44, R45: the region of a local address. -/
def regionOf (a : Nat) : Region :=
  if a < 0x100000000000 then .far
  else if a < 0x110000000000 then .near
  else if a < 0x110240000000 then
    let o := a - 0x110000000000
    let t := o / 0x10000000
    let w := o % 0x10000000
    if w < 0x4000000 then .vat t
    else if w < 0x8000000 then .tileHole t
    else .scratch t ((w - 0x8000000) / 0x800000)
  else if a < 0x120000000000 then .reserved
  else if a < 0x120003400000 then .csr (a - 0x120000000000)
  else if a < 0x200000000000 then .reserved
  else if a < 0x400000000000 then .host
  else .reserved

/-- R44: the base of a tile's window. -/
def tileBase (t : Nat) : Nat := 0x110000000000 + t * 0x10000000

/-- R45: the base of a core's scratchpad. -/
def scratchBase (t c : Nat) : Nat := tileBase t + 0x8000000 + c * 0x800000

/-- R264, R265, R269: the bytes a tier backs. -/
def State.tierSize (s : State) (k : Tier) : Nat :=
  if s.isSet (Fd.MAP_CTL_MAP_EN k) then s.fld (Fd.MAP_CTL_UNITS k) * s.fld (Fd.MAP_CTL_UNIT_GIB k) * 2 ^ 30 else 0

/-- R505, R506: is window i open? -/
def State.winOpen (s : State) (i : Nat) : Bool :=
  s.isSet (Fd.DVSEC_WIN_LOCK i) && s.fld (Fd.DVSEC_WIN_PORT i) ≠ 3 && s.fld (Fd.DVSEC_WIN_SIZE_LOG i) ≠ 0xFF

/-- R505: the local addresses of window i, from and up to. LOCAL names address bits [45:30]. -/
def State.winRange (s : State) (i : Nat) : Nat × Nat :=
  let b := s.fld (Fd.DVSEC_WIN_LOCAL i) * 2 ^ 30
  (b, b + 2 ^ (s.fld (Fd.DVSEC_WIN_SIZE_LOG i) + 30))

/-- R506: the lowest-numbered open window that holds a local address. -/
def State.winAt (s : State) (a : Nat) : Option Nat :=
  (List.range 16).find? (fun i => s.winOpen i && decide ((s.winRange i).1 ≤ a) && decide (a < (s.winRange i).2))

/-- R506: the port and host physical address of a local address in window i; PORT 2 interleaves by 4 KiB. -/
def State.winHost (s : State) (i a : Nat) : Nat × Nat :=
  let o := a - (s.winRange i).1
  let hpa := s.fld (Fd.DVSEC_WIN_HPA_HPA i) * 4096 + o
  let p := s.fld (Fd.DVSEC_WIN_PORT i)
  (if p = 2 then o / 4096 % 2 else p, hpa)

/-- Who makes an access (R47, R48, R350). -/
inductive Req where
  | thread | engine | peer | host
  deriving DecidableEq, Repr

/-- R350: the protected range of the KV tables holds a local address. -/
def State.kvProt (s : State) (a : Nat) : Bool :=
  decide (s.fld Fd.KV_PROT_BASE * 4096 ≤ a)
    && decide (a < s.fld Fd.KV_PROT_BASE * 4096 + s.fld Fd.KV_PROT_SIZE_MIB * 2 ^ 20)

/-- R44 to R47, R350: the fault one byte of an access raises, or 0. A peer's access to a host window answers 0x0503 whether the window
is open or not, and one to a block of index 0x0E or 0x0F answers 0x0502: R46 and R47 both name them and no rule orders the two
(DESIGN CHOICE, log entry 100). The host's accesses meet the protected range at BAR4 (State.bar4Fault). -/
def State.byteFault (s : State) (w : Req) (a : Nat) : Nat :=
  match regionOf a with
  | .reserved => 0x0501
  | .tileHole _ => 0x0501
  | .far => if s.tierSize .far ≤ a then 0x0502 else if s.kvProt a ∧ w ≠ .host then 0x0709 else 0
  | .near => if 0x100000000000 + s.tierSize .near ≤ a then 0x0502 else 0
  | .vat t => if s.tileOn t && s.computeUp then 0 else 0x0502
  | .scratch t _ => if s.tileOn t && s.computeUp then 0 else 0x0502
  | .csr off =>
    let b := off / 0x100000
    if b = 0xE ∨ b = 0xF then 0x0502
    else match w with
      | .host => 0
      | .thread => if 0x10 ≤ b ∨ b = 0xD ∨ b = 0xB ∨ b = 0xC then 0 else 0x0503
      | _ => 0x0503
  | .host => if w = .peer then 0x0503 else if (s.winAt a).isNone then 0x0502 else 0

/-- The lower of two faults, 0 being none: the order of addr in R473. -/
def firstFault (a b : Nat) : Nat := if a = 0 then b else if b = 0 then a else min a b

/-- Where the answer of State.byteFault may change: the bounds of the map's regions, of the tiers' populated ranges, of the protected
range and of the windows. All of them are multiples of 4 KiB. -/
def State.faultEdges (s : State) : List Nat :=
  [s.tierSize .far, 0x100000000000, 0x100000000000 + s.tierSize .near, 0x110240000000, 0x120003400000, 0x200000000000, 0x400000000000,
    s.fld Fd.KV_PROT_BASE * 4096, s.fld Fd.KV_PROT_BASE * 4096 + s.fld Fd.KV_PROT_SIZE_MIB * 2 ^ 20]
    ++ (List.range 36).flatMap (fun t => [tileBase t, tileBase t + 0x4000000, tileBase t + 0x8000000])
    ++ (List.range 0x34).map (fun b => 0x120000000000 + b * 0x100000)
    ++ (List.range 16).flatMap (fun i => [(s.winRange i).1, (s.winRange i).2])

/-- The addresses that decide for every byte of an access of n > 0 bytes: its ends, and the edges between them. Up to 4 KiB
the ends decide. -/
def State.probes (s : State) (a n : Nat) : List Nat :=
  a :: (a + n - 1) :: (if n ≤ 4096 then [] else s.faultEdges.filter (fun e => decide (a < e) && decide (e < a + n)))

/-- R473: the first fault over every byte of an access of n > 0 bytes. -/
def State.addrFault (s : State) (w : Req) (a n : Nat) : Nat :=
  (s.probes a n).foldl (fun f x => firstFault f (s.byteFault w x)) 0

/-- R269: an access to a tier that is no longer mapped, after it was accepted: 0x0502, or 0. -/
def State.tierFault (s : State) (a n : Nat) : Nat :=
  let out (x : Nat) : Bool := match regionOf x with
    | .far => decide (s.tierSize .far ≤ x)
    | .near => decide (0x100000000000 + s.tierSize .near ≤ x)
    | _ => false
  if n ≠ 0 ∧ (out a ∨ out (a + n - 1)) then 0x0502 else 0

/-- R41: the module field and the local address of a device address. -/
def devSplit (a : Nat) : Nat × Nat := (a / 2 ^ 46 % 2 ^ 18, a % 2 ^ 46)

/-- R42: does a module ID mean this module? -/
def State.isSelf (s : State) (m : Nat) : Bool := m = 0x3FFFF || m = s.moduleId

/-! Memory -/

/-- R270: one 1 GiB region of a tier is initialised: counted once; INIT_DONE sets after the last. -/
def State.initRegion (s : State) (k : Tier) (r : Nat) : State :=
  let key (x : Nat) := (if k = .far then 0 else 2 ^ 20) + x
  let n := s.fld (Fd.MAP_CTL_REGIONS k)
  if s.isSet (Fd.MAP_CTL_MAP_EN k) ∧ r < n ∧ !(s.inited.getD (key r) false) then
    let s := { s with inited := s.inited.set (key r) true }
    let s := s.incFld (Fd.MEM_INIT_DONE k)
    let s := s.setFld (Fd.MEM_INIT_NEXT k) (((List.range n).find? (fun x => !(s.inited.getD (key x) false))).getD n)
    s.flagFld (Fd.MAP_CTL_INIT_DONE k) (s.fld (Fd.MEM_INIT_DONE k) = n)
  else s

/-- R270: an access to a byte of an uninitialised region has that region initialised out of turn first. -/
def State.touch1 (s : State) (a : Nat) : State :=
  match regionOf a with
  | .far => s.initRegion .far (a / 2 ^ 30)
  | .near => s.initRegion .near ((a - 0x100000000000) / 2 ^ 30)
  | _ => s

/-- R270: an access of n bytes, whose ends decide the regions it touches (an access never spans three). -/
def State.touch (s : State) (a n : Nat) : State := if n = 0 then s else (s.touch1 a).touch1 (a + n - 1)

/-- The line of an address (R259). -/
def lineOf (a : Nat) : Nat := a / 64

/-- The lines an access of n bytes touches. -/
def linesOf (a n : Nat) : List Nat :=
  if n = 0 then [] else (List.range ((a + n - 1) / 64 - a / 64 + 1)).map (a / 64 + ·)

/-- R266: where a near or far address lies in DRAM: the unit as the tier was mapped, the pseudo-channel (near) or subchannel (far), the
bank, and the place, which selects rank, row and column. -/
structure DramAt where
  unit : Nat
  sub : Nat
  bank : Nat
  place : Nat
  deriving DecidableEq, Repr

/-- R266: the bank group of a far bank, and the bank within it. -/
def farBank (bank : Nat) : Nat × Nat := (bits bank 2 3, bits bank 0 2)

/-- R266: the place of a near or far address. -/
def State.dramPlace (s : State) (k : Tier) (a : Nat) : DramAt :=
  let us := s.dram.units.getD (if k = .far then 0 else 1) []
  let n := us.length
  let key := s.fld (Fd.HASH_KEY_KEY k)
  let g := if k = .far then a / 2 ^ 7 else (a - 0x100000000000) / 2 ^ 11
  let q := if n = 0 then 0 else g / n
  let r := if n = 0 then 0 else g % n
  let unit := us.getD (if n = 0 then 0 else (r + permP key q % 2 ^ 32) % n) 0
  if k = .far then
    { unit := unit, sub := bits a 6 1, bank := (q % 32) ^^^ (bits (permP key (q / 32)) 32 5), place := q / 32 }
  else { unit := unit, sub := bits a 6 5, bank := (q % 64) ^^^ (bits (permP key (q / 64)) 32 6), place := q / 64 }

/-- R660: a line homed on a channel whose socket's fuse is open. -/
def State.lineDead (s : State) (l : Nat) : Bool :=
  decide (s.fld Fd.PWR_CARRIER_DIMM_OFF ≠ 0) && decide (regionOf (l * 64) = .far)
    && bitAt (s.fld Fd.PWR_CARRIER_DIMM_OFF) (s.dramPlace .far (l * 64)).unit

/-- R636: the pseudo-channel and bank of a near column's INDEX, as pseudo-channel * 64 + bank. -/
def columnBank (index : Nat) : Nat := index / 2 ^ 12 % 2048

/-- R600: a far channel or near stack is being retrained. -/
def State.unitRetrains (s : State) (k : Tier) (u : Nat) : Bool :=
  match s.boot.retraining with
  | some (.channel c) => k = .far && c.val = u
  | some (.stack c) => k = .near && c.val = u
  | _ => false

/-- R282, R600: some DRAM requests are held: a column is remapped, or a unit retrains. -/
def State.holdsLines (s : State) : Bool := s.dram.remaps ≠ [] || s.boot.retraining.isSome

/-- R282, R600: while a column is remapped, requests to its bank are held; while a unit retrains, requests to it. -/
def State.lineHeld (s : State) (l : Nat) : Bool :=
  match regionOf (l * 64) with
  | .far => s.unitRetrains .far (s.dramPlace .far (l * 64)).unit
  | .near =>
    let p := s.dramPlace .near (l * 64)
    s.unitRetrains .near p.unit || s.dram.remaps.any (fun e => e.1 = p.unit && columnBank e.2 = p.sub * 64 + p.bank)
  | _ => false

/-- R282, R600: an access meets a held bank or unit. -/
def State.banksHeld (s : State) (a n : Nat) : Bool := s.holdsLines && (linesOf a n).any s.lineHeld

/-- R282, R600: some access of several meets a held bank or unit. -/
def State.anyHeld (s : State) (l : List (Nat × Nat)) : Bool := s.holdsLines && l.any (fun r => s.banksHeld r.1 r.2)

/-- R284, R660: does a line read as poisoned? -/
def State.badLine (s : State) (l : Nat) : Bool := s.poison.getD l false || s.lineDead l

/-- R284: does an access touch a poisoned line? -/
def State.poisoned (s : State) (a n : Nat) : Bool := (linesOf a n).any s.badLine

/-- R270, R284: mark lines poisoned, their regions initialised first. -/
def State.poisonLines (s : State) (ls : List Nat) : State :=
  let s := ls.foldl (fun s l => s.touch1 (l * 64)) s
  { s with poison := ls.foldl (fun p l => SMap.set p l true) s.poison }

/-- R506: read one byte of host memory. -/
def State.hostGet (s : State) (port hpa : Nat) : Byte :=
  s.host.getD (port * 2 ^ 64 + hpa) (Config.hostByte port hpa)

/-- Read one byte at a local address: memory of the module, or host memory through its window. -/
def State.byteAt (s : State) (a : Nat) : Byte :=
  if regionOf a = .host then
    match s.winAt a with
    | some i => let h := s.winHost i a; s.hostGet h.1 h.2
    | none => 0
  else s.mem.get a

/-- Read n bytes at a local address. -/
def State.readBytes (s : State) (a n : Nat) : List Byte := (List.range n).map (fun i => s.byteAt (a + i))

/-- Read a number of n bytes at a local address. -/
def State.readNat (s : State) (a n : Nat) : Nat := leNat (s.readBytes a n)

/-- R506: a host-window byte that the module may not write. -/
def State.roByte (s : State) (a : Nat) : Bool :=
  decide (regionOf a = .host) && (match s.winAt a with
    | some i => s.isSet (Fd.DVSEC_WIN_RO i)
    | none => false)

/-- Put one byte at a local address, with no further effect. -/
def State.putByte (s : State) (a : Nat) (b : Byte) : State :=
  if regionOf a = .host then
    match s.winAt a with
    | some i =>
      if s.isSet (Fd.DVSEC_WIN_RO i) then s
      else let h := s.winHost i a; { s with host := SMap.set s.host (h.1 * 2 ^ 64 + h.2) b }
    | none => s
  else { s with mem := s.mem.set a b }

/-- Put bytes at cells, with no further effect. -/
def State.putCells (s : State) (cells : List (Nat × Byte)) : State :=
  cells.foldl (fun s c => s.putByte c.1 c.2) s

/-- The cells that bytes fill from an address. -/
def cellsFrom (a : Nat) (bs : List Byte) : List (Nat × Byte) := bs.zipIdx.map (fun x => (a + x.2, x.1))

/-- R286, R660: the bytes of a write that fall in one line: a write of fewer than 64 bytes to a poisoned line is discarded, as is one
to a line on a channel without power; a write of all 64 bytes clears poison and glide tag. The flag says that one was discarded. -/
def State.storeLine (s : State) (cells : List (Nat × Byte)) (acc : State × Bool) (l : Nat) : State × Bool :=
  let cs := cells.filter (fun c => lineOf c.1 = l)
  if s.lineDead l then (acc.1, true)
  else if 64 ≤ cs.length then
    ({ acc.1.putCells cs with poison := SMap.erase acc.1.poison l, ltags := SMap.erase acc.1.ltags l }, acc.2)
  else if acc.1.poison.getD l false then (acc.1, true)
  else (acc.1.putCells cs, acc.2)

/-- R270: the regions that the cells of a write lie in are initialised out of turn first. -/
def State.touchCells (s : State) (cells : List (Nat × Byte)) : State :=
  ((cells.map (fun c => c.1 / 0x40000000 * 0x40000000)).eraseDups).foldl State.touch1 s

/-- R279: a write makes a pending scrub write-back of its lines void. -/
def State.voidScrubs (s : State) (ls : List Nat) : State :=
  if s.dram.scrubs = [] then s
  else { s with dram := { s.dram with scrubs := s.dram.scrubs.filter (fun e => !(ls.contains e.1)) } }

/-- R270, R279, R286: bytes reach cells of this module's memory, line by line. Answers whether a write was discarded. -/
def State.write (s : State) (cells : List (Nat × Byte)) : State × Bool :=
  let ls := (cells.map (fun c => lineOf c.1)).eraseDups
  let r := ls.foldl (s.storeLine cells) (s, false)
  ((r.1.touchCells cells).voidScrubs ls, r.2)

/-! Threads and cores -/

/-- A thread: nothing listed means FREE with every register zero (R60). -/
def State.thread (s : State) (t : Nat) : Thread := s.threads.getD t {}

/-- Put a thread. -/
def State.setThread (s : State) (t : Nat) (x : Thread) : State := { s with threads := s.threads.set t x }

/-- A core. -/
def State.core (s : State) (c : Nat) : Core := s.cores.getD c {}

/-- Put a core. -/
def State.setCore (s : State) (c : Nat) (x : Core) : State := { s with cores := s.cores.set c x }

/-- Put a core's array. -/
def State.setArray (s : State) (c : Nat) (x : MatArray) : State := s.setCore c { s.core c with array := x }

/-- R70: the windows a thread participates in, as the GLIDE field. -/
def Thread.glide (x : Thread) : Nat := x.ckpts.foldl (fun a e => a ||| 2 ^ e.1) 0

/-- R70: a thread's status word. -/
def Thread.status (x : Thread) : Nat :=
  x.fault.toNat + x.st.code * 2 ^ 16 + b2n x.regs.held.isSome * 2 ^ 19 + x.glide % 256 * 2 ^ 20
    + b2n (x.regs.ctrl ≠ 0) * 2 ^ 28 + x.faultPc % 2 ^ 24 * 2 ^ 40

/-- R136, R138: give up the lease; the next waiting thread in rotating order receives it. -/
def MatArray.release (a : MatArray) (th : Nat) : MatArray :=
  if a.lease = some th then
    match (List.range 128).find? (fun i => a.wait.contains ((th + 1 + i) % 128)) with
    | some i =>
      let n := (th + 1 + i) % 128
      { a with lease := some n, last := th, wait := a.wait.filter (· ≠ n) }
    | none => { a with lease := none, last := th }
  else { a with wait := a.wait.filter (· ≠ th) }

/-- Change a launch in progress. -/
def State.alterLaunch (s : State) (k : CmdRef) (f : Launch → Launch) : State :=
  { s with launches := SMap.alter s.launches k.code f }

/-- R71, R133, R138: stop one thread with a fault at a place. It ends its participation, drops its loads and gives up the
array lease. -/
def State.haltThread (s : State) (t : Nat) (code : BitVec 16) (pc : Nat) : State :=
  let x := s.thread t
  let s := s.setThread t { x with
    st := .stopped, fault := code, faultPc := pc / 8 % 2 ^ 24, ckpts := [], loads := [], due := none, fence := false,
    regs := { x.regs with held := none } }
  let c := coreOf t
  let s := s.setArray c ((s.core c).array.release (thOf t))
  match x.owner with
  | none => s
  | some k =>
    s.alterLaunch k (fun l => { l with live := l.live.filter (· ≠ t), faults := l.faults ++ [(t, code)] })

/-- R513: another thread of a faulted launch: it leaves its wait with 0x0A16 now, or stops so at its next issue. -/
def State.endPeer (s : State) (t : Nat) : State :=
  let x := s.thread t
  match x.st with
  | .free | .stopped => s
  | .ready => s.setThread t { x with due := some (x.due.getD (0x0A16, x.regs.pc)) }
  | _ => s.haltThread t 0x0A16 x.regs.pc

/-- R513: a fault of one of its threads ends a launch: every other thread of it stops. -/
def State.endLaunch (s : State) (owner : Option CmdRef) (code : BitVec 16) : State :=
  if code = 0x0A16 then s
  else match owner with
    | none => s
    | some k =>
      match SMap.find s.launches k.code with
      | none => s
      | some l => l.live.foldl State.endPeer s

/-- R105: the fault a thread stops with: the one it holds, once every window it took part in has confirmed. -/
def Thread.firstFault (x : Thread) (code : BitVec 16) (pc : Nat) : BitVec 16 × Nat :=
  if x.ckpts = [] then x.regs.held.getD (code, pc) else (code, pc)

/-- R71, R513: a thread stops on a fault, and its launch ends. -/
def State.stopThread (s : State) (t : Nat) (code : BitVec 16) (pc : Nat) : State :=
  let owner := (s.thread t).owner
  let f := (s.thread t).firstFault code pc
  (s.haltThread t f.1 f.2).endLaunch owner code

/-- R478: a failure found after its instruction retired, in a thread of the given launch. A participating thread holds it
(R105); a waiting thread leaves its wait and stops; a thread that is ready stops before its next instruction; a thread that
has exited passes it to its launch, which ends (R513). -/
def State.failLater (s : State) (t : Nat) (code : BitVec 16) (pc : Nat) (owner : Option CmdRef) : State :=
  let x := s.thread t
  if x.st = .free ∨ x.owner ≠ owner then
    match owner with
    | none => s
    | some k => (s.alterLaunch k (fun l => { l with faults := l.faults ++ [(t, code)] })).endLaunch owner code
  else if x.st = .stopped then s
  else if x.ckpts ≠ [] then
    s.setThread t { x with regs := { x.regs with held := some (x.regs.held.getD (code, pc)) } }
  else if x.st = .ready then s.setThread t { x with due := some (x.due.getD (code, pc)) }
  else s.stopThread t code pc

/-- R478: what an operation of a thread that retired before reports as it completes: a fault, or 0. -/
def State.report (s : State) (t fault pc : Nat) (owner : Option CmdRef) : State :=
  if fault = 0 then s else s.failLater t (BitVec.ofNat 16 fault) pc owner

/-- R105, R133: an instruction of n bytes raises a fault at issue: a participating thread holds the first such fault and goes on; any
other thread stops. -/
def State.raise (s : State) (t code n : Nat) : State :=
  let x := s.thread t
  if x.ckpts ≠ [] then
    s.setThread t { x with
      st := .ready
      waitBar := none
      regs := { x.regs with held := some (x.regs.held.getD (BitVec.ofNat 16 code, x.regs.pc)), pc := x.regs.pc + n } }
  else s.stopThread t (BitVec.ofNat 16 code) x.regs.pc

/-! Barriers (R82 to R90) -/

/-- A barrier object's fields (R82). -/
structure Bar where
  pend : Int
  left : Nat
  count : Nat
  unconf : Nat
  phase : Bool
  broken : Bool
  epoch : Nat
  rest : Nat
  deriving DecidableEq, Repr

/-- R82: the fields of a 128-bit object. -/
def Bar.dec (v : Nat) : Bar :=
  { pend := signed 32 v, left := bits v 32 16, count := bits v 48 16, unconf := bits v 64 32,
    phase := bitAt v 96, broken := bitAt v 97, epoch := bits v 98 8, rest := bits v 106 22 }

/-- R82: the 128-bit object of the fields. -/
def Bar.enc (b : Bar) : Nat :=
  toTwos 32 b.pend + b.left % 2 ^ 16 * 2 ^ 32 + b.count % 2 ^ 16 * 2 ^ 48 + b.unconf % 2 ^ 32 * 2 ^ 64
    + b2n b.phase * 2 ^ 96 + b2n b.broken * 2 ^ 97 + b.epoch % 2 ^ 8 * 2 ^ 98 + b.rest % 2 ^ 22 * 2 ^ 106

/-- The barrier object at a local address. -/
def State.bar (s : State) (a : Nat) : Bar := Bar.dec (s.readNat a 16)

/-- R83: there is a barrier object at an address. -/
def State.knowBar (s : State) (a : Nat) : State := { s with bars := s.bars.set a true }

/-- Put a barrier object, and know it as one (R83). -/
def State.setBar (s : State) (a : Nat) (b : Bar) : State := (s.write (cellsFrom a (leBytes 16 b.enc))).1.knowBar a

/-- R88: a barrier breaks: every thread that waits on it raises 0x0107. -/
def State.breakBar (s : State) (a : Nat) (b : Bar) : State :=
  ((s.threads.filter (fun e => e.2.waitBar = some a && e.2.st = .waitSync)).map (·.1)).foldl (fun s t => s.raise t 0x0107 8)
    (s.setBar a { b with broken := true })

/-- R87, R88: put a barrier object after an event: broken, or with the completion check made. -/
def State.putBar (s : State) (a : Nat) (b : Bar) : State := if b.broken then s.breakBar a b else s.setBar a b

/-- R84: idle: LEFT equals COUNT, PENDING and UNCONF are zero. -/
def Bar.idle (b : Bar) : Bool := b.left = b.count && b.pend = 0 && b.unconf = 0

/-- R87: the completion check after an event. -/
def Bar.settle (b : Bar) : Bar :=
  if !b.broken && b.left = 0 && b.pend = 0 && b.unconf = 0 then { b with phase := !b.phase, left := b.count } else b

/-- R88: an update that takes a count out of range breaks the barrier. -/
def Bar.update (b : Bar) (dp : Int) (du : Int) : Bar :=
  let p := b.pend + dp
  let u := (b.unconf : Int) + du
  if p < -(2 ^ 31) ∨ 2 ^ 31 ≤ p ∨ 2 ^ 32 ≤ u then { b with broken := true }
  else { b with pend := p, unconf := u.toNat }

/-- R86 to R88: an asynchronous transfer's bytes on a barrier object: counted when the object is not BROKEN and still has the BEPOCH
the transfer recorded. Answers the fault that the transfer must report: 0x0107, or 0x0511 where the object's line is poisoned (R286).
The object at 0 is no barrier. A transfer that lands no byte is no event that completes a phase (R87; DESIGN CHOICE, log entry 100). -/
def State.barCount (s : State) (a ep : Nat) (dp du : Int) : State × Nat :=
  if a = 0 then (s, 0)
  else
    let b := s.bar a
    if s.poisoned a 16 then (s, 0x0511)
    else if b.broken || b.epoch ≠ ep then (s, 0x0107)
    else if dp = 0 ∧ du = 0 then (s, 0)
    else
      let b' := b.update dp du
      (s.putBar a (if b'.broken then b' else b'.settle), if b'.broken then 0x0107 else 0)

/-- R86: n bytes of confirmed input land on a barrier. -/
def State.barLand (s : State) (a ep n : Nat) : State × Nat := s.barCount a ep (-(n : Int)) 0

/-- R83: an ordinary write over a known barrier object: between phases the object is overwritten; during a phase it is
marked BROKEN. A BROKEN object stays BROKEN whatever its counts: no phase of it completes (DESIGN CHOICE, log entry 100). -/
def State.storeOverBars (s : State) (before : State) (cells : List (Nat × Byte)) : State :=
  s.bars.foldl (fun st e =>
    if cells.any (fun c => decide (e.1 ≤ c.1) && decide (c.1 < e.1 + 16)) then
      let b := before.bar e.1
      if b.idle && !b.broken then { st with bars := SMap.erase st.bars e.1 }
      else st.breakBar e.1 (st.bar e.1)
    else st) s

/-- R72, R83, R286: an ordinary write of bytes at cells of this module's memory. A write through a read-only window is refused and
recorded (R506, R532). Answers whether a write was discarded. -/
def State.store (s : State) (cells : List (Nat × Byte)) : State × Bool :=
  let r := s.write cells
  let st := r.1.storeOverBars s cells
  (if cells.any (fun c => s.roByte c.1) then st.log 0x0A14 else st, r.2)

/-- A record enters a ring of an open host window. One that falls outside is lost with 0x0502, one that R286
discards with 0x0511 (log entry 39). -/
def State.ringPut (s : State) (a : Nat) (bs : List Byte) : State :=
  let f := if regionOf a = .host then s.addrFault .engine a bs.length else 0x0502
  let r := s.store (cellsFrom a bs)
  if f ≠ 0 then s.log f else if r.2 then r.1.log 0x0511 else r.1

/-- R499: the address at a port that bytes of a host window reach when the port's own traffic carries them. -/
def State.portKey (s : State) (q a : Nat) : Option Nat :=
  (s.winAt a).map (fun i => q * 2 ^ 64 + (s.winHost i a).2)

/-- R499: a record of a stream enters a ring of an open host window, through the port that the stream is bound to. One that falls outside
is lost with 0x0502, one bound for a read-only window with 0x0A14, one that R286 discards with 0x0511 (log entry 39). -/
def State.portPut (s : State) (q a : Nat) (bs : List Byte) : State :=
  let f := if regionOf a = .host then s.addrFault .engine a bs.length else 0x0502
  if f ≠ 0 then s.log f
  else if (cellsFrom a bs).any (fun c => s.roByte c.1) then s.log 0x0A14
  else if s.poisoned a bs.length then s.log 0x0511
  else { s with host := (cellsFrom a bs).foldl (fun h c => match s.portKey q c.1 with
    | some k => SMap.set h k c.2
    | none => h) s.host }

end Sys2Proof.Machine
end

