-- ==== Sys2Proof/Machine/Operands.lean ====
section
/-! DEFINITION. Operand forms: a thread's registers and their glide tags (R67, R96), the fields and immediates of an
instruction word (R466 to R470), descriptors and their checks (R68, R69), elements of descriptor regions (R198) and lanes of
vector registers (R199). -/

namespace Sys2Proof

/-- R467: the signed 28-bit immediate of format I. -/
def IWord.imm28 (w : IWord) : Int :=
  ((w.imm ++ w.d ++ w.c ++ w.b : BitVec 28)).toInt

/-- R466: the signed 10-bit immediate. -/
def IWord.simm (w : IWord) : Int := w.imm.toInt

/-- R469: field Fk of the extension word. -/
def IWord.f (w : IWord) (k : Nat) : Nat := w.ext.toNat / 2 ^ (6 * k) % 64

/-- A bit of MOD. -/
def IWord.m (w : IWord) (i : Nat) : Bool := w.mod.getLsbD i

/-- Bits [lo + len - 1 : lo] of MOD. -/
def IWord.ms (w : IWord) (lo len : Nat) : Nat := w.mod.toNat / 2 ^ lo % 2 ^ len

/-- R468: the bytes an instruction takes in the vat. -/
def IWord.size (w : IWord) : Nat := if w.x then 16 else 8

end Sys2Proof

namespace Sys2Proof.Machine

/-- R470: what an operand field may hold: nothing (it must be zero), or the number of a register of a kind. -/
inductive FK where
  | none | g | v | d | p
  deriving DecidableEq, Repr

/-- R470: the value of a field fits its kind. -/
def FK.ok (k : FK) (x : Nat) : Bool :=
  match k with
  | .none => x = 0
  | .g => true
  | .v => x < 32
  | .d => x < 16
  | .p => x < 16

/-- R469: whether an instruction takes an extension word in field form. -/
inductive XK where
  | never | fields (used : List Nat)
  deriving DecidableEq, Repr

/-- R469, R470: the operand form of an instruction word: the kinds of fields A to D, the MOD bits it uses, whether it uses
IMM10, its extension word. -/
structure Form where
  a : FK := .none
  b : FK := .none
  c : FK := .none
  d : FK := .none
  mods : Nat := 0
  imm : Bool := false
  x : XK := .never
  deriving DecidableEq, Repr

/-- R469, R470, R472: the word breaks no rule of its form. PRED values 17 to 31 are reserved (R466). -/
def Form.ok (f : Form) (w : IWord) : Bool :=
  f.a.ok w.a.toNat && f.b.ok w.b.toNat && f.c.ok w.c.toNat && f.d.ok w.d.toNat
    && decide (w.mod.toNat &&& f.mods = w.mod.toNat) && (f.imm || decide (w.imm = 0)) && decide (w.pred.toNat ≤ 16)
    && (match f.x with
        | .never => !w.x
        | .fields us => w.x && decide (w.ext.toNat / 2 ^ 60 = 0)
            && (List.range 10).all (fun k => us.contains k || decide (w.f k = 0)))

/-- R66: the word alone, its extension word left aside, breaks no rule of its form. -/
def Form.head (f : Form) (w : IWord) : Bool := f.ok { w with ext := 0 }

/-! Registers. The code of a register is its number plus 0 for g, 64 for v, 128 for p, 192 for t. -/

/-- The code of scalar register i. -/
def gR (i : Nat) : Nat := i
/-- The code of vector register i. -/
def vR (i : Nat) : Nat := 64 + i
/-- The code of predicate register i. -/
def pR (i : Nat) : Nat := 128 + i
/-- The code of descriptor i. -/
def dR (i : Nat) : Nat := 192 + i

/-- A scalar register. -/
def TRegs.getG (r : TRegs) (i : Nat) : BitVec 64 := r.g.getD i 0
/-- A vector register. -/
def TRegs.getV (r : TRegs) (i : Nat) : BitVec 2048 := r.v.getD i 0
/-- A predicate register. -/
def TRegs.getP (r : TRegs) (i : Nat) : BitVec 64 := r.p.getD i 0
/-- A descriptor. -/
def TRegs.getD' (r : TRegs) (i : Nat) : BitVec 128 := r.d.getD i 0
/-- The glide tag of a register. -/
def TRegs.tag (r : TRegs) (c : Nat) : BitVec 8 := r.tags.getD c 0

/-- Put a tag: a zero tag is not listed. -/
def TRegs.setTag (r : TRegs) (c : Nat) (tag : BitVec 8) : TRegs :=
  { r with tags := if tag = 0 then SMap.erase r.tags c else r.tags.set c tag }

/-- Write a scalar register with its tag. -/
def TRegs.setG (r : TRegs) (i : Nat) (v : BitVec 64) (tag : BitVec 8) : TRegs :=
  ({ r with g := r.g.set i v } : TRegs).setTag (gR i) tag
/-- Write a vector register with its tag. -/
def TRegs.setV (r : TRegs) (i : Nat) (v : BitVec 2048) (tag : BitVec 8) : TRegs :=
  ({ r with v := r.v.set i v } : TRegs).setTag (vR i) tag
/-- Write a predicate register with its tag. -/
def TRegs.setP (r : TRegs) (i : Nat) (v : BitVec 64) (tag : BitVec 8) : TRegs :=
  ({ r with p := r.p.set i v } : TRegs).setTag (pR i) tag
/-- Write a descriptor with its tag. -/
def TRegs.setD (r : TRegs) (i : Nat) (v : BitVec 128) (tag : BitVec 8) : TRegs :=
  ({ r with d := r.d.set i v } : TRegs).setTag (dR i) tag

/-- R97: the tags of a list of registers together. -/
def TRegs.tagsOf (r : TRegs) (cs : List Nat) : BitVec 8 := cs.foldl (fun a c => a ||| r.tag c) 0

/-- Change a thread's registers. -/
def State.modRegs (s : State) (t : Nat) (f : TRegs → TRegs) : State :=
  s.setThread t { s.thread t with regs := f (s.thread t).regs }

/-- A thread's registers. -/
def State.regs (s : State) (t : Nat) : TRegs := (s.thread t).regs

/-! Lanes (R199) -/

/-- Element i of a vector register viewed in elements of w bits. -/
def vElem (v : BitVec 2048) (w i : Nat) : Nat := v.toNat / 2 ^ (w * i) % 2 ^ w

/-- Lane i: 32 bits. -/
def lane (v : BitVec 2048) (i : Nat) : Nat := vElem v 32 i

/-- A vector register from numbered elements of w bits. -/
def vMake (w n : Nat) (f : Nat → Nat) : BitVec 2048 :=
  BitVec.ofNat 2048 ((List.range n).foldl (fun a i => a + f i % 2 ^ w * 2 ^ (w * i)) 0)

/-- R471: lanes whose guard bit is set take new values; the others keep their bits. -/
def vLanes (old : BitVec 2048) (guard : BitVec 64) (f : Nat → Nat) : BitVec 2048 :=
  vMake 32 64 (fun i => if guard.getLsbD i then f i else lane old i)

/-- The lane mask with all bits set. -/
def allLanes : BitVec 64 := 0xFFFFFFFFFFFFFFFF

/-! Descriptors (R68, R69) -/

/-- The fields of a matrix descriptor. -/
structure Desc where
  base : Nat
  fmt : Nat
  rows : Nat
  cols : Nat
  stride : Nat
  scale : Nat
  scaleEn : Bool
  bad : Bool
  deriving DecidableEq, Repr

/-- R68: the layout of a descriptor; `bad` says that a reserved field is not zero. -/
def Desc.dec (v : BitVec 128) : Desc :=
  let n := v.toNat
  { base := bits n 0 28, fmt := bits n 28 4, rows := bits n 32 16, cols := bits n 48 16, stride := bits n 64 28,
    scale := bits n 96 28, scaleEn := bitAt n 124, bad := bits n 92 4 ≠ 0 || bits n 125 3 ≠ 0 }

/-- The width of the region's elements. -/
def Desc.w (d : Desc) : Nat := fmtWidth d.fmt

/-- R198: the bytes of one row. -/
def Desc.rowBytes (d : Desc) : Nat := (d.cols * d.w + 7) / 8

/-- A range of a tile's window lies wholly in its vat, or wholly in the scratchpad of core c. -/
def inVatOrOwn (c lo n : Nat) : Bool :=
  decide (lo + n ≤ 0x4000000)
    || (decide (0x8000000 + c * 0x800000 ≤ lo) && decide (lo + n ≤ 0x8000000 + (c + 1) * 0x800000))

/-- A range of a tile's window lies wholly in the scratchpad of core c. -/
def inOwn (c lo n : Nat) : Bool :=
  decide (0x8000000 + c * 0x800000 ≤ lo) && decide (lo + n ≤ 0x8000000 + (c + 1) * 0x800000)

/-- The bytes from the region's base to its last byte. -/
def Desc.span (d : Desc) : Nat := (d.rows - 1) * d.stride + d.rowBytes

/-- R143: the bytes of the block-scale array: row blocks, or column blocks. -/
def Desc.scaleBytes (d : Desc) (colBlocks : Bool) : Nat :=
  if colBlocks then (d.rows + 31) / 32 * d.cols else d.rows * ((d.cols + 31) / 32)

/-- R69, R122, R194: the fault of using a descriptor on core c of its tile: 0x0302, 0x0104, 0x0103, or 0. The checks of R69
are made only when ROWS and COLS are both non-zero. -/
def Desc.fault (d : Desc) (c : Nat) (writes colBlocks : Bool) : Nat :=
  if fmtBad d.fmt then 0x0302
  else if d.rows = 0 ∨ d.cols = 0 then 0
  else if d.base % 16 ≠ 0 ∨ d.stride % 16 ≠ 0 ∨ d.scale % 16 ≠ 0 ∨ d.bad then 0x0104
  else if !inVatOrOwn c d.base d.span then 0x0103
  else if d.scaleEn ∧ !inVatOrOwn c d.scale (d.scaleBytes colBlocks) then 0x0103
  else if writes ∧ d.stride < d.rowBytes then 0x0103
  else 0

/-- R473: the desc faults of several operands in field order: all codes 0x0302 first, then 0x0104, then 0x0103. -/
def descFaults (l : List Nat) : Nat :=
  if l.contains 0x0302 then 0x0302 else if l.contains 0x0104 then 0x0104
  else if l.contains 0x0103 then 0x0103 else 0

/-- A number of n bits at a bit offset from a local address (R198). -/
def State.readBits (s : State) (a off n : Nat) : Nat :=
  if n = 0 then 0
  else
    let a0 := a + off / 8
    let k := (off % 8 + n + 7) / 8
    bits (s.readNat a0 k) (off % 8) n

/-- R198: the code of element (i, j) of a region of a tile. -/
def State.elem (s : State) (tile : Nat) (d : Desc) (i j : Nat) : Nat :=
  s.readBits (tileBase tile + d.base + i * d.stride) (d.w * j) d.w

/-- R143: the scale code of element (i, j): 0x7F where the region carries none. -/
def State.scaleOf (s : State) (tile : Nat) (d : Desc) (colBlocks : Bool) (i j : Nat) : Nat :=
  if d.scaleEn then
    (s.byteAt (tileBase tile + d.scale
      + (if colBlocks then i / 32 * d.cols + j else i * ((d.cols + 31) / 32) + j / 32))).toNat
  else 0x7F

/-- R198: the bytes of a row of element codes. -/
def packRow (w : Nat) (codes : List Nat) : List Byte :=
  leBytes ((codes.length * w + 7) / 8)
    (codes.zipIdx.foldl (fun a x => a + x.1 % 2 ^ w * 2 ^ (w * x.2)) 0)

/-- The local addresses of the bytes of a region: one range per row. -/
def Desc.rowRanges (d : Desc) (tile : Nat) : List (Nat × Nat) :=
  if d.rows = 0 ∨ d.cols = 0 then []
  else (List.range d.rows).map (fun i => (tileBase tile + d.base + i * d.stride, d.rowBytes))

/-- The lines of a list of ranges. -/
def rangeLines (l : List (Nat × Nat)) : List Nat := (l.flatMap (fun r => linesOf r.1 r.2)).eraseDups

/-- The ranges an instruction reads through a descriptor, its scales included. -/
def Desc.readRanges (d : Desc) (tile : Nat) (colBlocks : Bool) : List (Nat × Nat) :=
  d.rowRanges tile ++
    (if d.scaleEn ∧ d.rows ≠ 0 ∧ d.cols ≠ 0 then [(tileBase tile + d.scale, d.scaleBytes colBlocks)] else [])

/-- Does any of the ranges hold a poisoned line? -/
def State.rangesPoisoned (s : State) (l : List (Nat × Nat)) : Bool := l.any (fun r => s.poisoned r.1 r.2)

/-- Two ranges share a byte. -/
def rangesMeet (a b : Nat × Nat) : Bool :=
  decide (0 < a.2) && decide (0 < b.2) && decide (a.1 < b.1 + b.2) && decide (b.1 < a.1 + a.2)

end Sys2Proof.Machine
end

