-- ==== Sys2Proof/Machine/Flags.lean ====
section
/-! DEFINITION. The sticky flags and counters of the numerics registers (R235, R236): what conversions and weight updates set
in TILE_NUM_STAT of their core. -/

namespace Sys2Proof.Machine

/-- A flag of TILE_NUM_STAT of a core, set when a condition holds. -/
def State.numFlag (s : State) (core : Nat) (f : Nat → Nat → Fld) (c : Bool) : State :=
  s.flagFld (f (core / 16) (coreIdx core)) c

/-- R207 to R209, R235: the flags that conversions raise. -/
def State.convFlags (s : State) (core : Nat) (cs : List Conv) : State :=
  let s := s.numFlag core Fd.TILE_NUM_STAT_CONV_OVF (cs.any (·.ovf))
  let s := s.numFlag core Fd.TILE_NUM_STAT_CONV_SAT (cs.any (·.sat))
  s.numFlag core Fd.TILE_NUM_STAT_NAN_LOST (cs.any (·.lost))

/-- R215: a drain tile is recomputed. -/
def State.noteRetry (s : State) (core : Nat) : State :=
  (s.numFlag core Fd.TILE_NUM_STAT_SPRED_RETRY true).incFld (Fd.TILE_NUM_COUNT_RETRIES (core / 16) (coreIdx core))

/-- R225: a weight-update element is skipped. -/
def State.noteSkip (s : State) (core : Nat) : State :=
  (s.numFlag core Fd.TILE_NUM_STAT_UPD_SKIP true).incFld (Fd.TILE_NUM_COUNT_UPD_SKIP (core / 16) (coreIdx core))

end Sys2Proof.Machine
end

