-- ==== Sys2Proof/Machine/GlideOps.lean ====
section
/-! DEFINITION. The shared operations of glide (R91 to R115): tags, participation and checkpoints, the shadow store, and the
confirmation and refusal of windows. -/

namespace Sys2Proof.Machine

/-- The mask of one window. -/
def winBit (w : Nat) : BitVec 8 := 1#8 <<< w

/-- Clear a window's bit from the registers of a snapshot (R108). -/
def TRegs.clearWin (r : TRegs) (w : Nat) : TRegs :=
  { r with
    ctrl := r.ctrl &&& ~~~(winBit w)
    tags := (r.tags.map (fun e => (e.1, e.2 &&& ~~~(winBit w)))).filter (fun e => e.2 ≠ 0) }

/-- The threads of a core that take part in a window, in thread-number order. -/
def State.participants (s : State) (core w : Nat) : List Nat :=
  ((List.range 128).map (core * 128 + ·)).filter (fun t => (SMap.find (s.thread t).ckpts w).isSome)

/-- R106: the shadow lines in use on a core. -/
def State.shadowUsed (s : State) (core : Nat) : Nat :=
  ((List.range 128).map (fun i => ((s.thread (core * 128 + i)).ckpts.map (fun e => e.2.lines.length)).sum)).sum

/-- R99: a thread takes one checkpoint for the windows among some that it does not take part in yet, and takes part in them from now
on. Windows that one instruction joins share their place in the joining order: a rewind of one ends them all (R109). -/
def State.join (s : State) (t : Nat) (ws : List Nat) (r : TRegs) : State :=
  let x := s.thread t
  let new := ws.filter (fun w => (SMap.find x.ckpts w).isNone)
  if new = [] then s
  else s.setThread t { x with
    ckpts := new.foldl (fun m w => SMap.set m w { ord := x.joined, regs := r }) x.ckpts, joined := x.joined + 1 }

/-- R94, R130: open a window of a kind on a core: the lowest window that is closed, or none when all eight are open. -/
def State.openWindow (s : State) (core : Nat) (k : WKind) : Option (Nat × State) :=
  match (List.range 8).find? (fun w => (SMap.find (s.core core).windows w).isNone) with
  | none => none
  | some w =>
    let c := s.core core
    let s := s.setCore core { c with windows := c.windows.set w { kind := k } }
    some (w, s.incFld (Fd.TILE_GLIDE_STAT_OPENED (core / 16) (coreIdx core)))

/-- The open window of a kind on a core. -/
def State.windowOf (s : State) (core : Nat) (k : WKind) : Option Nat :=
  ((s.core core).windows.find? (fun e => e.2.kind = k)).map (·.1)

/-- The window of a core for a kind: the open one, or one opened for it. -/
def State.windowFor (s : State) (core : Nat) (k : WKind) : Option (Nat × State) :=
  match s.windowOf core k with
  | some w => some (w, s)
  | none => s.openWindow core k

/-- Is a line in a core's scratchpad? -/
def lineInCore (core l : Nat) : Bool :=
  decide (scratchBase (core / 16) (coreIdx core) ≤ l * 64)
    && decide (l * 64 < scratchBase (core / 16) (coreIdx core) + 0x800000)

/-- Put a line's tag: a zero tag is not listed. -/
def State.setLineTag (s : State) (l : Nat) (tag : BitVec 8) (owner : Nat) : State :=
  { s with ltags := if tag = 0 then SMap.erase s.ltags l else s.ltags.set l { tag := tag, owner := owner } }

/-- Add tag bits to a line of a scratchpad, written by a thread of its core, or by input (128). Bits of two writers make the
line nobody's own (R101). -/
def State.addLineTag (s : State) (l : Nat) (tag : BitVec 8) (owner : Nat) : State :=
  match SMap.find s.ltags l with
  | none => s.setLineTag l tag owner
  | some o => if tag = 0 then s else s.setLineTag l (o.tag ||| tag) (if o.owner = owner then owner else 128)

/-- R108: clear a window's bit from every line of a core. -/
def State.clearLines (s : State) (core w : Nat) : State :=
  let ls := s.ltags.map (fun e =>
    if lineInCore core e.1 then (e.1, { e.2 with tag := e.2.tag &&& ~~~(winBit w) }) else e)
  { s with ltags := ls.filter (fun e => e.2.tag ≠ 0) }

/-- R95, R108: a window's bit leaves one thread: registers, checkpoints and loads, and its participation ends. A held fault
is raised when the thread waits and takes part in no window any more: the thread leaves its wait (R105, R478). -/
def State.clearThread (s : State) (t w : Nat) : State :=
  let x := s.thread t
  let ck := (SMap.erase x.ckpts w).map (fun e => (e.1, { e.2 with
    regs := e.2.regs.clearWin w
    lines := e.2.lines.map (fun l => { l with tag := l.tag &&& ~~~(winBit w) }) }))
  let x' : Thread := { x with
    regs := x.regs.clearWin w, ckpts := ck
    loads := x.loads.map (fun l => { l with tag := l.tag &&& ~~~(winBit w) }) }
  let s := s.setThread t x'
  match x'.regs.held with
  | some (code, pc) => if ck = [] ∧ x'.st ≠ .ready ∧ x'.st ≠ .free ∧ x'.st ≠ .stopped then s.stopThread t code pc else s
  | none => s

/-- The threads of a core that the state lists. -/
def State.coreThreads (s : State) (core : Nat) : List Nat :=
  (s.threads.map (·.1)).filter (fun t => coreOf t = core)

/-- R95: forget a window of a core, and clear its bit everywhere on the core. -/
def State.closeWindow (s : State) (core w : Nat) : State :=
  let c := s.core core
  let a := c.array
  let q := a.q.map (fun o => match o.kind with
    | .drain sp r => { o with kind := .drain sp { r with tag := r.tag &&& ~~~(winBit w), window := if r.window = some w then none else r.window } }
    | _ => o)
  let s := s.setCore core { c with windows := SMap.erase c.windows w, array := { a with q := q } }
  let s := s.clearLines core w
  (s.coreThreads core).foldl (fun s t => s.clearThread t w) s

/-- R109: restore the lines a thread wrote since a checkpoint. -/
def State.restoreLines (s : State) (ls : List ShadowLine) : State :=
  ls.foldl (fun s l =>
    let s := s.putCells (cellsFrom (l.addr * 64) l.bytes)
    let s := { s with poison := if l.poison then SMap.set s.poison l.addr true else SMap.erase s.poison l.addr }
    s.setLineTag l.addr l.tag l.owner) s

/-- R109, R184: rewind one participant of a window to its checkpoint. Answers the predicted-scale windows of the drains
that the rewind cancels. -/
def State.rewind (s : State) (t w : Nat) : State × List Nat :=
  let x := s.thread t
  match SMap.find x.ckpts w with
  | none => (s, [])
  | some k =>
    let s := s.restoreLines k.lines
    let x' : Thread := { x with
      regs := { k.regs with held := none }
      st := if x.st = .stopped then .stopped else .ready
      waitBar := none
      ckpts := x.ckpts.filter (fun e => e.2.ord < k.ord)
      loads := x.loads.filter (fun l => l.ord ≤ k.ord) }
    let s := s.setThread t x'
    let c := coreOf t
    let a := (s.core c).array
    let gone := a.q.filter (fun o => o.th = thOf t && (match o.kind with | .drain _ r => decide (k.ord < r.ord) | _ => false))
    let wins := gone.filterMap (fun o => match o.kind with | .drain _ r => r.window | _ => none)
    (s.setArray c { a with q := a.q.filter (fun o => !gone.contains o) }, wins)

/-- R109, R112, R184: refuse a window: every participant rewinds in thread-number order. Windows of drains cancelled on the
way are refused in turn and, their drains gone, close; a core has eight windows, which bounds the chain. -/
def State.refuseChain : Nat → State → Nat → List Nat → State
  | 0, s, _, _ => s
  | _, s, _, [] => s
  | n + 1, s, core, w :: ws =>
    let s := s.incFld (Fd.TILE_GLIDE_STAT_REFUSED (core / 16) (coreIdx core))
    let r := (s.participants core w).foldl (fun (acc : State × List Nat) t =>
      let q := acc.1.rewind t w
      (q.1, acc.2 ++ q.2)) (s, [])
    let s := State.refuseChain n r.1 core (ws ++ r.2.filter (fun v => !ws.contains v))
    r.2.foldl (fun s v => s.closeWindow core v) s

/-- R109: refuse one window of a core. -/
def State.refuseWindow (s : State) (core w : Nat) : State := s.refuseChain 9 core [w]

/-- R95: close a window once no input attached to it is unconfirmed. -/
def State.closeIfSettled (s : State) (core w : Nat) : State :=
  match SMap.find (s.core core).windows w with
  | some x => if x.pieces = [] then s.closeWindow core w else s
  | none => s

/-- Change an open window of a core. -/
def State.modWindow (s : State) (core w : Nat) (f : Window → Window) : State :=
  let c := s.core core
  s.setCore core { c with windows := SMap.alter c.windows w f }

/-- R86, R87: the bytes of a piece of input are confirmed: UNCONF falls. A piece confirmed on re-delivery was already
counted. -/
def State.confirmPiece (s : State) (core w : Nat) (p : Piece) : State :=
  let s := (s.barCount p.bar p.ep 0 (-(p.len : Int))).1
  let s := s.modWindow core w (fun x => { x with pieces := x.pieces.filter (fun q => q ≠ p) })
  s.closeIfSettled core w

/-- R86, R110: the bytes of a piece of input are refused: they go back to PENDING, and their lines wait for re-delivery. -/
def State.refusePiece (s : State) (core w : Nat) (p : Piece) : State :=
  let s := (s.barCount p.bar p.ep p.len (-(p.len : Int))).1
  let s := s.modWindow core w (fun x =>
    { x with pieces := x.pieces.map (fun q => if q = p then { q with refused := true } else q) })
  s.refuseWindow core w

/-- R101, R102: may a thread read lines? It waits on a gliding line that it did not write itself. Answers the tags of the
lines when it need not wait. A thread of another core never reads a gliding line. -/
def State.readTag (s : State) (t : Nat) (ls : List Nat) : Option (BitVec 8) :=
  ls.foldl (fun acc l =>
    match acc with
    | none => none
    | some tag =>
      match SMap.find s.ltags l with
      | none => some tag
      | some o => if lineInCore (coreOf t) l && o.owner = thOf t then some (tag ||| o.tag) else none) (some 0)

/-- R110: a line that a refused piece of input of a window of the core wrote, and that awaits its re-delivery. -/
def State.refusedLine (s : State) (core l : Nat) : Bool :=
  (s.core core).windows.any (fun e => e.2.pieces.any (fun p => p.refused && (linesOf p.addr p.len).contains l))

/-- R102: a .GLIDE read takes up the tags of gliding lines of its own core. It waits when a window it would join already has
16 participants, and as an ordinary load does on another core's gliding line and on a refused one (R110). -/
def State.glideReadTag (s : State) (t : Nat) (ls : List Nat) : Option (BitVec 8) :=
  let r := ls.foldl (fun (acc : Option (BitVec 8)) l =>
    match acc with
    | none => none
    | some tag =>
      match SMap.find s.ltags l with
      | none => some tag
      | some o => if lineInCore (coreOf t) l && !s.refusedLine (coreOf t) l then some (tag ||| o.tag) else none) (some 0)
  match r with
  | none => none
  | some tag =>
    if (List.range 8).any (fun w => tag.getLsbD w && (SMap.find (s.thread t).ckpts w).isNone
        && decide (16 ≤ (s.participants (coreOf t) w).length)) then none
    else some tag

/-- R414: a TBL.FENCE waits on the tile of a thread. -/
def State.fencePend (s : State) (tile : Nat) : Bool := s.threads.any (fun e => decide (tileOf e.1 = tile) && e.2.fence)

/-- R99: join every window a tag names, with the checkpoint given. -/
def State.joinTag (s : State) (t : Nat) (tag : BitVec 8) (r : TRegs) : State :=
  s.join t ((List.range 8).filter (fun w => tag.getLsbD w)) r

/-- R106, R107: keep the prior content of lines about to be written for a thread, in each of its windows joined before a
place in its joining order that has not kept them. A line is kept once for each of its windows, and each copy is one of the 8,192
(DESIGN CHOICE, log entry 100). None when the shadow store cannot hold them. -/
def State.shadowBefore (s : State) (t ord : Nat) (ls : List Nat) : Option State :=
  let x := s.thread t
  let miss (k : Ckpt) : List Nat := if k.ord < ord then ls.filter (fun l => !(k.lines.any (fun q => q.addr = l))) else []
  let need := (x.ckpts.map (fun e => (miss e.2).length)).sum
  if 8192 < s.shadowUsed (coreOf t) + need then none
  else
    let keep (k : Ckpt) : Ckpt :=
      { k with lines := k.lines ++ (miss k).map (fun l =>
          let o := s.ltags.getD l { tag := 0, owner := 128 }
          { addr := l
            bytes := s.readBytes (l * 64) 64
            tag := o.tag
            owner := o.owner
            poison := s.poison.getD l false }) }
    some (s.setThread t { x with ckpts := x.ckpts.map (fun e => (e.1, keep e.2)) })

/-- R106, R107: the same for a thread's own write, in every window it participates in. -/
def State.shadowLines (s : State) (t : Nat) (ls : List Nat) : Option State := s.shadowBefore t (s.thread t).joined ls

/-- R97, R100: the tags that a thread's write leaves on lines of its own core's scratchpad: a line written whole carries the
write's tag alone. -/
def State.tagWritten (s : State) (t : Nat) (cells : List (Nat × Byte)) (tag : BitVec 8) : State :=
  ((cells.map (fun c => lineOf c.1)).eraseDups).foldl (fun s l =>
    if 64 ≤ (cells.filter (fun c => lineOf c.1 = l)).length then s.setLineTag l tag (thOf t)
    else s.addLineTag l tag (thOf t)) s

end Sys2Proof.Machine
end

