-- ==== Sys2Proof/Machine/Special.lean ====
section
/-! DEFINITION. The special functions, bit for bit (R241 to R248): tanh, logistic, exp2, reciprocal and reciprocal square
root of an FP32 code, in FP32 or BF16. -/

namespace Sys2Proof.Machine

/-- R244, R256: coefficient entry i, as the fuses hold it: tanh 0 to 287, exp2 288 to 543. -/
def State.coef (s : State) (i : Nat) : Nat :=
  if i % 2 = 0 then s.fld (Fd.MC_SF_COEF_COEF_EVEN (i / 2)) else s.fld (Fd.MC_SF_COEF_COEF_ODD (i / 2))

/-- The exact value of a coefficient. -/
def State.coefDy (s : State) (i : Nat) : Dy := (fp32.dec (s.coef i)).dy

/-- R241, R243: the cubic of the four coefficients from an entry, at an exact u. -/
def State.cubic (s : State) (i : Nat) (u : Dy) : Dy :=
  (s.coefDy i).add (u.mul ((s.coefDy (i + 1)).add (u.mul ((s.coefDy (i + 2)).add (u.mul (s.coefDy (i + 3)))))))

/-- Round an exact value once to a format; an exact zero is +0 (R206, R207). -/
def FFmt.rne (f : FFmt) (a : Dy) : Nat := (f.enc false (a.num false)).code

/-- The place of a code in the order of its values: a magnitude code, negated with the sign bit. -/
def FFmt.rank (f : FFmt) (c : Nat) : Int := if bitAt c (f.eb + f.mb) then -((c % f.signBit : Nat) : Int) else c

/-- R245: clamp a code between two, in the order of their values: min (max y lo) hi. -/
def FFmt.clamp (f : FFmt) (lo hi y : Nat) : Nat :=
  let y := if f.rank y < f.rank lo then lo else y
  if f.rank hi < f.rank y then hi else y

/-- R244: the seam value Y_k of tanh in a format. -/
def State.seam (s : State) (f : FFmt) (k : Nat) : Nat :=
  if k = 0 then f.rne ⟨1, -12⟩ else if 72 ≤ k then f.rne ⟨1, 0⟩ else f.rne (s.coefDy (4 * k))

/-- a < b for a magnitude and 2^-12. -/
def tinyArg (a : Dy) : Bool := a.lt ⟨1, -12⟩

/-- The segment of a magnitude below 9, in eighths (R241). -/
def segOf (a : Dy) : Nat := (a.shift 3).floor.toNat

/-- R241: the exact polynomial value of the tanh segments at a magnitude in [2^-12, 9). -/
def State.tanhPoly (s : State) (a : Dy) : Dy :=
  let k := segOf a
  s.cubic (4 * k) (a.add ⟨-(k : Int), -3⟩)

/-- R248: what a special function gives for a NaN. -/
def nanOf (f : FFmt) (x : Num) : Nat := (f.enc false x).code

/-- R241, R248: SF.TANH. -/
def State.sfTanh (s : State) (f : FFmt) (c : Nat) : Nat :=
  let x := fp32.dec c
  let sg := b2n x.neg * f.signBit
  match x with
  | .nan _ _ => nanOf f x
  | .inf _ => sg + f.rne ⟨1, 0⟩
  | .fin _ m e =>
    let a : Dy := ⟨m, e⟩
    if tinyArg a then sg + f.rne a
    else if a.lt ⟨9, 0⟩ then
      let k := segOf a
      sg + f.clamp (s.seam f k) (s.seam f (k + 1)) (f.rne (s.tanhPoly a))
    else sg + f.rne ⟨1, 0⟩

/-- 0.5 + 0.5 * p or 0.5 - 0.5 * p. -/
def halfPlus (neg : Bool) (p : Dy) : Dy := (⟨1, -1⟩ : Dy).add ((if neg then p.neg else p).shift (-1))

/-- R242, R245, R248: SF.LOGISTIC. -/
def State.sfLogistic (s : State) (f : FFmt) (c : Nat) : Nat :=
  let x := fp32.dec c
  match x with
  | .nan _ _ => nanOf f x
  | .inf neg => if neg then 0 else f.rne ⟨1, 0⟩
  | .fin neg m e =>
    let neg := neg && m ≠ 0
    let h : Dy := ⟨m, e - 1⟩
    if tinyArg h then f.rne (halfPlus neg h)
    else if h.lt ⟨9, 0⟩ then
      let k := segOf h
      let y (j : Nat) : Nat := f.rne (halfPlus neg (f.dec (s.seam f j)).dy)
      let v := f.rne (halfPlus neg (s.tanhPoly h))
      if neg then f.clamp (y (k + 1)) (y k) v else f.clamp (y k) (y (k + 1)) v
    else f.rne (halfPlus neg ⟨1, 0⟩)

/-- R243, R245, R248: SF.EXP2. -/
def State.sfExp2 (s : State) (f : FFmt) (c : Nat) : Nat :=
  let x := fp32.dec c
  match x with
  | .nan _ _ => nanOf f x
  | .inf neg => if neg then 0 else f.infCode
  | .fin _ _ _ =>
    let d := x.dy
    let n := d.floor
    let fr := d.add ⟨-n, 0⟩
    let j := (fr.shift 6).floor.toNat
    let u := fr.add ⟨-(j : Int), -6⟩
    let lo := f.rne ((s.coefDy (288 + 4 * j)).shift n)
    let hi := if j = 63 then f.rne ⟨1, n + 1⟩ else f.rne ((s.coefDy (292 + 4 * j)).shift n)
    f.clamp lo hi (f.rne ((s.cubic (288 + 4 * j) u).shift n))

/-- R247, R248: SF.RCP, correctly rounded. -/
def sfRcp (f : FFmt) (c : Nat) : Nat :=
  let x := fp32.dec c
  let sg := b2n x.neg * f.signBit
  match x with
  | .nan _ _ => nanOf f x
  | .inf _ => sg
  | .fin _ m e => if m = 0 then sg + f.infCode else sg + f.rne (quot ⟨1, 0⟩ ⟨m, e⟩)

/-- R247, R248: SF.RSQRT, correctly rounded. -/
def sfRsqrt (f : FFmt) (c : Nat) : Nat :=
  let x := fp32.dec c
  match x with
  | .nan _ _ => nanOf f x
  | .inf neg => if neg then f.nanCode false 0x400000 else 0
  | .fin neg m e =>
    if m = 0 then b2n neg * f.signBit + f.infCode
    else if neg then f.nanCode false 0x400000
    else f.rne (quot ⟨1, 0⟩ (sqrtDy ⟨m, e⟩))

/-- The five functions by their opcodes' order: 0 tanh, 1 logistic, 2 exp2, 3 reciprocal, 4 reciprocal square root. -/
def State.sfEval (s : State) (k : Nat) (f : FFmt) (c : Nat) : Nat :=
  match k with
  | 0 => s.sfTanh f c
  | 1 => s.sfLogistic f c
  | 2 => s.sfExp2 f c
  | 3 => sfRcp f c
  | _ => sfRsqrt f c

end Sys2Proof.Machine
end

