-- ==== Sys2Proof/Machine/ArrayOps.lean ====
section
/-! DEFINITION. The matrix array's shared operations: what a queued instruction still reads and writes (R63, R74, R669), the
ramp (R170 to R173), the accumulation order (R155 to R158), and the epilogue's rows, tiles and predicted scales (R178 to
R186, R211 to R217). -/

namespace Sys2Proof.Machine

/-! What a queued instruction still reads and writes -/

/-- The bytes of row i of a region. -/
def Desc.rowRange (d : Desc) (tile i : Nat) : Nat × Nat := (tileBase tile + d.base + i * d.stride, d.rowBytes)

/-- The bytes of row i of an activation region, its row-block scales included (R143, R144). -/
def Desc.rowReads (d : Desc) (tile i : Nat) : List (Nat × Nat) :=
  d.rowRange tile i ::
    (if d.scaleEn then [(tileBase tile + d.scale + i * ((d.cols + 31) / 32), (d.cols + 31) / 32)] else [])

/-- R211: the rows of drain tile i of M rows. -/
def tileRows (m i : Nat) : List Nat := (List.range (min 32 (m - 32 * i))).map (32 * i + ·)

/-- R211: the drain tiles of M rows. -/
def tileCount (m : Nat) : Nat := (m + 31) / 32

/-- Is a tile of a .SPRED drain final? -/
def DrainRun.isFinal (r : DrainRun) (i : Nat) : Bool := (r.tiles.getD i {}).final

/-- R211, R122: the tiles that a drain checks: none but under .SPRED, and none of a region without elements. -/
def DrainSpec.tiles (sp : DrainSpec) : List Nat :=
  let d := Desc.dec sp.tC
  if sp.smode = 2 ∧ d.cols ≠ 0 then List.range (tileCount d.rows) else []

/-- R183: the drain has begun its last row, recomputed and re-delivered rows included. -/
def drainBegun (sp : DrainSpec) (r : DrainRun) : Bool := r.todo = [] && sp.tiles.all r.isFinal

/-- The rows of tC that a drain may still read. -/
def drainRowsLeft (sp : DrainSpec) (r : DrainRun) : List Nat :=
  if sp.smode = 2 then
    (List.range (Desc.dec sp.tC).rows).filter (fun m => !(r.isFinal (m / 32)) || r.todo.any (fun q => q.1 = m))
  else r.todo.map (·.1)

/-- The rows of its output that a drain has still to write. -/
def drainRowsOwed (sp : DrainSpec) (r : DrainRun) : List Nat :=
  (drainRowsLeft sp r).filter (fun m =>
    r.todo.any (fun q => q.1 = m) || !((r.tiles.getD (m / 32) {}).glided) || r.refused)

/-- Where the output of row m of a drain lies: its data and its scales. Under .T the row fills one column of the region. -/
def drainOut (sp : DrainSpec) (tile m : Nat) : List (Nat × Nat) :=
  let d := Desc.dec sp.tD
  if sp.trans then
    (List.range d.rows).map (fun j => (tileBase tile + d.base + j * d.stride + m * d.w / 8, (d.w + 7) / 8))
      ++ (if d.scaleEn then
            (List.range ((d.rows + 31) / 32)).map (fun b => (tileBase tile + d.scale + b * d.cols + m, 1))
          else [])
  else d.rowReads tile m

/-- The bytes a queued instruction still reads. -/
def ArrOp.readsLeft (tile : Nat) (o : ArrOp) : List (Nat × Nat) :=
  match o.kind with
  | .load w tr ph => if ph = 0 then (Desc.dec w).readRanges tile (!tr) else []
  | .pass a c _ z _ _ next =>
    ((List.range (Desc.dec a).rows).drop next).flatMap (fun i =>
      (Desc.dec a).rowReads tile i ++ (if z then [] else [(Desc.dec c).rowRange tile i]))
  | .drain sp r => (drainRowsLeft sp r).map ((Desc.dec sp.tC).rowRange tile)

/-- The bytes a queued instruction has still to write. -/
def ArrOp.writesLeft (tile : Nat) (o : ArrOp) : List (Nat × Nat) :=
  match o.kind with
  | .load _ _ _ => []
  | .pass a c _ _ _ _ next => ((List.range (Desc.dec a).rows).drop next).map ((Desc.dec c).rowRange tile)
  | .drain sp r =>
    (drainRowsOwed sp r).flatMap (drainOut sp tile)
      ++ (sp.tiles.filter (fun i => !(r.isFinal i))).map (fun i => (tileBase tile + sp.amax + 8 * i, 8))

/-- Two lists of ranges share a byte. -/
def rangesCross (a b : List (Nat × Nat)) : Bool := a.any (fun x => b.any (rangesMeet x))

/-- R63, R150: has the array still to write bytes of these ranges for an instruction of the thread? -/
def State.arrayOwes (s : State) (t : Nat) (l : List (Nat × Nat)) : Bool :=
  (s.core (coreOf t)).array.q.any (fun o => decide (o.th = thOf t) && rangesCross (o.writesLeft (tileOf t)) l)

/-- R63, R669: has the array still to read or write bytes of these ranges for an instruction of the thread? -/
def State.arrayHolds (s : State) (t : Nat) (l : List (Nat × Nat)) : Bool :=
  (s.core (coreOf t)).array.q.any (fun o =>
    decide (o.th = thOf t) && (rangesCross (o.writesLeft (tileOf t)) l || rangesCross (o.readsLeft (tileOf t)) l))

/-- The tags of the lines of some ranges. -/
def State.rangesTag (s : State) (l : List (Nat × Nat)) : BitVec 8 :=
  (rangeLines l).foldl (fun a x => a ||| (match SMap.find s.ltags x with | some o => o.tag | none => 0)) 0

/-! The ramp -/

/-- R171: no pass queued, none inside, no swap pending. -/
def MatArray.quiet (a : MatArray) : Bool :=
  a.q.all (fun o => match o.kind with
    | .load w _ _ => (Desc.dec w).fmt = 0
    | .pass _ _ _ _ _ _ _ => false
    | .drain _ _ => true)

/-- R171, R173: RAMP_DOWN begins. -/
def State.rampDown (s : State) (core : Nat) : State :=
  let a := (s.core core).array
  s.setArray core { a with ramp := 3, rampLen := s.fld (Fd.TILE_ARRAY_CTL_RAMP_LEN (core / 16)), hold := none }

/-- R171: the HOLD wait begins, with the setting then read (0 starts RAMP_DOWN at once), or ends because the array is no
longer quiet. -/
def State.settleRamp (s : State) (core : Nat) : State :=
  let a := (s.core core).array
  if a.ramp = 2 ∧ a.quiet then
    match a.hold with
    | some _ => s
    | none =>
      let h := s.fld (Fd.TILE_ARRAY_CTL_HOLD (core / 16))
      if h = 0 then s.rampDown core else s.setArray core { a with hold := some h }
  else s.setArray core { a with hold := none }

/-- R170, R172: an accepted load or pass of non-zero size brings the columns into action; a reversal keeps its rate. -/
def State.rampUp (s : State) (core : Nat) : State :=
  let a := (s.core core).array
  let s :=
    if a.ramp = 0 ∨ a.ramp = 3 then
      let len := if a.ramp = 0 then s.fld (Fd.TILE_ARRAY_CTL_RAMP_LEN (core / 16)) else a.rampLen
      (s.setArray core { a with ramp := 1, rampLen := len }).incFld (Fd.TILE_ARRAY_COUNT_RAMPS (core / 16) (coreIdx core))
    else s
  s.settleRamp core

/-- Put an accepted instruction at the end of the queue. -/
def State.pushArr (s : State) (t : Nat) (k : ArrKind) (pc bar : Nat) : State :=
  let a := (s.core (coreOf t)).array
  s.setArray (coreOf t) { a with
    q := a.q ++ [{ id := a.nextId, kind := k, th := thOf t, pc := pc, owner := (s.thread t).owner, bar := bar, ep := if bar = 0 then 0 else (s.bar bar).epoch }]
    nextId := a.nextId + 1 }

/-- Change a queue entry. -/
def State.alterArr (s : State) (core id : Nat) (f : ArrOp → ArrOp) : State :=
  let a := (s.core core).array
  s.setArray core { a with q := a.q.map (fun o => if o.id = id then f o else o) }

/-- An instruction leaves the queue. -/
def State.dropArr (s : State) (core id : Nat) : State :=
  let a := (s.core core).array
  s.setArray core { a with q := a.q.filter (fun o => o.id ≠ id) }

/-! The accumulation order -/

/-- R142: the pair of a stationary and an activation format is one the array accepts. -/
def fmtPair (w a : Nat) : Bool :=
  (decide (3 ≤ w ∧ w ≤ 6) && decide (3 ≤ a ∧ a ≤ 6)) || (decide (w = a) && [0, 1, 2, 7].contains w)

/-- R142, R157: INT32 accumulation: INT8 operands without block scales. -/
def intPair (w a : Nat) (scaled : Bool) : Bool := w = 7 && a = 7 && !scaled

/-- R156: the product of two values, its NaN marked. A product of zero has the sign of its factors, that of block-scaled
INT8 factors too, whose zero the spec gives no sign (DESIGN CHOICE, log entry 100). -/
def prodNum (x y : Num) : Num :=
  let s := x.neg ^^ y.neg
  if x.isNan || y.isNan then .nan false 0x400000
  else if x.isInf || y.isInf then
    if (x.isFin && x.dy.m = 0) || (y.isFin && y.dy.m = 0) then .nan false 0x400000 else .inf s
  else (x.dy.mul y.dy).num s

/-- R158: hi(x) of a finite FP32 code. -/
def hiPart (c : Nat) : Dy := (fp32.dec (c / 65536 * 65536)).dy

/-- R158: lo(x) of a finite FP32 code. -/
def loPart (c : Nat) : Dy := (bf16.dec (bf16.rne ((fp32.dec c).dy.add (hiPart c).neg))).dy

/-- R155, R158: the product A[m][k] * W[k][n] as the sum of R155 takes it. -/
def term (fa fw a w : Nat) : Num :=
  let x := decFmt fa 0 a
  let y := decFmt fw 0 w
  if fa = 0 ∧ fw = 0 ∧ x.isFin ∧ y.isFin ∧ x.dy.m ≠ 0 ∧ y.dy.m ≠ 0 then
    (((loPart a).mul (hiPart w)).add (((hiPart a).mul (loPart w)).add ((hiPart a).mul (hiPart w)))).num (x.neg ^^ y.neg)
  else prodNum x y

/-- R155, R156: the rounded scaled sum q of a group. -/
def groupVal (ts : List Num) (sa sw : Nat) : Nat :=
  if sa = 0xFF ∨ sw = 0xFF ∨ ts.any Num.isNan then createdNan
  else if ts.any (fun x => x.isInf && !x.neg) then
    (if ts.any (fun x => x.isInf && x.neg) then createdNan else 0x7F800000)
  else if ts.any Num.isInf then 0xFF800000
  else
    let d := Dy.sum (ts.map Num.dy)
    if d.m = 0 then (if ts.all (fun x => x.neg && x.dy.m = 0) then 0x80000000 else 0)
    else (d.shift ((sa : Int) + sw - 254)).rne32

/-- R157: clamp to 32 bits; answers the code and whether it clamped. -/
def sat32 (v : Int) : Nat × Bool :=
  if v < -(2 ^ 31) then (0x80000000, true) else if 2 ^ 31 ≤ v then (0x7FFFFFFF, true) else (toTwos 32 v, false)

/-- R155, R157: one accumulator value of a pass: K, G, the codes and scales along k of the row and of the column, and the
running value it starts from. -/
def accCell (fa fw k g : Nat) (int : Bool) (a sa w sw : Nat → Nat) (r : Nat) : Nat × Bool :=
  (List.range ((k + g - 1) / g)).foldl (fun acc i =>
    let lo := i * g
    let ts := ((List.range (min g (k - lo))).map (lo + ·)).map (fun j => term fa fw (a j) (w j))
    if int then
      let v := sat32 (signed 32 acc.1 + (Dy.sum (ts.map Num.dy)).floor)
      (v.1, acc.2 || v.2)
    else (f32add acc.1 (groupVal ts (sa lo) (sw lo)), acc.2)) (r, false)

/-- R143, R144: the stationary operand a load reads. -/
def State.readOperand (s : State) (tile : Nat) (d : Desc) (tr : Bool) : Operand :=
  let k := if tr then d.cols else d.rows
  let n := if tr then d.rows else d.cols
  { fmt := d.fmt
    k := k
    n := n
    codes := (List.range k).flatMap (fun i => (List.range n).map (fun j => if tr then s.elem tile d j i else s.elem tile d i j))
    scales := if d.scaleEn then
        (List.range ((k + 31) / 32)).flatMap (fun b => (List.range n).map (fun j =>
          if tr then s.scaleOf tile d false j (32 * b) else s.scaleOf tile d true (32 * b) j))
      else []
    poisoned := s.rangesPoisoned (d.readRanges tile (!tr)) }

/-- The block scale of element (k, n) of an operand. -/
def Operand.scale (o : Operand) (k n : Nat) : Nat := if o.scales = [] then 0x7F else o.scales.getD (k / 32 * o.n + n) 0x7F

/-- The enabled columns below N of a pass (R161). -/
def passCols (n : Nat) (mask : BitVec 128) : List Nat := (List.range n).filter (fun j => mask.getLsbD j)

/-- R155, R185: row m of a pass, computed and written. -/
def State.passRow (s : State) (core : Nat) (a c : Desc) (g : Nat) (zacc : Bool) (mask : BitVec 128) (op : Operand) (m : Nat) :
    State :=
  let tile := core / 16
  let cols := passCols op.n mask
  let at0 (j : Nat) : Nat := tileBase tile + c.base + m * c.stride + 4 * j
  let int := intPair op.fmt a.fmt (op.scales ≠ [] || a.scaleEn)
  let ga := 4 * 2 ^ g
  let rowA := (List.range op.k).map (s.elem tile a m)
  let scA := (List.range ((op.k + 31) / 32)).map (fun b => s.scaleOf tile a false m (32 * b))
  let vals := cols.map (fun j =>
    accCell a.fmt op.fmt op.k ga int (fun i => rowA.getD i 0) (fun i => scA.getD (i / 32) 0x7F)
      (fun i => op.codes.getD (i * op.n + j) 0) (fun i => op.scale i j) (if zacc then 0 else s.readNat (at0 j) 4))
  let outs := rangeLines (cols.map (fun j => (at0 j, 4)))
  let bad := op.poisoned || s.rangesPoisoned (a.rowReads tile m) || (!zacc && outs.any (fun l => s.poison.getD l false))
  let s' := (s.store ((cols.zip vals).flatMap (fun x => cellsFrom (at0 x.1) (leBytes 4 x.2.1)))).1
  let s' := s'.flagFld (Fd.TILE_ARRAY_STAT_INT_SAT tile (coreIdx core)) (vals.any (·.2))
  if bad then s'.poisonLines outs else s'

/-! The epilogue -/

/-- R178: one of the steps 1 to 3 is named. -/
def DrainSpec.steps (sp : DrainSpec) : Bool := sp.scale.isSome || sp.bias.isSome || decide (sp.act ≠ 0)

/-- R178: the values are copied unchanged. -/
def DrainSpec.copies (sp : DrainSpec) : Bool := !sp.steps && decide ((Desc.dec sp.tD).fmt = (Desc.dec sp.tC).fmt)

/-- R178: the values a row holds after step 3 are FP32 codes; otherwise INT32 codes. -/
def DrainSpec.isFp (sp : DrainSpec) : Bool :=
  decide ((Desc.dec sp.tC).fmt = 0) || sp.steps || (ffmt (Desc.dec sp.tD).fmt).isSome

/-- R180: the piecewise-linear table of 22 FP32 codes, at an input. -/
def pwlEval (tb : List Nat) (c : Nat) : Nat :=
  let x := fp32.dec c
  let v (i : Nat) : Nat := tb.getD i 0
  let below (i : Nat) : Bool := x.lt (fp32.dec (v i))
  match x with
  | .nan sg fr => fp32.nanCode sg fr
  | _ =>
    let i := ((List.range 7).filter (fun i => !(below i))).getLastD 0
    let (b, y0, sl) :=
      if below 0 then (v 0, v 7, v 14)
      else if i ≤ 5 then (v i, v (7 + i), v (15 + i)) else (v 6, v 13, v 21)
    if x.isFin then f32fma (f32sub c b) sl y0
    else if (fp32.dec sl).dy.m = 0 then y0
    else (fp32.enc false (.inf (x.neg ^^ (fp32.dec sl).neg))).code

/-- R180: the table's X values ascend strictly and every value is finite. -/
def pwlOk (tb : List Nat) : Bool :=
  tb.all (fun c => (fp32.dec c).isFin)
    && (List.range 6).all (fun i => (fp32.dec (tb.getD i 0)).lt (fp32.dec (tb.getD (i + 1) 0)))

/-- R178: steps 1 to 3 on one accumulator code of column n. -/
def State.epilogue (s : State) (sp : DrainSpec) (n c : Nat) : Nat :=
  if !sp.isFp then c
  else if sp.copies then c
  else
    let y := if (Desc.dec sp.tC).fmt = 8 then (fp32.enc false (decFmt 8 0 c)).code else c
    let y := match sp.scale with
      | some l => f32mul y (l.getD n 0)
      | none => y
    let y := match sp.bias with
      | some l => f32add y (l.getD n 0)
      | none => y
    match sp.act with
    | 1 => s.sfTanh fp32 y
    | 2 => s.sfLogistic fp32 y
    | 3 => pwlEval sp.table y
    | _ => y

/-- The value of a code after step 3. -/
def DrainSpec.num (sp : DrainSpec) (c : Nat) : Num := if sp.isFp then fp32.dec c else decFmt 8 0 c

/-- R213, R214: convert a block at a given exponent, with the drain's saturation. -/
def spredBlock (fmt : Nat) (e : Int) (satm : Bool) (vs : List Num) : Nat × List Conv :=
  if blockNan fmt vs then (0xFF, vs.map (fun _ => { code := 0 }))
  else ((e + 127).toNat, vs.map (fun x => if x.isInf then encFmt fmt false 0 x else encFmt fmt satm 0 (x.scale (-e))))

/-- The blocks of 32 consecutive values of a row. -/
def blocks32 {α : Type} (l : List α) : List (List α) := (List.range ((l.length + 31) / 32)).map (fun b => (l.drop (32 * b)).take 32)

/-- R178, R181: step 4: the scale codes and the element codes of a row, at a predicted exponent, at computed scales, or
without scales. -/
def DrainSpec.convert (sp : DrainSpec) (e : Option Int) (satm : Bool) (codes : List Nat) : List Nat × List Conv :=
  let f := (Desc.dec sp.tD).fmt
  if sp.copies then ([], codes.map (fun c => { code := c }))
  else
    let vs := codes.map sp.num
    if sp.smode = 0 then ([], vs.map (encFmt f satm 0))
    else
      let bs := (blocks32 vs).map (fun b => match e with
        | some x => spredBlock f x satm b
        | none => blockComputed f b)
      (bs.map (·.1), bs.flatMap (·.2))

/-- Bits of an element of w bits put over bytes of memory at a bit offset from an address. -/
def State.elemCells (s : State) (a off w code : Nat) : List (Nat × Byte) :=
  if w % 8 = 0 then cellsFrom (a + off / 8) (leBytes (w / 8) code)
  else
    let x := a + off / 8
    [(x, BitVec.ofNat 8 (setBits (s.byteAt x).toNat (off % 8) w code))]

/-- A row's codes put over a row of a region: bits of its last byte beyond the last element are kept. -/
def State.rowCells (s : State) (a w : Nat) (codes : List Nat) : List (Nat × Byte) :=
  let bs := packRow w codes
  let used := codes.length * w % 8
  if used = 0 then cellsFrom a bs
  else
    let x := a + bs.length - 1
    cellsFrom a (bs.take (bs.length - 1))
      ++ [(x, BitVec.ofNat 8 (setBits (s.byteAt x).toNat 0 used (bs.getLastD 0).toNat))]

/-- The cells that row m of the output fills. -/
def State.drainCells (s : State) (sp : DrainSpec) (tile m : Nat) (scales codes : List Nat) : List (Nat × Byte) :=
  let d := Desc.dec sp.tD
  let base := tileBase tile
  let data :=
    if sp.trans then
      codes.zipIdx.flatMap (fun x => s.elemCells (base + d.base + x.2 * d.stride) (m * d.w) d.w x.1)
    else s.rowCells (base + d.base + m * d.stride) d.w codes
  let sc := scales.zipIdx.map (fun x =>
    (base + d.scale + (if sp.trans then x.2 * d.cols + m else m * ((d.cols + 31) / 32) + x.2), BitVec.ofNat 8 x.1))
  data ++ (if d.scaleEn then sc else [])

/-- The pieces of input that a gliding output row is (R93). -/
def drainPieces (sp : DrainSpec) (tile m : Nat) : List Piece :=
  (drainOut sp tile m).map (fun r => { addr := r.1, len := r.2, bar := 0, ep := 0, row := m })

/-- Write cells for a drain: shadowed for the windows its thread had joined (R184), tagged when they lie in the core's own
scratchpad. A write that R286 discards is kept for the drain's end. None while the shadow store is full (R107). -/
def State.drainStore (s : State) (core : Nat) (o : ArrOp) (r : DrainRun) (cells : List (Nat × Byte)) (extra : BitVec 8) :
    Option State :=
  let t := core * 128 + o.th
  let own := (cells.map (fun c => lineOf c.1)).eraseDups.filter (lineInCore core)
  match s.shadowBefore t r.ord own with
  | none => none
  | some s =>
    let q := s.store cells
    let s := if q.2 then q.1.alterArr core o.id (fun o => { o with lost := true }) else q.1
    some (s.tagWritten t (cells.filter (fun c => lineInCore core (lineOf c.1))) (r.tag ||| extra))

/-- R108: a line of a row that no piece of input left still covers loses the window's tag. -/
def State.clearRowLine (w : Nat) (rest : List Piece) (s : State) (l : Nat) : State :=
  if rest.any (fun p => (linesOf p.addr p.len).contains l) then s
  else match SMap.find s.ltags l with
    | some tg => s.setLineTag l (tg.tag &&& ~~~(winBit w)) tg.owner
    | none => s

/-- R217: a row re-delivered, or written after its check: it is confirmed; its lines lose the window's bit unless other input
of the window lies in them, and a refused window closes with its last piece. -/
def State.confirmRow (s : State) (core w : Nat) (sp : DrainSpec) (refused : Bool) (m : Nat) : State :=
  let ps := drainPieces sp (core / 16) m
  let s := s.modWindow core w (fun x => { x with pieces := x.pieces.filter (fun p =>
    !(ps.any (fun q => q.addr = p.addr && q.len = p.len && q.row = p.row))) })
  let rest := match SMap.find (s.core core).windows w with
    | some x => x.pieces
    | none => []
  let s := (rangeLines (ps.map (fun p => (p.addr, p.len)))).foldl (State.clearRowLine w rest) s
  if refused then s.closeIfSettled core w else s

/-- Write row m of a drain, gliding or not. -/
def State.drainRow (s : State) (core : Nat) (o : ArrOp) (sp : DrainSpec) (r : DrainRun) (m : Nat) (e : Option Int)
    (satm glide : Bool) (codes : List Nat) : Option State :=
  let tile := core / 16
  let cv := sp.convert e satm codes
  let cells := s.drainCells sp tile m cv.1 (cv.2.map (·.code))
  match s.drainStore core o r cells (if glide then (match r.window with | some w => winBit w | none => 0) else 0) with
  | none => none
  | some s =>
    if glide then
      match r.window with
      | some w => some (s.modWindow core w (fun x => { x with pieces := x.pieces ++ drainPieces sp tile m }))
      | none => some s
    else
      let s := s.convFlags core cv.2
      match r.window with
      | some w => some (s.confirmRow core w sp r.refused m)
      | none => some s

/-- The accumulator codes of row m of tC. -/
def State.accRow (s : State) (tile : Nat) (d : Desc) (m : Nat) : List Nat := (List.range d.cols).map (s.elem tile d m)

/-- R195, R214: does a finite value overflow an element format? -/
def fmtOverflows (fmt : Nat) (x : Num) : Bool := x.isFin && (encFmt fmt false 0 x).ovf

/-- R212: the entry a final tile writes. -/
def amaxEntry (sp : DrainSpec) (codes : List Nat) (k : Nat) (forced : Bool) : Nat :=
  let vs := codes.map sp.num
  (amaxOf vs).rne32 + k * 2 ^ 32 + b2n forced * 2 ^ 34 + b2n (vs.any (fun x => !x.isFin)) * 2 ^ 35

/-- R212, R213: the exponent predicted by the AMAX read, with the drain's margin. -/
def predict (sp : DrainSpec) (amax : Nat) : Option Int :=
  match fp32.dec amax with
  | .fin false m e =>
    if m = 0 then none
    else some (clamp127 (floorLog2 ⟨m, e⟩ - emaxOf (Desc.dec sp.tD).fmt + sp.margin))
  | _ => none

/-- Replace the run of a queued drain; its window is forgotten once closed. -/
def State.setRun (s : State) (core id : Nat) (sp : DrainSpec) (r : DrainRun) : State :=
  let w := s.windowOf core (.scale id)
  s.alterArr core id (fun o => { o with kind := .drain sp { r with window := w } })

/-- R212, R217: tile i is final: its entry is written, and its rows too unless they stand already, gliding. None while the
shadow store is full. A forced tile saturates as .SAT does, and so sets CONV_SAT and not CONV_OVF (DESIGN CHOICE, log entry
100: R216 names SPRED_SAT alone). -/
def State.finishTile (s : State) (core : Nat) (o : ArrOp) (sp : DrainSpec) (r : DrainRun) (i : Nat) (forced : Bool) :
    Option (State × DrainRun) :=
  let tl := r.tiles.getD i {}
  let rows := tileRows (Desc.dec sp.tC).rows i
  let ent := amaxEntry sp (rows.flatMap (fun m => r.vals.getD m [])) tl.k forced
  let cells := cellsFrom (tileBase (core / 16) + sp.amax + 8 * i) (leBytes 8 ent)
  let s1 := s.drainStore core o r cells 0
  let s2 := if tl.glided && !r.refused then s1
    else rows.foldl (fun (acc : Option State) m =>
      match acc with
      | none => none
      | some s => s.drainRow core o sp r m tl.e (sp.satm || forced) false (r.vals.getD m [])) s1
  match s2 with
  | none => none
  | some s => some (s, { r with
      tiles := r.tiles.set i { tl with final := true }
      vals := r.vals.filter (fun e => !(rows.contains e.1))
      wrote := (r.wrote ++ rows).eraseDups
      fail := r.fail || forced })

/-- R186: the lines a .SPRED drain has written: its rows, and its entries of the amax table. -/
def drainLines (sp : DrainSpec) (r : DrainRun) (tile : Nat) : List Nat :=
  rangeLines (r.wrote.flatMap (drainOut sp tile)
    ++ (sp.tiles.filter r.isFinal).map (fun i => (tileBase tile + sp.amax + 8 * i, 8)))

/-- R186: a drain read poison: it writes nothing more and lands nothing. Its own window is settled: the lines it wrote are
poisoned, the window is refused and closes, and its thread, rewound to just after the drain, stops. -/
def State.drainPoison (s : State) (core : Nat) (o : ArrOp) (sp : DrainSpec) (r : DrainRun) : State :=
  let t := core * 128 + o.th
  let s := s.dropArr core o.id
  match r.window with
  | none => s.failLater t 0x0510 o.pc o.owner
  | some w =>
    let ls := drainLines sp r (core / 16)
    let s := (ls.foldl (fun s l => s.setLineTag l 0 128) s).poisonLines ls
    let joined := (SMap.find (s.thread t).ckpts w).isSome
    let s := (s.refuseWindow core w).closeWindow core w
    if joined then s.stopThread t 0x0510 o.pc else s.failLater t 0x0510 o.pc o.owner

end Sys2Proof.Machine
end

