-- ==== Sys2Proof/Machine/Issue.lean ====
section
/-! DEFINITION. How an instruction of a thread issues: what is tested before its own effect (R63, R65, R66, R103, R105,
R471 to R473, R478, R513), and how its effect ends. -/

namespace Sys2Proof.Machine

/-- How an instruction's own effect ends: it retires, transfers control, has placed its thread itself, faults at issue, waits
at the same place, or stops its thread with a fault of another place. -/
inductive Eff where
  | retire (s : State)
  | jump (pc : Nat) (s : State)
  | done (s : State)
  | fault (code : Nat) (s : State)
  | wait (st : TState) (s : State)
  | stop (code : BitVec 16) (pc : Nat) (s : State)
  deriving DecidableEq, Repr

/-- What issue needs to know of an instruction: whether its words break no rule of encoding, and whether the word before the
extension word breaks none, whether it always waits at an implicit gate (the G of R477), whether its guard enables lanes
(R471), the registers it reads and writes, and what it does even with a guard of 0 (R229). -/
structure Spec where
  ok : Bool
  head : Bool := ok
  gate : Bool := false
  lane : Bool := false
  reads : List Nat := []
  writes : List Nat := []
  off : State → State := id

/-- R471: the guard's lanes; no guard enables all. -/
def TRegs.guard (r : TRegs) (w : IWord) : BitVec 64 :=
  if w.pred = 0 then allLanes else r.getP (w.pred.toNat - 1)

/-- The tag of the guard's predicate. -/
def TRegs.guardTag (r : TRegs) (w : IWord) : BitVec 8 :=
  if w.pred = 0 then 0 else r.tag (pR (w.pred.toNat - 1))

/-- The register a load delivers to. -/
def Dest.code : Dest → Nat
  | .scalar i => gR i
  | .vector i _ => vR i
  | .desc i => dR i

/-- R63: does a load under way still write one of these registers? -/
def Thread.busy (x : Thread) (cs : List Nat) : Bool := x.loads.any (fun l => cs.contains l.dest.code)

/-- A thread waits in a state, its program counter unchanged. -/
def State.waitIn (s : State) (t : Nat) (st : TState) : State := s.setThread t { s.thread t with st := st }

/-- A thread is ready at a program counter. -/
def State.goTo (s : State) (t pc : Nat) : State :=
  let x := s.thread t
  s.setThread t { x with st := .ready, waitBar := none, regs := { x.regs with pc := pc } }

/-- The end of an instruction of n bytes. -/
def Eff.finish (t n : Nat) : Eff → State
  | .retire s => s.goTo t ((s.regs t).pc + n)
  | .jump pc s => s.goTo t pc
  | .done s => s
  | .fault code s => s.raise t code n
  | .wait st s => s.waitIn t st
  | .stop code pc s => s.stopThread t code pc

/-- R103 to R105: an effect behind an implicit gate: a participating thread waits; one that has left every window with a held
fault stops at the place of that fault. -/
def State.gated (s : State) (t : Nat) (k : Eff) : Eff :=
  let x := s.thread t
  if x.ckpts ≠ [] then .wait .waitGate s
  else match x.regs.held with
    | some (code, pc) => .stop code pc s
    | none => k

/-- CTRL_GLIDE as it stood before a guard was read. -/
def State.unguard (s : State) (t : Nat) (ctrl : BitVec 8) : State := s.modRegs t (fun r => { r with ctrl := ctrl })

/-- R99, R471: an instruction that waits has not issued: it will read its guard again. -/
def Eff.unguard (t : Nat) (ctrl : BitVec 8) : Eff → Eff
  | .wait st s => .wait st (s.unguard t ctrl)
  | e => e

/-- R471, R98: the guard of an instruction that is not lane-wise. A gliding guard is control flow. -/
def State.guarded (s : State) (t : Nat) (w : IWord) (sp : Spec) (body : State → BitVec 8 → Eff) : Eff :=
  let r := s.regs t
  if sp.lane then body s (r.tagsOf sp.reads ||| r.ctrl ||| r.guardTag w)
  else
    let ctrl := r.ctrl
    let s := if w.pred = 0 then s else s.modRegs t (fun r => { r with ctrl := r.ctrl ||| r.guardTag w })
    let r := s.regs t
    if w.pred = 0 ∨ (r.guard w).getLsbD 0 then (body s (r.tagsOf sp.reads ||| r.ctrl)).unguard t ctrl
    else .retire (sp.off s)

/-- R66, R468: what keeps the extension word from being decoded: it lies past the vat's end, or its line is poisoned; or 0. -/
def State.extFault (s : State) (t : Nat) (w : IWord) : Nat :=
  let pc := (s.regs t).pc
  if !w.x then 0
  else if 0x4000000 ≤ pc + 8 then 0x0102
  else if s.poisoned (tileBase (tileOf t) + pc + 8) 8 then 0x0510 else 0

/-- The checks before an instruction's own effect, in their order. An extension word that cannot be decoded stops the
instruction, unless its guard disables it whole (R471). -/
def State.attempt (s : State) (t : Nat) (w : IWord) (sp : Spec) (body : State → BitVec 8 → Eff) : Eff :=
  let x := s.thread t
  let pc := x.regs.pc
  let at0 := tileBase (tileOf t) + pc
  if 0x4000000 ≤ pc then
    if x.ckpts ≠ [] then
      .wait .waitGate (s.modRegs t (fun r => { r with held := some (r.held.getD (0x0102, pc)) }))
    else .stop 0x0102 pc s
  else if s.poisoned at0 8 then .fault 0x0510 s
  else if !(sp.ok || sp.head) then .fault 0x0101 s
  else
    let f := s.extFault t w
    let guard := if w.pred = 0 then [] else [pR (w.pred.toNat - 1)]
    if f = 0 ∧ !sp.ok then .fault 0x0101 s
    else if f ≠ 0 ∧ (w.pred = 0 ∨ sp.lane) then .fault f s
    else if x.busy (if f = 0 then guard ++ sp.reads ++ sp.writes else guard) then .wait .waitData s
    else
      let k := s.guarded t w sp (if f = 0 then body else fun s _ => .fault f s)
      if sp.gate then s.gated t k else k

/-- R59, R25: may the thread issue at all? It holds a program and is not stopped, its tile is in service and the compute part
is up. -/
def State.live (s : State) (t : Nat) : Bool :=
  (s.thread t).st ≠ .free && (s.thread t).st ≠ .stopped && s.computeUp && s.tileOn (tileOf t)

/-- R103 to R105: a write of a thread to a control and status block, when the write alone is given: it happens once the thread may
issue and takes part in no window; a fault held or due comes first. -/
def State.behindGate (s : State) (t : Nat) (go : State → State) : State :=
  let x := s.thread t
  if !(s.live t) then s
  else match x.due with
    | some (code, pc) => s.stopThread t code pc
    | none =>
      if x.ckpts ≠ [] then s.waitIn t .waitGate
      else match x.regs.held with
        | some (code, pc) => s.stopThread t code pc
        | none => go s

/-- One attempt of a thread to issue an instruction. A failure found after an earlier instruction retired stops the thread
first (R478, R513). A thread that holds no program, or is stopped, has nothing to issue. -/
def State.issue (s : State) (tid : Tid) (w : IWord) (sp : Spec) (body : State → BitVec 8 → Eff) : State :=
  let t := tid.code
  if s.live t then
    match (s.thread t).due with
    | some (code, pc) => s.stopThread t code pc
    | none => (s.attempt t w sp body).finish t w.size
  else s

end Sys2Proof.Machine
end

