-- ==== Sys2Proof/Machine/FlowOps.lean ====
section
/-! DEFINITION. The source's side of the torus: coordinates and routes (R327 to R330), pistes and their alternatives (R330,
R335), send flows (R320, R321, R324), the faults of a link at issue (R328, R330, R304), and the change of the current piste
(R562). -/

namespace Sys2Proof.Machine

/-! The torus -/

/-- R327: the size of dimension 0, 1 or 2. -/
def State.dimSize (s : State) (k : Nat) : Nat :=
  s.fld (if k = 0 then Fd.JL_TORUS_DIM_X else if k = 1 then Fd.JL_TORUS_DIM_Y else Fd.JL_TORUS_DIM_Z)

/-- R327: the number of modules of this torus. -/
def State.torusCount (s : State) : Nat := s.dimSize 0 * s.dimSize 1 * s.dimSize 2

/-- R327: the torus index of a module ID. -/
def torusOf (m : Nat) : Nat := m / 65536 % 4

/-- R327: coordinate k of a module ID. -/
def State.coord (s : State) (m k : Nat) : Nat :=
  let l := m % 65536
  if k = 0 then l % s.dimSize 0
  else if k = 1 then l / s.dimSize 0 % s.dimSize 1
  else l / (s.dimSize 0 * s.dimSize 1)

/-- R327: the module configuration has been sealed. -/
def State.isSealed (s : State) : Bool := s.isSet Fd.JL_SEAL_SEAL

/-- R317: the dimensions in an ORDER's order. -/
def orderDims (o : Nat) : List Nat :=
  match o with
  | 0 => [0, 1, 2]
  | 1 => [0, 2, 1]
  | 2 => [1, 0, 2]
  | 3 => [1, 2, 0]
  | 4 => [2, 0, 1]
  | _ => [2, 1, 0]

/-- R339: the state of a port: 0 down, 1 training, 2 UP, 3 draining, 4 retired. -/
def State.portState (s : State) (p : Nat) : Nat := s.fld (Fd.JL_P_STAT_STATE p)

/-- R328: this module is the gateway of a joined torus by port p. -/
def State.gatewayPort (s : State) (m p : Nat) : Bool :=
  (List.range 4).any (fun i => s.isSet (Fd.JL_GATEWAY_JOINED i) && s.fld (Fd.JL_GATEWAY_GW_ID i) = m
    && s.fld (Fd.JL_GATEWAY_GW_PORT i) = p)

/-- R329: the port a packet toward d leaves module m by; none when m is d. The ports of dimension k are 2k (+) and 2k + 1
(−), by R28. A packet for another torus goes to that torus's gateway module and out by its gateway port (R328). -/
def State.hop (s : State) (m d order dir : Nat) : Option Nat :=
  if m = d then none
  else
    let g := torusOf d
    let e := if g = torusOf m then d else s.fld (Fd.JL_GATEWAY_GW_ID g)
    if m = e then some (s.fld (Fd.JL_GATEWAY_GW_PORT g))
    else (orderDims order).findSome? (fun k =>
      let a := s.coord m k
      let b := s.coord e k
      let n := s.dimSize k
      if a = b ∨ n = 0 then none
      else
        let dl := (b + n - a % n) % n
        let pol := dir / 4 ^ k % 4
        some (2 * k + (if pol = 1 ∨ pol = 0 ∧ dl ≤ n - dl then 0 else 1)))

/-- The module at the far end of a torus link. -/
def State.neighbour (s : State) (m p : Nat) : Nat :=
  let k := p / 2
  let n := s.dimSize k
  let c := s.coord m k
  let c' := if p % 2 = 0 then (c + 1) % n else (c + n - 1) % n
  let w := if k = 0 then 1 else if k = 1 then s.dimSize 0 else s.dimSize 0 * s.dimSize 1
  m / 65536 * 65536 + (m % 65536 + c' * w - c * w)

/-- R313: does leaving m by port p cross the wrap link of its dimension? -/
def State.wraps (s : State) (m p : Nat) : Bool :=
  let c := s.coord m (p / 2)
  if p % 2 = 0 then c + 1 = s.dimSize (p / 2) else c = 0

/-- R329: the links of a route: module, port, and whether the link is used as a torus link. -/
def State.path (s : State) : Nat → Nat → Nat → Nat → Nat → List (Nat × Nat × Bool)
  | 0, _, _, _, _ => []
  | n + 1, m, d, order, dir =>
    match s.hop m d order dir with
    | none => []
    | some p =>
      if torusOf d ≠ torusOf m ∧ m = s.fld (Fd.JL_GATEWAY_GW_ID (torusOf d)) then [(m, p, false)]
      else (m, p, true) :: State.path s n (s.neighbour m p) d order dir

/-- The route from this module: at most 63 hops in each dimension, and a gateway hop. -/
def State.route (s : State) (d order dir : Nat) : List (Nat × Nat × Bool) := s.path 192 s.moduleId d order dir

/-- R334, R335, R328: does a route cross a retired port, or use a gateway link as a torus link? -/
def State.crosses (s : State) (d order dir : Nat) : Bool :=
  (s.route d order dir).any (fun h => s.retired.contains (h.1 * 8 + h.2.1) || (h.2.2 && s.gatewayPort h.1 h.2.1))

/-! Pistes (R330) -/

/-- R13, R330: the bits of a piste that its table lists; the others read zero, and writes to them are discarded. -/
def pisteMask : Nat :=
  2 ^ 128 - 1 - 2 ^ 15
    + ((List.range 8).map (fun k => (0x1FF + 0xFF * 2 ^ 16 + 0x3FFFF * 2 ^ 32 + 0x3FFFF * 2 ^ 64) * 2 ^ (128 + 128 * k))).sum

/-- Piste i. -/
def State.piste (s : State) (i : Nat) : Nat := s.pistes.getD (i % 16) 0

/-- Put piste i. -/
def State.setPisteBits (s : State) (i v : Nat) : State := { s with pistes := s.pistes.set i (v &&& pisteMask) }

/-- A ring of a piste: members, position, NEXT and PREV. -/
structure Ring where
  p : Nat
  pos : Nat
  next : Nat
  prev : Nat
  deriving DecidableEq, Repr

/-- R330: the ORDER of a piste. -/
def pisteOrder (v : Nat) : Nat := bits v 0 3
/-- R330: the DIR of a piste. -/
def pisteDir (v : Nat) : Nat := bits v 4 6
/-- R330: ring k of a piste. -/
def pisteRing (v k : Nat) : Ring :=
  let b := 128 + 128 * k
  { p := bits v b 9, pos := bits v (b + 16) 8, next := bits v (b + 32) 18, prev := bits v (b + 64) 18 }

/-- R330: the piste breaks no rule of its table. -/
def pisteOk (v : Nat) : Bool :=
  decide (pisteOrder v ≤ 5) && bitAt v 3
    && (List.range 3).all (fun k => bits (pisteDir v) (2 * k) 2 ≠ 3)
    && decide (bits v 16 8 ≤ 8) && decide (bits v 24 104 = 0)
    && (List.range (bits v 16 8)).all (fun k =>
      let r := pisteRing v k
      decide (1 ≤ r.p) && decide (r.p ≤ 256) && decide (r.pos < r.p))

/-- R561: the current piste's number. -/
def State.curPiste (s : State) : Nat := s.fld Fd.JOB_PHASE_CUR_PISTE

/-- R330: ring k of the current piste, when the piste is valid and describes it. -/
def State.ring (s : State) (k : Nat) : Option Ring :=
  let v := s.piste s.curPiste
  if pisteOk v ∧ k < bits v 16 8 then some (pisteRing v k) else none

/-- R335: the first clear alternative of a piste toward d within n steps. -/
def State.altFrom (s : State) (d : Nat) : Nat → Nat → Option Nat
  | 0, _ => none
  | n + 1, i =>
    let v := s.piste i
    if bitAt v 14 then
      let j := bits v 10 4
      let w := s.piste j
      if pisteOk w ∧ !(s.crosses d (pisteOrder w) (pisteDir w)) then some j else State.altFrom s d n j
    else none

/-- R335: the piste a flow toward d uses when piste i is current: i, or its first clear alternative, or i itself. -/
def State.pisteFor (s : State) (d i : Nat) : Nat :=
  let v := s.piste i
  if s.crosses d (pisteOrder v) (pisteDir v) then (s.altFrom d 3 i).getD i else i

/-- R330: ORDER and DIR of a packet on a VC toward d, with the flow's piste. VC0 takes ORDER 0, or the first of 3 and 4
whose route is clear. -/
def State.orderDir (s : State) (d vc i : Nat) : Nat × Nat :=
  if vc = 0 then (([0, 3, 4].find? (fun o => !(s.crosses d o 0))).getD 0, 0)
  else (pisteOrder (s.piste i), pisteDir (s.piste i))

/-- The port a packet leaves this module by. An unsealed module reaches only its neighbours (R327). -/
def State.exitPort (s : State) (d order dir : Nat) : Option Nat :=
  if s.isSealed then s.hop s.moduleId d order dir
  else (List.range 6).find? (fun p => s.portState p = 2 && s.fld (Fd.JL_P_STAT_PEER_ID p) = d)

/-- R304: VCs an Oftan peer carries. -/
def oftanVc (vc : Nat) : Bool := vc = 0 || vc = 1 || decide (12 ≤ vc)

/-- R304: a port toward an Oftan, for a VC that it does not carry. -/
def State.barred (s : State) (p vc : Nat) : Bool := s.isSet (Fd.JL_P_STAT_OFTAN p) && !(oftanVc vc)

/-- R304, R330, R335: what keeps a flow on a VC from the route of a piste: 0x0602 for a piste that breaks R330, 0x0604 for a retired
port, 0x0605 for an Oftan. -/
def State.routeFault (s : State) (d vc i : Nat) : Nat :=
  let od := s.orderDir d vc i
  if !s.isSealed then 0
  else if vc ≠ 0 ∧ !pisteOk (s.piste i) then 0x0602
  else if s.crosses d od.1 od.2 then 0x0604
  else match s.exitPort d od.1 od.2 with
    | some p => if s.barred p vc then 0x0605 else 0
    | none => 0

/-- R328: does a destination ID name no module that the source can reach? -/
def State.badDst (s : State) (d : Nat) : Bool :=
  if torusOf d = torusOf s.moduleId then decide (s.torusCount ≤ d % 65536)
  else !(s.isSet (Fd.JL_GATEWAY_JOINED (torusOf d)))

/-- R345, R473: the link faults found at the source, in the order 0x0601, 0x0602, 0x0605; 0 for none. -/
def State.linkFault (s : State) (d vc : Nat) : Nat :=
  let i := match SMap.find s.sends (d * 16 + vc) with
    | some f => f.piste
    | none => s.pisteFor d s.curPiste
  if !s.isSealed then
    if vc = 0 ∧ (s.exitPort d 0 0).isSome then 0 else 0x0601
  else if s.badDst d then 0x0601
  else if vc ≠ 0 ∧ !(pisteOk (s.piste s.curPiste) && pisteOk (s.piste i)) then 0x0602
  else
    let od := s.orderDir d vc i
    match s.exitPort d od.1 od.2 with
    | some p => if s.barred p vc then 0x0605 else 0
    | none => 0

/-! Packets -/

/-- A port of the link layer. -/
def State.link (s : State) (p : Nat) : LinkPort := s.links.getD p {}

/-- Put a port of the link layer. -/
def State.setLink (s : State) (p : Nat) (x : LinkPort) : State := { s with links := s.links.set p x }

/-- Queue a packet for a port. A retired port discards it (R334). -/
def State.enqueue (s : State) (p typ : Nat) (k : Packet) (whence : Nat) : State :=
  if s.portState p = 4 then s
  else
    let x := s.link p
    s.setLink p { x with outq := x.outq ++ [{ typ := typ, pkt := k, len := k.body.length, whence := whence }] }

/-- A packet of this module with the header of R317. -/
def State.mkPacket (s : State) (d vc : Nat) (od : Nat × Nat) (opn cls : Bool) (seq : BitVec 32) (ep : BitVec 16)
    (body : List Byte) : Packet :=
  { dst := BitVec.ofNat 18 d, src := BitVec.ofNat 18 s.moduleId, vc := BitVec.ofNat 4 vc, dclass := false,
    order := BitVec.ofNat 3 od.1, dir := BitVec.ofNat 6 od.2, opn := opn, cls := cls, seq := seq, epoch := ep, body := body }

/-- R313: the class of a packet that leaves this module as its source by a port: 0 unless the torus link there wraps. -/
def State.startClass (s : State) (p : Nat) : Bool := s.isSealed && !(s.gatewayPort s.moduleId p) && s.wraps s.moduleId p

/-- R329, R313, R304: a packet leaves this module as its source. On a VC that an Oftan there does not carry it is not sent. -/
def State.emit (s : State) (typ : Nat) (k : Packet) : State :=
  match s.exitPort k.dst.toNat k.order.toNat k.dir.toNat with
  | some p => if s.barred p k.vc.toNat then s else s.enqueue p typ { k with dclass := s.startClass p } 6
  | none => s

/-- The port a packet would leave by. -/
def State.portOf (s : State) (k : Packet) : Nat := (s.exitPort k.dst.toNat k.order.toNat k.dir.toNat).getD 6

/-- R320: send a packet that carries no sequence number of its own: ACK, NACK. An invalid piste sends none (R330). -/
def State.sendCtl (s : State) (d vc typ : Nat) (seq : BitVec 32) (ep : BitVec 16) (body : List Byte) : State :=
  let i := s.pisteFor d s.curPiste
  if s.routeFault d vc i = 0x0602 then s
  else
    let od := s.orderDir d vc i
    s.emit typ (s.mkPacket d vc od false false seq ep body)

/-- R324: the EPOCH a flow takes as it opens. -/
def State.newEpoch (s : State) : BitVec 16 := s.startId ++ s.fcount

/-- R320: the open send flows: neither one that waits for a place, nor one that stands for a failed flow. -/
def State.openFlows (s : State) : Nat := (s.sends.filter (fun e => !e.2.reopen && !e.2.held)).length

/-- R324: FCOUNT increments once more before a flow opens in place of a failed flow with the EPOCH it would take. -/
def State.passFailed (s : State) (key : Nat) : State :=
  let s := if SMap.find s.failedEp key = some s.newEpoch then { s with fcount := s.fcount + 1 } else s
  { s with failedEp := SMap.erase s.failedEp key }

/-- R320, R324: a flow opens, on the current piste or its first clear alternative, with the packets that wait for it. With 32,768 open it
waits for a place (log entry 29). -/
def State.openFlow (s : State) (d vc : Nat) (waiting : List WaitPkt) : State :=
  let key := d * 16 + vc
  let full := decide (32768 ≤ s.openFlows)
  let s := if full then s else s.passFailed key
  { s with sends := s.sends.set key { epoch := s.newEpoch, piste := s.pisteFor d s.curPiste, waiting := waiting, held := full } }

/-- R321, R324, R562: may a flow start a packet now? -/
def SendFlow.ready (f : SendFlow) : Bool :=
  f.toward.isNone && !f.reopen && !f.closing && !f.held && decide (f.unacked.length < 65536)

/-- R631: a packet that this module originates and that is held back while the watchdog has stopped them. -/
def State.mgmtHeld (s : State) (w : WaitPkt) : Bool := s.mgmtStop && decide (w.typ = 0x10) && decide (w.org ≠ .forward)

/-- R447: the bytes of a relay batch that are still to start once a packet of its flow has: a header names them. -/
def SendFlow.batchLeft (f : SendFlow) (vc : Nat) (w : WaitPkt) : Nat :=
  if vc < 4 ∨ 11 < vc then 0 else if f.left = 0 then numAt w.body 12 4 else f.left - w.body.length

/-- R447, R459: what waits on a relay flow without the whole batches of some origins; a batch whose header has left goes on to its end
(DEDUCED, log entry 37). -/
def dropBatches (q : Origin → Bool) : Nat → Nat → List WaitPkt → List WaitPkt
  | _, _, [] => []
  | keep, skip, w :: r =>
    if skip ≠ 0 then dropBatches q 0 (skip - w.body.length) r
    else if keep ≠ 0 then w :: dropBatches q (keep - w.body.length) 0 r
    else if q w.org then dropBatches q 0 (numAt w.body 12 4) r
    else w :: dropBatches q (numAt w.body 12 4) 0 r

/-- R459: batches of some origins that have not begun to leave do not leave. -/
def State.dropWaiting (s : State) (q : Origin → Bool) : State :=
  { s with sends := s.sends.map (fun e =>
      if 4 ≤ e.1 % 16 ∧ e.1 % 16 ≤ 11 then (e.1, { e.2 with waiting := dropBatches q e.2.left 0 e.2.waiting }) else e) }

/-- R320, R321, R324, R631: start the packets of a flow that wait, one after another, as far as the flow may; a CLOSE is its last. A
drained flow whose route is barred starts none: it waits for FLOW_ROUTE_SWITCH, which finds it another or fails it (R304, R330, R335). -/
def State.pumpFlow (s : State) (d vc : Nat) : Nat → State
  | 0 => s
  | n + 1 =>
    match SMap.find s.sends (d * 16 + vc) with
    | none => s
    | some f =>
      match f.waiting.find? (fun w => !(s.mgmtHeld w)) with
      | none => s
      | some w =>
        if f.ready ∧ f.unacked = [] ∧ s.routeFault d vc f.piste ≠ 0 then
          { s with sends := s.sends.set (d * 16 + vc) { f with toward := some f.piste } }
        else if f.ready then
          let od := s.orderDir d vc f.piste
          let k := s.mkPacket d vc od (f.next = 0) w.cls f.next f.epoch w.body
          let f := { f with
            next := f.next + 1, closing := w.cls, left := f.batchLeft vc w, waiting := f.waiting.filter s.mgmtHeld ++ (f.waiting.filter (fun w => !(s.mgmtHeld w))).drop 1
            unacked := f.unacked ++ [{ typ := w.typ, pkt := k, org := w.org, port := s.portOf k }] }
          State.pumpFlow (({ s with sends := s.sends.set (d * 16 + vc) f } : State).emit w.typ k) d vc n
        else s

/-- R320, R321: hand a packet to the flow of its destination and VC, opening the flow where there is none. -/
def State.sendPkt (s : State) (d vc typ : Nat) (body : List Byte) (org : Origin) (cls : Bool := false) : State :=
  let w : WaitPkt := { typ := typ, body := body, org := org, cls := cls }
  match SMap.find s.sends (d * 16 + vc) with
  | none => (s.openFlow d vc [w]).pumpFlow d vc 1
  | some f =>
    ({ s with sends := s.sends.set (d * 16 + vc) { f with waiting := f.waiting ++ [w] } } : State).pumpFlow d vc (f.waiting.length + 1)

/-- Does any packet of a flow have an origin? -/
def SendFlow.has (f : SendFlow) (q : Origin → Bool) : Bool :=
  f.unacked.any (fun k => q k.org) || f.waiting.any (fun k => q k.org)

/-- Is a packet with such an origin still unacknowledged, or unsent, on any flow? -/
def State.inFlight (s : State) (q : Origin → Bool) : Bool := s.sends.any (fun e => e.2.has q)

/-- A fresh requester tag, and who waits for it. -/
def State.newTag (s : State) (w : Waiter) : Nat × State :=
  (s.nextTag, { s with waiters := s.waiters.set s.nextTag w, nextTag := (s.nextTag + 1) % 2 ^ 32 })

/-- R318: the prefix of a LOAD_REQ: address, length, tag. -/
def loadReqBody (a n tag : Nat) : List Byte := leBytes 16 (a % 2 ^ 46 + n % 2 ^ 13 * 2 ^ 64 + tag % 2 ^ 32 * 2 ^ 96)

/-- R318: a STORE's body: address, the tag a STATUS would name (log entry 18), the data. -/
def storeBody (a tag : Nat) (bs : List Byte) : List Byte := leBytes 16 (a % 2 ^ 46 + tag % 2 ^ 32 * 2 ^ 96) ++ bs

/-- R318: a BULK packet's body, with the tag a STATUS would name (R48; log entry 18). -/
def bulkBody (a tag : Nat) (bs : List Byte) : List Byte := storeBody a tag bs

/-- R318: the prefix of a response or a STATUS: tag and status. -/
def respBody (tag status : Nat) (bs : List Byte) : List Byte :=
  leBytes 16 (tag % 2 ^ 32 + status % 2 ^ 16 * 2 ^ 32) ++ bs

/-- R562: the current piste becomes i: each send flow on VC1 to VC15 whose route changes waits until it is drained; the
others take ORDER and DIR from the new piste at once. A flow with nothing unacknowledged has nothing to drain, and goes on unless packets
wait on it for a route that is barred: FLOW_ROUTE_SWITCH then fails it (R335). -/
def State.setPiste (s : State) (i : Nat) : State :=
  let s := s.setFld Fd.JOB_PHASE_CUR_PISTE i
  let flows := s.sends.map (fun e =>
    let d := e.1 / 16
    let vc := e.1 % 16
    if vc = 0 then e
    else
      let f := e.2
      let j := s.pisteFor d i
      let od := s.orderDir d vc f.piste
      let od' := s.orderDir d vc j
      if s.route d od.1 od.2 = s.route d od'.1 od'.2 ∨ f.unacked = [] ∧ (f.waiting = [] ∨ s.routeFault d vc j = 0) then (e.1, { f with piste := j, toward := none })
      else (e.1, { f with toward := some i }))
  flows.foldl (fun s e => s.pumpFlow (e.1 / 16) (e.1 % 16) e.2.waiting.length) { s with sends := flows }

/-- R330: select a piste. One that breaks R330 is not made current, and 0x0602 is recorded. -/
def State.selectPiste (s : State) (i : Nat) : State := if pisteOk (s.piste i) then s.setPiste i else s.log 0x0602

end Sys2Proof.Machine
end

