-- ==== Sys2Proof/Machine/CmdOps.lean ====
section
/-! DEFINITION. Stream commands as every family sees them (R510, R511, R518): the fields of an entry, when a command may
start, and how one finishes. -/

namespace Sys2Proof.Machine

/-- Bits [lo + len - 1 : lo] of a command's entry. -/
def Cmd.bits (c : Cmd) (lo len : Nat) : Nat := Machine.bits c.entry.toNat lo len

/-- R510: n bytes of the body from a body offset. -/
def Cmd.body (c : Cmd) (off n : Nat) : Nat := c.bits (128 + 8 * off) (8 * n)

/-- R510: the opcode. -/
def Cmd.opc (c : Cmd) : Nat := c.bits 0 8
/-- R510: the IRQ bit. -/
def Cmd.irq (c : Cmd) : Bool := c.entry.getLsbD 9
/-- R510: the job ID. -/
def Cmd.job (c : Cmd) : Nat := c.bits 16 16
/-- R510: the sequence number of an entry. -/
def Cmd.seqField (c : Cmd) : Nat := c.bits 32 32
/-- R510: USER. -/
def Cmd.user (c : Cmd) : Nat := c.bits 64 64

/-- R511: the opcodes listed. -/
def opcListed (o : Nat) : Bool :=
  [0x01, 0x02, 0x03, 0x10, 0x11, 0x12, 0x13, 0x14, 0x15, 0x18, 0x20, 0x21, 0x28, 0x30, 0x38, 0x39, 0x3A, 0x3F].contains o

/-- R511: the opcodes that are always commit points. -/
def opcForcing (o : Nat) : Bool :=
  [0x10, 0x11, 0x12, 0x13, 0x14, 0x15, 0x18, 0x20, 0x21, 0x30, 0x38, 0x39, 0x3A].contains o

/-- R510: the body bytes outside the listed ranges (offset, length), and bits [15:11] of the header, are zero. -/
def Cmd.clean (c : Cmd) (used : List (Nat × Nat)) : Bool :=
  c.bits 11 5 = 0 && (List.range 112).all (fun i =>
    used.any (fun u => decide (u.1 ≤ i) && decide (i < u.1 + u.2)) || c.body i 1 = 0)

/-- A command by its reference. -/
def State.cmd (s : State) (k : CmdRef) : Option Cmd := SMap.find s.cmds k.code

/-- The front end's part of a stream. -/
def State.stream (s : State) (i : Nat) : Stream := s.streams.getD i {}

/-- Change the front end's part of a stream. -/
def State.setStream (s : State) (i : Nat) (f : Stream → Stream) : State :=
  { s with streams := s.streams.set i (f (s.stream i)) }

/-- The uncommitted commands of a stream, in sequence order. -/
def State.streamCmds (s : State) (i : Nat) : List (Nat × Cmd) :=
  let l := s.cmds.filter (fun e => e.1 / 2 ^ 32 = i)
  let c := (s.fld (Fd.HST_S_SEQ_COMMITTED i) + 1) % 2 ^ 32
  l.filter (fun e => c ≤ e.1 % 2 ^ 32) ++ l.filter (fun e => e.1 % 2 ^ 32 < c)

/-- The uncommitted commands of a stream that precede one of them. -/
def State.earlier (s : State) (k : CmdRef) : List Cmd :=
  ((s.streamCmds k.stream.val).takeWhile (fun e => e.1 ≠ k.code)).map (·.2)

/-- R523: is a stream re-executing commands? It is once the compute part is back. -/
def State.replaying (s : State) (i : Nat) : Bool :=
  decide (s.cpr = 0) && ((s.stream i).replay.isSome || (s.streamCmds i).any (fun e => e.2.replayed && decide (e.2.st < 2)))

/-- R531: show a stream's STATE. -/
def State.showStream (s : State) (i : Nat) : State :=
  s.setFld (Fd.HST_S_STAT_STATE i)
    (if !s.isSet (Fd.HST_S_CTL_EN i) then 0
     else if (s.stream i).halted then 3
     else if s.replaying i then 2
     else if s.isSet (Fd.HST_S_CTL_STOP i) then 4 else 1)

/-- R523: a replay stopped by a differing CRC executes nothing further of the interval that the entry lies in. -/
def State.replayStopped (s : State) (k : CmdRef) : Bool :=
  let x := s.stream k.stream.val
  match x.replay with
  | none => false
  | some n =>
    x.halted && !((((s.streamCmds k.stream.val).dropWhile (fun e => e.1 ≠ k.code)).takeWhile
      (fun e => e.1 % 2 ^ 32 ≠ n.toNat)).any (fun e => e.2.commit))

/-- R511: may command k, of one of the given opcodes, start? Every earlier command has started; with FENCE or forcing, every
earlier one has completed; no earlier forcing command is still running; and it does not wait to be fetched again (R523). -/
def State.mayStart (s : State) (k : CmdRef) (opcs : List Nat) : Bool :=
  match s.cmd k with
  | none => false
  | some c =>
    c.st = 0 && !c.again && opcs.contains c.opc && !s.replayStopped k
      && (s.earlier k).all (fun e => decide (1 ≤ e.st))
      && (s.earlier k).all (fun e => decide (2 ≤ e.st) || !(opcForcing e.opc))
      && ((s.earlier k).all (fun e => decide (2 ≤ e.st)) || !(c.entry.getLsbD 10 || opcForcing c.opc))

/-- Change a command. -/
def State.alterCmd (s : State) (k : CmdRef) (f : Cmd → Cmd) : State := { s with cmds := SMap.alter s.cmds k.code f }

/-- A command has started. -/
def State.startCmd (s : State) (k : CmdRef) : State := s.alterCmd k (fun c => { c with st := 1 })

/-- R568: a FILL that counts as pending completes. -/
def State.fillDone (s : State) (fault : Nat) : State :=
  let s := s.setFld Fd.JOB_FILL_PENDING (s.fld Fd.JOB_FILL_PENDING - 1)
  if fault = 0 then s.incFld Fd.JOB_FILL_DONE else s

/-- R566: the sequence number of a FILL, which its RESULT reports in bits [63:32] however it ends. -/
def Cmd.fseq (c : Cmd) : Nat := if c.opc = 0x28 ∧ c.body 12 1 = 1 then c.body 32 4 * 2 ^ 32 else 0

/-- R518, R566: a command finishes with a fault (0 for none) and a result; its record is held until its interval commits. One that
waits to be fetched again does not finish (R523). -/
def State.finishCmd (s : State) (k : CmdRef) (fault : Nat) (result : Nat := 0) (poison : Bool := false) : State :=
  match s.cmd k with
  | none => s
  | some c =>
    if 2 ≤ c.st ∨ c.again then s
    else
      let s := if c.fill then s.fillDone fault else s
      (s.alterCmd k (fun c =>
        { c with st := 2, fault := fault, result := result + c.fseq, poison := c.poison || poison, fill := false })).showStream k.stream.val

/-- The command of a key. -/
def cmdOfCode (n : Nat) : CmdRef :=
  { stream := ⟨n / 2 ^ 32 % 4096, Nat.mod_lt _ (by decide)⟩, seq := BitVec.ofNat 32 n }

end Sys2Proof.Machine
end

