-- ==== Sys2Proof/Machine/Engine.lean ====
section
/-! DEFINITION. The tiles' memory engines (R260, R285, R286, R490): the checks of a copy's ranges, its transactions, what one
of them moves, and how a copy ends; and the pins that wheel accesses hold (R369). -/

namespace Sys2Proof.Machine

/-! Pins -/

/-- R369: the pin holder of a tile's memory engine, and of the wheel unit; a core is its own number. -/
def pinEngine (tile : Nat) : Nat := 1000 + tile
/-- R369: the pin holder of the wheel unit. -/
def pinWheelUnit : Nat := 2000

/-- R369: the current epoch. -/
def State.kvEpoch (s : State) : BitVec 32 := BitVec.ofNat 32 (s.fld Fd.KV_EPOCH_CUR)

/-- R369: an access of a holder takes its pin: the slot of the current epoch, a free slot, or the newer of two busy ones.
Answers the slot. -/
def State.takePin (s : State) (h : Nat) : Nat × State :=
  let p := s.pins.getD h {}
  let cur := s.kvEpoch
  let slot :=
    if p.c0 ≠ 0 ∧ p.e0 = cur then 0
    else if p.c1 ≠ 0 ∧ p.e1 = cur then 1
    else if p.c0 = 0 then 2
    else if p.c1 = 0 then 3
    else if (cur - p.e0).toNat ≤ (cur - p.e1).toNat then 0 else 1
  let p' :=
    if slot = 0 then { p with c0 := p.c0 + 1 }
    else if slot = 1 then { p with c1 := p.c1 + 1 }
    else if slot = 2 then { p with c0 := 1, e0 := cur }
    else { p with c1 := 1, e1 := cur }
  (slot % 2, { s with pins := s.pins.set h p' })

/-- R369: an access has moved its last byte, or has stopped. -/
def State.dropPin (s : State) (h slot : Nat) : State :=
  { s with pins := SMap.alter s.pins h (fun p =>
      if slot = 0 then { p with c0 := p.c0 - 1 } else { p with c1 := p.c1 - 1 }) }

/-- The epochs of the busy slots. -/
def State.busyEpochs (s : State) : List (BitVec 32) :=
  s.pins.flatMap (fun e => (if e.2.c0 ≠ 0 then [e.2.e0] else []) ++ (if e.2.c1 ≠ 0 then [e.2.e1] else []))

/-- R370: OLDEST: how far the oldest busy epoch lies behind CUR. -/
def State.pinAge (s : State) : Nat := s.busyEpochs.foldl (fun a e => max a (s.kvEpoch - e).toNat) 0

/-! Barrier operands -/

/-- R474, R82: the fault 0x0105 of a barrier operand, or 0; the value 0 names no barrier. -/
def barFault (v : Nat) : Nat :=
  if v = 0 then 0
  else if v % 16 = 0 ∧ 0x8000000 ≤ v ∧ v < 0x10000000 then 0
  else 0x0105

/-- The local address of a barrier operand of a thread's tile, 0 for none. -/
def barAddr (t v : Nat) : Nat := if v = 0 then 0 else tileBase (tileOf t) + v

/-- R86: the BEPOCH a transfer records at acceptance. -/
def State.barEpoch (s : State) (a : Nat) : Nat := if a = 0 then 0 else (s.bar a).epoch

/-! Ranges of a copy (R490, R47) -/

/-- R490: the region a whole range must stay in: far, near, one tile window, or one host window. -/
def State.copyRegion (s : State) (a : Nat) : Nat :=
  match regionOf a with
  | .far => 1
  | .near => 2
  | .vat t => 10 + t
  | .scratch t _ => 10 + t
  | .tileHole t => 10 + t
  | .csr _ => 3
  | .host => match s.winAt a with
    | some i => 100 + i
    | none => 4
  | .reserved => 5

/-- R44, R45: a range of n > 0 bytes meets reserved addresses of the map. -/
def State.holeMeets (s : State) (a n : Nat) : Bool :=
  (s.probes a n).any (fun x => match regionOf x with
    | .reserved => true
    | .tileHole _ => true
    | _ => false)

/-- The kind of a peer's region that a copy may use, 3 for any other. -/
def peerRegion (x : Nat) : Nat :=
  match regionOf x with
  | .far => 1
  | .near => 2
  | .vat t => 10 + t
  | .scratch t _ => 10 + t
  | .tileHole t => 10 + t
  | _ => 3

/-- R473, R47, R490: the fault of a copy's range of n > 0 bytes on this module or on a peer, from its own module's view. A
peer's range is checked at the peer; here only that it stays within one kind of region of the map. -/
def State.rangeFault (s : State) (dev n : Nat) : Nat :=
  let a := (devSplit dev).2
  if 2 ^ 46 ≤ a + n - 1 then 0x0501
  else if s.isSelf (devSplit dev).1 then
    let f := s.addrFault .engine a n
    if f = 0x0501 ∨ f = 0x0502 then f
    else if s.copyRegion a = 3 ∨ (s.probes a n).any (fun x => decide (s.copyRegion x ≠ s.copyRegion a)) then 0x0503
    else f
  else if s.holeMeets a n then 0x0501
  else if peerRegion a = 3 ∨ (s.probes a n).any (fun x => decide (peerRegion x ≠ peerRegion a)) then 0x0503
  else 0

/-- R473: the link fault of a range that lies on a peer, or 0. -/
def State.rangeLink (s : State) (dev : Nat) : Nat :=
  let m := (devSplit dev).1
  if s.isSelf m then 0 else s.linkFault m 1

/-- Two device ranges of n bytes share a byte: both on this module, or on one peer. -/
def State.devMeet (s : State) (a b n m : Nat) : Bool :=
  let key (x : Nat) : Nat := if s.isSelf (devSplit x).1 then 0x3FFFF else (devSplit x).1
  decide (key a = key b) && rangesMeet ((devSplit a).2, n) ((devSplit b).2, m)

/-! Transactions -/

/-- A tile's engine and stores. -/
def State.tile (s : State) (t : Nat) : Tile := s.tiles.getD t {}
/-- Put a tile. -/
def State.setTile (s : State) (t : Nat) (x : Tile) : State := { s with tiles := s.tiles.set t x }
/-- Change a copy. -/
def State.alterCopy (s : State) (t c : Nat) (f : Copy → Copy) : State :=
  let x := s.tile t
  s.setTile t { x with copies := SMap.alter x.copies c f }

/-- R41: is a device address on this module? -/
def State.here (s : State) (dev : Nat) : Bool := s.isSelf (devSplit dev).1

/-- R260: the piece of a run that one transaction moves: within one 256-byte span of its source and of its destination. -/
def mvPiece (src dst len : Nat) : Nat := min len (min (256 - src % 256) (256 - dst % 256))

/-- R260: how many of n elements from (i, j) on of a transpose one transaction moves: those in one 256-byte span of the
destination. The source has been read by transactions of its own (log entry 102). -/
def trPiece (g : Geom) (i j n : Nat) : Nat :=
  min n ((256 - (g.dst + i * g.dstride + j * fmtWidth g.fmt / 8) % 256) * 8 / fmtWidth g.fmt)

/-- R260: split the first piece off what a copy has not yet issued: the piece, the rest. -/
def Copy.nextPiece (c : Copy) : Option (TxnOp × List TxnOp) :=
  match c.segs with
  | [] => none
  | .mv a b n cnt :: r =>
    let k := mvPiece a b n
    some (.mv a b k cnt, if n ≤ k then r else .mv (a + k) (b + k) (n - k) cnt :: r)
  | .rd a n :: r =>
    let k := min n (256 - a % 256)
    some (.rd a k, if n ≤ k then r else .rd (a + k) (n - k) :: r)
  | .tr i j n :: r =>
    match c.geom with
    | none => some (.tr i j 0, r)
    | some g =>
      let k := trPiece g i j n
      some (.tr i j k,
        if k < n then .tr i (j + k) (n - k) :: r
        else if i + 1 < g.cols then .tr (i + 1) 0 g.rows :: r else r)
  | .gather a b cnt :: r => some (.gather a b cnt, r)

/-- Issue one transaction of a copy. Bytes on a peer are requested as it issues. -/
def State.issueOne (s : State) (t cid : Nat) (c : Copy) (op : TxnOp) (rest : List TxnOp) : State :=
  let x := s.tile t
  let id := x.nextId
  let pre := match op with | .rd _ _ => 1 | _ => 0
  let s := s.setTile t { x with
    nextId := id + 1
    txns := x.txns.set id { copy := cid, op := op }
    copies := x.copies.set cid { c with segs := rest, out := c.out + 1, pre := c.pre + pre } }
  let req (a n : Nat) : State :=
    if s.here a then s
    else
      let r := s.newTag (.txn t id)
      r.2.sendPkt (devSplit a).1 1 0x01 (loadReqBody (devSplit a).2 n r.1) (.request r.1)
  match op with
  | .mv a _ n _ => req a n
  | .rd a n => req a n
  | _ => s

/-- The 256-byte spans that ranges lie in. -/
def spanCount (l : List (Nat × Nat)) : Nat := (l.map (fun r => (r.1 % 256 + r.2 + 255) / 256)).sum

/-- R177, R260: the transactions of a transposing array instruction: of a load until the bank is full, of a drain until it
completes. -/
def ArrOp.txns (tile : Nat) (o : ArrOp) : Nat :=
  match o.kind with
  | .load v true 0 => min 8192 (spanCount ((Desc.dec v).readRanges tile false))
  | .drain sp _ => if sp.trans then min 8192 (spanCount ((Desc.dec sp.tD).rowRanges tile)) else 0
  | _ => 0

/-- R177, R260: the transactions that the array instructions of a tile hold. -/
def State.arrayTxns (s : State) (t : Nat) : Nat :=
  ((List.range 16).map (fun c => ((s.core (t * 16 + c)).array.q.map (ArrOp.txns t)).sum)).sum

/-- R260: the reads of peers that the lap feeds of a tile's threads have outstanding. -/
def State.lapTxns (s : State) (t : Nat) : Nat :=
  (((s.laps.flatMap (fun e => e.2.sends)).filter (fun q => tileOf q.t = t)).map (·.reads)).sum

/-- R260: the transactions outstanding in a tile's engine: of its copies, a page walk each of those that wait for one, of the
array and of lap feeds. -/
def State.engineBusy (s : State) (t : Nat) : Nat :=
  let x := s.tile t
  x.txns.length + (x.copies.filter (fun e => e.2.walk.isSome)).length + s.arrayTxns t + s.lapTxns t

/-- A transposed element's place in the source: element (row, col) of the destination is element (col, row) of the
source. -/
def trSource (g : Geom) (row col : Nat) : Nat × Nat :=
  let off := row * fmtWidth g.fmt
  (g.src + col * g.sstride + off / 8, off % 8)

/-- The source bytes a transaction reads, one device address and length each: a transposition writes from bytes read ahead. -/
def TxnOp.sources : TxnOp → List (Nat × Nat)
  | .mv a _ n _ => [(a, n)]
  | .rd a n => [(a, n)]
  | .gather _ _ _ => []
  | .tr _ _ _ => []

/-- Where a transaction writes, and how many bytes. -/
def Copy.target (c : Copy) : TxnOp → Nat × Nat
  | .mv _ b n _ => (b, n)
  | .rd _ _ => (0, 0)
  | .gather as b _ => (b, as.length)
  | .tr i j n =>
    match c.geom with
    | none => (0, 0)
    | some g => (g.dst + i * g.dstride + j * fmtWidth g.fmt / 8, (n * fmtWidth g.fmt + 7) / 8)

/-- R74, R364: must a wheel access wait, before its next transaction, for an earlier one of its thread? For one that touches a byte of
it, and, once it is translated itself, for one that is not. -/
def State.wheelBehind (s : State) (t cid : Nat) (c : Copy) : Bool :=
  let x := s.tile t
  let meets (a b : List (Nat × Nat)) : Bool := a.any (fun p => b.any (fun q => s.devMeet p.1 q.1 p.2 q.2))
  match c.org, c.segs with
  | .thread th _ owner, op :: _ =>
    c.pin.isSome && x.copies.any (fun e =>
      let f := e.2
      let ops := f.segs ++ (x.txns.filter (fun y => y.2.copy = e.1)).map (·.2.op)
      decide (e.1 < cid) && f.pin.isSome && (match f.org with | .thread th' _ owner' => th' = th && owner' = owner | _ => false)
        && ((f.walk.isSome && c.walk.isNone)
          || ops.any (fun o => meets [f.target o] (c.target op :: op.sources) || meets o.sources [c.target op])))
  | _, _ => false

/-- R260: issue transactions, the oldest copy first, while fewer than 8,192 are outstanding. A transposition reads its source
before it writes. -/
def State.issueTxns (s : State) (t : Nat) : Nat → State
  | 0 => s
  | n + 1 =>
    let x := s.tile t
    if 8192 ≤ s.engineBusy t then s
    else
      match x.copies.find? (fun e => e.2.segs ≠ [] && !(e.2.blocked) && !(s.wheelBehind t e.1 e.2)
          && (e.2.pre = 0 || (match e.2.segs with | .rd _ _ :: _ => true | _ => false))) with
      | none => s
      | some (cid, c) =>
        match c.nextPiece with
        | none => s
        | some (op, rest) => State.issueTxns (s.issueOne t cid c op rest) t n

/-- R478, R518: a copy ends: its bytes count on its barrier, and whoever asked learns the outcome. A count the barrier
refuses is fault 0x0107 (R86, R88). -/
def State.endCopy (s : State) (t cid : Nat) (c : Copy) : State :=
  let x := s.tile t
  let s := s.setTile t { x with copies := SMap.erase x.copies cid }
  let r := s.barLand c.bar c.ep c.landed
  let s := r.1
  let fault := if c.fault ≠ 0 then c.fault else r.2
  let s := match c.pin with | some (h, k) => s.dropPin h k | none => s
  match c.org with
  | .thread th pc owner =>
    let s := if c.poison then (match owner with | some k => s.alterCmd k (fun q => { q with poison := true }) | none => s) else s
    s.report th fault pc owner
  | .cmd k => s.finishCmd k fault c.moved c.poison

/-- A copy ends once nothing of it is left. -/
def State.settleCopy (s : State) (t cid : Nat) : State :=
  match SMap.find (s.tile t).copies cid with
  | none => s
  | some c => if c.out = 0 ∧ (c.segs = [] ∨ c.blocked) ∧ c.walk.isNone then s.endCopy t cid c else s

/-- R260: accept a copy: what it moves begins to be issued. One that moves nothing ends at once (R122). -/
def State.acceptCopy (s : State) (t : Nat) (c : Copy) : State :=
  let x := s.tile t
  let s := s.setTile t { x with nextId := x.nextId + 1, copies := x.copies.set x.nextId c }
  (s.issueTxns t 8192).settleCopy t x.nextId

/-- R260: has the engine room for a copy of n transactions? One larger than the engine waits for an empty engine. -/
def State.engineRoom (s : State) (t n : Nat) : Bool := decide (s.engineBusy t + min n 8192 ≤ 8192)

/-- A transaction is over: it leaves the engine, others issue, and its copy may end. -/
def State.endTxn (s : State) (t id cid : Nat) : State :=
  let x := s.tile t
  let s := s.setTile t { x with txns := SMap.erase x.txns id }
  let s := s.alterCopy t cid (fun c => { c with out := c.out - 1 })
  (s.issueTxns t 8192).settleCopy t cid

/-- Does a transaction's count go to the barrier? -/
def TxnOp.counts : TxnOp → Bool
  | .mv _ _ _ cnt => cnt
  | .gather _ _ cnt => cnt
  | .tr _ _ _ => true
  | .rd _ _ => false

/-- The bytes of a transposed row's elements, each with whether a poisoned line holds a bit of it (R285). -/
def trBytes (c : Copy) (g : Geom) (i j n : Nat) : List (Byte × Bool) :=
  let w := fmtWidth g.fmt
  let places (k : Nat) : List Nat := let q := trSource g i (j + k); (List.range ((q.2 + w + 7) / 8)).map (q.1 + ·)
  let code (k : Nat) : Nat := bits (leNat ((places k).map (fun a => c.buf.getD a 0))) (trSource g i (j + k)).2 w
  let bad (k : Nat) : Bool := (places k).any (fun a => c.tainted.contains (a / 64))
  (packRow w ((List.range n).map code)).zipIdx.map (fun b =>
    (b.1, (List.range n).any (fun k => decide (k * w < 8 * b.2 + 8) && decide (8 * b.2 < (k + 1) * w) && bad k)))

/-- The bytes a transaction moves, each with whether its source lies in a poisoned line. A row of 4-bit elements of odd length leaves the
upper half of its last byte zero (DESIGN CHOICE, log entry 100). -/
def State.txnBytes (s : State) (c : Copy) (x : Txn) : List (Byte × Bool) :=
  match x.op with
  | .mv a _ n _ =>
    match x.data with
    | some bs => bs.map (fun b => (b, false))
    | none =>
      let l := (devSplit a).2
      (List.range n).map (fun i => (s.byteAt (l + i), s.here a && s.badLine (lineOf (l + i))))
  | .rd _ _ => []
  | .gather as _ _ => as.map (fun a => (c.buf.getD a 0, c.tainted.contains (a / 64)))
  | .tr i j n =>
    match c.geom with
    | none => []
    | some g => trBytes c g i j n

/-- R285: is a destination past the module's edge: a peer, or a host window? -/
def State.pastEdge (s : State) (dev : Nat) : Bool := !(s.here dev) || decide (regionOf (devSplit dev).2 = .host)

/-- R260, R282: may a transaction move now? Its source lines on this module carry no glide tag, no bank it needs is held, a peer's
bytes have arrived, and nothing it must follow is outstanding. -/
def State.txnReady (s : State) (t id : Nat) (c : Copy) (x : Txn) : Bool :=
  let dst := (c.target x.op).1
  !x.sent
    && x.op.sources.all (fun r => !(s.here r.1) || (linesOf (devSplit r.1).2 r.2).all (fun l => (SMap.find s.ltags l).isNone))
    && (match x.op with
        | .mv a _ _ _ => s.here a || x.data.isSome
        | .rd a _ => s.here a || x.data.isSome
        | _ => c.pre = 0)
    && !(s.anyHeld ((x.op.sources ++ [c.target x.op]).filterMap (fun r => if s.here r.1 then some ((devSplit r.1).2, r.2) else none)))
    && (!(c.ordered || s.pastEdge dst)
        || (s.tile t).txns.all (fun e => decide (id ≤ e.1) || e.2.copy ≠ x.copy || e.2.sent))

/-- R285, R286: bytes land on this module, those of poisoned source lines as poisoned lines. Answers whether a write was discarded. -/
def State.landBytes (s : State) (a : Nat) (bs : List (Byte × Bool)) : State × Bool :=
  let cells := (cellsFrom a (bs.map (·.1))).zip (bs.map (·.2))
  let bad := ((cells.filter (fun c => c.2)).map (fun c => lineOf c.1.1)).eraseDups
  let r := s.store ((cells.filter (fun c => !c.2)).map (·.1))
  ((r.1.poisonLines bad).voidScrubs bad, r.2)

/-- The bytes of a transaction land at their destination on this module (R285, R286). -/
def State.landTxn (s : State) (t : Nat) (x : Txn) (dst : Nat) (bs : List (Byte × Bool)) : State :=
  let r := s.landBytes (devSplit dst).2 bs
  r.1.alterCopy t x.copy (fun c => { c with
    fault := if c.fault = 0 ∧ r.2 then 0x0511 else c.fault
    poison := c.poison || bs.any (·.2)
    moved := c.moved + bs.length
    landed := if x.op.counts then c.landed + bs.length else c.landed })

/-- R285: the bytes of a transaction before the first destination line that would hold a poisoned byte. -/
def cleanPrefix (dst : Nat) (bs : List (Byte × Bool)) : List (Byte × Bool) :=
  match (bs.zipIdx.find? (fun b => b.1.2)).map (fun b => (dst + b.2) / 64 * 64 - dst) with
  | none => bs
  | some n => bs.take n

/-- R260: the bytes of a transaction leave for a peer, and end it with their acknowledgement. -/
def State.sendTxn (s : State) (t id : Nat) (x : Txn) (dst : Nat) (bs : List Byte) : State :=
  let q := s.tile t
  let s := s.setTile t { q with txns := q.txns.set id { x with sent := true } }
  let r := s.newTag (.txn t id)
  r.2.sendPkt (devSplit dst).1 1 0x03 (storeBody (devSplit dst).2 r.1 bs) (.txn t id)

/-- R285: a poisoned line stops its copy at the module's edge: nothing more of it is issued, and the lines before the poisoned
one go on. -/
def State.stopTxn (s : State) (t id : Nat) (x : Txn) (dst : Nat) (bs : List (Byte × Bool)) : State :=
  let s := s.alterCopy t x.copy (fun c => { c with
    fault := if c.fault = 0 then 0x0511 else c.fault, blocked := true, segs := [] })
  let good := cleanPrefix dst bs
  if good = [] then s.endTxn t id x.copy
  else if s.here dst then (s.landTxn t x dst good).endTxn t id x.copy
  else s.sendTxn t id { x with op := .mv dst dst good.length x.op.counts } dst (good.map (·.1))

/-- A transaction's read ahead is whole (R174, R260): its bytes, and which of their lines are poisoned. -/
def State.readAhead (s : State) (t : Nat) (x : Txn) (dev n : Nat) : State :=
  let a := (devSplit dev).2
  let bs := x.data.getD (s.readBytes a n)
  let bad := if s.here dev then (linesOf a n).filter s.badLine else []
  s.alterCopy t x.copy (fun c => { c with
    pre := c.pre - 1
    buf := (cellsFrom dev bs).foldl (fun m e => SMap.set m e.1 e.2) c.buf
    tainted := c.tainted ++ bad.map (fun l => (dev - a) / 64 + l) })

/-- R269: the fault of a transaction whose tier has been unmapped since its copy was accepted, or 0. -/
def State.txnFault (s : State) (c : Copy) (x : Txn) : Nat :=
  (c.target x.op :: x.op.sources).foldl (fun f r => if f = 0 ∧ s.here r.1 then s.tierFault (devSplit r.1).2 r.2 else f) 0

/-- A transaction's flow, or its home, failed (R325, R48): the copy completes with the fault; nothing more of it is issued. -/
def State.failTxn (s : State) (t id fault : Nat) : State :=
  match SMap.find (s.tile t).txns id with
  | none => s
  | some x =>
    let s := s.alterCopy t x.copy (fun c => { c with
      fault := if c.fault = 0 then fault else c.fault, blocked := true, segs := []
      pre := match x.op with | .rd _ _ => c.pre - 1 | _ => c.pre })
    s.endTxn t id x.copy

/-- R260, R285: a transaction moves its bytes. Toward a peer it sends them and ends with their acknowledgement. Poison
stops a copy past the module's edge. -/
def State.moveTxn (s : State) (t id : Nat) (c : Copy) (x : Txn) : State :=
  let f := s.txnFault c x
  if f ≠ 0 then s.failTxn t id f
  else
    let st := x.op.sources.foldl (fun s r => if s.here r.1 then s.touch (devSplit r.1).2 r.2 else s) s
    match x.op with
    | .rd a n => (st.readAhead t x a n).endTxn t id x.copy
    | _ =>
      if c.blocked then s.endTxn t id x.copy
      else
        let tg := c.target x.op
        let bs := s.txnBytes c x
        if s.pastEdge tg.1 ∧ bs.any (·.2) then st.stopTxn t id x tg.1 bs
        else if s.here tg.1 then (st.landTxn t x tg.1 bs).endTxn t id x.copy
        else st.sendTxn t id x tg.1 (bs.map (·.1))

/-- The bytes a transaction sent to a peer are acknowledged (R321): they count as moved, and the transaction is over. -/
def State.ackTxn (s : State) (t id : Nat) : State :=
  match SMap.find (s.tile t).txns id with
  | none => s
  | some x =>
    match SMap.find (s.tile t).copies x.copy with
    | none => s
    | some c =>
      let n := (c.target x.op).2
      let s := s.alterCopy t x.copy (fun c => { c with
        moved := c.moved + n, landed := if x.op.counts then c.landed + n else c.landed })
      s.endTxn t id x.copy

/-- A peer's answer arrives for a transaction (R318). A fault code ends its copy. -/
def State.answerTxn (s : State) (t id status : Nat) (bs : List Byte) : State :=
  if status ≠ 0 then s.failTxn t id status
  else
    let x := s.tile t
    s.setTile t { x with txns := SMap.alter x.txns id (fun q => { q with data := some bs }) }

/-- ENGINE_TRANSACTION_COMPLETE (R260): a transaction that may move does so. -/
def execEngineTransactionComplete (tile : Fin 36) (id : Nat) (s : State) : Host.Outcome State Fault Refusal :=
  match SMap.find (s.tile tile.val).txns id with
  | none => .next s
  | some x =>
    match SMap.find (s.tile tile.val).copies x.copy with
    | none => .next s
    | some c => if s.computeUp ∧ s.txnReady tile.val id c x then .next (s.moveTxn tile.val id c x) else .next s

end Sys2Proof.Machine
end

