-- ==== Sys2Proof/Machine/Array.lean ====
section
/-! DEFINITION. The matrix array: its instructions (R136 to R149, R174, R495, R496) and the events of its queue, banks, ramp
and epilogue (R151 to R173, R183 to R186, R211 to R218). -/

namespace Sys2Proof.Machine

/-- R137: an array instruction of a thread that does not hold the lease faults. -/
def holding (s : State) (t : Nat) (k : Eff) : Eff :=
  if (s.core (coreOf t)).array.lease = some (thOf t) then k else .fault 0x0207 s

/-- MMA.OPEN (R136, R141): waits until the lease is the thread's. -/
def execMmaOpen (t : Tid) (w : IWord) (s : State) : Host.Outcome State Fault Refusal :=
  .next (s.issue t w { ok := ({} : Form).ok w, gate := true } (fun s _ =>
    let c := coreOf t.code
    let a := (s.core c).array
    match a.lease with
    | none => .retire (s.setArray c { a with lease := some t.th.val })
    | some h =>
      if h = t.th.val then .retire s
      else .wait .waitData (s.setArray c { a with wait := t.th.val :: a.wait.filter (· ≠ t.th.val) })))

/-- MMA.CLOSE (R137, R138). -/
def execMmaClose (t : Tid) (w : IWord) (s : State) : Host.Outcome State Fault Refusal :=
  .next (s.issue t w { ok := ({} : Form).ok w, gate := true } (fun s _ =>
    holding s t.code (.retire (s.setArray (coreOf t.code) ((s.core (coreOf t.code)).array.release t.th.val)))))

/-- R139: the queue holds four instructions. -/
def MatArray.full (a : MatArray) : Bool := decide (4 ≤ a.q.length)

/-- R166: a swap is pending, or an FP32 operand is still loading. -/
def MatArray.loading (a : MatArray) : Bool := a.q.any (fun o => match o.kind with | .load _ _ _ => true | _ => false)

/-- Passes are queued. -/
def MatArray.passing (a : MatArray) : Bool := a.q.any (fun o => match o.kind with | .pass _ _ _ _ _ _ _ => true | _ => false)

/-- MMA.LOADW and MMA.LOADW.T after the lease (R144, R145, R166 to R169, R175, R177, R260). -/
def loadwBody (t : Nat) (tr : Bool) (v : BitVec 128) (s : State) : Eff :=
  let c := coreOf t
  let a := (s.core c).array
  let d := Desc.dec v
  let k := if tr then d.cols else d.rows
  let n := if tr then d.rows else d.cols
  let df := d.fault (coreIdx c) false (!tr)
  if df ≠ 0 then .fault df s
  else if 256 < k ∨ 128 < n then .fault 0x0201 s
  else if !([0, 1, 2, 3, 4, 5, 6, 7].contains d.fmt) || (d.scaleEn && decide (d.fmt ≤ 2)) then .fault 0x0203 s
  else if tr ∧ d.fmt = 5 then .fault 0x0208 s
  else if a.full then .wait .waitData s
  else if k = 0 ∨ n = 0 then .retire s
  else if a.loading || ((d.fmt = 0 || (match a.latest with | some o => o.fmt = 0 | none => false)) && a.passing) then
    .wait .waitData s
  else if s.arrayOwes t (d.readRanges (tileOf t) (!tr)) then .wait .waitData s
  else if tr ∧ !(s.engineRoom (tileOf t) (spanCount (d.readRanges (tileOf t) false))) then .wait .waitData s
  else
    let s := s.pushArr t (.load v tr 0) (s.regs t).pc 0
    let a := (s.core c).array
    let s := s.setArray c { a with latest := some { fmt := d.fmt, k := k, n := n, scaled := d.scaleEn } }
    .retire (s.rampUp c)

/-- MMA.LOADW (R495). -/
def execMmaLoadw (t : Tid) (w : IWord) (s : State) : Host.Outcome State Fault Refusal :=
  let w := { w with mod := w.mod &&& ~~~1 }
  .next (s.issue t w { ok := ({ a := .d } : Form).ok w, gate := true, reads := [dR w.a.toNat] } (fun s _ =>
    holding s t.code (loadwBody t.code false ((s.regs t.code).getD' w.a.toNat) s)))

/-- MMA.LOADW.T (R174, R495): MOD[0] is its own. -/
def execMmaLoadwT (t : Tid) (w : IWord) (s : State) : Host.Outcome State Fault Refusal :=
  let w := { w with mod := w.mod ||| 1 }
  .next (s.issue t w { ok := ({ a := .d, mods := 1 } : Form).ok w, gate := true, reads := [dR w.a.toNat] } (fun s _ =>
    holding s t.code (loadwBody t.code true ((s.regs t.code).getD' w.a.toNat) s)))

/-- R161: the column mask of a pass. -/
def passMask (r : TRegs) (w : IWord) : BitVec 128 :=
  if w.m 3 then r.getP (w.c.toNat + 1) ++ r.getP w.c.toNat else BitVec.allOnes 128

/-- What stops MMA.STREAM as it issues (R146 to R149), the first of its faults in their order, or 0. SCALE_EN of tC, which
neither R144 nor R146 names, is accepted (DESIGN CHOICE, log entry 100). -/
def streamFault (core : Nat) (a d : Desc) (latest : Option OperandMeta) (bar : Nat) : Nat :=
  let df := descFaults [a.fault (coreIdx core) false false, d.fault (coreIdx core) true false]
  if df ≠ 0 then df
  else match latest with
  | none => 0x0202
  | some op =>
    if a.cols ≠ op.k ∨ d.rows ≠ a.rows ∨ d.cols ≠ op.n then 0x0202
    else if !fmtPair op.fmt a.fmt || (a.scaleEn && decide (a.fmt ≤ 2)) then 0x0203
    else if d.fmt ≠ (if intPair op.fmt a.fmt (op.scaled || a.scaleEn) then 8 else 0) then 0x0204
    else if a.rows ≠ 0 ∧ !inOwn (coreIdx core) d.base d.span then 0x0204
    else barFault bar

/-- MMA.STREAM after the lease (R146 to R149, R162). -/
def streamBody (t : Nat) (w : IWord) (s : State) : Eff :=
  let c := coreOf t
  let r := s.regs t
  let va := r.getD' w.a.toNat
  let vc := r.getD' w.b.toNat
  let a := Desc.dec va
  let arr := (s.core c).array
  let f := streamFault c a (Desc.dec vc) arr.latest (r.getG w.d.toNat).toNat
  if f ≠ 0 then .fault f s
  else match arr.latest with
  | none => .fault 0x0202 s
  | some op =>
    let mask := passMask r w
    let none' := a.rows = 0 || passCols op.n mask = []
    if arr.full then .wait .waitData s
    else if !none' && s.arrayOwes t (a.readRanges (tileOf t) false) then .wait .waitData s
    else
      let s := s.pushArr t (.pass va vc (w.ms 0 2) (w.m 2) mask op (if none' then a.rows else 0)) r.pc
        (barAddr t (r.getG w.d.toNat).toNat)
      .retire (if none' then s.settleRamp c else s.rampUp c)

/-- MMA.STREAM (R147, R495). -/
def execMmaStream (t : Tid) (w : IWord) (s : State) : Host.Outcome State Fault Refusal :=
  let pm := if w.m 3 then [pR w.c.toNat, pR (w.c.toNat + 1)] else []
  .next (s.issue t w
    { ok := ({ a := .d, b := .d, c := if w.m 3 then .p else .none, d := .g, mods := 0xF } : Form).ok w
        && decide (w.ms 0 2 ≠ 3) && (!w.m 3 || decide (w.c.toNat % 2 = 0))
      gate := true, reads := [dR w.a.toNat, dR w.b.toNat, gR w.d.toNat] ++ pm }
    (fun s _ => holding s t.code (streamBody t.code w s)))

/-- R496: the steps of a drain that name a field of the extension word: the field and the bytes its address covers. -/
def drainAddrs (w : IWord) (m n : Nat) : List (Nat × Nat) :=
  (if w.m 1 then [(0, 4 * n)] else []) ++ (if w.m 2 then [(1, 4 * n)] else [])
    ++ (if w.ms 3 2 = 3 then [(2, 88)] else []) ++ (if w.ms 5 2 = 2 then [(3, tileCount m * 8)] else [])

/-- R496: the encoding of a drain's word. -/
def drainOk (w : IWord) : Bool :=
  let us := (drainAddrs w 0 0).map (·.1)
  ({ a := .d, b := .d, c := .g, mods := 0xFF, x := if us = [] then .never else .fields us } : Form).ok w
    && decide (w.ms 5 2 ≠ 3)

/-- R66: the same of the word before its extension word. -/
def drainHead (w : IWord) : Bool := drainOk { w with ext := 0 }

/-- The registers a drain reads. -/
def drainReads (w : IWord) : List Nat :=
  [dR w.a.toNat, dR w.b.toNat, gR w.c.toNat] ++ (drainAddrs w 0 0).map (fun x => gR (w.f x.1))

/-- Do the block scales of a region lie in the vat? -/
def Desc.scalesInVat (d : Desc) : Bool := d.scaleEn && decide (d.scale < 0x4000000)

/-- R184: a drain waits at an implicit gate when it names a barrier, writes to the vat (its scales and amax table included),
or transposes. -/
def drainGate (r : TRegs) (w : IWord) : Bool :=
  w.m 0 || decide (r.getG w.c.toNat ≠ 0) || decide ((Desc.dec (r.getD' w.b.toNat)).base < 0x4000000)
    || (Desc.dec (r.getD' w.b.toNat)).scalesInVat
    || (decide (w.ms 5 2 = 2) && decide ((r.getG (w.f 3)).toNat < 0x4000000))

/-- FP32 words at a tile offset. -/
def State.wordsAt (s : State) (t a n : Nat) : List Nat := (List.range n).map (fun i => s.readNat (tileBase (tileOf t) + a + 4 * i) 4)

/-- R179: the parameters an accepted drain keeps: its operands are copied at issue. -/
def State.drainSpec (s : State) (t : Nat) (w : IWord) (nz : Bool) : DrainSpec :=
  let r := s.regs t
  let n := (Desc.dec (r.getD' w.a.toNat)).cols
  let m := (Desc.dec (r.getD' w.a.toNat)).rows
  let at0 (k : Nat) : Nat := (r.getG (w.f k)).toNat
  let copied := (drainAddrs w m n).filter (fun x => x.1 ≠ 3)
  { tC := r.getD' w.a.toNat
    tD := r.getD' w.b.toNat
    trans := w.m 0
    act := w.ms 3 2
    smode := w.ms 5 2
    satm := w.m 7
    scale := if w.m 1 then some (if nz then s.wordsAt t (at0 0) n else []) else none
    bias := if w.m 2 then some (if nz then s.wordsAt t (at0 1) n else []) else none
    table := if w.ms 3 2 = 3 ∧ nz then s.wordsAt t (at0 2) 22 else []
    amax := at0 3
    margin := s.fld (Fd.TILE_NUM_CTL_SPRED_MARGIN (tileOf t))
    bad := nz && s.rangesPoisoned (copied.map (fun x => (tileBase (tileOf t) + at0 x.1, x.2))) }

/-- R181, R182: the shape, format and scale mode of a drain are not allowed. -/
def drainBad (c d : Desc) (w : IWord) : Bool :=
  let steps := w.m 1 || w.m 2 || decide (w.ms 3 2 ≠ 0)
  decide ((d.rows, d.cols) ≠ (if w.m 0 then (c.cols, c.rows) else (c.rows, c.cols)))
    || decide (d.fmt = 9) || decide (d.fmt = 10) || (decide (d.fmt = 8) && steps)
    || (d.scaleEn != decide (w.ms 5 2 ≠ 0))
    || ((d.scaleEn || decide (w.ms 5 2 ≠ 0)) && [0, 1, 2, 8].contains d.fmt)

/-- R93, R217: a drain opens a window: it is a .SPRED one to the core's own scratchpad, its scales there too, one is free and SCALE_EN is
set. One whose scales lie in the vat opens none (DESIGN CHOICE, log entry 100: R93 and R217 speak of the drain's destination alone). -/
def State.opensScale (s : State) (t : Nat) (sp : DrainSpec) : Bool :=
  let d := Desc.dec sp.tD
  decide (sp.smode = 2) && decide (0x8000000 ≤ d.base) && !d.scalesInVat && s.isSet (Fd.TILE_GLIDE_CTL_SCALE_EN (tileOf t))
    && (List.range 8).any (fun w => (SMap.find (s.core (coreOf t)).windows w).isNone)

/-- R93, R94, R99, R217: a .SPRED drain to the core's own scratchpad opens a window; its thread takes part in it from just after the drain. -/
def State.openScale (s : State) (t n : Nat) (sp : DrainSpec) (r : DrainRun) : State :=
  let c := coreOf t
  let a := (s.core c).array
  let id := a.nextId - 1
  if s.opensScale t sp ∧ r.todo ≠ [] then
    match s.openWindow c (.scale id) with
    | none => s
    | some (wd, s) =>
      let regs := s.regs t
      (s.setRun c id sp r).join t [wd] { regs with pc := regs.pc + n }
  else s

/-- MMA.DRAIN and MMA.DRAIN.T after the lease (R177 to R184, R260, R495, R668). Without elements no address it names is
checked (R122, log entry 33). A table is checked once the bytes copied are no longer owed or gliding. -/
def drainBody (t : Nat) (w : IWord) (s : State) : Eff :=
  let c := coreOf t
  let tile := tileOf t
  let r := s.regs t
  let dc := Desc.dec (r.getD' w.a.toNat)
  let dd := Desc.dec (r.getD' w.b.toNat)
  let nz := dc.rows ≠ 0 && dc.cols ≠ 0
  let bar := (r.getG w.c.toNat).toNat
  let as := (drainAddrs w dc.rows dc.cols).map (fun x => ((r.getG (w.f x.1)).toNat, x.2))
  let sp := s.drainSpec t w nz
  let x := s.thread t
  let glide := BitVec.ofNat 8 x.glide
  let copied := ((drainAddrs w dc.rows dc.cols).filter (fun y => y.1 ≠ 3)).map (fun y =>
    (tileBase tile + (r.getG (w.f y.1)).toNat, y.2))
  let df := descFaults [dc.fault (coreIdx c) false false, dd.fault (coreIdx c) true (w.m 0)]
  if df ≠ 0 then .fault df s
  else if (dc.fmt ≠ 0 ∧ dc.fmt ≠ 8) ∨ (nz ∧ !inOwn (coreIdx c) dc.base dc.span) then .fault 0x0204 s
  else if drainBad dc dd w then .fault 0x0206 s
  else if w.m 0 ∧ dd.fmt = 5 then .fault 0x0208 s
  else if nz ∧ as.any (fun y => y.1 % 16 ≠ 0 ∨ 2 ^ 28 ≤ y.1) then .fault 0x0104 s
  else if nz ∧ as.any (fun y => !inVatOrOwn (coreIdx c) y.1 y.2) then .fault 0x0103 s
  else if nz ∧ (s.arrayOwes t copied || (s.rangesTag copied &&& ~~~glide) ≠ 0) then .wait .waitData s
  else if nz ∧ w.ms 3 2 = 3 ∧ !sp.bad ∧ !pwlOk sp.table then .fault 0x0205 s
  else if barFault bar ≠ 0 then .fault (barFault bar) s
  else if (s.core c).array.full then .wait .waitData s
  else
    let outs := (List.range dc.rows).flatMap (drainOut sp tile)
    let tab := if sp.smode = 2 then [(tileBase tile + sp.amax, tileCount dc.rows * 8)] else []
    if nz ∧ s.arrayHolds t (outs ++ tab) then .wait .waitData s
    else if nz ∧ s.opensScale t sp ∧ s.fencePend tile then .wait .waitData s
    else if w.m 0 ∧ !(s.engineRoom tile (spanCount (dd.rowRanges tile))) then .wait .waitData s
    else
      let run : DrainRun := { todo := if nz then (List.range dc.rows).map (fun m => (m, 0)) else [], tag := glide, ord := x.joined }
      let s := s.pushArr t (.drain sp run) r.pc (barAddr t bar)
      .retire (s.openScale t w.size sp run)

/-- MMA.DRAIN (R495, R496). -/
def execMmaDrain (t : Tid) (w : IWord) (s : State) : Host.Outcome State Fault Refusal :=
  let w := { w with mod := w.mod &&& ~~~1 }
  .next (s.issue t w { ok := drainOk w, head := drainHead w, gate := drainGate (s.regs t.code) w, reads := drainReads w }
    (fun s _ => holding s t.code (drainBody t.code w s)))

/-- MMA.DRAIN.T (R174, R495, R496): MOD[0] is its own. -/
def execMmaDrainT (t : Tid) (w : IWord) (s : State) : Host.Outcome State Fault Refusal :=
  let w := { w with mod := w.mod ||| 1 }
  .next (s.issue t w { ok := drainOk w, head := drainHead w, gate := true, reads := drainReads w }
    (fun s _ => holding s t.code (drainBody t.code w s)))

/-! Events of the banks and the ramp -/

/-- RAMP_STEP (R170, R173): the next columns are enabled or disabled at the rate of the ramp under way. -/
def execRampStep (c : Cid) (s : State) : Host.Outcome State Fault Refusal :=
  let a := (s.core c.code).array
  let n := if a.rampLen = 0 then 4 else if a.rampLen = 1 then 2 else 1
  .next (
    if a.ramp = 1 then
      let cols := min 128 (a.cols + n)
      (s.setArray c.code { a with cols := cols, ramp := if cols = 128 then 2 else 1 }).settleRamp c.code
    else if a.ramp = 3 then
      s.setArray c.code { a with cols := a.cols - n, ramp := if a.cols ≤ n then 0 else 3 }
    else s)

/-- ARRAY_HOLD_EXPIRY (R171): the HOLD wait ends and RAMP_DOWN begins. -/
def execArrayHoldExpiry (c : Cid) (s : State) : Host.Outcome State Fault Refusal :=
  .next (if (s.core c.code).array.hold.isSome then s.rampDown c.code else s)

/-- SHADOW_BANK_FULL (R163, R167, R185, R668): the load under way has read its region, once no line of it glides. An FP32
operand fills both banks and its load completes. -/
def execShadowBankFull (c : Cid) (s : State) : Host.Outcome State Fault Refusal :=
  let a := (s.core c.code).array
  .next (match a.q.find? (fun o => match o.kind with | .load _ _ 0 => true | _ => false) with
  | some o =>
    match o.kind with
    | .load v tr _ =>
      let d := Desc.dec v
      if s.rangesTag (d.readRanges c.tile.val (!tr)) ≠ 0 then s
      else
        let op := s.readOperand c.tile.val d tr
        if d.fmt = 0 then
          (((s.setArray c.code { a with front := some op, shadow := some op }).dropArr c.code o.id).settleRamp c.code)
        else
          (s.setArray c.code { a with shadow := some op }).alterArr c.code o.id (fun o => { o with kind := .load v tr 1 })
    | _ => s
  | none => s)

/-- The queue entries before the one with an id. -/
def MatArray.before (a : MatArray) (id : Nat) : List ArrOp := a.q.takeWhile (fun o => o.id ≠ id)

/-- A pass has rows still to enter. -/
def ArrOp.entering (o : ArrOp) : Bool :=
  match o.kind with
  | .pass ta _ _ _ _ _ next => decide (next < (Desc.dec ta).rows)
  | _ => false

/-- SWAP_TOKEN_ENTER (R164, R165): the token enters once the last row before it has entered, the shadow bank is full and the
array runs. The banks exchange. -/
def execSwapTokenEnter (c : Cid) (s : State) : Host.Outcome State Fault Refusal :=
  let a := (s.core c.code).array
  .next (match a.q.find? (fun o => match o.kind with | .load _ _ 1 => true | _ => false) with
  | some o =>
    if a.ramp = 2 ∧ (a.before o.id).all (fun x => !x.entering) then
      (s.setArray c.code { a with front := a.shadow, shadow := a.front }).alterArr c.code o.id (fun o => match o.kind with
        | .load v tr _ => { o with kind := .load v tr 2 }
        | _ => o)
    else s
  | none => s)

/-- SWAP_COMPLETE (R139, R166): the token has passed cell (255, 127); the swap is no longer pending. -/
def execSwapComplete (c : Cid) (s : State) : Host.Outcome State Fault Refusal :=
  let a := (s.core c.code).array
  .next (match a.q.find? (fun o => match o.kind with | .load _ _ 2 => true | _ => false) with
  | some o => (s.dropArr c.code o.id).settleRamp c.code
  | none => s)

/-- ARRAY_ROW_ENTER (R151 to R155, R164, R170, R185, R668): the next row of the earliest pass with rows left enters, once
the array runs, no token is due before it, no line it reads glides, and earlier drains have read the accumulators it will
write. -/
def execArrayRowEnter (c : Cid) (s : State) : Host.Outcome State Fault Refusal :=
  let a := (s.core c.code).array
  .next (match a.q.find? ArrOp.entering with
  | some o =>
    match o.kind, a.front with
    | .pass ta tc g z mask m next, some op =>
      let da := Desc.dec ta
      let dc := Desc.dec tc
      let out := dc.rowRange c.tile.val next
      let ok := a.ramp = 2
        && (a.before o.id).all (fun x => match x.kind with
            | .load _ _ ph => ph = 2
            | .pass _ _ _ _ _ _ _ => true
            | .drain _ _ => !rangesCross (x.readsLeft c.tile.val) [out])
        && s.rangesTag (da.rowReads c.tile.val next ++ (if z then [] else [out])) = 0
      if ok then
        (s.passRow c.code da dc g z mask op next).alterArr c.code o.id (fun o =>
          { o with kind := .pass ta tc g z mask m (next + 1) })
      else s
    | _, _ => s
  | none => s)

/-- PASS_COMPLETE (R139, R149, R192): the earliest pass has written its last accumulator; its bytes land. -/
def execPassComplete (c : Cid) (s : State) : Host.Outcome State Fault Refusal :=
  let a := (s.core c.code).array
  .next (match a.q.find? (fun o => match o.kind with | .pass _ _ _ _ _ _ _ => true | _ => false) with
  | some o =>
    if o.entering then s
    else
      let n := match o.kind with
        | .pass ta _ _ _ _ m _ => (Desc.dec ta).rows * m.n * 4
        | _ => 0
      let s := s.dropArr c.code o.id
      let s := s.incFld (Fd.TILE_ARRAY_COUNT_PASSES c.tile.val c.core.val)
      let r := s.barLand o.bar o.ep n
      (r.1.settleRamp c.code).report (c.code * 128 + o.th) r.2 o.pc o.owner
  | none => s)

/-! Events of the epilogue -/

/-- The drain the epilogue works on (R183): the earliest that has not begun its last row. -/
def MatArray.drain (a : MatArray) : Option (ArrOp × DrainSpec × DrainRun) :=
  a.q.findSome? (fun o => match o.kind with
    | .drain sp r => if drainBegun sp r then none else some (o, sp, r)
    | _ => none)

/-- A row of a .SPRED drain has its values (R211, R213, R217): it is written at once while it may glide; a tile without a
prediction is final with its last row. -/
def State.spredRow (s : State) (core : Nat) (o : ArrOp) (sp : DrainSpec) (r : DrainRun) (m kind : Nat) (codes : List Nat)
    (e : Option Int) : Option (State × DrainRun) :=
  let i := m / 32
  let tl := if kind = 0 ∧ m % 32 = 0 then { e := e } else r.tiles.getD i {}
  let r := { r with vals := r.vals.set m codes, tiles := r.tiles.set i tl }
  let w :=
    if kind = 0 ∧ tl.e.isSome ∧ r.window.isSome ∧ !r.refused then
      match s.drainRow core o sp r m tl.e sp.satm true codes with
      | none => none
      | some s => some (s, { r with tiles := r.tiles.set i { tl with glided := true }, wrote := (r.wrote ++ [m]).eraseDups })
    else some (s, r)
  match w with
  | none => none
  | some (s, r) =>
    if tl.e.isNone ∧ (tileRows (Desc.dec sp.tC).rows i).all (fun x => (SMap.find r.vals x).isSome) then
      s.finishTile core o sp r i false
    else some (s, r)

/-- A row of the drain leaves by its SMODE: SPRED takes it tile by tile, and its third pass and the other modes write it as
it is converted. -/
def State.drainAny (s : State) (core : Nat) (o : ArrOp) (sp : DrainSpec) (r : DrainRun) (m kind : Nat) (codes : List Nat)
    (e : Option Int) : Option (State × DrainRun) :=
  if sp.smode ≠ 2 then (s.drainRow core o sp r m none sp.satm false codes).map (fun s => (s, r))
  else if kind = 2 then
    (s.drainRow core o sp r m (r.tiles.getD (m / 32) {}).e sp.satm false codes).map (fun s => (s, r))
  else s.spredRow core o sp r m kind codes e

/-- DRAIN_ROW_BEGIN (R183, R186, R211, R217, R668): the next row of the epilogue, once every earlier pass has written the
accumulators it reads and no line it reads glides under another window. -/
def execDrainRowBegin (c : Cid) (s : State) : Host.Outcome State Fault Refusal :=
  let a := (s.core c.code).array
  let tile := c.tile.val
  .next (match a.drain with
  | none => s
  | some (o, sp, r) =>
    match r.todo with
    | [] => s
    | (m, kind) :: rest =>
      let dc := Desc.dec sp.tC
      let src := dc.rowRange tile m
      let first := sp.smode = 2 && kind = 0 && m % 32 = 0
      let ent := (tileBase tile + sp.amax + 8 * (m / 32), 8)
      let reads := src :: (if first then [ent] else [])
      if (a.before o.id).any (fun x => match x.kind with
          | .pass _ _ _ _ _ _ _ => rangesCross (x.writesLeft tile) [src]
          | _ => false) then s
      else if (s.rangesTag reads &&& ~~~r.tag) ≠ 0 then s
      else if (sp.bad || s.rangesPoisoned reads) then s.drainPoison c.code o sp r
      else
        let codes := (s.accRow tile dc m).zipIdx.map (fun x => s.epilogue sp x.2 x.1)
        match s.drainAny c.code o sp { r with todo := rest } m kind codes
            (if first then predict sp (s.readNat ent.1 4) else none) with
        | none => s
        | some (s, r) => s.setRun c.code o.id sp r)

/-- R217: refuse the window a drain opened, at its first failed check: its readers rewind, and the rows of earlier tiles
written gliding are to be re-delivered. -/
def State.refuseDrain (s : State) (core : Nat) (sp : DrainSpec) (r : DrainRun) : State × DrainRun :=
  match r.window with
  | some w =>
    if r.refused then (s, r)
    else
      let s := s.modWindow core w (fun x => { x with pieces := x.pieces.map (fun p => { p with refused := true }) })
      let again := (r.tiles.filter (fun e => e.2.final && e.2.glided)).flatMap (fun e =>
        (tileRows (Desc.dec sp.tC).rows e.1).map (fun m => (m, 2)))
      (s.refuseWindow core w, { r with refused := true, todo := again ++ r.todo })
  | none => (s, r)

/-- DRAIN_TILE_CHECK (R214 to R217): the check of the earliest tile whose rows are all final. -/
def execDrainTileCheck (c : Cid) (s : State) : Host.Outcome State Fault Refusal :=
  let a := (s.core c.code).array
  .next (match a.drain with
  | none => s
  | some (o, sp, r) =>
    let rows := (Desc.dec sp.tC).rows
    let fmt := (Desc.dec sp.tD).fmt
    match r.tiles.find? (fun x => !x.2.final) with
    | none => s
    | some (i, tl) =>
      match tl.e with
      | none => s
      | some e =>
        if !(tileRows rows i).all (fun x => (SMap.find r.vals x).isSome) then s
        else
          let vs := ((tileRows rows i).flatMap (fun m => r.vals.getD m [])).map sp.num
          if !vs.any (fun x => fmtOverflows fmt (x.scale (-e))) then
            match s.finishTile c.code o sp r i false with
            | none => s
            | some (s, r) => s.setRun c.code o.id sp r
          else
            let q := s.refuseDrain c.code sp r
            let s := q.1
            let r := q.2
            if tl.k = 2 then
              match s.finishTile c.code o sp r i true with
              | none => s.setRun c.code o.id sp r
              | some (s, r) =>
                (s.numFlag c.code Fd.TILE_NUM_STAT_SPRED_SAT true).setRun c.code o.id sp r
            else
              let up := if tl.k = 0 then max (floorLog2 (amaxOf vs) - emaxOf fmt) (e + 1) else e + 1
              let again := r.todo.filter (fun x => x.2 = 2)
              let later := r.todo.filter (fun x => x.2 ≠ 2)
              let r := { r with
                tiles := r.tiles.set i { tl with e := some (min up 127), k := tl.k + 1 }
                vals := r.vals.filter (fun x => !((tileRows rows i).contains x.1))
                todo := again ++ (tileRows rows i).map (fun m => (m, 1)) ++ later }
              (s.noteRetry c.code).setRun c.code o.id sp r)

/-- DRAIN_COMPLETE (R139, R183, R216, R217, R286): the earliest drain has written its last row: its window, unless refused, is
confirmed, its data bytes land, and a thread whose tile was saturated, or whose write was discarded, stops. -/
def execDrainComplete (c : Cid) (s : State) : Host.Outcome State Fault Refusal :=
  let a := (s.core c.code).array
  .next (match a.q.find? (fun o => match o.kind with | .drain _ _ => true | _ => false) with
  | none => s
  | some o =>
    match o.kind with
    | .drain sp r =>
      if drainBegun sp r then
        let s := s.dropArr c.code o.id
        let s := match r.window with
          | some w => s.closeWindow c.code w
          | none => s
        let d := Desc.dec sp.tD
        let q := s.barLand o.bar o.ep (d.rows * d.rowBytes)
        let t := c.code * 128 + o.th
        q.1.report t (if r.fail then 0x0301 else if o.lost then 0x0511 else q.2) o.pc o.owner
      else s
    | _ => s)

end Sys2Proof.Machine
end

