-- ==== Sys2Proof/Machine/JobOps.lean ====
section
/-! DEFINITION. What every family may do to the job's step (R553, R556): fail it, or mark it suspect; and the module's phase,
which follows the cores that run the job (R561). -/

namespace Sys2Proof.Machine

/-- R553: something of a job ID belongs to the job. -/
def State.ofJob (s : State) (job : Nat) : Bool := s.isSet Fd.JOB_CTL_EN && decide (s.fld Fd.JOB_CTL_JOB = job)

/-- R556: an event fails a running step; later ones change nothing. -/
def State.failStep (s : State) (code : Nat) : State :=
  if s.fld Fd.JOB_STEP_STATE = 1 then (s.setFld Fd.JOB_STEP_STATE 2).setFld Fd.JOB_STEP_FAULT code else s

/-- R556: a suspect reduction marks a step that is running or failed. -/
def State.suspectStep (s : State) : State :=
  if s.fld Fd.JOB_STEP_STATE = 1 ∨ s.fld Fd.JOB_STEP_STATE = 2 then s.setFld Fd.JOB_STEP_SUSPECT 1 else s

/-- R556: a launch of the job that completes with a fault fails the step. -/
def State.launchFault (s : State) (job code : Nat) : State := if code ≠ 0 ∧ s.ofJob job then s.failStep code else s

/-- R561: the participating cores: those that hold a thread of a launch of the job. -/
def State.jobCores (s : State) : List Nat :=
  ((s.threads.filter (fun e => e.2.st ≠ .free && (match e.2.owner with
    | none => false
    | some k => match SMap.find s.launches k.code with
      | none => false
      | some l => s.ofJob l.job.toNat))).map (fun e => coreOf e.1)).eraseDups

/-- R561, R336: take the phase-map entry of a phase. Where it keeps the current piste, flows on an alternative return to that. -/
def State.takePhase (s : State) (n : Nat) : State :=
  if s.isSet (Fd.JOB_PHASE_MAP_SET (n / 8) (n % 8)) then
    let p := s.fld (Fd.JOB_PHASE_MAP_PISTE (n / 8) (n % 8))
    if pisteOk (s.piste p) then s.setPiste p else (s.log 0x0602).failStep 0x0602
  else if pisteOk (s.piste s.curPiste) then s.setPiste s.curPiste else s

/-- R561: the module's phase follows its participating cores. -/
def State.phaseCheck (s : State) : State :=
  match s.jobCores with
  | [] => s
  | c :: cs =>
    let n := (s.core c).phase % 256
    if cs.all (fun d => (s.core d).phase % 256 = n) ∧ n ≠ s.fld Fd.JOB_PHASE_MPHASE then
      let s := s.setFld Fd.JOB_PHASE_MPHASE n
      if s.fld Fd.JOB_STEP_STATE = 1 then s.takePhase n else s
    else s

end Sys2Proof.Machine
end

