-- ==== Sys2Proof/Machine/Ckpt.lean ====
section
/-! DEFINITION. Checkpoints (R565 to R570): SAVE drains extents to a neighbour's far memory, FILL reads them back. One packet
is outstanding at a time (log entry 34). -/

namespace Sys2Proof.Machine

/-- R43, R566: a module ID names a peer for a checkpoint: 0x3FFFF does where the torus has that module, which packet headers reach. -/
def State.chkPeer (s : State) (m : Nat) : Bool := decide (m ≠ s.moduleId) && (decide (m ≠ 0x3FFFF) || !(s.badDst m))

/-- R566: bits of a CHECKPOINT body are as its table says: job, list, count, DIR, VC, header, zeros. -/
def State.chkOk (s : State) (c : Cmd) : Bool :=
  let dir := c.body 12 1
  let list := c.body 0 8
  let n := c.body 8 4
  let hdr := c.body 16 8
  s.ofJob c.job && decide (dir ≤ 1) && decide (1 ≤ n) && decide (n ≤ 2 ^ 20)
    && decide (list % 8 = 0) && decide (list < 2 ^ 46) && (regionOf list = .far || regionOf list = .near)
    && c.body 14 2 = 0 && c.body 30 2 = 0
    && decide (hdr % 64 = 0) && s.chkPeer (devSplit hdr).1 && decide (regionOf (devSplit hdr).2 = .far)
    && (if dir = 0 then decide (12 ≤ c.body 13 1) && decide (c.body 13 1 ≤ 15) && c.body 28 2 = 0 && c.body 32 4 = 0
        else c.body 13 1 = 0)

/-- R566: an extent of the list. -/
def State.chkExtent (s : State) (a : Nat) : Nat × Nat × Nat := (s.readNat a 8, s.readNat (a + 8) 8, s.readNat (a + 16) 8)

/-- R566: an extent keeps the rule of its direction. -/
def State.extentOk (s : State) (dir hdr : Nat) (e : Nat × Nat × Nat) : Bool :=
  decide (1 ≤ e.2.2) && decide (e.2.2 ≤ 2 ^ 40)
    && (if dir = 0 then
          decide ((devSplit e.1).1 = 0x3FFFF) && decide ((devSplit e.2.1).1 = (devSplit hdr).1)
            && regionOf (devSplit e.2.1).2 = .far && regionOf ((devSplit e.2.1).2 + e.2.2 - 1) = .far
        else
          decide ((devSplit e.2.1).1 = 0x3FFFF) && s.chkPeer (devSplit e.1).1
            && (regionOf (devSplit e.1).2 = .far || regionOf (devSplit e.1).2 = .near)
            && regionOf ((devSplit e.1).2 + e.2.2 - 1) = regionOf (devSplit e.1).2)

/-- R566: a checkpoint header. -/
def chkHeader (valid : Bool) (job step src count bytes crc : Nat) : List Byte :=
  leBytes 64 (b2n valid + job % 2 ^ 16 * 2 ^ 16 + step % 2 ^ 32 * 2 ^ 32 + src % 2 ^ 18 * 2 ^ 64 + count % 2 ^ 32 * 2 ^ 96
    + bytes % 2 ^ 64 * 2 ^ 128 + crc % 2 ^ 32 * 2 ^ 192)

/-- Put a checkpoint under way, or drop it. -/
def State.setChk (s : State) (k : CmdRef) (x : Chk) : State := { s with chks := s.chks.set k.code x }

/-- R567: a SAVE's header goes out over VC1 as a store. -/
def State.storeHeader (s : State) (x : Chk) (valid : Bool) (tag : Nat) (org : Origin) : State :=
  s.sendPkt (devSplit x.hdr).1 1 0x03
    (storeBody (devSplit x.hdr).2 tag
      (chkHeader valid x.job x.step s.moduleId x.count x.want (if valid then x.crc ^^^ 0xFFFFFFFF else 0))) org

/-- R567: a SAVE that fails after its last header has left writes VALID = 0 over it. -/
def State.voidHeader (s : State) (x : Chk) : State :=
  if !x.fill && x.stage = 2 then
    ({ s with nextTag := (s.nextTag + 1) % 2 ^ 32 } : State).storeHeader x false s.nextTag .none
  else s

/-- R567, R568: a CHECKPOINT ends; a FILL reports its bytes moved below its sequence number. -/
def State.endChk (s : State) (k : CmdRef) (x : Chk) (fault : Nat) : State :=
  let s : State := { s with
    chks := SMap.erase s.chks k.code
    waiters := s.waiters.filter (fun e => match e.2 with
      | .fill j _ => j ≠ k
      | _ => true) }
  let s := if fault = 0 then s else s.voidHeader x
  s.finishCmd k fault (if x.fill then x.bytes % 2 ^ 32 else if fault = 0 then x.bytes else 0)

/-- R567: a SAVE sends its header, and waits for the acknowledgement. -/
def State.sendHeader (s : State) (k : CmdRef) (x : Chk) (valid : Bool) : State :=
  let r := s.newTag (.fill k x.hdr)
  r.2.storeHeader x valid r.1 (.bulk k)

/-- R567, R282, R600: a SAVE goes on: the next run of its extents leaves as a BULK packet, or its last header does; a run in a held bank
waits. -/
def State.saveNext (s : State) (k : CmdRef) (x : Chk) : State :=
  match x.exts with
  | [] => (s.setChk k { x with stage := 2 }).sendHeader k x true
  | (src, dst, n) :: rest =>
    let a := (devSplit src).2
    let b := min n 4080
    let f := s.addrFault .engine a b
    if f ≠ 0 then s.endChk k x f
    else if s.banksHeld a b then s.setChk k { x with wait := some [] }
    else if s.poisoned a b then s.endChk k x 0x0511
    else
      let f := s.linkFault (devSplit dst).1 x.vc
      if f ≠ 0 then s.endChk k x f
      else
        let s := s.touch a b
        let bs := s.readBytes a b
        let x := { x with
          exts := if n ≤ b then rest else (src + b, dst + b, n - b) :: rest
          bytes := x.bytes + b, crc := bs.foldl crcByte x.crc, stage := 1 }
        let r := (s.setChk k x).newTag (.fill k dst)
        r.2.sendPkt (devSplit dst).1 x.vc 0x28 (bulkBody (devSplit dst).2 r.1 bs) (.bulk k)

/-- R567: a packet of a SAVE is acknowledged. -/
def State.ackChk (s : State) (k : CmdRef) : State :=
  match SMap.find s.chks k.code with
  | none => s
  | some x => if x.stage = 2 then s.endChk k x 0 else s.saveNext k x

/-- R567, R568: a packet's flow failed, or its home answered with a fault. -/
def State.failChk (s : State) (k : CmdRef) (fault : Nat) : State :=
  match SMap.find s.chks k.code with
  | none => s
  | some x => s.endChk k x fault

/-- R568: a FILL asks for the next run of its extents, or ends with its checks. -/
def State.fillNext (s : State) (k : CmdRef) (x : Chk) : State :=
  if x.stop then s.endChk k x 0x0C06
  else match x.exts with
    | [] =>
      let ok := x.bytes = x.want ∧ x.crc ^^^ 0xFFFFFFFF = x.wantCrc
      s.endChk k x (if x.fault ≠ 0 then x.fault else if ok then 0 else 0x0C07)
    | (src, _, n) :: _ =>
      let f := s.linkFault (devSplit src).1 1
      if f ≠ 0 then s.endChk k x f
      else
        let r := (s.setChk k x).newTag (.fill k src)
        r.2.sendPkt (devSplit src).1 1 0x01 (loadReqBody (devSplit src).2 (min n 4080) r.1) (.request r.1)

/-- R568: the header a FILL reads is the one of its job and step, and valid. -/
def hdrOk (x : Chk) (h : Nat) : Bool := bitAt h 0 && bits h 16 16 = x.job && bits h 32 32 = x.step

/-- R568, R326, R282, R600: a run of a FILL lands here, but for what has landed flit by flit; one bound for a held bank waits. -/
def State.landChk (s : State) (k : CmdRef) (x : Chk) (bs : List Byte) (landed : Nat) : State :=
  match x.exts with
  | [] => s
  | (src, dst, n) :: rest =>
    let a := (devSplit dst).2
    let b := bs.length
    let f := s.addrFault .engine a b
    if f ≠ 0 then s.endChk k x f
    else if s.banksHeld a b then s.setChk k { x with wait := some bs }
    else
      let r := s.store (cellsFrom (a + landed) (bs.drop landed))
      r.1.fillNext k { x with
        exts := if n ≤ b then rest else (src + b, dst + b, n - b) :: rest
        bytes := x.bytes + b, crc := bs.foldl crcByte x.crc
        fault := if x.fault = 0 ∧ r.2 then 0x0511 else x.fault }

/-- R568: bytes of a FILL arrive: its header, or a run of an extent. -/
def State.answerChk (s : State) (k : CmdRef) (status : Nat) (bs : List Byte) (landed : Nat) : State :=
  match SMap.find s.chks k.code with
  | none => s
  | some x =>
    if status ≠ 0 then s.endChk k x status
    else if !x.fill then s
    else if x.stage = 0 then
      let h := leNat bs
      if hdrOk x h then s.fillNext k { x with stage := 1, want := bits h 128 64, wantCrc := bits h 192 32 }
      else s.endChk k x 0x0C07
    else s.landChk k x bs landed

/-- R282, R600: a CHECKPOINT that waits for a held bank goes on. -/
def State.resumeChk (s : State) (k : CmdRef) (x : Chk) : State :=
  match x.wait with
  | none => s
  | some bs =>
    let x := { x with wait := none }
    if x.fill then s.landChk k x bs 0 else s.saveNext k x

/-- R282, R600: the extent list of a CHECKPOINT lies in a held bank, so that its read waits. -/
def State.chkHeld (s : State) (c : Cmd) : Bool :=
  c.clean [(0, 36)] && s.chkOk c && s.addrFault .engine (c.body 0 8) (24 * c.body 8 4) = 0
    && s.banksHeld (c.body 0 8) (24 * c.body 8 4)

/-- R566: a CHECKPOINT starts: its body and its list are checked whole before anything moves. -/
def State.startChk (s : State) (k : CmdRef) (fill : Bool) : State :=
  match s.cmd k with
  | none => s
  | some c =>
    if s.mayStart k [0x28] ∧ decide (c.body 12 1 = 1) = fill ∧ !(s.chkHeld c) then
      let s := s.startCmd k
      let list := c.body 0 8
      let n := c.body 8 4
      let hdr := c.body 16 8
      if !(c.clean [(0, 36)]) then s.finishCmd k 0x0A11
      else if !(s.chkOk c) then s.finishCmd k 0x0C0B
      else if fill ∧ c.body 28 2 ≠ s.fld Fd.JOB_FILL_PLAN then s.finishCmd k 0x0C06
      else
        let f := s.addrFault .engine list (24 * n)
        if f ≠ 0 then s.finishCmd k f
        else if s.poisoned list (24 * n) then s.finishCmd k 0x0511
        else
          let es := (List.range n).map (fun i => s.chkExtent (list + 24 * i))
          if !(es.all (s.extentOk (c.body 12 1) hdr)) then s.finishCmd k 0x0C0B
          else
            let s := s.touch list (24 * n)
            let m := (devSplit hdr).1
            let f := firstFault (s.linkFault m 1) (if fill then 0 else s.linkFault m (c.body 13 1))
            if f ≠ 0 then s.finishCmd k f
            else
              let x : Chk := { fill := fill, hdr := hdr, vc := c.body 13 1, job := c.job, step := c.body 24 4, count := n, exts := es,
                               want := if fill then 0 else (es.map (fun e => e.2.2)).sum }
              let s := s.setChk k x
              if fill then
                let r := s.newTag (.fill k hdr)
                r.2.sendPkt m 1 0x01 (loadReqBody (devSplit hdr).2 64 r.1) (.request r.1)
              else s.sendHeader k x false
    else s

/-- A CHECKPOINT of a direction starts, or goes on from its wait. -/
def State.runChk (s : State) (k : CmdRef) (fill : Bool) : State :=
  match SMap.find s.chks k.code with
  | none => s.startChk k fill
  | some x => if x.fill = fill then s.resumeChk k x else s

/-- CHECKPOINT SAVE (R566, R567). -/
def execCheckpointSave (k : CmdRef) (s : State) : Host.Outcome State Fault Refusal := .next (s.runChk k false)

/-- CHECKPOINT FILL (R566, R568, R570). -/
def execCheckpointFill (k : CmdRef) (s : State) : Host.Outcome State Fault Refusal := .next (s.runChk k true)

end Sys2Proof.Machine
end

