-- ==== Sys2Proof/Machine/DramOps.lean ====
section
/-! DEFINITION. The DRAM tiers (R262 to R287): mapping, units, what a defect retires, and corrected errors. -/

namespace Sys2Proof.Machine

/-! The defect list (R635 to R637) -/

/-- R636, R637: append an entry, unless its bits [55:0] are present. A full list does not store it. -/
def State.addDefect (s : State) (e : Nat) : State :=
  let e := e % 2 ^ 48
  if s.effective.any (fun x => decide (x % 2 ^ 56 = e)) then s
  else if 16384 ≤ s.fld Fd.BIST_STAT_ENTRIES then
    (({ s with unstored := s.unstored ++ [e] } : State).setHeld Fd.BIST_STAT_OVERFLOW 1).log 0x0E24
  else
    let s := ({ s with defects := s.defects ++ [e] } : State).setHeld Fd.BIST_STAT_ENTRIES (s.fld Fd.BIST_STAT_ENTRIES + 1)
    s.incFld Fd.BIST_STAT_ADDED

/-- R636: an entry's bits. -/
def defectOf (kind source die sub index : Nat) : Nat := kind + source * 2 ^ 4 + die * 2 ^ 8 + sub * 2 ^ 16 + index * 2 ^ 24

/-- R28: the die of a far channel. -/
def farDie (u : Nat) : Nat := if u < 12 then 3 else 4
/-- R28: the die of a near stack. -/
def nearDie (u : Nat) : Nat := 5 + u / 4

/-- R636: the entries of a KIND on a die and SUB: their INDEX. -/
def State.defectsAt (s : State) (kind die sub : Nat) : List Nat :=
  ((s.effective.map unitOf).filter (fun e => e % 2 ^ 4 = kind && bits e 8 8 = die && bits e 16 8 = sub)).map
    (fun e => bits e 24 24) |>.eraseDups

/-! Mapping -/

/-- The key of a tier in the DRAM state: 0 far, 1 near. -/
def tierKey (k : Tier) : Nat := if k = .far then 0 else 1

/-- R269, R270: every byte and poison mark of a tier is discarded. -/
def State.clearTier (s : State) (k : Tier) : State :=
  let lo := if k = .far then 0 else 0x100000000000
  let n := if k = .far then 0x100000000000 else 0x10000000000
  let inTier (l : Nat) : Bool := decide (lo ≤ l * 64) && decide (l * 64 < lo + n)
  { s with
    mem := s.mem.clear lo n
    poison := s.poison.filter (fun e => !(inTier e.1))
    inited := s.inited.filter (fun e => e.1 / 2 ^ 20 ≠ tierKey k)
    dram := { s.dram with
      scrubs := s.dram.scrubs.filter (fun e => !(inTier e.1))
      seen := s.dram.seen.filter (fun e => !(inTier e.1))
      fixed := s.dram.fixed.filter (fun e => !(inTier e.1)) } }

/-- R269, R270: MAP_EN changes. -/
def State.setMap (s : State) (k : Tier) (v : Nat) : State :=
  if s.fld (Fd.MAP_CTL_MAP_EN k) = v % 2 then s
  else
    let s := (s.clearTier k).setFld (Fd.MAP_CTL_MAP_EN k) v
    ((s.setFld (Fd.MAP_CTL_INIT_DONE k) 0).setFld (Fd.MEM_INIT_NEXT k) 0).setFld (Fd.MEM_INIT_DONE k) 0

/-- The units of a tier that are trained and serve: STATE 2, 3 or 4. -/
def State.serving (s : State) (k : Tier) : List Nat :=
  (List.range (if k = .far then 24 else 16)).filter (fun u =>
    let st := s.fld (Fd.CH_STAT_STATE k u)
    st = 2 || st = 3 || st = 4)

/-- R264, R265, R267, R271: a trained tier is mapped: its units and capacity are fixed, a key is drawn (a free value), and
MAP_EN sets. -/
def State.mapTier (s : State) (k : Tier) : State :=
  let us := s.serving k
  if us = [] then s
  else
    let sizes := us.map (fun u => s.fld (Fd.CH_STAT_SIZE_GIB k u))
    let c := if k = .near then 64 else sizes.foldl min (sizes.headD 0)
    let s : State := { s with dram := { s.dram with units := s.dram.units.set (tierKey k) us } }
    let s := (s.setFld (Fd.MAP_CTL_UNITS k) us.length).setFld (Fd.MAP_CTL_UNIT_GIB k) c
    let s := s.setFld (Fd.MAP_CTL_REGIONS k) (us.length * c)
    let s := (s.setFld (Fd.HASH_KEY_KEY k) (s.freeVal 64)).useFree
    s.setMap k 1

/-- R268: a hash key is written. -/
def State.writeHashKey (s : State) (k : Tier) (v : Nat) : State :=
  if s.isSet (Fd.MAP_CTL_MAP_EN k) then s.log 0x0505 else s.setFld (Fd.HASH_KEY_KEY k) v

/-! Retirement (R280 to R283) -/

/-- R281, R298: the spare columns of a bank in use: those remapped, and those whose remap is under way (log entry 43). -/
def State.sparesOf (s : State) (u b : Nat) : Nat :=
  s.dram.spares.getD (u * 2048 + b) 0 + (s.dram.remaps.filter (fun e => e.1 = u && columnBank e.2 = b)).length

/-- R298: spare columns of a stack in use, and the fewest free in any bank. -/
def State.showSpares (s : State) (u : Nat) : State :=
  let taken : List Nat := (s.dram.spares.filter (fun e => e.1 / 2048 = u)).map (fun e => e.1 % 2048)
  let moving : List Nat := (s.dram.remaps.filter (fun e => e.1 = u)).map (fun e => columnBank e.2)
  let mine : List (Nat × Nat) := (taken ++ moving).eraseDups.map (fun b => (b, s.sparesOf u b))
  let s := s.setFld (Fd.NEAR_ST_SPARE_USED u) ((mine.map (·.2)).sum)
  s.setFld (Fd.NEAR_ST_SPARE_FREE_MIN u) (8 - (mine.map (·.2)).foldl max 0)

/-- R278, R283: the patrol pass that an hour of the management clock falls into: passes are numbered by whole patrol periods from hour 0
(DESIGN CHOICE, log entry 100: the manual gives the period alone). -/
def State.scrubPass (s : State) (hour : Nat) : Nat := hour / max 1 (s.fld (Fd.ERR_CTL_SCRUB_H .far))

/-- R281, R283: a far device is permanent. The first enters spare-device mode; a further one makes the channel retire pending. Of two
that reach permanence in one scrub pass, the lower-numbered has the spare-device mode; a test's failure belongs to no pass. -/
def State.retireDevice (s : State) (u dev : Nat) (pass : Option Nat) : State :=
  let old := s.fld (Fd.CH_STAT_SPARE_DEV .far u)
  let st := s.fld (Fd.CH_STAT_STATE .far u)
  if old = 0xFF then
    let s : State := { s with dram := { s.dram with spareAt := match pass with
      | some x => s.dram.spareAt.set u x
      | none => SMap.erase s.dram.spareAt u } }
    let s := s.setFld (Fd.CH_STAT_SPARE_DEV .far u) dev
    if st = 4 then s else s.setFld (Fd.CH_STAT_STATE .far u) 3
  else
    let s := if pass.isSome ∧ SMap.find s.dram.spareAt u = pass ∧ dev < old then s.setFld (Fd.CH_STAT_SPARE_DEV .far u) dev else s
    s.setFld (Fd.CH_STAT_STATE .far u) 4

/-- R281, R282: a near column is permanent: its remap begins, if its bank has a free spare. -/
def State.retireColumn (s : State) (u index : Nat) : State :=
  if 8 ≤ s.sparesOf u (columnBank index) then
    (s.setFld (Fd.NEAR_ST_SPARE_EXHAUSTED u) 1).setFld (Fd.CH_STAT_STATE .near u) 4
  else
    let s : State := { s with dram := { s.dram with remaps := s.dram.remaps ++ [(u, index)] } }
    s.showSpares u

/-- R632, R635, R636: a failure that a test found joins the defect list with its SOURCE (1 start-up, 2 command). A unit in service follows:
a far device as R281 has it, a whole channel or stack retire pending; one not yet trained is met by its training. -/
def State.foundBad (s : State) (src e : Nat) : State :=
  let s := s.addDefect (setBits e 4 4 src)
  let u := bits e 16 8
  let up (k : Tier) : Bool := s.fld (Fd.CH_STAT_STATE k u) = 2 || s.fld (Fd.CH_STAT_STATE k u) = 3
  match e % 16 with
  | 8 => if up .far then s.retireDevice u (bits e 24 24) none else s
  | 10 => if up .near then s.setFld (Fd.CH_STAT_STATE .near u) 4 else s
  | 11 => if up .far then s.setFld (Fd.CH_STAT_STATE .far u) 4 else s
  | _ => s

/-- Where a line lies, as R280 and R636 name its units: KIND, DIE, SUB, and the tier and unit whose registers count. -/
inductive LineHome where
  | far (u : Nat)
  | near (u : Nat)
  | sram (t kind sub : Nat)
  deriving DecidableEq, Repr

/-- R53, R56: the physical number of a logical core. -/
def State.physCore (s : State) (t c : Nat) : Nat := if c < s.fld (Fd.TILE_CORE_MAP_DARK_PHYS t) then c else c + 1

/-- The home of a line that the patrol may read: one of memory that is backed. -/
def State.lineHome (s : State) (l : Nat) : Option LineHome :=
  let a := l * 64
  match regionOf a with
  | .far => if a < s.tierSize .far then some (.far (s.dramPlace .far a).unit) else none
  | .near => if a - 0x100000000000 < s.tierSize .near then some (.near (s.dramPlace .near a).unit) else none
  | .vat t => if s.tileOn t && s.computeUp then some (.sram t 4 0) else none
  | .scratch t c => if s.tileOn t && s.computeUp then some (.sram t 3 (s.physCore t c)) else none
  | _ => none

/-- R636: the entry of a unit at a home. -/
def LineHome.entry (h : LineHome) (index : Nat) : Nat :=
  match h with
  | .far u => defectOf 8 3 (farDie u) u index
  | .near u => defectOf 9 3 (nearDie u) u index
  | .sram t kind sub => defectOf kind 3 (9 + t) sub index

/-- R295, R299: a home counts one corrected error. -/
def State.countCe (s : State) : LineHome → State
  | .far u => s.incFld (Fd.CH_ECC_CE .far u)
  | .near u => s.incFld (Fd.CH_ECC_CE .near u)
  | .sram t _ _ => s.incFld (Fd.TILE_SRAM_ECC_CE t)

/-- R284, R295, R299: a home counts one uncorrectable line. -/
def State.countUe (s : State) : LineHome → State
  | .far u => s.satFld (Fd.CH_ECC_UE .far u)
  | .near u => s.satFld (Fd.CH_ECC_UE .near u)
  | .sram t _ _ => s.satFld (Fd.TILE_SRAM_ECC_UE t)

/-- R280: PERM_COUNT and PERM_WINDOW_H at a home. SRAM has no such register; the far tier's serve it (log entry 42). -/
def State.permLimits (s : State) (h : LineHome) : Nat × Nat :=
  let k : Tier := match h with | .near _ => .near | _ => .far
  (max 2 (s.fld (Fd.ERR_CTL_PERM_COUNT k)), max 1 (s.fld (Fd.ERR_CTL_PERM_WINDOW_H k)))

/-- R280, R281: a unit is marked permanent, and retired as its tier does. PENDING, of whose end R299 says nothing, saturates as PERM
does (DESIGN CHOICE, log entry 100). -/
def State.markPermanent (s : State) (h : LineHome) (index hour : Nat) : State :=
  let s := s.addDefect (h.entry index)
  match h with
  | .far u => (s.satFld (Fd.CH_ECC_PERM .far u)).retireDevice u index (some (s.scrubPass hour))
  | .near u => (s.satFld (Fd.CH_ECC_PERM .near u)).retireColumn u index
  | .sram t _ _ => s.satFld (Fd.TILE_SRAM_ECC_PENDING t)

/-- R280: one corrected error at a unit of a home, in line l, at an hour of the management clock; `again` says that the line was
corrected at the same places before a write-back. -/
def State.correctedUnit (s : State) (h : LineHome) (again : Bool) (hour : Nat) (index : Nat) : State :=
  let e := unitOf (h.entry index)
  let s := s.countCe h
  let times := s.dram.recent.getD e [] ++ [hour]
  let times := times.drop (times.length - 15)
  let s : State := { s with dram := { s.dram with recent := s.dram.recent.set e times } }
  let lim := s.permLimits h
  let near := times.filter (fun t => decide (hour < t + lim.2 ∨ hour ≤ t))
  if (decide (lim.1 ≤ near.length) || again) && !(s.effective.any (fun x => unitOf x = e)) then s.markPermanent h index hour else s

/-- R278, R280: a read of line l is corrected at some places: the line is to be written back, and each unit counts. The places are
kept until a write-back of the line separates them from a later read, whether or not the one due now is dropped (R279). -/
def State.corrected (s : State) (l : Nat) (h : LineHome) (errs : CodeErrors) (hour : Nat) : State :=
  let again := (s.dram.fixed.getD l []).contains errs
  let old := s.dram.seen.getD l []
  let s : State := { s with dram := { s.dram with
    scrubs := s.dram.scrubs.set l errs, seen := s.dram.seen.set l (if old.contains errs then old else old ++ [errs]) } }
  ((errs.map (·.1)).eraseDups).foldl (fun s u => s.correctedUnit h again hour u) s

/-! What the codes correct (R277) -/

/-- R277: the errors of one read at places that differ, those in a far device that spare-device mode erases left out. -/
def State.seenErrors (s : State) (h : LineHome) (errs : CodeErrors) : CodeErrors :=
  match h with
  | .far u => (List.filter (fun e => decide (e.1 ≠ s.fld (Fd.CH_STAT_SPARE_DEV .far u))) errs).eraseDups
  | _ => errs.eraseDups

/-- R277: is a line's subchannel in spare-device mode? -/
def State.spareMode (s : State) (l u : Nat) : Bool :=
  let d := s.fld (Fd.CH_STAT_SPARE_DEV .far u)
  decide (d ≠ 0xFF) && decide (d / 10 = (s.dramPlace .far (l * 64)).sub)

/-- R277: does the code of a line's tier correct these errors? Far: all in one device, or one symbol in spare-device mode. Near: one
symbol. SRAM: no two in the same 64 bits. What it does not correct is detected and uncorrectable; errors beyond what R277 says it
detects are taken so too (DESIGN CHOICE, log entry 100). -/
def State.correctable (s : State) (l : Nat) (h : LineHome) (errs : CodeErrors) : Bool :=
  match h with
  | .far u => if s.spareMode l u then decide (errs.length ≤ 1) else decide ((errs.map (·.1)).eraseDups.length ≤ 1)
  | .near _ => decide (errs.length ≤ 1)
  | .sram _ _ _ => decide ((errs.map (fun e => e.2 / 64)).eraseDups.length = errs.length)

/-! Temperature -/

/-- R276: the throttle level of a temperature. -/
def State.heatLevel (s : State) (k : Tier) (temp : Nat) : Nat :=
  if s.fld (Fd.GUARD_CRIT k) ≤ temp then 3
  else if s.fld (Fd.GUARD_THR2 k) ≤ temp then 2
  else if s.fld (Fd.GUARD_THR1 k) ≤ temp then 1
  else 0

/-- R276, R660: a unit issues one command in so many: by its THROTTLE, and a channel throttled for overdraw one in four; the lower rate
governs. -/
def State.commandRate (s : State) (k : Tier) (u : Nat) : Nat :=
  let t := [1, 2, 4, 16].getD (s.fld (Fd.CH_STAT_THROTTLE k u)) 1
  if k = .far ∧ s.dram.overdraw.contains u then max t 4 else t

/-! Saved settings (R597, R598) -/

/-- R305, R597: does a record's CRC pass? It is over the tag with the CRC field zero, and the payload. -/
def Setting.crc (r : Setting) : Nat :=
  crc32 (leBytes 32 (setBits r.tag.toNat 96 32 0) ++ r.payload)

/-- R597: the record of a KIND and UNIT as the flash holds it. -/
def State.setting (s : State) (kind unit : Nat) : Setting :=
  let k := kind + unit * 16
  (SMap.find s.settings k).getD { tag := Config.savedTag k, payload := Config.savedPayload k }

/-- R597: the record is present: it names its unit. -/
def Setting.present (r : Setting) (kind unit : Nat) : Bool :=
  decide (bits r.tag.toNat 0 4 = kind) && decide (bits r.tag.toNat 4 12 = unit)

/-- R612: a valid record: present, its CRC passing. -/
def Setting.valid (r : Setting) (kind unit : Nat) : Bool :=
  r.present kind unit && decide (bits r.tag.toNat 64 32 = r.payload.length) && decide (bits r.tag.toNat 96 32 = r.crc)

/-- R598, R599: a unit's temperature and supply class lie within the record's envelope. -/
def Setting.covers (r : Setting) (c : UnitCond) : Bool :=
  let v := r.tag.toNat
  decide (signed 8 (bits v 32 8) ≤ c.temp.toInt) && decide (c.temp.toInt ≤ signed 8 (bits v 40 8))
    && decide (bits v 48 2 = c.supply.toNat)

/-- R597: the record of a new measurement: its envelope is the temperature and TEMP_BAND either way, within a byte. -/
def State.newSetting (s : State) (kind unit : Nat) (c : UnitCond) (act : Nat) : Setting :=
  let band : Int := max 1 (s.fld Fd.MC_SET_CTL_TEMP_BAND)
  let lo := toTwos 8 (max (-128) (c.temp.toInt - band))
  let hi := toTwos 8 (min 127 (c.temp.toInt + band))
  let pl := Config.measured s.free
  let v := kind + unit % 2 ^ 12 * 2 ^ 4 + Config.payloadVersion.toNat % 2 ^ 8 * 2 ^ 16 + lo * 2 ^ 32 + hi * 2 ^ 40
    + c.supply.toNat * 2 ^ 48 + act * 2 ^ 50 + pl.length % 2 ^ 32 * 2 ^ 64
  let r : Setting := { tag := BitVec.ofNat 256 v, payload := pl }
  { r with tag := BitVec.ofNat 256 (setBits v 96 32 r.crc) }

/-- R597: a unit is measured, and its record written. -/
def State.measure (s : State) (kind unit : Nat) (c : UnitCond) (act : Nat) : State :=
  { s with settings := s.settings.set (kind + unit * 16) (s.newSetting kind unit c act), free := s.free + 1 }

/-- R599: a record is rewritten with ACT = 1. -/
def State.heavySetting (s : State) (kind unit : Nat) : State :=
  let r := s.setting kind unit
  let v := setBits r.tag.toNat 50 2 1
  let q : Setting := { r with tag := BitVec.ofNat 256 v }
  { s with settings := s.settings.set (kind + unit * 16) { q with tag := BitVec.ofNat 256 (setBits v 96 32 q.crc) } }

/-- R598: at start-up a unit uses its saved setting, or is fully trained: its new record replaces the old one, and 0x0D05 is recorded
with the unit (log entry 49). REJECTED counts a record that was there (log entry 88). -/
def State.useSetting (s : State) (kind unit : Nat) (c : UnitCond) : State :=
  let r := s.setting kind unit
  if r.valid kind unit && r.covers c then s
  else
    let s := if r.present kind unit then s.incFld Fd.MC_SET_STAT_REJECTED else s
    (s.measure kind unit c 0).logRec 0x0D05 7 (kind + unit * 16)

/-- R612: the valid records in the flash: 192 lanes, 24 channels, 16 stacks, 36 tiles. -/
def State.savedCount (s : State) : Nat :=
  let n (kind k : Nat) : Nat := ((List.range k).filter (fun u => (s.setting kind u).valid kind u)).length
  n 1 192 + n 2 24 + n 3 16 + n 4 36

/-! Training (R263 to R265, R281) -/

/-- R262, R263: a DIMM that the far-memory dies accept: its serial presence data read, a kind of R262, ECC, x4 devices, 32 to 512 GiB. -/
def dimmOk (i : Dimm) : Bool :=
  i.spd && decide (1 ≤ i.kind.toNat) && decide (i.kind.toNat ≤ 3) && i.ecc && i.x4 && decide (32 ≤ i.sizeGib.toNat)
    && decide (i.sizeGib.toNat ≤ 512)

/-- R263: an MRDIMM, of kind 1 or 2; an RDIMM, of kind 3. A DIMM whose data cannot be read is of no kind. -/
def dimmMr (i : Dimm) : Bool := i.spd && (i.kind = 1 || i.kind = 2)
/-- R263: an RDIMM. -/
def dimmRd (i : Dimm) : Bool := i.spd && i.kind = 3

/-- R263: the kind that stage 2 trains: the one with more DIMMs, MRDIMMs on a tie. -/
def State.trainsMr (s : State) : Bool :=
  let ds := (SMap.vals s.dram.dimms)
  decide ((ds.filter dimmRd).length ≤ (ds.filter dimmMr).length)

/-- R263: a DIMM is of the kind that is trained. -/
def State.kindFits (s : State) (i : Dimm) : Bool := if s.trainsMr then dimmMr i else dimmRd i

/-- R262, R263: the data rate of the far tier in MT/s: the highest that every DIMM of the trained kind supports. -/
def State.farRate (s : State) : Nat :=
  if !s.trainsMr then 6400 else if (SMap.vals s.dram.dimms).any (fun i => dimmMr i && i.kind = 2) then 8800 else 12800

/-- R281, R601: a far channel that the defect list leaves untrained. -/
def State.farOut (s : State) (u : Nat) : Bool :=
  s.unitRetired 11 (farDie u) u 0 || decide (2 ≤ (s.defectsAt 8 (farDie u) u).length)

/-- R281, R601: a near stack that the defect list puts out of service: retired whole, or a bank without enough spares. -/
def State.nearOut (s : State) (u : Nat) : Bool :=
  let cols := s.defectsAt 9 (nearDie u) u
  s.unitRetired 10 (nearDie u) u 0
    || cols.any (fun c => decide (8 < (cols.filter (fun d => columnBank d = columnBank c)).length))

/-- R263, R294, R598: a far channel has been trained, or its DIMM is rejected. A socket without a DIMM stays absent. A channel that the
defect list leaves untrained is out of service (STATE 5), and its DIMM is not looked at for 0x0504 (DESIGN CHOICE, log entry 100). -/
def State.trainFar (s : State) (u : Nat) (ok : Bool) (c : UnitCond) : State :=
  match SMap.find s.dram.dimms u with
  | none => s
  | some i =>
    let s := (s.setFld (Fd.CH_STAT_KIND .far u) i.kind.toNat).setFld (Fd.CH_STAT_SIZE_GIB .far u) i.sizeGib.toNat
    if s.farOut u then s.setFld (Fd.CH_STAT_STATE .far u) 5
    else if !(dimmOk i) ∨ !(s.kindFits i) ∨ !ok then (s.setFld (Fd.CH_STAT_STATE .far u) 1).logRec 0x0504 3 u
    else
      let s := s.useSetting 2 u c
      let s := s.setFld Fd.MC_PANEL_MEM_FAR_POP (s.fld Fd.MC_PANEL_MEM_FAR_POP ||| 2 ^ u)
      match s.defectsAt 8 (farDie u) u with
      | d :: _ => (s.setFld (Fd.CH_STAT_STATE .far u) 3).setFld (Fd.CH_STAT_SPARE_DEV .far u) d
      | [] => s.setFld (Fd.CH_STAT_STATE .far u) 2

/-- R265, R281, R298: the spare columns of a stack that its listed columns take, when it is trained: a bank has eight. A bank that needs
more sets EXHAUSTED. -/
def State.remapListed (s : State) (u : Nat) : State :=
  let cols := s.defectsAt 9 (nearDie u) u
  let need (b : Nat) : Nat := (cols.filter (fun c => columnBank c = b)).length
  let banks := (cols.map columnBank).eraseDups
  let spares := banks.foldl (fun m b => SMap.set m (u * 2048 + b) (min 8 (need b)))
    (s.dram.spares.filter (fun e => e.1 / 2048 ≠ u))
  let s := ({ s with dram := { s.dram with spares := spares } } : State).showSpares u
  s.flagFld (Fd.NEAR_ST_SPARE_EXHAUSTED u) (banks.any (fun b => decide (8 < need b)))

/-- R265, R294: before training every stack shows its capacity, and one that is not in NEAR_EN is out of service. -/
def State.showStacks (s : State) : State :=
  (List.range 16).foldl (fun s u =>
    let s := s.setFld (Fd.CH_STAT_SIZE_GIB .near u) 64
    if bitAt (s.fld Fd.MC_PANEL_MEM_NEAR_EN) u then s else s.setFld (Fd.CH_STAT_STATE .near u) 5) s

/-- R265, R267, R281, R294, R598: a near stack has been trained. What puts it out of service does so at a start (`first`), and NEAR_EN loses its
bit then; in a bring-up a stack that serves keeps serving, retire pending where the list says so, until the next start. Training that
fails in a bring-up is repeated, so that the units stay those of the start (DESIGN CHOICE, log entry 100). -/
def State.trainNear (s : State) (u : Nat) (first ok : Bool) (c : UnitCond) : State :=
  if 16 ≤ u ∨ !(bitAt (s.fld Fd.MC_PANEL_MEM_NEAR_EN) u) then s
  else if first ∧ (!ok ∨ s.nearOut u) then
    (s.setHeld Fd.MC_PANEL_MEM_NEAR_EN (s.fld Fd.MC_PANEL_MEM_NEAR_EN - 2 ^ u)).setFld (Fd.CH_STAT_STATE .near u) 5
  else if !ok then s
  else
    let s := (s.useSetting 3 u c).remapListed u
    s.setFld (Fd.CH_STAT_STATE .near u)
      (if s.nearOut u then 4 else if s.defectsAt 9 (nearDie u) u = [] then 2 else 3)

end Sys2Proof.Machine
end

