-- ==== Sys2Proof/Machine/WheelOps.lean ====
section
/-! DEFINITION. The wheel unit's tables and operations (R346 to R375): wheel descriptors, directories and page entries,
page-frame records and pools, allocation, the removal of a frame from an entry, page copies, pre-emption and parks. -/

namespace Sys2Proof.Machine

/-! Wheels -/

/-- R352: a wheel descriptor. -/
structure Wheel where
  state : Nat
  psize : Nat
  pool : Nat
  prio : Nat
  nopark : Bool
  fmt : Nat
  scaleEn : Bool
  rowbLog : Nat
  layers : Nat
  groups : Nat
  job : Nat
  stream : Nat
  pages : Nat
  tbase : Nat
  ntok : Nat
  dir : Nat
  leaf : Nat
  cave : Nat
  caveSlots : Nat
  caveUsed : Nat
  reserved : Bool
  deriving DecidableEq, Repr

/-- R352: the fields of a descriptor; `reserved` says that a field that must be zero is not. -/
def Wheel.dec (v : Nat) : Wheel :=
  { state := bits v 0 3, psize := bits v 3 4, pool := bits v 7 4, prio := bits v 11 4, nopark := bitAt v 15,
    fmt := bits v 16 4, scaleEn := bitAt v 20, rowbLog := bits v 21 4, layers := bits v 32 8 + 1,
    groups := bits v 40 6 + 1, job := bits v 48 16, stream := bits v 64 12, pages := bits v 96 32,
    tbase := bits v 128 24, ntok := bits v 160 25, dir := bits v 192 46, leaf := bits v 256 46, cave := bits v 320 46,
    caveSlots := bits v 384 32, caveUsed := bits v 416 32,
    reserved := bits v 25 7 ≠ 0 || bits v 46 2 ≠ 0 || bits v 76 20 ≠ 0 || bits v 152 8 ≠ 0 || bits v 185 7 ≠ 0
      || bits v 238 18 ≠ 0 || bits v 302 18 ≠ 0 || bits v 366 18 ≠ 0 || bits v 448 64 ≠ 0 }

/-- R346: bytes of a page. -/
def Wheel.size (w : Wheel) : Nat := 2 ^ (w.psize + 16)
/-- R347: bytes of a token row. -/
def Wheel.rowb (w : Wheel) : Nat := 2 ^ (w.rowbLog + 6)
/-- R347: tokens of a page. -/
def Wheel.tokens (w : Wheel) : Nat := w.size / w.rowb
/-- R349: scale bytes of a row. -/
def Wheel.scaleRow (w : Wheel) : Nat := if w.scaleEn then w.rowb * 8 / (32 * fmtWidth w.fmt) else 0
/-- R353: streams. -/
def Wheel.streams (w : Wheel) : Nat := w.layers * w.groups * 2
/-- R353: page indices of a stream. -/
def Wheel.indices (w : Wheel) : Nat := (w.ntok + w.tokens - 1) / w.tokens
/-- The places of a wheel in page order: stream, page index. -/
def Wheel.places (w : Wheel) : List (Nat × Nat) :=
  (List.range w.streams).flatMap (fun d => (List.range w.indices).map (fun i => (d, i)))

/-- R351: the address of a descriptor. -/
def State.wheelAddr (s : State) (w : Nat) : Nat := s.fld Fd.KV_TABLE_DESC_BASE * 64 + w * 64
/-- R351: the address of a record. -/
def State.recAddr (s : State) (r : Nat) : Nat := s.fld Fd.KV_TABLE_REC_REC_BASE * 32 + r * 32

/-- A wheel's descriptor. -/
def State.wheel (s : State) (w : Nat) : Wheel := Wheel.dec (s.readNat (s.wheelAddr w) 64)

/-- The wheel unit writes bytes of far memory. A write that R286 discards is recorded. -/
def State.kvWrite (s : State) (a n v : Nat) : State :=
  let r := s.store (cellsFrom a (leBytes n v))
  if r.2 then r.1.log 0x0511 else r.1

/-- Change a field of a wheel's descriptor. -/
def State.setWheel (s : State) (w lo len v : Nat) : State :=
  s.kvWrite (s.wheelAddr w) 64 (setBits (s.readNat (s.wheelAddr w) 64) lo len v)

/-- R352: put STATE. -/
def State.setWheelState (s : State) (w v : Nat) : State := s.setWheel w 0 3 v

/-- R360, R377: does a wheel number name a wheel? Wheels are enabled by KV_CTL.EN. -/
def State.wheelExists (s : State) (w : Nat) : Bool := s.isSet Fd.KV_CTL_EN && decide (w < s.fld Fd.KV_TABLE_WHEELS)

/-! Page entries -/

/-- R354: a page entry. -/
structure Entry where
  valid : Bool
  cow : Bool
  loc : Nat
  frame : Nat
  record : Nat
  scale : Nat
  deriving DecidableEq, Repr

/-- R354: the fields of an entry; FRAME as a device address, SCALE as one on the same module. -/
def Entry.dec (v : Nat) : Entry :=
  { valid := bitAt v 0, cow := bitAt v 1, loc := bits v 2 3, frame := bits v 16 48 * 65536, record := bits v 64 24,
    scale := bits v 46 18 * 2 ^ 46 + bits v 88 35 * 2048 }

/-- R354: the 128-bit entry, with copies of the wheel's FMT and SCALE_EN. -/
def Entry.enc (e : Entry) (w : Wheel) : Nat :=
  b2n e.valid + 2 * b2n e.cow + e.loc * 4 + w.fmt * 32 + b2n w.scaleEn * 512 + e.frame / 65536 * 65536
    + e.record * 2 ^ 64 + e.scale % 2 ^ 46 / 2048 * 2 ^ 88

/-- R353, R365: the address of a page entry: the directory entry names the leaf table; none when that entry is invalid. -/
def State.entryAddr (s : State) (w : Wheel) (d i : Nat) : Option Nat :=
  let q := s.readNat (w.dir + 8 * d) 8
  if bitAt q 0 then some (bits q 4 42 * 16 + 16 * i) else none

/-- R365: the page entry of a place, as the walk reads it: an invalid directory entry is an invalid page entry. -/
def State.entryNat (s : State) (w : Wheel) (d i : Nat) : Nat :=
  match s.entryAddr w d i with
  | some a => s.readNat a 16
  | none => 0

/-- The local ranges of a wheel's tables (R351, R353): its descriptor, directory and leaf tables. -/
def State.tableRanges (s : State) (wn : Nat) (w : Wheel) : List (Nat × Nat) :=
  [(s.wheelAddr wn, 64), (w.dir, w.streams * 8), (w.leaf, w.streams * w.indices * 16)]

/-- What a walk to a page entry reads (R365): descriptor, directory entry, and the page entry where the directory names one. -/
def State.walkRanges (s : State) (wn d i : Nat) : List (Nat × Nat) :=
  let w := s.wheel wn
  [(s.wheelAddr wn, 64), (w.dir + 8 * d, 8)] ++ (match s.entryAddr w d i with | some a => [(a, 16)] | none => [])

/-- R285: a walk would read a poisoned line. -/
def State.walkBad (s : State) (wn d i : Nat) : Bool := (s.walkRanges wn d i).any (fun r => s.poisoned r.1 r.2)

/-- R270: the regions that ranges of far memory touch are initialised out of turn. -/
def State.touchAll (s : State) (l : List (Nat × Nat)) : State := l.foldl (fun s r => s.touch r.1 r.2) s

/-- The page entry of a place. -/
def State.entry (s : State) (w : Wheel) (d i : Nat) : Entry := Entry.dec (s.entryNat w d i)

/-- R365, R367: forget a wheel's entries in the page cache of every tile. -/
def State.forget (s : State) (w : Nat) : State :=
  { s with tiles := s.tiles.map (fun e => (e.1, { e.2 with pcache := e.2.pcache.filter (fun p => p.wheel ≠ w) })) }

/-- R367: write a page entry, the page caches forgetting the wheel. -/
def State.setEntry (s : State) (wn d i : Nat) (e : Entry) : State :=
  let w := s.wheel wn
  match s.entryAddr w d i with
  | some a => (s.kvWrite a 16 (e.enc w)).forget wn
  | none => s

/-! Records and pools -/

/-- R355: the end of a list, and an entry without a record. -/
def noRec : Nat := 0xFFFFFF

/-- R355: bits of a record. -/
def State.recBits (s : State) (r lo len : Nat) : Nat := bits (s.readNat (s.recAddr r) 32) lo len

/-- Change bits of a record. -/
def State.setRec (s : State) (r lo len v : Nat) : State :=
  s.kvWrite (s.recAddr r) 32 (setBits (s.readNat (s.recAddr r) 32) lo len v)

/-- R358: take the record at a pool's head. -/
def State.allocRec (s : State) (pool : Nat) : Option (Nat × State) :=
  let r := s.fld (Fd.KV_POOL_CFG_HEAD pool)
  if r = noRec ∨ s.fld (Fd.KV_POOL_STAT_FREE pool) = 0 then none
  else
    let next := s.recBits r 192 24
    let s := s.setFld (Fd.KV_POOL_CFG_HEAD pool) next
    let s := s.setFld (Fd.KV_POOL_STAT_FREE pool) (s.fld (Fd.KV_POOL_STAT_FREE pool) - 1)
    let s := (s.setRec r 0 24 1).setRec r 28 3 1
    some (r, { s with tried := none })

/-- R358: put a record at the head of its pool's list. -/
def State.freeRec (s : State) (r : Nat) : State :=
  let pool := s.recBits r 24 4
  let s := (s.setRec r 192 24 (s.fld (Fd.KV_POOL_CFG_HEAD pool))).setRec r 28 3 0
  let s := s.setFld (Fd.KV_POOL_CFG_HEAD pool) r
  s.setFld (Fd.KV_POOL_STAT_FREE pool) (s.fld (Fd.KV_POOL_STAT_FREE pool) + 1)

/-- R354, R362, R374: a valid entry that names a record of a pool. But for a peer's frame, bits [63:46] are 0x3_FFFF; the scale array
lies on the module that FRAME names. -/
def State.entryOf (s : State) (pool r : Nat) : Entry :=
  let loc := s.fld (Fd.KV_POOL_CFG_LOC pool)
  let f := s.recBits r 64 64 / 65536 * 65536
  let m := if loc ≤ 3 then 0x3FFFF else (devSplit f).1
  { valid := true, cow := false, loc := loc, frame := m * 2 ^ 46 + (devSplit f).2, record := r
    scale := m * 2 ^ 46 + (devSplit (s.recBits r 128 64)).2 }

/-- R367, step 3 and 4: a record loses one entry. -/
def State.dropRec (s : State) (r : Nat) : State :=
  if r = noRec then s
  else
    let n := s.recBits r 0 24 - 1
    let s := s.setRec r 0 24 n
    if n = 0 then
      let s := (s.setRec r 32 32 (s.fld Fd.KV_EPOCH_CUR)).setRec r 28 3 2
      let s := s.incFld Fd.KV_EPOCH_CUR
      { s with reclaim := s.reclaim ++ [r] }
    else s

/-- R367: an entry loses its frame, in the stated order. -/
def State.swing (s : State) (wn d i : Nat) (e : Entry) : State :=
  let old := s.entry (s.wheel wn) d i
  (s.setEntry wn d i e).dropRec (if old.valid then old.record else noRec)

/-- R370: n changes may move CUR on: it stays within 2^30 of the oldest busy epoch. -/
def State.epochRoom (s : State) (n : Nat) : Bool := decide (s.pinAge + n ≤ 2 ^ 30)

/-- The 1 GiB regions that a range of any length touches, by their first addresses (R270). -/
def regionsOf (a n : Nat) : List Nat :=
  if n = 0 then [] else (List.range ((a + n - 1) / 2 ^ 30 - a / 2 ^ 30 + 1)).map (fun k => (a / 2 ^ 30 + k) * 2 ^ 30)

/-- R270, R279, R286: whole lines of this module's memory are written with zeros: their poison and their glide tags clear, and pending
scrub write-backs of them are void. -/
def State.clearRange (s : State) (a n : Nat) : State :=
  let s := (regionsOf a n).foldl State.touch1 s
  let keep (l : Nat) : Bool := decide (l < a / 64) || decide ((a + n) / 64 ≤ l)
  { s with
    mem := s.mem.clear a n
    poison := s.poison.filter (fun e => keep e.1)
    ltags := s.ltags.filter (fun e => keep e.1)
    dram := { s.dram with scrubs := s.dram.scrubs.filter (fun e => keep e.1) } }

/-- Set every byte of a frame or scale array to zero, a peer's by STORE packets. A tier unmapped since takes no byte (R269). -/
def State.zeroRange (s : State) (dev n : Nat) : State :=
  if s.here dev then
    let a := (devSplit dev).2
    if s.tierFault a n ≠ 0 then s.log 0x0502
    else if regionOf a = .host then s.putCells (cellsFrom a (List.replicate n 0))
    else s.clearRange a n
  else
    (List.range ((n + 4079) / 4080)).foldl (fun s k =>
      s.sendPkt (devSplit dev).1 1 0x03
        (storeBody ((devSplit dev).2 + 4080 * k) 0 (List.replicate (min 4080 (n - 4080 * k)) 0)) .none) s

/-- The frame and the scale array of a record, as device ranges (R355). -/
def State.frameRanges (s : State) (r : Nat) : List (Nat × Nat) :=
  let n := 2 ^ (s.fld (Fd.KV_POOL_CFG_PSIZE (s.recBits r 24 4)) + 16)
  [(s.recBits r 64 64, n), (s.recBits r 128 64, n / 16)]

/-- R358, R361: a record goes back to its pool; with ZERO = 1 its frame and scale array are written with zeros first. -/
def State.reclaimRec (s : State) (r : Nat) : State :=
  let pool := s.recBits r 24 4
  let n := 2 ^ (s.fld (Fd.KV_POOL_CFG_PSIZE pool) + 16)
  let s := if s.isSet (Fd.KV_POOL_CFG_ZERO pool) then
      (s.zeroRange (s.recBits r 64 64) n).zeroRange (s.recBits r 128 64) (n / 16)
    else s
  s.freeRec r

/-- A record allocated and named by no entry yet goes back. -/
def State.giveBack (s : State) (r : Nat) : State := (s.setRec r 0 24 0).reclaimRec r

/-- The records a resume has taken so far go back, the last taken first. -/
def State.freeTaken (s : State) (got : List (Nat × Nat × Nat)) : State := got.reverse.foldl (fun s g => s.giveBack g.2.2) s

/-! Page copies -/

/-- Request the bytes of a device range that lie on a peer, 4,080 at a time; answers how many requests. -/
def State.fetchPeer (s : State) (dev n : Nat) : Nat × State :=
  if s.here dev then (0, s)
  else
    (List.range ((n + 4079) / 4080)).foldl (fun q k =>
      let r := q.2.newTag (.wheel (dev + 4080 * k))
      (q.1 + 1, r.2.sendPkt (devSplit dev).1 1 0x01
        (loadReqBody ((devSplit dev).2 + 4080 * k) (min 4080 (n - 4080 * k)) r.1) (.request r.1))) (0, s)

/-- The pieces of a page: its rows and the used scale bytes. -/
def Wheel.pieces (w : Wheel) (src ssrc dst sdst : Nat) : List (Nat × Nat × Nat) :=
  (src, dst, w.tokens * w.rowb) :: (if w.scaleEn then [(ssrc, sdst, w.tokens * w.scaleRow)] else [])

/-- Begin a page copy under a holder's pin: a peer's bytes are requested. -/
def State.beginPage (s : State) (holder : Nat) (pieces : List (Nat × Nat × Nat)) : PageCopy × State :=
  let p := s.takePin holder
  let r := pieces.foldl (fun (q : Nat × State) x => let f := q.2.fetchPeer x.1 x.2.2; (q.1 + f.1, f.2)) (0, p.2)
  ({ pieces := pieces, pin := (holder, p.1), reads := r.1 }, r.2)

/-- The local ranges of a page copy on this module. -/
def State.pageRanges (s : State) (cp : PageCopy) : List (Nat × Nat) :=
  cp.pieces.flatMap (fun x =>
    (if s.here x.1 then [((devSplit x.1).2, x.2.2)] else []) ++ (if s.here x.2.1 then [((devSplit x.2.1).2, x.2.2)] else []))

/-- The bytes of a page copy's piece, each with whether its source lies in a poisoned line. -/
def State.pageBytes (s : State) (cp : PageCopy) (x : Nat × Nat × Nat) : List (Byte × Bool) :=
  let a := (devSplit x.1).2
  if s.here x.1 then (List.range x.2.2).map (fun i => (s.byteAt (a + i), s.badLine (lineOf (a + i))))
  else (List.range x.2.2).map (fun i => (cp.buf.getD (x.1 + i) 0, false))

/-- One piece of a page copy is written, on this module at once, toward a peer by STORE packets. Past the module's edge the poisoned
line and what follows it are not sent (R285). Answers the fault that the piece meets (R269, R285, R286), or 0. -/
def State.writePiece (s : State) (cp : PageCopy) (x : Nat × Nat × Nat) : State × Nat :=
  let src := (devSplit x.1).2
  let dst := (devSplit x.2.1).2
  let f := firstFault (if s.here x.1 then s.tierFault src x.2.2 else 0) (if s.here x.2.1 then s.tierFault dst x.2.2 else 0)
  if f ≠ 0 then (s, f)
  else
    let s := if s.here x.1 then (regionsOf src x.2.2).foldl State.touch1 s else s
    let bs := s.pageBytes cp x
    let stop := s.pastEdge x.2.1 && bs.any (·.2)
    let bs := if stop then cleanPrefix x.2.1 bs else bs
    if s.here x.2.1 then
      let r := s.landBytes dst bs
      (r.1, if stop || r.2 then 0x0511 else 0)
    else
      ((List.range ((bs.length + 4079) / 4080)).foldl (fun s k =>
        s.sendPkt (devSplit x.2.1).1 1 0x03
          (storeBody (dst + 4080 * k) 0 (((bs.drop (4080 * k)).take 4080).map (·.1))) .wheel) s, if stop then 0x0511 else 0)

/-- Write a page copy's bytes, piece by piece. Answers the first fault, or 0. -/
def State.writePage (s : State) (cp : PageCopy) : State × Nat :=
  cp.pieces.foldl (fun (q : State × Nat) x => if q.2 ≠ 0 then q else q.1.writePiece cp x) (s, 0)

/-- Is any of the wheel unit's writes to a peer still unacknowledged? -/
def State.wheelWrites (s : State) : Bool := s.inFlight (fun o => o = .wheel)

/-! Parks -/

/-- The device address of a local address of this module. -/
def selfDev (a : Nat) : Nat := 0x3FFFF * 2 ^ 46 + a

/-- R373: the entry of cave slot k. -/
def Wheel.caveEntry (w : Wheel) (k : Nat) : Entry :=
  { valid := true, cow := false, loc := 3, frame := selfDev (w.cave + k * w.size), record := noRec,
    scale := selfDev (w.cave + w.caveSlots * w.size + k * (w.size / 16)) }

/-- R373: the places of a wheel's valid entries that are not in the cave, in page order. -/
def State.parkPlaces (s : State) (w : Wheel) : List (Nat × Nat) :=
  w.places.filter (fun p => let e := s.entry w p.1 p.2; e.valid && e.loc ≠ 3)

/-- R373: begin the copy of the next page of a park; after the last the wheel is PARKED, and the final step is left. -/
def State.parkNext (s : State) (wn : Nat) (todo : List (Nat × Nat)) (slots cause : Nat) (k : Option CmdRef)
    (fault : Nat) : WheelOp × State :=
  match todo with
  | [] => (.park wn [] slots cause k fault none true, (s.setWheel wn 416 32 slots).setWheelState wn 3)
  | (d, i) :: _ =>
    let w := s.wheel wn
    let e := s.entry w d i
    let c := w.caveEntry slots
    let r := s.beginPage pinWheelUnit (w.pieces e.frame e.scale c.frame c.scale)
    (.park wn todo slots cause k fault (some r.1) false, r.2)

/-- R373: start a park; one that cannot proceed comes to its final step with fault 0x0723, the wheel staying LIVE, as does one
whose tables hold a poisoned line, with 0x0511 (R285). -/
def State.startPark (s : State) (wn cause : Nat) (k : Option CmdRef) : State :=
  let w := s.wheel wn
  let ps := s.parkPlaces w
  if s.rangesPoisoned (s.tableRanges wn w) then
    { s with wops := .park wn [] 0 cause k 0x0511 none true :: s.wops }
  else if w.cave = 0 ∨ w.caveSlots < ps.length then
    { s with wops := .park wn [] 0 cause k 0x0723 none true :: s.wops }
  else
    let r := (s.setWheelState wn 2).parkNext wn ps 0 cause k 0
    { r.2 with wops := r.1 :: r.2.wops }

/-- R372: the wheel to park next for an allocation from a pool: the lowest PRIO, then the highest number. -/
def State.victim (s : State) (pool prio requester : Nat) (parked : List Nat) : Option Nat :=
  (List.range (s.fld Fd.KV_TABLE_WHEELS)).foldl (fun (best : Option Nat) x =>
    let w := s.wheel x
    if w.state = 1 ∧ w.pool = pool ∧ !w.nopark ∧ w.prio ≤ prio ∧ x ≠ requester ∧ !(parked.contains x) then
      match best with
      | none => some x
      | some b => if w.prio ≤ (s.wheel b).prio then some x else some b
    else best) none

/-- R372, R381: the allocation of a requester begins: what an earlier one of its tried is over. -/
def State.newTry (s : State) (who : Nat) : State := { s with tried := s.tried.filter (fun q => q.who ≠ who) }

/-- R372, R381: an allocation finds its pool empty, which is counted once. It waits for records awaiting reclaim, or for a victim's park;
answers false when no candidate remains. -/
def State.preempt (s : State) (pool prio requester who : Nat) : State × Bool :=
  let mine := s.tried.filter (fun q => q.who = who)
  let s := if mine.isSome then s else s.incFld (Fd.KV_POOL_STAT_EMPTY_HITS pool)
  let parked := (mine.map (·.parked)).getD []
  if s.reclaim.any (fun r => s.recBits r 24 4 = pool) then ({ s with tried := some { who := who, parked := parked } }, true)
  else
    match s.victim pool prio requester parked with
    | none => ({ s with tried := none }, false)
    | some x => (({ s with tried := some { who := who, parked := x :: parked } } : State).startPark x 1 none, true)

/-! The KV.PUTs that wait for the wheel unit (R378) -/

/-- R378: the KV.PUTs that still wait: one whose thread has gone has left the line. -/
def State.kvWaiting (s : State) : List KvWait :=
  s.kvLine.filter (fun q =>
    let x := s.thread q.t
    x.regs.pc = q.pc && x.owner = q.owner && x.st ≠ .free && x.st ≠ .stopped)

/-- R360, R378: does the KV.PUT of a thread wait in the line, with its checks behind it? -/
def State.inLine (s : State) (t : Nat) : Bool := s.kvWaiting.any (fun q => q.t = t)

/-- R378: may the KV.PUT of a thread use the wheel unit? -/
def State.kvTurn (s : State) (t : Nat) : Bool :=
  s.wops = [] && (match s.kvWaiting with
    | [] => true
    | q :: _ => q.t = t)

/-- The KV.PUT of a thread takes its place in the line. -/
def State.joinLine (s : State) (t : Nat) : State :=
  let x := s.thread t
  let l := s.kvWaiting
  { s with kvLine := if l.any (fun q => q.t = t) then l else l ++ [{ t := t, pc := x.regs.pc, owner := x.owner }] }

/-- The KV.PUT of a thread is served, or fails. -/
def State.leaveLine (s : State) (t : Nat) : State := { s with kvLine := s.kvWaiting.filter (fun q => q.t ≠ t) }

/-! What peers answer (R325) -/

/-- The page copy of an operation. -/
def WheelOp.alterCopy (o : WheelOp) (f : PageCopy → PageCopy) : WheelOp :=
  match o with
  | .cow w d i r cp => .cow w d i r (f cp)
  | .cowList w todo k => .cowList w todo k
  | .park w todo slots cause k fault cp fin => .park w todo slots cause k fault (cp.map f) fin
  | .resume w todo got k cp => .resume w todo got k (cp.map f)

/-- Change the page copy of the active operation. -/
def State.alterPage (s : State) (f : PageCopy → PageCopy) : State :=
  match s.wops with
  | o :: rest => { s with wops := o.alterCopy f :: rest }
  | [] => s

/-- A peer's bytes of a page arrive, or a fault in their place. -/
def State.wheelAnswer (s : State) (src status : Nat) (bs : List Byte) : State :=
  s.alterPage (fun cp => { cp with
    reads := cp.reads - 1
    fault := if cp.fault = 0 then status else cp.fault
    buf := if status = 0 then (cellsFrom src bs).foldl (fun m e => SMap.set m e.1 e.2) cp.buf else cp.buf })

/-- The flow of a page's bytes toward a peer failed. -/
def State.wheelFail (s : State) (fault : Nat) : State := s.alterPage (fun cp => { cp with fault := if cp.fault = 0 then fault else cp.fault })

/-! Copy-on-write (R368) -/

/-- R368: begin the copy-on-write of a page whose frame is shared, into a new record's frame, under a holder's pin. -/
def State.startCow (s : State) (wn d i rec holder : Nat) : State :=
  let w := s.wheel wn
  let e := s.entry w d i
  let n := s.entryOf w.pool rec
  let r := s.beginPage holder (w.pieces e.frame e.scale n.frame n.scale)
  { r.2 with wops := .cow wn d i rec r.1 :: r.2.wops }

/-- R368: a COPY command under way takes its next entries: one that is the last holder is cleared in place; another begins
its copy, or waits for a frame; with no frame to be had the command fails with 0x0721. -/
def State.cowStep : Nat → State → State
  | 0, s => s
  | n + 1, s =>
    match s.wops with
    | .cowList wn todo k :: rest =>
      match todo with
      | [] => ({ s with wops := rest } : State).finishCmd k 0
      | (d, i) :: more =>
        let w := s.wheel wn
        let e := s.entry w d i
        let go : State := { s with wops := .cowList wn more k :: rest }
        if !e.valid || !e.cow then State.cowStep n go
        else if s.recBits e.record 0 24 = 1 then State.cowStep n (go.setEntry wn d i { e with cow := false })
        else
          match s.allocRec w.pool with
          | some (r, s') => ({ s' with wops := .cowList wn more k :: rest } : State).startCow wn d i r pinWheelUnit
          | none =>
            let q := s.preempt w.pool w.prio wn 0
            if q.2 then q.1 else ({ q.1 with wops := rest } : State).finishCmd k 0x0721
    | _ => s

/-- The wheel unit goes on with what it had begun, after an operation above it has ended or a frame has come free. -/
def State.wheelProceed (s : State) : State :=
  match s.wops with
  | .cowList _ todo _ :: _ => State.cowStep (todo.length + 1) s
  | _ => s

/-! Page translation (R364, R365) -/

/-- R365: look a page up in a tile's cache. -/
def State.cached (s : State) (t wn d i : Nat) : Option (BitVec 128) :=
  ((s.tile t).pcache.find? (fun p => p.wheel = wn && p.d = d && p.i = i)).map (·.entry)

/-- R365: put a page entry into a tile's cache of 4,096; the oldest gives way (log entry 19). -/
def State.cachePut (s : State) (t wn d i : Nat) (e : BitVec 128) : State :=
  let x := s.tile t
  let c := x.pcache ++ [{ wheel := wn, d := d, i := i, entry := e }]
  s.setTile t { x with pcache := if 4096 < c.length then c.drop 1 else c }

/-- R359, R349: what a run of rows within one page moves: rows and their scales, between the frame and the region. -/
def pageRows (w : Wheel) (e : Entry) (tile : Nat) (dsc : Desc) (put : Bool) (row0 k0 n : Nat) : List TxnOp :=
  (List.range n).flatMap (fun j =>
    let f := e.frame + (row0 + j) * w.rowb
    let r := selfDev (tileBase tile + dsc.base + (k0 + j) * dsc.stride)
    let fs := e.scale + (row0 + j) * w.scaleRow
    let rs := selfDev (tileBase tile + dsc.scale + (k0 + j) * w.scaleRow)
    (if put then [.mv r f w.rowb true] else [.mv f r w.rowb true])
      ++ (if w.scaleEn then (if put then [.mv rs fs w.scaleRow true] else [.mv fs rs w.scaleRow true]) else []))

/-- R361, R364: translate the pages of a run in ascending order as far as the cache holds them; `walked` is the entry a
finished walk supplies for the first. An invalid page is fault 0x0703. -/
def State.translate : Nat → State → Nat → Nat → Option (BitVec 128) → State
  | 0, s, _, _, _ => s
  | n + 1, s, t, cid, walked =>
    match SMap.find (s.tile t).copies cid with
    | none => s
    | some c =>
      match c.walk with
      | none => s
      | some q =>
        if q.left = 0 then s.alterCopy t cid (fun c => { c with walk := none })
        else
          let w := s.wheel q.wheel
          let off := q.token - w.tbase
          let i := off / w.tokens
          let row := off % w.tokens
          let k := min q.left (w.tokens - row)
          let go (s : State) (v : BitVec 128) : State :=
            let e := Entry.dec v.toNat
            if e.valid then
              let segs := pageRows w e t (Desc.dec q.desc) false row q.row k
              State.translate n (s.alterCopy t cid (fun c => { c with
                segs := c.segs ++ segs, walk := some { q with token := q.token + k, left := q.left - k, row := q.row + k } }))
                t cid none
            else s.alterCopy t cid (fun c => { c with fault := 0x0703, blocked := true, segs := [], walk := none })
          match walked with
          | some v => go s v
          | none =>
            match s.cached t q.wheel q.d i with
            | some v => go (s.incFld (Fd.TILE_KV_CACHE_HITS t)) v
            | none => s

end Sys2Proof.Machine
end

