-- ==== Sys2Proof/Machine/LapOps.lean ====
section
/-! DEFINITION. The lap VCs (R384 to R406): geometry, postings and their filling, slices to send and their outcome. Index 0 is
VC2, index 1 VC3. -/

namespace Sys2Proof.Machine

/-- A lap VC. -/
def State.lap (s : State) (i : Nat) : LapVc := s.laps.getD i {}
/-- Put a lap VC. -/
def State.setLap (s : State) (i : Nat) (x : LapVc) : State := { s with laps := s.laps.set i x }

/-- R389: SLICES. -/
def State.lapSlices (s : State) (i : Nat) : Nat := s.fld (Fd.JOB_LAP_CFG_SLICES_M1 i) + 1
/-- R389: SLICE_PAGES. -/
def State.lapPages (s : State) (i : Nat) : Nat := s.fld (Fd.JOB_LAP_CFG_SLICE_PAGES i)
/-- R389: S_B. -/
def State.sliceBytes (s : State) (i : Nat) : Nat := s.lapPages i * 4096
/-- R389: N. -/
def State.lapPackets (s : State) (i : Nat) : Nat := s.lapSlices i * s.lapPages i
/-- R384: the lap ring. -/
def State.lapRing (s : State) (i : Nat) : Option Ring := s.ring (s.fld (Fd.JOB_LAP_CFG_RING i))
/-- Is a lap VC armed? -/
def State.lapArmed (s : State) (i : Nat) : Bool := s.isSet (Fd.JOB_LAP_CFG_ARM i)

/-! Geometry (R391) -/

/-- R638: the LAPGEO message of a lap VC. -/
def State.geoBody (s : State) (i : Nat) : List Byte :=
  leBytes 16 (0x01 + (2 + i) * 2 ^ 8 + s.fld (Fd.JOB_LAP_CFG_SLICES_M1 i) * 2 ^ 16 + s.lapPages i * 2 ^ 32)

/-- R391: compare a geometry with the module's own. -/
def State.geoCompare (s : State) (i : Nat) (g : Nat × Nat) : State :=
  if g = (s.fld (Fd.JOB_LAP_CFG_SLICES_M1 i), s.lapPages i) then s.setFld (Fd.JOB_LAP_CFG_PEER_OK i) 1
  else ((s.setFld (Fd.JOB_LAP_CFG_PEER_OK i) 0).setFld (Fd.JOB_LAP_CFG_MISMATCH i) 1).log 0x0801

/-- R391: a geometry message arrives: compared now, or held until ARM is 1. -/
def State.geoArrive (s : State) (i : Nat) (g : Nat × Nat) : State :=
  if s.lapArmed i then s.geoCompare i g else s.setLap i { s.lap i with geom := some g }

/-- R391: ARM goes from 0 to 1. -/
def State.lapArm (s : State) (i : Nat) : State :=
  if s.lapArmed i then s
  else
    let s := s.setFld (Fd.JOB_LAP_CFG_ARM i) 1
    let g := (s.lap i).geom
    let s := s.setLap i { s.lap i with geom := none }
    let s := match g with
      | some g => s.geoCompare i g
      | none => s
    match s.lapRing i with
    | none => s
    | some r =>
      if r.next = s.moduleId then s.geoArrive i (s.fld (Fd.JOB_LAP_CFG_SLICES_M1 i), s.lapPages i)
      else if s.linkFault r.next 0 = 0 then s.sendPkt r.next 0 0x10 (s.geoBody i) .none
      else s

/-- R391: ARM goes to 0: postings are released, and their windows close. -/
def State.lapDisarm (s : State) (i : Nat) : State :=
  let s := (s.setFld (Fd.JOB_LAP_CFG_ARM i) 0).setFld (Fd.JOB_LAP_CFG_PEER_OK i) 0
  let wins := s.cores.flatMap (fun c => (c.2.windows.filter (fun w => match w.2.kind with
    | .lap v _ => v = i
    | _ => false)).map (fun w => (c.1, w.1)))
  let s := s.setLap i { s.lap i with posts := [] }
  wins.foldl (fun s w => s.closeWindow w.1 w.2) s

/-! Postings (R392 to R400) -/

/-- R393: the posting at the head of a slice's queue. -/
def LapVc.head (x : LapVc) (slice : Nat) : Option Posting := x.posts.find? (fun p => p.slice = slice)

/-- Change a posting. -/
def State.alterPost (s : State) (i id : Nat) (f : Posting → Posting) : State :=
  let x := s.lap i
  s.setLap i { x with posts := x.posts.map (fun p => if p.id = id then f p else p) }

/-- R389, R390: the slice of the next packet, and its byte within the slice. -/
def State.lapPlace (s : State) (i count : Nat) : Nat × Nat :=
  let q := count % s.lapPackets i
  (q / s.lapPages i, q % s.lapPages i * 4096)

/-- The core in whose scratchpad a local address lies. -/
def scratchCore (a : Nat) : Option Nat :=
  match regionOf a with
  | .scratch t c => some (t * 16 + c)
  | _ => none

/-- R395: the posting that accepts the next packet from a source; count is the flow's packet count. -/
def State.lapTarget (s : State) (i src count : Nat) : Option (Posting × Nat) :=
  let q := s.lapPlace i count
  if s.isSet (Fd.JOB_LAP_CFG_PEER_OK i) ∧ s.computeUp ∧ (s.lapRing i).any (fun r => r.prev = src) then
    ((s.lap i).head q.1).map (fun p => (p, q.2))
  else none

/-- The pieces of a window that lie within a range. -/
def Piece.within (p : Piece) (a n : Nat) : Bool := decide (a ≤ p.addr) && decide (p.addr + p.len ≤ a + n)

/-- The pieces of input attached to an open window of a core. -/
def State.windowPieces (s : State) (core w : Nat) : List Piece :=
  match SMap.find (s.core core).windows w with
  | some x => x.pieces
  | none => []

/-- R397: may bytes for a posting glide now? Answers the core and the window, opened where there is none. -/
def State.lapWindow (s : State) (i : Nat) (p : Posting) : Option (Nat × Nat × State) :=
  match scratchCore p.addr with
  | none => none
  | some core =>
    if p.discard ∨ !(s.isSet (Fd.TILE_GLIDE_CTL_LAP_EN (core / 16))) then none
    else
      (s.windowFor core (.lap i p.slice)).map (fun r => (core, r.1, r.2))

/-- R86, R397: bytes land under a window: written, tagged, and moved from PENDING to UNCONF. Bytes re-delivered after a
refusal replace the refused pieces they cover. Answers the fault that the transfer's completion must report (R86, R286). -/
def State.landGliding (s : State) (core w a : Nat) (bs : List Byte) (bar ep : Nat) : State × Nat :=
  let r := s.store (cellsFrom a bs)
  let s := (linesOf a bs.length).foldl (fun s l => s.addLineTag l (winBit w) 128) r.1
  let q := s.barCount bar ep (-(bs.length : Int)) bs.length
  (q.1.modWindow core w (fun x => { x with
    pieces := x.pieces.filter (fun p => !(p.refused && p.within a bs.length))
      ++ [{ addr := a, len := bs.length, bar := bar, ep := ep }] }), if r.2 then 0x0511 else q.2)

/-- The first fault a transfer meets is the one it reports. -/
def keepFault (old new : Nat) : Nat := if old = 0 then new else old

/-- R86, R87: several counts of pieces of input on their barriers; the faults they report join one that stands. -/
def State.countPieces (s : State) (ps : List Piece) (f : Piece → Int × Int) (late : Nat) : State × Nat :=
  ps.foldl (fun acc q =>
    let r := acc.1.barCount q.bar q.ep (f q).1 (f q).2
    (r.1, keepFault acc.2 r.2)) (s, late)

/-- R393: a posting has taken the packet at a byte of its slice; with the slice's last packet it ends, its window closes, its thread
hears of a fault, and the last slice counts a lap. -/
def State.lapCount (s : State) (i : Nat) (p : Posting) (off : Nat) (win : Option (Nat × Nat)) : State :=
  let full := decide (s.sliceBytes i ≤ off + 4096)
  let x := s.lap i
  let s := if full then s.setLap i { x with posts := x.posts.filter (fun q => q.id ≠ p.id) }
    else s.alterPost i p.id (fun q => { q with
      start := if p.got = 0 then off / 4096 else p.start, got := p.got + 1, late := p.late })
  let s := if full then (match win with | some (core, w) => s.closeWindow core w | none => s) else s
  let s := if full then s.report p.t p.late p.pc p.owner else s
  if full ∧ p.slice + 1 = s.lapSlices i then s.incFld (Fd.JOB_LAP_STAT_LAPS_IN i) else s

/-- R396, R397: a packet for a posting passes its check, at a byte of its slice: bytes that glide leave UNCONF; the others
land confirmed. The posting leaves its queue with its last packet, and its window closes. -/
def State.lapAccept (s : State) (i : Nat) (p : Posting) (off : Nat) (bs : List Byte) : State :=
  let a := p.addr + off
  let win : Option (Nat × Nat) := match scratchCore p.addr with
    | some core => (s.windowOf core (.lap i p.slice)).map (fun w => (core, w))
    | none => none
  let pieces : List Piece := match win with
    | some (core, w) => (s.windowPieces core w).filter (fun q => q.within a bs.length)
    | none => []
  let live := pieces.filter (fun q => !q.refused)
  let covered (x : Nat) : Bool := live.any (fun q => decide (q.addr ≤ x) && decide (x < q.addr + q.len))
  let cells := (cellsFrom a bs).filter (fun c => !(covered c.1))
  let r := if p.discard then (s, false) else s.store cells
  let q := r.1.barLand p.bar p.ep cells.length
  let q := q.1.countPieces live (fun q => (0, -(q.len : Int))) (keepFault (keepFault p.late (if r.2 then 0x0511 else 0)) q.2)
  let s := match win with
    | some (core, w) => q.1.modWindow core w (fun x => { x with pieces := x.pieces.filter (fun q => !(q.within a bs.length)) })
    | none => q.1
  s.lapCount i { p with late := q.2 } off win

/-- R400: one posting gives back the bytes of an incomplete lap. -/
def State.lapGiveBack (s : State) (i : Nat) (p : Posting) : State :=
  let win : Option (Nat × Nat) := match scratchCore p.addr with
    | some core => (s.windowOf core (.lap i p.slice)).map (fun w => (core, w))
    | none => none
  let pieces : List Piece := match win with
    | some (core, w) => s.windowPieces core w
    | none => []
  let live := pieces.filter (fun q => !q.refused)
  if p.got = 0 ∧ live = [] then s
  else
    let r := s.barCount p.bar p.ep (p.got * 4096) 0
    let r := r.1.countPieces live (fun q => (q.len, -(q.len : Int))) (keepFault p.late r.2)
    let s := r.1.alterPost i p.id (fun q => { q with got := 0, late := r.2 })
    match win with
    | none => s
    | some (core, w) =>
      let s := s.modWindow core w (fun x => { x with
        pieces := (List.range (p.got * 16)).map (fun k =>
            { addr := p.addr + 4096 * p.start + 256 * k, len := 256, bar := p.bar, ep := p.ep, refused := true })
          ++ x.pieces.map (fun q => { q with refused := true }) })
      s.refuseWindow core w

/-- R400: a lap receive flow is replaced at a packet count: an incomplete lap is discarded. -/
def State.lapReplaced (s : State) (i count : Nat) : State :=
  if count % s.lapPackets i = 0 then s
  else (List.range (s.lapSlices i)).foldl (fun s q =>
    match (s.lap i).head q with
    | some p => s.lapGiveBack i p
    | none => s) s

/-- R395: NO_POST counts a NACK of reason 2. -/
def State.noPost (s : State) (i : Nat) : State := s.satFld (Fd.JOB_LAP_STAT_NO_POST i)

/-! Sending (R402 to R405) -/

/-- R402: the fault of a source region of a slice at issue: 0x0805 unless it lies in one of the places R402 names, a host window being
one window. -/
def State.lapSourceBad (s : State) (t a n : Nat) : Bool :=
  let z := a + n - 1
  match regionOf a, regionOf z with
  | .far, .far => false
  | .near, .near => false
  | .vat u, .vat v => u ≠ tileOf t || v ≠ tileOf t
  | .scratch u c, .scratch v d => u ≠ tileOf t || v ≠ tileOf t || c ≠ d
  | .host, .host => s.copyRegion a ≠ s.copyRegion z
  | _, _ => true

/-- Change a slice to send. -/
def State.alterSend (s : State) (i id : Nat) (f : LapSend → LapSend) : State :=
  let x := s.lap i
  s.setLap i { x with sends := x.sends.map (fun q => if q.id = id then f q else q) }

/-- A slice's send is over with a fault, or 0. -/
def State.lapSendEnd (s : State) (i : Nat) (q : LapSend) (fault : Nat) : State :=
  let x := s.lap i
  let s := s.setLap i { x with sends := x.sends.filter (fun z => z.id ≠ q.id) }
  let s := match q.pin with
    | some (h, k) => s.dropPin h k
    | none => s
  s.report q.t fault q.pc q.owner

/-- R403, R421: every packet of a slice has been acknowledged: its bytes count on its barrier. -/
def State.lapSent (s : State) (i id : Nat) : State :=
  match (s.lap i).sends.find? (fun q => q.id = id) with
  | none => s
  | some q =>
    let r := s.barLand q.bar q.ep (s.sliceBytes i)
    let s := r.1.lapSendEnd i q r.2
    if q.slice + 1 = s.lapSlices i then s.incFld (Fd.JOB_LAP_STAT_LAPS_OUT i) else s

/-- R325, R405: the flow of a slice sent and not acknowledged failed: it completes with the fault. -/
def State.lapSliceFailed (s : State) (i id fault : Nat) : State :=
  match (s.lap i).sends.find? (fun q => q.id = id) with
  | none => s
  | some q => s.lapSendEnd i q fault

/-- R405: the rest of a lap begun is given up. -/
def State.lapGiveUp (s : State) (i fault : Nat) : State :=
  let cur := (s.lap i).cur
  if cur = 0 then s
  else
    let s := ((List.range (s.lapSlices i)).filter (fun k => decide (cur ≤ k))).foldl (fun s k =>
      match (s.lap i).sends.find? (fun q => q.slice = k) with
      | some q => s.lapSendEnd i q fault
      | none => s.setLap i { s.lap i with dead := (s.lap i).dead ++ [k] }) s
    s.setLap i { s.lap i with cur := 0 }

/-- An answer arrives for a slice that reads a peer's page. -/
def State.lapAnswer (s : State) (i id src status : Nat) (bs : List Byte) : State :=
  s.alterSend i id (fun q => { q with
    reads := q.reads - 1
    fault := if q.fault = 0 then status else q.fault
    buf := if status = 0 then (cellsFrom src bs).foldl (fun m e => SMap.set m e.1 e.2) q.buf else q.buf })

/-- R402: a slice joins the sequencer; one that belongs to a lap given up completes with 0x0603. -/
def State.lapEnqueue (s : State) (i : Nat) (q : LapSend) : State :=
  let x := s.lap i
  let q := { q with id := x.nextId }
  let s := s.setLap i { x with sends := x.sends ++ [q], nextId := x.nextId + 1 }
  if x.dead.contains q.slice then
    (s.setLap i { s.lap i with dead := x.dead.erase q.slice }).lapSendEnd i q 0x0603
  else s

/-- R402: a slice number holds at most four issued slices. -/
def State.lapRoom (s : State) (i slice : Nat) : Bool := decide (((s.lap i).sends.filter (fun q => q.slice = slice)).length < 4)

/-- The bytes of a slice, from this module's memory or from what peers returned. -/
def State.lapBytes (s : State) (q : LapSend) : List Byte :=
  q.srcs.flatMap (fun r =>
    if s.here r.1 then s.readBytes (devSplit r.1).2 r.2 else (List.range r.2).map (fun k => q.buf.getD (r.1 + k) 0))

/-- R403, R282: no source line of a slice glides or lies in a held bank. -/
def State.lapSettled (s : State) (q : LapSend) : Bool :=
  q.srcs.all (fun r => !(s.here r.1) || !(s.banksHeld (devSplit r.1).2 r.2) && (linesOf (devSplit r.1).2 r.2).all (fun l => (SMap.find s.ltags l).isNone))

/-- Does a slice read a poisoned line? -/
def State.lapPoisoned (s : State) (q : LapSend) : Bool :=
  q.srcs.any (fun r => s.here r.1 && s.poisoned (devSplit r.1).2 r.2)

end Sys2Proof.Machine
end

