-- ==== Sys2Proof/Machine/RegOps.lean ====
section
/-! DEFINITION. How a write stores into a register's fields by their access codes (R11 to R13), before any effect of its own. -/

namespace Sys2Proof.Machine

/-- R12, R327, R631: the block of an LK field has been sealed: JL by JL_SEAL, the watchdog by its own SEAL. -/
def State.fldSealed (s : State) (f : Fld) : Bool :=
  if f.addr = (Reg.MC_WDT).addr then s.isSet Fd.MC_WDT_SEAL else s.isSet Fd.JL_SEAL_SEAL

/-- The bits of a number that a mask names, taken from v; the others from old. -/
def maskMix (old v mask : Nat) : Nat := (old - (old &&& mask)) ||| (v &&& mask)

/-- R12: write one field; mask names the register's bits that the access writes. WO fields store nothing, RO fields
discard. -/
def State.storeFld (s : State) (f : Fld) (mask v : Nat) : State :=
  let m := bits mask f.lo f.len
  let x := bits v f.lo f.len
  let old := s.fld f
  match f.acc with
  | .ro => s
  | .wo => s
  | .rw => if m = 0 then s else s.setFld f (maskMix old x m)
  | .w1c => if x &&& m = 0 then s else s.setFld f (old - (old &&& (x &&& m)))
  | .w1s => if x &&& m = 0 then s else s.setFld f (old ||| (x &&& m))
  | .lk => if m = 0 then s else if s.fldSealed f then s else s.setFld f (maskMix old x m)

/-- R12: a write of the bits of a mask to a register stores into its fields; a write that meets an LK field of a sealed block
records fault 0x0E05 once. -/
def State.writeFields (s : State) (r : Reg) (mask v : Nat) : State :=
  let fs := r.fields
  let st := fs.foldl (fun st f => st.storeFld f mask v) s
  if fs.any (fun f => f.acc = .lk && s.fldSealed f && decide (bits mask f.lo f.len ≠ 0)) then st.log 0x0E05 else st

/-- R671: record a 0x0A code for an access through BAR2. The command does not say which port carried it, and that bit of the
record is a free value. -/
def State.logBar (s : State) (code : Nat) : State := (s.logRec code 1 (s.freeVal 1)).useFree

/-- R52, R503: a write to control space by the host: before stage 1 has completed it is discarded with 0x0A03. Without power nothing
is there. -/
def State.hostWrite (s : State) (go : State → State) : State :=
  if s.boot.done1 then go s else if s.boot.powered then s.logBar 0x0A03 else s

/-- R52, R503: is the block of an offset held on a die that is in reset? The TILE blocks come up in stage 0 and are in reset with the
compute part, as is the NEAR block; every other block is on the host die or the rind. -/
def State.blockInReset (s : State) (b : Nat) : Bool :=
  if 0x10 ≤ b ∨ b = 0xA then s.cpr = 1 || s.cpr = 2 || !s.boot.done0 else !s.boot.done0

/-- R25, R627: the tile of a TILE block that is out of service. -/
def State.blockOff (s : State) (b : Nat) : Bool := decide (0x10 ≤ b) && !(s.tileOn (b - 0x10))

/-- R627: the licence does not enable ingest decode. Before a licence has been read nothing is refused. -/
def State.ingOff (s : State) : Bool := s.boot.done1 && !(s.isSet Fd.LIC_STAT_ING_EN)

/-- R52, R627: why a write to a block is discarded: its die is in reset or its tile out of service (0x0A03), or the licence does not
enable it (0x0A15); else 0. -/
def State.blockRefusal (s : State) (b : Nat) : Nat :=
  if s.blockInReset b ∨ s.blockOff b then 0x0A03 else if b = 7 ∧ s.ingOff then 0x0A15 else 0

/-- A write by the host to a register of a block. -/
def State.hostWriteIn (s : State) (b : Nat) (go : State → State) : State :=
  s.hostWrite (fun s => if s.blockRefusal b = 0 then go s else s.logBar (s.blockRefusal b))

/-- Bring a field into a range, as its Effect column says. -/
def State.clampFld (s : State) (f : Fld) (lo hi : Nat) : State := s.setFld f (max lo (min hi (s.fld f)))

/-- The whole 64-bit register. -/
def fullMask : Nat := 2 ^ 64 - 1

end Sys2Proof.Machine
end

