-- ==== Sys2Proof/Machine/RelayOps.lean ====
section
/-! DEFINITION. The relay (R424 to R460): entries and their working store, quantisation and exact sums, acceptance with twins,
exponents and the pre-pass, finals and results, the norm sets, batches, and failure. The accumulator area holds the blocks'
256 words in block order and then, per hosted slot, one accept bit per block; the compare area 1,024 bytes per twinned
hosted slot and block (a layout of the model: R670 gives none). -/

namespace Sys2Proof.Machine

/-! Entries -/

/-- A reduction entry's working state. -/
def State.relay (s : State) (h : Nat) : Relay := s.relays.getD h {}
/-- Put it. -/
def State.setRelay (s : State) (h : Nat) (x : Relay) : State := { s with relays := s.relays.set h x }
/-- Change it. -/
def State.modRelay (s : State) (h : Nat) (f : Relay → Relay) : State := s.setRelay h (f (s.relay h))

/-- R426: STATE. -/
def State.relState (s : State) (h : Nat) : Nat := if h < 1024 then s.fld (Fd.REL_RED_CTL_STATE h) else 0
/-- R428: E. -/
def State.relE (s : State) (h : Nat) : Nat := s.fld (Fd.REL_RED_ID_E h)
/-- R428: B. -/
def State.relB (s : State) (h : Nat) : Nat := (s.relE h + 255) / 256
/-- R428: K. -/
def State.relK (s : State) (h : Nat) : Nat := s.fld (Fd.REL_RED_ID_K_M1 h) + 1
/-- R428: the elements of block b. -/
def State.relLen (s : State) (h b : Nat) : Nat := min 256 (s.relE h - 256 * b)
/-- GEN. -/
def State.relGen (s : State) (h : Nat) : Nat := s.fld (Fd.REL_RED_CTL_GEN h)
/-- Ring mode? -/
def State.relRing (s : State) (h : Nat) : Bool := s.isSet (Fd.REL_RED_CTL_MODE h)
/-- RESULT. -/
def State.relResult (s : State) (h : Nat) : Nat := s.fld (Fd.REL_RED_CTL_RESULT h)
/-- P, as copied at arm. -/
def State.relP (s : State) (h : Nat) : Nat := s.fld (Fd.REL_RED_OWN_P h)
/-- POS, as copied at arm. -/
def State.relPos (s : State) (h : Nat) : Nat := s.fld (Fd.REL_RED_OWN_POS h)

/-- R437: the parts of a slot map word. -/
def slotPrimary (v : Nat) : Nat := bits v 0 18
/-- R437: TWIN. -/
def slotTwin (v : Nat) : Nat := bits v 18 18
/-- R437: TWIN_EN. -/
def slotTwinEn (v : Nat) : Bool := bitAt v 36
/-- R437: HOST. -/
def slotHost (v : Nat) : Nat := bits v 37 18

/-- R437: the slots that this module hosts, ascending. -/
def State.hosted (s : State) (map : List Nat) : List Nat :=
  (map.zipIdx.filter (fun x => slotHost x.1 = s.moduleId)).map (·.2)

/-- R446: this module is a position of an entry's ring. With P = 1 the one position hosts every slot. -/
def State.relMember (s : State) (h : Nat) : Bool :=
  decide (1 < s.relP h) || s.hosted (s.relay h).map ≠ []

/-- R443: the position that owns block b in ring mode. -/
def State.relChunk (s : State) (h b : Nat) : Nat := b * s.relP h / s.relB h

/-- The blocks this module owns, ascending (R441, R443). -/
def State.owned (s : State) (h : Nat) : List Nat :=
  if s.relRing h then
    if s.relMember h then (List.range (s.relB h)).filter (fun b => s.relChunk h b = s.relPos h) else []
  else if s.fld (Fd.REL_RED_OWN_OWNER h) = s.moduleId then List.range (s.relB h) else []

/-- R442, R446: this module is named in the slot map as a worker. -/
def State.isWorker (s : State) (h : Nat) : Bool :=
  (s.relay h).map.any (fun v => slotPrimary v = s.moduleId || (slotTwinEn v && slotTwin v = s.moduleId))

/-- R439, R442, R445, R446: the blocks whose results are due to this module. -/
def State.due (s : State) (h : Nat) : List Nat :=
  if s.relRing h then
    if s.relResult h = 0 then (if s.relMember h || s.isWorker h then List.range (s.relB h) else []) else s.owned h
  else if s.owned h ≠ [] then s.owned h
  else if s.relResult h = 0 ∧ s.isWorker h then List.range (s.relB h)
  else []

/-- The bytes of the results of some blocks. -/
def State.relBytes (s : State) (h : Nat) (bs : List Nat) : Nat := (bs.map (fun b => 4 * s.relLen h b)).sum

/-! The grid -/

/-- The BFX NaN of 64 bits. -/
def bfxNan : Nat := 2 ^ 63

/-- R429: quantise an FP32 code on a grid; the flag says that a finite value was overrange. -/
def relQuant (e : Int) (code : Nat) : Nat × Bool :=
  match bfxInt e (fp32.dec code) with
  | none => (bfxNan, false)
  | some n => if (2 ^ 63 - 1 : Int) < n ∨ n < -(2 ^ 63 - 1 : Int) then (bfxNan, true) else (toTwos 64 n, false)

/-- R430: the BFX sum of two words; the flag says that it left the range. -/
def bfxAdd (a b : Nat) : Nat × Bool :=
  if a = bfxNan ∨ b = bfxNan then (bfxNan, false)
  else
    let n := signed 64 a + signed 64 b
    if (2 ^ 63 - 1 : Int) < n ∨ n < -(2 ^ 63 - 1 : Int) then (bfxNan, true) else (toTwos 64 n, false)

/-- R431: the address of the exponent of block b in a half. -/
def State.expAddr (s : State) (h half b : Nat) : Nat := s.fld (Fd.REL_RED_EXP_EXP_ADDR h) + half * s.relB h + b

/-- R431: the exponent of block b in the current half. -/
def State.relExp (s : State) (h b : Nat) : Int := signed 8 (s.byteAt (s.expAddr h (s.relGen h % 2) b)).toNat

/-- R431, R433: is the exponent of block b known? -/
def State.expKnown (s : State) (h b : Nat) : Bool :=
  !(s.isSet (Fd.REL_RED_CTL_EXP_SRC h)) || (s.relay h).known.getD b false

/-- R429, R460: a block was found overrange. -/
def State.overrange (s : State) (h : Nat) (c : Bool) : State :=
  if c ∧ s.fld (Fd.REL_RED_CTL_FAULT h) = 0 then s.setFld (Fd.REL_RED_CTL_FAULT h) 0x0904 else s

/-- R455: the sum of squares of words on a grid, in units of 2^-316; the BFX NaN is left out. -/
def squares (e : Int) (ws : List Nat) : Nat :=
  (ws.map (fun w => if w = bfxNan then 0 else (signed 64 w).natAbs ^ 2)).sum * 2 ^ (2 * e + 256).toNat

/-! The working store -/

/-- Has this module an accumulator area? -/
def State.hasAcc (s : State) (h : Nat) : Bool := s.hosted (s.relay h).map ≠ [] || s.owned h ≠ []

/-- The address of block b's words. -/
def State.accAddr (s : State) (h b : Nat) : Nat := s.fld (Fd.REL_RED_ACC_ACC_ADDR h) + 2048 * b

/-- The accumulator words of block b. -/
def State.accWords (s : State) (h b : Nat) : List Nat :=
  (List.range (s.relLen h b)).map (fun i => if s.hasAcc h then s.readNat (s.accAddr h b + 8 * i) 8 else 0)

/-- The place of a hosted slot among the hosted slots. -/
def State.hostIdx (s : State) (h slot : Nat) : Nat := (s.hosted (s.relay h).map).findIdx (· = slot)

/-- The byte that holds the accept bit of a slot and a block. -/
def State.acceptAddr (s : State) (h slot b : Nat) : Nat :=
  s.accAddr h (s.relB h) + s.hostIdx h slot * ((s.relB h + 7) / 8) + b / 8

/-- R450: the accept bit. -/
def State.accepted (s : State) (h slot b : Nat) : Bool := (s.byteAt (s.acceptAddr h slot b)).getLsbD (b % 8)

/-- R443: every hosted slot has been accepted for block b. -/
def State.blockReady (s : State) (h b : Nat) : Bool := (s.hosted (s.relay h).map).all (fun k => s.accepted h k b)

/-- R285: what the relay would read of its own store for block b lies in a poisoned line: its sums, or its exponent. -/
def State.accBad (s : State) (h b : Nat) : Bool :=
  (s.hasAcc h && s.poisoned (s.accAddr h b) (8 * s.relLen h b)) || s.poisoned (s.expAddr h (s.relGen h % 2) b) 1

/-- R270: the relay reads the exponent of block b. -/
def State.touchExp (s : State) (h b : Nat) : State := s.touch1 (s.expAddr h (s.relGen h % 2) b)

/-- R451: where the kept copy of a twinned hosted slot's block lies. -/
def State.keptAddr (s : State) (h slot b : Nat) : Nat :=
  let m := (s.relay h).map
  let tw := (s.hosted m).filter (fun k => slotTwinEn (m.getD k 0))
  s.fld (Fd.REL_RED_CMPA_CMP_ADDR h) + (tw.findIdx (· = slot) * s.relB h + b) * 1024

/-! Batches (R447) -/

/-- The header of a batch. -/
structure RelHdr where
  job : Nat
  red : Nat
  kind : Nat
  gen : Nat
  slot : Nat
  twin : Bool
  b0 : Nat
  n : Nat
  bytes : Nat
  esc : List Bool
  exps : List Nat
  deriving DecidableEq, Repr

/-- R447: a header's fields. -/
def RelHdr.dec (bs : List Byte) : RelHdr :=
  let v := leNat (bs.take 16)
  let n := bits v 84 12 + 1
  let kind := bits v 40 4
  let m := (n + 7) / 8
  { job := bits v 0 16, red := bits v 16 24, kind := kind, gen := bits v 44 8, slot := bits v 52 10, twin := bitAt v 62,
    b0 := bits v 64 20, n := n, bytes := bits v 96 32,
    esc := if kind = 1 then (List.range n).map (fun i => ((bs.drop 16).getD (i / 8) 0).getLsbD (i % 8)) else [],
    exps := if kind = 1 then ((bs.drop (16 + m)).take n).map (·.toNat) else [] }

/-- R447: a header's bytes, for one block. -/
def relHdrBytes (job red kind gen slot : Nat) (twin : Bool) (b0 n dbytes : Nat) (tail : List Byte) : List Byte :=
  leBytes 16 (job + red * 2 ^ 16 + kind * 2 ^ 40 + gen * 2 ^ 44 + slot * 2 ^ 52 + b2n twin * 2 ^ 62 + b0 * 2 ^ 64
    + (n - 1) * 2 ^ 84 + dbytes * 2 ^ 96) ++ tail

/-- Send a batch of entry h toward a module: its header, then its data, on the entry's VC. Answers a link fault instead when
the source finds one (R345). -/
def State.sendBatch (s : State) (h dst kind slot : Nat) (twin : Bool) (b0 n : Nat) (tail data : List Byte) (send : Nat) :
    Nat × State :=
  let vc := s.fld (Fd.REL_RED_CTL_VC h)
  let f := s.linkFault dst vc
  if f ≠ 0 then (f, s)
  else
    let org := Origin.relay h (s.relGen h) send
    let hd := relHdrBytes (s.fld (Fd.REL_RED_CTL_JOB h)) (s.fld (Fd.REL_RED_ID_RED h)) kind (s.relGen h) slot twin b0 n
      data.length tail
    let s := s.sendPkt dst vc 0x20 hd org
    (0, (List.range ((data.length + 4095) / 4096)).foldl
      (fun s i => s.sendPkt dst vc 0x20 ((data.drop (4096 * i)).take 4096) org) s)

/-! Norm sets (R454 to R458) -/

/-- A norm set. -/
def State.norm (s : State) (k : Nat) : NormSet := s.norms.getD k {}
/-- Put a norm set. -/
def State.setNorm (s : State) (k : Nat) (x : NormSet) : State := { s with norms := s.norms.set k x }

/-- R455: the value of a sum of squares as FP32, rounded once. -/
def ssqF (v : Nat) : Nat := (fp32.enc false (.fin false v (-316))).code

/-- R457: SSQ_F of a completed set. A NaN, or a failed reduction of the set (R459), takes precedence over saturation. -/
def NormSet.ssqf (x : NormSet) : Nat := if x.nan || x.failed then 0x7FC00000 else if x.ovf then 0x7F800000 else ssqF x.ssq

/-- R457: SSQ_SLOTS_F of a completed set. -/
def NormSet.slotsf (x : NormSet) : Nat := if x.noise then ssqF ((x.slots.map (·.2)).sum) else 0

/-- R457: the norm record. -/
def NormSet.record (x : NormSet) : Nat :=
  x.ssq + x.ssqf * 2 ^ 640 + x.slotsf * 2 ^ 672 + x.slots.length % 2 ^ 16 * 2 ^ 704 + b2n x.ovf * 2 ^ 720
    + b2n x.nan * 2 ^ 721 + x.seq.toNat * 2 ^ 736

/-- A write of the relay that belongs to no reduction under way: one that R286 discards is recorded (DESIGN CHOICE, log entry 100). -/
def State.relayPut (s : State) (cells : List (Nat × Byte)) : State :=
  let r := s.store cells
  if r.2 then r.1.log 0x0511 else r.1

/-- R457, R464: a norm record arrives at this module: written to RES_ADDR, 128 bytes on the barrier at BAR_ADDR, its OVF shown. A BAR_ADDR that
is no place of a barrier (R82) receives nothing; the fault of a barrier that does not count is recorded (DESIGN CHOICE, log entry
100). -/
def State.landNorm (s : State) (k : Nat) (bs : List Byte) : State :=
  let s := (s.relayPut (cellsFrom (s.fld (Fd.REL_NORM_ADDR_RES_ADDR k)) bs)).setFld (Fd.REL_NORM_CTL_OVF k) (bits (leNat bs) 720 1)
  let b := s.fld (Fd.REL_NORM_BAR_BAR_ADDR k)
  match regionOf b with
  | .scratch _ _ =>
    if b % 16 = 0 then
      (let r := s.barLand b (s.barEpoch b) 128
       if r.2 = 0 then r.1 else r.1.log r.2)
    else s
  | _ => s

/-- R458: the squared norms of the slots of a set, over all its reductions. -/
def NormSet.slotSums (x : NormSet) : List (Nat × Nat) :=
  ((x.slots.map (·.1)).eraseDups).map (fun i => (i, ((x.slots.filter (fun e => e.1 = i)).map (·.2)).sum))

/-- R457, R458: the set completes: slots and record are written, the record goes to every sender in ascending module-ID
order, and the counts restart. -/
def State.closeNorm (s : State) (k : Nat) : State :=
  let x := s.norm k
  let rec0 := leBytes 128 x.record
  let s := if x.noise then
      x.slotSums.foldl (fun s e =>
        s.relayPut (cellsFrom (s.fld (Fd.REL_NORM_SLOTS_NOISE_SLOTS k) + 4 * e.1) (leBytes 4 (ssqF e.2)))) s
    else s
  let s := s.landNorm k rec0
  let mods := (x.senders.map (·.1)).eraseDups.mergeSort
  let s := mods.foldl (fun s m =>
    match x.senders.find? (fun e => e.1 = m) with
    | some (_, red, gen, vc) =>
      if s.linkFault m vc ≠ 0 then s
      else
        let hd := relHdrBytes (s.fld (Fd.REL_NORM_CTL_JOB k)) red 6 gen 0 false 0 1 128 []
        (s.sendPkt m vc 0x20 hd .none).sendPkt m vc 0x20 rec0 .none
    | none => s) s
  s.setNorm k { seq := x.seq + 1 }

/-- R456: is a set complete? With slot entries its completion first needs the noise ring (R458). -/
def State.settleNorm (s : State) (k : Nat) : State :=
  let x := s.norm k
  if x.closing ∨ x.count < s.fld (Fd.REL_NORM_CTL_EXPECT_M1 k) + 1 then s
  else if x.noise then s.setNorm k { x with closing := true }
  else s.closeNorm k

/-- R455: the word of a sum of squares, of 640 bits, and whether the sum saturates it. -/
def ssqWord (v : Nat) : Nat × Bool := if 2 ^ 640 ≤ v then (2 ^ 640 - 1, true) else (v, false)

/-- R455, R456: a norm set with batches added. -/
def NormSet.add (x : NormSet) (b : NormBatch) : NormSet :=
  let a := ssqWord (x.ssq + b.ssq)
  { x with
    count := x.count + b.n, ssq := a.1, ovf := x.ovf || a.2 || b.sat, nan := x.nan || b.nan, failed := x.failed || b.failed
    fault := if x.fault = 0 then b.fault else x.fault, noise := x.noise || b.noise, slots := x.slots ++ b.slots
    senders := x.senders ++ b.sender.toList }

/-- R456: batches are counted at the norm owner, in order; those that come while a completion waits for the noise ring count after it. -/
def State.countNorms (s : State) (k : Nat) : List NormBatch → State
  | [] => s
  | b :: r =>
    let x := s.norm k
    if x.closing then s.setNorm k { x with late := x.late ++ b :: r }
    else ((s.setNorm k (x.add b)).settleNorm k).countNorms k r

/-- R456: count batches of a reduction at the norm owner. -/
def State.countNorm (s : State) (k : Nat) (b : NormBatch) : State := s.countNorms k [b]

/-- R456 to R458: the set that waited for the noise ring completes, and what has come since counts. -/
def State.finishNorm (s : State) (k : Nat) : State := (s.closeNorm k).countNorms k (s.norm k).late

/-- R456: the batches that a reduction owes to its set. -/
def State.normDue (s : State) (h : Nat) : Nat := if s.relRing h then s.relP h else 1

/-! Failure (R459) -/

/-- R438, R452, R459: an offer ends: its source bytes count on its barrier, and its thread hears of a fault. -/
def State.endOffer (s : State) (fault : Nat) (o : Offer) : State :=
  let r := s.barLand o.bar o.ep o.bytes
  r.1.report o.t (if fault = 0 then r.2 else fault) o.pc o.owner

/-- R438, R459: every offer of an entry ends. -/
def State.endOffers (s : State) (h fault : Nat) : State :=
  ((s.relay h).offers.foldl (State.endOffer · fault ·) s).modRelay h (fun x => { x with offers := [] })

/-- R459: the barrier of a failed reduction's posting receives what is still due, and its thread the fault. -/
def State.failPost (s : State) (h code : Nat) (x : Relay) : State :=
  match x.post with
  | none => s
  | some p =>
    let left := (s.due h).filter (fun b => !(x.landed.getD b false))
    let r := s.barLand p.bar p.ep (s.relBytes h left)
    if left = [] then r.1 else r.1.report p.t code p.pc p.owner

/-- R459: at the norm owner a failed reduction's set counts it as complete: what it had still to send counts as failed, and so does a set not
yet complete that it had sent all for. -/
def State.failNorm (s : State) (h code : Nat) (x : Relay) : State :=
  let k := s.fld (Fd.REL_RED_CTL_NORM_SET h)
  let n := s.normDue h - x.batches
  if s.isSet (Fd.REL_RED_CTL_NORM_EN h) ∧ s.fld (Fd.REL_NORM_CTL_OWNER k) = s.moduleId
      ∧ (n ≠ 0 ∨ (s.norm k).seq = x.inSet ∧ !(s.norm k).closing) then
    s.countNorm k { n := n, failed := true, noise := s.isSet (Fd.REL_RED_CTL_NOISE_EN h), fault := code }
  else s

/-- R459: an ARMED reduction fails: it sends nothing more, its barriers receive what they are owed, its threads its fault; its set counts it as
complete where this module is the norm owner; the step fails. -/
def State.relayFail (s : State) (h code : Nat) : State :=
  if s.relState h ≠ 2 then s
  else
    let x := s.relay h
    let s := (s.setFld (Fd.REL_RED_CTL_FAULT h) code).setFld (Fd.REL_RED_CTL_STATE h) 4
    let s := s.setFld (Fd.REL_RED_CTL_EXP_STALE h) 1
    let s := (s.endOffers h code).failPost h code x
    let s := s.setRelay h { x with offers := [], post := none, window := false }
    let s := s.dropWaiting (fun o => match o with
      | .relay k g _ => k = h && g = s.relGen h
      | _ => false)
    let s := s.failNorm h code x
    if s.ofJob (s.fld (Fd.REL_RED_CTL_JOB h)) then s.failStep code else s

/-- R286: a write of the relay for a reduction: one that a poisoned line discards fails the reduction (DESIGN CHOICE, log entry 100). -/
def State.relayStore (s : State) (h : Nat) (cells : List (Nat × Byte)) : State :=
  let r := s.store cells
  if r.2 then r.1.relayFail h 0x0511 else r.1

/-- Write an exponent: into the current half, or the other. -/
def State.putExp (s : State) (h b : Nat) (other : Bool) (e : Int) : State :=
  s.relayStore h [(s.expAddr h ((s.relGen h + b2n other) % 2) b, BitVec.ofInt 8 e)]

/-- Write the accumulator words of block b. -/
def State.putAcc (s : State) (h b : Nat) (ws : List Nat) : State :=
  s.relayStore h (cellsFrom (s.accAddr h b) (ws.flatMap (leBytes 8)))

/-- R450: record an acceptance. -/
def State.setAccepted (s : State) (h slot b : Nat) : State :=
  let a := s.acceptAddr h slot b
  s.relayStore h [(a, s.byteAt a ||| (1#8 <<< (b % 8)))]

/-- Send a batch, or fail the reduction with the link fault found. A failed reduction sends nothing (R459). -/
def State.relaySend (s : State) (h dst kind slot : Nat) (twin : Bool) (b0 n : Nat) (tail data : List Byte) (send : Nat) : State :=
  if s.relState h = 4 then s else
  let r := s.sendBatch h dst kind slot twin b0 n tail data send
  if r.1 = 0 then r.2 else r.2.relayFail h r.1

/-! Results and completion -/

/-- R439: where the result of a block lands: in the posting, when it is due and not yet there. -/
def State.resultAt (s : State) (h b : Nat) : Option Nat :=
  let x := s.relay h
  let d := s.due h
  x.post.bind (fun p =>
    if d.contains b && !(x.landed.getD b false) then
      some (p.addr + if s.relRing h && s.relResult h ≠ 0 then (d.findIdx (· = b)) * 1024 else b * 1024)
    else none)

/-- R439: the result of a block lands in the posting, when it is due and not yet there. Its thread hears of a write discarded (R286) and
of a barrier that does not count (R88). -/
def State.landResult (s : State) (h b : Nat) (codes : List Nat) : State :=
  match (s.relay h).post, s.resultAt h b with
  | some p, some a =>
    let w := s.store (cellsFrom a (codes.flatMap (leBytes 4)))
    let r := w.1.barLand p.bar p.ep (4 * codes.length)
    (r.1.report p.t (if w.2 then 0x0511 else r.2) p.pc p.owner).modRelay h (fun x => { x with landed := x.landed.set b true })
  | _, _ => s

/-- R438, R440: an offer whose blocks have all been taken and acknowledged completes. -/
def State.settleOffers (s : State) (h : Nat) : State :=
  (s.relay h).offers.foldl (fun s o =>
    if o.next = o.stop ∧ !(s.inFlight (fun q => q = .relay h (s.relGen h) o.id)) then
      (s.endOffer 0 o).modRelay h (fun x => { x with offers := x.offers.filter (fun z => z.id ≠ o.id) })
    else s) s

/-- R456: this module owes its set a batch for the reduction. -/
def State.owesNorm (s : State) (h : Nat) : Bool :=
  s.isSet (Fd.REL_RED_CTL_NORM_EN h)
    && (if s.relRing h then s.relMember h else decide (s.fld (Fd.REL_RED_OWN_OWNER h) = s.moduleId))

/-- R456: the batch of this module: its sum, and with NOISE_EN its slots' entries. -/
def State.normEntries (s : State) (h : Nat) : List (Nat × Nat) :=
  if s.isSet (Fd.REL_RED_CTL_NOISE_EN h) then
    (s.hosted (s.relay h).map).map (fun k => (k, (ssqWord ((s.relay h).slotSsq.getD k 0)).1))
  else []

/-- R456: at the end of a reduction its batch goes to the norm owner. BLOCK0, which R447 leaves unsaid for this kind, carries the sender's NAN
in bit 0 and its saturation in bit 1 (DESIGN CHOICE, log entry 37). -/
def State.sendNorm (s : State) (h : Nat) : State :=
  let x := s.relay h
  if s.owesNorm h ∧ x.norm = 0 ∧ (s.owned h).all (fun b => (SMap.find x.finals b).isSome)
      ∧ (List.range (s.relB h)).all (fun b => s.blockReady h b) then
    let k := s.fld (Fd.REL_RED_CTL_NORM_SET h)
    let o := s.fld (Fd.REL_NORM_CTL_OWNER k)
    let ent := s.normEntries h
    let sum := ssqWord x.ssq
    if o = s.moduleId then
      let s := s.modRelay h (fun x => { x with norm := 2, batches := x.batches + 1, inSet := (s.norm k).seq })
      s.countNorm k { ssq := sum.1, sat := sum.2, nan := x.nan, noise := s.isSet (Fd.REL_RED_CTL_NOISE_EN h),
                      fault := s.fld (Fd.REL_RED_CTL_FAULT h), slots := ent }
    else
      let s := s.modRelay h (fun x => { x with norm := 1 })
      let data := leBytes 80 sum.1 ++ ent.flatMap (fun e => leBytes 16 e.1 ++ leBytes 80 e.2)
      s.relaySend h o 5 0 false (b2n x.nan + 2 * b2n sum.2) (max 1 ent.length) [] data 0
  else s

/-- R440: a module that owns no block and receives none has offered every block it contributes, and each has been sent or accepted: R440
names nothing else for it, and an entry that is DONE takes no REL.SEND (log entry 36). -/
def State.offeredAll (s : State) (h : Nat) : Bool :=
  s.due h ≠ [] || s.owned h ≠ []
    || (decide (s.relB h * ((s.relay h).map.filter (fun v => slotPrimary v = s.moduleId
        || (slotTwinEn v && slotTwin v = s.moduleId))).length ≤ (s.relay h).offered) && (s.relay h).offers = [])

/-- R443: the first block of a chunk. -/
def State.chunkStart (s : State) (h c : Nat) : Nat := (c * s.relB h + s.relP h - 1) / s.relP h

/-- R440, R443, R445: a ring position has sent its partials of every other chunk, and has the next exponents of every other block. -/
def State.ringDone (s : State) (h : Nat) : Bool :=
  let x := s.relay h
  !(s.relRing h) || decide (s.relP h ≤ 1) || !(s.relMember h)
    || ((List.range (s.relP h)).all (fun c => c = s.relPos h || decide (s.chunkStart h (c + 1) ≤ x.sentTo.getD c (s.chunkStart h c)))
        && (List.range (s.relB h)).all (fun b => s.relChunk h b = s.relPos h || x.nexts.getD b false))

/-- R440: the entry becomes DONE. Offers of a late primary do not hold it back: they go on in the DONE entry (R450). -/
def State.settleRelay (s : State) (h : Nat) : State :=
  let x := s.relay h
  if s.relState h = 2 ∧ (s.owned h).all (fun b => (SMap.find x.finals b).isSome)
      ∧ (s.due h).all (fun b => x.landed.getD b false) ∧ s.offeredAll h ∧ s.ringDone h
      ∧ !(s.inFlight (fun q => match q with | .relay k g _ => k = h && g = s.relGen h | _ => false))
      ∧ (!(s.owesNorm h) ∨ x.norm ≠ 0) then
    (s.setFld (Fd.REL_RED_CTL_STATE h) 3).modRelay h (fun x => { x with norm := 2, window := true })
  else s

/-! Finals -/

/-- R432: the next exponent of a block from its final words. -/
def nextExp (e : Int) (headroom : Nat) (esc : Bool) (ws : List Nat) : Int :=
  let m := (ws.map (fun w => (signed 64 w).natAbs)).foldl max 0
  if ws.contains bfxNan ∨ m = 0 then e
  else
    let d : Int := (Nat.log2 m + 1 : Nat) - (31 - headroom : Int)
    let d := if esc ∧ d < 1 then 1 else d
    max (-128) (min 127 (e + d))

/-- Some word's magnitude needs more than 32 bits (R441, R444). -/
def wide (ws : List Nat) : Bool := ws.any (fun w => w ≠ bfxNan && decide (2 ^ 31 - 1 < (signed 64 w).natAbs))

/-- The words of two blocks added; the flag says that a sum left the range. -/
def addWords (a b : List Nat) : List Nat × Bool :=
  let r := (a.zip b).map (fun x => bfxAdd x.1 x.2)
  (r.map (·.1), r.any (·.2))

/-- R441, R443 to R445: block b is final here: statistics, the next exponent, its FP32 results. -/
def State.finalise (s : State) (h b : Nat) : State :=
  let x := s.relay h
  let e := s.relExp h b
  let acc := s.accWords h b
  let r := match SMap.find x.part b with
    | some (ws, _) => addWords ws acc
    | none => (acc, false)
  let esc := match SMap.find x.part b with
    | some (_, esc) => esc
    | none => wide r.1
  let isNan := r.1.contains bfxNan
  let s := s.overrange h r.2
  let s := if esc then s.incFld (Fd.REL_RED_STAT_ESCALATED h) else s
  let s := if isNan then s.incFld (Fd.REL_RED_STAT_NANB h) else s
  let s := s.putExp h b true (nextExp e (s.fld (Fd.REL_RED_CTL_HEADROOM h)) esc r.1)
  s.modRelay h (fun x => { x with
    finals := x.finals.set b (r.1.map (fun w => (fp32.enc false (decBfx 64 e w)).code))
    part := SMap.erase x.part b
    ssq := x.ssq + squares e r.1
    nan := x.nan || isNan })

/-- May block b be made final here now? -/
def State.canFinal (s : State) (h b : Nat) : Bool :=
  (SMap.find (s.relay h).finals b).isNone && s.expKnown h b && s.blockReady h b
    && (if s.relRing h then decide (s.relP h = 1) || (SMap.find (s.relay h).part b).isSome
        else (s.relay h).map.zipIdx.all (fun v => slotHost v.1 = s.moduleId && s.accepted h v.2 b))

/-- R446: the workers that this module does not know to be ring positions: no HOST, and neither itself nor a neighbour. A position that is
none of these drops what comes to it so (DEDUCED, log entry 36). -/
def State.outsiders (s : State) (h : Nat) : List Nat :=
  let m := (s.relay h).map
  let ring := m.map slotHost ++ [s.moduleId, s.fld (Fd.REL_RED_RING_NEXT h), s.fld (Fd.REL_RED_RING_PREV h)]
  ((m.flatMap (fun v => slotPrimary v :: (if slotTwinEn v then [slotTwin v] else []))).eraseDups).filter
    (fun d => !(ring.contains d))

/-- R442: the workers other than this module. -/
def State.workers (s : State) (h : Nat) : List Nat :=
  (((s.relay h).map.flatMap (fun v => slotPrimary v :: (if slotTwinEn v then [slotTwin v] else []))).eraseDups).filter
    (fun d => d ≠ s.moduleId)

/-- R442, R445, R446: the results of the next owned final block go out, and land here. -/
def State.outResult (s : State) (h b : Nat) (codes : List Nat) : State :=
  let data := codes.flatMap (leBytes 4)
  let ring := s.relRing h
  let e := s.byteAt (s.expAddr h ((s.relGen h + 1) % 2) b)
  let next := s.fld (Fd.REL_RED_RING_NEXT h)
  let s := if ring && decide (1 < s.relP h) then s.relaySend h next 3 0 false b 1 [] [e] 0 else s
  let s := if s.relResult h = 0 then
      let s := if ring && decide (1 < s.relP h) then s.relaySend h next 2 0 false b 1 [] data 0 else s
      (if ring then s.outsiders h else s.workers h).foldl (fun s d => s.relaySend h d 2 0 false b 1 [] data 0) s
    else s
  s.landResult h b codes

/-- A block whose sums or exponent the relay cannot read fails the reduction (R285; DESIGN CHOICE, log entry 100); else it goes on. -/
def State.withAcc (s : State) (h b : Nat) (go : State → State) : State :=
  let s := s.touchExp h b
  if s.accBad h b then s.relayFail h 0x0511 else go s

/-- What acceptance makes possible: finals, their results in ascending order, the norm batch, the end. In a DONE entry only offers are
left. -/
def State.relayAdvance (s : State) (h : Nat) : State :=
  if s.relState h = 3 then s.settleOffers h
  else if s.relState h ≠ 2 then s
  else
    let s := (s.owned h).foldl (fun s b =>
      if s.relState h = 2 ∧ s.canFinal h b then s.withAcc h b (fun s => s.finalise h b) else s) s
    let s := (s.owned h).zipIdx.foldl (fun s q =>
      let x := s.relay h
      if x.outs = q.2 ∧ s.relState h = 2 then
        match SMap.find x.finals q.1 with
        | some codes => (s.modRelay h (fun x => { x with outs := x.outs + 1 })).outResult h q.1 codes
        | none => s
      else s) s
    if s.relState h = 2 then ((s.sendNorm h).settleOffers h).settleRelay h else s

/-! Acceptance (R450 to R452) -/

/-- R451: a later copy of a twinned slot's block is compared bitwise with the one kept. A kept copy that reads as poisoned is compared
with nothing, and is counted in UNCHECKED as one (DESIGN CHOICE, log entry 100). -/
def State.compareTwin (s : State) (h slot b : Nat) (codes : List Nat) : State :=
  let x := s.relay h
  let key := slot * 2 ^ 20 + b
  match SMap.find x.kept key with
  | none => s
  | some _ =>
    let a := s.keptAddr h slot b
    if s.poisoned a (4 * codes.length) then s else
    let s := s.modRelay h (fun x => { x with kept := x.kept.set key true })
    if s.readBytes a (4 * codes.length) = codes.flatMap (leBytes 4) then s
    else
      let s := s.logRec 0x0911 5 (h + slot * 2 ^ 10 + b * 2 ^ 20)
      let s := (s.incFld (Fd.REL_RED_CHK_MISMATCH h)).setFld (Fd.REL_RED_STAT_SUSPECT h) 1
      let s := s.setFld Fd.REL_STAT_SUSPECT 1
      let s := if s.ofJob (s.fld (Fd.REL_RED_CTL_JOB h)) then s.suspectStep else s
      match x.launch with
      | some k => s.alterCmd k (fun c => { c with suspect := true })
      | none => s

/-- R441, R443, R450: a copy of a hosted slot's block reaches its host. -/
def State.contribute (s : State) (h slot : Nat) (twin : Bool) (b : Nat) (codes : List Nat) : State :=
  if s.accepted h slot b then s.compareTwin h slot b codes
  else s.withAcc h b (fun s =>
    let x := s.relay h
    let e := s.relExp h b
    let q := codes.map (relQuant e)
    let sum := addWords (s.accWords h b) (q.map (·.1))
    let s := (s.setAccepted h slot b).putAcc h b sum.1
    let s := s.overrange h (sum.2 || q.any (·.2))
    let s := if twin then s.incFld (Fd.REL_RED_STAT_TWINNED h) else s
    let keep := s.isSet (Fd.REL_RED_CTL_CMP h) && slotTwinEn (x.map.getD slot 0)
    let s := if keep then s.relayStore h (cellsFrom (s.keptAddr h slot b) (codes.flatMap (leBytes 4))) else s
    s.modRelay h (fun x => { x with
      kept := if keep then x.kept.set (slot * 2 ^ 20 + b) false else x.kept
      slotSsq := if s.isSet (Fd.REL_RED_CTL_NOISE_EN h) then
          x.slotSsq.set slot (x.slotSsq.getD slot 0 + squares e (q.map (·.1))) else x.slotSsq
      nan := x.nan || (s.isSet (Fd.REL_RED_CTL_NOISE_EN h) && (q.map (·.1)).contains bfxNan) }))

/-! The pre-pass (R433) -/

/-- R433: M_s of a block, offset by 128. -/
def magnitude (codes : List Nat) : Nat :=
  codes.foldl (fun m c =>
    match fp32.dec c with
    | .fin _ k e => if k = 0 then m else max m ((max (-127) (Nat.log2 k + e) + 128).toNat)
    | _ => m) 0

/-- ⌈log₂ k⌉. -/
def ceilLog2 (k : Nat) : Nat := if k ≤ 1 then 0 else Nat.log2 (k - 1) + 1

/-- R433: an exponent agreed for block b is written into the current half here, and travels on round the ring. -/
def State.agreeExp (s : State) (h b : Nat) (e : Int) : State :=
  (s.putExp h b false e).modRelay h (fun x => { x with known := x.known.set b true })

/-- R433: the exponent agreed for a block of k contributions whose largest biased magnitude is mx. -/
def sharedExp (mx k headroom : Nat) : Int :=
  if mx = 0 then 0 else max (-128) (min 127 ((mx : Int) - 128 + ceilLog2 k + headroom))

/-- R433: a magnitude reaches the owner of block b; the last slot's report settles the exponent. -/
def State.takeMagnitude (s : State) (h slot b m : Nat) : State :=
  let x := s.relay h
  let key := b * 1024 + slot
  if (SMap.find x.ms key).isSome then s
  else
    let s := s.modRelay h (fun x => { x with ms := x.ms.set key m })
    let x := s.relay h
    let k := s.relK h
    if (List.range k).all (fun i => (SMap.find x.ms (b * 1024 + i)).isSome) then
      let mx := (List.range k).foldl (fun a i => max a (x.ms.getD (b * 1024 + i) 0)) 0
      let e := sharedExp mx k (s.fld (Fd.REL_RED_CTL_HEADROOM h))
      let s := s.agreeExp h b e
      if s.relRing h && decide (1 < s.relP h) then
        s.relaySend h (s.fld (Fd.REL_RED_RING_NEXT h)) 3 0 false b 1 [] [BitVec.ofInt 8 e] 0
      else s
    else s

/-- R433: report a block's magnitude: here when this module owns the block; a ring position passes it toward NEXT, another
worker to the slot's host (the model's way to the owner, whose module ID a ring position does not hold). -/
def State.reportMagnitude (s : State) (h slot : Nat) (twin : Bool) (b m send : Nat) : State :=
  if (s.owned h).contains b then s.takeMagnitude h slot b m
  else
    let dst := if !(s.relRing h) then s.fld (Fd.REL_RED_OWN_OWNER h)
      else if s.relMember h then s.fld (Fd.REL_RED_RING_NEXT h)
      else slotHost ((s.relay h).map.getD slot 0)
    s.relaySend h dst 4 slot twin b 1 [] [BitVec.ofNat 8 (m + 128)] send

end Sys2Proof.Machine
end

