-- ==== Sys2Proof/Machine/Relay.lean ====
section
/-! DEFINITION. The relay instructions, the relay's own steps, its registers, and the batches it receives (R433 to R464). -/

namespace Sys2Proof.Machine

/-! Areas -/

/-- The tier of a local address: far, near, one vat, one scratchpad; 0 for any other. -/
def tierOf (a : Nat) : Nat :=
  match regionOf a with
  | .far => 1
  | .near => 2
  | .vat t => 10 + t
  | .scratch t c => 100 + t * 16 + c
  | _ => 0

/-- A range lies wholly in backed memory of one tier, its base a multiple of al. The protected range is not open to the
relay (R350). -/
def State.areaOk (s : State) (a n al : Nat) : Bool :=
  decide (a % al = 0) && decide (tierOf a ≠ 0) && decide (tierOf a = tierOf (a + max n 1 - 1))
    && decide (s.addrFault .engine a (max n 1) = 0)

/-- Near or far memory. -/
def dramTier (a : Nat) : Bool := tierOf a = 1 || tierOf a = 2

/-- A scratchpad of another tile than the issuing thread's. -/
def foreignScratch (t a : Nat) : Bool :=
  match regionOf a with
  | .scratch u _ => u ≠ tileOf t
  | _ => false

/-! REL.ARM (R436, R454) -/

/-- The slot map words at an entry's SLOT_MAP. -/
def State.readMap (s : State) (h : Nat) : List Nat :=
  (List.range (s.relK h)).map (fun k => s.readNat (s.fld (Fd.REL_RED_SLOTS_SLOT_MAP h) + 8 * k) 8)

/-- R425: another entry holds the same pair. -/
def State.relTwice (s : State) (h : Nat) : Bool :=
  (List.range 1024).any (fun k => k ≠ h && s.fld (Fd.REL_RED_CTL_STATE k) ≠ 0
    && s.fld (Fd.REL_RED_CTL_JOB k) = s.fld (Fd.REL_RED_CTL_JOB h) && s.fld (Fd.REL_RED_ID_RED k) = s.fld (Fd.REL_RED_ID_RED h))

/-- R454: every condition holds. Ring position data come from the ring that the arm would copy. -/
def State.armOk (s : State) (h : Nat) : Bool :=
  let b := s.relB h
  let map := s.readMap h
  let hosts := s.hosted map
  let ring := s.relRing h
  let r := s.ring (s.fld (Fd.REL_RED_CTL_RING h))
  let vc := s.fld (Fd.REL_RED_CTL_VC h)
  let o := s.fld (Fd.REL_RED_OWN_OWNER h)
  let owns := if ring then r.any (fun r => (List.range b).any (fun x => x * r.p / b = r.pos)) else decide (o = s.moduleId)
  let k := s.fld (Fd.REL_RED_CTL_NORM_SET h)
  let tw := (hosts.filter (fun i => slotTwinEn (map.getD i 0))).length
  let acc := s.fld (Fd.REL_RED_ACC_ACC_ADDR h)
  let ex := s.fld (Fd.REL_RED_EXP_EXP_ADDR h)
  let cm := s.fld (Fd.REL_RED_CMPA_CMP_ADDR h)
  let sm := s.fld (Fd.REL_RED_SLOTS_SLOT_MAP h)
  decide (4 ≤ vc) && decide (vc ≤ 11) && decide (s.relE h ≤ 2 ^ 28)
    && (if ring then s.relResult h ≤ 1 else s.relResult h = 0 || s.relResult h = 2)
    && (if ring then r.isSome else o = s.moduleId || !(s.badDst o))
    && s.areaOk sm (8 * s.relK h) 8 && dramTier sm
    && s.areaOk ex (2 * b) 64 && decide (tierOf ex < 100)
    && (if hosts ≠ [] ∨ owns then
          s.areaOk acc ((b * 2048 + hosts.length * ((b + 7) / 8) + 63) / 64 * 64) 2048
        else decide (acc % 2048 = 0))
    && dramTier acc
    && (if s.isSet (Fd.REL_RED_CTL_CMP h) then s.areaOk cm (tw * b * 1024) 1024 else decide (cm % 1024 = 0))
    && decide (tierOf cm ≠ 0) && decide (tierOf cm < 100)
    && !(s.relTwice h)
    && (!(s.isSet (Fd.REL_RED_CTL_NORM_EN h))
        || (s.isSet (Fd.REL_NORM_CTL_EN k) && s.fld (Fd.REL_NORM_CTL_JOB k) = s.fld (Fd.REL_RED_CTL_JOB h)))
    && (!(s.isSet (Fd.REL_RED_CTL_EXP_STALE h)) || s.isSet (Fd.REL_RED_CTL_EXP_SRC h))

/-- R436: the arm's one action. Offers left from the generation before are copies too late to count: they end (log entry 36). A slot map
in a poisoned line is not read: the thread stops (R285). -/
def State.armEntry (s : State) (h : Nat) (launch : Option CmdRef) : State :=
  let s := s.touch (s.fld (Fd.REL_RED_SLOTS_SLOT_MAP h)) (8 * s.relK h)
  let map := s.readMap h
  let s := (s.endOffers h 0).incFld (Fd.REL_RED_CTL_GEN h)
  let s := if s.relRing h then
      match s.ring (s.fld (Fd.REL_RED_CTL_RING h)) with
      | some r => (((s.setFld (Fd.REL_RED_OWN_P h) r.p).setFld (Fd.REL_RED_OWN_POS h) r.pos).setFld
          (Fd.REL_RED_RING_NEXT h) r.next).setFld (Fd.REL_RED_RING_PREV h) r.prev
      | none => s
    else s
  let s := s.setRelay h { launch := launch, map := map }
  let b := s.relB h
  let n := (b * 2048 + (s.hosted map).length * ((b + 7) / 8) + 63) / 64 * 64
  let s := if s.hasAcc h then s.zeroRange (selfDev (s.fld (Fd.REL_RED_ACC_ACC_ADDR h))) n else s
  let s := [Fd.REL_RED_CTL_FAULT h, Fd.REL_RED_STAT_ESCALATED h, Fd.REL_RED_STAT_TWINNED h, Fd.REL_RED_STAT_NANB h,
    Fd.REL_RED_STAT_SUSPECT h, Fd.REL_RED_CHK_UNCHECKED h, Fd.REL_RED_CHK_MISMATCH h].foldl (fun s f => s.setFld f 0) s
  let s := if s.isSet (Fd.REL_RED_CTL_EXP_SRC h) then s.setFld (Fd.REL_RED_CTL_EXP_STALE h) 0 else s
  (s.setFld (Fd.REL_RED_CTL_STATE h) 2).relayAdvance h

/-- REL.ARM (R436). A handle above 1,023 is a FREE entry. -/
def execRelArm (t : Tid) (w : IWord) (s : State) : Host.Outcome State Fault Refusal :=
  .next (s.issue t w { ok := ({ a := .g } : Form).ok w, gate := true, reads := [gR w.a.toNat] } (fun s _ =>
    let x := s.thread t.code
    let h := (x.regs.getG w.a.toNat).toNat
    let st := s.relState h
    if st = 0 ∨ st = 2 then .fault 0x0901 s
    else if s.poisoned (s.fld (Fd.REL_RED_SLOTS_SLOT_MAP h)) (8 * s.relK h) then .fault 0x0510 s
    else if !(s.armOk h) then .fault 0x0906 s
    else .retire (s.armEntry h x.owner)))

/-! REL.SEND and REL.POST -/

/-- R438: the fault 0x0902 of an offer. -/
def State.offerBad (s : State) (t h slot b0 nb a : Nat) : Bool :=
  let v := (s.relay h).map.getD slot 0
  decide (s.relK h ≤ slot) || decide (s.relB h < b0 + nb)
    || !(decide (slotPrimary v = s.moduleId) || (slotTwinEn v && decide (slotTwin v = s.moduleId)))
    || (nb ≠ 0 && (!(s.areaOk a (s.relBytes h ((List.range nb).map (b0 + ·))) 64) || foreignScratch t a))

/-- REL.SEND (R438). With no block the offer completes at once (R122). -/
def execRelSend (t : Tid) (w : IWord) (s : State) : Host.Outcome State Fault Refusal :=
  let form : Form := { a := .g, b := .g, c := .g, d := .g, x := .fields [0, 1] }
  .next (s.issue t w
    { ok := form.ok w, head := form.head w, gate := true,
      reads := [gR w.a.toNat, gR w.b.toNat, gR w.c.toNat, gR w.d.toNat, gR (w.f 0), gR (w.f 1)] } (fun s _ =>
    let th := t.code
    let x := s.thread th
    let g (k : Nat) : Nat := (x.regs.getG k).toNat
    let h := g w.a.toNat
    let slot := g w.b.toNat
    let b0 := g w.c.toNat
    let nb := g w.d.toNat
    let a := g (w.f 0) % 2 ^ 46
    let bar := g (w.f 1)
    if s.relState h ≠ 2 then .fault 0x0901 s
    else if s.offerBad th h slot b0 nb a then .fault 0x0902 s
    else if barFault bar ≠ 0 then .fault (barFault bar) s
    else
      let r := s.relay h
      let v := r.map.getD slot 0
      let b := barAddr th bar
      let o : Offer :=
        { id := r.nextId, t := th, pc := x.regs.pc, owner := x.owner, slot := slot, twin := slotPrimary v ≠ s.moduleId,
          b0 := b0, next := b0, pre := if s.isSet (Fd.REL_RED_CTL_EXP_SRC h) then b0 else b0 + nb, stop := b0 + nb,
          addr := a, bytes := s.relBytes h ((List.range nb).map (b0 + ·)), bar := b, ep := s.barEpoch b, host := slotHost v }
      .retire (if nb = 0 then s.endOffer 0 o
        else s.setRelay h { r with offers := r.offers ++ [o], nextId := r.nextId + 1, offered := r.offered + nb })))

/-- REL.POST (R439). -/
def execRelPost (t : Tid) (w : IWord) (s : State) : Host.Outcome State Fault Refusal :=
  .next (s.issue t w
    { ok := ({ a := .g, b := .g, c := .g } : Form).ok w, gate := true,
      reads := [gR w.a.toNat, gR w.b.toNat, gR w.c.toNat] } (fun s _ =>
    let th := t.code
    let x := s.thread th
    let h := (x.regs.getG w.a.toNat).toNat
    let a := (x.regs.getG w.b.toNat).toNat % 2 ^ 46
    let bar := (x.regs.getG w.c.toNat).toNat
    let n := s.relBytes h (s.due h)
    let bf := firstFault (s.byteFault .thread a) (s.byteFault .thread (a + n - 1))
    if s.relState h ≠ 2 ∨ (s.relay h).post.isSome ∨ a % 64 ≠ 0
        ∨ (n ≠ 0 ∧ (tierOf a = 0 ∨ tierOf a ≠ tierOf (a + n - 1) ∨ foreignScratch th a ∨ (bf ≠ 0 ∧ bf ≠ 0x0709))) then
      .fault 0x0905 s
    else if n ≠ 0 ∧ s.addrFault .thread a n ≠ 0 then .fault (s.addrFault .thread a n) s
    else if barFault bar ≠ 0 then .fault (barFault bar) s
    else
      let b := barAddr th bar
      let s := s.modRelay h (fun r => { r with
        post := some { t := th, pc := x.regs.pc, owner := x.owner, addr := a, bar := b, ep := s.barEpoch b } })
      let s := (s.owned h).foldl (fun s b =>
        match SMap.find (s.relay h).finals b with
        | some codes => if (s.owned h).findIdx (· = b) < (s.relay h).outs then s.landResult h b codes else s
        | none => s) s
      .retire (s.relayAdvance h)))

/-! The relay's own steps -/

/-- The local address of block b of an offer. -/
def Offer.at0 (o : Offer) (b : Nat) : Nat := o.addr + 1024 * (b - o.b0)

/-- R438, R282: no source line of an offered block glides or lies in a bank held. -/
def State.offerSettled (s : State) (h : Nat) (o : Offer) (b : Nat) : Bool :=
  !(s.banksHeld (o.at0 b) (4 * s.relLen h b)) && (linesOf (o.at0 b) (4 * s.relLen h b)).all (fun l => (SMap.find s.ltags l).isNone)

/-- The FP32 codes of an offered block. -/
def State.offerCodes (s : State) (h : Nat) (o : Offer) (b : Nat) : List Nat :=
  (List.range (s.relLen h b)).map (fun i => s.readNat (o.at0 b + 4 * i) 4)

/-- Change an offer. -/
def State.alterOffer (s : State) (h id : Nat) (f : Offer → Offer) : State :=
  s.modRelay h (fun x => { x with offers := x.offers.map (fun o => if o.id = id then f o else o) })

/-- R452: a poisoned block is not offered: a slot without a twin fails the reduction; with one, 0x0511 is recorded. -/
def State.poisonedOffer (s : State) (h : Nat) (o : Offer) (b : Nat) : State :=
  let s := s.alterOffer h o.id (fun o => { o with next := b + 1 })
  if slotTwinEn ((s.relay h).map.getD o.slot 0) then s.log 0x0511
  else s.relayFail h 0x0511

/-- R433, R452: report an offered block's magnitude. A poisoned block reports nothing; without a twin it fails the reduction. -/
def State.reportOffer (s : State) (h : Nat) (o : Offer) (b : Nat) : State :=
  let s' := (s.touch (o.at0 b) (4 * s.relLen h b)).alterOffer h o.id (fun o => { o with pre := b + 1 })
  if s.poisoned (o.at0 b) (4 * s.relLen h b) then (if slotTwinEn ((s.relay h).map.getD o.slot 0) then s' else s'.relayFail h 0x0511)
  else s'.reportMagnitude h o.slot o.twin b (magnitude (s.offerCodes h o b)) o.id

/-- R451: copies of blocks of a slot that come too late to be compared are counted, once for each pair of copies. -/
def State.lateCopies (s : State) (h slot b0 n : Nat) : State :=
  if s.isSet (Fd.REL_RED_CTL_CMP h) then
    let k := ((List.range n).filter (fun i => (s.relay h).kept.getD (slot * 2 ^ 20 + b0 + i) false)).length
    if k = 0 then s else s.incFld (Fd.REL_RED_CHK_UNCHECKED h) k
  else s

/-- R438, R450, R451: a block read here reaches its host, this module: accepted, compared, or too late. -/
def State.localCopy (s : State) (h : Nat) (o : Offer) (b : Nat) : State :=
  if s.relState h = 3 ∧ !(s.relay h).window then s.lateCopies h o.slot b 1
  else s.contribute h o.slot o.twin b (s.offerCodes h o b)

/-- RELAY_LOCAL_ACCEPT (R438, R449): the next block of an offer hosted here is read and accepted. -/
def execRelayLocalAccept (h : Fin 1024) (slot : Fin 1024) (block : Nat) (s : State) : Host.Outcome State Fault Refusal :=
  let k := h.val
  match (s.relay k).offers.find? (fun o => o.slot = slot.val && o.next = block && decide (o.next < o.stop)
      && o.host = s.moduleId) with
  | none => .next s
  | some o =>
    if (s.relState k ≠ 2 ∧ s.relState k ≠ 3) ∨ !(s.computeUp) ∨ !(s.offerSettled k o block) then .next s
    else if o.pre ≤ block then .next ((s.reportOffer k o block).relayAdvance k)
    else if s.poisoned (o.at0 block) (4 * s.relLen k block) then .next ((s.poisonedOffer k o block).relayAdvance k)
    else if !(s.expKnown k block) then .next s
    else
      let s' := (s.touch (o.at0 block) (4 * s.relLen k block)).localCopy k o block
      .next ((s'.alterOffer k o.id (fun o => { o with next := block + 1 })).relayAdvance k)

/-- R444: the words of a block on the wire: 32-bit until it escalates. -/
def wireWords (esc : Bool) (ws : List Nat) : List Byte :=
  ws.flatMap (fun w => if esc then leBytes 8 w else leBytes 4 (if w = bfxNan then 2 ^ 31 else toTwos 32 (signed 64 w)))

/-- R443, R444: send the partial of a block of another position's chunk, when it is that chunk's next and ready here. -/
def State.sendPartial (s : State) (h b : Nat) : State :=
  let x := s.relay h
  let p := s.relP h
  let c := s.relChunk h b
  let first := decide (s.relPos h = (c + 1) % p)
  if s.relRing h && decide (1 < p) && s.relMember h && decide (b < s.relB h) && decide (c ≠ s.relPos h)
      && decide (x.sentTo.getD c (s.chunkStart h c) = b) && s.expKnown h b && s.blockReady h b
      && (first || (SMap.find x.part b).isSome) then s.withAcc h b (fun s =>
    let acc := s.accWords h b
    let r := match SMap.find x.part b with
      | some (ws, _) => addWords ws acc
      | none => (acc, false)
    let esc := (match SMap.find x.part b with
      | some (_, e) => e
      | none => false) || wide r.1
    let e := s.byteAt (s.expAddr h (s.relGen h % 2) b)
    let s := (s.overrange h r.2).modRelay h (fun x => { x with sentTo := x.sentTo.set c (b + 1), part := SMap.erase x.part b })
    s.relaySend h (s.fld (Fd.REL_RED_RING_NEXT h)) 1 0 false b 1 [BitVec.ofNat 8 (b2n esc), e] (wireWords esc r.1) 0)
  else s

/-- RELAY_BLOCK_SEND (R433, R438, R443, R450): the next block of an offer to a remote host leaves, its magnitude first where the
exponents are agreed by a pre-pass; or the next partial of a chunk. A DONE entry still sends what a late primary offered. -/
def execRelayBlockSend (h : Fin 1024) (block : Nat) (s : State) : Host.Outcome State Fault Refusal :=
  let k := h.val
  if (s.relState k ≠ 2 ∧ s.relState k ≠ 3) ∨ !(s.computeUp) then .next s
  else
    match (s.relay k).offers.find? (fun o => o.pre = block && decide (o.pre < o.stop) && s.offerSettled k o block) with
    | some o => .next ((s.reportOffer k o block).relayAdvance k)
    | none =>
      match (s.relay k).offers.find? (fun o => o.next = block && decide (o.next < o.stop) && o.pre = o.stop
          && o.host ≠ s.moduleId && s.offerSettled k o block) with
      | some o =>
        if s.poisoned (o.at0 block) (4 * s.relLen k block) then .next ((s.poisonedOffer k o block).relayAdvance k)
        else
          let codes := s.offerCodes k o block
          let s' := (s.touch (o.at0 block) (4 * s.relLen k block)).alterOffer k o.id (fun o => { o with next := block + 1 })
          .next ((s'.relaySend k o.host 0 o.slot o.twin block 1 [] (codes.flatMap (leBytes 4)) o.id).relayAdvance k)
      | none => .next (if s.relState k = 2 then (s.sendPartial k block).relayAdvance k else s)

/-- RELAY_TIMEOUT (R459). -/
def execRelayTimeout (h : Fin 1024) (s : State) : Host.Outcome State Fault Refusal := .next (s.relayFail h.val 0x0903)

/-- TWIN_GRACE_EXPIRY (R451): the compare window closes; kept copies that nothing was compared with are counted. -/
def execTwinGraceExpiry (h : Fin 1024) (s : State) : Host.Outcome State Fault Refusal :=
  let k := h.val
  let x := s.relay k
  if s.relState k = 3 ∧ x.window then
    let n := (x.kept.filter (fun e => !e.2)).length
    .next ((s.incFld (Fd.REL_RED_CHK_UNCHECKED k) n).setRelay k { x with window := false })
  else .next s

/-! Registers -/

/-- R463: the registers of an entry, by offset / 8. -/
def relReg (h i : Nat) : Reg :=
  [Reg.REL_RED_CTL h, Reg.REL_RED_ID h, Reg.REL_RED_OWN h, Reg.REL_RED_RING h, Reg.REL_RED_SLOTS h, Reg.REL_RED_EXP h,
   Reg.REL_RED_ACC h, Reg.REL_RED_CMPA h, Reg.REL_RED_STAT h, Reg.REL_RED_CHK h].getD i (Reg.REL_RED_CHK h)

/-- R463: a write to an entry's register: discarded with 0x0906 while ARMED; a set-up register makes the entry SET, and what a late
primary still offered the DONE entry ends (log entry 36). -/
def State.writeRel (s : State) (h i mask v : Nat) : State :=
  if s.relState h = 2 then s.logRec 0x0906 5 h
  else
    let s := (if i < 8 then s.endOffers h 0 else s).writeFields (relReg h i) mask v
    if i < 8 then s.setFld (Fd.REL_RED_CTL_STATE h) 1 else s

/-- RELAY_ENTRY_WRITE (R463). -/
def execRelayEntryWrite (h : Fin 1024) (reg : Fin 10) (value : BitVec 64) (s : State) : Host.Outcome State Fault Refusal :=
  .next (s.hostWriteIn 12 (fun s => s.writeRel h.val reg.val fullMask value.toNat))

/-- R464: the registers of a norm set, by offset / 8. -/
def normReg (k i : Nat) : Reg :=
  [Reg.REL_NORM_CTL k, Reg.REL_NORM_ADDR k, Reg.REL_NORM_BAR k, Reg.REL_NORM_SLOTS k].getD i (Reg.REL_NORM_SLOTS k)

/-- R464: a write to a norm set's register: discarded with 0x0906 while the set counts. -/
def State.writeNorm (s : State) (k i mask v : Nat) : State :=
  if (s.norm k).count ≠ 0 then s.logRec 0x0906 5 k else s.writeFields (normReg k i) mask v

/-- NORM_SET_WRITE (R464). -/
def execNormSetWrite (set : Fin 16) (reg : Fin 4) (value : BitVec 64) (s : State) : Host.Outcome State Fault Refusal :=
  .next (s.hostWriteIn 12 (fun s => s.writeNorm set.val reg.val fullMask value.toNat))

/-- NOISE_TAIL_WRITE (R464). -/
def execNoiseTailWrite (tail : BitVec 20) (s : State) : Host.Outcome State Fault Refusal :=
  .next (s.hostWriteIn 12 (fun s => s.setFld Fd.REL_NOISE_PTR_TAIL tail.toNat))

/-- R464: the noise ring has room. -/
def State.noiseRoom (s : State) : Bool :=
  decide ((s.fld Fd.REL_NOISE_PTR_HEAD + 2 ^ 20 - s.fld Fd.REL_NOISE_PTR_TAIL) % 2 ^ 20
    < 2 ^ (s.fld Fd.REL_NOISE_ENTRIES_LOG + 4))

/-- NOISE_RECORD_WRITE (R458): a completion that waits for the ring appends its noise record and goes on. -/
def execNoiseRecordWrite (set : Fin 16) (s : State) : Host.Outcome State Fault Refusal :=
  let k := set.val
  let x := s.norm k
  if x.closing ∧ s.noiseRoom then
    let v := s.fld (Fd.REL_NORM_CTL_JOB k) + k * 2 ^ 16 + x.seq.toNat * 2 ^ 32 + x.ssqf * 2 ^ 64 + x.slotsf * 2 ^ 96
      + x.slots.length % 2 ^ 16 * 2 ^ 128 + x.fault * 2 ^ 160
    let a := s.fld Fd.REL_NOISE_BASE * 64 + s.fld Fd.REL_NOISE_PTR_HEAD % 2 ^ (s.fld Fd.REL_NOISE_ENTRIES_LOG + 4) * 64
    let s := (s.ringPut a (leBytes 64 v)).incFld Fd.REL_NOISE_PTR_HEAD
    let s := if s.isSet Fd.REL_NOISE_VEC_EN then s.raiseVec (s.fld Fd.HST_IRQ_CTL_EVT_PORT) (s.fld Fd.REL_NOISE_VEC) else s
    .next (s.finishNorm k)
  else .next s

/-! Batches received (R446 to R448) -/

/-- What becomes of a batch: refused with reason 3; accepted and dropped, with what that changes; taken for an entry. -/
inductive RelTake where
  | refuse
  | drop (s : State)
  | take (h : Nat)
  deriving DecidableEq, Repr

/-- R424: the entry that holds a pair. -/
def State.relFind (s : State) (job red : Nat) : Option Nat :=
  (List.range 1024).find? (fun k => s.fld (Fd.REL_RED_CTL_STATE k) ≠ 0 && s.fld (Fd.REL_RED_CTL_JOB k) = job
    && s.fld (Fd.REL_RED_ID_RED k) = red)

/-- R448, R451: a batch is dropped as stale; the copies it held are counted. -/
def State.dropStale (s : State) (h : Nat) (d : RelHdr) : State :=
  (if d.kind = 0 then s.lateCopies h d.slot d.b0 d.n else s).incFld Fd.REL_STAT_STALE

/-- R447: the data bytes that a batch of the kinds 0 to 4 has by its geometry. -/
def State.batchLen (s : State) (h : Nat) (d : RelHdr) : Nat :=
  ((List.range d.n).map (fun i => if d.kind = 3 ∨ d.kind = 4 then 1
    else if d.kind = 1 ∧ d.esc.getD i false then 8 * s.relLen h (d.b0 + i) else 4 * s.relLen h (d.b0 + i))).sum

/-- R448: the first row of its table that matches a batch header from a source. NORM and NORMRES batches concern the norm set, and come as
their entries are DONE (R440, R457): such an entry takes them too. An entry DONE or FAILED at an earlier GEN has yet to be armed for the
header's (log entry 37). A ring position takes results from PREV alone (R445, R446). -/
def State.relClassify (s : State) (src : Nat) (d : RelHdr) : RelTake :=
  match s.relFind d.job d.red with
  | none => .refuse
  | some h =>
    let st := s.relState h
    let g := (d.gen + 256 - s.relGen h) % 256
    if st = 1 ∨ (g ≠ 0 ∧ g < 128) then .refuse
    else if g ≠ 0 then .drop (s.dropStale h d)
    else if d.kind = 6 ∨ d.kind = 5 ∧ st ≠ 4 then .take h
    else if st = 3 ∧ d.kind = 0 ∧ (s.relay h).window ∧ s.isSet (Fd.REL_RED_CTL_CMP h) then .take h
    else if st = 3 ∨ st = 4 then .drop (s.dropStale h d)
    else if s.relB h < d.b0 + d.n ∨ 2048 < d.n ∨ ((d.kind = 0 ∨ d.kind = 4) ∧ s.relK h ≤ d.slot) ∨ 6 < d.kind
        ∨ (!(s.relRing h) ∧ (d.kind = 1 ∨ d.kind = 3)) ∨ d.bytes ≠ s.batchLen h d then .drop (s.relayFail h 0x0907)
    else if d.kind = 0 ∧ slotHost ((s.relay h).map.getD d.slot 0) ≠ s.moduleId then .drop (s.relayFail h 0x0907)
    else if d.kind = 2 ∧ s.relRing h ∧ s.relMember h ∧ src ≠ s.fld (Fd.REL_RED_RING_PREV h) then .drop s
    else if (d.kind = 0 ∨ d.kind = 1) ∧ !((List.range d.n).all (fun i => s.expKnown h (d.b0 + i))) then .refuse
    else if d.kind = 2 ∧ s.due h ≠ [] ∧ (s.relay h).post.isNone then .refuse
    else .take h

/-- The 32-bit words of some bytes. -/
def words32 (bs : List Byte) : List Nat := (List.range (bs.length / 4)).map (fun i => leNat ((bs.drop (4 * i)).take 4))

/-- R445: a batch of a ring goes on to NEXT until the next hop is the block's owner. -/
def State.ringOn (s : State) (h b : Nat) : Bool :=
  s.relRing h && s.relMember h && decide (1 < s.relP h) && decide ((s.relPos h + 1) % s.relP h ≠ s.relChunk h b)

/-- R434, R444: a partial arrives. One on another grid fails the reduction. -/
def State.takePartial (s : State) (h b exp : Nat) (esc : Bool) (bs : List Byte) : State :=
  if s.relState h ≠ 2 then s
  else if (signed 8 exp : Int) ≠ s.relExp h b then s.relayFail h 0x0908
  else
    let ws := if esc then (List.range (bs.length / 8)).map (fun i => leNat ((bs.drop (8 * i)).take 8))
      else (words32 bs).map (fun w => if w = 2 ^ 31 then bfxNan else toTwos 64 (signed 32 w))
    s.modRelay h (fun x => { x with part := x.part.set b (ws, esc) })

/-- The bytes of each block of a batch's data, in order. -/
def State.blockBytes (s : State) (h : Nat) (d : RelHdr) : List Byte → List Nat → List (Nat × List Byte)
  | _, [] => []
  | bs, i :: is =>
    let b := d.b0 + i
    let n := if d.kind = 3 ∨ d.kind = 4 then 1
      else if d.kind = 1 ∧ d.esc.getD i false then 8 * s.relLen h b else 4 * s.relLen h b
    (i, bs.take n) :: State.blockBytes s h d (bs.drop n) is

/-- One block of a batch that was taken (R441 to R446, R450). -/
def State.takeBlock (s : State) (h : Nat) (d : RelHdr) (i : Nat) (bs : List Byte) : State :=
  let b := d.b0 + i
  let next := s.fld (Fd.REL_RED_RING_NEXT h)
  match d.kind with
  | 0 => if s.relState h = 3 then
      (if (s.relay h).window then s.compareTwin h d.slot b (words32 bs) else s.lateCopies h d.slot b 1)
    else if s.relState h = 2 then s.contribute h d.slot d.twin b (words32 bs) else s
  | 1 => s.takePartial h b (d.exps.getD i 0) (d.esc.getD i false) bs
  | 2 =>
    let s := s.landResult h b (words32 bs)
    if s.ringOn h b then s.relaySend h next 2 0 false b 1 [] bs 0 else s
  | 3 =>
    let e := signed 8 (bs.getD 0 0).toNat
    let s := if s.expKnown h b then (s.putExp h b true e).modRelay h (fun x => { x with nexts := x.nexts.set b true })
      else s.agreeExp h b e
    if s.ringOn h b then s.relaySend h next 3 0 false b 1 [] bs 0 else s
  | _ => s.reportMagnitude h d.slot d.twin b (((bs.getD 0 0).toNat + 128) % 256) 0

/-- R456: the slot entries of a NORM batch. -/
def normSlots (bs : List Byte) (n : Nat) : List (Nat × Nat) :=
  if bs.length ≤ 80 then []
  else (List.range n).map (fun i =>
    let e := (bs.drop (80 + 96 * i)).take 96
    (leNat (e.take 16) % 1024, leNat (e.drop 16)))

/-- A whole batch is processed for the entry that takes it. That of a reduction that has failed since its header came counts no more
(R459). -/
def State.takeBatch (s : State) (h vc src : Nat) (d : RelHdr) (bs : List Byte) : State :=
  let k := s.fld (Fd.REL_RED_CTL_NORM_SET h)
  if d.kind = 6 then s.landNorm k bs
  else if s.relState h = 4 then s
  else if d.kind = 5 then
    let s := s.modRelay h (fun x => { x with batches := x.batches + 1, inSet := (s.norm k).seq })
    s.countNorm k { ssq := leNat (bs.take 80), nan := bitAt d.b0 0, sat := bitAt d.b0 1,
                    noise := s.isSet (Fd.REL_RED_CTL_NOISE_EN h), slots := normSlots bs d.n, sender := some (src, d.red, d.gen, vc) }
  else ((s.blockBytes h d bs (List.range d.n)).foldl (fun s q => s.takeBlock h d q.1 q.2) s).relayAdvance h

/-- R448: the entry that still takes a batch whose header was accepted: it holds the pair at that GEN, and has not been set up anew. -/
def State.relOpen (s : State) (d : RelHdr) : Option Nat :=
  match s.relFind d.job d.red with
  | none => none
  | some h => if s.relGen h = d.gen ∧ s.relState h ≠ 1 then some h else none

/-- R447, R448: a packet of a relay flow that R322 would accept: header or data. None: refused with reason 3. -/
def State.relayPacket (s : State) (rf : RecvFlow) (vc src : Nat) (body : List Byte) : Option (RecvFlow × State) :=
  if rf.hdr = [] then
    let d := RelHdr.dec body
    match s.relClassify src d with
    | .refuse => none
    | .drop s => some (if d.bytes = 0 then rf else { rf with hdr := body, data := [], drop := true }, s)
    | .take h => some (if d.bytes = 0 then (rf, s.takeBatch h vc src d [])
        else ({ rf with hdr := body, data := [], drop := false }, s))
  else
    let d := RelHdr.dec rf.hdr
    let data := rf.data ++ body
    if data.length < d.bytes then some ({ rf with data := data }, s)
    else
      let rf := { rf with hdr := [], data := [] }
      if rf.drop then some ({ rf with drop := false }, s)
      else match s.relOpen d with
        | some h => some (rf, s.takeBatch h vc src d data)
        | none => some (rf, s)

end Sys2Proof.Machine
end

