-- ==== Sys2Proof/Machine/Streams.lean ====
section
/-! DEFINITION. The stream front end (R507 to R511, R517 to R523, R531): enabling and stopping a stream, fetching and
accepting entries, the acceptance journal, commit points and re-execution; and the set-up commands. -/

namespace Sys2Proof.Machine

/-- R507: C_E, the entries of a stream's command ring. -/
def State.cmdEntries (s : State) (i : Nat) : Nat := 2 ^ (s.fld (Fd.HST_S_CTL_CMD_LOG i) + 4)
/-- R518: C_C, the entries of a stream's completion ring. -/
def State.cplEntries (s : State) (i : Nat) : Nat := 2 ^ (s.fld (Fd.HST_S_CTL_CPL_LOG i) + 4)

/-- R500: a CXL port is up. -/
def State.portUp (s : State) (q : Nat) : Bool := s.fld (Fd.HST_PORT_STAT_MODE q) ≠ 0

/-- R500: the port a stream is bound to is up. -/
def State.streamUp (s : State) (i : Nat) : Bool := s.portUp (s.fld (Fd.HST_S_CTL_PORT i))

/-- R531, R532: a stream-level fault. -/
def State.streamFault (s : State) (i code : Nat) : State :=
  (s.setFld (Fd.HST_S_STAT_LAST_FAULT i) code).logRec code 2 i

/-- R507: a range of at most 2^26 bytes lies in one open window that is not RO. Windows are whole units of 1 GiB, so the ends
decide. -/
def State.inWindow (s : State) (a n : Nat) : Bool :=
  decide (regionOf a = .host) && (match s.winAt a, s.winAt (a + n - 1) with
    | some i, some j => i = j && !s.isSet (Fd.DVSEC_WIN_RO i)
    | _, _ => false)

/-! The journal (R519, R520) -/

/-- R520: the entries of the journal. -/
def State.jEntries (s : State) : Nat := 2 ^ (s.fld Fd.HST_JRNL_BASE_ENTRIES_LOG + 8)

/-- R520: the journal has room for an entry. -/
def State.jRoom (s : State) : Bool :=
  decide ((s.fld Fd.HST_JRNL_PTR_JHEAD + 2 ^ 32 - s.fld Fd.HST_JRNL_PTR_JTAIL) % 2 ^ 32 < s.jEntries)

/-- R519: write a journal entry; JSEQ is the count of entries before it. -/
def State.jWrite (s : State) (i kind seq opc crc : Nat) : State :=
  let h := s.fld Fd.HST_JRNL_PTR_JHEAD
  let r := seq % 2 ^ 32 + i * 2 ^ 32 + kind * 2 ^ 44 + opc * 2 ^ 48 + crc * 2 ^ 64 + h * 2 ^ 96
  (s.portPut (s.fld (Fd.HST_S_CTL_PORT i)) (s.fld Fd.HST_JRNL_BASE_JBASE * 32 + h % s.jEntries * 32)
    (leBytes 32 r)).incFld Fd.HST_JRNL_PTR_JHEAD

/-! Enabling and stopping -/

/-- R507: the checks at enable. Alignment is held by the fields. -/
def State.streamOk (s : State) (i : Nat) : Bool :=
  s.inWindow (s.fld (Fd.HST_S_CMD_CMD_BASE i) * 128) (128 * s.cmdEntries i)
    && s.inWindow (s.fld (Fd.HST_S_CPL_CPL_BASE i) * 32) (32 * s.cplEntries i)
    && s.inWindow (s.fld (Fd.HST_S_LINE_TAIL_LINE i) * 64) 64
    && decide (s.cmdEntries i ≤ s.cplEntries i)

/-- R507, R509, R531: what a write to HST_S_CTL does; mask names the bits written. A refused write of EN discards the whole
write. -/
def State.writeStreamCtl (s : State) (i mask v : Nat) : State :=
  let en := s.isSet (Fd.HST_S_CTL_EN i)
  let st := s.writeFields (Reg.HST_S_CTL i) mask v
  let en' := st.isSet (Fd.HST_S_CTL_EN i)
  if en ∧ !en' then
    if s.fld (Fd.HST_S_STAT_STATE i) = 4 ∧ s.fld (Fd.HST_S_CPLP_COMPLETED i) = s.fld (Fd.HST_S_SEQ_ACCEPTED i) then
      ({ st with streams := SMap.erase st.streams i
                 cmds := st.cmds.filter (fun e => e.1 / 2 ^ 32 ≠ i) } : State).showStream i
    else s.streamFault i 0x0A17
  else if !en ∧ en' then
    if st.streamOk i then
      let st : State := { st with
        streams := SMap.erase st.streams i
        cmds := st.cmds.filter (fun e => e.1 / 2 ^ 32 ≠ i) }
      let st := (st.setFld (Fd.HST_S_SEQ_ACCEPTED i) 0xFFFFFFFF).setFld (Fd.HST_S_SEQ_COMMITTED i) 0xFFFFFFFF
      (st.setFld (Fd.HST_S_CPLP_COMPLETED i) 0xFFFFFFFF).showStream i
    else s.streamFault i 0x0A17
  else
    let resume := bitAt mask 3 && bitAt v 3
    (if resume then st.setStream i (fun x => { x with halted := false }) else st).showStream i

/-- STREAM_ENABLE (R507). -/
def execStreamEnable (st : Fin 4096) (s : State) : Host.Outcome State Fault Refusal :=
  .next (s.hostWriteIn 6 (fun s => s.writeStreamCtl st.val 1 1))

/-- STREAM_DISABLE (R531). -/
def execStreamDisable (st : Fin 4096) (s : State) : Host.Outcome State Fault Refusal :=
  .next (s.hostWriteIn 6 (fun s => s.writeStreamCtl st.val 1 0))

/-- STREAM_STOP (R531). -/
def execStreamStop (st : Fin 4096) (s : State) : Host.Outcome State Fault Refusal :=
  .next (s.hostWriteIn 6 (fun s => s.writeStreamCtl st.val 4 4))

/-- STREAM_RESUME (R509, R531). -/
def execStreamResume (st : Fin 4096) (s : State) : Host.Outcome State Fault Refusal :=
  .next (s.hostWriteIn 6 (fun s => s.writeStreamCtl st.val 8 8))

/-- R508: the later of the known count and a new one, modulo 2^32. -/
def State.learnTail (s : State) (i : Nat) (v : BitVec 32) : State :=
  let d := (v - (s.stream i).tail).toNat
  if s.isSet (Fd.HST_S_CTL_EN i) ∧ 0 < d ∧ d < 2 ^ 31 then s.setStream i (fun x => { x with tail := v }) else s

/-- TAIL_LINE_INVALIDATE (R508): in modes 1 and 2 the front end reads the tail line again. -/
def execTailLineInvalidate (st : Fin 4096) (tail : BitVec 32) (s : State) : Host.Outcome State Fault Refusal :=
  let m := s.fld (Fd.HST_PORT_STAT_MODE (s.fld (Fd.HST_S_CTL_PORT st.val)))
  .next (if m = 1 ∨ m = 2 then s.learnTail st.val tail else s)

/-- DOORBELL (R508). -/
def execDoorbell (st : Fin 4096) (tail : BitVec 32) (s : State) : Host.Outcome State Fault Refusal :=
  .next (s.hostWriteIn 6 (fun s => s.learnTail st.val tail))

/-! Fetch and acceptance -/

/-- The bytes of an entry. -/
def entryBytes (e : BitVec 1024) : List Byte := leBytes 128 e.toNat

/-- R3, R511: commands that complete as they are accepted: an opcode that the table does not list, or a class that the
licence does not enable: the ingest class. -/
def State.screen (s : State) (k : CmdRef) (opc : Nat) : State :=
  if !opcListed opc then s.finishCmd k 0x0A11
  else if opc = 0x30 ∧ !s.isSet Fd.LIC_STAT_ING_EN then s.finishCmd k 0x0A15
  else s

/-- R523: an entry fetched again: one that differs from its journal CRC halts the stream; else its command may execute
again, or completes with the fault it was interrupted with. -/
def State.refetch (s : State) (i : Nat) (n : BitVec 32) (entry : BitVec 1024) : State :=
  let k := cmdOfCode (i * 2 ^ 32 + n.toNat)
  match s.cmd k with
  | none => s
  | some c =>
    if crc32 (entryBytes entry) ≠ c.crc then
      ((s.setStream i (fun x => { x with halted := true })).streamFault i 0x0A13).showStream i
    else
      let s := s.alterCmd k (fun c => { c with entry := entry, again := false })
      let s := if c.pre ≠ 0 then s.finishCmd k c.pre else s.screen k (bits entry.toNat 0 8)
      let next := if s.fld (Fd.HST_S_SEQ_ACCEPTED i) = n.toNat then none else some (n + 1)
      (s.setStream i (fun x => { x with replay := next })).showStream i

/-- R509: the host has written over an uncommitted slot: TAIL - (COMMITTED + 1) exceeds C_E. -/
def State.tailFar (s : State) (i : Nat) : Bool :=
  decide (s.cmdEntries i < ((s.stream i).tail - BitVec.ofNat 32 (s.fld (Fd.HST_S_SEQ_COMMITTED i) + 1)).toNat)

/-- R509: an entry may not be accepted: the stream halts, and RESUME retries it. -/
def State.haltStream (s : State) (i : Nat) : State :=
  ((s.setStream i (fun x => { x with halted := true, fetched := none })).streamFault i 0x0A12).showStream i

/-- R509: a new entry: a wrong SEQ, or a TAIL beyond the uncommitted capacity, halts the stream. -/
def State.fetchNew (s : State) (i : Nat) (entry : BitVec 1024) : State :=
  let x := s.stream i
  let n : BitVec 32 := BitVec.ofNat 32 (s.fld (Fd.HST_S_SEQ_ACCEPTED i) + 1)
  let ahead := (x.tail - n).toNat
  if x.fetched.isSome ∨ ahead = 0 ∨ 2 ^ 31 ≤ ahead then s
  else if bits entry.toNat 32 32 ≠ n.toNat ∨ s.tailFar i then s.haltStream i
  else s.setStream i (fun x => { x with fetched := some entry })

/-- R519, R520, R523: REPLAY entries of a stream are written, one for each interrupted interval, as far as the journal has room. -/
def State.replayEntries (s : State) (i : Nat) : List Nat → State
  | [] => s.setStream i (fun x => { x with jrnl := [] })
  | n :: r =>
    if s.jRoom ∧ s.streamUp i then (s.jWrite i 3 n 0 0).replayEntries i r else s.setStream i (fun x => { x with jrnl := n :: r })

/-- R523: the REPLAY entries of a stream that are still to be written. -/
def State.replayEntry (s : State) (i : Nat) : State :=
  if (s.stream i).jrnl = [] then s else s.replayEntries i (s.stream i).jrnl

/-- ENTRY_FETCH (R509, R523): the entry that the next slot of the ring holds reaches the front end. -/
def execEntryFetch (st : Fin 4096) (entry : BitVec 1024) (s : State) : Host.Outcome State Fault Refusal :=
  let i := st.val
  .next (if !s.isSet (Fd.HST_S_CTL_EN i) ∨ (s.stream i).halted ∨ !s.streamUp i then s
    else match (s.stream i).replay with
      | some n =>
        let s := s.replayEntry i
        if (s.stream i).jrnl ≠ [] then s else s.refetch i n entry
      | none => if s.fld (Fd.HST_S_STAT_STATE i) = 1 then s.fetchNew i entry else s)

/-- R521: commands of a stream accepted since its last commit point. -/
def State.openCount (s : State) (i : Nat) : Nat :=
  ((s.streamCmds i).reverse.takeWhile (fun e => !e.2.commit)).length

/-- R511, R519, R568: an entry is accepted: its journal record, its number, its place among the open commands; a fill begins its
wait, or completes with 0x0C0B outside its time; HOLD sets either way. -/
def State.acceptEntry (s : State) (i : Nat) (k : CmdRef) (opc : Nat) (c : Cmd) (isFill idle : Bool) : State :=
  let s := (s.jWrite i 1 k.seq.toNat opc c.crc).setFld (Fd.HST_S_SEQ_ACCEPTED i) k.seq.toNat
  let s : State := { s with cmds := s.cmds.set k.code c }
  let s := s.setStream i (fun x => { x with fetched := none })
  let s := if isFill then s.setFld Fd.JOB_CTL_HOLD 1 else s
  if isFill && idle then s.incFld Fd.JOB_FILL_PENDING
  else if isFill && !idle then s.finishCmd k 0x0C0B else s

/-- COMMAND_ACCEPT (R509, R511, R519 to R521, R568): the fetched entry's ACCEPTED journal entry is observed. A FILL counts as
pending from here, or completes at once outside IDLE. A TAIL that has run too far ahead halts the stream. During a compute-part reset the command waits for the replay. -/
def execCommandAccept (st : Fin 4096) (s : State) : Host.Outcome State Fault Refusal :=
  let i := st.val
  .next (match (s.stream i).fetched with
  | none => s
  | some e =>
    if s.fld (Fd.HST_S_STAT_STATE i) ≠ 1 ∨ !s.streamUp i then s
    else if s.tailFar i then s.haltStream i
    else if s.jRoom then
      let n : BitVec 32 := BitVec.ofNat 32 (s.fld (Fd.HST_S_SEQ_ACCEPTED i) + 1)
      let k : CmdRef := { stream := st, seq := n }
      let crc := crc32 (entryBytes e)
      let opc := bits e.toNat 0 8
      let commit := e.getLsbD 8 || opcForcing opc || decide (255 ≤ s.openCount i)
      let isFill := decide (opc = 0x28) && decide (bits e.toNat 224 8 = 1)
      let idle := decide (s.fld Fd.JOB_STEP_STATE = 0)
      let c : Cmd :=
        { entry := e, commit := commit, crc := crc, again := s.cpr ≠ 0, replayed := s.cpr ≠ 0, fill := isFill && idle
          pre := if isFill && !idle && s.cpr ≠ 0 then 0x0C0B else 0 }
      let s := s.acceptEntry i k opc c isFill idle
      if s.cpr ≠ 0 then s.showStream i else s.screen k opc
    else s)

/-- JTAIL_WRITE (R520): the host consumes journal entries. -/
def execJtailWrite (tail : BitVec 32) (s : State) : Host.Outcome State Fault Refusal :=
  .next (s.hostWriteIn 6 (fun s => s.setFld Fd.HST_JRNL_PTR_JTAIL tail.toNat))

/-- CPL_HEAD_WRITE (R518): the host consumes completion records. -/
def execCplHeadWrite (st : Fin 4096) (head : BitVec 32) (s : State) : Host.Outcome State Fault Refusal :=
  .next (s.hostWriteIn 6 (fun s => s.setFld (Fd.HST_S_CPLP_CPL_HEAD st.val) head.toNat))

/-! Commit points (R521) -/

/-- The first interval of a list of commands: up to the first commit point; none when there is no commit point. -/
def firstInterval (l : List (Nat × Cmd)) : Option (List (Nat × Cmd)) :=
  let a := l.takeWhile (fun e => !e.2.commit)
  match l.drop a.length with
  | [] => none
  | e :: _ => some (a ++ [e])

/-- R518: a completion record. -/
def completionRecord (seq cc : Nat) (c : Cmd) : Nat :=
  seq + c.fault % 2 ^ 16 * 2 ^ 32 + (1 - seq / cc % 2) * 2 ^ 48 + b2n c.poison * 2 ^ 49 + b2n c.suspect * 2 ^ 50
    + b2n c.replayed * 2 ^ 51 + c.user * 2 ^ 64 + c.result % 2 ^ 64 * 2 ^ 128

/-- R518, R521: write the records of an interval in order, as far as the host has consumed earlier ones. Answers whether all
are written. -/
def State.writeRecords (s : State) (i : Nat) : List (Nat × Cmd) → State × Bool
  | [] => (s, true)
  | (key, c) :: r =>
    if c.st = 3 then s.writeRecords i r
    else
      let n := key % 2 ^ 32
      let cc := s.cplEntries i
      if (n + 2 ^ 32 - s.fld (Fd.HST_S_CPLP_CPL_HEAD i)) % 2 ^ 32 < cc then
        let a := s.fld (Fd.HST_S_CPL_CPL_BASE i) * 32 + n % cc * 32
        let s := s.portPut (s.fld (Fd.HST_S_CTL_PORT i)) a (leBytes 32 (completionRecord n cc c))
        let s := s.setFld (Fd.HST_S_CPLP_COMPLETED i) n
        let s : State := { s with cmds := SMap.alter s.cmds key (fun c => { c with st := 3 }) }
        s.writeRecords i r
      else (s, false)

/-- COMMIT_POINT (R521, R500, R518, R520): the first interval whose commands have all completed: its records, its COMMITTED
entry, COMMITTED, its vector, each as far as the rings have room. -/
def execCommitPoint (st : Fin 4096) (s : State) : Host.Outcome State Fault Refusal :=
  let i := st.val
  .next (match firstInterval (s.streamCmds i) with
  | none => s
  | some l =>
    if s.streamUp i ∧ l.all (fun e => decide (2 ≤ e.2.st) && !e.2.again) then
      let r := s.writeRecords i l
      let s := r.1
      if r.2 ∧ s.jRoom then
        let last := (l.getLast?.map (·.1)).getD 0 % 2 ^ 32
        let s := (s.jWrite i 2 last 0 0).setFld (Fd.HST_S_SEQ_COMMITTED i) last
        let s : State := { s with cmds := s.cmds.filter (fun e => !(l.map (·.1)).contains e.1) }
        let s := if l.any (fun e => e.2.irq) ∧ s.isSet (Fd.HST_S_CTL_VEC_EN i)
          then s.raiseVec (s.fld (Fd.HST_S_CTL_PORT i)) (s.fld (Fd.HST_S_CTL_VEC i)) else s
        s.showStream i
      else s
    else s)

/-! A compute-part reset (R523) -/

/-- R523, R542, R569: what becomes of an interrupted command: a forcing one that had started is never executed again, nor is a
CHECKPOINT that had; the others wait to be fetched again. -/
def Cmd.interrupt (c : Cmd) : Cmd :=
  let pre := if c.pre ≠ 0 then c.pre
    else if c.st = 0 then 0
    else if c.opc = 0x30 then 0x0B08
    else if opcForcing c.opc then 0x0A18
    else if c.opc = 0x28 then 0x0C08 else 0
  { c with st := 0, fault := 0, poison := false, suspect := false, result := 0, again := true, pre := pre,
           replayed := pre = 0 }

/-- R521, R523: the commands of a stream that a reset interrupts: those of intervals not wholly completed. -/
def interrupted : Nat → List (Nat × Cmd) → List (Nat × Cmd)
  | 0, l => l
  | n + 1, l =>
    match firstInterval l with
    | none => l
    | some a => if a.all (fun e => decide (2 ≤ e.2.st) && !e.2.again) then interrupted n (l.drop a.length) else l

/-- R523: the held records of interrupted intervals are discarded. -/
def State.interruptStream (s : State) (i : Nat) : State :=
  let l := (interrupted 4096 (s.streamCmds i)).map (·.1)
  { s with cmds := s.cmds.map (fun e => if l.contains e.1 then (e.1, e.2.interrupt) else e) }

/-- The streams with uncommitted commands. -/
def State.busyStreams (s : State) : List Nat := (s.cmds.map (fun e => e.1 / 2 ^ 32)).eraseDups

/-- R523: entry into a compute-part reset. -/
def State.interruptStreams (s : State) : State :=
  s.busyStreams.foldl (fun s i => (s.interruptStream i).setStream i (fun x => { x with replay := none, jrnl := [] })) s

/-- R521: a list of commands in its intervals. -/
def intervals (l : List (Nat × Cmd)) : List (List (Nat × Cmd)) :=
  l.foldr (fun e r =>
    if e.2.commit then [e] :: r
    else match r with
      | [] => [[e]]
      | g :: r => (e :: g) :: r) []

/-- R519: the first command of an interval that is executed again. Where none is, the REPLAY entry names its first command (DESIGN
CHOICE, log entry 100). -/
def replaySeq (g : List (Nat × Cmd)) : Nat := (((g.find? (fun e => e.2.pre = 0)).orElse (fun _ => g.head?)).map (·.1)).getD 0 % 2 ^ 32

/-- R523: a stream enters REPLAY at its first interrupted command. Each interrupted interval counts in REPLAYS, and has its REPLAY
entry. -/
def State.beginReplay (s : State) (i : Nat) : State :=
  let l := (s.streamCmds i).filter (fun e => e.2.again)
  match l with
  | [] => s.showStream i
  | e :: _ =>
    let gs := intervals l
    let s := s.incFld (Fd.HST_S_STAT_REPLAYS i) gs.length
    let s := s.setStream i (fun x => { x with replay := some (BitVec.ofNat 32 e.1), jrnl := gs.map replaySeq })
    (s.replayEntry i).showStream i

/-- R523: the compute part is back. -/
def State.beginReplays (s : State) : State := s.busyStreams.foldl State.beginReplay s

/-! Set-up commands -/

/-- NOP (R511): completes at once. -/
def execNopCommand (k : CmdRef) (s : State) : Host.Outcome State Fault Refusal :=
  .next (match s.cmd k with
  | none => s
  | some c =>
    if s.mayStart k [0x3F] then (s.startCmd k).finishCmd k (if c.clean [] then 0 else 0x0A11) else s)

/-- RELAY.SET (R517, R463): the images of the set-up registers; the entry becomes SET. -/
def execRelaySet (k : CmdRef) (s : State) : Host.Outcome State Fault Refusal :=
  .next (match s.cmd k with
  | none => s
  | some c =>
    if s.mayStart k [0x20] then
      let s := s.startCmd k
      let h := c.body 0 2
      if !(c.clean [(0, 2), (8, 64)]) then s.finishCmd k 0x0A11
      else if 1023 < h ∨ s.relState h = 2 then (s.log 0x0906).finishCmd k 0x0906
      else ((List.range 8).foldl (fun s i => s.writeRel h i fullMask (c.body (8 + 8 * i) 8)) s).finishCmd k 0
    else s)

/-- R330, R517: a piste takes an image. -/
def State.loadPiste (s : State) (i : Nat) (image : List Byte) : State := s.setPisteBits i (leNat image)

/-- R552, R330: the fault of loading a piste now, or 0; an index above 15 is a field out of range. 0x0C02 comes before 0x0608 (DESIGN
CHOICE, log entry 100: no rule orders them). -/
def State.pisteFault (s : State) (i : Nat) : Nat :=
  if 15 < i then 0x0A11
  else if s.fld Fd.JOB_STEP_STATE ≠ 0 then 0x0C02
  else if i = s.curPiste then 0x0608 else 0

/-- A refused piste load completes with its fault; 0x0C02 and 0x0608 are recorded too (R330, R578). -/
def State.refusePiste (s : State) (k : CmdRef) (f : Nat) : State := (if f = 0x0A11 then s else s.log f).finishCmd k f

/-- PISTE.LOAD (R517, R330, R552): an image on a peer is requested from it. -/
def execPisteLoad (k : CmdRef) (s : State) : Host.Outcome State Fault Refusal :=
  .next (match s.cmd k with
  | none => s
  | some c =>
    if s.mayStart k [0x21] then
      let s := s.startCmd k
      let i := c.body 0 1
      let a := c.body 8 8
      if !(c.clean [(0, 1), (8, 8)]) then s.finishCmd k 0x0A11
      else if s.pisteFault i ≠ 0 then s.refusePiste k (s.pisteFault i)
      else if s.here a then
        let l := (devSplit a).2
        let f := s.addrFault .engine l 144
        if f ≠ 0 then s.finishCmd k f
        else if s.poisoned l 144 then s.finishCmd k 0x0511
        else
          let s := s.touch l 144
          (s.loadPiste i (s.readBytes l 144)).finishCmd k 0
      else
        let f := s.linkFault (devSplit a).1 1
        if f ≠ 0 then s.finishCmd k f
        else
          let r := s.newTag (.piste k)
          r.2.sendPkt (devSplit a).1 1 0x01 (loadReqBody (devSplit a).2 144 r.1) (.request r.1)
    else s)

/-- R517: a peer answers with a piste image. -/
def State.answerPiste (s : State) (k : CmdRef) (status : Nat) (bs : List Byte) : State :=
  match s.cmd k with
  | none => s
  | some c =>
    let i := c.body 0 1
    if status ≠ 0 then s.finishCmd k status
    else if s.pisteFault i ≠ 0 then s.refusePiste k (s.pisteFault i)
    else (s.loadPiste i bs).finishCmd k 0

end Sys2Proof.Machine
end

