-- ==== Sys2Proof/Machine/Control.lean ====
section
/-! DEFINITION. The control unit's scalar, predicate, descriptor and branch instructions (R480 to R483). -/

namespace Sys2Proof.Machine

/-- R65: a transfer to a target: it must be a multiple of 8 below 0x0400_0000. -/
def jumpTo (s : State) (target : Int) : Eff :=
  if target < 0 ∨ 0x4000000 ≤ target ∨ target % 8 ≠ 0 then .fault 0x0102 s else .jump target.toNat s

/-- The bytes of a format-I or scalar word that takes no extension word. -/
def formI (a : FK) : Form := { a := a, b := .g, c := .g, d := .g, imm := true }

/-- R470: in format I the fields B to D and IMM10 are the immediate, whatever they hold. -/
def formIOk (a : FK) (w : IWord) : Bool :=
  a.ok w.a.toNat && decide (w.mod = 0) && decide (w.pred.toNat ≤ 16) && !w.x

/-- NOP (R480): retires without effect. -/
def execNop (t : Tid) (w : IWord) (s : State) : Host.Outcome State Fault Refusal :=
  .next (s.issue t w { ok := ({} : Form).ok w } (fun s _ => .retire s))

/-- The target of a relative branch (R481). -/
def branchTarget (s : State) (t : Tid) (w : IWord) : Int := ((s.regs t.code).pc : Int) + 8 * w.imm28

/-- BR (R481). -/
def execBr (t : Tid) (w : IWord) (s : State) : Host.Outcome State Fault Refusal :=
  .next (s.issue t w { ok := formIOk .none w } (fun s _ => jumpTo s (branchTarget s t w)))

/-- R98: a branch that tests a gliding register makes the thread's control flow carry its tag, taken or not. -/
def testTag (s : State) (t : Tid) (reg : Nat) : State :=
  s.modRegs t.code (fun r => { r with ctrl := r.ctrl ||| r.tag reg })

/-- A conditional branch (R481). -/
def branchIf (t : Tid) (w : IWord) (s : State) (reg : Nat) (taken : Bool) : Eff :=
  let s := testTag s t reg
  if taken then jumpTo s (branchTarget s t w) else .retire s

/-- BRZ (R481). -/
def execBrz (t : Tid) (w : IWord) (s : State) : Host.Outcome State Fault Refusal :=
  .next (s.issue t w { ok := formIOk .g w, reads := [gR w.a.toNat] } (fun s _ =>
    branchIf t w s (gR w.a.toNat) (decide ((s.regs t.code).getG w.a.toNat = 0))))

/-- BRNZ (R481). -/
def execBrnz (t : Tid) (w : IWord) (s : State) : Host.Outcome State Fault Refusal :=
  .next (s.issue t w { ok := formIOk .g w, reads := [gR w.a.toNat] } (fun s _ =>
    branchIf t w s (gR w.a.toNat) (decide ((s.regs t.code).getG w.a.toNat ≠ 0))))

/-- BRP (R481). -/
def execBrp (t : Tid) (w : IWord) (s : State) : Host.Outcome State Fault Refusal :=
  .next (s.issue t w { ok := formIOk .p w, reads := [pR w.a.toNat] } (fun s _ =>
    branchIf t w s (pR w.a.toNat) (((s.regs t.code).getP w.a.toNat).getLsbD 0)))

/-- BRNP (R481). -/
def execBrnp (t : Tid) (w : IWord) (s : State) : Host.Outcome State Fault Refusal :=
  .next (s.issue t w { ok := formIOk .p w, reads := [pR w.a.toNat] } (fun s _ =>
    branchIf t w s (pR w.a.toNat) (!((s.regs t.code).getP w.a.toNat).getLsbD 0)))

/-- CALL (R481): the link register takes PC + 8 before the transfer. A target that faults leaves it unwritten. -/
def execCall (t : Tid) (w : IWord) (s : State) : Host.Outcome State Fault Refusal :=
  .next (s.issue t w { ok := formIOk .g w, writes := [gR w.a.toNat] } (fun s tag =>
    match jumpTo s (branchTarget s t w) with
    | .jump pc s =>
      .jump pc (s.modRegs t.code (fun r => r.setG w.a.toNat (BitVec.ofNat 64 (r.pc + 8)) tag))
    | e => e))

/-- RET (R481): transfers to the vat offset held in gA. -/
def execRet (t : Tid) (w : IWord) (s : State) : Host.Outcome State Fault Refusal :=
  .next (s.issue t w { ok := ({ a := .g } : Form).ok w, reads := [gR w.a.toNat] } (fun s _ =>
    jumpTo (testTag s t (gR w.a.toNat)) ((s.regs t.code).getG w.a.toNat).toNat))

/-- MOVI (R467, R469, R480): IMM28 sign-extended, or IMM64 with X = 1; with an extension word the immediate fields of the
first word are unused. -/
def execMovi (t : Tid) (w : IWord) (s : State) : Host.Outcome State Fault Refusal :=
  .next (s.issue t w
    { ok := decide (w.mod = 0) && decide (w.pred.toNat ≤ 16)
        && (!w.x || (decide (w.b = 0) && decide (w.c = 0) && decide (w.d = 0) && decide (w.imm = 0)))
      writes := [gR w.a.toNat] }
    (fun s tag => .retire (s.modRegs t.code (fun r =>
      r.setG w.a.toNat (if w.x then w.ext else BitVec.ofInt 64 w.imm28) tag))))

/-- R480: the form of the two-operand scalar instructions: C, or IMM10 when MOD[0] is 1. -/
def scalarForm (w : IWord) (mods : Nat) : Form :=
  if w.m 0 then { a := .g, b := .g, mods := mods, imm := true } else { a := .g, b := .g, c := .g, mods := mods }

/-- R480: the second operand of a scalar instruction. -/
def scalarC (r : TRegs) (w : IWord) : BitVec 64 := if w.m 0 then BitVec.ofInt 64 w.simm else r.getG w.c.toNat

/-- The registers a two-operand scalar instruction reads. -/
def scalarReads (w : IWord) : List Nat := if w.m 0 then [gR w.b.toNat] else [gR w.b.toNat, gR w.c.toNat]

/-- A scalar operation gA := f gB C (R482). -/
def scalarOp (t : Tid) (w : IWord) (s : State) (mods : Nat) (ok : Bool) (f : BitVec 64 → BitVec 64 → BitVec 64) : State :=
  s.issue t w { ok := (scalarForm w mods).ok w && ok, reads := scalarReads w, writes := [gR w.a.toNat] }
    (fun s tag => .retire (s.modRegs t.code (fun r => r.setG w.a.toNat (f (r.getG w.b.toNat) (scalarC r w)) tag)))

/-- ADD (R482). -/
def execAdd (t : Tid) (w : IWord) (s : State) : Host.Outcome State Fault Refusal :=
  .next (scalarOp t w s 1 true (fun b c => b + c))
/-- SUB (R482). -/
def execSub (t : Tid) (w : IWord) (s : State) : Host.Outcome State Fault Refusal :=
  .next (scalarOp t w s 1 true (fun b c => b - c))
/-- MUL (R482): the low 64 bits of the product. -/
def execMul (t : Tid) (w : IWord) (s : State) : Host.Outcome State Fault Refusal :=
  .next (scalarOp t w s 1 true (fun b c => b * c))
/-- AND (R482). -/
def execAnd (t : Tid) (w : IWord) (s : State) : Host.Outcome State Fault Refusal :=
  .next (scalarOp t w s 1 true (fun b c => b &&& c))
/-- OR (R482). -/
def execOr (t : Tid) (w : IWord) (s : State) : Host.Outcome State Fault Refusal :=
  .next (scalarOp t w s 1 true (fun b c => b ||| c))
/-- XOR (R482). -/
def execXor (t : Tid) (w : IWord) (s : State) : Host.Outcome State Fault Refusal :=
  .next (scalarOp t w s 1 true (fun b c => b ^^^ c))
/-- SHL (R482): shifts by C[5:0]. -/
def execShl (t : Tid) (w : IWord) (s : State) : Host.Outcome State Fault Refusal :=
  .next (scalarOp t w s 1 true (fun b c => b <<< (c.toNat % 64)))
/-- SHR (R482): fills with zeros. -/
def execShr (t : Tid) (w : IWord) (s : State) : Host.Outcome State Fault Refusal :=
  .next (scalarOp t w s 1 true (fun b c => b >>> (c.toNat % 64)))
/-- SAR (R482): copies the sign bit. -/
def execSar (t : Tid) (w : IWord) (s : State) : Host.Outcome State Fault Refusal :=
  .next (scalarOp t w s 1 true (fun b c => b.sshiftRight (c.toNat % 64)))
/-- SMIN (R482). -/
def execSmin (t : Tid) (w : IWord) (s : State) : Host.Outcome State Fault Refusal :=
  .next (scalarOp t w s 1 true (fun b c => if b.toInt ≤ c.toInt then b else c))
/-- SMAX (R482). -/
def execSmax (t : Tid) (w : IWord) (s : State) : Host.Outcome State Fault Refusal :=
  .next (scalarOp t w s 1 true (fun b c => if b.toInt ≤ c.toInt then c else b))
/-- UMIN (R482). -/
def execUmin (t : Tid) (w : IWord) (s : State) : Host.Outcome State Fault Refusal :=
  .next (scalarOp t w s 1 true (fun b c => if b.toNat ≤ c.toNat then b else c))
/-- UMAX (R482). -/
def execUmax (t : Tid) (w : IWord) (s : State) : Host.Outcome State Fault Refusal :=
  .next (scalarOp t w s 1 true (fun b c => if b.toNat ≤ c.toNat then c else b))

/-- R482: the condition codes of CMP; 6 and 7 are reserved. -/
def scalarCond (k : Nat) (b c : BitVec 64) : Bool :=
  match k with
  | 0 => b = c
  | 1 => b ≠ c
  | 2 => b.toInt < c.toInt
  | 3 => b.toInt ≤ c.toInt
  | 4 => b.toNat < c.toNat
  | _ => b.toNat ≤ c.toNat

/-- CMP (R482). -/
def execCmp (t : Tid) (w : IWord) (s : State) : Host.Outcome State Fault Refusal :=
  .next (scalarOp t w s 0xF (decide (w.ms 1 3 ≤ 5)) (fun b c => if scalarCond (w.ms 1 3) b c then 1 else 0))

/-- SEL (R482). -/
def execSel (t : Tid) (w : IWord) (s : State) : Host.Outcome State Fault Refusal :=
  .next (s.issue t w
    { ok := ({ a := .g, b := .g, c := .g, d := .p } : Form).ok w
      reads := [gR w.b.toNat, gR w.c.toNat, pR w.d.toNat], writes := [gR w.a.toNat] }
    (fun s tag => .retire (s.modRegs t.code (fun r =>
      r.setG w.a.toNat (if (r.getP w.d.toNat).getLsbD 0 then r.getG w.b.toNat else r.getG w.c.toNat) tag))))

/-- PSET (R482): all 64 bits of gB. -/
def execPset (t : Tid) (w : IWord) (s : State) : Host.Outcome State Fault Refusal :=
  .next (s.issue t w
    { ok := ({ a := .p, b := .g } : Form).ok w, reads := [gR w.b.toNat], writes := [pR w.a.toNat] }
    (fun s tag => .retire (s.modRegs t.code (fun r => r.setP w.a.toNat (r.getG w.b.toNat) tag))))

/-- PGET (R482). -/
def execPget (t : Tid) (w : IWord) (s : State) : Host.Outcome State Fault Refusal :=
  .next (s.issue t w
    { ok := ({ a := .g, b := .p } : Form).ok w, reads := [pR w.b.toNat], writes := [gR w.a.toNat] }
    (fun s tag => .retire (s.modRegs t.code (fun r => r.setG w.a.toNat (r.getP w.b.toNat) tag))))

/-- DSC.SET (R483). -/
def execDscSet (t : Tid) (w : IWord) (s : State) : Host.Outcome State Fault Refusal :=
  .next (s.issue t w
    { ok := ({ a := .d, b := .g, c := .g } : Form).ok w
      reads := [gR w.b.toNat, gR w.c.toNat], writes := [dR w.a.toNat] }
    (fun s tag => .retire (s.modRegs t.code (fun r =>
      r.setD w.a.toNat (r.getG w.c.toNat ++ r.getG w.b.toNat) tag))))

/-- DSC.GET (R483): when A and B name one register it holds the half written last, the high half (log entry 17). -/
def execDscGet (t : Tid) (w : IWord) (s : State) : Host.Outcome State Fault Refusal :=
  .next (s.issue t w
    { ok := ({ a := .g, b := .g, c := .d } : Form).ok w
      reads := [dR w.c.toNat], writes := [gR w.a.toNat, gR w.b.toNat] }
    (fun s tag => .retire (s.modRegs t.code (fun r =>
      (r.setG w.a.toNat ((r.getD' w.c.toNat).extractLsb' 0 64) tag).setG w.b.toNat
        ((r.getD' w.c.toNat).extractLsb' 64 64) tag))))

/-- R483: BASE and SCALE moved, every other field unchanged. -/
def descOffset (d : BitVec 128) (b c : BitVec 64) : BitVec 128 :=
  let n := d.toNat
  let n := setBits n 0 28 (bits n 0 28 + b.toNat)
  BitVec.ofNat 128 (setBits n 96 28 (bits n 96 28 + c.toNat))

/-- DSC.OFS (R483). -/
def execDscOfs (t : Tid) (w : IWord) (s : State) : Host.Outcome State Fault Refusal :=
  .next (s.issue t w
    { ok := ({ a := .d, b := .g, c := .g } : Form).ok w
      reads := [dR w.a.toNat, gR w.b.toNat, gR w.c.toNat], writes := [dR w.a.toNat] }
    (fun s tag => .retire (s.modRegs t.code (fun r =>
      r.setD w.a.toNat (descOffset (r.getD' w.a.toNat) (r.getG w.b.toNat) (r.getG w.c.toNat)) tag))))

/-- GATE (R104): waits until the GLIDE field is zero, and then retires. -/
def execGate (t : Tid) (w : IWord) (s : State) : Host.Outcome State Fault Refusal :=
  .next (s.issue t w { ok := ({} : Form).ok w, gate := true } (fun s _ => .retire s))

/-- CYC.READ (R117). -/
def execCycRead (t : Tid) (w : IWord) (s : State) : Host.Outcome State Fault Refusal :=
  .next (s.issue t w { ok := ({ a := .g } : Form).ok w, writes := [gR w.a.toNat] }
    (fun s tag => .retire (s.modRegs t.code (fun r => r.setG w.a.toNat (BitVec.ofNat 64 (s.coreCycle (tileOf t.code))) tag))))

/-- ST.READ (R67, R70): the status word of the issuing thread, which is READY as it issues. -/
def execStRead (t : Tid) (w : IWord) (s : State) : Host.Outcome State Fault Refusal :=
  .next (s.issue t w { ok := ({ a := .g } : Form).ok w, writes := [gR w.a.toNat] }
    (fun s tag =>
      let word := ({ s.thread t.code with st := .ready } : Thread).status
      .retire (s.modRegs t.code (fun r => r.setG w.a.toNat (BitVec.ofNat 64 word) tag))))

/-- R228: the launch key of a thread's core, for a step number. -/
def State.rngKey (s : State) (t : Nat) : BitVec 64 :=
  BitVec.ofNat 64 (permP (s.fld Fd.JOB_SEED_SEED)
    ((s.fld Fd.JOB_STEP_STEP * 2 ^ 28 + s.moduleId * 2 ^ 10 + tileOf t * 2 ^ 4 + coreIdx (coreOf t)) % 2 ^ 64))

/-- R228: the key of a logical position, for the step number then current. -/
def State.rngKeyPos (s : State) (pos : Nat) : BitVec 64 :=
  BitVec.ofNat 64 (permP (s.fld Fd.JOB_SEED_SEED) ((s.fld Fd.JOB_STEP_STEP * 2 ^ 28 + pos % 2 ^ 28) % 2 ^ 64))

/-- RNG.SEEK (R228): without .POS; the key is computed again from the step number then current. -/
def execRngSeek (t : Tid) (w : IWord) (s : State) : Host.Outcome State Fault Refusal :=
  let w := { w with mod := w.mod &&& ~~~1 }
  .next (s.issue t w { ok := ({ a := .g } : Form).ok w, reads := [gR w.a.toNat] }
    (fun s _ => .retire (s.modRegs t.code (fun r =>
      { r with key := s.rngKey t.code, ctr := (r.getG w.a.toNat).setWidth 58 }))))

/-- RNG.SEEK.POS (R228): MOD[0] is its own; the key is that of the logical position. -/
def execRngSeekPos (t : Tid) (w : IWord) (s : State) : Host.Outcome State Fault Refusal :=
  let w := { w with mod := w.mod ||| 1 }
  .next (s.issue t w { ok := ({ a := .g, b := .g, mods := 1 } : Form).ok w, reads := [gR w.a.toNat, gR w.b.toNat] }
    (fun s _ => .retire (s.modRegs t.code (fun r =>
      { r with key := s.rngKeyPos (r.getG w.b.toNat).toNat, ctr := (r.getG w.a.toNat).setWidth 58 }))))

end Sys2Proof.Machine
end

