-- ==== Sys2Proof/Machine/VecOps.lean ====
section
/-! DEFINITION. How the vector and special-function unit reads and writes: lane-wise results with their guards and tags (R97,
R471), and descriptor regions read and written by a thread's instruction (R63, R101, R106, R285, R286). -/

namespace Sys2Proof.Machine

/-- R471: the tag of kept destination bits joins the result of a guarded instruction. -/
def TRegs.keepTag (r : TRegs) (w : IWord) (c : Nat) : BitVec 8 := if w.pred = 0 then 0 else r.tag c

/-- A lane-wise instruction that writes 32-bit lanes of vA (R471, R493). -/
def laneOp (t : Tid) (w : IWord) (s : State) (ok : Bool) (reads : List Nat) (f : TRegs → Nat → Nat) : State :=
  s.issue t w { ok := ok, lane := true, reads := reads, writes := [vR w.a.toNat] } (fun s tag =>
    .retire (s.modRegs t.code (fun r =>
      r.setV w.a.toNat (vLanes (r.getV w.a.toNat) (r.guard w) (f r)) (tag ||| r.keepTag w (vR w.a.toNat)))))

/-- A lane-wise vA := f vB vC. -/
def laneOp2 (t : Tid) (w : IWord) (s : State) (f : Nat → Nat → Nat) : State :=
  laneOp t w s (({ a := .v, b := .v, c := .v } : Form).ok w) [vR w.b.toNat, vR w.c.toNat]
    (fun r i => f (lane (r.getV w.b.toNat) i) (lane (r.getV w.c.toNat) i))

/-- A lane-wise vA := f vB. -/
def laneOp1 (t : Tid) (w : IWord) (s : State) (f : Nat → Nat) : State :=
  laneOp t w s (({ a := .v, b := .v } : Form).ok w) [vR w.b.toNat] (fun r i => f (lane (r.getV w.b.toNat) i))

/-- Bits of a vector register replaced. -/
def vPut (v : BitVec 2048) (off w x : Nat) : BitVec 2048 := BitVec.ofNat 2048 (setBits v.toNat off w x)

/-! Regions -/

/-- R253, R477: a region that an instruction writes meets the vat. -/
def Desc.inVat (d : Desc) : Bool :=
  decide (d.rows ≠ 0 ∧ d.cols ≠ 0) && (decide (d.base < 0x4000000) || (d.scaleEn && decide (d.scale < 0x4000000)))

/-- R286: the ranges cover a poisoned line in part only. -/
def State.partPoison (s : State) (l : List (Nat × Nat)) : Bool :=
  (rangeLines l).any (fun x => s.poison.getD x false
    && !(List.range 64).all (fun i => l.any (fun r => decide (r.1 ≤ x * 64 + i) && decide (x * 64 + i < r.1 + r.2))))

/-- What an instruction meets before it reads and writes ranges, in order: the array's interlocks (R63) and held banks (R282),
gliding lines of others (R101), poison (R285, R286), and room in the shadow store (R107). It goes on with the tags of the
lines read. -/
def State.access (s : State) (t : Nat) (rd wr : List (Nat × Nat)) (k : State → BitVec 8 → Eff) : Eff :=
  if s.arrayOwes t rd || s.arrayHolds t wr || s.anyHeld (rd ++ wr) then .wait .waitData s
  else match s.readTag t (rangeLines rd) with
    | none => .wait .waitData s
    | some tag =>
      if s.rangesPoisoned rd || s.partPoison wr then .fault 0x0510 s
      else match s.shadowLines t ((rangeLines wr).filter (lineInCore (coreOf t))) with
        | none => .wait .waitGate s
        | some s => k s tag

/-- Write cells for a thread, its own scratchpad's lines tagged. -/
def State.putTagged (s : State) (t : Nat) (cells : List (Nat × Byte)) (tag : BitVec 8) : State :=
  ((s.store cells).1).tagWritten t (cells.filter (fun c => lineInCore (coreOf t) (lineOf c.1))) tag

/-- The bytes of ranges as they stand. -/
def State.cellsOf (s : State) (l : List (Nat × Nat)) : List (Nat × Byte) :=
  l.flatMap (fun r => cellsFrom r.1 (s.readBytes r.1 r.2))

/-- Write element (i, j) of a region of byte-wide elements or wider, with no further effect. -/
def State.putElem (s : State) (tile : Nat) (d : Desc) (i j code : Nat) : State :=
  s.putCells (s.elemCells (tileBase tile + d.base + i * d.stride) (j * d.w) d.w code)

/-- The cells of row i of a region with its row-block scales. -/
def State.regionRow (s : State) (tile : Nat) (d : Desc) (i : Nat) (scales codes : List Nat) : List (Nat × Byte) :=
  s.rowCells (tileBase tile + d.base + i * d.stride) d.w codes
    ++ (if d.scaleEn then
          cellsFrom (tileBase tile + d.scale + i * ((d.cols + 31) / 32)) (scales.map (BitVec.ofNat 8))
        else [])

/-- R251: the rounded exact sum of a group, a NaN in it as R156 states. -/
def groupSum (l : List Num) : Nat := groupVal l 0x7F 0x7F

end Sys2Proof.Machine
end

