-- ==== Sys2Proof/Machine/Sync.lean ====
section
/-! DEFINITION. How threads meet and end: EXIT (R138, R140), fences (R75 to R80), phases (R118 to R121) and the barrier
instructions (R82 to R90). -/

namespace Sys2Proof.Machine

/-- EXIT (R103, R138, R140): once the thread's array instructions have completed it gives up the lease and becomes FREE. -/
def execExit (t : Tid) (w : IWord) (s : State) : Host.Outcome State Fault Refusal :=
  .next (s.issue t w { ok := ({} : Form).ok w, gate := true } (fun s _ =>
    let th := t.code
    let a := (s.core (coreOf th)).array
    if a.q.any (fun o => decide (o.th = thOf th)) then .wait .waitData s
    else
      let owner := (s.thread th).owner
      let s := s.setArray (coreOf th) (a.release (thOf th))
      let s : State := { s with threads := SMap.erase s.threads th }
      let s := match owner with
        | none => s
        | some k => s.alterLaunch k (fun l => { l with live := l.live.filter (· ≠ th) })
      .done s.phaseCheck))

/-- R76: every access of a thread to this module is performed as it issues; a load of a peer once its answer is back. -/
def Thread.away (x : Thread) : Bool := x.loads.any (fun l => l.remote.isSome)

/-- R79: a store or atomic of the thread to a peer has not been acknowledged yet. -/
def State.unacked (s : State) (t : Nat) : Bool :=
  let owner := (s.thread t).owner
  s.inFlight (fun o => match o with 
    | .store u _ k => decide (u = t) && decide (k = owner)
    | .atomic u _ k _ => decide (u = t) && decide (k = owner)
    | _ => false)

/-- FENCE.REL (R76, R79): MOD[1:0] is the scope. Writes to a host window are observed as they are made. -/
def execFenceRel (t : Tid) (w : IWord) (s : State) : Host.Outcome State Fault Refusal :=
  .next (s.issue t w { ok := ({ mods := 3 } : Form).ok w } (fun s _ =>
    if (s.thread t.code).away || (decide (2 ≤ w.ms 0 2) && s.unacked t.code) then .wait .waitSync s else .retire s))

/-- FENCE.ACQ (R77): it waits until every earlier load has returned. -/
def execFenceAcq (t : Tid) (w : IWord) (s : State) : Host.Outcome State Fault Refusal :=
  .next (s.issue t w { ok := ({ mods := 3 } : Form).ok w } (fun s _ =>
    if (s.thread t.code).loads = [] then .retire s else .wait .waitSync s))

/-- R119, R120: the record of the phase a core leaves. -/
def State.phaseRecord (s : State) (core : Nat) : BitVec 128 :=
  let c := s.core core
  BitVec.ofNat 128 (s.fld Fd.JOB_STEP_STEP % 2 ^ 32 + c.phase % 256 * 2 ^ 32 + coreIdx core * 2 ^ 40
    + core / 16 * 2 ^ 44 + (s.coreCycle (core / 16) - c.phaseStart) % 2 ^ 64 * 2 ^ 64)

/-- R118, R119, R121: a core changes its phase: the record of the phase it leaves goes into its ring. -/
def State.changePhase (s : State) (core n : Nat) : State :=
  let tile := core / 16
  let i := coreIdx core
  let h := s.fld (Fd.TILE_PHASE_HEAD_HEAD tile i)
  let tail := Fd.TILE_PHASE_HEAD_TILE_TAIL tile i
  let rec0 := s.phaseRecord core
  let s := if (h + 1) % 256 = s.fld tail then (s.incFld tail).incFld (Fd.TILE_PHASE_HEAD_OVERRUN tile i) else s
  let c := s.core core
  let s := s.setCore core { c with ring := c.ring.set h rec0, phase := n, phaseStart := s.coreCycle (core / 16) }
  (s.setFld (Fd.TILE_PHASE_HEAD_CUR_PHASE tile i) n).incFld (Fd.TILE_PHASE_HEAD_HEAD tile i)

/-- PHASE (R118): IMM10[9:8] is zero. -/
def execPhase (t : Tid) (w : IWord) (s : State) : Host.Outcome State Fault Refusal :=
  .next (s.issue t w { ok := ({ imm := true } : Form).ok w && decide (w.imm.toNat < 256), gate := true } (fun s _ =>
    let core := coreOf t.code
    let n := w.imm.toNat
    if (s.core core).phase = n then .retire s else .retire (s.changePhase core n).phaseCheck))

/-- The barrier operand of a barrier instruction (R82, R484): field A. -/
def State.barOperand (s : State) (t : Tid) (w : IWord) : Nat := ((s.regs t.code).getG w.a.toNat).toNat

/-- What a barrier instruction meets before its effect: 0x0105, then its object's line (R101, R285, R286). -/
def State.onBar (s : State) (t : Tid) (w : IWord) (writes : Bool) (k : State → Nat → Eff) : Eff :=
  let v := s.barOperand t w
  if v = 0 ∨ barFault v ≠ 0 then .fault 0x0105 s
  else
    let a := barAddr t.code v
    s.access t.code [(a, 16)] (if writes then [(a, 16)] else []) (fun s _ => k s a)

/-- BAR.INIT (R84, R123): n is gB[15:0]; a non-zero rest is fault 0x0106; n = 0 changes nothing. -/
def execBarInit (t : Tid) (w : IWord) (s : State) : Host.Outcome State Fault Refusal :=
  .next (s.issue t w
    { ok := ({ a := .g, b := .g } : Form).ok w, gate := true, reads := [gR w.a.toNat, gR w.b.toNat] } (fun s _ =>
    let n := ((s.regs t.code).getG w.b.toNat).toNat
    if n = 0 then .retire s
    else s.onBar t w true (fun s a =>
      let b := s.bar a
      if 2 ^ 16 ≤ n then .fault 0x0106 s
      else if b.broken ∨ b.idle then
        .retire (s.setBar a { b with
          count := n, left := n, pend := 0, unconf := 0, phase := false, broken := false
          epoch := if b.broken then (b.epoch + 1) % 256 else b.epoch })
      else .fault 0x0106 s)))

/-- R85, R87, R88: an arrival with b bytes still to land. -/
def Bar.arrive (b : Bar) (n : Nat) : Bar :=
  if b.left = 0 then { b with broken := true }
  else
    let c := b.update n 0
    if c.broken then c else { c with left := c.left - 1 }.settle

/-- An arrival instruction (R80, R85, R88): the release waits for the thread's loads of peers. -/
def arriveBody (t : Tid) (w : IWord) (bytes : Nat) (s : State) : Eff :=
  s.onBar t w true (fun s a =>
    let b := s.bar a
    if b.broken then .fault 0x0107 s
    else if (s.thread t.code).away then .wait .waitData s
    else
      let c := b.arrive bytes
      let s := s.putBar a c
      if c.broken then .fault 0x0107 s else .retire s)

/-- BAR.ARRIVE (R85): MOD[0] is zero. -/
def execBarArrive (t : Tid) (w : IWord) (s : State) : Host.Outcome State Fault Refusal :=
  let w := { w with mod := w.mod &&& ~~~1 }
  .next (s.issue t w { ok := ({ a := .g } : Form).ok w, gate := true, reads := [gR w.a.toNat] }
    (fun s _ => arriveBody t w 0 s))

/-- BAR.ARRIVE.TX (R85): MOD[0] is one; field B names the bytes. -/
def execBarArriveTx (t : Tid) (w : IWord) (s : State) : Host.Outcome State Fault Refusal :=
  let w := { w with mod := w.mod ||| 1 }
  .next (s.issue t w
    { ok := ({ a := .g, b := .g, mods := 1 } : Form).ok w, gate := true, reads := [gR w.a.toNat, gR w.b.toNat] }
    (fun s _ => arriveBody t w ((s.regs t.code).getG w.b.toNat).toNat s))

/-- R89: the first case: the phase of the object differs from q. The wait acquires (R80). -/
def State.barPassed (s : State) (t : Nat) (w : IWord) (b : Bar) : Bool := decide (b.phase ≠ w.m 0) && decide ((s.thread t).loads = [])

/-- R88: a thread waits on a barrier. -/
def State.waitOn (s : State) (t a : Nat) : Eff := .wait .waitSync (s.setThread t { s.thread t with waitBar := some a })

/-- BAR.WAIT (R88, R89): MOD[0] is the parity q. -/
def execBarWait (t : Tid) (w : IWord) (s : State) : Host.Outcome State Fault Refusal :=
  .next (s.issue t w { ok := ({ a := .g, mods := 1 } : Form).ok w, reads := [gR w.a.toNat] } (fun s _ =>
    s.onBar t w false (fun s a =>
      let b := s.bar a
      if b.broken then .fault 0x0107 s
      else if s.barPassed t.code w b then .retire s
      else s.waitOn t.code a)))

/-- R86, R89: the windows of the cores of a tile that hold unconfirmed input counted on a barrier, that is, landed under its present
BEPOCH: core and window. -/
def State.barWindows (s : State) (tile a : Nat) : List (Nat × Nat) :=
  (List.range 16).flatMap (fun i =>
    ((s.core (tile * 16 + i)).windows.filter (fun e => e.2.pieces.any (fun p => decide (p.bar = a) && decide (p.ep = (s.bar a).epoch) && !p.refused))).map
      (fun e => (tile * 16 + i, e.1)))

/-- R89, R99: may a thread retire BAR.WAIT.GLIDE by the second case? -/
def State.barGlides (s : State) (t a : Nat) : Bool :=
  let b := s.bar a
  let ws := s.barWindows (tileOf t) a
  b.left = 0 && b.pend = 0 && b.unconf ≠ 0 && ws ≠ [] && (s.thread t).loads = []
    && ws.all (fun w => decide (w.1 = coreOf t)
      && ((SMap.find (s.thread t).ckpts w.2).isSome || decide ((s.participants w.1 w.2).length < 16)))

/-- R99, R414: the second case would have the thread join a window. -/
def State.barJoins (s : State) (t a : Nat) : Bool :=
  (s.barWindows (tileOf t) a).any (fun w => (SMap.find (s.thread t).ckpts w.2).isNone)

/-- BAR.WAIT.GLIDE (R89, R99, R414): the second case joins the windows; a pending TBL.FENCE holds back a thread that is not in all of them yet. -/
def execBarWaitGlide (t : Tid) (w : IWord) (s : State) : Host.Outcome State Fault Refusal :=
  let r0 := s.regs t.code
  .next (s.issue t w { ok := ({ a := .g, mods := 1 } : Form).ok w, reads := [gR w.a.toNat] } (fun s _ =>
    s.onBar t w false (fun s a =>
      let b := s.bar a
      let th := t.code
      if b.broken then .fault 0x0107 s
      else if s.barPassed th w b then .retire s
      else if s.barGlides th a then
        if s.fencePend (tileOf th) ∧ s.barJoins th a then .wait .waitData s
        else .retire (s.join th ((s.barWindows (tileOf th) a).map (·.2)) r0)
      else s.waitOn th a)))

end Sys2Proof.Machine
end

