-- ==== Sys2Proof/Machine/Wheels.lean ====
section
/-! DEFINITION. The wheel instructions, the wheel commands, and the steps of the wheel unit and the page walkers (R356 to
R378, R491). -/

namespace Sys2Proof.Machine

/-- The operands of KV.GET and KV.PUT (R484). -/
structure KvArgs where
  wheel : Nat
  kind : Nat
  token : Nat
  layer : Nat
  group : Nat
  n : Nat
  bar : Nat
  dsc : BitVec 128
  deriving DecidableEq, Repr

/-- R484: the operands in their registers. -/
def kvArgs (r : TRegs) (w : IWord) : KvArgs :=
  { wheel := (r.getG w.b.toNat).toNat, kind := w.ms 0 1, token := (r.getG w.c.toNat).toNat,
    layer := (r.getG (w.f 0)).toNat, group := (r.getG (w.f 1)).toNat, n := (r.getG (w.f 2)).toNat,
    bar := (r.getG w.d.toNat).toNat, dsc := r.getD' w.a.toNat }

/-- R484: the word of KV.GET and KV.PUT. -/
def kvSpec (w : IWord) : Spec :=
  let form : Form := { a := .d, b := .g, c := .g, d := .g, mods := 1, x := .fields [0, 1, 2] }
  { ok := form.ok w, head := form.head w
    gate := true
    reads := [dR w.a.toNat, gR w.b.toNat, gR w.c.toNat, gR w.d.toNat, gR (w.f 0), gR (w.f 1), gR (w.f 2)] }

/-- R360: the wheel faults 0x0701, 0x0720, 0x0724 at issue, in that order. A descriptor in a poisoned line is not read (R285). -/
def State.wheelFault (s : State) (wn : Nat) : Nat :=
  if !(s.wheelExists wn) then 0x0701
  else if s.poisoned (s.wheelAddr wn) 64 then 0x0510
  else
    let st := (s.wheel wn).state
    if st = 0 then 0x0701 else if st = 2 ∨ st = 3 ∨ st = 4 then 0x0720 else if st = 5 then 0x0724 else 0

/-- R360: layer, group or token run out of range. A zero count names no run (R122). -/
def Wheel.runBad (w : Wheel) (layer group token n : Nat) : Bool :=
  decide (w.layers ≤ layer) || decide (w.groups ≤ group)
    || (n ≠ 0 && (decide (token < w.tbase) || decide (w.tbase + w.ntok < token + n)))

/-- R359: the region does not fit the wheel. -/
def Wheel.regionBad (w : Wheel) (core : Nat) (d : Desc) (n : Nat) : Bool :=
  !(inVatOrOwn core d.base d.span) || (d.scaleEn && !(inVatOrOwn core d.scale (d.scaleBytes false)))
    || d.fmt ≠ w.fmt || d.scaleEn ≠ w.scaleEn || d.rows ≠ n || d.cols * d.w ≠ w.rowb * 8

/-- R473, R484: the faults of KV.GET and KV.PUT at issue. -/
def State.kvFault (s : State) (t : Nat) (a : KvArgs) (writes : Bool) : Nat :=
  let w := s.wheel a.wheel
  let d := Desc.dec a.dsc
  let c := coreIdx (coreOf t)
  let f := s.wheelFault a.wheel
  if f ≠ 0 then f
  else if w.runBad a.layer a.group a.token a.n then 0x0702
  else if a.n ≠ 0 ∧ w.regionBad c d a.n then 0x0707
  else
    let f := if a.n = 0 then (if fmtBad d.fmt then 0x0302 else 0) else d.fault c writes false
    if f ≠ 0 then f else barFault a.bar

/-- R346: the stream of a page. -/
def Wheel.stream' (w : Wheel) (layer group kind : Nat) : Nat := (layer * w.groups + group) * 2 + kind

/-- R282, R600: the descriptor of a wheel lies in memory whose accesses are held. -/
def State.descHeld (s : State) (wn : Nat) : Bool := s.wheelExists wn && s.banksHeld (s.wheelAddr wn) 64

/-- KV.GET (R359, R361, R363): accepted with its pin taken; its pages are translated as the walker comes to them. -/
def execKvGet (t : Tid) (w : IWord) (s : State) : Host.Outcome State Fault Refusal :=
  .next (s.issue t w (kvSpec w) (fun s _ =>
    let th := t.code
    let x := s.thread th
    let a := kvArgs x.regs w
    let f := s.kvFault th a true
    if s.descHeld a.wheel then .wait .waitData s
    else if f ≠ 0 then .fault f s
    else if !(s.engineRoom t.tile.val (2 * a.n)) then .wait .waitData s
    else
      let pin := s.takePin (coreOf th)
      let bar := barAddr th a.bar
      let wh := s.wheel a.wheel
      let x' := pin.2.tile t.tile.val
      let cid := x'.nextId
      let cp : Copy := {
        org := .thread th x.regs.pc x.owner, bar := bar, ep := s.barEpoch bar, segs := [],
        pin := some (coreOf th, pin.1),
        walk := some { wheel := a.wheel, d := wh.stream' a.layer a.group a.kind, desc := a.dsc, token := a.token, left := a.n, row := 0 } }
      let s := pin.2.setTile t.tile.val { x' with nextId := cid + 1, copies := x'.copies.set cid cp }
      let s := s.translate (a.n + 2) t.tile.val cid none
      .retire ((s.issueTxns t.tile.val 8192).settleCopy t.tile.val cid)))

/-- A page walk met a poisoned line (R285): its access ends with 0x0510 at its instruction. -/
def State.walkFail (s : State) (t cid : Nat) : State :=
  (s.alterCopy t cid (fun c => { c with
    fault := if c.fault = 0 then 0x0510 else c.fault, blocked := true, segs := [], walk := none })).settleCopy t cid

/-- A page walk reads its entry, through directory and leaf table, and caches it. -/
def State.walkEnd (s : State) (t cid : Nat) (q : KvRun) : State :=
  let w := s.wheel q.wheel
  let i := (q.token - w.tbase) / w.tokens
  let v := BitVec.ofNat 128 (s.entryNat w q.d i)
  let s := (s.touchAll (s.walkRanges q.wheel q.d i)).incFld (Fd.TILE_KV_CACHE_MISSES t)
  let s := s.cachePut t q.wheel q.d i v
  let s := s.translate (q.left + 2) t cid (some v)
  (s.issueTxns t 8192).settleCopy t cid

/-- PAGE_WALK_DONE (R365): the oldest access of a tile that waits for a walk has its entry read. A walk waits on a held bank
(R282). -/
def execPageWalkDone (tile : Fin 36) (s : State) : Host.Outcome State Fault Refusal :=
  .next (match (s.tile tile.val).copies.find? (fun e => e.2.walk.isSome) with
  | none => s
  | some (cid, c) =>
    match c.walk with
    | none => s
    | some q =>
      let w := s.wheel q.wheel
      let i := (q.token - w.tbase) / w.tokens
      if s.anyHeld (s.walkRanges q.wheel q.d i) then s
      else if s.walkBad q.wheel q.d i then s.walkFail tile.val cid
      else s.walkEnd tile.val cid q)

/-- What a KV.PUT finds as it prepares its pages: all are ready, it waits, or no frame can be had. -/
inductive PutPrep where
  | ready (s : State)
  | wait (s : State)
  | fail (s : State)

/-- R362, R368: prepare the pages of a run for writing, in ascending order: allocate where the entry is invalid, copy where
it is COW. The wheel unit serves one operation at a time, in the order in which they reach it (R378). -/
def State.putPages (s : State) (t wn d : Nat) : List Nat → PutPrep
  | [] => .ready s
  | i :: rest =>
    let w := s.wheel wn
    let e := s.entry w d i
    if e.valid && !e.cow then State.putPages s t wn d rest
    else if !(s.kvTurn t) then .wait s
    else if e.valid && s.recBits e.record 0 24 = 1 && e.record ≠ noRec then
      State.putPages (s.setEntry wn d i { e with cow := false }) t wn d rest
    else
      match s.allocRec w.pool with
      | some (r, s') =>
        if e.valid then .wait (s'.startCow wn d i r (pinEngine (tileOf t)))
        else
          let s' := s'.setEntry wn d i (s'.entryOf w.pool r)
          State.putPages (s'.setWheel wn 96 32 (w.pages + 1)) t wn d rest
      | none =>
        let q := s.preempt w.pool w.prio wn (t + 1)
        if q.2 then .wait q.1 else .fail q.1

/-- R364, R365: the entry of a page as a KV.PUT translates it, through the cache of its tile. -/
def State.putEntry (s : State) (t wn d i : Nat) : Entry × State :=
  match s.cached t wn d i with
  | some v => (Entry.dec v.toNat, s.incFld (Fd.TILE_KV_CACHE_HITS t))
  | none =>
    let v := BitVec.ofNat 128 (s.entryNat (s.wheel wn) d i)
    (Entry.dec v.toNat, (s.incFld (Fd.TILE_KV_CACHE_MISSES t)).cachePut t wn d i v)

/-- R359: what a KV.PUT moves, page by page. -/
def State.putSegs (s : State) (t wn d : Nat) (dsc : Desc) (token n : Nat) (is : List Nat) : List TxnOp × State :=
  is.foldl (fun (q : List TxnOp × State) i =>
    let w := q.2.wheel wn
    let r := q.2.putEntry t wn d i
    let lo := max (token - w.tbase) (i * w.tokens)
    let hi := min (token - w.tbase + n) ((i + 1) * w.tokens)
    (q.1 ++ pageRows w r.1 t dsc true (lo - i * w.tokens) (lo - (token - w.tbase)) (hi - lo), r.2)) ([], s)

/-- R360, R378: the fault of a KV.PUT; one that holds its place in the wheel unit's line has passed its tests. -/
def State.putFault (s : State) (th : Nat) (a : KvArgs) : Nat := if s.inLine th then 0 else s.kvFault th a false

/-- R359: the pages that a run of n tokens lies in. -/
def Wheel.pagesOf (w : Wheel) (token n : Nat) : List Nat :=
  let off := token - w.tbase
  if n = 0 then [] else (List.range ((off + n - 1) / w.tokens - off / w.tokens + 1)).map (off / w.tokens + ·)

/-- KV.PUT (R359, R360, R362, R368, R378): waits in line while frames are found or copied, its checks behind it, and is then accepted. With
no frame to be had its thread stops with 0x0721 at its instruction (R372, R484). -/
def execKvPut (t : Tid) (w : IWord) (s : State) : Host.Outcome State Fault Refusal :=
  .next (s.issue t w (kvSpec w) (fun s _ =>
    let th := t.code
    let x := s.thread th
    let a := kvArgs x.regs w
    let f := s.putFault th a
    if s.descHeld a.wheel then .wait .waitData s
    else if f ≠ 0 then .fault f s
    else if !(s.engineRoom t.tile.val (2 * a.n)) then .wait .waitData s
    else
      let wh := s.wheel a.wheel
      let d := wh.stream' a.layer a.group a.kind
      let is := wh.pagesOf a.token a.n
      let s := if s.inLine th then s else s.newTry (th + 1)
      if is.any (fun i => s.anyHeld (s.walkRanges a.wheel d i)) then .wait .waitData s
      else if is.any (s.walkBad a.wheel d) then .fault 0x0510 (s.leaveLine th)
      else match (s.touchAll (is.flatMap (s.walkRanges a.wheel d))).putPages th a.wheel d is with
      | .wait s => .wait .waitData (s.joinLine th)
      | .fail s => .stop 0x0721 x.regs.pc (s.leaveLine th)
      | .ready s =>
        let s := s.leaveLine th
        let pin := s.takePin (coreOf th)
        let bar := barAddr th a.bar
        let q := pin.2.putSegs t.tile.val a.wheel d (Desc.dec a.dsc) a.token a.n is
        .retire (q.2.acceptCopy t.tile.val
          { org := .thread th x.regs.pc x.owner, bar := bar, ep := s.barEpoch bar, segs := q.1, pin := some (coreOf th, pin.1) })))

/-! Wheel commands -/

/-- R377: the fault of a command whose wheel is not in one of the states it requires. Tables in a poisoned line are not read: the
command ends with 0x0511 (R285). -/
def State.stateFault (s : State) (wn : Nat) (ok : List Nat) : Nat :=
  if !(s.wheelExists wn) then 0x0701
  else if s.poisoned (s.wheelAddr wn) 64 then 0x0511
  else if !(ok.contains (s.wheel wn).state) then 0x0725
  else if (s.wheel wn).state ≠ 0 ∧ s.rangesPoisoned (s.tableRanges wn (s.wheel wn)) then 0x0511
  else 0

/-- The wheels that a wheel command names (R515): SHARE names two. -/
def cmdWheels (opc : Nat) (c : Cmd) : List Nat := if opc = 0x11 then [c.body 0 2, c.body 2 2] else [c.body 0 2]

/-- The tables that a wheel command reads or writes: those of its wheels, and those that a CREATE makes. -/
def State.cmdTables (s : State) (opc : Nat) (c : Cmd) : List (Nat × Nat) :=
  if opc = 0x10 then s.tableRanges (c.body 0 2) (Wheel.dec (c.bits (128 + 128) 512))
  else (cmdWheels opc c).flatMap (fun wn => s.tableRanges wn (s.wheel wn))

/-- R282, R600: the records lie in memory whose accesses are held, or some tables do. -/
def State.tablesHeld (s : State) (l : List (Nat × Nat)) : Bool :=
  s.anyHeld ((s.fld Fd.KV_TABLE_REC_REC_BASE * 32, s.fld Fd.KV_TABLE_RECS_RECS * 32) :: l)

/-- R378: a wheel command runs when the wheel unit is free and no KV.PUT waits for it: its fault at once, or its effect. It waits
while accesses to its tables are held (R282). -/
def State.wheelCmd (s : State) (k : CmdRef) (opc : Nat) (used : List (Nat × Nat)) (run : Cmd → State → State) : State :=
  match s.cmd k with
  | none => s
  | some c =>
    if s.mayStart k [opc] ∧ s.wops = [] ∧ s.kvWaiting = [] ∧ !(s.tablesHeld (s.cmdTables opc c)) then
      let s := s.startCmd k
      if c.clean used then run c ((s.touchAll ((cmdWheels opc c).map (fun w => (s.wheelAddr w, 64)))).newTry 0) else s.finishCmd k 0x0A11
    else s

/-- R350: a range lies wholly inside the protected range. -/
def State.inProt (s : State) (a n : Nat) : Bool :=
  let b := s.fld Fd.KV_PROT_BASE * 4096
  decide (b ≤ a) && decide (a + n ≤ b + s.fld Fd.KV_PROT_SIZE_MIB * 2 ^ 20)

/-- R348: formats a wheel may have, and those that may carry scales. -/
def wheelFmts : List Nat := [0, 1, 2, 3, 4, 6, 7]
/-- R348: formats that may carry block scales. -/
def wheelScaled : List Nat := [3, 4, 6, 7]

/-- R377: the fields and tables of a new wheel are valid (0x0704). -/
def State.createOk (s : State) (w : Wheel) : Bool :=
  w.state = 0 && w.pages = 0 && w.caveUsed = 0 && !w.reserved
    && decide (w.psize ≤ 10) && decide (w.rowb ≤ w.size)
    && wheelFmts.contains w.fmt && (!w.scaleEn || wheelScaled.contains w.fmt)
    && decide (w.rowb * 8 / fmtWidth w.fmt % 32 = 0)
    && decide (1 ≤ w.ntok) && decide (w.tbase + w.ntok ≤ 16777216)
    && decide (w.dir % 4096 = 0) && decide (w.leaf % 4096 = 0)
    && s.inProt w.dir (w.streams * 8) && s.inProt w.leaf (w.streams * w.indices * 16)
    && (w.cave = 0 || (decide (w.cave % w.size = 0) && decide (regionOf w.cave = .host)))
    && s.isSet (Fd.KV_POOL_CFG_PEN w.pool) && decide (s.fld (Fd.KV_POOL_CFG_PSIZE w.pool) = w.psize)

/-- CREATE (R377, R353): descriptor, directory and cleared leaf tables. -/
def execCreate (k : CmdRef) (s : State) : Host.Outcome State Fault Refusal :=
  .next (s.wheelCmd k 0x10 [(0, 2), (16, 64)] (fun c s =>
    let wn := c.body 0 2
    let f := s.stateFault wn [0]
    let v := c.bits (128 + 128) 512
    let w := Wheel.dec v
    if f ≠ 0 then s.finishCmd k f
    else if !(s.createOk w) then s.finishCmd k 0x0704
    else
      let s := s.zeroRange (selfDev w.leaf) (w.streams * w.indices * 16)
      let s := (List.range w.streams).foldl (fun s d =>
        s.kvWrite (w.dir + 8 * d) 8 (1 + (w.leaf + d * w.indices * 16) / 16 * 16)) s
      ((s.kvWrite (s.wheelAddr wn) 64 (setBits v 0 3 1)).forget wn).finishCmd k 0))

/-- SHARE (R366): page indices i0 to i1 − 1 of every stream, COW set in both wheels. -/
def execShare (k : CmdRef) (s : State) : Host.Outcome State Fault Refusal :=
  .next (s.wheelCmd k 0x11 [(0, 4), (8, 8)] (fun c s =>
    let a := c.body 0 2
    let b := c.body 2 2
    let i0 := c.body 8 4
    let i1 := c.body 12 4
    let f := s.stateFault a [1]
    let g := s.stateFault b [1]
    if f = 0x0701 ∨ g = 0x0701 then s.finishCmd k 0x0701
    else if f = 0x0511 ∨ g = 0x0511 then s.finishCmd k 0x0511
    else if f ≠ 0 ∨ g ≠ 0 then s.finishCmd k 0x0725
    else if i1 ≤ i0 then s.finishCmd k 0
    else
      let x := s.wheel a
      let y := s.wheel b
      let ps := (List.range x.streams).flatMap (fun d => (List.range (i1 - i0)).map (fun j => (d, i0 + j)))
      let geo := x.psize = y.psize ∧ x.fmt = y.fmt ∧ x.scaleEn = y.scaleEn ∧ x.rowbLog = y.rowbLog
        ∧ x.layers = y.layers ∧ x.groups = y.groups ∧ x.tbase = y.tbase ∧ i1 ≤ x.indices ∧ i1 ≤ y.indices
      if ¬geo ∨ ps.any (fun p => (s.entry y p.1 p.2).valid) then s.finishCmd k 0x0706
      else
        let s := ps.foldl (fun s p =>
          let e := s.entry x p.1 p.2
          if e.valid then
            let e := { e with cow := true }
            let s := (s.setEntry a p.1 p.2 e).setEntry b p.1 p.2 e
            let s := if e.record = noRec then s else s.setRec e.record 0 24 (s.recBits e.record 0 24 + 1)
            s.setWheel b 96 32 ((s.wheel b).pages + 1)
          else s) s
        s.finishCmd k 0))

/-- COPY of a wheel (R377, R368): copy-on-write of every COW entry of a page range. -/
def execWheelCopy (k : CmdRef) (s : State) : Host.Outcome State Fault Refusal :=
  .next (s.wheelCmd k 0x12 [(0, 2), (8, 8)] (fun c s =>
    let wn := c.body 0 2
    let i0 := c.body 8 4
    let i1 := c.body 12 4
    let f := s.stateFault wn [1]
    if f ≠ 0 then s.finishCmd k f
    else
      let w := s.wheel wn
      let ps := w.places.filter (fun p => decide (i0 ≤ p.2) && decide (p.2 < i1) && (s.entry w p.1 p.2).cow)
      ({ s with wops := [.cowList wn ps k] } : State).wheelProceed))

/-- FREE (R371): every valid entry is dropped in page order, and the wheel is FREE. -/
def execFree (k : CmdRef) (s : State) : Host.Outcome State Fault Refusal :=
  .next (
    let wait := match s.cmd k with
      | some c => s.stateFault (c.body 0 2) [1, 3, 5] = 0 && !(s.epochRoom (s.wheel (c.body 0 2)).pages)
      | none => false
    if wait then s
    else s.wheelCmd k 0x13 [(0, 2)] (fun c s =>
      let wn := c.body 0 2
      let f := s.stateFault wn [1, 3, 5]
      if f ≠ 0 then s.finishCmd k f
      else
        let w := s.wheel wn
        let s := w.places.foldl (fun s p =>
          let e := s.entry w p.1 p.2
          if e.valid then s.swing wn p.1 p.2 { e with valid := false } else s) s
        ((s.setWheelState wn 0).setWheel wn 96 32 0).finishCmd k 0))

/-- PARK (R373): cause 0; the command completes with the park. -/
def execPark (k : CmdRef) (s : State) : Host.Outcome State Fault Refusal :=
  .next (s.wheelCmd k 0x14 [(0, 2)] (fun c s =>
    let wn := c.body 0 2
    let f := s.stateFault wn [1]
    if f ≠ 0 then s.finishCmd k f else s.startPark wn 0 (some k)))

/-- R374: a resume that cannot go on: the frames taken are returned, the wheel is PARKED again, the command faults. -/
def State.resumeFail (s : State) (wn : Nat) (got : List (Nat × Nat × Nat)) (k : CmdRef) (rest : List WheelOp) (fault : Nat) :
    State :=
  let s := s.freeTaken got
  ({ s.setWheelState wn 3 with wops := rest } : State).finishCmd k fault

/-- R374: begin the copy of a resume's next page: a frame is allocated for it. With the pool empty the frames taken are
returned, and the wheel is PARKED again with fault 0x0722. After the last page the entries are written. -/
def State.resumeNext (s : State) (wn : Nat) (todo : List (Nat × Nat)) (got : List (Nat × Nat × Nat)) (k : CmdRef)
    (rest : List WheelOp) : State :=
  let w := s.wheel wn
  match todo with
  | [] =>
    let s := got.foldl (fun s g => s.setEntry wn g.1 g.2.1 (s.entryOf w.pool g.2.2)) s
    let s := (s.setWheelState wn 1).incFld Fd.KV_STAT_RESUMES
    ({ s with wops := rest } : State).finishCmd k 0
  | (d, i) :: _ =>
    match s.allocRec w.pool with
    | none =>
      (s.incFld (Fd.KV_POOL_STAT_EMPTY_HITS w.pool)).resumeFail wn got k rest 0x0722
    | some (r, s) =>
      let e := s.entry w d i
      let n := s.entryOf w.pool r
      let q := s.beginPage pinWheelUnit (w.pieces e.frame e.scale n.frame n.scale)
      { q.2 with wops := .resume wn todo (got ++ [(d, i, r)]) k (some q.1) :: rest }

/-- RESUME (R374): the pages whose entries name no record come back from the cave. -/
def execResume (k : CmdRef) (s : State) : Host.Outcome State Fault Refusal :=
  .next (s.wheelCmd k 0x15 [(0, 2)] (fun c s =>
    let wn := c.body 0 2
    let f := s.stateFault wn [3]
    if f ≠ 0 then s.finishCmd k f
    else
      let w := s.wheel wn
      let ps := w.places.filter (fun p => let e := s.entry w p.1 p.2; e.valid && e.record = noRec)
      (s.setWheelState wn 4).resumeNext wn ps [] k []))

/-! Steps of the wheel unit -/

/-- CAVE_SLOT_COPY_DONE (R373, R374): the page copied between a frame and a cave slot is whole. A park swings its entry; past
a poisoned page, or one a peer did not deliver, it leaves the entry where it is and ends with that fault (R285, R325). A
resume that meets one ends as R374 ends it; one that a compute-part reset cut off begins again (R376). -/
def execCaveSlotCopyDone (s : State) : Host.Outcome State Fault Refusal :=
  match s.wops with
  | .park wn ((d, i) :: more) slots cause k fault (some cp) false :: rest =>
    if cp.reads ≠ 0 ∨ !(s.epochRoom 1) ∨ s.tablesHeld (s.walkRanges wn d i ++ s.pageRanges cp) then .next s
    else
      let q := if cp.fault = 0 then s.writePage cp else (s, cp.fault)
      let w := q.1.wheel wn
      let s := if q.2 ≠ 0 then q.1 else q.1.swing wn d i (w.caveEntry slots)
      let s := s.dropPin cp.pin.1 cp.pin.2
      let r := s.parkNext wn more (if q.2 ≠ 0 then slots else slots + 1) cause k (if q.2 ≠ 0 then q.2 else fault)
      .next { r.2 with wops := r.1 :: rest }
  | .resume wn ((d, i) :: more) got k (some cp) :: rest =>
    if cp.reads ≠ 0 ∨ s.tablesHeld (s.walkRanges wn d i ++ s.pageRanges cp) then .next s
    else
      let q := if cp.moved ∨ cp.fault ≠ 0 then (s, cp.fault) else s.writePage cp
      let s := q.1
      let bad := q.2
      if bad ≠ 0 then .next ((s.dropPin cp.pin.1 cp.pin.2).resumeFail wn got k rest bad)
      else if s.wheelWrites then .next { s with wops := .resume wn ((d, i) :: more) got k (some { cp with moved := true }) :: rest }
      else .next ((s.dropPin cp.pin.1 cp.pin.2).resumeNext wn more got k rest)
  | .resume wn todo got k none :: rest => .next (if s.computeUp then s.resumeNext wn todo got k rest else s)
  | _ => .next s

/-- R368: a copy-on-write that a peer or poison stopped (R285, R325): its new frame is returned; the COPY command it belongs
to ends with the fault, and an access that waits for the copy begins it again. -/
def State.cowFail (s : State) (rec0 fault : Nat) (cp : PageCopy) (rest : List WheelOp) : State :=
  let s := (s.giveBack rec0).dropPin cp.pin.1 cp.pin.2
  match rest with
  | .cowList _ _ k :: more => ({ s with wops := more } : State).finishCmd k fault
  | _ => { s with wops := rest }

/-- COW_COPY_DONE (R368): the new frame is whole; the entry swings to it and the cache forgets the wheel. -/
def execCowCopyDone (s : State) : Host.Outcome State Fault Refusal :=
  match s.wops with
  | .cow wn d i r cp :: rest =>
    if cp.reads ≠ 0 ∨ !(s.epochRoom 1) ∨ s.tablesHeld (s.walkRanges wn d i ++ s.pageRanges cp) then .next s
    else
      let q := if cp.moved ∨ cp.fault ≠ 0 then (s, cp.fault) else s.writePage cp
      let s := q.1
      let bad := q.2
      if bad ≠ 0 then .next (s.cowFail r bad cp rest)
      else if s.wheelWrites then .next { s with wops := .cow wn d i r { cp with moved := true } :: rest }
      else
        let s := s.swing wn d i (s.entryOf (s.wheel wn).pool r)
        let s := (s.dropPin cp.pin.1 cp.pin.2).incFld Fd.KV_STAT_COWS
        .next ({ s with wops := rest } : State).wheelProceed
  | _ => .next s

/-- R375: the KV event ring has room. -/
def State.kvRingRoom (s : State) : Bool :=
  decide ((s.fld Fd.KV_EVT_PTR_HEAD + 2 ^ 20 - s.fld Fd.KV_EVT_PTR_KV_EVT_TAIL) % 2 ^ 20
    < 2 ^ (s.fld Fd.KV_EVT_ENTRIES_LOG + 4))

/-- R375: write a park's event record. -/
def State.parkRecord (s : State) (wn cause fault slots : Nat) : State :=
  let w := s.wheel wn
  let rec0 := wn + cause * 2 ^ 16 + fault * 2 ^ 32 + w.job * 2 ^ 48 + slots % 2 ^ 32 * 2 ^ 64 + w.stream * 2 ^ 96
    + s.kvSeq.toNat * 2 ^ 128
  let h := s.fld Fd.KV_EVT_PTR_HEAD
  let a := s.fld Fd.KV_EVT_BASE * 32 + h % 2 ^ (s.fld Fd.KV_EVT_ENTRIES_LOG + 4) * 32
  let s := s.ringPut a (leBytes 32 rec0)
  let s := { s.incFld Fd.KV_EVT_PTR_HEAD with kvSeq := s.kvSeq + 1 }
  if s.isSet Fd.KV_EVT_VEC_EN then s.raiseVec (s.fld Fd.HST_IRQ_CTL_EVT_PORT) (s.fld Fd.KV_EVT_VEC) else s

/-- PARK_FINISH (R373, R375): the park's final step, once the event ring has room. -/
def execParkFinish (s : State) : Host.Outcome State Fault Refusal :=
  match s.wops with
  | .park wn _ slots cause k fault _ true :: rest =>
    if !s.kvRingRoom then .next s
    else
      let s := if (s.wheel wn).state = 3 then s.incFld Fd.KV_STAT_PARKS else s
      let s := s.parkRecord wn cause fault slots
      let s := match k with
        | some k => s.finishCmd k fault
        | none => s
      .next ({ s with wops := rest } : State).wheelProceed
  | _ => .next s

/-- POOL_LOW_PREEMPT (R372): a pool's free count is below LOW; a victim is parked in the background, cause 2. -/
def execPoolLowPreempt (pool : Fin 16) (s : State) : Host.Outcome State Fault Refusal :=
  let p := pool.val
  if s.isSet Fd.KV_CTL_EN ∧ s.wops = [] ∧ s.kvWaiting = [] ∧ s.fld (Fd.KV_POOL_STAT_FREE p) < s.fld (Fd.KV_POOL_CFG_LOW p) then
    match s.victim p 15 65536 [] with
    | some x => .next (s.startPark x 2 none)
    | none => .next s
  else .next s

/-- FRAME_RECLAIM (R370, R358): a record whose readers have all finished returns to its pool, zeroed where the pool says
so; it waits while its record or frame is held (R282). -/
def execFrameReclaim (rec : BitVec 24) (s : State) : Host.Outcome State Fault Refusal :=
  let r := rec.toNat
  let fe := BitVec.ofNat 32 (s.recBits r 32 32)
  let cur := s.kvEpoch
  let rs := (s.frameRanges r).filterMap (fun x => if s.here x.1 then some ((devSplit x.1).2, x.2) else none)
  if s.reclaim.contains r ∧ !(s.tablesHeld rs) ∧ s.busyEpochs.all (fun e => decide ((cur - e).toNat < (cur - fe).toNat)) then
    let s := s.reclaimRec r
    .next ({ s with reclaim := s.reclaim.filter (· ≠ r) } : State).wheelProceed
  else .next s

/-! Enabling (R356, R357) -/

/-- R356: a write of 1 to EN while it is 0 starts the check. -/
def State.kvEnable (s : State) : State := if s.isSet Fd.KV_CTL_EN then s else s.setFld Fd.KV_CTL_CHECKING 1

/-- KV_ENABLE (R356). -/
def execKvEnable (s : State) : Host.Outcome State Fault Refusal := .next (s.hostWrite State.kvEnable)

/-- R356: the records of a pool's free list as far as it goes, at most n. -/
def State.freeList (s : State) : Nat → Nat → List Nat
  | 0, _ => []
  | n + 1, r => if r = noRec ∨ s.fld Fd.KV_TABLE_RECS_RECS ≤ r then [r] else r :: State.freeList s n (s.recBits r 192 24)

/-- R356: the class that LOC names holds a frame of n bytes: a vat of a tile in service, installed memory, an open host window, or a
peer's far memory. -/
def State.classHolds (s : State) (loc dev n : Nat) : Bool :=
  let a := (devSplit dev).2
  let z := a + n - 1
  let both (q : Nat → Bool) : Bool := q a && q z
  match loc with
  | 0 => s.here dev && (match regionOf a, regionOf z with | .vat t, .vat u => t = u && s.tileOn t | _, _ => false)
  | 1 => s.here dev && both (fun x => regionOf x = .near && decide (x < 0x100000000000 + s.tierSize .near))
  | 2 => s.here dev && both (fun x => regionOf x = .far && decide (x < s.tierSize .far))
  | 3 => s.here dev && both (fun x => regionOf x = .host && (s.winAt x).isSome)
  | 4 => !(s.here dev) && both (fun x => regionOf x = .far)
  | _ => false

/-- The frame and the scale array of a record of a pool, as device ranges. -/
def State.recRanges (s : State) (pool r : Nat) : List (Nat × Nat) :=
  let n := 2 ^ (s.fld (Fd.KV_POOL_CFG_PSIZE pool) + 16)
  [(s.recBits r 64 64, n), (s.recBits r 128 64, n / 16)]

/-- R356: one record passes, given the ranges of those before it. -/
def State.recOk (s : State) (pool r : Nat) (before : List (Nat × Nat)) : Bool :=
  let n := 2 ^ (s.fld (Fd.KV_POOL_CFG_PSIZE pool) + 16)
  let f := s.recBits r 64 64
  let sc := s.recBits r 128 64
  let prot := (selfDev (s.fld Fd.KV_PROT_BASE * 4096), s.fld Fd.KV_PROT_SIZE_MIB * 2 ^ 20)
  decide (f % n = 0) && decide (sc % 2048 = 0) && s.classHolds (s.fld (Fd.KV_POOL_CFG_LOC pool)) f n
    && !(s.devMeet f sc n (n / 16))
    && (s.recRanges pool r).all (fun x => !(s.devMeet x.1 prot.1 x.2 prot.2)
        && before.all (fun y => !(s.devMeet x.1 y.1 x.2 y.2)))

/-- R356: the first failing record over every pool, or none. -/
def State.poolCheck (s : State) : Option Nat :=
  ((List.range 16).foldl (fun (q : Option Nat × List (Nat × Nat)) p =>
    if q.1.isSome then q
    else
      let n := s.fld (Fd.KV_POOL_STAT_FREE p)
      let l := s.freeList (n + 1) (s.fld (Fd.KV_POOL_CFG_HEAD p))
      let recs := l.take n
      let r := recs.foldl (fun (q : Option Nat × List (Nat × Nat)) x =>
        if q.1.isSome then q
        else if x = noRec ∨ s.fld Fd.KV_TABLE_RECS_RECS ≤ x ∨ !(s.recOk p x q.2) then (some x, q.2)
        else (none, q.2 ++ s.recRanges p x)) q
      if r.1.isSome then r
      else if l.length = n + 1 ∧ l.getLast? = some noRec then r
      else (some (l.getLast?.getD noRec), r.2)) (none, [])).1

/-- KV_CHECK_DONE (R356): the check ends. -/
def execKvCheckDone (s : State) : Host.Outcome State Fault Refusal :=
  if s.isSet Fd.KV_CTL_CHECKING ∧ !(s.tablesHeld []) then
    let s := s.setFld Fd.KV_CTL_CHECKING 0
    match s.poolCheck with
    | none => .next (s.setFld Fd.KV_CTL_EN 1)
    | some r => .next ((s.setFld Fd.KV_CTL_CFG_BAD 1).setFld Fd.KV_CTL_CFG_ERR r)
  else .next s

/-- R357: every wheel is FREE. -/
def State.allFree (s : State) : Bool := (List.range (s.fld Fd.KV_TABLE_WHEELS)).all (fun w => decide ((s.wheel w).state = 0))

/-- R357: EN is cleared only when every wheel is FREE. -/
def State.kvDisable (s : State) : State :=
  if !(s.isSet Fd.KV_CTL_EN) then s else if s.allFree then s.setFld Fd.KV_CTL_EN 0 else s.log 0x0708

/-- KV_DISABLE (R357). -/
def execKvDisable (s : State) : Host.Outcome State Fault Refusal := .next (s.hostWrite State.kvDisable)

/-- KV_EVT_TAIL_WRITE (R375). -/
def execKvEvtTailWrite (tail : BitVec 20) (s : State) : Host.Outcome State Fault Refusal :=
  .next (s.hostWriteIn 11 (fun s => s.setFld Fd.KV_EVT_PTR_KV_EVT_TAIL tail.toNat))

end Sys2Proof.Machine
end

