-- ==== Sys2Proof/Machine/LoadOps.lean ====
section
/-! DEFINITION. How loads deliver (R63, R109, R261), and what an answer, an acknowledgement or a failed flow means to the
operation that waits for it (R316, R318, R321, R325, R478). -/

namespace Sys2Proof.Machine

/-- R485, R486: the registers with a load's value delivered. Lanes not loaded keep their bits, and their tag joins. -/
def TRegs.putLoad (r : TRegs) (l : Load) (v : Nat) : TRegs :=
  match l.dest with
  | .scalar i =>
    let x := v % 2 ^ (8 * l.size)
    r.setG i (BitVec.ofNat 64 (if l.sext then toTwos 64 (signed (8 * l.size) x) else x)) l.tag
  | .vector i lanes =>
    r.setV i (vLanes (r.getV i) lanes (fun k => bits v (32 * (k - l.skip)) 32)) (if lanes = allLanes then l.tag else l.tag ||| r.tag (vR i))
  | .desc i => r.setD i (BitVec.ofNat 128 v) l.tag

/-- A load of a thread delivers a value: into its registers, and into every checkpoint taken after it issued (R109). -/
def State.deliver (s : State) (t : Nat) (l : Load) (v : Nat) : State :=
  let x := s.thread t
  s.setThread t { x with
    regs := x.regs.putLoad l v
    loads := x.loads.filter (fun k => k.dest.code ≠ l.dest.code)
    ckpts := x.ckpts.map (fun e => (e.1, if l.ord ≤ e.2.ord then { e.2 with regs := e.2.regs.putLoad l v } else e.2)) }

/-- LOCAL_LOAD_RETURN (R261): the oldest load of a thread from this module returns. -/
def execLocalLoadReturn (t : Tid) (s : State) : Host.Outcome State Fault Refusal :=
  .next (match (s.thread t.code).loads.find? (fun l => l.remote.isNone) with
  | none => s
  | some l => s.deliver t.code l l.value)

/-- R318, R478: an answer for a thread's load or atomic: its value, or a fault. One that was rewound has nothing to wait
for. -/
def State.answerThread (s : State) (t pc : Nat) (owner : Option CmdRef) (tag status : Nat) (bs : List Byte) : State :=
  let x := s.thread t
  if x.st = .free ∨ x.owner ≠ owner then (if status = 0 then s else s.failLater t (BitVec.ofNat 16 status) pc owner)
  else match x.loads.find? (fun l => l.remote = some (BitVec.ofNat 32 tag)) with
    | none => s
    | some l =>
      if status = 0 then s.deliver t l (leNat bs)
      else
        let s := s.setThread t { x with loads := x.loads.filter (fun k => k.remote ≠ some (BitVec.ofNat 32 tag)) }
        s.failLater t (BitVec.ofNat 16 status) pc owner

/-- R319, R326: a transaction's bytes of which some have landed flit by flit: those are neither written nor counted again. -/
def State.answerLanded (s : State) (tile id landed : Nat) (bs : List Byte) : State :=
  match SMap.find (s.tile tile).txns id with
  | none => s
  | some x =>
    let rest := bs.drop landed
    let s := match SMap.find (s.tile tile).copies x.copy with
      | none => s
      | some c =>
        let r := s.store (cellsFrom ((devSplit (c.target x.op).1).2 + landed) rest)
        r.1.alterCopy tile x.copy (fun c => { c with
          fault := keepFault c.fault (if r.2 then 0x0511 else 0), moved := c.moved + bs.length
          landed := if x.op.counts then c.landed + rest.length else c.landed })
    s.endTxn tile id x.copy

/-- R318: what an answer means to the one who waits for its tag; `landed` bytes of its data have landed already. -/
def State.answerTag (s : State) (tag status : Nat) (bs : List Byte) (landed : Nat := 0) : State :=
  match SMap.find s.waiters tag with
  | none => s
  | some w =>
    let s : State := { s with waiters := SMap.erase s.waiters tag }
    match w with
    | .thread t pc owner => s.answerThread t pc owner tag status bs
    | .txn tile id => if landed = 0 ∨ status ≠ 0 then s.answerTxn tile id status bs else s.answerLanded tile id landed bs
    | .wheel src => s.wheelAnswer src status bs
    | .fill k _ => s.answerChk k status bs landed
    | .piste k => s.answerPiste k status bs
    | .lap i id src => s.lapAnswer i id src status bs

/-- R321: an operation other than a thread's load completes only once its request is acknowledged too. -/
def State.awaitsAck (s : State) (tag : Nat) : Bool :=
  match SMap.find s.waiters tag with
  | none => false
  | some (.thread _ _ _) => false
  | some _ => s.inFlight (fun o => o = .request tag)

/-- R316, R321: an answer arrives: it is taken, or kept until its request is acknowledged. -/
def State.answerArrives (s : State) (tag status : Nat) (bs : List Byte) (landed : Nat) : State :=
  if s.awaitsAck tag then { s with early := s.early.set tag { status := status, bytes := bs, landed := landed } }
  else s.answerTag tag status bs landed

/-- R321: a request is acknowledged: an answer kept for it is taken. -/
def State.requestAcked (s : State) (tag : Nat) : State :=
  match SMap.find s.early tag with
  | none => s
  | some e => ({ s with early := SMap.erase s.early tag } : State).answerTag tag e.status e.bytes e.landed

/-- R318, R478: a store or atomic failed at its home. -/
def State.statusTag (s : State) (tag status : Nat) : State :=
  match SMap.find s.waiters tag with
  | some (.thread t pc owner) =>
    ({ s with waiters := SMap.erase s.waiters tag } : State).failLater t (BitVec.ofNat 16 status) pc owner
  | some (.txn tile id) => ({ s with waiters := SMap.erase s.waiters tag } : State).failTxn tile id status
  | _ => s.answerTag tag status []

/-- The tag that a packet of a store or atomic carries (R318, R488; log entry 18). -/
def bodyTag (body : List Byte) : Nat := leNat ((body.drop 12).take 4)

/-- R321: a packet has been acknowledged: what that means to its operation. -/
def State.packetAcked (s : State) (k : SentPkt) : State :=
  match k.org with
  | .none => s
  | .forward => s
  | .fwLoad => if s.inFlight (fun o => o = .fwLoad) then s
    else (s.setFld Fd.MC_FWB_CTL_START 0).setFld Fd.MC_FWB_STAT_STATE 2
  | .request tag => s.requestAcked tag
  | .atomic _ _ _ _ => s
  | .store _ _ _ => { s with waiters := SMap.erase s.waiters (bodyTag k.pkt.body) }
  | .txn tile id => ({ s with waiters := SMap.erase s.waiters (bodyTag k.pkt.body) } : State).ackTxn tile id
  | .lap i id =>
    if s.inFlight (fun o => o = .lap i id) then s else s.lapSent i id
  | .relay h gen _ => if gen = s.relGen h then s.relayAdvance h else s
  | .bulk k => s.ackChk k
  | .wheel => s

/-- R325: the flow of an operation's packets failed: the operation completes with the fault. -/
def State.originFailed (s : State) (o : Origin) (fault : Nat) : State :=
  match o with
  | .none => s
  | .forward => s
  | .fwLoad => ((s.setFld Fd.MC_FWB_CTL_START 0).setFld Fd.MC_FWB_STAT_STATE 3).setFld Fd.MC_FWB_STAT_FAULT fault
  | .request tag => ({ s with early := SMap.erase s.early tag } : State).answerTag tag fault []
  | .atomic _ _ _ tag => s.answerTag tag fault []
  | .store t pc owner => s.failLater t (BitVec.ofNat 16 fault) pc owner
  | .txn tile id => s.failTxn tile id fault
  | .lap i id => s.lapSliceFailed i id fault
  | .relay h gen _ => if gen = s.relGen h then s.relayFail h fault else s
  | .bulk k => s.failChk k fault
  | .wheel => s.wheelFail fault

/-- Two origins belong to one operation. -/
def Origin.same (a b : Origin) : Bool :=
  match a, b with
  | .lap i _, .lap j _ => i = j
  | .relay h g _, .relay h' g' _ => h = h' && g = g'
  | .store _ _ _, .store _ _ _ => false
  | .none, .none => false
  | .forward, .forward => false
  | _, _ => a = b

/-- R320: a place among the open send flows is free: a flow that waits for one takes it. -/
def State.admitFlow (s : State) : State :=
  match s.sends.find? (fun e => e.2.held) with
  | some (key, f) =>
    if s.openFlows < 32768 then (s.openFlow (key / 16) (key % 16) f.waiting).pumpFlow (key / 16) (key % 16) f.waiting.length else s
  | none => s

/-- R325: the operations that a failed flow ends: those with a packet unacknowledged, or those waiting where there is none; on a lap VC every
slice whose packets it held. -/
def SendFlow.failing (f : SendFlow) (vc : Nat) : List Origin :=
  ((if f.unacked = [] ∨ vc = 2 ∨ vc = 3 then f.unacked.map (·.org) ++ f.waiting.map (·.org) else f.unacked.map (·.org))).eraseDups

/-- R405, R563: a lap in progress toward a module whose flow failed is given up. -/
def State.lapFlowFailed (s : State) (d vc fault : Nat) : State :=
  if (vc = 2 ∨ vc = 3) ∧ (s.lap (vc - 2)).next = d then s.lapGiveUp (vc - 2) fault else s

/-- R324, R325, R335: a send flow fails. Its operations complete with the fault: those with a packet unacknowledged, or those waiting
where none has one. What others had waiting stays for the flow that opens in its place, after its wait. -/
def State.failFlow (s : State) (d vc fault : Nat) : State :=
  match SMap.find s.sends (d * 16 + vc) with
  | none => s
  | some f =>
    let orgs := f.failing vc
    let left := f.waiting.filter (fun w => !w.cls && !(orgs.any (fun o => o.same w.org)))
    let g : SendFlow := { epoch := f.epoch, piste := s.pisteFor d s.curPiste, waiting := left, reopen := true }
    let s : State := { s with
      fcount := s.fcount + 1, sends := s.sends.set (d * 16 + vc) g, failedEp := s.failedEp.set (d * 16 + vc) f.epoch }
    (orgs.foldl (fun s o => s.originFailed o fault) s.admitFlow).lapFlowFailed d vc fault

/-- R324: a flow opens in place of one that failed. -/
def State.reopenFlow (s : State) (d vc : Nat) : State :=
  match SMap.find s.sends (d * 16 + vc) with
  | none => s
  | some f =>
    if !f.reopen then s
    else if f.waiting = [] then { s with sends := SMap.erase s.sends (d * 16 + vc) }
    else
      (s.openFlow d vc f.waiting).pumpFlow d vc f.waiting.length

/-- R321, R323: a flow keeps what was not acknowledged; one that was closing ends with its last, or opens anew for what waits. -/
def State.flowLeft (s : State) (d vc : Nat) (f : SendFlow) (left : List SentPkt) : State :=
  if f.closing && left = [] then
    let s : State := { s with sends := SMap.erase s.sends (d * 16 + vc) }
    if f.waiting = [] then s.admitFlow else s.openFlow d vc f.waiting
  else { s with sends := s.sends.set (d * 16 + vc) { f with unacked := left, wait := 1 } }

/-- What waits on a flow goes out as far as it may. -/
def State.pumpLeft (s : State) (d vc : Nat) : State :=
  match SMap.find s.sends (d * 16 + vc) with
  | some g => s.pumpFlow d vc g.waiting.length
  | none => s

/-- R321, R323: a cumulative acknowledgement releases the packets up to a sequence number. A flow whose CLOSE is acknowledged
frees itself. -/
def State.ackFlow (s : State) (d vc : Nat) (epoch : BitVec 16) (seq : BitVec 32) : State :=
  match SMap.find s.sends (d * 16 + vc) with
  | none => s
  | some f =>
    if f.reopen ∨ f.epoch ≠ epoch then s
    else
      let done := f.unacked.filter (fun k => (seq - k.pkt.seq).toNat < 2 ^ 31)
      if done = [] then s
      else
        let left := f.unacked.filter (fun k => !((seq - k.pkt.seq).toNat < 2 ^ 31))
        (done.foldl State.packetAcked (s.flowLeft d vc f left)).pumpLeft d vc

/-- R325: every unacknowledged packet of a flow is sent again, in order, on its current route. -/
def State.resendFlow (s : State) (d vc : Nat) (f : SendFlow) : State :=
  f.unacked.foldl (fun s k =>
    let od := s.orderDir d vc f.piste
    s.emit k.typ { k.pkt with order := BitVec.ofNat 3 od.1, dir := BitVec.ofNat 6 od.2 }) s

/-- R325, R330: one wait of a flow ends without progress. A piste that has become invalid fails it. -/
def State.endWait (s : State) (d vc : Nat) : State :=
  match SMap.find s.sends (d * 16 + vc) with
  | none => s
  | some f =>
    if f.reopen ∨ f.unacked = [] then s
    else
      let f := { f with wait := min 16 (2 * f.wait) }
      if s.routeFault d vc f.piste = 0x0602 then s.failFlow d vc 0x0602
      else ({ s with sends := s.sends.set (d * 16 + vc) f } : State).resendFlow d vc f

end Sys2Proof.Machine
end

