-- ==== Sys2Proof/Machine/LinkOps.lean ====
section
/-! DEFINITION. Flits and their CRC (R305, R306, R666), and how a packet that passes through ends when the port that brings it
is retired (R334; log entry 41). -/

namespace Sys2Proof.Machine

/-! Layout -/

/-- R306: the 10 bytes of a flit header. -/
def flitHead (f : Flit) : List Byte :=
  leBytes 10 (f.kind.toNat + f.lseq.toNat * 2 ^ 2 + f.ack.toNat * 2 ^ 14 + b2n f.nak * 2 ^ 26 + f.vc.toNat * 2 ^ 27
    + b2n f.dclass * 2 ^ 31 + f.crVc.toNat * 2 ^ 32 + b2n f.crClass * 2 ^ 36 + f.crCount.toNat * 2 ^ 37 + f.fill.toNat * 2 ^ 43
    + b2n f.last * 2 ^ 51)

/-- R305: the CRC of a flit's bytes 0 to 265. -/
def flitCrc (f : Flit) : BitVec 32 := BitVec.ofNat 32 (crc32 (flitHead f ++ f.body))

/-- A flit with its correct CRC. -/
def Flit.seal (f : Flit) : Flit := { f with crc := flitCrc f }

/-- Change the first element that passes a test. -/
def alterFirst {α : Type} (q : α → Bool) (f : α → α) : List α → List α
  | [] => []
  | x :: xs => if q x then f x :: xs else x :: alterFirst q f xs

/-- A data flit of a port that carries bytes of a packet. -/
def dataFlit (x : LinkPort) (o : OutPkt) (bs : List Byte) : Flit :=
  { kind := 2, lseq := x.nextL, ack := x.expL - 1, nak := false, vc := o.pkt.vc, dclass := o.pkt.dclass, crVc := 0,
    crClass := false, crCount := 0, fill := BitVec.ofNat 8 (bs.length - 1), last := decide (o.len ≤ o.off + bs.length),
    body := bs ++ List.replicate (256 - bs.length) 0, crc := 0 }

/-- R314: n flits of a VC and class leave a port's receiver: credits go back for those of its own buffer, and for as many as wait there
places in the pool are free again. -/
def LinkPort.freed (x : LinkPort) (key n : Nat) : LinkPort :=
  let own := min n (x.kept.getD key 0)
  { x with
    kept := x.kept.set key (x.kept.getD key 0 - own)
    pooled := x.pooled.set key (x.pooled.getD key 0 - (n - own))
    returns := x.returns.set key (x.returns.getD key 0 + own) }

/-- R314: a flit of a VC and class that must wait comes in. While the shared pool has a place it takes that, and its credit goes back at
once; else it stays in the buffer of its own (DESIGN CHOICE, log entry 103). -/
def LinkPort.waits (x : LinkPort) (key : Nat) : LinkPort :=
  if (x.pooled.map (·.2)).sum < 2048 then
    { x with pooled := x.pooled.set key (x.pooled.getD key 0 + 1), returns := x.returns.set key (x.returns.getD key 0 + 1) }
  else { x with kept := x.kept.set key (x.kept.getD key 0 + 1) }

/-- The VC and class that a packet came in on. -/
def OutPkt.inKey (o : OutPkt) : Nat := o.pkt.vc.toNat * 2 + b2n o.inCls

/-- R314: the flits of a packet that have come and not gone on. -/
def OutPkt.flitsHere (o : OutPkt) : Nat := (o.pkt.body.length - o.off + 255) / 256

/-- Log entry 41: a packet that passes through, of which p brought a part and will bring no more, ends short: one not yet begun is
dropped; another ends with a flit that is LAST and whose bytes do not complete it. -/
def LinkPort.cutShort (x : LinkPort) (p : Nat) : LinkPort :=
  let short (o : OutPkt) : Bool := o.whence = p && decide (o.pkt.body.length < o.len)
  let pad (o : OutPkt) : List Byte := List.replicate (if o.len = o.pkt.body.length + 1 then 2 else 1) 0
  let holes := x.outq.filter (fun o => short o && decide (o.pkt.body.length < o.off))
  let replay := x.replay.map (fun r =>
    match holes.find? (fun o => r.hole && r.flit.vc = o.pkt.vc && r.flit.dclass = o.pkt.dclass) with
    | none => r
    | some o => { flit := Flit.seal { r.flit with
        fill := BitVec.ofNat 8 ((pad o).length - 1), last := true
        body := pad o ++ List.replicate (256 - (pad o).length) 0 } })
  let outq := (x.outq.filter (fun o => !(short o) || (o.hdrSent && decide (o.off ≤ o.pkt.body.length)))).map (fun o =>
    if short o then
      let body := o.pkt.body ++ pad o
      { o with len := body.length, pkt := { o.pkt with body := body } }
    else o)
  { x with replay := replay, outq := outq }

end Sys2Proof.Machine
end

