-- ==== Sys2Proof/Machine/Ports.lean ====
section
/-! DEFINITION. Jurvo ports and the torus: training, lanes and their retirement, draining and retraining, the retired set and
its notices, rerouting, revival and the seal (R301 to R304, R327, R331 to R336, R562). -/

namespace Sys2Proof.Machine

/-- R331: the lanes a port uses, given the lanes retired at either end: WIDTH, LANESET and their mask; none for a retired
lane in every quarter. -/
def laneSet (retired : Nat) : Option (Nat × Nat × Nat) :=
  let clear (lo n : Nat) : Bool := (List.range n).all (fun i => !bitAt retired (lo + i))
  let mask (lo n : Nat) : Nat := (2 ^ n - 1) * 2 ^ lo
  if clear 0 32 then some (3, 0, mask 0 32)
  else if clear 0 16 then some (2, 0, mask 0 16)
  else if clear 16 16 then some (2, 1, mask 16 16)
  else ([0, 1, 2, 3].find? (fun q => clear (8 * q) 8)).map (fun q => (1, q, mask (8 * q) 8))

/-- R597: the units of a port's saved settings: its lanes, but for the retired ones. -/
def State.laneUnits (s : State) (p : Nat) : List Nat :=
  ((List.range 32).filter (fun l => !(bitAt (s.fld (Fd.JL_P_LANES_RETIRED p)) l))).map (fun l => p * 32 + l)

/-- R334: the ports of this module that have a peer, but for one: those that are UP, draining or retraining. -/
def State.upPorts (s : State) (but : Nat) : List Nat :=
  (List.range 6).filter (fun q => q ≠ but && (s.portState q = 2 || s.portState q = 3
    || (s.portState q = 1 && s.fld (Fd.JL_P_STAT_GEN q) ≠ 0)))

/-- R318, R334: the body of a NOTICE: module, port, event. -/
def noticeBody (m p ev : Nat) : List Byte := leBytes 16 (m + p * 2 ^ 18 + ev * 2 ^ 21)

/-- R334: send a NOTICE out of a port, to the neighbour there. -/
def State.sendNotice (s : State) (q m p ev : Nat) : State :=
  let k := s.mkPacket (s.fld (Fd.JL_P_STAT_PEER_ID q)) 0 (0, 0) false false 0 0 (noticeBody m p ev)
  s.enqueue q 0x11 { k with dclass := s.startClass q } 6

/-- R334: send a NOTICE out of every port but one. -/
def State.sendNotices (s : State) (but m p ev : Nat) : State := (s.upPorts but).foldl (fun s q => s.sendNotice q m p ev) s

/-- R334: a port that comes up sends the NOTICEs that went out while it trained: those of the set of retired ports. -/
def State.sendKnown (s : State) (q : Nat) : State := s.retired.foldl (fun s e => s.sendNotice q (e / 8) (e % 8) 1) s

/-- R335: the packets of a flow leave a route for another: they are sent again there. -/
def State.switchFlow (s : State) (d vc : Nat) (f : SendFlow) : State :=
  (({ s with sends := s.sends.set (d * 16 + vc) f } : State).incFld Fd.JL_ROUTE_STAT_REROUTES).resendFlow d vc f

/-- R335, R304: a send flow whose route crosses a retired port takes its first clear alternative and sends again, or fails; so does one
that an Oftan bars, as R304 says. -/
def State.rerouteFlow (s : State) (d vc : Nat) : State :=
  match SMap.find s.sends (d * 16 + vc) with
  | none => s
  | some f =>
    if f.reopen ∨ f.unacked = [] then s
    else if vc = 0 then
      (if f.unacked.any (fun k => s.crosses d k.pkt.order.toNat k.pkt.dir.toNat) then
        (if s.routeFault d 0 0 = 0 then s.switchFlow d 0 f else s.failFlow d 0 0x0604)
      else s)
    else match s.routeFault d vc f.piste with
      | 0 => s
      | 0x0604 => (match s.altFrom d 3 f.piste with
        | some j =>
          let fault := s.routeFault d vc j
          if fault = 0 then s.switchFlow d vc { f with piste := j } else s.failFlow d vc fault
        | none => s.failFlow d vc 0x0604)
      | fault => s.failFlow d vc fault

/-- R335, R562: a flow that waits for a route while none is clear: it takes the piste it goes toward, or that piste's first clear
alternative; with neither, what waits on it fails. -/
def State.switchRoute (s : State) (d vc : Nat) : State :=
  match SMap.find s.sends (d * 16 + vc) with
  | none => s
  | some f =>
    match f.toward with
    | none => s
    | some i =>
      if f.reopen ∨ f.held ∨ f.unacked ≠ [] then s
      else
        let j := s.pisteFor d i
        let fault := s.routeFault d vc j
        let s : State := { s with sends := s.sends.set (d * 16 + vc) { f with piste := j, toward := none } }
        if fault = 0 ∨ f.waiting = [] then s.pumpFlow d vc f.waiting.length else s.failFlow d vc fault

/-- FLOW_ROUTE_SWITCH (R562, R335): a flow that waited for its last acknowledgement goes on by its new route. -/
def execFlowRouteSwitch (dst : ModId) (vc : BitVec 4) (s : State) : Host.Outcome State Fault Refusal :=
  .next (s.switchRoute dst.toNat vc.toNat)

/-- R335: when the retired set grows, every send flow is examined. -/
def State.rerouteAll (s : State) : State := (s.sends.map (·.1)).foldl (fun s k => s.rerouteFlow (k / 16) (k % 16)) s

/-- R334: a port enters the retired set, which holds up to 256. -/
def State.recordRetired (s : State) (m p : Nat) : State :=
  if s.retired.contains (m * 8 + p) ∨ 256 ≤ s.retired.length then s
  else
    let s : State := { s with retired := s.retired ++ [m * 8 + p] }
    s.setFld Fd.JL_ROUTE_STAT_DEAD_PORTS s.retired.length

/-- R334: a port leaves the retired set. -/
def State.forgetRetired (s : State) (m p : Nat) : State :=
  let s : State := { s with retired := s.retired.filter (· ≠ m * 8 + p) }
  s.setFld Fd.JL_ROUTE_STAT_DEAD_PORTS s.retired.length

/-- R334, R314: the packets queued for a port are discarded: the flits of theirs that wait in other ports' receivers leave them. -/
def State.dropQueue (s : State) (p : Nat) : State :=
  (s.link p).outq.foldl (fun s o => if o.whence < 6 then s.setLink o.whence ((s.link o.whence).freed o.inKey o.flitsHere) else s) s

/-- R334: a port of this module retires. -/
def State.retirePort (s : State) (p : Nat) : State :=
  if s.portState p = 4 then s
  else
    let s := (s.setFld (Fd.JL_P_STAT_STATE p) 4).logRec 0x0607 4 p
    let s := ((s.setFld (Fd.JL_P_STAT_GEN p) 0).setFld (Fd.JL_P_STAT_WIDTH p) 0).setFld (Fd.JL_P_LANES_LOCKED p) 0
    let s := (List.range 16).foldl (fun s v => s.setFld (Fd.JL_P_VC_STOPPED p v) 1) s
    let s := s.dropQueue p
    let s : State := { s with links := (SMap.erase s.links p).map (fun e => (e.1, e.2.cutShort p)) }
    let s := (s.recordRetired s.moduleId p).sendNotices p s.moduleId p 1
    s.rerouteAll

/-- R331: a port takes the lanes neither end has retired; with too few it retires. Answers whether it has lanes. -/
def State.takeLanes (s : State) (p : Nat) : State × Bool :=
  match laneSet (s.fld (Fd.JL_P_LANES_RETIRED p)) with
  | none => (s.retirePort p, false)
  | some (w, q, m) =>
    (((s.setFld (Fd.JL_P_STAT_WIDTH p) w).setFld (Fd.JL_P_STAT_LANESET p) q).setFld (Fd.JL_P_LANES_LOCKED p) m, true)

/-- R314: the credits a port holds once it comes up for the first time. -/
def freshLink : LinkPort := { credits := (List.range 32).map (fun i => (i, 32)) }

/-- R302, R332: the port is UP: what its replay buffer still holds is sent again. -/
def State.portUpNow (s : State) (p : Nat) : State :=
  let s := (List.range 16).foldl (fun s v => s.setFld (Fd.JL_P_VC_STOPPED p v) 0) (s.setFld (Fd.JL_P_STAT_STATE p) 2)
  let x := s.link p
  s.setLink p { x with resend := x.replay.map (fun r => r.flit.lseq), discarding := false }

/-- R579: stage 2 has powered the links. -/
def State.linkPower (s : State) : Bool := decide (2 ≤ s.fld Fd.PWR_STAGE_STAGE)

/-- R339: the ports that are gateway ports. -/
def State.showGateways (s : State) : State :=
  (List.range 6).foldl (fun s p => s.setFld (Fd.JL_P_STAT_GATEWAY p) (b2n (s.gatewayPort s.moduleId p))) s

/-- R340: show the lanes that either end of a port has retired. -/
def State.showLanes (s : State) (p : Nat) : State :=
  s.setFld (Fd.JL_P_LANES_RETIRED p) (s.ownLanes.getD p 0 ||| s.peerLanes.getD p 0)

/-- R303, R340: the peer's retired lanes, as training learns them. -/
def State.learnLanes (s : State) (p : Nat) (lanes : BitVec 32) : State :=
  ({ s with peerLanes := s.peerLanes.set p lanes.toNat } : State).showLanes p

/-- R336: a port that a REVIVE trained is UP: it leaves the retired set everywhere. -/
def State.revivedUp (s : State) (p : Nat) : State :=
  let x := s.link p
  if x.revived ∨ s.retired.contains (s.moduleId * 8 + p) then
    ((s.setLink p { x with revived := false }).forgetRetired s.moduleId p).sendNotices 6 s.moduleId p 2
  else s

/-- R333: a retraining has failed: it counts, and retires the port at the limit; else the port retrains again. -/
def State.retrainFailed (s : State) (p : Nat) : State :=
  let s := s.incFld (Fd.JL_P_STAT_RETRAIN_FAILS p)
  if s.fld (Fd.JL_P_THRESH_RETRAIN_LIMIT p) ≤ s.fld (Fd.JL_P_STAT_RETRAIN_FAILS p) then s.retirePort p
  else s.satFld (Fd.JL_P_COUNT_RETRAINS p)

/-- PORT_TRAINING_DONE (R303, R304, R334, R336, R598): a port in training learns its peer, settles its lanes' saved settings and comes up; a
first training that fails goes on, and one that a REVIVE began counts as a failed retraining (R333). A flow that an Oftan then bars
fails (R304). -/
def execPortTrainingDone (p : Port) (info : TrainInfo) (s : State) : Host.Outcome State Fault Refusal :=
  let q := p.val
  if s.portState q ≠ 1 ∨ s.fld (Fd.JL_P_STAT_GEN q) ≠ 0 then .next s
  else if !info.ok then .next (if (s.link q).revived then s.retrainFailed q else s)
  else
    let gen := if info.oftan ∨ (s.link q).gen1 ∨ info.gen.toNat < 2 then 1 else 2
    let was := (s.link q).revived
    let s := s.learnLanes q info.peerRetired
    let r := s.takeLanes q
    if !r.2 then .next r.1
    else
      let s := (s.laneUnits q).foldl (fun s u => s.useSetting 1 u info.cond) r.1
      let s := (s.setFld (Fd.JL_P_STAT_GEN q) gen).setFld (Fd.JL_P_STAT_OFTAN q) (b2n info.oftan)
      let s := (s.setFld (Fd.JL_P_STAT_PEER_ID q) info.peerId.toNat).setFld (Fd.JL_P_STAT_PEER_PORT q) info.peerPort.toNat
      let s := (s.showGateways.setLink q { freshLink with revived := was }).portUpNow q
      let s := ((s.setFld (Fd.JL_P_STAT_RETRAIN_FAILS q) 0).revivedUp q).sendKnown q
      .next (if info.oftan then s.rerouteAll else s)

/-- R332: retraining begins. -/
def State.beginRetrain (s : State) (p : Nat) : State :=
  (s.setFld (Fd.JL_P_STAT_STATE p) 1).satFld (Fd.JL_P_COUNT_RETRAINS p)

/-- LANE_LOSS_OF_LOCK (R332): a lane in use loses lock, and the port retrains. -/
def execLaneLossOfLock (p : Port) (lane : Fin 32) (ms : Nat) (s : State) : Host.Outcome State Fault Refusal :=
  let q := p.val
  let locked := s.fld (Fd.JL_P_LANES_LOCKED q)
  if !bitAt locked lane.val ∨ (s.portState q ≠ 2 ∧ s.portState q ≠ 3 ∧ s.portState q ≠ 1) then .next s
  else
    let s := s.setFld (Fd.JL_P_LANES_LOCKED q) (locked - 2 ^ lane.val)
    let x := s.link q
    let s := s.setLink q { x with lol := x.lol ++ [(lane.val, ms)] }
    .next (if s.portState q = 1 then s else s.beginRetrain q)

/-- R332: the events of a lane, by lane and time, that fall within some milliseconds of its last. -/
def recentOf (es : List (Nat × Nat)) (l win : Nat) : Nat :=
  let ts := (es.filter (fun e => e.1 = l)).map (·.2)
  (ts.filter (fun t => decide (ts.foldl max 0 ≤ t + win))).length

/-- R332, R341: a lane has reached a threshold. -/
def State.laneWorn (s : State) (p l : Nat) : Bool :=
  let x := s.link p
  decide (s.fld (Fd.JL_P_THRESH_RETRY_LIMIT p) < recentOf x.charges l (s.fld (Fd.JL_P_THRESH_RETRY_WIN_MS p)))
    || decide (s.fld (Fd.JL_P_THRESH_LOL_LIMIT p) ≤ recentOf x.lol l (1000 * s.fld (Fd.JL_P_THRESH_LOL_WIN_S p)))

/-- LANE_THRESHOLD_REACHED (R331, R332): lanes that reached a threshold together are retired; a port whose lanes in use
change drains and retrains. LANE_RETIRES, which has no more than eight bits, wraps (DESIGN CHOICE, log entry 100). -/
def execLaneThresholdReached (p : Port) (lanes : BitVec 32) (s : State) : Host.Outcome State Fault Refusal :=
  let q := p.val
  let old := s.fld (Fd.JL_P_LANES_RETIRED q)
  let own := s.ownLanes.getD q 0
  let ls := (List.range 32).filter (fun l => lanes.getLsbD l && s.laneWorn q l && !bitAt old l)
  if ls = [] ∨ (s.portState q ≠ 2 ∧ s.portState q ≠ 3 ∧ s.portState q ≠ 1) then .next s
  else
    let new := ls.foldl (fun a l => a ||| 2 ^ l) old
    let s : State := { s with ownLanes := s.ownLanes.set q (ls.foldl (fun a l => a ||| 2 ^ l) own) }
    let s := (s.showLanes q).incFld (Fd.JL_P_COUNT_LANE_RETIRES q) ls.length
    let s := ls.foldl (fun s _ => s.logRec 0x0606 4 q) s
    .next (match laneSet new with
      | none => s.retirePort q
      | some (w, k, _) =>
        if s.portState q = 2 ∧ (w, k) ≠ (s.fld (Fd.JL_P_STAT_WIDTH q), s.fld (Fd.JL_P_STAT_LANESET q)) then
          s.setFld (Fd.JL_P_STAT_STATE q) 3
        else s)

/-- R332: a port has sent every flit already started, and its replay buffer is empty. -/
def LinkPort.drained (x : LinkPort) : Bool := x.replay = [] && x.outq.all (fun k => !k.hdrSent)

/-- PORT_DRAIN_DONE (R332). -/
def execPortDrainDone (p : Port) (s : State) : Host.Outcome State Fault Refusal :=
  .next (if s.portState p.val = 3 ∧ (s.link p.val).drained then s.beginRetrain p.val else s)

/-- PORT_RETRAIN_DONE (R303, R332, R333, R336): success clears RETRAIN_FAILS, and the port is UP on the lanes that R331 leaves once
the peer's are known; a failure counts. The first training of a port, and that of a port revived from retirement, succeed by
PORT_TRAINING_DONE, which brings what the two ends learn. -/
def execPortRetrainDone (p : Port) (ok : Bool) (peerRetired : BitVec 32) (s : State) : Host.Outcome State Fault Refusal :=
  let q := p.val
  if s.portState q ≠ 1 ∨ (s.fld (Fd.JL_P_STAT_GEN q) = 0 ∧ (ok ∨ !(s.link q).revived)) then .next s
  else if ok then
    let r := ((s.setFld (Fd.JL_P_STAT_RETRAIN_FAILS q) 0).learnLanes q peerRetired).takeLanes q
    .next (if r.2 then (r.1.portUpNow q).revivedUp q else r.1)
  else .next (s.retrainFailed q)

/-- PORT_DISABLE (R333, R338). -/
def execPortDisable (p : Port) (s : State) : Host.Outcome State Fault Refusal :=
  .next (s.hostWriteIn 8 (fun s => (s.setFld (Fd.JL_P_CTL_ENABLE p.val) 0).retirePort p.val))

/-- R28: the link die of a port, as a die index of R636 (R622 numbers the rind dies), and its number. -/
def portDie (p : Nat) : Nat := if p % 2 = 1 then 1 else 2

/-- R303, R338: a port begins to train, held to generation 1 as JL_P_CTL says now. A retraining is no training of R338, and keeps
what held before (DESIGN CHOICE, log entry 100). -/
def State.beginTraining (s : State) (p : Nat) : State :=
  let s := s.setFld (Fd.JL_P_STAT_STATE p) 1
  s.setLink p { s.link p with gen1 := s.isSet (Fd.JL_P_CTL_GEN1_ONLY p) }

/-- R333, R336, R342: revive a port: the lanes this end retired and its failures clear, and it retrains: one that was retired from its training on, one that
is UP once it has drained (R332), one that drains or retrains already as it does. A silicon defect is not revived, nor a port that is not
enabled or has no power. -/
def State.revivePort (s : State) (p : Nat) : State :=
  if s.unitRetired 12 (portDie p) p 0 ∨ !(s.isSet (Fd.JL_P_CTL_ENABLE p)) ∨ !s.linkPower ∨ s.portState p = 0 then s
  else
    let s : State := { s with ownLanes := SMap.erase s.ownLanes p }
    let s := (s.showLanes p).setFld (Fd.JL_P_STAT_RETRAIN_FAILS p) 0
    let s := s.setLink p { s.link p with revived := true }
    if s.portState p = 4 then (s.beginTraining p).satFld (Fd.JL_P_COUNT_RETRAINS p)
    else if s.portState p = 2 then s.setFld (Fd.JL_P_STAT_STATE p) 3
    else s

/-- PORT_REVIVE (R336). -/
def execPortRevive (p : Port) (s : State) : Host.Outcome State Fault Refusal := .next (s.hostWriteIn 8 (fun s => s.revivePort p.val))

/-- R327: the torus configuration may be sealed. -/
def State.sealOk (s : State) : Bool :=
  (List.range 3).all (fun k => decide (1 ≤ s.dimSize k) && decide (s.dimSize k ≤ 64)) && decide (s.torusCount ≤ 65536)
    && decide (s.moduleId % 65536 < s.torusCount)

/-- R327: a write of 1 to JL_SEAL.SEAL. -/
def State.sealTorus (s : State) : State :=
  if s.isSealed then s else if s.sealOk then s.setFld Fd.JL_SEAL_SEAL 1 else s.log 0x0609

/-- TORUS_SEAL (R327). -/
def execTorusSeal (s : State) : Host.Outcome State Fault Refusal := .next (s.hostWriteIn 8 (fun s => s.sealTorus))

/-- R327, R334: a new module ID: the ports this module has retired stand in its set under it, and its NOTICEs go out again. -/
def State.renamed (s : State) (old : Nat) : State :=
  let m := s.moduleId
  if old = m then s
  else
    let ps := (s.retired.filter (fun e => e / 8 = old)).map (· % 8)
    let s : State := { s with retired := (s.retired.map (fun e => if e / 8 = old then m * 8 + e % 8 else e)).eraseDups }
    ps.foldl (fun s p => s.sendNotices p m p 1) (s.setFld Fd.JL_ROUTE_STAT_DEAD_PORTS s.retired.length)

/-- R334, R336: a NOTICE reaches this module by a port: it is recorded and sent on, unless it is known already. One of a revival goes on too
where the set is full and may have had no place for the port (DESIGN CHOICE, log entry 100). -/
def State.takeNotice (s : State) (p m q ev : Nat) : State :=
  let known := s.retired.contains (m * 8 + q)
  if ev = 1 then (if known then s else (s.recordRetired m q).sendNotices p m q ev |>.rerouteAll)
  else if ev = 2 then (if known ∨ 256 ≤ s.retired.length then (s.forgetRetired m q).sendNotices p m q ev else s)
  else s

end Sys2Proof.Machine
end

