-- ==== Sys2Proof/Machine/FwOps.lean ====
section
/-! DEFINITION. Firmware images and their broadcast (R617, R618, R638 to R640): what a slot must hold, the chunks of an image,
the tree they travel by, and what a whole image does. -/

namespace Sys2Proof.Machine

/-- R617: the VERSION of a slot. -/
def fwVersion (bs : List Byte) : Nat := numAt bs 4 4
/-- R617: the SVN of a slot. -/
def fwSvn (bs : List Byte) : Nat := numAt bs 8 1
/-- R617: the KEYSLOT of a slot. -/
def fwKey (bs : List Byte) : Nat := numAt bs 9 1
/-- R617: the image bytes a slot names. -/
def fwLen (bs : List Byte) : Nat := numAt bs 16 4

/-- All of some bytes are zero. -/
def allZero (bs : List Byte) : Bool := bs.all (· = 0)

/-- R617: MAGIC, LEN and the reserved bytes of a slot are valid. "KFWI" reads 0x4957464B. -/
def fwForm (bs : List Byte) : Bool :=
  decide (512 ≤ bs.length) && decide (numAt bs 0 4 = 0x4957464B) && decide (1 ≤ fwLen bs) && decide (fwLen bs ≤ 2 ^ 23)
    && decide (512 + fwLen bs ≤ bs.length) && allZero ((bs.drop 10).take 6) && allZero ((bs.drop 20).take 396)
    && decide (fwSvn bs ≤ 64) && decide (fwKey bs ≤ 3)

/-- R618: a slot passes. -/
def State.fwPasses (s : State) (bs : List Byte) : Bool :=
  fwForm bs && !bitAt (s.fld Fd.ID_SVN_KEY_REVOKED) (fwKey bs) && decide (s.fld Fd.ID_SVN_SVN ≤ fwSvn bs)
    && Config.sigOk (fwKey bs) (bs.take (512 + fwLen bs))

/-- R618: the slot the ROM chooses: 1 for A, 2 for B, 0 for none; and whether the one tried first failed. A slot that R640 has chosen is
tried first. -/
def State.fwChoice (s : State) : Nat × Bool :=
  let a := s.fwPasses s.fw.slotA
  let b := s.fwPasses s.fw.slotB
  let aFirst := s.fw.prefer = 1 || (s.fw.prefer ≠ 2 && decide (fwVersion s.fw.slotB ≤ fwVersion s.fw.slotA))
  if aFirst then (if a then (1, false) else if b then (2, true) else (0, true))
  else (if b then (2, false) else if a then (1, true) else (0, true))

/-- The running image's slot. -/
def Firmware.running (f : Firmware) : List Byte := if f.run = 1 then f.slotA else if f.run = 2 then f.slotB else []

/-- R639: an FWSTATUS counts at the source. -/
def State.countStatus (s : State) (fault : Nat) : State :=
  if fault = 0 then s.incFld Fd.MC_FWB_COUNT_DONE else s.incFld Fd.MC_FWB_COUNT_FAILED

/-- R638, R640: tell the source of an image how it ended. -/
def State.sendStatus (s : State) (src image fault : Nat) : State :=
  if src = s.moduleId then s.countStatus fault
  else s.sendPkt src 0 0x10 (leBytes 16 (0x03 + image % 2 ^ 32 * 2 ^ 32 + fault % 2 ^ 16 * 2 ^ 64)) .none

/-- R640: a core image goes into the vat of every tile in service. -/
def State.loadCore (s : State) (dst : Nat) (bs : List Byte) : State :=
  s.tilesOn.foldl (fun s t => (s.store (cellsFrom (tileBase t + dst) bs)).1) s

/-- R640: a whole image: its fault, and what it does. -/
def State.imageWhole (s : State) (x : FwImg) (bs : List Byte) : Nat × State :=
  if crc32 bs ≠ x.crc then (0x0E71, s)
  else if x.kind = 1 then
    if !s.computeUp then (0x0A03, s)
    else if 0x4000000 < x.dst + x.total then (0x0E71, s)
    else (0, s.loadCore x.dst bs)
  else
    let ok := s.fwPasses bs
    let s : State :=
      if s.fw.run = 1 then { s with fw := { s.fw with slotB := bs, prefer := if ok then 2 else s.fw.prefer } }
      else { s with fw := { s.fw with slotA := bs, prefer := if ok then 1 else s.fw.prefer } }
    (if ok then 0 else 0x0E71, s)

/-- R638: the chunks of an image. -/
def chunkCount (total : Nat) : Nat := max 1 ((total + 4063) / 4064)

/-- R640: a chunk of an image arrives from its source: a new IMAGE replaces one that has not completed. The last chunk
completes the image, and the source hears of it. -/
def State.takeChunk (s : State) (src : Nat) (k : FwImg) (chunk : Nat) (bs : List Byte) : State :=
  let old := match SMap.find s.fw.imgs src with
    | some o => if o.image = k.image then o else k
    | none => k
  let x := { old with chunks := old.chunks.set chunk bs }
  let n := chunkCount x.total
  if (List.range n).all (fun i => (SMap.find x.chunks i).isSome) then
    let s : State := { s with fw := { s.fw with imgs := SMap.erase s.fw.imgs src } }
    let r := s.imageWhole x (((List.range n).flatMap (fun i => x.chunks.getD i [])).take x.total)
    r.2.sendStatus src x.image r.1
  else { s with fw := { s.fw with imgs := s.fw.imgs.set src x } }

/-- R638: a chunk's body. The source's ID stands in bits [81:64] of its second 16 bytes, which R638 lists for nothing (log
entry 60). -/
def chunkBody (src : Nat) (x : FwImg) (bcast : Bool) (chunk : Nat) (bs : List Byte) : List Byte :=
  leBytes 16 (0x02 + x.kind * 2 ^ 8 + b2n bcast * 2 ^ 9 + x.image % 2 ^ 32 * 2 ^ 32 + chunk % 2 ^ 32 * 2 ^ 64
      + x.total % 2 ^ 32 * 2 ^ 96)
    ++ leBytes 16 (x.dst % 2 ^ 28 + x.crc % 2 ^ 32 * 2 ^ 32 + src % 2 ^ 18 * 2 ^ 64) ++ bs

/-- R639: where a broadcast chunk goes on: module IDs. `from0` is the dimension and direction (true: plus) it came along. A
subtree behind a retired port receives nothing. -/
def State.treeNext (s : State) (src : Nat) (from0 : Option (Nat × Bool)) : List Nat :=
  let c := s.moduleId
  let lo := match from0 with
    | none => 0
    | some (d, _) => d + 1
  let fan := ([0, 1, 2].filter (fun e => decide (lo ≤ e))).flatMap (fun e =>
    (if 2 ≤ s.dimSize e then [2 * e] else []) ++ (if 3 ≤ s.dimSize e then [2 * e + 1] else []))
  let ports := match from0 with
    | none => fan
    | some (d, plus) =>
      let n := s.dimSize d
      let a := s.coord src d
      let b := s.coord c d
      let k := if plus then (b + n - a) % n else (a + n - b) % n
      let lim := if plus then n / 2 else (n - 1) / 2
      fan ++ (if k < lim then [if plus then 2 * d else 2 * d + 1] else [])
  (ports.filter (fun p => s.portState p ≠ 4)).map (s.neighbour c)

/-- R638 to R640: a MGMT FWCHUNK arrives by a port: it is passed on when it is broadcast, and loaded. A chunk that came along
plus arrives at a minus port. -/
def State.chunkArrives (s : State) (p from0 : Nat) (body : List Byte) : State :=
  let h := numAt body 0 16
  let g := numAt body 16 16
  let bcast := bitAt h 9
  let src := if bcast then bits g 64 18 else from0
  let s := if bcast then
      (s.treeNext src (some (p / 2, p % 2 = 1))).foldl (fun s m => s.sendPkt m 0 0x10 body .forward) s
    else s
  s.takeChunk src { image := bits h 32 32, kind := bits h 8 1, total := bits h 96 32, dst := bits g 0 28, crc := bits g 32 32 }
    (bits h 64 32) (body.drop 32)

/-- R638: a MGMT packet: LAPGEO, FWCHUNK, FWSTATUS; any other is dropped. An FWSTATUS of an earlier image counts for nothing (R647). -/
def State.takeMgmt (s : State) (p src : Nat) (body : List Byte) : State :=
  let h := numAt body 0 16
  match bits h 0 8 with
  | 1 => if bits h 8 8 = 2 ∨ bits h 8 8 = 3 then s.geoArrive (bits h 8 8 - 2) (bits h 16 10, bits h 32 12) else s
  | 2 => s.chunkArrives p src body
  | 3 => if bits h 32 32 = s.fw.seq.toNat then s.countStatus (bits h 64 16) else s
  | _ => s

end Sys2Proof.Machine
end

