-- ==== Sys2Proof/Machine/IngestOps.lean ====
section
/-! DEFINITION. Broadcast ingest's arithmetic (R537, R543 to R545): the sample order, a profile's checks, and the conversion of
a frame to patches. -/

namespace Sys2Proof.Machine

/-! The order (R537) -/

/-- R537: b: the smallest even number from 2 up with 2^b ≥ n. -/
def orderBits (n : Nat) : Nat := ((List.range 16).map (fun i => 2 * i + 2)).find? (fun b => decide (n ≤ 2 ^ b)) |>.getD 32

/-- R537: F. -/
def orderF (key b x : Nat) : Nat :=
  let h := b / 2
  let r := (List.range 4).foldl (fun (q : Nat × Nat) i =>
    (q.2, q.1 ^^^ (permP key (i * 2 ^ 32 + q.2) % 2 ^ h))) (x / 2 ^ h, x % 2 ^ h)
  r.1 * 2 ^ h + r.2

/-- R537: cycle-walking: F again while the value lies outside. -/
def orderWalk (key b n : Nat) : Nat → Nat → Nat
  | 0, y => y
  | fuel + 1, y => if n ≤ y then orderWalk key b n fuel (orderF key b y) else y

/-- R537: π(e) of an epoch. -/
def samplePi (n seed epoch e : Nat) : Nat :=
  let key := permP seed (0x494E470000000000 ||| epoch)
  let b := orderBits n
  orderWalk key b n (2 ^ b) (orderF key b e)

/-! Profiles (R543, R550) -/

/-- R540: the profile's registers as copied. -/
def State.profile (s : State) (j : Nat) : Profile :=
  let pl := s.fld (Fd.ING_PROF_OUT_PATCH_LOG j)
  { x := s.fld (Fd.ING_PROF_CROP_X j), y := s.fld (Fd.ING_PROF_CROP_Y j), w := s.fld (Fd.ING_PROF_CROP_W j),
    h := s.fld (Fd.ING_PROF_CROP_H j), wo := s.fld (Fd.ING_PROF_OUT_WO j), ho := s.fld (Fd.ING_PROF_OUT_HO j),
    patch := if pl = 3 then 0 else 2 ^ (pl + 3), ofmt := s.fld (Fd.ING_PROF_OUT_OFMT j),
    frames := s.fld (Fd.ING_PROF_OUT_FRAMES_M1 j) + 1, fstep := s.fld (Fd.ING_PROF_OUT_FSTEP_M1 j) + 1,
    valid := s.isSet (Fd.ING_PROF_OUT_VALID j),
    m := (List.range 6).flatMap (fun m => [s.fld (Fd.ING_PROF_M_VAL_EVEN j m), s.fld (Fd.ING_PROF_M_VAL_ODD j m)]) }

/-- R543: the profile may be used. -/
def Profile.ok (p : Profile) : Bool :=
  p.valid && p.x % 2 = 0 && p.y % 2 = 0 && p.w % 2 = 0 && p.h % 2 = 0 && p.w ≠ 0 && p.h ≠ 0
    && p.patch ≠ 0 && p.wo ≠ 0 && p.ho ≠ 0 && p.wo % p.patch = 0 && p.ho % p.patch = 0 && decide (p.wo ≤ 8192)
    && decide (p.ho ≤ 8192) && (p.ofmt = 1 || p.ofmt = 2) && p.m.all (fun v => (fp32.dec v).isFin)

/-- R545: the slot size. -/
def Profile.slotSize (p : Profile) : Nat := p.frames * p.wo * p.ho * 6

/-! Conversion (R544) -/

/-- A sample of a plane of a picture, positions clamped; it has the picture's bit depth. -/
def planeAt (v : Config.Picture) (base w h : Nat) (x y : Int) : Nat :=
  let cx := (max 0 (min x ((w : Int) - 1))).toNat
  let cy := (max 0 (min y ((h : Int) - 1))).toNat
  v.samples.getD (base + cy * w + cx) 0 % 2 ^ v.head.depth

/-- R544, step 2: the chroma of plane k (0 Cb, 1 Cr) at a luma pixel, in eighths. The bilinear position is column x / 2, row
(y − 1/2) / 2; positions are clamped to the plane. -/
def chroma8 (v : Config.Picture) (k x y : Nat) : Nat :=
  if v.head.chroma = .mono then 8 * 2 ^ (v.head.depth - 1)
  else
    let cw := (v.head.width + 1) / 2
    let ch := (v.head.height + 1) / 2
    let base := v.head.width * v.head.height + k * (cw * ch)
    let px := min x (2 * (cw - 1))
    let py : Int := max 0 (min (2 * (y : Int) - 1) (4 * ((ch : Int) - 1)))
    let x0 : Int := (px / 2 : Nat)
    let fx := px % 2
    let y0 : Int := py / 4
    let fy := (py % 4).toNat
    let at0 (i j : Int) : Nat := planeAt v base cw ch i j
    (2 - fx) * (4 - fy) * at0 x0 y0 + fx * (4 - fy) * at0 (x0 + 1) y0
      + (2 - fx) * fy * at0 x0 (y0 + 1) + fx * fy * at0 (x0 + 1) (y0 + 1)

/-- R544, step 3: channel c of the matrix at a luma pixel of the cropped picture: one rounding of the exact sum. -/
def matrixAt (p : Profile) (v : Config.Picture) (c x y : Nat) : Nat :=
  let m (i : Nat) : Dy := (fp32.dec (p.m.getD (4 * c + i) 0)).dy
  Dy.rne32 (Dy.sum [
    (m 0).mul ⟨planeAt v 0 v.head.width v.head.height (x : Int) (y : Int), 0⟩,
    (m 1).mul ⟨chroma8 v 0 x y, -3⟩,
    (m 2).mul ⟨chroma8 v 1 x y, -3⟩,
    m 3])

/-- R544, step 4: the source position of an output pixel along one axis, in units of 1 / (2 * out), clamped to the crop. -/
def srcPos (o n out : Nat) : Nat :=
  (max 0 (min (((2 * o + 1) * n : Nat) - (out : Int)) (((n - 1) * (2 * out) : Nat) : Int))).toNat

/-- R544, step 4: RNE32 of the exact bilinear combination of FP32 values with weights over a denominator. A value of no weight
does not enter; infinities follow R156. -/
def bilinear32 (l : List (Nat × Nat)) (den : Nat) : Nat :=
  let l := (l.filter (fun e => e.1 ≠ 0)).map (fun e => (e.1, fp32.dec e.2))
  if l.any (fun e => !e.2.isFin) then sum32 (l.map (fun e => if e.2.isFin then .fin false 0 0 else e.2))
  else
    let t := Dy.sum (l.map (fun e => e.2.dy.mul ⟨e.1, 0⟩))
    if t.m = 0 then 0
    else
      let q := quot ⟨t.m.natAbs, t.e⟩ ⟨den, 0⟩
      Dy.rne32 (if t.m < 0 then q.neg else q)

/-- R544, step 4: channel c of output pixel (xo, yo). -/
def resample (p : Profile) (v : Config.Picture) (c xo yo : Nat) : Nat :=
  let dx := 2 * p.wo
  let dy := 2 * p.ho
  let sx := srcPos xo p.w p.wo
  let sy := srcPos yo p.h p.ho
  let x0 := sx / dx
  let y0 := sy / dy
  let fx := sx % dx
  let fy := sy % dy
  let at0 (i j : Nat) : Nat := matrixAt p v c (p.x + min i (p.w - 1)) (p.y + min j (p.h - 1))
  bilinear32 [((dx - fx) * (dy - fy), at0 x0 y0), (fx * (dy - fy), at0 (x0 + 1) y0),
    ((dx - fx) * fy, at0 x0 (y0 + 1)), (fx * fy, at0 (x0 + 1) (y0 + 1))] (dx * dy)

/-- R544, step 5: the code in the output format. -/
def outCode (p : Profile) (v : Nat) : Nat := (encFmt p.ofmt false 0 (fp32.dec v)).code

/-- R544, R535: the number of the last frame taken; every frame up to it is decoded. -/
def Profile.lastFrame (p : Profile) (fskip : Nat) : Nat := fskip + (p.frames - 1) * p.fstep

/-- R544: the frames taken: FSKIP + i * FSTEP for i below FRAMES. -/
def takenFrames (p : Profile) (fskip : Nat) (d : Config.Decoded) : List Config.Picture :=
  (List.range p.frames).filterMap (fun i => d.frames[fskip + i * p.fstep]?)

/-- R545: the bytes of a slot, in order: frame, patch row, patch column, row and column within the patch, channel. -/
def slotBytes (p : Profile) (fskip : Nat) (d : Config.Decoded) : List Byte :=
  (takenFrames p fskip d).flatMap (fun fr =>
    (List.range (p.ho / p.patch)).flatMap (fun py => (List.range (p.wo / p.patch)).flatMap (fun px =>
      (List.range p.patch).flatMap (fun y => (List.range p.patch).flatMap (fun x =>
        (List.range 3).flatMap (fun c => leBytes 2 (outCode p (resample p fr c (px * p.patch + x) (py * p.patch + y)))))))))

end Sys2Proof.Machine
end

