-- ==== Sys2Proof/Machine/Ingest.lean ====
section
/-! DEFINITION. Broadcast ingest (R533 to R551): the INGEST command, its log record, the dealing of samples to pipelines and
what becomes of a decoded or skipped sample. What a bitstream decodes to is Config.decode (log entry 35). -/

namespace Sys2Proof.Machine

/-- The fields of an INGEST body that later steps need (R538). -/
structure IngestBody where
  table : Nat
  n : Nat
  epoch : Nat
  seed : Nat
  first : Nat
  count : Nat
  step : Nat
  prof : Nat
  out : Nat
  status : Nat
  slot : Nat
  deriving DecidableEq, Repr

/-- R538: read the body; OUT and STATUS are local addresses. -/
def ingestBody (c : Cmd) : IngestBody :=
  { table := c.body 0 8, n := c.body 8 4, epoch := c.body 12 4, seed := c.body 16 8, first := c.body 24 4, count := c.body 28 4,
    step := c.body 32 4, prof := c.body 36 1, out := c.body 40 8 % 2 ^ 46, status := c.body 48 8 % 2 ^ 46, slot := c.body 56 8 }

/-- R539: the checks of an INGEST command in their order, or 0. -/
def State.ingestFault (s : State) (c : Cmd) (b : IngestBody) (p : Profile) : Nat :=
  let outLen := (b.count - 1) * b.slot + p.slotSize
  let stLen := 16 * b.count
  if c.body 37 3 ≠ 0 ∨ b.table % 32 ≠ 0 ∨ b.out % 4096 ≠ 0 ∨ b.status % 16 ≠ 0 ∨ b.slot % 4096 ≠ 0 ∨ b.n = 0 ∨ 4096 < b.count
      ∨ 7 < b.prof ∨ !p.ok ∨ b.slot < p.slotSize then 0x0B01
  else if b.n < b.first + b.count then 0x0B02
  else if b.count = 0 then 0
  else if regionOf b.out ≠ .near ∨ regionOf (b.out + outLen - 1) ≠ .near ∨ s.addrFault .engine b.out outLen ≠ 0
      ∨ (regionOf b.status ≠ .near ∧ regionOf b.status ≠ .far) ∨ regionOf (b.status + stLen - 1) ≠ regionOf b.status
      ∨ s.addrFault .engine b.status stLen ≠ 0
      ∨ rangesMeet (b.out, outLen) (b.status, stLen) then 0x0B03
  else 0

/-- R548: the input log has room. -/
def State.ingRoom (s : State) : Bool :=
  decide ((s.fld Fd.ING_LOG_PTR_HEAD + 2 ^ 20 - s.fld Fd.ING_LOG_PTR_TAIL) % 2 ^ 20 < 2 ^ (s.fld Fd.ING_LOG_BASE_ENTRIES_LOG + 4))

/-- R548: the input-log record of a command. -/
def ingRecord (k : CmdRef) (c : Cmd) (b : IngestBody) : Nat :=
  b.step + b.epoch * 2 ^ 32 + b.first * 2 ^ 64 + b.count * 2 ^ 96 + b.seed * 2 ^ 128 + c.job * 2 ^ 192
    + k.stream.val * 2 ^ 208 + b.prof % 8 * 2 ^ 220 + k.seq.toNat * 2 ^ 224

/-- R541, R286: the command completes when its last slot and status entry are written; with 0x0511 when a write of either
met a poisoned line. -/
def State.ingFinish (s : State) (g : Ingest) : State :=
  match s.cmd g.k with
  | none => { s with ingest := none }
  | some c =>
    let b := ingestBody c
    if g.logged ∧ g.done = b.count then
      let r := g.stats.foldl (fun (q : State × Bool) e =>
        let w := q.1.store (cellsFrom (b.status + 16 * e.1) (leBytes 16 e.2.toNat))
        (w.1, q.2 || w.2)) (s, g.lost)
      ({ r.1 with ingest := none } : State).finishCmd g.k (if r.2 then 0x0511 else 0) (g.good + g.bad * 2 ^ 32)
    else { s with ingest := some g }

/-- R541, R548: the log record is written once the ring has room. -/
def State.ingLog (s : State) : State :=
  match s.ingest with
  | none => s
  | some g =>
    match s.cmd g.k with
    | none => s
    | some c =>
      if !g.logged ∧ s.ingRoom then
        let h := s.fld Fd.ING_LOG_PTR_HEAD
        let a := s.fld Fd.ING_LOG_BASE_BASE * 32 + h % 2 ^ (s.fld Fd.ING_LOG_BASE_ENTRIES_LOG + 4) * 32
        let s := s.ringPut a (leBytes 32 (ingRecord g.k c (ingestBody c)))
        (s.incFld Fd.ING_LOG_PTR_HEAD).ingFinish { g with logged := true }
      else s

/-- R540: a command that reaches the engine takes its place behind those that reached it before and still wait. -/
def State.lineUp (s : State) (k : CmdRef) : List CmdRef :=
  let l := s.ingLine.filter (fun x => s.mayStart x [0x30])
  if l.contains k then l else l ++ [k]

/-- INGEST (R538 to R541): one command at a time, in the order they reach the engine. -/
def execIngest (k : CmdRef) (s : State) : Host.Outcome State Fault Refusal :=
  .next (match s.cmd k with
  | none => s
  | some c =>
    if !s.mayStart k [0x30] then s
    else
    let l := s.lineUp k
    if s.ingest = none ∧ s.fld Fd.ING_CTL_PIPES_EN ≠ 0 ∧ l.head? = some k then
      let s := ({ s with ingLine := l.tail } : State).startCmd k
      let b := ingestBody c
      let p := s.profile b.prof
      if !(c.clean [(0, 64)]) then s.finishCmd k 0x0A11
      else
        let f := s.ingestFault c b p
        if f ≠ 0 then s.finishCmd k f else ({ s with ingest := some { k := k, prof := p } } : State).ingLog
    else { s with ingLine := l })

/-- INGEST_LOG_WRITE (R548): the record that waited for room is written. -/
def execIngestLogWrite (s : State) : Host.Outcome State Fault Refusal := .next s.ingLog

/-- ING_LOG_TAIL_WRITE (R548). -/
def execIngLogTailWrite (tail : BitVec 20) (s : State) : Host.Outcome State Fault Refusal :=
  .next (s.hostWriteIn 7 (fun s => s.setFld Fd.ING_LOG_PTR_TAIL tail.toNat))

/-- R550: show the STATE of a pipeline. -/
def State.showPipe (s : State) (i : Nat) : State :=
  s.setFld (Fd.ING_PIPE_STAT_STATE i)
    (if (SMap.find s.pipes i).isSome then 1 else if bitAt (s.fld Fd.ING_CTL_PIPES_EN) i then 0 else 3)

/-- R550: a write to PIPES_EN. -/
def State.writePipesEn (s : State) (v : Nat) : State :=
  (List.range 8).foldl State.showPipe (s.setFld Fd.ING_CTL_PIPES_EN v)

/-- ING_PIPES_EN_WRITE (R550). -/
def execIngPipesEnWrite (en : BitVec 8) (s : State) : Host.Outcome State Fault Refusal :=
  .next (s.hostWriteIn 7 (fun s => s.writePipesEn en.toNat))

/-- R506, R546: from a local address that lies in an open window, the end of what open windows cover without a gap. -/
def State.windowsEnd (s : State) : Nat → Nat → Nat
  | 0, a => a
  | fuel + 1, a =>
    match s.winAt a with
    | some i => s.windowsEnd fuel (s.winRange i).2
    | none => a

/-- R536: n bytes lie in far memory or in open host windows. -/
def State.sourceOpen (s : State) (a n : Nat) : Bool :=
  if regionOf a = .far then decide (a + n ≤ s.tierSize .far)
  else regionOf a = .host && decide (a + n ≤ s.windowsEnd 16 a)

/-- R536, R546: what the table entry of a slot's sample gives: a reason with its detail, the codec and USER. An entry that
cannot be read has no CODEC and USER to copy: free values. -/
def State.readEntry (s : State) (b : IngestBody) (slot : Nat) : Pipe × State :=
  let dev := b.table + 32 * samplePi b.n b.seed b.epoch (b.first + slot)
  let a := (devSplit dev).2
  let reach := s.here dev && decide (a + 32 ≤ 2 ^ 46) && (regionOf a = .far || regionOf a = .host) && s.addrFault .engine a 32 = 0
  if !reach ∨ s.poisoned a 32 then
    ({ slot := slot, reason := if reach then 4 else 5, detail := 0, codec := s.freeVal 4, user := s.useFree.freeVal 64,
        src := 0, len := 0, fskip := 0 },
      s.useFree.useFree)
  else
    let s := s.touch a 32
    let v := s.readNat a 32
    let addr := bits v 0 64
    let len := bits v 64 40
    let codec := bits v 104 4
    let l := addr % 2 ^ 46
    let ok := bits v 108 20 = 0 ∧ bits v 160 32 = 0 ∧ addr / 2 ^ 46 = 0x3FFFF ∧ len ≠ 0 ∧ 1 ≤ codec ∧ codec ≤ 4
      ∧ s.sourceOpen l len
    ({ slot := slot, reason := if ok then 0 else 8, detail := 0, codec := if ok then codec else 0, user := bits v 192 64,
       src := l, len := if ok then len else 0, fskip := bits v 128 32 }, s)

/-- SAMPLE_DISPATCH (R540, R550): the next sample goes to the lowest-numbered free pipeline that is enabled. -/
def execSampleDispatch (s : State) : Host.Outcome State Fault Refusal :=
  .next (match s.ingest with
  | none => s
  | some g =>
    match s.cmd g.k, (List.range 8).find? (fun i => bitAt (s.fld Fd.ING_CTL_PIPES_EN) i && (SMap.find s.pipes i).isNone) with
    | some c, some i =>
      let b := ingestBody c
      if g.logged ∧ g.next < b.count then
        let r := s.readEntry b g.next
        ({ r.2 with ingest := some { g with next := g.next + 1 }, pipes := r.2.pipes.set i r.1 } : State).showPipe i
      else s
    | _, _ => s)

/-- R46, R350, R546: the first byte from a local address on that the ingest engine cannot reach. -/
def State.reachEnd (s : State) (a : Nat) : Nat :=
  if s.addrFault .engine a 1 ≠ 0 then a
  else if regionOf a = .host then s.windowsEnd 16 a
  else
    let e := s.tierSize .far
    let p := s.fld Fd.KV_PROT_BASE * 4096
    if s.kvProt p ∧ a < p then min e p else e

/-- R546: what stops the reading of a pipeline's bitstream: the first poisoned line (reason 4) or the first byte that is not reachable
(reason 5), whichever lies first, with its byte offset. -/
def State.sourceStop (s : State) (x : Pipe) : Option (Nat × Nat) :=
  let e := min x.len (s.reachEnd x.src - x.src)
  match (linesOf x.src e).find? s.badLine with
  | some l => some (4, l * 64 - x.src)
  | none => if e < x.len then some (5, e) else none

/-- R534, R546: what a pipeline decodes: the bytes of its bitstream up to what stops the reading. -/
def State.decodeSample (s : State) (p : Profile) (x : Pipe) : Config.Decoded :=
  let n := match s.sourceStop x with
    | some r => r.2
    | none => x.len
  Config.decode x.codec (p.lastFrame x.fskip) (s.readBytes x.src n)

/-- R533: the profile, level, tier, bit depth and chroma form of a header are among those of the codec. -/
def codecTakes (codec : Nat) (h : Config.VideoHead) : Bool :=
  !h.beyond && (match codec with
  | 1 => h.profile = .main && decide (h.level ≤ 40) && h.depth = 8 && h.chroma = .c420
  | 2 => h.profile = .high && decide (h.level ≤ 52) && h.depth = 8 && (h.chroma = .c420 || h.chroma = .mono)
  | 3 => (h.profile = .main && h.depth = 8 || h.profile = .main10 && (h.depth = 8 || h.depth = 10)) && decide (h.level ≤ 51)
      && h.chroma = .c420
  | _ => h.profile = .main && decide (h.level ≤ 51) && (h.depth = 8 || h.depth = 10) && (h.chroma = .c420 || h.chroma = .mono)
      && !h.highTier)

/-- R546: why a header ends its sample: reason 2 for what R533 does not list, reason 7 for a crop window outside its pictures. -/
def headReason (p : Profile) (codec : Nat) (h : Config.VideoHead) : Option (Nat × Nat) :=
  if !(codecTakes codec h) then some (2, h.at0)
  else if h.width < p.x + p.w ∨ h.height < p.y + p.h then some (7, 0)
  else none

/-- R546: the reason a sample ends with and its detail, the first met in decode order: that of its entry; no random access point; a
header; a unit in error; a byte that cannot be read; too few frames. -/
def sampleReason (p : Profile) (x : Pipe) (d : Config.Decoded) (stop : Option (Nat × Nat)) : Nat × Nat :=
  if x.reason ≠ 0 then (x.reason, x.detail)
  else if d.heads = [] ∧ d.starved ∧ stop.isSome then stop.getD (0, 0)
  else if !d.start then (3, 0)
  else match d.heads.findSome? (headReason p x.codec), d.error with
  | some r, _ => r
  | none, some e => (1, e)
  | none, none =>
    if d.starved ∧ stop.isSome then stop.getD (0, 0)
    else if d.frames.length ≤ p.lastFrame x.fskip then (6, d.frames.length)
    else (0, 0)

/-- R547: a status entry. -/
def statusEntry (reason detail codec user : Nat) : BitVec 128 :=
  BitVec.ofNat 128 (reason % 256 + codec % 16 * 2 ^ 8 + detail % 2 ^ 40 * 2 ^ 24 + user % 2 ^ 64 * 2 ^ 64)

/-- R282: the near ranges that a finished sample writes meet no held bank. -/
def State.slotClear (s : State) (g : Ingest) (b : IngestBody) (x : Pipe) : Bool :=
  !(s.anyHeld [(b.out + x.slot * b.slot, g.prof.slotSize), (b.status, 16 * b.count)])

/-- SAMPLE_DONE (R282, R541, R544 to R547, R550): a pipeline's sample is delivered, or skipped with its slot written +0. -/
def execSampleDone (pipe : Fin 8) (s : State) : Host.Outcome State Fault Refusal :=
  .next (match SMap.find s.pipes pipe.val, s.ingest with
  | some x, some g =>
    match s.cmd g.k with
    | none => s
    | some c =>
      let b := ingestBody c
      if !(s.slotClear g b x) then s
      else
      let d := s.decodeSample g.prof x
      let r := sampleReason g.prof x d (s.sourceStop x)
      let s := s.touch x.src (min d.used (min x.len (s.reachEnd x.src - x.src)))
      let bs := if r.1 = 0 then slotBytes g.prof x.fskip d else List.replicate g.prof.slotSize 0
      let w := s.store (cellsFrom (b.out + x.slot * b.slot) bs)
      let ok := r.1 = 0
      let s := w.1.incFld (if ok then Fd.ING_STAT_DELIVERED else Fd.ING_STAT_SKIPPED)
      let s := s.incFld (Fd.ING_PIPE_STAT_SAMPLES pipe.val)
      let s : State := { s with pipes := SMap.erase s.pipes pipe.val }
      (s.showPipe pipe.val).ingFinish { g with
        done := g.done + 1
        stats := g.stats.set x.slot (statusEntry r.1 r.2 (if r.1 = 8 then 0 else x.codec) x.user)
        good := if ok then g.good + 1 else g.good
        bad := if ok then g.bad else g.bad + 1
        lost := g.lost || w.2 }
  | _, _ => s)

end Sys2Proof.Machine
end

