-- ==== Sys2Proof/Machine/Jobs.lean ====
section
/-! DEFINITION. The job's commands (R552 to R564, R570, R573): the host's writes to the JOB block, the step's beginning and
ends, and step records. -/

namespace Sys2Proof.Machine

/-- R552: a step runs or has failed. -/
def State.stepOpen (s : State) : Bool := s.fld Fd.JOB_STEP_STATE ≠ 0

/-- The register's value with its WO fields zero: what a field-by-field write starts from. -/
def State.regNat (s : State) (r : Reg) : Nat :=
  r.fields.foldl (fun a f => if f.acc = .wo then a else a + s.fld f % 2 ^ f.len * 2 ^ f.lo) 0

/-- R552, R554, R577: a write of the bits of a mask to JOB_CTL. While a step is open it is discarded: with 0x0C01 when it
would clear EN, else with 0x0C02. Setting EN clears HOLD; IDLE_PISTE is current while STATE is IDLE, unless it breaks R330. -/
def State.writeJobCtl (s : State) (mask v : Nat) : State :=
  let old := s.regNat .JOB_CTL
  let new := maskMix old v mask
  if s.stepOpen then
    s.log (if bitAt old 16 ∧ !bitAt new 16 then 0x0C01 else 0x0C02)
  else
    let s := s.writeFields .JOB_CTL mask v
    let s := if !bitAt old 16 ∧ bitAt new 16 then (s.setFld Fd.JOB_CTL_HOLD 0).setFld Fd.JOB_STEP_STATE 0 else s
    let s := if bits old 17 4 ≠ bits new 17 4 then s.selectPiste (s.fld Fd.JOB_CTL_IDLE_PISTE) else s
    s.phaseCheck

/-- JOB_ENABLE (R554): EN goes from 0 to 1. -/
def execJobEnable (s : State) : Host.Outcome State Fault Refusal :=
  .next (s.hostWriteIn 13 (fun s => s.writeJobCtl (2 ^ 16) (2 ^ 16)))

/-- JOB_DISABLE (R554): EN is cleared, only while STATE is IDLE. -/
def execJobDisable (s : State) : Host.Outcome State Fault Refusal :=
  .next (s.hostWriteIn 13 (fun s => s.writeJobCtl (2 ^ 16) 0))

/-- R555: BEGIN, with its tests in their order. -/
def State.beginStep (s : State) (verify : Bool) (step mapGen : Nat) : State :=
  if !s.isSet Fd.JOB_CTL_EN ∨ s.stepOpen then s.log 0x0C01
  else if mapGen ≠ s.fld Fd.JOB_CTL_MAP_GEN then s.log 0x0C03
  else if s.fld Fd.JOB_FILL_PENDING ≠ 0 ∨ (s.isSet Fd.JOB_CTL_HOLD ∧ !verify) then s.log 0x0C04
  else
    let s := ((s.setFld Fd.JOB_STEP_STEP step).setFld Fd.JOB_STEP_STATE 1).setFld Fd.JOB_STEP_VERIFY (b2n verify)
    let s := ((s.setFld Fd.JOB_STEP_LOSS_VALID 0).setFld Fd.JOB_STEP_SUSPECT 0).setFld Fd.JOB_STEP_FAULT 0
    s.takePhase (s.fld Fd.JOB_PHASE_MPHASE)

/-- STEP_BEGIN (R555). A step command while a record waits for room is refused with 0x0C01. -/
def execStepBegin (verify : Bool) (step : BitVec 32) (mapGen : BitVec 8) (s : State) : Host.Outcome State Fault Refusal :=
  .next (s.hostWriteIn 13 (fun s => if s.jobRec.isSome then s.log 0x0C01 else s.beginStep verify step.toNat mapGen.toNat))

/-- R564: the step-record ring has room. -/
def State.srecRoom (s : State) : Bool :=
  decide ((s.fld Fd.JOB_SREC_PTR_HEAD + 2 ^ 20 - s.fld Fd.JOB_SREC_PTR_TAIL) % 2 ^ 20 < 2 ^ (s.fld Fd.JOB_SREC_ENTRIES_LOG + 4))

/-- R558, R564, R573: the record that waits is written once the ring has room; then STATE becomes IDLE, HOLD clears where a
verifying step matched, and IDLE_PISTE becomes current. -/
def State.writeStepRecord (s : State) : State :=
  match s.jobRec with
  | none => s
  | some (r, clear) =>
    if s.srecRoom then
      let h := s.fld Fd.JOB_SREC_PTR_HEAD
      let a := s.fld Fd.JOB_SREC_BASE * 32 + h % 2 ^ (s.fld Fd.JOB_SREC_ENTRIES_LOG + 4) * 32
      let n := s.srSeq + 1
      let s := s.ringPut a (leBytes 32 (r + n.toNat * 2 ^ 96))
      let s := { s with jobRec := none, srSeq := n }
      let s := (s.incFld Fd.JOB_SREC_PTR_HEAD).setFld Fd.JOB_STEP_STATE 0
      let s := if clear then s.setFld Fd.JOB_CTL_HOLD 0 else s
      s.selectPiste (s.fld Fd.JOB_CTL_IDLE_PISTE)
    else s

/-- R564: a step's record, but for SRSEQ. -/
def State.stepRecord (s : State) (outcome fault : Nat) : Nat :=
  s.fld Fd.JOB_STEP_STEP + s.fld Fd.JOB_CTL_JOB * 2 ^ 32 + s.fld Fd.JOB_CTL_MAP_GEN * 2 ^ 48 + outcome % 8 * 2 ^ 56
    + s.fld Fd.JOB_STEP_SUSPECT * 2 ^ 59 + s.fld Fd.JOB_STEP_LOSS_VALID * 2 ^ 60 + s.fld Fd.JOB_STEP_VERIFY * 2 ^ 61
    + fault % 2 ^ 16 * 2 ^ 64 + s.fld Fd.JOB_FILL_PLAN * 2 ^ 80 + s.fld Fd.JOB_LOSS_LOSS * 2 ^ 128

/-- R558, R573: END: the outcome of the step as it stands. -/
def State.endStep (s : State) : State :=
  if !s.stepOpen then s.log 0x0C01
  else
    let failed := decide (s.fld Fd.JOB_STEP_STATE = 2)
    let ok := s.isSet Fd.JOB_STEP_LOSS_VALID && decide (s.fld Fd.JOB_LOSS_LOSS = s.fld Fd.JOB_VERIFY_EXPECT)
    let verify := s.isSet Fd.JOB_STEP_VERIFY
    let outcome := if failed then 1 else if !verify then 0 else if ok then 3 else 4
    let fault := if outcome = 4 then 0x0C05 else s.fld Fd.JOB_STEP_FAULT
    ({ s with jobRec := some (s.stepRecord outcome fault, outcome = 3) } : State).writeStepRecord

/-- STEP_END (R558). -/
def execStepEnd (s : State) : Host.Outcome State Fault Refusal :=
  .next (s.hostWriteIn 13 (fun s => if s.jobRec.isSome then s.log 0x0C01 else s.endStep))

/-- The threads of launches of the job, not stopped. -/
def State.jobThreads (s : State) : List Nat :=
  (s.threads.filter (fun e => e.2.st ≠ .free && e.2.st ≠ .stopped && (match e.2.owner with
    | none => false
    | some k => match SMap.find s.launches k.code with
      | none => false
      | some l => s.ofJob l.job.toNat))).map (·.1)

/-- R559: ABORT: the job's threads stop, its armed reductions fail, both lap VCs are disarmed, and the record is written with
OUTCOME 2 and JOB_STEP.FAULT, which such a reduction sets (R556). -/
def State.abortStep (s : State) : State :=
  if !s.stepOpen then s.log 0x0C01
  else
    let s := s.jobThreads.foldl (fun s t => s.haltThread t 0x0C0A (s.regs t).pc) s
    let hs := (List.range 1024).filter (fun h => s.relState h = 2 && s.ofJob (s.fld (Fd.REL_RED_CTL_JOB h)))
    let s := hs.foldl (fun s h => s.relayFail h 0x0C0A) s
    let s := (s.lapDisarm 0).lapDisarm 1
    ({ s with jobRec := some (s.stepRecord 2 (s.fld Fd.JOB_STEP_FAULT), false) } : State).writeStepRecord

/-- STEP_ABORT (R559). -/
def execStepAbort (s : State) : Host.Outcome State Fault Refusal :=
  .next (s.hostWriteIn 13 (fun s => if s.jobRec.isSome then s.log 0x0C01 else s.abortStep))

/-- R555, R558, R559, R577: a write to JOB_STEP_CMD. -/
def State.writeStepCmd (s : State) (v : Nat) : State :=
  if s.jobRec.isSome then s.log 0x0C01
  else match v % 8 with
    | 1 => s.beginStep (bitAt v 3) (bits v 8 32) (bits v 40 8)
    | 2 => s.endStep
    | 3 => s.abortStep
    | _ => s.log 0x0C01

/-- STEP_RECORD_WRITE (R564): the record that waited is written. -/
def execStepRecordWrite (s : State) : Host.Outcome State Fault Refusal := .next s.writeStepRecord

/-- SREC_TAIL_WRITE (R564): the host advances TAIL. -/
def execSrecTailWrite (tail : BitVec 20) (s : State) : Host.Outcome State Fault Refusal :=
  .next (s.hostWriteIn 13 (fun s => s.setFld Fd.JOB_SREC_PTR_TAIL tail.toNat))

/-- R560: LOSS is replaced while a step is open, and LOSS_VALID sets; while STATE is IDLE the write is discarded. -/
def State.writeLoss (s : State) (mask v : Nat) : State :=
  if s.stepOpen then (s.writeFields .JOB_LOSS mask v).setFld Fd.JOB_STEP_LOSS_VALID 1 else s

/-- JOB_LOSS_WRITE (R560): a thread's write of the step's loss. A thread that cannot issue writes nothing; one that takes part in a window
waits (R103). -/
def execJobLossWrite (t : Tid) (loss : BitVec 64) (s : State) : Host.Outcome State Fault Refusal :=
  .next (s.behindGate t.code (fun s => s.writeLoss fullMask loss.toNat))

/-- R570, R574: a write to JOB_FILL.PLAN: HOLD sets, and a step record that still waits does not clear it; the counts restart, and
running FILLs of another plan stop asking. -/
def State.writePlan (s : State) (plan : Nat) : State :=
  let s := ((s.setFld Fd.JOB_FILL_PLAN plan).setFld Fd.JOB_FILL_PENDING 0).setFld Fd.JOB_FILL_DONE 0
  let s := s.setFld Fd.JOB_CTL_HOLD 1
  { s with
    jobRec := s.jobRec.map (fun r => (r.1, false))
    cmds := s.cmds.map (fun e => (e.1, { e.2 with fill := false }))
    chks := s.chks.map (fun e => (e.1, match SMap.find s.cmds e.1 with
      | some c => if e.2.fill ∧ c.body 28 2 ≠ plan % 2 ^ 16 then { e.2 with stop := true } else e.2
      | none => e.2)) }

/-- FILL_PLAN_WRITE (R570). -/
def execFillPlanWrite (plan : BitVec 16) (s : State) : Host.Outcome State Fault Refusal :=
  .next (s.hostWriteIn 13 (fun s => s.writePlan plan.toNat))

end Sys2Proof.Machine
end

