-- ==== Sys2Proof/Machine/PowerOps.lean ====
section
/-! DEFINITION. Start, clocks, power and the compute-part reset (R579 to R608, R624, R625, R628, R629): the operations that
their commands share. -/

namespace Sys2Proof.Machine

/-- Change what the start holds. -/
def State.setBoot (s : State) (b : Boot) : State := { s with boot := b }

/-- R611: a stage completes: STAGE_MS takes the time since power-good, which the model does not count (a free value). -/
def State.stageEnds (s : State) : State := (s.setFld Fd.PWR_STAGE_STAGE_MS (s.freeVal 32)).useFree

/-- Record a fault once per episode: while the condition holds (log entry 44). -/
def State.episode (s : State) (n : Nat) (holds : Bool) (code : Nat) : State :=
  if !holds then s.setBoot { s.boot with episodes := s.boot.episodes.filter (· ≠ n) }
  else if s.boot.episodes.contains n then s
  else (s.setBoot { s.boot with episodes := s.boot.episodes ++ [n] }).log code

/-! Clock domains (R587 to R591) -/

/-- R584: the internal oscillator, in Hz. -/
def oscHz : Nat := 50000000

/-- R587: the frequency of a ratio of the root PLL, or of the oscillator, in Hz. -/
def goalHz (g : Nat × Nat × Bool) : Nat := if g.2.2 then 12000000000 * g.2.1 / g.1 else oscHz

/-- R587: the ratio a domain has from reset. -/
def nominalGoal (d : Nat) : Nat × Nat × Bool := (clkDomNum d, clkDomDen d, true)

/-- The ratio a domain is to run at. -/
def State.domGoal (s : State) (d : Nat) : Nat × Nat × Bool := s.boot.goal.getD d (nominalGoal d)

/-- The frequency of a domain, 0 while it is stopped. -/
def State.domHz (s : State) (d : Nat) : Nat := s.boot.freq.getD d 0

/-- A domain stops. -/
def State.stopDomain (s : State) (d : Nat) : State :=
  ((s.setBoot { s.boot with freq := SMap.erase s.boot.freq d }).setFld (Fd.CLK_DOM_CTL_RAMPING d) 0).setFld (Fd.CLK_FCNT_KHZ d) 0

/-- R589, R590: a new target: a running domain ramps toward it from the frequency it has reached. -/
def State.aim (s : State) (d : Nat) (g : Nat × Nat × Bool) : State :=
  let s := s.setBoot { s.boot with goal := s.boot.goal.set d g }
  s.setFld (Fd.CLK_DOM_CTL_RAMPING d) (b2n (s.domHz d ≠ 0 && (s.domHz d ≠ goalHz g || g.2.2 ≠ s.isSet (Fd.CLK_DOM_CTL_SRC d))))

/-- R589: a stopped domain starts at its nominal frequency without a ramp, and ramps to its target from there. -/
def State.startDomain (s : State) (d : Nat) : State :=
  if s.domHz d ≠ 0 then s
  else
    let g := s.domGoal d
    let s := (s.setBoot { s.boot with freq := s.boot.freq.set d (goalHz (nominalGoal d)) }).setFld (Fd.CLK_DOM_CTL_SRC d) 1
    s.aim d (if g.2.2 then g else nominalGoal d)

/-- R611: the core target in MHz, to the nearest. -/
def State.aimCore (s : State) (num den : Nat) : State :=
  (s.aim 0 (num, den, true)).setFld Fd.PWR_STAT_CORE_TGT_MHZ ((goalHz (num, den, true) + 500000) / 1000000)

/-! Licences (R624, R625) -/

/-- R624: the format and fields of a licence record. "KLIC" reads 0x43494C4B. -/
def licForm (bs : List Byte) : Bool :=
  let v := numAt bs 6 1
  let f := numAt bs 7 1
  decide (bs.length = 128) && decide (numAt bs 0 4 = 0x43494C4B) && decide (numAt bs 4 2 = 1)
    && decide (1 ≤ v) && decide (v ≤ 3) && decide (f < 4) && (bitAt f 0 = decide (v ≠ 3)) && !(decide (v = 2) && bitAt f 1)
    && decide (numAt bs 14 2 = 0) && allZero ((bs.drop 20).take 12)

/-- R625: the licence is valid on this module. -/
def State.licValid (s : State) (bs : List Byte) : Bool :=
  licForm bs && Config.sigOk 4 bs && decide (numAt bs 8 6 = s.fld Fd.ID_MODULE_SERIAL)
    && decide (s.fld Fd.LIC_FLOOR_FLOOR ≤ numAt bs 16 4)

/-- R625: the ROM verifies the installed licence and fills the LIC block. -/
def State.takeLicence (s : State) : State :=
  let bs := s.fw.lic
  let ok := s.licValid bs
  let put (s : State) (f : Fld) (v : Nat) : State := s.setHeld f (if ok then v else 0)
  let s := put s Fd.LIC_STAT_VARIANT (numAt bs 6 1)
  let s := put s Fd.LIC_STAT_ING_EN (b2n (bitAt (numAt bs 7 1) 0))
  let s := put s Fd.LIC_STAT_DEGRADE (b2n (bitAt (numAt bs 7 1) 1))
  let s := put s Fd.LIC_STAT_LSEQ (numAt bs 16 4)
  if ok then s else s.log 0x0E15

/-- R667, R625: before the ROM has read a licence, the LIC block shows none. -/
def State.noLicence (s : State) : State :=
  [Fd.LIC_STAT_VARIANT, Fd.LIC_STAT_ING_EN, Fd.LIC_STAT_DEGRADE, Fd.LIC_STAT_LSEQ].foldl (fun s f => s.setHeld f 0) s

/-- R618: the ROM chooses the firmware and starts it; `first` says that stage 1 completes with it, which takes a licence. -/
def State.runFirmware (s : State) (first : Bool) : State :=
  let c := s.fwChoice
  if c.1 = 0 then ({ s with fw := { s.fw with run := 0 } } : State).log 0x0E01
  else
    let s := if c.2 then s.log 0x0E02 else s
    let s : State := { s with fw := { s.fw with run := c.1 } }
    if first then ((s.takeLicence).setBoot { s.boot with done1 := true }).stageEnds else s

/-! Tiles in service (R25, R56, R628, R629) -/

/-- R636: the entries of a KIND on a tile: SUB and INDEX. -/
def State.tileDefects (s : State) (t kind : Nat) : List (Nat × Nat) :=
  (((s.effective.map unitOf).filter (fun e => e % 2 ^ 4 = kind && bits e 8 8 = 9 + t)).map
    (fun e => (bits e 16 8, bits e 24 24))).eraseDups

/-- R135, R281: a physical core is usable. -/
def State.coreGood (s : State) (t p : Nat) : Bool :=
  !((s.tileDefects t 1).any (fun e => e.1 = p))
    && decide (((s.tileDefects t 2).filter (fun e => e.1 = p)).length ≤ 2)
    && decide (((s.tileDefects t 3).filter (fun e => e.1 = p)).length ≤ Config.scratchSpares)

/-- R56: the usable physical cores of a tile. -/
def State.physGood (s : State) (t : Nat) : Nat :=
  ((List.range 17).filter (s.coreGood t)).foldl (fun a p => a + 2 ^ p) 0

/-- R25, R596: a tile is out of service for a defect, or for a rail that failed twice. -/
def State.tileFails (s : State) (t : Nat) : Bool :=
  decide (((List.range 17).filter (s.coreGood t)).length < 16) || decide (Config.vatSpares < (s.tileDefects t 4).length)
    || s.tileDefects t 5 ≠ [] || s.tileDefects t 6 ≠ [] || bitAt s.boot.rails t

/-- R26: a router or face defect. -/
def State.routerBad (s : State) : Bool := (List.range 36).any (fun t => decide (s.tileDefects t 7 ≠ []))

/-- R191: the retired array rows of a physical core, the first and the second, 0x1FF for none. -/
def State.retiredRows (s : State) (t p : Nat) : Nat × Nat :=
  let rows := ((s.tileDefects t 2).filter (fun e => e.1 = p)).map (·.2)
  let a := rows.foldl min 0x1FF
  (a, (rows.filter (· ≠ a)).foldl min 0x1FF)

/-- R25, R53, R56, R191: show the tiles in service, a row excluded (7: none). -/
def State.showPanel (s : State) (excl : Nat) : State :=
  let good := (List.range 36).filter (fun t => !(s.tileFails t) && t / 6 ≠ excl)
  let en := good.foldl (fun a t => a + 2 ^ t) 0
  let s := ((s.setHeld Fd.MC_PANEL_TILES_TILE_EN en).setHeld Fd.MC_PANEL_TILES_EXCL_ROW excl).setHeld
    Fd.MC_PANEL_TILES_TILES_IN_SERVICE good.length
  (List.range 36).foldl (fun s t =>
    let dark := ((List.range 17).find? (fun p => !(s.coreGood t p))).getD 16
    let on := bitAt en t
    let s := s.setHeld (Fd.TILE_CORE_MAP_PHYS_GOOD t) (s.physGood t)
    let s := s.setHeld (Fd.TILE_CORE_MAP_DARK_PHYS t) (if on then dark else 0x1F)
    let s := s.setHeld (Fd.TILE_CORE_MAP_FWD_ONLY t) (b2n (!on))
    (List.range 16).foldl (fun s c =>
      let r := s.retiredRows t (if c < dark then c else c + 1)
      (s.setHeld (Fd.TILE_ARRAY_ROWS_RETIRED0 t c) r.1).setHeld (Fd.TILE_ARRAY_ROWS_RETIRED1 t c) r.2) s) s

/-- R628, R629: compare the tiles out of service with the licence: the row to exclude (7: none), or a refusal. -/
def State.licenceRow (s : State) : Option Nat :=
  let rows := (((List.range 36).filter s.tileFails).map (· / 6)).eraseDups
  let b := s.fld Fd.LIC_STAT_VARIANT = 2
  match rows with
  | [] => some (if b then 5 else 7)
  | [r] => if b ∨ s.isSet Fd.LIC_STAT_DEGRADE then some r else none
  | _ => none

/-- R628: stage 3 is refused: lifting stops and every lifted tile is powered down. In a compute-part bring-up the compute
part stays down (log entry 45). -/
def State.refuseStage3 (s : State) (code : Nat) : State :=
  let s := s.setBoot { s.boot with lift := none, liveTiles := 0, refused := true }
  { s.log code with cpr := if s.cpr = 0 then 0 else 6 }

/-- R628, R629: take the class that the comparison gives; `first` says that it is the one before lift 0. -/
def State.takeClass (s : State) (first : Bool) : State :=
  match s.licenceRow with
  | none => (s.showPanel (s.fld Fd.MC_PANEL_TILES_EXCL_ROW)).refuseStage3 0x0E21
  | some r =>
    let new := first ∨ s.fld Fd.MC_PANEL_TILES_EXCL_ROW ≠ r
    let s := (s.showPanel r).setFld Fd.LIC_STAT_CLASS (b2n (r ≠ 7))
    let s := s.setBoot { s.boot with liveTiles := s.boot.liveTiles &&& s.fld Fd.MC_PANEL_TILES_TILE_EN }
    if new ∧ r ≠ 7 ∧ s.fld Fd.LIC_STAT_VARIANT ≠ 2 then s.log 0x0E22 else s

/-! Lifts (R595, R596) -/

/-- R595: the tiles in service of a lift. -/
def State.liftTiles (s : State) (k : Nat) : List Nat := (List.range 6).filterMap (fun c => if s.tileOn (6 * k + c) then some (6 * k + c) else none)

/-- R595, R611: a lift is done. -/
def State.liftDone (s : State) (k : Nat) : State :=
  (s.setFld Fd.PWR_STAGE_LIFTS_DONE (s.fld Fd.PWR_STAGE_LIFTS_DONE ||| 2 ^ k)).setBoot { s.boot with liftsEnded := k + 1 }

/-- R595: begin the next of the n lifts left, passing over those without a tile in service. -/
def State.nextLift : Nat → State → State
  | 0, s => { s.setBoot { s.boot with lift := none, again := 0 } with cpr := if s.cpr = 4 then 5 else s.cpr }
  | n + 1, s =>
    let k := 5 - n
    if s.liftTiles k = [] then State.nextLift n (s.liftDone k)
    else s.setBoot { s.boot with lift := some (k, false), again := 0 }

/-- R628: stage 3 begins, or is refused before lift 0. -/
def State.beginLifts (s : State) : State :=
  if s.boot.refused then { s with cpr := if s.cpr = 0 then 0 else 6 }
  else if s.routerBad then (s.showPanel (s.fld Fd.MC_PANEL_TILES_EXCL_ROW)).refuseStage3 0x0E21
  else if s.fld Fd.LIC_STAT_VARIANT = 0 then s.refuseStage3 0x0E15
  else if s.boot.listFull then s.refuseStage3 0x0E21
  else
    let s := s.takeClass true
    if s.boot.refused then s else State.nextLift 6 s

/-! The compute-part reset (R602, R603) -/

/-- R354, R376: a wheel has an entry in the class vat or near. -/
def State.wheelLossy (s : State) (wn : Nat) : Bool :=
  let w := s.wheel wn
  w.places.any (fun p => let e := s.entry w p.1 p.2; e.valid && decide (e.loc ≤ 1))

/-- The wheel of an operation of the wheel unit. -/
def WheelOp.wheel : WheelOp → Nat
  | .cow w _ _ _ _ => w
  | .cowList w _ _ => w
  | .park w _ _ _ _ _ _ _ => w
  | .resume w _ _ _ _ => w

/-- A record is in the class vat or near. -/
def State.recLossy (s : State) (r : Nat) : Bool := decide (s.fld (Fd.KV_POOL_CFG_LOC (s.recBits r 24 4)) ≤ 1)

/-- R376: an operation that works on vat or near memory. A park at its final step has no more to do there. -/
def State.opLossy (s : State) : WheelOp → Bool
  | .resume w _ got _ _ => s.wheelLossy w || got.any (fun g => s.recLossy g.2.2)
  | .cow w _ _ r _ => s.wheelLossy w || s.recLossy r
  | .park _ _ _ _ _ _ _ true => false
  | o => s.wheelLossy o.wheel

/-- R376: an operation that the reset meets, and what is left of it. A park or a resume of a wheel that will be LOST completes with
0x0724, the park with its event record (R375); a resume of another wheel begins again. Frames taken and not yet in an entry go back (log
entry 46). -/
def State.endWheelOp (s : State) (o : WheelOp) : Option WheelOp × State :=
  let lossy := s.wheelLossy o.wheel
  let mark (s : State) (k : CmdRef) : State := s.alterCmd k (fun c => { c with pre := 0x0724 })
  match o with
  | .cow _ _ _ r _ => (none, s.giveBack r)
  | .cowList _ _ _ => (none, s)
  | .park w _ slots cause k _ _ _ =>
    (some (.park w [] slots cause none 0x0724 none true), match k with
      | some k => mark s k
      | none => s)
  | .resume w todo got k _ =>
    let s := s.freeTaken got
    if lossy then (none, mark s k) else (some (.resume w (got.map (fun g => (g.1, g.2.1)) ++ todo) [] k none), s)

/-- R376: what the reset does to the wheel unit's operations. -/
def State.dropWheelOps (s : State) : State :=
  let head := match s.wops with
    | o :: _ => s.opLossy o
    | [] => false
  let r := s.wops.foldl (fun (q : List WheelOp × State) o =>
    if s.opLossy o then (let e := q.2.endWheelOp o; (q.1 ++ e.1.toList, e.2)) else (q.1 ++ [o], q.2)) ([], s)
  let s : State := { r.2 with wops := r.1, pins := [], tried := none, kvLine := [] }
  if head then { s with waiters := s.waiters.filter (fun e => match e.2 with
    | .wheel _ => false
    | _ => true) } else s

/-- R459, R272: an ARMED reduction is lost with the accumulators, and with the barriers that would hear of it. -/
def State.relayLost (s : State) (h : Nat) : State :=
  if s.relState h ≠ 2 then s
  else
    let x := s.relay h
    let s := (s.setFld (Fd.REL_RED_CTL_FAULT h) 0x0909).setFld (Fd.REL_RED_CTL_STATE h) 4
    let s := s.setFld (Fd.REL_RED_CTL_EXP_STALE h) 1
    let s := s.failNorm h 0x0909 x
    if s.ofJob (s.fld (Fd.REL_RED_CTL_JOB h)) then s.failStep 0x0909 else s

/-- R459: a packet of a reduction. -/
def Origin.ofRelay : Origin → Bool
  | .relay _ _ _ => true
  | _ => false

/-- Who still hears of a packet once the threads, engines and reductions it came from are gone. -/
def Origin.afterReset : Origin → Origin
  | .wheel => .wheel
  | .forward => .forward
  | .fwLoad => .fwLoad
  | .request tag => .request tag
  | .atomic _ _ _ tag => .request tag
  | _ => .none

/-- A send flow after the reset: its packets still go (R320), and nobody waits for them; a SAVE's header that has not left does not
leave (R567). -/
def SendFlow.afterReset (f : SendFlow) : SendFlow :=
  { f with
    unacked := f.unacked.map (fun k => { k with org := k.org.afterReset })
    waiting := (f.waiting.filter (fun k => !(k.typ = 3 && (match k.org with
      | .bulk _ => true
      | _ => false)))).map (fun k => { k with org := k.org.afterReset }) }

/-- R115, R187, R272, R376, R401: threads, arrays, engines, postings and the contents of SRAM and near memory are lost. -/
def State.loseCompute (s : State) : State :=
  let s := s.clearTier .near
  let lo := 0x110000000000
  let n := 0x240000000
  let s : State := { s with
    mem := s.mem.clear lo n
    poison := s.poison.filter (fun e => e.1 * 64 < lo ∨ lo + n ≤ e.1 * 64)
    ltags := []
    threads := []
    cores := []
    bars := s.bars.filter (fun e => e.1 < 0x100000000000 ∨ lo + n ≤ e.1)
    launches := []
    tiles := []
    laps := s.laps.map (fun e => (e.1, { e.2 with posts := [], sends := [], dead := [] }))
    relays := []
    waiters := s.waiters.filter (fun e => match e.2 with
      | .wheel _ => true
      | _ => false)
    early := s.early.filter (fun e => match SMap.find s.waiters e.1 with
      | some (.wheel _) => true
      | _ => false)
    sends := s.sends.map (fun e => (e.1, e.2.afterReset))
    dram := { s.dram with
      units := SMap.erase s.dram.units 1, remaps := [], spares := []
      scrubs := s.dram.scrubs.filter (fun e => e.1 * 64 < lo ∨ lo + n ≤ e.1 * 64)
      seen := s.dram.seen.filter (fun e => e.1 * 64 < lo ∨ lo + n ≤ e.1 * 64)
      fixed := s.dram.fixed.filter (fun e => e.1 * 64 < lo ∨ lo + n ≤ e.1 * 64)
      rows := s.dram.rows.filter (fun e => e.1 < 24), hot := s.dram.hot.filter (· < 24) } }
  (s.resetBlocks 0x1000000 0x3400000).resetBlocks 0xA00000 0xB00000

/-- CPR_ENTRY (R603): in one action the tiles and the stack dies are held in reset. -/
def State.enterCpr (s : State) : State :=
  let s := (s.setFld Fd.PWR_STAGE_COMPUTE_UP 0).setFld Fd.MC_PANEL_DIES_DIE_UP (s.fld Fd.MC_PANEL_DIES_DIE_UP % 32)
  let s := (s.failStep 0x0C09).setFld Fd.JOB_CTL_HOLD 1
  let s := s.dropWheelOps
  let s := (s.relays.map (·.1)).foldl State.relayLost s
  let s := s.chks.foldl (fun s e => s.voidHeader e.2) (s.dropWaiting Origin.ofRelay).loseCompute
  let s : State := { s with chks := [], ingest := none, ingLine := [], pipes := [] }
  let s := (List.range 8).foldl State.showPipe s
  let s := s.interruptStreams
  let s := (s.stopDomain 0).stopDomain 1
  let s := (s.setFld Fd.PWR_CPR_REQ 0).setFld Fd.PWR_STAGE_LIFTS_DONE 0
  let stack (u : SettingUnit) : Bool := match u with
    | .stack _ => true
    | _ => false
  let s := s.setBoot { s.boot with
    lift := none, liftsEnded := 0, liveTiles := 0, droop := [], again := 0
    marked := s.boot.marked.filter (fun u => !(stack u))
    retraining := if s.boot.retraining.any stack then none else s.boot.retraining }
  { s.setFld Fd.MC_SET_STAT_PENDING s.boot.marked.length with cpr := 1, cycle := 0, edges := 0, lost := [] }

/-- R602, R606, R661, R662: the conditions of cause 5 have cleared. -/
def State.heatCleared (s : State) : Bool :=
  decide (s.fld Fd.PWR_THERM_TJ_MAX ≤ s.fld Fd.PWR_THERM_TJ_RESUME) && !(s.isSet Fd.PWR_CARRIER_LEAK) && !s.boot.coolTrip

/-- R602: the causes recorded need RELEASE: 5 always, 4 and 6 unless AUTO is 1. -/
def State.needsRelease (s : State) : Bool :=
  let c := s.fld Fd.PWR_CPR_CAUSE
  bitAt c 1 || ((bitAt c 0 || bitAt c 2) && !(s.isSet Fd.PWR_CPR_AUTO))

/-- R602: bring-up may begin. After clock recovery it waits for stage 2 (cause 7). -/
def State.mayBringUp (s : State) : Bool :=
  (!s.needsRelease || s.isSet Fd.PWR_CPR_RELEASE) && (!(bitAt (s.fld Fd.PWR_CPR_CAUSE) 1) || s.heatCleared)
    && s.boot.done2 && !(s.isSet Fd.BIST_STAT_RUNNING)

/-- R602, R604: a held compute part begins its bring-up when it may; HELD says that it waits for RELEASE. -/
def State.holdOrGo (s : State) : State :=
  if s.cpr ≠ 1 then s
  else if s.mayBringUp then
    ({ (s.setFld Fd.PWR_CPR_RELEASE 0).setFld Fd.PWR_CPR_HELD 0 with cpr := 2 } : State).startDomain 1
  else s.setFld Fd.PWR_CPR_HELD (b2n (s.needsRelease && !(s.isSet Fd.PWR_CPR_RELEASE)))

/-- R602 to R604: a cause of a compute-part reset (4 to 7). A new cause during bring-up restarts it; after a refused bring-up it raises
a reset of its own. -/
def State.raiseCpr (s : State) (cause : Nat) : State :=
  let bit := 2 ^ (cause - 4)
  if s.cpr = 0 ∨ s.cpr = 6 then
    ((s.enterCpr.setFld Fd.PWR_CPR_CAUSE bit).incFld Fd.PWR_CPR_COUNT).holdOrGo
  else
    let s := s.setFld Fd.PWR_CPR_CAUSE (s.fld Fd.PWR_CPR_CAUSE ||| bit)
    (if s.cpr = 1 then s else s.enterCpr).holdOrGo

/-! Clock recovery (R586) -/

/-- The Jurvo ports go down: their link layers lose what they held; a port retired stays so. -/
def State.portsDown (s : State) : State :=
  (List.range 6).foldl (fun s p =>
    if s.portState p = 4 then s
    else
      let s := (s.setFld (Fd.JL_P_STAT_STATE p) 0).setFld (Fd.JL_P_STAT_GEN p) 0
      let s := (s.setFld (Fd.JL_P_STAT_WIDTH p) 0).setFld (Fd.JL_P_LANES_LOCKED p) 0
      let s := (List.range 16).foldl (fun s v => s.setFld (Fd.JL_P_VC_STOPPED p v) 1) s
      { s with links := SMap.erase s.links p }) s

/-- R586: once no running domain is left on the root PLL, it stops, and the module is in stage 1 again. -/
def State.recovered (s : State) : State :=
  if s.boot.xtal = 4 ∧ (List.range 8).all (fun d => s.domHz d = 0 || !(s.isSet (Fd.CLK_DOM_CTL_SRC d))) then
    let s := (s.setFld Fd.CLK_ROOT_STATUS_PLL_LOCK 0).setFld Fd.CLK_ROOT_STATUS_RECOVERY 1
    (s.setFld Fd.PWR_STAGE_STAGE 1).setBoot { s.boot with xtal := 0, pllTries := 0 }
  else s

/-- CLOCK_RECOVERY (R586): the crystal is lost. With no running domain on the root PLL the module is in stage 1 at once. -/
def State.loseCrystal (s : State) : State :=
  let s := (s.log 0x0D02).setFld Fd.CLK_ROOT_STATUS_XTAL_OK 0
  let s := s.setBoot { s.boot with xtal := 4, badWindow := false, done2 := false }
  let s := ((s.raiseCpr 7).portsDown).stopDomain 4
  ((List.range 8).foldl (fun s d => if s.domHz d = 0 then s.setFld (Fd.CLK_DOM_CTL_SRC d) 0 else s.aim d (0, 0, false)) s).recovered

/-! Resets (R583, R659) -/

/-- R14, R667: what resets keep of the fuse and flash values that changed: all but what each start loads anew and works out again. -/
def State.keptHeld (s : State) : SMap Nat :=
  s.held.filter (fun e => !(
    [Fd.MC_PANEL_MEM_NEAR_EN, Fd.MC_PANEL_TILES_TILE_EN, Fd.MC_PANEL_TILES_EXCL_ROW, Fd.MC_PANEL_TILES_TILES_IN_SERVICE, Fd.LIC_STAT_VARIANT,
      Fd.LIC_STAT_ING_EN, Fd.LIC_STAT_DEGRADE, Fd.LIC_STAT_LSEQ].any (fun f => f.key = e.1)
    || (List.range 36).any (fun t => (Fd.TILE_CORE_MAP_PHYS_GOOD t).key = e.1 || (Fd.TILE_CORE_MAP_DARK_PHYS t).key = e.1
      || (Fd.TILE_CORE_MAP_FWD_ONLY t).key = e.1)))

/-- R583, R659: every register at its reset value and every memory lost. What lies in fuses and flash stays, as does what is
outside the module. -/
def State.cleared (s : State) : State :=
  { State.reset with
    pending := s.pending, free := s.free, host := s.host, out := s.out, held := s.keptHeld, startId := s.startId
    defects := s.defects, settings := s.settings, fw := { s.fw with run := 0, imgs := [] }, boot := { fails := s.boot.fails } }

/-- Power-on (R579, R583, R656): power-good has risen, and stage 0 begins on the internal oscillator. The domains that run are
the mesh, the host die, ingest and management (log entry 47). -/
def State.powerOn (s : State) (slot : Nat) : State :=
  let s := s.cleared
  let s : State := { s with startId := s.startId + 1 }
  (s.setBoot { s.boot with powered := true, freq := [(1, oscHz), (5, oscHz), (6, oscHz), (7, oscHz)] }).setFld
    Fd.PWR_CARRIER_SLOT_ID slot

end Sys2Proof.Machine
end

