-- ==== Sys2Proof/Machine/Power.lean ====
section
/-! DEFINITION. The commands of start, clocks, power and the compute-part reset (R579 to R608, R659). -/

namespace Sys2Proof.Machine

/-! Start -/

/-- POWER_GOOD_RISE (R579, R656). -/
def execPowerGoodRise (slotId : BitVec 3) (s : State) : Host.Outcome State Fault Refusal :=
  .next (if s.boot.powered then s else s.powerOn slotId.toNat)

/-- POWER_GOOD_FALL (R659): power-off. -/
def execPowerGoodFall (s : State) : Host.Outcome State Fault Refusal := .next (if s.boot.powered then s.cleared else s)

/-- INPUT_VOLTAGE_LOW (R659): a reading of the input; between 46 V and 50 V it records 0x0F09 once per episode. -/
def execInputVoltageLow (mv : BitVec 16) (s : State) : Host.Outcome State Fault Refusal :=
  .next (if !s.boot.powered then s
    else (s.setFld Fd.PWR_IN_VIN_MV mv.toNat).episode 9 (decide (46000 ≤ mv.toNat) && decide (mv.toNat < 50000)) 0x0F09)

/-- SIDEBAND_RESET (R583, R657): RESET_N low for a time in microseconds. -/
def execSidebandReset (us : Nat) (s : State) : Host.Outcome State Fault Refusal :=
  .next (if !s.boot.powered ∨ us < 1000 then s else s.powerOn (s.fld Fd.PWR_CARRIER_SLOT_ID))

/-- R14, R667, R25, R56, R191: the carrier flash is loaded: the panel shows what the defect list leaves, the licence is not read yet, and
the OVERFLOW flag of R637 is the one this start finds. -/
def State.loadFlash (s : State) : State :=
  let s := s.setBoot { s.boot with flash := true }
  ((s.setBoot { s.boot with listFull := s.isSet Fd.BIST_STAT_OVERFLOW }).noLicence).showPanel 7

/-- STAGE0_DONE (R579, R582, R636, R14, R54): the fuses are loaded; stage 1 begins unless the carrier flash cannot be read, or an entry of
its defect list has lost both copies. -/
def execStage0Done (flashOk : Bool) (s : State) : Host.Outcome State Fault Refusal :=
  .next (if !s.boot.powered ∨ s.boot.done0 then s
    else
      let s : State := { s with loaded := true }
      let s := ((s.setBoot { s.boot with done0 := true }).setFld Fd.MC_PANEL_DIES_DIE_UP 0x1FF).stageEnds
      if flashOk && flashListOk then s.loadFlash.setFld Fd.PWR_STAGE_STAGE 1 else s.log 0x0D07)

/-- R617, R626: what the carrier flash holds: what the module has read or written there, else what is read now. -/
def flashHas (known read : List Byte) : List Byte := if known = [] then read else known

/-- FIRMWARE_SELECT (R617, R618, R625, R626): the ROM reads the slots and the licences; a pending licence is installed now. The operands
are what a first start finds in the flash; what the module has read or written there stays. -/
def execFirmwareSelect (a b : FwSlot) (lic pend : Licence) (s : State) : Host.Outcome State Fault Refusal :=
  .next (if !s.boot.flash ∨ s.boot.done1 then s
    else
      let p := flashHas s.fw.pend pend.bytes
      let s : State := { s with fw := { s.fw with
        slotA := flashHas s.fw.slotA a.image, slotB := flashHas s.fw.slotB b.image
        lic := if p = [] then flashHas s.fw.lic lic.bytes else p, pend := [] } }
      let s := s.setBoot { s.boot with selected := true }
      ((s.setHeld Fd.LIC_PEND_PENDING 0).setHeld Fd.LIC_PEND_PEND_LSEQ 0).runFirmware true)

/-- FW_SLOT_WRITE (R619): while no firmware runs, a slot is written and the selection runs again. A slot written before the ROM has read
the flash waits for the first selection. -/
def execFwSlotWrite (slotB : Bool) (img : FwSlot) (s : State) : Host.Outcome State Fault Refusal :=
  .next (if !s.boot.flash ∨ s.fw.run ≠ 0 then s
    else
      let s : State := { s with fw := { (if slotB then { s.fw with slotB := img.image } else { s.fw with slotA := img.image }) with prefer := 0 } }
      if s.boot.selected then s.runFirmware (!s.boot.done1) else s)

/-- R632, R636: may a start's test of a die find a unit of this KIND? The rind dies hold those of KIND 8 to 12, a tile those of 1 to 7. -/
def testedKind (d kind : Nat) : Bool :=
  if d < 9 then decide (1 ≤ d) && decide (8 ≤ kind) && decide (kind ≤ 12) else decide (1 ≤ kind) && decide (kind ≤ 7)

/-- R632, R647: a die's signatures at a start: shown, and compared with the ROM's; LBIST runs on tiles alone. A die that differs from
them fails: the units the failures were resolved to join the defect list with SOURCE 1, and QUICK shows the die. -/
def State.quickBist (s : State) (r : BistResult) : State :=
  let d := r.index.val
  let s := if 9 ≤ d then s.setFld (Fd.BIST_LSIG_LSIG d) r.lsig.toNat else s
  let s := s.setFld (Fd.BIST_MSIG_MSIG d) r.msig.toNat
  if (9 ≤ d ∧ r.lsig ≠ Config.golden d false) ∨ r.msig ≠ Config.golden d true then
    let es := (r.fails.map BitVec.toNat).filter (fun e => bits e 8 8 = d && testedKind d (e % 16))
    (es.foldl (fun s e => s.foundBad 1 e) s).setFld Fd.BIST_QUICK_FAIL (s.fld Fd.BIST_QUICK_FAIL ||| 2 ^ d)
  else s

/-- STAGE2_START (R579, R589, R263, R632): the rind's rails rise: the controllers' and links' clocks start, the ports train, and the far-memory
dies read the serial presence data of the DIMMs in their sockets, listed here. The far-memory, link and stack dies test their controller
memories first, with the results listed. A port with a silicon defect is retired from the start, its VCs stopped (R333, R334, R636). -/
def execStage2Start (dimms : List (Fin 24 × Dimm)) (tests : List BistResult) (s : State) : Host.Outcome State Fault Refusal :=
  .next (if !s.boot.done1 ∨ s.boot.done2 ∨ s.fld Fd.PWR_STAGE_STAGE ≠ 1 ∨ !(s.isSet Fd.CLK_ROOT_STATUS_XTAL_OK)
      ∨ !(s.isSet Fd.CLK_ROOT_STATUS_PLL_LOCK) then s
    else
      let s := (((s.setFld Fd.PWR_STAGE_STAGE 2).startDomain 2).startDomain 3).startDomain 4
      let s : State := { s with dram := { s.dram with dimms := dimms.foldl (fun m d => SMap.set m d.1.val d.2) [] } }
      let s := (tests.filter (fun r => decide (1 ≤ r.index.val) && decide (r.index.val < 9))).foldl State.quickBist s
      let s := s.showStacks
      (List.range 6).foldl (fun s p =>
        if s.portState p = 4 then s
        else if s.unitRetired 12 (portDie p) p 0 then
          ((List.range 16).foldl (fun s v => s.setFld (Fd.JL_P_VC_STOPPED p v) 1) (s.setFld (Fd.JL_P_STAT_STATE p) 4)).recordRetired
            s.moduleId p
        else s.beginTraining p) s)

/-- DRAM_TRAINING_DONE (R263, R265, R598, R604): in stage 2, or for a stack in step 2 of a bring-up, a unit not yet resolved has been
trained, or its training has failed (a DIMM's twice). -/
def execDramTrainingDone (tier : Tier) (unit : Fin 24) (ok : Bool) (c : UnitCond) (s : State) : Host.Outcome State Fault Refusal :=
  let u := unit.val
  let when := (s.fld Fd.PWR_STAGE_STAGE = 2 ∧ !s.boot.done2) ∨ (tier = .near ∧ s.cpr = 3)
  .next (if ¬when ∨ s.fld (Fd.CH_STAT_STATE tier u) ≠ 0 then s
    else match tier with
      | .far => s.trainFar u ok c
      | .near => s.trainNear u (s.cpr = 0) ok c)

/-- R581: every near stack in service has been trained or put out of service. -/
def State.nearResolved (s : State) : Bool :=
  (List.range 16).all (fun u => !(bitAt (s.fld Fd.MC_PANEL_MEM_NEAR_EN) u) || decide (s.fld (Fd.CH_STAT_STATE .near u) ≠ 0))

/-- R581: every far channel whose socket holds a DIMM has been trained or rejected. -/
def State.farResolved (s : State) : Bool :=
  s.dram.dimms.all (fun e => decide (s.fld (Fd.CH_STAT_STATE .far e.1) ≠ 0))

/-- R271: map a tier that is not mapped. -/
def State.mapIfNot (s : State) (k : Tier) : State := if s.isSet (Fd.MAP_CTL_MAP_EN k) then s else s.mapTier k

/-- R604: the compute part leaves reset and its lifts begin. -/
def State.bringUpLifts (s : State) : State :=
  let s := s.setFld Fd.MC_PANEL_DIES_DIE_UP (s.fld Fd.MC_PANEL_DIES_DIE_UP ||| 0x1E0)
  ({ s.startDomain 1 with cpr := 4 } : State).beginLifts

/-- STAGE2_DONE (R581, R271, R616, R628): both tiers are mapped under keys of the random source, which must be healthy; stage 3
begins, or is refused. After clock recovery the compute part's bring-up goes on with it (R602), unless it is held. -/
def execStage2Done (s : State) : Host.Outcome State Fault Refusal :=
  .next (if s.fld Fd.PWR_STAGE_STAGE ≠ 2 ∨ s.boot.done2 ∨ !(s.isSet Fd.ID_RNG_HEALTHY) ∨ !s.nearResolved ∨ !s.farResolved then s
    else
      let s := (s.mapIfNot .far).mapIfNot .near
      let s := (s.setBoot { s.boot with done2 := true }).stageEnds
      if s.cpr = 0 then s.beginLifts
      else if s.cpr = 1 ∧ s.mayBringUp then
        ((s.setFld Fd.PWR_CPR_RELEASE 0).setFld Fd.PWR_CPR_HELD 0).bringUpLifts
      else s)

/-- LIFT_RAIL_CHECK (R596, R598): 1 ms after the ramp, the tiles whose rail is not in regulation: ramped once more, then out of service
until the next start. The cores of the others are released, each tile taking its current-step model from its record where the record
covers it, and their BIST runs. -/
def execLiftRailCheck (bad : BitVec 36) (supply : BitVec 2) (s : State) : Host.Outcome State Fault Refusal :=
  .next (match s.boot.lift with
  | some (k, false) =>
    let ts := s.liftTiles k
    let low := ts.filter (fun t => bad.getLsbD t)
    if s.boot.again = 0 ∧ low ≠ [] then
      s.setBoot { s.boot with again := low.foldl (fun a t => a + 2 ^ t) 0 }
    else
      let dead := low.filter (fun t => bitAt s.boot.again t)
      let live := ts.filter (fun t => !(dead.contains t))
      let s := s.setBoot { s.boot with
        lift := some (k, true), again := 0
        rails := dead.foldl (fun a t => a ||| 2 ^ t) s.boot.rails
        liveTiles := live.foldl (fun a t => a ||| 2 ^ t) s.boot.liveTiles }
      let s := dead.foldl (fun s _ => s.log 0x0F05) s
      let s := if dead = [] then s
        else (s.setFld Fd.PWR_STAGE_LIFT_FAIL (s.fld Fd.PWR_STAGE_LIFT_FAIL ||| 2 ^ k)).showPanel (s.fld Fd.MC_PANEL_TILES_EXCL_ROW)
      (live.foldl (fun s t =>
        s.useSetting 4 t { temp := BitVec.ofNat 8 (s.fld (Fd.PWR_TILE_TEMP t)), supply := supply }) s).startDomain 0
  | _ => s)

/-- LIFT_BIST_END (R595, R628, R629, R632): failures join the defect list, and the tiles are compared with the licence. -/
def execLiftBistEnd (tests : List BistResult) (s : State) : Host.Outcome State Fault Refusal :=
  .next (match s.boot.lift with
  | some (k, true) =>
    let ts := s.liftTiles k
    let s := ((tests.filter (fun r => ts.any (fun t => r.index.val = 9 + t))).foldl State.quickBist s).liftDone k
    if s.routerBad then (s.showPanel (s.fld Fd.MC_PANEL_TILES_EXCL_ROW)).refuseStage3 0x0E21
    else
      let s := s.takeClass false
      if s.boot.refused then s else State.nextLift (5 - k) s
  | _ => s)

/-! Clocks -/

/-- XTAL_DELAY_EXPIRY (R584). -/
def execXtalDelayExpiry (s : State) : Host.Outcome State Fault Refusal :=
  .next (if s.boot.powered ∧ s.boot.xtal = 0 then s.setBoot { s.boot with xtal := 1 } else s)

/-- XTAL_QUAL_WINDOW_END (R584): whether the crystal produced edges, and the oscillator cycles counted. -/
def execXtalQualWindowEnd (edges : Bool) (count : BitVec 32) (s : State) : Host.Outcome State Fault Refusal :=
  .next (if s.boot.xtal ≠ 1 then s
    else if edges then
      ((s.setFld Fd.CLK_ROOT_STATUS_IOSC_CAL count.toNat).setFld Fd.CLK_ROOT_STATUS_XTAL_OK 1).setBoot
        { s.boot with xtal := 3, badWindow := false }
    else (s.setBoot { s.boot with xtal := 2 }).log 0x0D01)

/-- XTAL_RETRY_TIMER (R584): the sequence repeats from its delay. -/
def execXtalRetryTimer (s : State) : Host.Outcome State Fault Refusal :=
  .next (if s.boot.xtal = 2 then s.setBoot { s.boot with xtal := 0 } else s)

/-- XTAL_MONITOR_WINDOW_END (R585, R586): a window that fails counts; two in a row, and the crystal is lost. -/
def execXtalMonitorWindowEnd (count : BitVec 32) (s : State) : Host.Outcome State Fault Refusal :=
  .next (if s.boot.xtal ≠ 3 then s
    else
      let cal := s.fld Fd.CLK_ROOT_STATUS_IOSC_CAL
      if cal * 995 ≤ count.toNat * 1000 ∧ count.toNat * 1000 ≤ cal * 1005 then s.setBoot { s.boot with badWindow := false }
      else
        let was := s.boot.badWindow
        let s := (s.satFld Fd.CLK_ROOT_STATUS_XTAL_FAILS).setBoot { s.boot with badWindow := true }
        if was then s.loseCrystal else s)

/-- PLL_LOCK (R587, R589): the root PLL locks, and the running domains ramp to their ratios on it; or it has not locked within
1 ms, which is tried again three times. -/
def execPllLock (locked : Bool) (s : State) : Host.Outcome State Fault Refusal :=
  .next (if !(s.isSet Fd.CLK_ROOT_STATUS_XTAL_OK) ∨ s.isSet Fd.CLK_ROOT_STATUS_PLL_LOCK ∨ 4 ≤ s.boot.pllTries then s
    else if locked then
      let s := s.setFld Fd.CLK_ROOT_STATUS_PLL_LOCK 1
      (List.range 8).foldl (fun s d =>
        if s.domHz d = 0 then s else (s.setFld (Fd.CLK_DOM_CTL_SRC d) 1).aim d (nominalGoal d)) s
    else (s.setBoot { s.boot with pllTries := s.boot.pllTries + 1 }).log 0x0D03)

/-- DOMAIN_RAMP_STEP (R589, R586): one step of 1/16 toward the target. On the way to the oscillator, a frequency within 16/15 of
the oscillator's is switched to it. -/
def execDomainRampStep (d : Fin 8) (s : State) : Host.Outcome State Fault Refusal :=
  let d := d.val
  .next (if !(s.isSet (Fd.CLK_DOM_CTL_RAMPING d)) then s
    else
      let f := s.domHz d
      let g := s.domGoal d
      let goal := goalHz g
      if !g.2.2 ∧ f * 15 ≤ goal * 16 then
        (((s.setBoot { s.boot with freq := s.boot.freq.set d goal }).setFld (Fd.CLK_DOM_CTL_RAMPING d) 0).setFld
          (Fd.CLK_DOM_CTL_SRC d) 0).recovered
      else
        let f' := if f < goal then min goal (f + f / 16) else max goal (f - f / 16)
        let s := s.setBoot { s.boot with freq := s.boot.freq.set d f' }
        if g.2.2 ∧ f' = goal then s.setFld (Fd.CLK_DOM_CTL_RAMPING d) 0 else s)

/-- R591: a write of the core's ratio: a ratio outside 375 MHz to 1.5 GHz is clamped to that bound; DEN 0 is discarded. A
numerator of 0 names no frequency below the upper bound (log entry 48). What the power controller has set wins. -/
def State.writeCoreRatio (s : State) (num den : Nat) : State :=
  if den = 0 then s.log 0x0F04
  else
    let above := num = 0 ∨ 12000000000 * den > 1500000000 * num
    let under := num ≠ 0 ∧ 12000000000 * den < 375000000 * num
    let r := if above then (8, 1) else if under then (32, 1) else (num, den)
    let s := if above ∨ under then s.log 0x0F04 else s
    let s := (s.setFld (Fd.CLK_DOM_CTL_NUM 0) r.1).setFld (Fd.CLK_DOM_CTL_DEN 0) r.2
    if s.boot.coreSet then s else s.aimCore r.1 r.2

/-- CORE_RATIO_WRITE (R591): discarded until stage 0 has completed (R52). -/
def execCoreRatioWrite (num den : BitVec 16) (s : State) : Host.Outcome State Fault Refusal :=
  .next (s.hostWrite (fun s => s.writeCoreRatio num.toNat den.toNat))

/-- DROOP_DETECT (R593): a tile whose core clock runs stretches it. -/
def execDroopDetect (tile : Fin 36) (s : State) : Host.Outcome State Fault Refusal :=
  let t := tile.val
  .next (if !(bitAt s.boot.liveTiles t) ∨ s.boot.droop.contains t then s
    else (s.setBoot { s.boot with droop := s.boot.droop ++ [t] }).incFld (Fd.PWR_TILE_DROOPS t))

/-- DROOP_RECOVER (R593, R589). -/
def execDroopRecover (tile : Fin 36) (s : State) : Host.Outcome State Fault Refusal :=
  .next (s.setBoot { s.boot with droop := s.boot.droop.filter (· ≠ tile.val) })

/-- FREQ_COUNT_GATE (R594): a gate of 25,000 crystal cycles ends; a stopped domain reads 0. -/
def execFreqCountGate (d : Fin 8) (count : BitVec 32) (s : State) : Host.Outcome State Fault Refusal :=
  .next (if s.isSet Fd.CLK_ROOT_STATUS_XTAL_OK then
      s.setFld (Fd.CLK_FCNT_KHZ d.val) (if s.domHz d.val = 0 then 0 else count.toNat)
    else s)

/-! Power and heat -/

/-- R605: the effective cap. -/
def State.effectiveCap (s : State) : Nat :=
  if s.isSet Fd.PWR_STAT_COOL_LOW then min (s.fld Fd.PWR_CAP_CAP_W) (s.fld Fd.PWR_CAP_COOL_CAP_W) else s.fld Fd.PWR_CAP_CAP_W

/-- R605: the core target lowered by 1/16, to no less than 375 MHz. -/
def lowerGoal (g : Nat × Nat × Bool) : Nat × Nat :=
  if 12000000000 * (g.2.1 * 15) < 375000000 * (g.1 * 16) then (32, 1) else (g.1 * 16, g.2.1 * 15)

/-- R605: the core target raised by 1/32, to no more than 1.5 GHz. -/
def raiseGoal (g : Nat × Nat × Bool) : Nat × Nat :=
  if 12000000000 * (g.2.1 * 33) > 1500000000 * (g.1 * 32) then (8, 1) else (g.1 * 32, g.2.1 * 33)

/-- R591, R605: the power controller sets the core target. -/
def State.controlCore (s : State) (r : Nat × Nat) : State :=
  (s.setBoot { s.boot with coreSet := true }).aimCore r.1 r.2

/-- POWER_CONTROL_TICK (R605, R606): the mean panel and DIMM power over the last millisecond, and the hottest tile. -/
def execPowerControlTick (panelW dimmW : BitVec 16) (hottest : BitVec 8) (s : State) : Host.Outcome State Fault Refusal :=
  .next (if !s.boot.done0 then s
    else
      let s := (s.setFld Fd.PWR_IN_P_PANEL_W panelW.toNat).setFld Fd.PWR_IN_P_DIMM_W dimmW.toNat
      let s := s.setFld Fd.PWR_THERM_TJ_MAX hottest.toNat
      let s := (List.range 36).foldl (fun s t =>
        if hottest.toNat < s.fld (Fd.PWR_TILE_TEMP t) then s.setFld (Fd.PWR_TILE_TEMP t) hottest.toNat else s) s
      let cap := s.effectiveCap
      let above := decide (cap < panelW.toNat)
      let hot := decide (s.fld Fd.PWR_THERM_TJ_THROTTLE ≤ hottest.toNat)
      let s := (s.flagFld Fd.PWR_STAT_CAPPING above).flagFld Fd.PWR_STAT_THROTTLE hot
      let s := (s.episode 1 above 0x0F01).episode 2 hot 0x0F02
      let g := s.domGoal 0
      let s := if above ∨ hot then s.controlCore (lowerGoal g)
        else if panelW.toNat * 100 ≤ cap * 97 then s.controlCore (raiseGoal g)
        else s
      s.holdOrGo)

/-- TILE_TEMP_TRIP (R606): a tile's temperature reaches TJ_TRIP. -/
def execTileTempTrip (tile : Fin 36) (temp : BitVec 8) (s : State) : Host.Outcome State Fault Refusal :=
  .next (if !s.boot.done0 then s
    else
      let s := s.setFld (Fd.PWR_TILE_TEMP tile.val) temp.toNat
      let s := s.setFld Fd.PWR_THERM_TJ_MAX (max (s.fld Fd.PWR_THERM_TJ_MAX) temp.toNat)
      if s.fld Fd.PWR_THERM_TJ_TRIP ≤ temp.toNat then (s.log 0x0F03).raiseCpr 5 else s)

/-- COOLANT_SAMPLE (R606, R661): the inlet in °C and the flow in 0.1 L/min. -/
def execCoolantSample (inlet : BitVec 8) (flow : BitVec 16) (s : State) : Host.Outcome State Fault Refusal :=
  .next (if !s.boot.done0 then s
    else
      let s := (s.setFld Fd.PWR_THERM_INLET_C inlet.toNat).setFld Fd.PWR_THERM_FLOW_DLPM flow.toNat
      let low := decide (45 < inlet.toNat) || decide (flow.toNat < 160)
      let severe := decide (50 < inlet.toNat) || decide (flow.toNat < 100)
      let s := (s.setFld Fd.PWR_STAT_COOL_LOW (b2n low)).episode 6 low 0x0F06
      let s := s.episode 12 (decide (inlet.toNat < 20)) 0x0F0C
      let s := s.setBoot { s.boot with coolTimer := severe, coolTrip := s.boot.coolTrip && severe }
      s.holdOrGo)

/-- COOLANT_TRIP_TIMER (R606): the severe condition has lasted 5 s. -/
def execCoolantTripTimer (s : State) : Host.Outcome State Fault Refusal :=
  .next (if !s.boot.coolTimer then s
    else ((s.setBoot { s.boot with coolTimer := false, coolTrip := true }).log 0x0F03).raiseCpr 5)

/-- IIN_LIMIT_REACHED (R607): a reading of the input current in 0.1 A. -/
def execIinLimitReached (da : BitVec 16) (s : State) : Host.Outcome State Fault Refusal :=
  .next (if !s.boot.powered then s
    else
      let s := s.setFld Fd.PWR_IN_IIN_DA da.toNat
      if 2150 ≤ da.toNat ∧ s.boot.dropped ≠ 4 then
        ((s.setBoot { s.boot with dropped := 4 }).setFld Fd.PWR_STAT_IIN_LIMIT 1).log 0x0F07
      else s)

/-- IIN_LIMIT_CLEAR (R607, R589): below 205 A the edges come back step by step: one in 4, in 8, in 16, none. -/
def execIinLimitClear (da : BitVec 16) (s : State) : Host.Outcome State Fault Refusal :=
  .next (if !s.boot.powered then s
    else
      let s := s.setFld Fd.PWR_IN_IIN_DA da.toNat
      if da.toNat < 2050 then
        s.setBoot { s.boot with dropped := if s.boot.dropped = 4 then 8 else if s.boot.dropped = 8 then 16 else 0 }
      else s)

/-! Saved settings (R597 to R601) -/

/-- A number for a unit: channels 0 to 23, stacks from 100, ports from 200, tiles from 300. -/
def settingCode : SettingUnit → Nat
  | .channel u => u.val
  | .stack u => 100 + u.val
  | .port p => 200 + p.val
  | .tile t => 300 + t.val

/-- R597: the records of a unit: their KIND and UNITs. A port has one for each lane that is not retired. -/
def State.settingsOf (s : State) : SettingUnit → Nat × List Nat
  | .channel u => (2, [u.val])
  | .stack u => (3, [u.val])
  | .port p => (1, s.laneUnits p.val)
  | .tile t => (4, [t.val])

/-- R599, R612: the error rate that marks a unit for retraining; a core rail has none. -/
def State.rateLimit (s : State) : SettingUnit → Option Nat
  | .channel _ => some (s.fld Fd.MC_SET_CTL_DRAM_CE_PH)
  | .stack _ => some (s.fld Fd.MC_SET_CTL_DRAM_CE_PH)
  | .port _ => some (s.fld Fd.MC_SET_CTL_LINK_CORR_PS)
  | .tile _ => none

/-- R599: a check marks its unit: outside a record's envelope, too many errors, or a margin that fails. -/
def State.checkFails (s : State) (u : SettingUnit) (o : UnitCheck) : Bool :=
  let k := s.settingsOf u
  k.2.any (fun n => !((s.setting k.1 n).covers o.cond))
    || (match s.rateLimit u with
      | some n => decide (n < o.rate)
      | none => false)
    || !o.margin

/-- R599: a unit is in use. -/
def State.unitInUse (s : State) : SettingUnit → Bool
  | .channel u => (s.serving .far).contains u.val
  | .stack u => s.computeUp && (s.serving .near).contains u.val
  | .port p => s.portState p.val = 2
  | .tile t => s.computeUp && s.tileOn t.val

/-- R612: show how many units await a quiet window. -/
def State.showMarked (s : State) : State := s.setFld Fd.MC_SET_STAT_PENDING s.boot.marked.length

/-- BG_SETTING_CHECK (R599): after stage 3, a check of a unit in use marks it; one that passes under heavy load rewrites with ACT = 1 the
records that have ACT = 0. -/
def execBgSettingCheck (u : SettingUnit) (o : UnitCheck) (s : State) : Host.Outcome State Fault Refusal :=
  .next (if s.fld Fd.PWR_STAGE_STAGE ≠ 3 ∨ !(s.isSet Fd.MC_SET_CTL_BG_CHECK_EN) ∨ !(s.unitInUse u) then s
    else if s.checkFails u o then
      if s.boot.marked.contains u ∨ s.boot.retraining = some u then s
      else (s.setBoot { s.boot with marked := s.boot.marked ++ [u] }).showMarked
    else if o.heavy then
      let k := s.settingsOf u
      k.2.foldl (fun s n => if bits (s.setting k.1 n).tag.toNat 50 2 = 0 then s.heavySetting k.1 n else s) s
    else s)

/-- R600: a quiet window. -/
def State.quiet (s : State) : Bool :=
  (s.fld Fd.JOB_STEP_STATE = 0 || !(s.isSet Fd.JOB_CTL_EN)) && s.launches = []

/-- QUIET_WINDOW_RETRAIN (R600): the next marked unit retrains. A port drains and then retrains as R332 states. -/
def execQuietWindowRetrain (s : State) : Host.Outcome State Fault Refusal :=
  .next (match s.boot.marked with
  | [] => s
  | u :: rest =>
    if !s.quiet ∨ s.boot.retraining.isSome then s
    else if !(s.unitInUse u) then (s.setBoot { s.boot with marked := rest }).showMarked
    else
      let s := (s.setBoot { s.boot with marked := rest, retraining := some u }).showMarked
      let s := s.satFld Fd.MC_SET_STAT_RETRAINS
      match u with
      | .port p => s.setFld (Fd.JL_P_STAT_STATE p.val) 3
      | _ => s)

/-- R601, R597: the unit that 0x0D06 is recorded with: KIND in [3:0] and UNIT in [15:4], as a record's tag has them (log entry
49). -/
def settingDetail : SettingUnit → Nat
  | .channel u => 2 + u.val * 16
  | .stack u => 3 + u.val * 16
  | .port p => 1 + p.val * 32 * 16
  | .tile t => 4 + t.val * 16

/-- R601: a unit that failed twice in a row is retired: a port under R333, a channel or stack through the defect list. A core rail's
measurement always completes. -/
def State.retireUnit (s : State) (u : SettingUnit) : State :=
  let s := s.logRec 0x0D06 7 (settingDetail u)
  match u with
  | .port p => s.retirePort p.val
  | .channel c => (s.addDefect (defectOf 11 4 (farDie c.val) c.val 0)).setFld (Fd.CH_STAT_STATE .far c.val) 4
  | .stack k => (s.addDefect (defectOf 10 4 (nearDie k.val) k.val 0)).setFld (Fd.CH_STAT_STATE .near k.val) 4
  | .tile _ => s

/-- R600, R601: a retraining has measured its unit anew under a stress pattern: its records carry ACT = 1. -/
def State.remeasure (s : State) (u : SettingUnit) (c : UnitCond) : State :=
  let k := s.settingsOf u
  k.2.foldl (fun s n => s.measure k.1 n c 1) s

/-- RETRAIN_DONE (R600, R601): a success renews the unit's records and clears its failures; the second failure in a row retires it. A port
that could not retrain keeps its previous settings and is UP on them. -/
def execRetrainDone (ok : Bool) (c : UnitCond) (s : State) : Host.Outcome State Fault Refusal :=
  .next (match s.boot.retraining with
  | none => s
  | some u =>
    let s := s.setBoot { s.boot with retraining := none }
    let s := match u with
      | .port p => if s.portState p.val = 1 ∧ s.fld (Fd.JL_P_STAT_GEN p.val) ≠ 0 then s.portUpNow p.val else s
      | _ => s
    let done := match u with
      | .tile _ => true
      | _ => ok
    if done then (s.remeasure u c).setBoot { s.boot with fails := SMap.erase s.boot.fails (settingCode u) }
    else
      let n := s.boot.fails.getD (settingCode u) 0 + 1
      if n < 2 then s.setBoot { s.boot with fails := s.boot.fails.set (settingCode u) n }
      else (s.setBoot { s.boot with fails := SMap.erase s.boot.fails (settingCode u) }).retireUnit u)

/-! The compute-part reset -/

/-- R602: the host writes 1 to PWR_CPR.REQ. -/
def State.requestCpr (s : State) : State := if s.fld Fd.PWR_STAGE_STAGE ≠ 3 then s.log 0x0D09 else s.raiseCpr 4

/-- CPR_REQUEST (R602). -/
def execCprRequest (s : State) : Host.Outcome State Fault Refusal := .next (s.hostWrite State.requestCpr)

/-- RAIL_FAULT (R602, R613). -/
def execRailFault (s : State) : Host.Outcome State Fault Refusal :=
  .next (if s.boot.done0 then (s.log 0x0F08).raiseCpr 6 else s)

/-- CPR_RELEASE (R602, R611). -/
def execCprRelease (s : State) : Host.Outcome State Fault Refusal :=
  .next (s.hostWrite (fun s => (s.setFld Fd.PWR_CPR_RELEASE 1).holdOrGo))

/-- COMPUTE_BRINGUP_STEP (R604): step 1 ends and the stacks train; step 2 ends with near memory mapped under a new key, and the
lifts begin. Step 3 ends with its last lift. -/
def execComputeBringupStep (s : State) : Host.Outcome State Fault Refusal :=
  .next (if s.cpr = 2 then
      { (s.setFld Fd.MC_PANEL_DIES_DIE_UP (s.fld Fd.MC_PANEL_DIES_DIE_UP ||| 0x1E0)).showStacks with cpr := 3 }
    else if s.cpr = 3 ∧ s.nearResolved ∧ s.isSet Fd.ID_RNG_HEALTHY then ((s.setMap .near 0).mapTier .near).bringUpLifts
    else s)

/-- R376: when the compute part returns, a wheel with an entry in vat or near memory is LOST. -/
def State.loseWheels (s : State) : State :=
  if !(s.isSet Fd.KV_CTL_EN) then s
  else
    (List.range (s.fld Fd.KV_TABLE_WHEELS)).foldl (fun s w =>
      let st := (s.wheel w).state
      if (st = 1 ∨ st = 2 ∨ st = 4) ∧ s.wheelLossy w then s.setWheelState w 5 else s) s

/-- COMPUTE_BRINGUP_DONE (R604, R579, R376, R523): the compute part is up; at a first start, stage 3 is complete. -/
def execComputeBringupDone (s : State) : Host.Outcome State Fault Refusal :=
  .next (if s.cpr = 5 ∨ (s.cpr = 0 ∧ !s.computeUp ∧ s.boot.liftsEnded = 6 ∧ s.boot.lift = none ∧ !s.boot.refused) then
      let s := if s.cpr = 5 then s.loseWheels.wheelProceed else s
      let s : State := { s.setFld Fd.PWR_STAGE_COMPUTE_UP 1 with cpr := 0, cycle := 0, edges := 0, lost := [] }
      let s := if s.fld Fd.PWR_STAGE_STAGE = 3 then s else (s.setFld Fd.PWR_STAGE_STAGE 3).stageEnds
      (s.setFld Fd.CLK_ROOT_STATUS_RECOVERY 0).beginReplays
    else s)

end Sys2Proof.Machine
end

