-- ==== Sys2Proof/Machine/Carrier.lean ====
section
/-! DEFINITION. The carrier: cables, DIMM power, the leak sensor and the side band (R653 to R662). -/

namespace Sys2Proof.Machine

/-! The side band's outputs (R655, R656); true is a high level -/

/-- R655: SMB_ALERT_N is low while an unread fault-log record is present. -/
def State.smbAlertN (s : State) : Bool := s.fld Fd.HST_FLOG_PTR_FHEAD = s.fld Fd.HST_FLOG_PTR_FTAIL
/-- R655: PG_OUT is high from the end of stage 0 until power is removed. -/
def State.pgOut (s : State) : Bool := s.boot.done0
/-- R655, R662: LEAK_N is low while a leak is sensed. -/
def State.leakN (s : State) : Bool := !(s.isSet Fd.PWR_CARRIER_LEAK)
/-- R656: the SMBus address, which is the I3C static address too. -/
def State.smbAddress (s : State) : Nat := 0x40 + s.fld Fd.PWR_CARRIER_SLOT_ID
/-- R656: the addresses at which MCTP answers on I3C. -/
def State.i3cAddresses (s : State) : List Nat := s.smbAddress :: (s.trust.i3c.map BitVec.toNat).toList

/-- A bit of a field is put. -/
def State.putBit (s : State) (f : Fld) (i : Nat) (v : Bool) : State :=
  s.setFld f (setBits (s.fld f) i 1 (b2n v))

/-- R653, R332: a port without a powered cable has no lane in lock: one that was UP trains. -/
def State.portDark (s : State) (p : Nat) : State :=
  if s.portState p = 2 ∨ s.portState p = 3 then (s.setFld (Fd.JL_P_LANES_LOCKED p) 0).beginRetrain p else s

/-- R653: the cable power of a port is cut. -/
def State.cutCable (s : State) (p : Nat) : State :=
  ((s.putBit Fd.PWR_CARRIER_CAGE_PWR_OFF p true).logRec 0x0F0D 7 p).portDark p

/-- CABLE_SEATED (R653): a cable that declares its power class in watts is powered up to 12 W. -/
def execCableSeated (p : Port) (watts : BitVec 8) (s : State) : Host.Outcome State Fault Refusal :=
  let q := p.val
  .next (if !s.boot.powered ∨ bitAt (s.fld Fd.PWR_CARRIER_CAGE_PRES) q then s
    else
      let s := s.putBit Fd.PWR_CARRIER_CAGE_PRES q true
      if watts.toNat ≤ 12 then s.putBit Fd.PWR_CARRIER_CAGE_PWR_OFF q false else s.cutCable q)

/-- CABLE_REMOVED (R653, R664). -/
def execCableRemoved (p : Port) (s : State) : Host.Outcome State Fault Refusal :=
  .next (if bitAt (s.fld Fd.PWR_CARRIER_CAGE_PRES) p.val
    then (s.putBit Fd.PWR_CARRIER_CAGE_PRES p.val false).portDark p.val else s)

/-- CABLE_OVERDRAW (R653): a powered cable drew more than 13 W for 10 ms. -/
def execCableOverdraw (p : Port) (s : State) : Host.Outcome State Fault Refusal :=
  .next (if bitAt (s.fld Fd.PWR_CARRIER_CAGE_PRES) p.val && !bitAt (s.fld Fd.PWR_CARRIER_CAGE_PWR_OFF) p.val
    then s.cutCable p.val else s)

/-- DIMM_OVERDRAW (R660): the channel is throttled to 1/4 command rate. -/
def execDimmOverdraw (unit : Fin 24) (s : State) : Host.Outcome State Fault Refusal :=
  .next (if !s.boot.done0 ∨ s.dram.overdraw.contains unit.val then s
    else ({ s with dram := { s.dram with overdraw := s.dram.overdraw ++ [unit.val] } } : State).log 0x0F0B)

/-- DIMM_OVERDRAW_CLEAR (R660). -/
def execDimmOverdrawClear (unit : Fin 24) (s : State) : Host.Outcome State Fault Refusal :=
  .next { s with dram := { s.dram with overdraw := s.dram.overdraw.filter (· ≠ unit.val) } }

/-- DIMM_FUSE_OPEN (R660): the channel has no power until the next start. -/
def execDimmFuseOpen (unit : Fin 24) (s : State) : Host.Outcome State Fault Refusal :=
  .next (if !s.boot.done0 ∨ bitAt (s.fld Fd.PWR_CARRIER_DIMM_OFF) unit.val then s
    else (((s.putBit Fd.PWR_CARRIER_DIMM_OFF unit.val true).setFld (Fd.CH_STAT_STATE .far unit.val) 5)).log 0x0F0B)

/-- LEAK_DETECT (R662): LEAK_N is low while LEAK is 1. -/
def execLeakDetect (s : State) : Host.Outcome State Fault Refusal :=
  .next (if !s.boot.done0 ∨ s.isSet Fd.PWR_CARRIER_LEAK then s
    else ((s.setFld Fd.PWR_CARRIER_LEAK 1).log 0x0F0A).raiseCpr 5)

/-- LEAK_CLEAR (R662). -/
def execLeakClear (s : State) : Host.Outcome State Fault Refusal := .next (s.setFld Fd.PWR_CARRIER_LEAK 0).holdOrGo

/-- I3C_ADDRESS_ASSIGN (R656): a dynamic address beside the static 0x40 + SLOT_ID. -/
def execI3cAddressAssign (addr : BitVec 7) (s : State) : Host.Outcome State Fault Refusal :=
  .next (if s.boot.done0 then { s with trust := { s.trust with i3c := some addr } } else s)

end Sys2Proof.Machine
end

