-- ==== Sys2Proof/Machine/Copies.lean ====
section
/-! DEFINITION. Copies by a tile's memory engine (R490, R514, R516): MOVE and MOVE.T of a thread, and the stream commands COPY,
COPY.T and CAVE. -/

namespace Sys2Proof.Machine

/-- R473, R490: the faults of a run of n > 0 bytes: addr over both ranges, 0x0109, link. -/
def State.moveFault (s : State) (dst src n : Nat) : Nat :=
  let f := firstFault (s.rangeFault dst n) (s.rangeFault src n)
  if f ≠ 0 then f
  else if s.devMeet dst src n n then 0x0109
  else firstFault (s.rangeLink dst) (s.rangeLink src)

/-- A transposing copy's operands (R490): geometry, SC, source layout (true: column blocks) and the scale arrays. -/
structure Transp where
  g : Geom
  sc : Bool
  col : Bool
  ssrc : Nat
  sdst : Nat
  deriving DecidableEq, Repr

/-- The bytes of the source block, of its transpose, and of the scale array. -/
def Transp.srcLen (x : Transp) : Nat := (x.g.rows - 1) * x.g.sstride + (x.g.cols * fmtWidth x.g.fmt + 7) / 8
/-- The bytes of the transpose. -/
def Transp.dstLen (x : Transp) : Nat := (x.g.cols - 1) * x.g.dstride + (x.g.rows * fmtWidth x.g.fmt + 7) / 8

/-- R143, R176: the source scale array's rows and columns of bytes; the destination's is its transpose. -/
def Transp.scaleRows (x : Transp) : Nat := if x.col then (x.g.rows + 31) / 32 else x.g.rows
/-- The columns of the source scale array. -/
def Transp.scaleCols (x : Transp) : Nat := if x.col then x.g.cols else (x.g.cols + 31) / 32
/-- The bytes of a scale array. -/
def Transp.scaleLen (x : Transp) : Nat := x.scaleRows * x.scaleCols

/-- R473, R490, R175: the faults of a transposing copy. A 64-bit format is no width of the transposer. -/
def State.transpFault (s : State) (x : Transp) : Nat :=
  if fmtBad x.g.fmt then 0x0302
  else if x.g.fmt = 5 ∨ x.g.fmt = 10 then 0x0208
  else if x.g.rows = 0 ∨ x.g.cols = 0 then 0
  else if [x.g.src, x.g.dst, x.g.sstride, x.g.dstride].any (fun v => v % 16 ≠ 0)
      ∨ (x.sc ∧ (x.ssrc % 16 ≠ 0 ∨ x.sdst % 16 ≠ 0)) then 0x0104
  else
    let rs := [(x.g.dst, x.dstLen), (x.g.src, x.srcLen)]
      ++ (if x.sc then [(x.ssrc, x.scaleLen), (x.sdst, x.scaleLen)] else [])
    let f := rs.foldl (fun a r => firstFault a (s.rangeFault r.1 r.2)) 0
    if f ≠ 0 then f
    else if s.devMeet x.g.dst x.g.src x.dstLen x.srcLen ∨ (x.sc ∧ s.devMeet x.sdst x.ssrc x.scaleLen x.scaleLen) then 0x0109
    else rs.foldl (fun a r => firstFault a (s.rangeLink r.1)) 0

/-- R260, R176: the transactions that carry the scales, each within one 256-byte span of its destination. -/
def Transp.scaleSegs (x : Transp) : List TxnOp :=
  let n := x.scaleLen
  let at0 (k : Nat) : Nat := x.ssrc + (k % x.scaleRows) * x.scaleCols + k / x.scaleRows
  let first := x.sdst / 256
  (List.range ((x.sdst + n + 255) / 256 - first)).map (fun j =>
    let lo := max x.sdst ((first + j) * 256)
    let hi := min (x.sdst + n) ((first + j + 1) * 256)
    .gather ((List.range (hi - lo)).map (fun i => at0 (lo - x.sdst + i))) lo false)

/-- What a transposing copy issues (R174, R260): the source is read first, then the block is written row by row, then the scales. -/
def Transp.segs (x : Transp) : List TxnOp :=
  (List.range x.g.rows).map (fun i => .rd (x.g.src + i * x.g.sstride) ((x.g.cols * fmtWidth x.g.fmt + 7) / 8))
    ++ (if x.sc then [.rd x.ssrc x.scaleLen] else [])
    ++ [.tr 0 0 x.g.rows] ++ (if x.sc then x.scaleSegs else [])

/-- R260: how many transactions a transposing copy asks room for. -/
def Transp.room (x : Transp) : Nat := x.srcLen / 256 + x.dstLen / 256 + 2

/-- MOVE (R490). -/
def execMove (t : Tid) (w : IWord) (s : State) : Host.Outcome State Fault Refusal :=
  .next (s.issue t w
    { ok := ({ a := .g, b := .g, c := .g, d := .g } : Form).ok w, gate := true,
      reads := [gR w.a.toNat, gR w.b.toNat, gR w.c.toNat, gR w.d.toNat] }
    (fun s _ =>
      let x := s.thread t.code
      let g (i : BitVec 6) : Nat := (x.regs.getG i.toNat).toNat
      let n := g w.c
      let f := if n = 0 then 0 else s.moveFault (g w.a) (g w.b) n
      let f := if f ≠ 0 then f else barFault (g w.d)
      if f ≠ 0 then .fault f s
      else if !(s.engineRoom t.tile.val (n / 256 + 1)) then .wait .waitData s
      else
        let bar := barAddr t.code (g w.d)
        .retire (s.acceptCopy t.tile.val
          { org := .thread t.code x.regs.pc x.owner, bar := bar, ep := s.barEpoch bar,
            segs := if n = 0 then [] else [.mv (g w.b) (g w.a) n true] })))

/-- MOVE.T (R490). Without SC, F4, F5 and MOD[5] are unused. -/
def execMoveT (t : Tid) (w : IWord) (s : State) : Host.Outcome State Fault Refusal :=
  let sc := w.m 4
  let us := if sc then [0, 1, 2, 3, 4, 5] else [0, 1, 2, 3]
  let form : Form := { a := .g, b := .g, c := .g, mods := if sc then 0x3F else 0x1F, x := .fields us }
  .next (s.issue t w
    { ok := form.ok w, head := form.head w, gate := true, reads := [gR w.a.toNat, gR w.b.toNat, gR w.c.toNat] ++ us.map (fun k => gR (w.f k)) }
    (fun s _ =>
      let x := s.thread t.code
      let g (i : Nat) : Nat := (x.regs.getG i).toNat
      let geom : Geom := { fmt := w.ms 0 4, src := g w.b.toNat, dst := g w.a.toNat, sstride := g (w.f 2), dstride := g (w.f 3),
                           rows := g (w.f 0), cols := g (w.f 1) }
      let y : Transp := { g := geom, sc := sc, col := w.m 5, ssrc := g (w.f 4), sdst := g (w.f 5) }
      let f := s.transpFault y
      let f := if f ≠ 0 then f else barFault (g w.c.toNat)
      let zero := geom.rows = 0 ∨ geom.cols = 0
      if f ≠ 0 then .fault f s
      else if !(s.engineRoom t.tile.val (if zero then 1 else y.room)) then .wait .waitData s
      else
        let bar := barAddr t.code (g w.c.toNat)
        .retire (s.acceptCopy t.tile.val
          { org := .thread t.code x.regs.pc x.owner, bar := bar, ep := s.barEpoch bar,
            segs := if zero then [] else y.segs, geom := some geom })))

/-! The stream commands -/

/-- R514: the tile whose engine performs a copy: 0xFF is the lowest in service. -/
def State.copyTile (s : State) (b : Nat) : Option Nat :=
  if b = 0xFF then s.tilesOn.head? else if b < 36 ∧ s.tileOn b then some b else none

/-- A copy command's start: its opcode, the body bytes it uses, and what it does once it starts. -/
def State.copyCmd (s : State) (k : CmdRef) (opc : Nat) (used : List (Nat × Nat)) (room : Cmd → State → Bool)
    (run : Cmd → State → State) : State :=
  match s.cmd k with
  | none => s
  | some c =>
    if s.mayStart k [opc] then
      if !(c.clean used) then (s.startCmd k).finishCmd k 0x0A11
      else if room c s then run c (s.startCmd k)
      else s
    else s

/-- COPY (R514): a count above 2^40, or a tile that is not in service, is a field out of range (0x0A11). -/
def execCopy (k : CmdRef) (s : State) : Host.Outcome State Fault Refusal :=
  .next (s.copyCmd k 0x02 [(0, 25)]
    (fun c s => match s.copyTile (c.body 24 1) with
      | some t => s.engineRoom t (c.body 16 8 / 256 + 1)
      | none => true)
    (fun c s =>
      let n := c.body 16 8
      match s.copyTile (c.body 24 1) with
      | none => s.finishCmd k 0x0A11
      | some t =>
        if 2 ^ 40 < n then s.finishCmd k 0x0A11
        else if n = 0 then s.finishCmd k 0
        else
          let f := s.moveFault (c.body 0 8) (c.body 8 8) n
          if f ≠ 0 then s.finishCmd k f
          else s.acceptCopy t { org := .cmd k, bar := 0, ep := 0, segs := [.mv (c.body 8 8) (c.body 0 8) n true] }))

/-- The operands of a COPY.T command (R514). -/
def transpOf (c : Cmd) : Transp :=
  let b := c.body 25 1
  { g := { fmt := b % 16, src := c.body 8 8, dst := c.body 0 8, sstride := c.body 40 8, dstride := c.body 48 8,
           rows := c.body 32 4, cols := c.body 36 4 }
    sc := bitAt b 4, col := bitAt b 5, ssrc := c.body 56 8, sdst := c.body 64 8 }

/-- COPY.T (R514, R490, R175). -/
def execCopyT (k : CmdRef) (s : State) : Host.Outcome State Fault Refusal :=
  .next (s.copyCmd k 0x03 [(0, 26), (32, 40)]
    (fun c s => match s.copyTile (c.body 24 1) with
      | some t => s.engineRoom t (transpOf c).room
      | none => true)
    (fun c s =>
      match s.copyTile (c.body 24 1) with
      | none => s.finishCmd k 0x0A11
      | some t =>
        let x := transpOf c
        if c.body 25 1 ≥ 64 then s.finishCmd k 0x0A11
        else
          let f := s.transpFault x
          if f ≠ 0 then s.finishCmd k f
          else if x.g.rows = 0 ∨ x.g.cols = 0 then s.finishCmd k 0
          else s.acceptCopy t { org := .cmd k, bar := 0, ep := 0, segs := x.segs, geom := some x.g }))

/-- R516: an extent of a CAVE list: source, destination and length, or its fault. A module address that is a host window's,
or a host address that is none, is of the wrong kind (0x0503); a length above 2^40 is out of range (0x0A11). -/
def State.caveExtent (s : State) (dir a : Nat) : (Nat × Nat × Nat) × Nat :=
  let m := s.readNat a 8 % 2 ^ 46
  let h := s.readNat (a + 8) 8 % 2 ^ 46
  let n := s.readNat (a + 16) 8
  let e := if dir = 0 then (selfAddr m, selfAddr h, n) else (selfAddr h, selfAddr m, n)
  let f :=
    if 2 ^ 40 < n then 0x0A11
    else if n = 0 then 0
    else
      let f := firstFault (s.rangeFault e.1 n) (s.rangeFault e.2.1 n)
      if f ≠ 0 then f
      else if regionOf m = .host ∨ regionOf h ≠ .host then 0x0503 else 0
  (e, f)
where
  selfAddr (a : Nat) : Nat := 0x3FFFF * 2 ^ 46 + a

/-- R282: the extent list of a CAVE lies in a held bank, so that its read waits. -/
def State.caveHeld (s : State) (c : Cmd) : Bool :=
  let a := c.body 0 8 % 2 ^ 46
  decide (c.body 8 4 ≤ 2 ^ 20) && s.addrFault .engine a (24 * c.body 8 4) = 0 && s.banksHeld a (24 * c.body 8 4)

/-- CAVE (R516): extents are moved in list order by the lowest tile in service. With a faulty extent the command moves no byte, and
completes with the fault of the first (R48). -/
def execCave (k : CmdRef) (s : State) : Host.Outcome State Fault Refusal :=
  .next (s.copyCmd k 0x18 [(0, 13)]
    (fun c s => (match s.tilesOn.head? with
      | some t => s.engineRoom t 1
      | none => true) && !(s.caveHeld c))
    (fun c s =>
      let a := c.body 0 8 % 2 ^ 46
      let n := c.body 8 4
      match s.tilesOn.head? with
      | none => s.finishCmd k 0x0A11
      | some t =>
        if 2 ^ 20 < n ∨ 1 < c.body 12 1 then s.finishCmd k 0x0A11
        else if n = 0 then s.finishCmd k 0
        else
          let f := s.addrFault .engine a (24 * n)
          if f ≠ 0 then s.finishCmd k f
          else if s.poisoned a (24 * n) then s.finishCmd k 0x0511
          else
            let es := (List.range n).map (fun i => s.caveExtent (c.body 12 1) (a + 24 * i))
            let fault := ((es.find? (fun e => e.2 ≠ 0)).map (·.2)).getD 0
            let s := s.touch a (24 * n)
            if fault ≠ 0 then s.finishCmd k fault
            else s.acceptCopy t { org := .cmd k, bar := 0, ep := 0, ordered := true,
                                  segs := (es.filter (fun e => e.1.2.2 ≠ 0)).map (fun e => .mv e.1.1 e.1.2.1 e.1.2.2 true) }))

end Sys2Proof.Machine
end

