-- ==== Sys2Proof/Machine/RegView.lean ====
section
/-! DEFINITION. How control space reads (R11 to R14, R50 to R52, R667): which register lies at an offset, the 64 bits of its
image, and the read-only windows beside the registers. -/

namespace Sys2Proof.Machine

/-! Where registers lie -/

/-- One of n registers that lie every so many bytes from a base. -/
def pick (base step n : Nat) (f : Nat → Reg) (r : Nat) : Option Reg :=
  if base ≤ r ∧ (r - base) % step = 0 ∧ (r - base) / step < n then some (f ((r - base) / step)) else none

/-- The first of some candidates. -/
def oneOf (l : List (Option Reg)) : Option Reg := l.findSome? id

/-- One of the registers of a list, by its offset. -/
def exactly (l : List (Nat × Reg)) (r : Nat) : Option Reg := SMap.find l r

/-- Registers of the MC block. -/
def regMc (r : Nat) : Option Reg :=
  oneOf [exactly [(0x100, .MC_PANEL_TILES), (0x108, .MC_PANEL_DIES), (0x110, .MC_PANEL_MEM), (0x300, .MC_SET_CTL),
      (0x308, .MC_SET_STAT), (0x400, .MC_WDT), (0x410, .MC_FWB_CTL), (0x418, .MC_FWB_SRC), (0x420, .MC_FWB_STAT),
      (0x428, .MC_FWB_COUNT)] r,
    pick 0x2000 8 272 .MC_SF_COEF r]

/-- Registers of the CLK block. -/
def regClk (r : Nat) : Option Reg :=
  oneOf [exactly [(0, .CLK_ROOT_STATUS), (8, .CLK_XTAL_CTL), (0x10, .CLK_SSC)] r,
    pick 0x100 8 8 .CLK_DOM_CTL r, pick 0x180 8 8 .CLK_FCNT r]

/-- Registers of the PWR block. -/
def regPwr (r : Nat) : Option Reg :=
  oneOf [exactly [(0, .PWR_STAGE), (8, .PWR_CPR), (0x10, .PWR_CAP), (0x18, .PWR_IN), (0x20, .PWR_STAT), (0x28, .PWR_THERM),
      (0x30, .PWR_LIFT), (0x38, .PWR_CARRIER)] r,
    pick 0x100 8 36 .PWR_TILE r]

/-- Registers of the ID, LIC and BIST blocks. -/
def regTrust (b r : Nat) : Option Reg :=
  if b = 3 then
    oneOf [exactly [(0, .ID_MODULE), (8, .ID_SVN), (0x10, .ID_RNG), (0x18, .ID_CAPS)] r, pick 0x100 8 12 .ID_PUB r,
      pick 0x1000 16 45 .ID_DIE_LOT r, pick 0x1008 16 45 .ID_DIE_POS r]
  else if b = 4 then exactly [(0, .LIC_STAT), (8, .LIC_FLOOR), (0x10, .LIC_PEND)] r
  else
    oneOf [exactly [(0, .BIST_STAT), (8, .BIST_QUICK)] r, pick 0x100 16 45 .BIST_LSIG r, pick 0x108 16 45 .BIST_MSIG r]

/-- Registers of the HST block. -/
def regHst (r : Nat) : Option Reg :=
  oneOf [pick 0 0x100 2 .HST_PORT_STAT r,
    exactly [(0x1000, .HST_JRNL_BASE), (0x1008, .HST_JRNL_PTR), (0x1010, .HST_IRQ_CTL), (0x2000, .HST_FLOG_PTR)] r,
    pick 0x40000 0x40 4096 .HST_S_CTL r, pick 0x40008 0x40 4096 .HST_S_CMD r, pick 0x40010 0x40 4096 .HST_S_CPL r,
    pick 0x40018 0x40 4096 .HST_S_LINE r, pick 0x40020 0x40 4096 .HST_S_STAT r, pick 0x40028 0x40 4096 .HST_S_SEQ r,
    pick 0x40030 0x40 4096 .HST_S_CPLP r, pick 0x40038 0x40 4096 .HST_S_DB r]

/-- Registers of the ING block. -/
def regIng (r : Nat) : Option Reg :=
  oneOf ([exactly [(0, .ING_CTL), (8, .ING_STAT), (0x10, .ING_LOG_BASE), (0x18, .ING_LOG_PTR)] r,
    pick 0x20 8 8 .ING_PIPE_STAT r, pick 0x100 0x40 8 .ING_PROF_CROP r, pick 0x108 0x40 8 .ING_PROF_OUT r]
    ++ (List.range 6).map (fun m => pick (0x110 + 8 * m) 0x40 8 (fun j => .ING_PROF_M j m) r))

/-- Registers of the JL block. -/
def regJl (r : Nat) : Option Reg :=
  oneOf ([pick 0 0x10000 6 .JL_P_CTL r, pick 8 0x10000 6 .JL_P_STAT r, pick 0x10 0x10000 6 .JL_P_LANES r,
    pick 0x18 0x10000 6 .JL_P_THRESH r, pick 0x20 0x10000 6 .JL_P_COUNT r, pick 0x28 0x10000 6 .JL_P_FEC r,
    exactly [(0x80000, .JL_TORUS), (0x80008, .JL_SEAL), (0x80040, .JL_E2E_CTL), (0x80048, .JL_FLOWS),
      (0x80050, .JL_ROUTE_STAT)] r, pick 0x80010 8 4 .JL_GATEWAY r]
    ++ (List.range 6).map (fun p => pick (0x100 + p * 0x10000) 8 16 (.JL_P_VC p) r))

/-- Registers of the FAR or NEAR block. -/
def regTier (k : Tier) (r : Nat) : Option Reg :=
  let n := if k = .far then 24 else 16
  oneOf [exactly [(0xF0000, .MAP_CTL k), (0xF0008, .HASH_KEY k), (0xF0010, .MEM_INIT k), (0xF0018, .ERR_CTL k),
      (0xF0020, .GUARD k)] r,
    pick 0 0x8000 n (.CH_STAT k) r, pick 8 0x8000 n (.CH_ECC k) r, pick 0x10 0x8000 n (.CH_QDEPTH k) r,
    pick 0x18 0x8000 n (.CH_RH k) r, if k = .near then pick 0x20 0x8000 16 .NEAR_ST_SPARE r else none]

/-- Registers of the KV block. -/
def regKv (r : Nat) : Option Reg :=
  oneOf [exactly [(0, .KV_CTL), (8, .KV_TABLE), (0x10, .KV_TABLE_REC), (0x18, .KV_PROT), (0x20, .KV_EPOCH), (0x28, .KV_EVT),
      (0x30, .KV_EVT_PTR), (0x38, .KV_STAT), (0x40, .KV_TABLE_RECS)] r,
    pick 0x100 16 16 .KV_POOL_CFG r, pick 0x108 16 16 .KV_POOL_STAT r]

/-- Registers of the REL block. -/
def regRel (r : Nat) : Option Reg :=
  oneOf [exactly [(0, .REL_CFG), (8, .REL_STAT), (0x800, .REL_NOISE), (0x808, .REL_NOISE_PTR)] r,
    pick 0x100 0x40 16 .REL_NORM_CTL r, pick 0x108 0x40 16 .REL_NORM_ADDR r, pick 0x110 0x40 16 .REL_NORM_BAR r,
    pick 0x118 0x40 16 .REL_NORM_SLOTS r,
    pick 0x10000 0x80 1024 .REL_RED_CTL r, pick 0x10008 0x80 1024 .REL_RED_ID r, pick 0x10010 0x80 1024 .REL_RED_OWN r,
    pick 0x10018 0x80 1024 .REL_RED_RING r, pick 0x10020 0x80 1024 .REL_RED_SLOTS r, pick 0x10028 0x80 1024 .REL_RED_EXP r,
    pick 0x10030 0x80 1024 .REL_RED_ACC r, pick 0x10038 0x80 1024 .REL_RED_CMPA r, pick 0x10040 0x80 1024 .REL_RED_STAT r,
    pick 0x10048 0x80 1024 .REL_RED_CHK r]

/-- Registers of the JOB block. -/
def regJob (r : Nat) : Option Reg :=
  oneOf [exactly [(0, .JOB_CTL), (8, .JOB_SEED), (0x10, .JOB_STEP), (0x18, .JOB_STEP_CMD), (0x20, .JOB_LOSS),
      (0x28, .JOB_VERIFY), (0x30, .JOB_FILL), (0x38, .JOB_PHASE), (0x40, .JOB_SREC), (0x48, .JOB_SREC_PTR)] r,
    pick 0x100 8 32 .JOB_PHASE_MAP r, pick 0x3000 8 2 .JOB_LAP_CFG r, pick 0x3010 8 2 .JOB_LAP_STAT r]

/-- Registers of the TILE block of tile t. -/
def regTile (t r : Nat) : Option Reg :=
  oneOf [exactly [(0, .TILE_CORE_MAP t), (0x10, .TILE_GLIDE_CTL t), (0x20, .TILE_ARRAY_CTL t), (0x28, .TILE_NUM_CTL t),
      (0x38, .TILE_SRAM_ECC t), (0x40, .TILE_KV_CACHE t), (0x48, .TILE_KV_PIN_ME t), (0x50, .TILE_ATT_TBL t)] r,
    pick 0x100 8 16 (.TILE_CORE_CYCLES t) r, pick 0x180 8 16 (.TILE_GLIDE_STAT t) r, pick 0x200 8 16 (.TILE_PHASE_HEAD t) r,
    pick 0x300 8 16 (.TILE_ARRAY_STAT t) r, pick 0x380 8 16 (.TILE_ARRAY_ROWS t) r, pick 0x400 8 16 (.TILE_ARRAY_COUNT t) r,
    pick 0x480 8 16 (.TILE_NUM_STAT t) r, pick 0x500 8 16 (.TILE_NUM_COUNT t) r, pick 0x580 8 16 (.TILE_KV_PIN t) r,
    pick 0x10000 8 2048 (fun i => .TILE_THREAD_STATUS t (i / 128) (i % 128)) r]

/-- R50: the register at an offset of control space that is a multiple of 8; none where no table lists one. -/
def regAt (o : Nat) : Option Reg :=
  let r := o % 0x100000
  match o / 0x100000 with
  | 0 => regMc r
  | 1 => regClk r
  | 2 => regPwr r
  | 3 => regTrust 3 r
  | 4 => regTrust 4 r
  | 5 => regTrust 5 r
  | 6 => regHst r
  | 7 => regIng r
  | 8 => regJl r
  | 9 => regTier .far r
  | 10 => regTier .near r
  | 11 => regKv r
  | 12 => regRel r
  | 13 => regJob r
  | b => if 0x10 ≤ b ∧ b < 0x34 then regTile (b - 0x10) r else none

/-! What a register reads -/

/-- R12: a register's 64 bits, with some fields given; WO fields read zero. -/
def imageOf (r : Reg) (v : Fld → Nat) : Nat :=
  r.fields.foldl (fun a f => a + (if f.acc = .wo then 0 else v f % 2 ^ f.len) * 2 ^ f.lo) 0

/-- R382: the pin slots that a holder has busy, as epochs, and the oldest of them or CUR. -/
def State.oldPin (s : State) (h : Nat) : Nat :=
  let x := s.pins.getD h {}
  let es := (if x.c0 = 0 then [] else [x.e0]) ++ (if x.c1 = 0 then [] else [x.e1])
  (es.foldl (fun (a : BitVec 32) e => if s.kvEpoch - a < s.kvEpoch - e then e else a) s.kvEpoch).toNat

/-- R380: the oldest busy pin epoch, or CUR. -/
def State.oldestPin (s : State) : Nat :=
  (s.busyEpochs.foldl (fun (a : BitVec 32) e => if s.kvEpoch - a < s.kvEpoch - e then e else a) s.kvEpoch).toNat

/-- R190: the status of an array. -/
def MatArray.status (a : MatArray) (r : Nat) : Nat :=
  let fmt (o : Option Operand) : Nat := match o with
    | some x => x.fmt
    | none => 0xF
  let swap := a.q.any (fun o => match o.kind with
    | .load v _ _ => (Desc.dec v).fmt ≠ 0
    | _ => false)
  setBits ((a.lease.getD 0) % 128 + b2n a.lease.isSome * 2 ^ 7 + a.q.length % 8 * 2 ^ 8 + b2n swap * 2 ^ 11
    + fmt a.front % 16 * 2 ^ 12 + fmt a.shadow % 16 * 2 ^ 16 + a.ramp % 4 * 2 ^ 20
    + b2n (fmt a.front = 0 && fmt a.shadow = 0) * 2 ^ 22 + a.cols % 256 * 2 ^ 24) 23 1 r

/-- R562: a send flow waits for its route to drain. -/
def State.drainingFlows (s : State) : Bool := s.sends.any (fun e => e.2.toward.isSome && e.2.unacked ≠ [])

/-- R343: packets first sent by port p on VC v that are not acknowledged. -/
def State.unackedVia (s : State) (p v : Nat) : Nat :=
  (s.sends.map (fun e => if e.1 % 16 = v then (e.2.unacked.filter (fun k => k.port = p)).length else 0)).sum

/-- R11, R12: the 64 bits of a register as BAR2 reads them. The registers whose fields show other state are worked out here. CREDIT0 and
CREDIT1 (R343) show credits above 63, which the shared pool gives, modulo 64 (DESIGN CHOICE, log entry 103). -/
def State.regImage (s : State) (r : Reg) : Nat :=
  match r with
  | .TILE_THREAD_STATUS t c h => (s.thread (t * 2048 + c * 128 + h)).status
  | .TILE_CORE_CYCLES t _ => s.coreCycle t % 2 ^ 64
  | .TILE_PHASE_HEAD t c => setBits (imageOf r s.fld) 16 8 ((s.core (t * 16 + c)).phase % 256)
  | .TILE_ARRAY_STAT t c => (s.core (t * 16 + c)).array.status (s.fld (Fd.TILE_ARRAY_STAT_INT_SAT t c))
  | .TILE_KV_PIN t c =>
    let h := t * 16 + c
    let x := s.pins.getD h {}
    x.c0 % 2 ^ 16 + x.c1 % 2 ^ 16 * 2 ^ 16 + s.oldPin h * 2 ^ 32
  | .TILE_KV_PIN_ME t =>
    let x := s.pins.getD (1000 + t) {}
    x.e0.toNat + x.e1.toNat * 2 ^ 32
  | .TILE_ATT_TBL t =>
    setBits (imageOf r s.fld) 17 1 (b2n (s.threads.any (fun e => decide (tileOf e.1 = t) && e.2.fence)))
  | .JL_P_VC p v =>
    let cr := (SMap.getD s.links p {}).credits
    min (s.unackedVia p v) (2 ^ 24 - 1) + (cr.getD (2 * v) 0) % 64 * 2 ^ 24 + (cr.getD (2 * v + 1) 0) % 64 * 2 ^ 32
      + s.fld (Fd.JL_P_VC_STOPPED p v) * 2 ^ 63
  | .JL_FLOWS =>
    s.openFlows % 2 ^ 16 + s.recvs.length % 2 ^ 16 * 2 ^ 16
      + s.fld Fd.JL_FLOWS_REFUSED_FULL * 2 ^ 32
  | .MC_SET_STAT => setBits (imageOf r s.fld) 0 16 (if s.boot.flash then s.savedCount else 0)
  | .KV_EPOCH => s.fld Fd.KV_EPOCH_CUR + s.oldestPin * 2 ^ 32
  | .JOB_PHASE =>
    setBits (setBits (imageOf r s.fld) 12 1 (b2n s.drainingFlows)) 32 10 s.jobCores.length
  | r => imageOf r s.fld

/-- R52, R25, R627: the 64 bits of a register that reads its reset value. -/
def State.resetImage (s : State) (r : Reg) : Nat := imageOf r s.resetVal

/-- R52, R503: the 64 bits at an offset that reads its reset value; the windows beside the registers read zero. -/
def State.resetWord (s : State) (o : Nat) : Nat :=
  match regAt o with
  | some r => s.resetImage r
  | none => 0

/-- R3, R627: what an ING register reads where the licence does not enable it. -/
def State.ingImage (s : State) (r : Reg) : Nat :=
  match r with
  | .ING_CTL => imageOf r (fun f => if f = Fd.ING_CTL_PIPES_EN then 0 else s.resetVal f)
  | .ING_PIPE_STAT i => imageOf r (fun f => if f = Fd.ING_PIPE_STAT_STATE i then 3 else s.resetVal f)
  | r => s.resetImage r

/-- R646: entry j of the flash defect list as BIST shows it. -/
def State.defectEntry (s : State) (j : Nat) : Nat :=
  if j < s.flashDefects then flashDefect j
  else match s.defects[j - s.flashDefects]? with
    | some e => e % 2 ^ 56 + crc8 e * 2 ^ 56
    | none => 0

/-- R526: 64 bits of a port's MSI-X table, or of its pending bits. An entry nobody wrote is masked (log entry 12). -/
def State.msixWord (s : State) (port r : Nat) : Nat :=
  if r < 0x8000 then bits (s.msix.getD (port * 2048 + r / 16) (1#128 <<< 96)).toNat (64 * (r / 8 % 2)) 64
  else if r < 0x8100 then
    (List.range 64).foldl (fun a i => a + b2n (s.msixPend.getD (port * 2048 + (r - 0x8000) * 8 + i) false) * 2 ^ i) 0
  else 0

/-- The windows beside the registers: 64 bits at an offset that is a multiple of 8, of block b: defect entries (R646), the fault
log and the MSI-X tables (R529), pistes (R330), phase times (R121). Any other offset reads zero (R51). -/
def State.windowAt (s : State) (b r : Nat) : Nat :=
  if b = 5 then (if 0x1000 ≤ r ∧ r < 0x21000 then s.defectEntry ((r - 0x1000) / 8) else 0)
  else if b = 6 then
    if 0x2100 ≤ r ∧ r < 0x3100 then bits (s.flog.getD ((r - 0x2100) / 16) 0).toNat (64 * (r / 8 % 2)) 64
    else if 0xC0000 ≤ r ∧ r < 0xE0000 then s.msixWord ((r - 0xC0000) / 0x10000) (r % 0x10000)
    else 0
  else if b = 13 then
    (if 0x1000 ≤ r ∧ r < 0x2000 ∧ r % 256 < 144 then bits (s.piste ((r - 0x1000) / 256)) (8 * (r % 256)) 64 else 0)
  else if 0x10 ≤ b then
    if 0x20000 ≤ r ∧ r < 0x30000 then
      let q := r - 0x20000
      bits ((s.core ((b - 0x10) * 16 + q / 0x1000)).ring.getD (q % 0x1000 / 16) 0).toNat (64 * (q / 8 % 2)) 64
    else 0
  else 0

/-- R50, R51: does a chapter list the offset, a multiple of 8, as a register or as part of a window? -/
def csrListed (o : Nat) : Bool :=
  let b := o / 0x100000
  let r := o % 0x100000
  (regAt o).isSome || (b = 5 && decide (0x1000 ≤ r) && decide (r < 0x21000))
    || (b = 6 && ((decide (0x2100 ≤ r) && decide (r < 0x3100)) || (decide (0xC0000 ≤ r) && decide (r < 0xE0000) && decide (r % 0x10000 < 0x8100))))
    || (b = 13 && decide (0x1000 ≤ r) && decide (r < 0x2000) && decide (r % 256 < 144))
    || (decide (0x10 ≤ b) && decide (b < 0x34) && decide (0x20000 ≤ r) && decide (r < 0x30000))

/-- R11: the bits of its register that an access names, none where the access is not aligned or not 32 or 64 bits. -/
def accessMask (off : Nat) (size : AccessSize) : Option Nat :=
  match size with
  | .eight => if off % 8 = 0 then some fullMask else none
  | .four => if off % 8 = 0 then some (2 ^ 32 - 1) else if off % 8 = 4 then some (fullMask - (2 ^ 32 - 1)) else none
  | _ => none

/-- The value of an access in its place in the register. -/
def accessValue (off v : Nat) : Nat := if off % 8 = 4 then v % 2 ^ 32 * 2 ^ 32 else v % 2 ^ 64

/-- The 64 bits that a read of an offset of control space returns, at a multiple of 8 (R11, R25, R50 to R52, R627). -/
def State.csrWord (s : State) (o : Nat) : Nat :=
  let b := o / 0x100000
  match regAt o with
  | some r =>
    if s.blockInReset b then s.resetImage r
    else if s.blockOff b then (if o % 0x100000 = 0 then s.regImage r else s.resetImage r)
    else if b = 7 ∧ s.ingOff then s.ingImage r
    else s.regImage r
  | none => if s.blockInReset b ∨ s.blockOff b then 0 else s.windowAt b (o % 0x100000)

end Sys2Proof.Machine
end

