-- ==== Sys2Proof/Machine/Sha.lean ====
section
/-! DEFINITION. SHA-384, which R617, R621 and R623 name. The algorithm is the one of FIPS 180-4, not of this spec (PRESUMED,
log entry 50); its constants are computed from the roots of the primes that the standard takes them from. -/

namespace Sys2Proof.Machine

/-- The first primes, the 80th being 409. -/
def shaPrimes : List Nat :=
  ((List.range 410).drop 2).filter (fun n => ((List.range n).drop 2).all (fun d => n % d ≠ 0))

/-- The largest r below 2^bits with r ^ e at most n, from the top bit down. -/
def rootOf (e n : Nat) : Nat → Nat → Nat
  | 0, r => r
  | b + 1, r => if (r + 2 ^ b) ^ e ≤ n then rootOf e n b (r + 2 ^ b) else rootOf e n b r

/-- The round constants: 64 bits of the fraction of the cube roots of the first 80 primes. -/
def shaK : List (BitVec 64) := shaPrimes.map (fun p => BitVec.ofNat 64 (rootOf 3 (p * 2 ^ 192) 68 0))

/-- The initial value: 64 bits of the fraction of the square roots of the 9th to 16th primes. -/
def shaH : List (BitVec 64) := ((shaPrimes.drop 8).take 8).map (fun p => BitVec.ofNat 64 (rootOf 2 (p * 2 ^ 128) 68 0))

/-- The message schedule: words oldest last. -/
def shaSchedule (w : List (BitVec 64)) : Nat → List (BitVec 64)
  | 0 => w
  | n + 1 =>
    let v := shaSchedule w n
    let a := v.getD 1 0
    let b := v.getD 14 0
    let s1 := (a.rotateRight 19) ^^^ (a.rotateRight 61) ^^^ (a >>> 6)
    let s0 := (b.rotateRight 1) ^^^ (b.rotateRight 8) ^^^ (b >>> 7)
    (s1 + v.getD 6 0 + s0 + v.getD 15 0) :: v

/-- One round on the eight working words. -/
def shaRound (x : List (BitVec 64)) (kw : BitVec 64) : List (BitVec 64) :=
  let a := x.getD 0 0
  let b := x.getD 1 0
  let c := x.getD 2 0
  let e := x.getD 4 0
  let t1 := x.getD 7 0 + ((e.rotateRight 14) ^^^ (e.rotateRight 18) ^^^ (e.rotateRight 41))
    + ((e &&& x.getD 5 0) ^^^ (~~~e &&& x.getD 6 0)) + kw
  let t2 := ((a.rotateRight 28) ^^^ (a.rotateRight 34) ^^^ (a.rotateRight 39))
    + ((a &&& b) ^^^ (a &&& c) ^^^ (b &&& c))
  [t1 + t2, a, b, c, x.getD 3 0 + t1, e, x.getD 5 0, x.getD 6 0]

/-- A number of n bytes, the most significant byte first. -/
def beBytes (n v : Nat) : List Byte := (List.range n).map (fun i => BitVec.ofNat 8 (v / 256 ^ (n - 1 - i)))

/-- The number that bytes spell, the most significant first. -/
def beNat (bs : List Byte) : Nat := bs.foldl (fun a b => a * 256 + b.toNat) 0

/-- One block of 128 bytes. -/
def shaBlock (h : List (BitVec 64)) (bs : List Byte) : List (BitVec 64) :=
  let w := (List.range 16).map (fun i => BitVec.ofNat 64 (beNat ((bs.drop (8 * i)).take 8)))
  let ws := (shaSchedule w.reverse 64).reverse
  let r := (List.zipWith (· + ·) shaK ws).foldl shaRound h
  List.zipWith (· + ·) h r

/-- The SHA-384 digest of bytes, 48 bytes. -/
def sha384 (bs : List Byte) : List Byte :=
  let n := bs.length
  let pad := bs ++ [0x80] ++ List.replicate ((239 - n % 128) % 128) 0 ++ beBytes 16 (8 * n)
  let r := (List.range (pad.length / 128)).foldl (fun h i => shaBlock h ((pad.drop (128 * i)).take 128)) shaH
  (r.take 6).flatMap (fun x => beBytes 8 x.toNat)

end Sys2Proof.Machine
end

