-- ==== Sys2Proof/Machine/Resync.lean ====
section
/-! DEFINITION. The RESYNC summary record (R641 to R645) and the BAR0 status window (R504). -/

namespace Sys2Proof.Machine

/-- R643: the images of registers, 8 bytes each. -/
def State.images (s : State) (rs : List Reg) : List Byte := rs.flatMap (fun r => leBytes 8 (s.regImage r))

/-- R643: entries of so many bytes each, with their count. -/
def entries (n : Nat) (l : List Nat) : Nat × List Byte := (l.length, l.flatMap (leBytes n))

/-- R643: a stream's entry. -/
def State.streamEntry (s : State) (i : Nat) : Nat :=
  i + s.fld (Fd.HST_S_STAT_STATE i) * 2 ^ 12 + s.fld (Fd.HST_S_STAT_LAST_FAULT i) * 2 ^ 32
    + s.fld (Fd.HST_S_SEQ_ACCEPTED i) * 2 ^ 64 + s.fld (Fd.HST_S_SEQ_COMMITTED i) * 2 ^ 96
    + s.fld (Fd.HST_S_CPLP_COMPLETED i) * 2 ^ 128 + s.fld (Fd.HST_S_CPLP_CPL_HEAD i) * 2 ^ 160

/-- R643: a flow's entry, from its parts. -/
def flowEntry (dir vc port peer ep seq aux : Nat) : Nat :=
  dir + vc * 2 + port % 8 * 2 ^ 5 + peer % 2 ^ 18 * 2 ^ 8 + ep * 2 ^ 26 + seq * 2 ^ 64 + aux * 2 ^ 96

/-- R643: the entries of the open flows. With nothing unacknowledged, AUX is the next number. -/
def State.flowEntries (s : State) : List Nat :=
  ((s.sends.filter (fun e => !e.2.reopen && !e.2.held)).map (fun e =>
    let f := e.2
    let od := s.orderDir (e.1 / 16) (e.1 % 16) f.piste
    let aux := match f.unacked with
      | [] => f.next.toNat
      | k :: _ => k.pkt.seq.toNat
    flowEntry 0 (e.1 % 16) ((s.exitPort (e.1 / 16) od.1 od.2).getD 7) (e.1 / 16) f.epoch.toNat f.next.toNat aux))
  ++ s.recvs.map (fun e =>
    flowEntry 1 (e.1 % 16) e.2.port (e.1 / 16) e.2.epoch.toNat e.2.expected.toNat e.2.landed)

/-- R643: the wheels of the module, none while KV_CTL.EN is 0. -/
def State.allWheels (s : State) : List Wheel :=
  if s.isSet Fd.KV_CTL_EN then (List.range (s.fld Fd.KV_TABLE_WHEELS)).map s.wheel else []

/-- R643: the first 32 bytes of section 9. -/
def State.wheelEntry (s : State) : Nat :=
  let ws := s.allWheels
  let n (q : Nat → Bool) : Nat := (ws.filter (fun w => q w.state)).length
  n (· = 1) + n (· = 3) * 2 ^ 32 + n (· = 5) * 2 ^ 64 + n (fun x => x = 2 || x = 4) * 2 ^ 96
    + ((ws.filter (fun w => w.state = 3)).map (fun w => w.caveUsed)).sum % 2 ^ 32 * 2 ^ 128 + s.fld Fd.KV_EPOCH_CUR * 2 ^ 160

/-- R643: the open faults, oldest first: the records from FTAIL to FHEAD. -/
def State.openFaults (s : State) : List Nat :=
  let t := s.fld Fd.HST_FLOG_PTR_FTAIL
  let n := (s.fld Fd.HST_FLOG_PTR_FHEAD + 256 - t) % 256
  (List.range n).map (fun i => (s.flog.getD ((t + i) % 256) 0).toNat)

/-- R643: section 11. -/
def State.fwEntry (s : State) : Nat :=
  Config.romVersion.toNat + fwVersion s.fw.slotA * 2 ^ 32 + fwVersion s.fw.slotB * 2 ^ 64 + fwSvn s.fw.slotA * 2 ^ 96
    + fwSvn s.fw.slotB * 2 ^ 104 + s.fw.run * 2 ^ 112 + s.fwChoice.1 * 2 ^ 114

/-- R643: what a section holds: its count of entries and its bytes after the header. A register image counts as one entry (log
entry 52). -/
def State.sectionBody (s : State) (i : Nat) : Nat × List Byte :=
  let regs (rs : List Reg) : Nat × List Byte := (rs.length, s.images rs)
  match i with
  | 1 => regs [.ID_MODULE, .ID_SVN, .LIC_STAT, .LIC_PEND]
  | 2 => regs ([.PWR_STAGE, .CLK_ROOT_STATUS] ++ (List.range 8).map .CLK_FCNT ++ [.MC_PANEL_TILES, .MC_PANEL_DIES, .MC_PANEL_MEM])
  | 3 => regs [.PWR_IN, .PWR_STAT, .PWR_THERM, .PWR_CPR]
  | 4 => entries 32 (((List.range 4096).filter (fun i => s.isSet (Fd.HST_S_CTL_EN i))).map s.streamEntry)
  | 5 => entries 16 s.flowEntries
  | 6 => (6, (List.range 6).flatMap (fun p => s.images [.JL_P_STAT p, .JL_P_LANES p]))
  | 7 => entries 4 (s.retired.map (fun e => e / 8 + e % 8 * 2 ^ 18))
  | 8 => entries 8 (s.effective.map (fun e => e % 2 ^ 56 + crc8 e * 2 ^ 56))
  | 9 =>
    let pools := (List.range 16).filter (fun i => s.isSet (Fd.KV_POOL_CFG_PEN i))
    (1 + pools.length, leBytes 32 s.wheelEntry ++ s.images (pools.map .KV_POOL_STAT))
  | 10 => entries 16 s.openFaults
  | 11 => entries 16 [s.fwEntry]
  | _ => (6, s.images [.JOB_CTL, .JOB_STEP, .JOB_FILL, .JOB_PHASE, .JOB_SREC_PTR] ++ leBytes 4 s.srSeq.toNat)

/-- R641, R643: the sections a record has: five of them before firmware runs. -/
def State.sectionIds (s : State) : List Nat :=
  if s.fw.run = 0 then [1, 2, 3, 10, 11] else (List.range 12).map (· + 1)

/-- R642: a section with its header; ORDER counts from 0 (log entry 52). -/
def State.sectionBytes (s : State) (i order : Nat) : List Byte :=
  let b := s.sectionBody i
  leBytes 16 (i + 2 ^ 8 + (16 + b.2.length) * 2 ^ 32 + b.1 * 2 ^ 64 + order * 2 ^ 96) ++ b.2

/-- R641, R642, R644: a record is assembled. -/
def State.assemble (s : State) : List Byte × State :=
  let s : State := { s with trust := { s.trust with rseq := s.trust.rseq + 1 } }
  let ids := s.sectionIds
  let body := ids.zipIdx.flatMap (fun x => s.sectionBytes x.1 x.2)
  (leBytes 64 (0x5953524B + 2 ^ 32 + ids.length * 2 ^ 40 + (64 + body.length) * 2 ^ 64 + s.trust.rseq.toNat * 2 ^ 96) ++ body, s)

/-- R504, R641: the copy that BAR0 shows is refreshed, between two increments of SNAP. -/
def State.snapshot (s : State) (rec0 : List Byte) : State :=
  { s with trust := { s.trust with bar0 := rec0, snap := s.trust.snap + 2 } }

/-- R504: the pages of a record. -/
def pageCount (n : Nat) : Nat := (n + 4031) / 4032

/-- R504, R641: a page of a record, 4,032 bytes, zero past its end. -/
def pageOf (rec0 : List Byte) (p : Nat) : List Byte :=
  let bs := (rec0.drop (4032 * p)).take 4032
  bs ++ List.replicate (4032 - bs.length) 0

/-- R499, R504: the 4 KiB that BAR0 of a port shows. "KGL3" reads 0x334C474B. -/
def State.bar0Window (s : State) (q : Nat) : List Byte :=
  leBytes 64 (0x334C474B + s.fld Fd.PWR_STAGE_STAGE % 16 * 2 ^ 32 + s.openFaults.length * 2 ^ 40
    + s.trust.snap.toNat * 2 ^ 64 + pageCount s.trust.bar0.length % 2 ^ 16 * 2 ^ 96)
    ++ pageOf s.trust.bar0 (s.fld (Fd.DVSEC_BAR0_BAR0_PAGE q))

/-- R505, R506: the fault of writing n bytes at a device address that must lie in an open window, or 0. -/
def State.destFault (s : State) (a n : Nat) : Nat :=
  let l := (devSplit a).2
  if !(s.here a) ∨ regionOf l ≠ .host then 0x0502
  else match s.winAt l, s.winAt (l + n - 1) with
    | some i, some j => if i ≠ j then 0x0502 else if s.isSet (Fd.DVSEC_WIN_RO i) then 0x0A14 else 0
    | _, _ => 0x0502

/-- RESYNC (R641, R645): the record is assembled as the command starts, and BAR0 shows it. -/
def execResync (k : CmdRef) (s : State) : Host.Outcome State Fault Refusal :=
  .next (match s.cmd k with
  | none => s
  | some c =>
    if s.mayStart k [0x3A] then
      let s := s.startCmd k
      let a := c.body 0 8
      if !(c.clean [(0, 16)]) then s.finishCmd k 0x0A11
      else if a % 64 ≠ 0 then s.finishCmd k 0x0104
      else
        let r := s.assemble
        let bs := r.1
        let s := r.2.snapshot bs
        if c.body 8 8 < bs.length then s.finishCmd k 0x0E51 bs.length
        else
          let f := s.destFault a bs.length
          if f ≠ 0 then (if f = 0x0A14 then s.log f else s).finishCmd k f
          else ((s.store (cellsFrom (devSplit a).2 bs)).1).finishCmd k 0 bs.length
    else s)

/-- RESYNC_SNAPSHOT_REFRESH (R641). -/
def execResyncSnapshotRefresh (s : State) : Host.Outcome State Fault Refusal :=
  .next (if s.boot.done0 then (let r := s.assemble; r.2.snapshot r.1) else s)

/-- MCTP_RESYNC_PAGE (R641): page 0 assembles the record that the pages then come from. -/
def execMctpResyncPage (page : BitVec 16) (s : State) : Host.Outcome State Fault Refusal :=
  .next (if !s.boot.done0 then s
    else
      let s : State := if page = 0 then
          (let r := s.assemble; { r.2 with trust := { r.2.trust with mctp := r.1 } })
        else s
      { s with out := s.out ++ [.reply 2 (pageOf s.trust.mctp page.toNat)] })

end Sys2Proof.Machine
end

