-- ==== Sys2Proof/Machine/Spdm.lean ====
section
/-! DEFINITION. The SPDM responder (R621 to R623). The spec names the requests, the algorithms, the capabilities and what the
measurements hold; the layout of the messages is that of DMTF DSP0274 1.1 and 1.2 (PRESUMED, log entry 53). Signatures, nonces
and key-exchange data are free values. -/

namespace Sys2Proof.Machine

/-- n bytes that the spec leaves open: free values. -/
def State.freeBytes (s : State) (n : Nat) : List Byte := (List.range n).map (fun i => BitVec.ofNat 8 ((Config.freeValue (s.free + i)).toNat))

/-- Draw n free bytes. -/
def State.drawBytes (s : State) (n : Nat) : List Byte × State := (s.freeBytes n, { s with free := s.free + n })

/-- Answer a transport. -/
def State.answer (s : State) (m : Spdm) (code p1 p2 : Nat) (body : List Byte) : State :=
  let v : Nat := if code = 0x04 then 0x10 else (SMap.getD s.trust.vers m.transport.val m.version.toNat)
  { s with out := s.out ++ [.reply m.transport.val (leBytes 4 (v % 256 + code * 2 ^ 8 + p1 % 256 * 2 ^ 16 + p2 % 256 * 2 ^ 24) ++ body)] }

/-- R622: answer with an SPDM error: 0x01 InvalidRequest, 0x04 UnexpectedRequest, 0x05 Unspecified, 0x06 DecryptError, 0x0A
SessionLimitExceeded, 0x41 VersionMismatch. -/
def State.refuseSpdm (s : State) (m : Spdm) (code : Nat) : State := s.answer m 0x7F code 0 []

/-- How far a connection has come. -/
def State.spdmPhase (s : State) (m : Spdm) : Nat := SMap.getD s.trust.phase m.transport.val 0

/-- Change the trust state. -/
def State.setTrust (s : State) (x : Trust) : State := { s with trust := x }

/-- The session a message belongs to, when it is open over the message's transport. -/
def State.session (s : State) (m : Spdm) : Option (Nat × Session) :=
  match m.session with
  | none => none
  | some n => match SMap.find s.trust.sessions n.val with
    | some x => if x.transport = m.transport.val then some (n.val, x) else none
    | none => none

/-- What every request after GET_CAPABILITIES must meet, as an error code, 0 for none: the agreed version, algorithms agreed, and
within a session a message whose protection verified. -/
def State.spdmError (s : State) (m : Spdm) : Nat :=
  if s.spdmPhase m < 3 then 0x04
  else if SMap.find s.trust.vers m.transport.val ≠ some m.version.toNat then 0x41
  else if m.session.isSome ∧ !m.verified then 0x06
  else if m.session.isSome ∧ (s.session m).isNone then 0x04
  else 0

/-- R528: the message fits an object of 4 KiB of the DOE mailbox, with the object's header and its own. MCTP has no such limit. -/
def spdmFits (m : Spdm) : Bool := decide (2 ≤ m.transport.val) || decide (12 + m.body.length ≤ 4096)

/-- R528, R579: the responder takes a message: from stage 0, and no object beyond 4 KiB. -/
def State.hears (s : State) (m : Spdm) : Bool := s.boot.done0 && spdmFits m

/-- R579: the responder is there from stage 0, for the messages that its mailbox accepts. -/
def State.respond (s : State) (m : Spdm) (go : State → State) : State :=
  if !(s.hears m) then s
  else if s.spdmError m ≠ 0 then s.refuseSpdm m (s.spdmError m)
  else go s

/-! Measurements (R623) -/

/-- R623: the value of a measurement block, with its DMTF value type. -/
def State.measured (s : State) (i : Nat) : Nat × List Byte :=
  let img := s.fw.running
  let num (f : Fld) : List Byte := leBytes 8 (s.fld f)
  match i with
  | 1 => (0x00, Config.romDigest)
  | 2 => (0x01, sha384 ((img.drop 512).take (fwLen img)))
  | 3 => (0x81, leBytes 4 (fwVersion img) ++ leBytes 1 (fwSvn img) ++ leBytes 1 (s.fld Fd.ID_SVN_SVN))
  | 4 => (0x03, sha384 s.fw.lic)
  | 5 => (0x02, sha384 (num Fd.PWR_CAP_CEIL_W ++ num Fd.PWR_THERM_TJ_TRIP ++ num (Fd.GUARD_ACT_MAX .far) ++ num (Fd.GUARD_ACT_MAX .near)
      ++ s.images [.ID_CAPS, .ID_SVN, .LIC_FLOOR]))
  | _ => (0x02, sha384 ((s.effective.map (fun e => e % 2 ^ 56)).mergeSort.flatMap (fun e => leBytes 8 (e + crc8 e * 2 ^ 56))))

/-- R623: a measurement block. -/
def State.measureBlock (s : State) (i : Nat) : List Byte :=
  let v := s.measured i
  leBytes 1 i ++ [1] ++ leBytes 2 (v.2.length + 3) ++ leBytes 1 v.1 ++ leBytes 2 v.2.length ++ v.2

/-- The blocks a request asks for by their indices. -/
def State.measureAll (s : State) (l : List Nat) : List Byte := l.flatMap s.measureBlock

/-- The summary of all measurements, when a request asks for one. -/
def State.measureSummary (s : State) (kind : Nat) : List Byte :=
  if kind = 0 then [] else sha384 (s.measureAll [1, 2, 3, 4, 5, 6])

/-- R622: the digest of the certificate chain; where it cannot be read the spec gives none, and it is a free value. -/
def State.chainDigest (s : State) : List Byte × State :=
  if Config.certChain = [] then s.drawBytes 48 else (sha384 Config.certChain, s)

/-! Requests that need the random source -/

/-- CHALLENGE (R621, R622). -/
def State.answerChallenge (s : State) (m : Spdm) : State :=
  if m.param1 ≠ 0 then s.refuseSpdm m 0x01
  else
    let d := s.chainDigest
    let n := d.2.drawBytes 32
    let g := n.2.drawBytes 96
    g.2.answer m 0x03 0 1 (d.1 ++ n.1 ++ s.measureSummary m.param2.toNat ++ [0, 0] ++ g.1)

/-- GET_MEASUREMENTS (R623): operation 0 asks how many there are, 0xFF for all, else for one. -/
def State.answerMeasure (s : State) (m : Spdm) : State :=
  let op := m.param2.toNat
  if 6 < op ∧ op ≠ 0xFF then s.refuseSpdm m 0x01
  else
    let l := if op = 0 then [] else if op = 0xFF then [1, 2, 3, 4, 5, 6] else [op]
    let r := s.measureAll l
    let n := s.drawBytes 32
    let g := if m.param1.getLsbD 0 then n.2.drawBytes 96 else ([], n.2)
    g.2.answer m 0x60 (if op = 0 then 6 else 0) 0 (leBytes 1 l.length ++ leBytes 3 r.length ++ r ++ n.1 ++ [0, 0] ++ g.1)

/-- KEY_EXCHANGE (R621): a session opens, at most four at once. -/
def State.answerExchange (s : State) (m : Spdm) : State :=
  match (List.range 4).find? (fun n => (SMap.find s.trust.sessions n).isNone) with
  | none => s.refuseSpdm m 0x0A
  | some n =>
    if m.param2 ≠ 0 then s.refuseSpdm m 0x01
    else
      let a := s.drawBytes 33
      let x := a.2.drawBytes 96
      let g := x.2.drawBytes 144
      let s' := g.2.setTrust { g.2.trust with sessions := g.2.trust.sessions.set n { transport := m.transport.val, live := false } }
      s'.answer m 0x64 (leNat (a.1.take 1)) 0
        (leBytes 2 n ++ [0, 0] ++ a.1.drop 1 ++ x.1 ++ s.measureSummary m.param1.toNat ++ [0, 0] ++ g.1)

/-- R616: answer a request that needs the random source, by its request code. -/
def State.answerRandom (s : State) (code : Nat) (m : Spdm) : State :=
  match code with
  | 0x83 => s.answerChallenge m
  | 0xE0 => s.answerMeasure m
  | _ => s.answerExchange m

/-- R616: a request that needs the random source waits while the source is failing. -/
def State.needRandom (s : State) (code : Nat) (m : Spdm) : State :=
  if s.isSet Fd.ID_RNG_HEALTHY then s.answerRandom code m
  else s.setTrust { s.trust with stalled := s.trust.stalled ++ [(code, m)] }

/-- R616: the random source passed its test: the requests that waited are answered, oldest first. -/
def State.answerStalled (s : State) : State :=
  let l := s.trust.stalled
  l.foldl (fun s x => s.respond x.2 (fun s => s.answerRandom x.1 x.2)) (s.setTrust { s.trust with stalled := [] })

/-! The commands -/

/-- GET_VERSION (R621): 1.1 and 1.2. The connection begins anew, and its sessions end. -/
def execGetVersion (m : Spdm) (s : State) : Host.Outcome State Fault Refusal :=
  .next (if !(s.hears m) then s
    else if m.version ≠ 0x10 then s.refuseSpdm m 0x41
    else
      let t := m.transport.val
      let s := s.setTrust { s.trust with
        vers := SMap.erase s.trust.vers t, phase := s.trust.phase.set t 1
        sessions := s.trust.sessions.filter (fun e => e.2.transport ≠ t) }
      s.answer m 0x04 0 0 [0, 2, 0x00, 0x11, 0x00, 0x12])

/-- GET_CAPABILITIES (R621): CERT, CHAL, MEAS with signature, KEY_EX, ENCRYPT, MAC, HBEAT and KEY_UPD; objects of 4 KiB (R528). The
time exponent is a free value. -/
def execGetCapabilities (m : Spdm) (s : State) : Host.Outcome State Fault Refusal :=
  .next (if !(s.hears m) then s
    else if s.spdmPhase m = 0 then s.refuseSpdm m 0x04
    else if m.version ≠ 0x11 ∧ m.version ≠ 0x12 then s.refuseSpdm m 0x41
    else
      let t := m.transport.val
      let s := s.setTrust { s.trust with vers := s.trust.vers.set t m.version.toNat, phase := s.trust.phase.set t 2 }
      let e := s.drawBytes 1
      e.2.answer m 0x61 0 0 ([0] ++ e.1 ++ [0, 0] ++ leBytes 4 0x62D6
        ++ (if m.version = 0x12 then leBytes 4 4096 ++ leBytes 4 4096 else [])))

/-- NEGOTIATE_ALGORITHMS (R621): of what the request offers, ECDSA P-384, SHA-384, secp384r1, AES-256-GCM and the SPDM key
schedule. -/
def execNegotiateAlgorithms (m : Spdm) (s : State) : Host.Outcome State Fault Refusal :=
  .next (if !(s.hears m) then s
    else if s.spdmPhase m < 2 then s.refuseSpdm m 0x04
    else if SMap.find s.trust.vers m.transport.val ≠ some m.version.toNat then s.refuseSpdm m 0x41
    else
      let s := s.setTrust { s.trust with phase := s.trust.phase.set m.transport.val 3 }
      let b := m.body
      let structs := (List.range m.param1.toNat).filterMap (fun i =>
        let o := 28 + 4 * i
        let ty := numAt b o 1
        let pick := if ty = 2 then 0x10 else if ty = 3 then 0x02 else if ty = 5 then 0x01 else 0
        if 2 ≤ ty ∧ ty ≤ 5 ∧ o + 4 ≤ b.length then some (leBytes 1 ty ++ [0x20] ++ leBytes 2 (numAt b (o + 2) 2 &&& pick)) else none)
      s.answer m 0x63 structs.length 0
        (leBytes 2 (36 + 4 * structs.length) ++ leBytes 1 (numAt b 2 1 &&& 1) ++ [0] ++ leBytes 4 0x4
          ++ leBytes 4 (numAt b 4 4 &&& 0x80) ++ leBytes 4 (numAt b 8 4 &&& 0x2) ++ List.replicate 16 0 ++ structs.flatten))

/-- GET_DIGESTS (R622): slot 0 alone is provisioned. -/
def execGetDigests (m : Spdm) (s : State) : Host.Outcome State Fault Refusal :=
  .next (s.respond m (fun s =>
    if Config.certChain = [] then s.refuseSpdm m 0x05 else s.answer m 0x01 0 1 (sha384 Config.certChain)))

/-- GET_CERTIFICATE (R622): a portion of slot 0's chain. -/
def execGetCertificate (m : Spdm) (s : State) : Host.Outcome State Fault Refusal :=
  .next (s.respond m (fun s =>
    let off := numAt m.body 0 2
    let chain := Config.certChain
    if m.param1 ≠ 0 then s.refuseSpdm m 0x01
    else if chain = [] then s.refuseSpdm m 0x05
    else if chain.length ≤ off then s.refuseSpdm m 0x01
    else
      let part := (chain.drop off).take (numAt m.body 2 2)
      s.answer m 0x02 0 0 (leBytes 2 part.length ++ leBytes 2 (chain.length - off - part.length) ++ part)))

/-- CHALLENGE (R621, R616). -/
def execChallenge (m : Spdm) (s : State) : Host.Outcome State Fault Refusal := .next (s.respond m (fun s => s.needRandom 0x83 m))

/-- GET_MEASUREMENTS (R623, R616). -/
def execGetMeasurements (m : Spdm) (s : State) : Host.Outcome State Fault Refusal := .next (s.respond m (fun s => s.needRandom 0xE0 m))

/-- KEY_EXCHANGE (R621, R616). -/
def execKeyExchange (m : Spdm) (s : State) : Host.Outcome State Fault Refusal := .next (s.respond m (fun s => s.needRandom 0xE4 m))

/-- FINISH (R621): the session named is complete; a message that does not verify ends it. -/
def execFinish (m : Spdm) (s : State) : Host.Outcome State Fault Refusal :=
  .next (if !(s.hears m) then s
    else match s.session m with
      | none => s.refuseSpdm m 0x04
      | some (n, x) =>
        if x.live then s.refuseSpdm m 0x04
        else if m.verified then
          (s.setTrust { s.trust with sessions := s.trust.sessions.set n { x with live := true } }).answer m 0x65 0 0 []
        else (s.setTrust { s.trust with sessions := SMap.erase s.trust.sessions n }).refuseSpdm m 0x06)

/-- A request that only a completed session may carry. -/
def State.inSession (s : State) (m : Spdm) (go : Nat → State → State) : State :=
  s.respond m (fun s => match s.session m with
    | some (n, x) => if x.live then go n s else s.refuseSpdm m 0x04
    | none => s.refuseSpdm m 0x04)

/-- HEARTBEAT (R621). -/
def execHeartbeat (m : Spdm) (s : State) : Host.Outcome State Fault Refusal :=
  .next (s.inSession m (fun _ s => s.answer m 0x68 0 0 []))

/-- KEY_UPDATE (R621): operations 1 to 3; the answer repeats the operation and its tag. -/
def execKeyUpdate (m : Spdm) (s : State) : Host.Outcome State Fault Refusal :=
  .next (s.inSession m (fun _ s =>
    if 1 ≤ m.param1.toNat ∧ m.param1.toNat ≤ 3 then s.answer m 0x69 m.param1.toNat m.param2.toNat [] else s.refuseSpdm m 0x01))

/-- END_SESSION (R621). -/
def execEndSession (m : Spdm) (s : State) : Host.Outcome State Fault Refusal :=
  .next (s.inSession m (fun n s =>
    (s.setTrust { s.trust with sessions := SMap.erase s.trust.sessions n }).answer m 0x6C 0 0 []))

end Sys2Proof.Machine
end

