-- ==== Sys2Proof/Machine/Cxl.lean ====
section
/-! DEFINITION. The CXL ports and what reaches the module through them beside streams and BAR2 (R498 to R506, R527, R528, R583): link
up and down, the Kensiost DVSEC, BAR4, the DOE mailbox and IDE keys. -/

namespace Sys2Proof.Machine

/-! Ports -/

/-- R505: the power of two that BAR4's size at a port has now. -/
def State.bar4Log (s : State) (q : Nat) : Nat := s.bar4.getD q 30

/-- R505: a BAR sizing at a port takes up BAR4_LOG. The sizing is part of the link's coming up (DESIGN CHOICE, log entry 56). -/
def State.sizeBars (s : State) (q : Nat) : State := { s with bar4 := s.bar4.set q (s.fld (Fd.DVSEC_BAR4_BAR4_LOG q)) }

/-- R526: the host sets MSI-X Enable and Function Mask as it sets the port up (DESIGN CHOICE, log entry 56). -/
def State.setMsix (s : State) (q : Nat) (c : MsixCtl) : State := { s with msixCtl := s.msixCtl.set q c }

/-- CXL_PORT_TRAIN (R498, R500, R505, R526, R664): a port that is down comes up in a mode, speed and width of R530; its BARs are sized and
its MSI-X control set, and its pending vectors leave. -/
def execCxlPortTrain (q : CxlPort) (mode speed width : Fin 4) (msix : MsixCtl) (s : State) : Host.Outcome State Fault Refusal :=
  let q := q.val
  .next (if !s.boot.done0 ∨ s.fld (Fd.HST_PORT_STAT_MODE q) ≠ 0 ∨ mode = 0 ∨ speed = 0 ∨ width = 0 then s
    else
      let s := ((s.setFld (Fd.HST_PORT_STAT_MODE q) mode.val).setFld (Fd.HST_PORT_STAT_SPEED q) speed.val).setFld
        (Fd.HST_PORT_STAT_WIDTH q) width.val
      let s := s.setFld Fd.PWR_CARRIER_CXL_PRES (setBits (s.fld Fd.PWR_CARRIER_CXL_PRES) q 1 1)
      ((s.sizeBars q).setMsix q msix).flushVecs q)

/-- R579: configuration space answers through a port that is up, from stage 0. -/
def State.cxlOpen (s : State) (q : Nat) : Bool := s.boot.done0 && decide (s.fld (Fd.HST_PORT_STAT_MODE q) ≠ 0)

/-- R527, R530: does a port have an IDE stream in use? -/
def State.ideOn (s : State) (q : Nat) : Bool := s.trust.ide.any (fun e => decide (e.1 / 2 ^ 16 = q) && e.2.2)

/-- R500: a port goes down: 0x0A19. Its IDE keys go with its link (log entry 54). -/
def State.cxlDown (s : State) (q : Nat) : State :=
  if s.fld (Fd.HST_PORT_STAT_MODE q) = 0 then s
  else
    let s := ((s.setFld (Fd.HST_PORT_STAT_MODE q) 0).setFld (Fd.HST_PORT_STAT_SPEED q) 0).setFld (Fd.HST_PORT_STAT_WIDTH q) 0
    let s := s.setTrust { s.trust with ide := s.trust.ide.filter (fun e => e.1 / 2 ^ 16 ≠ q), ideKinds := s.trust.ideKinds.filter (fun e => e.1 / 2 ^ 8 ≠ q) }
    ((s.setFld (Fd.HST_PORT_STAT_IDE_ON q) 0).satFld (Fd.HST_PORT_STAT_DOWNS q)).logRec 0x0A19 1 q

/-- CXL_PORT_DOWN (R500). -/
def execCxlPortDown (q : CxlPort) (s : State) : Host.Outcome State Fault Refusal := .next (s.cxlDown q.val)

/-- PORT_RESET (R583, R500): the port's link goes down, and its function 0 loses its MSI-X table, with its control bits, and its mailbox's SPDM connection;
the windows stay locked until power-off (R505). The port trains again. -/
def execPortReset (q : CxlPort) (s : State) : Host.Outcome State Fault Refusal :=
  let q := q.val
  .next (
    let s := s.cxlDown q
    let x := s.trust
    { s with
      msix := s.msix.filter (fun e => e.1 / 2048 ≠ q)
      msixPend := s.msixPend.filter (fun e => e.1 / 2048 ≠ q)
      msixCtl := SMap.erase s.msixCtl q
      trust := { x with
        vers := SMap.erase x.vers q, phase := SMap.erase x.phase q
        sessions := x.sessions.filter (fun e => e.2.transport ≠ q)
        stalled := x.stalled.filter (fun e => e.2.transport.val ≠ q) } })

/-! Configuration space (R502). No command reads it: these definitions say what each port's function 0 shows there. -/

/-- R502: the DVSECs present. -/
inductive Dvsec where
  | cxlDevices | flexBusPort | registerLocator | kensiost
  deriving DecidableEq, Repr

/-- R502: the extended capabilities present. -/
inductive ExtCap where
  | doe | ide | msix | aer
  deriving DecidableEq, Repr

/-- R502: the identity that configuration space carries. -/
structure ConfigIdentity where
  vendor : BitVec 16
  device : BitVec 16
  classCode : BitVec 24
  subsystem : BitVec 16
  dvsecs : List Dvsec
  extCaps : List ExtCap
  deriving DecidableEq, Repr

/-- R502: the subsystem ID of the installed variant: 0x000A, 0x000B or 0x000C for A, B or C. The spec gives none for a module without a
licence (log entry 104). -/
def State.subsystemId (s : State) : BitVec 16 :=
  match s.fld Fd.LIC_STAT_VARIANT with
  | 1 => 0x000A
  | 2 => 0x000B
  | 3 => 0x000C
  | _ => Config.bareSubsystem

/-- R499, R502, R579: what function 0 of port q shows, from stage 0 while the port is up; both ports show the same identity. -/
def State.configIdentity (s : State) (q : Nat) : Option ConfigIdentity :=
  if s.cxlOpen q then
    some { vendor := Config.vendorId, device := 0x3624, classCode := 0x120000, subsystem := s.subsystemId
           dvsecs := [.cxlDevices, .flexBusPort, .registerLocator, .kensiost], extCaps := [.doe, .ide, .msix, .aer] }
  else none

/-! The Kensiost DVSEC (R505) -/

/-- R499, R505: a write to the DVSEC through port q; mask names the bits written. BAR0_PAGE, BAR4_LOG and FAR_OFS are that port's; the
windows are both ports' (DEDUCED, log entry 55). -/
def State.writeDvsec (s : State) (q off mask v : Nat) : State :=
  if off = 0x08 then s.writeFields (.DVSEC_BAR0 q) mask v
  else if off = 0x10 then (s.writeFields (.DVSEC_BAR4 q) mask v).clampFld (Fd.DVSEC_BAR4_BAR4_LOG q) 30 40
  else if off = 0x18 then s.writeFields (.DVSEC_FAR q) mask v
  else if 0x20 ≤ off ∧ off < 0x20 + 16 * 0x18 then
    let i := (off - 0x20) / 0x18
    let r := (off - 0x20) % 0x18
    if r = 0x10 then s
    else if s.isSet (Fd.DVSEC_WIN_LOCK i) then s.logRec 0x0A14 1 q
    else s.writeFields (if r = 0 then .DVSEC_WIN i else .DVSEC_WIN_HPA i) mask v
  else s

/-- DVSEC_WRITE (R505): at a multiple of 8 a whole register, at one of 4 its upper half. -/
def execDvsecWrite (q : CxlPort) (off : BitVec 12) (value : BitVec 64) (s : State) : Host.Outcome State Fault Refusal :=
  let o := off.toNat
  .next (if !s.cxlOpen q.val then s
    else if o % 8 = 0 then s.writeDvsec q.val o fullMask value.toNat
    else if o % 8 = 4 then s.writeDvsec q.val (o - 4) (fullMask - (2 ^ 32 - 1)) (value.toNat % 2 ^ 32 * 2 ^ 32)
    else s)

/-- WINDOW_LOCK (R505, R506): LOCK of window i is written 1. -/
def execWindowLock (q : CxlPort) (i : Fin 16) (s : State) : Host.Outcome State Fault Refusal :=
  .next (if s.cxlOpen q.val then s.writeDvsec q.val (0x20 + 0x18 * i.val) (2 ^ 63) (2 ^ 63) else s)

/-! BAR4 (R501) -/

/-- R350: does a range of n > 0 bytes meet the protected range? -/
def State.meetsProt (s : State) (a n : Nat) : Bool :=
  rangesMeet (a, n) (s.fld Fd.KV_PROT_BASE * 4096, s.fld Fd.KV_PROT_SIZE_MIB * 2 ^ 20)

/-- R48, R350, R501, R503: the fault of a host access through BAR4 to n bytes at a far address. -/
def State.bar4Fault (s : State) (write : Bool) (a n : Nat) : Nat :=
  if s.fld Fd.PWR_STAGE_STAGE < 2 ∨ regionOf a ≠ .far ∨ regionOf (a + n - 1) ≠ .far then 0x0502
  else
    let f := s.addrFault .host a n
    if f ≠ 0 then f else if write ∧ s.isSet Fd.KV_CTL_EN ∧ s.meetsProt a n then 0x0709 else 0

/-- HOST_BAR4_ACCESS (R501, R46, R48, R282, R285, R286, R350): far memory from FAR_OFS. A read that faults returns all ones, a write is discarded;
the fault is recorded. -/
def execHostBar4Access (q : CxlPort) (a : Bar4Access) (s : State) : Host.Outcome State Fault Refusal :=
  let n := a.bytes.length
  let l := s.fld (Fd.DVSEC_FAR_FAR_OFS q.val) * 2 ^ 30 + a.off
  .next (if s.fld (Fd.HST_PORT_STAT_MODE q.val) = 0 ∨ n = 0 ∨ 2 ^ s.bar4Log q.val < a.off + n then s
    else
      let f := s.bar4Fault a.write l n
      if f ≠ 0 then
        let s := s.log f
        if a.write then s else { s with out := s.out ++ [.hostData q.val (List.replicate n 0xFF) false] }
      else if s.banksHeld l n then s
      else if a.write then
        let r := s.store (cellsFrom l a.bytes)
        if r.2 then r.1.log 0x0511 else r.1
      else
        let s := s.touch l n
        { s with out := s.out ++ [.hostData q.val (s.readBytes l n) (s.poisoned l n)] })

/-! DOE and IDE (R527, R528). The layout of the objects is that of the PCIe and CXL specifications (PRESUMED, log entry 54). -/

/-- A DOE object: vendor, type, and its words. -/
def doeObject (vendor ty : Nat) (body : List Byte) : List Byte :=
  leBytes 4 (vendor + ty * 2 ^ 16) ++ leBytes 4 ((8 + body.length) / 4) ++ body

/-- R528: the protocols of the mailbox, as vendor and object type: Discovery, CMA/SPDM, Secured CMA/SPDM, CXL Table Access. -/
def doeProtocols : List (Nat × Nat) := [(1, 0), (1, 1), (1, 2), (0x1E98, 2)]

/-- DOE_DISCOVERY (R528): the protocol at an index and the next index, 0 after the last. -/
def execDoeDiscovery (q : CxlPort) (index : BitVec 8) (s : State) : Host.Outcome State Fault Refusal :=
  .next (if !s.cxlOpen q.val then s
    else
      let i := index.toNat
      let w := match doeProtocols[i]? with
        | some p => p.1 + p.2 * 2 ^ 16 + (if i = 3 then 0 else i + 1) * 2 ^ 24
        | none => 0xFFFF
      { s with out := s.out ++ [.reply q.val (doeObject 1 0 (leBytes 4 w))] })

/-- R528, R501: the CDAT entries: the header with its checksum, and the range that BAR4 exposes. -/
def State.cdat (s : State) (q : Nat) : List (List Byte) :=
  let range := leBytes 4 (24 * 2 ^ 16) ++ leBytes 4 0 ++ leBytes 8 0 ++ leBytes 8 (2 ^ s.bar4Log q)
  let head (c : Nat) : List Byte := leBytes 4 40 ++ [1] ++ leBytes 1 c ++ List.replicate 10 0
  let sum := ((head 0 ++ range).map (fun b => b.toNat)).sum
  [head ((256 - sum % 256) % 256), range]

/-- CXL_TABLE_ACCESS (R528): the entry of a handle and the next handle, 0xFFFF after the last. -/
def execCxlTableAccess (q : CxlPort) (handle : BitVec 16) (s : State) : Host.Outcome State Fault Refusal :=
  .next (if !s.cxlOpen q.val then s
    else
      let i := handle.toNat
      let b := match (s.cdat q.val)[i]? with
        | some e => leBytes 4 ((if i = 1 then 0xFFFF else i + 1) * 2 ^ 16) ++ e
        | none => leBytes 4 (1 + 0xFFFF * 2 ^ 16)
      { s with out := s.out ++ [.reply q.val (doeObject 0x1E98 2 b)] })

/-- R527: how many IDE streams of a kind a port may have in its mode: one link stream and four selective ones for CXL.io, which modes 2 and
3 keep (log entry 54), and in mode 1 CXL.cachemem. -/
def ideLimit (mode : Nat) (kind : IdeKind) : Nat :=
  match kind with
  | .link => if mode = 0 then 0 else 1
  | .selective => if mode = 0 then 0 else 4
  | .cachemem _ => if mode = 1 then 1 else 0

/-- Two kinds are one, whatever the mode of CXL.cachemem. -/
def sameIde : IdeKind → IdeKind → Bool
  | .link, .link => true
  | .selective, .selective => true
  | .cachemem _, .cachemem _ => true
  | _, _ => false

/-- The place of an IDE key. -/
def ideSlot (q : Nat) (m : IdeKm) : Nat :=
  q * 2 ^ 16 + m.streamId.toNat * 2 ^ 8 + b2n m.keySet * 2 ^ 5 + b2n m.rxTx * 2 ^ 4 + m.subStream.toNat

/-- R527: a port has room for a key of a stream: the stream is of its kind already, or is new and one more of its kind may be. -/
def State.ideRoom (s : State) (q : Nat) (m : IdeKm) : Bool :=
  match SMap.find s.trust.ideKinds (q * 2 ^ 8 + m.streamId.toNat) with
  | some k => sameIde k m.kind
  | none => decide ((s.trust.ideKinds.filter (fun e => decide (e.1 / 2 ^ 8 = q) && sameIde e.2 m.kind)).length
      < ideLimit (s.fld (Fd.HST_PORT_STAT_MODE q)) m.kind)

/-- A key of a stream is set or its use changes; show whether one is in use. -/
def State.setIde (s : State) (q : Nat) (m : IdeKm) (key : List Byte) (use : Bool) : State :=
  let s := s.setTrust { s.trust with
    ide := s.trust.ide.set (ideSlot q m) (key, use), ideKinds := s.trust.ideKinds.set (q * 2 ^ 8 + m.streamId.toNat) m.kind }
  s.setFld (Fd.HST_PORT_STAT_IDE_ON q) (b2n (s.ideOn q))

/-- R527: answer an IDE_KM message over the transport of its session: its object, the stream, a status, and the selection. -/
def State.ideReply (s : State) (q : Nat) (m : IdeKm) (object status : Nat) : State :=
  let t := match SMap.find s.trust.sessions m.session.val with
    | some x => x.transport
    | none => q
  { s with out := s.out ++ [.reply t (leBytes 8 (object + m.streamId.toNat * 2 ^ 24 + status * 2 ^ 32
      + (b2n m.keySet + b2n m.rxTx * 2 + m.subStream.toNat * 16) * 2 ^ 40 + q * 2 ^ 48))] }

/-- IDE_KM (R527): in a completed session: QUERY (0), KEY_PROG (2) of a 256-bit key, K_SET_GO (4), K_SET_STOP
(5), for a stream of its kind. Other objects are no requests. A refused key is answered with status 4. -/
def execIdeKm (q : CxlPort) (m : IdeKm) (s : State) : Host.Outcome State Fault Refusal :=
  let q := q.val
  let mode := s.fld (Fd.HST_PORT_STAT_MODE q)
  let live := match SMap.find s.trust.sessions m.session.val with
    | some x => x.live
    | none => false
  let k := ideSlot q m
  .next (if mode = 0 ∨ !live then s
    else match m.object.toNat with
      | 0 => s.ideReply q m 1 0
      | 2 =>
        if m.key.length = 32 ∧ s.ideRoom q m then (s.setIde q m m.key false).ideReply q m 3 0 else s.ideReply q m 3 4
      | 4 =>
        (match SMap.find s.trust.ide k with
        | some x => if s.ideRoom q m then (s.setIde q m x.1 true).ideReply q m 6 0 else s
        | none => s)
      | 5 =>
        (match SMap.find s.trust.ide k with
        | some x => if s.ideRoom q m then (s.setIde q m x.1 false).ideReply q m 6 0 else s
        | none => s)
      | _ => s)

end Sys2Proof.Machine
end

