-- ==== Sys2Proof/Machine/DramRows.lean ====
section
/-! DEFINITION. The commands of the DRAM tiers (R262 to R284). -/

namespace Sys2Proof.Machine

/-- MAP_ENABLE (R269, R270): MAP_EN is set. -/
def execMapEnable (tier : Tier) (s : State) : Host.Outcome State Fault Refusal :=
  .next (s.hostWriteIn (tierBlk tier / 0x100000) (fun s => s.setMap tier 1))

/-- MAP_DISABLE (R269). -/
def execMapDisable (tier : Tier) (s : State) : Host.Outcome State Fault Refusal :=
  .next (s.hostWriteIn (tierBlk tier / 0x100000) (fun s => s.setMap tier 0))

/-- HASH_KEY_WRITE (R268). -/
def execHashKeyWrite (tier : Tier) (key : BitVec 64) (s : State) : Host.Outcome State Fault Refusal :=
  .next (s.hostWriteIn (tierBlk tier / 0x100000) (fun s => s.writeHashKey tier key.toNat))

/-- REGION_INIT_DONE (R270): the background initialises the next region. -/
def execRegionInitDone (tier : Tier) (region : Nat) (s : State) : Host.Outcome State Fault Refusal :=
  .next (if region = s.fld (Fd.MEM_INIT_NEXT tier) then s.initRegion tier region else s)

/-- The number of a unit among both tiers' units. -/
def unitKey (k : Tier) (u : Nat) : Nat := if k = .far then u else 24 + u

/-- R288: a tier has a unit of this number. -/
def unitExists (k : Tier) (u : Nat) : Bool := k = .far || decide (u < 16)

/-- QUEUE_HOT_DETECT (R274): a unit's queue has a depth, for HOT_TIME_US. -/
def execQueueHotDetect (tier : Tier) (unit : Fin 24) (depth : Fin 257) (s : State) : Host.Outcome State Fault Refusal :=
  let u := unit.val
  let key := unitKey tier u
  if !(unitExists tier u) then .next s else
  let s := s.setFld (Fd.CH_QDEPTH_CUR tier u) depth.val
  let s := s.setFld (Fd.CH_QDEPTH_PEAK tier u) (max (s.fld (Fd.CH_QDEPTH_PEAK tier u)) depth.val)
  let was := s.dram.hot.contains key
  if max 1 (s.fld (Fd.ERR_CTL_HOT_DEPTH tier)) * 8 ≤ depth.val then
    if was then .next s
    else
      let s : State := { s with dram := { s.dram with hot := s.dram.hot ++ [key] } }
      .next ((s.setFld (Fd.CH_STAT_HOT tier u) 1).incFld (Fd.CH_QDEPTH_HOT_EVENTS tier u))
  else .next { s with dram := { s.dram with hot := s.dram.hot.filter (· ≠ key) } }

/-- ACT_LIMIT_REACHED (R275, R297): a row's count reaches ACT_LIMIT, once in a refresh window. -/
def execActLimitReached (tier : Tier) (unit : Fin 24) (row : Nat) (s : State) : Host.Outcome State Fault Refusal :=
  let key := unitKey tier unit.val
  if s.dram.rows.contains (key, row) ∨ !(unitExists tier unit.val) then .next s
  else
    let s : State := { s with dram := { s.dram with rows := s.dram.rows ++ [(key, row)] } }
    let s := s.incFld (Fd.CH_RH_MITIGATIONS tier unit.val)
    .next (if tier = .near then s.incFld (Fd.CH_RH_ALERTS tier unit.val) else s)

/-- DIMM_ACT_ALERT (R275, R297). -/
def execDimmActAlert (unit : Fin 24) (s : State) : Host.Outcome State Fault Refusal :=
  .next (s.incFld (Fd.CH_RH_ALERTS .far unit.val))

/-- REFRESH_WINDOW_END (R275): the counts of a unit's rows restart. -/
def execRefreshWindowEnd (tier : Tier) (unit : Fin 24) (s : State) : Host.Outcome State Fault Refusal :=
  .next { s with dram := { s.dram with rows := s.dram.rows.filter (fun e => e.1 ≠ unitKey tier unit.val) } }

/-- DRAM_TEMP_REPORT (R276): a unit that reaches CRIT records 0x0507. -/
def execDramTempReport (tier : Tier) (unit : Fin 24) (temp : BitVec 8) (s : State) : Host.Outcome State Fault Refusal :=
  let u := unit.val
  if !(unitExists tier u) then .next s else
  let was := s.fld (Fd.CH_STAT_THROTTLE tier u)
  let lv := s.heatLevel tier temp.toNat
  let s := (s.setFld (Fd.CH_STAT_TEMP tier u) temp.toNat).setFld (Fd.CH_STAT_THROTTLE tier u) lv
  .next (if lv = 3 then
      (let s := s.setFld (Fd.CH_STAT_CRIT_SEEN tier u) 1
       if was = 3 then s else s.logRec 0x0507 3 u)
    else s)

/-- R284: a line is found uncorrectable: it is poisoned, and its home counts it. -/
def State.findBad (s : State) (line : Nat) (h : LineHome) : State := (s.countUe h).poisonLines [line]

/-- R295: what the devices of a line's home report of their inner code since the last report. -/
def State.countInner (s : State) (h : LineHome) (n : Nat) : State :=
  match h with
  | .far u => s.satFld (Fd.CH_ECC_INNER .far u) n
  | .near u => s.satFld (Fd.CH_ECC_INNER .near u) n
  | .sram _ _ _ => s

/-- PATROL_SCRUB_READ (R277, R278, R280, R284): a read of a line, the patrol's or in front of a requester's (log entry 101), with the errors
it meets and what the devices report of their inner code: the line is clean, or corrected, or uncorrectable. An uninitialised region is
initialised first (R270). -/
def execPatrolScrubRead (line : Nat) (errs : CodeErrors) (inner : BitVec 8) (hours : Nat) (s : State) :
    Host.Outcome State Fault Refusal :=
  match s.lineHome line with
  | none => .next s
  | some h =>
    let s := (s.countInner h inner.toNat).touch (line * 64) 64
    let seen := s.seenErrors h errs
    .next (if s.badLine line ∨ seen = [] then s
      else if s.correctable line h seen then s.corrected line h seen hours
      else s.findBad line h)

/-- SCRUB_WRITEBACK (R278, R279): a corrected line is written back, unless a newer write made it void. -/
def execScrubWriteback (line : Nat) (s : State) : Host.Outcome State Fault Refusal :=
  .next (match SMap.find s.dram.scrubs line with
  | none => s
  | some _ => { s with dram := { s.dram with
      scrubs := SMap.erase s.dram.scrubs line
      seen := SMap.erase s.dram.seen line
      fixed := s.dram.fixed.set line (s.dram.fixed.getD line [] ++ s.dram.seen.getD line []).eraseDups } })

/-- NEAR_COLUMN_REMAP_DONE (R282): a stack's oldest remap is done: the column's address is the spare's. -/
def execNearColumnRemapDone (unit : Fin 24) (s : State) : Host.Outcome State Fault Refusal :=
  let u := unit.val
  match s.dram.remaps.find? (fun e => e.1 = u) with
  | none => .next s
  | some e =>
    let b := u * 2048 + columnBank e.2
    let s : State := { s with dram := { s.dram with
      remaps := s.dram.remaps.erase e, spares := s.dram.spares.set b (s.dram.spares.getD b 0 + 1) } }
    let s := if s.fld (Fd.CH_STAT_STATE .near u) = 2 then s.setFld (Fd.CH_STAT_STATE .near u) 3 else s
    .next (s.showSpares u)

end Sys2Proof.Machine
end

