-- ==== Sys2Proof/Machine/AtomOps.lean ====
section
/-! DEFINITION. The atomic operations of R486 and R430, as the home of an address performs them. -/

namespace Sys2Proof.Machine

/-- R486: the new value of 2^SZ bytes: operation, old value, operand, compare value; and whether an ADD.BFX left its
range. -/
def atomNew (op sz old x cmp : Nat) : Nat × Bool :=
  let w := 8 * 2 ^ sz
  match op with
  | 0 => ((old + x) % 2 ^ w, false)
  | 1 => (old &&& x, false)
  | 2 => (old ||| x, false)
  | 3 => (old ^^^ x, false)
  | 4 => (if signed w old < signed w x then x else old, false)
  | 5 => (if signed w x < signed w old then x else old, false)
  | 6 => (max old x, false)
  | 7 => (min old x, false)
  | 8 => (x, false)
  | 9 => (if old = cmp then x else old, false)
  | _ => bfxAdd old x

/-- R486: an operation code and size that an atomic may carry: ADD.BFX works on 64-bit words. -/
def atomOk (op sz : Nat) : Bool := (decide (op ≤ 9) && (sz = 2 || sz = 3)) || (op = 10 && sz = 3)

/-- R81: perform an atomic at a local address of this module: the old value. -/
def State.atomAt (s : State) (a op sz x cmp : Nat) : Nat × State :=
  let n := 2 ^ sz
  let old := s.readNat a n
  let r := atomNew op sz old (x % 2 ^ (8 * n)) (cmp % 2 ^ (8 * n))
  let s := (s.store (cellsFrom a (leBytes n r.1))).1
  (old, s.flagFld Fd.REL_STAT_ATOM_OVF r.2)

end Sys2Proof.Machine
end

