-- ==== Sys2Proof/Machine/PacketOps.lean ====
section
/-! DEFINITION. Packets at this module (R312, R316 to R329): which are allowed, how they are forwarded, what the receive flow
makes of them, and what their consumers do. -/

namespace Sys2Proof.Machine

/-- R312: is a packet type allowed on a VC? -/
def typeOnVc (typ vc : Nat) : Bool :=
  if typ = 8 ∨ typ = 9 ∨ typ = 0x0A then true
  else if vc = 0 then typ = 0x10 || typ = 0x11
  else if vc = 1 then decide (1 ≤ typ) && decide (typ ≤ 6)
  else if vc ≤ 3 then typ = 0x18
  else if vc ≤ 11 then typ = 0x20
  else typ = 0x28

/-! Forwarding -/

/-- R313: the class of a packet that came in by port p and leaves by port q. -/
def State.hopClass (s : State) (p q : Nat) (was : Bool) : Bool :=
  let me := s.moduleId
  if s.gatewayPort me q then false
  else if s.wraps me q then true
  else if p / 2 = q / 2 ∧ !(s.gatewayPort me p) then was else false

/-- R328: the first module of a torus to receive a packet from a gateway port checks its local number. -/
def State.foreignBad (s : State) (p d : Nat) : Bool :=
  s.gatewayPort s.moduleId p && torusOf d = torusOf s.moduleId && decide (s.torusCount ≤ d % 65536)

/-- R329: the port a packet that is not for this module leaves by, and its class there: none when it is dropped (R328, and
R304 for a VC that an Oftan does not carry). -/
def State.forwardPort (s : State) (p : Nat) (k : Packet) : Option (Nat × Bool) :=
  if s.foreignBad p k.dst.toNat then none
  else match s.hop s.moduleId k.dst.toNat k.order.toNat k.dir.toNat with
    | none => none
    | some q =>
      if s.barred q k.vc.toNat then none else some (q, s.hopClass p q k.dclass)

/-- R329: a packet passes through. -/
def State.forward (s : State) (p typ : Nat) (k : Packet) : State :=
  match s.forwardPort p k with
  | none => s
  | some (q, c) => s.enqueue q typ { k with dclass := c } p

/-! The receive flow (R322, R323, R326) -/

/-- R322: what the receive flow makes of a packet. -/
inductive Verdict where
  | take (rf : RecvFlow) (replaced : Option RecvFlow)
  | duplicate (rf : RecvFlow)
  | full
  | discard
  deriving DecidableEq, Repr

/-- R322: the first matching row of its table. -/
def State.verdict (s : State) (src vc : Nat) (k : Packet) : Verdict :=
  let fresh : RecvFlow := { epoch := k.epoch, expected := 0 }
  match SMap.find s.recvs (src * 16 + vc) with
  | none =>
    if k.opn ∧ k.seq = 0 then (if s.recvs.length < 32768 then .take fresh none else .full) else .discard
  | some rf =>
    if rf.epoch ≠ k.epoch then (if k.opn ∧ k.seq = 0 then .take fresh (some rf) else .discard)
    else if k.seq = rf.expected then .take rf none
    else if (rf.expected - k.seq).toNat ≤ 2 ^ 31 then .duplicate rf
    else .discard

/-- R323: a cumulative acknowledgement of all that a receive entry has accepted. -/
def State.sendAck (s : State) (src vc : Nat) (rf : RecvFlow) : State :=
  let s : State := { s with recvs := s.recvs.set (src * 16 + vc) { rf with since := 0 } }
  s.sendCtl src vc 0x08 (rf.expected - 1) rf.epoch []

/-- R322, R323: a packet is accepted. -/
def State.commitRecv (s : State) (src vc : Nat) (k : Packet) (rf : RecvFlow) : State :=
  let rf := { rf with expected := rf.expected + 1, since := rf.since + 1, landed := 0 }
  let s : State := { s with recvs := s.recvs.set (src * 16 + vc) rf }
  let s := if rf.since = 64 ∨ k.cls then s.sendAck src vc rf else s
  if k.cls then { s with recvs := SMap.erase s.recvs (src * 16 + vc) } else s

/-- R318: a NACK with a reason. -/
def State.sendNack (s : State) (src vc : Nat) (k : Packet) (reason : Nat) : State :=
  s.sendCtl src vc 0x09 k.seq k.epoch (leBytes 16 reason)

/-- R400: an incomplete lap of a lap entry that goes away is discarded. -/
def State.dropLapEntry (s : State) (vc : Nat) (rf : RecvFlow) : State :=
  if vc = 2 ∨ vc = 3 then s.lapReplaced (vc - 2) rf.count else s

/-! Consumers -/

/-- What a consumer says of a packet that its flow would accept: it takes it, or not, with a NACK's reason (0: none). -/
inductive Take where
  | yes (rf : RecvFlow) (s : State)
  | no (reason : Nat) (s : State)
  deriving DecidableEq, Repr

/-- R40: does a local address lie on a tile or a stack die? -/
def inCompute (a : Nat) : Bool :=
  match regionOf a with
  | .near => true
  | .vat _ => true
  | .scratch _ _ => true
  | .tileHole _ => true
  | .csr off => decide (0x10 ≤ off / 0x100000) || decide (off / 0x100000 = 0xA)
  | _ => false

/-- R318: the local address of a request. -/
def bodyAddr (body : List Byte) : Nat := numAt body 0 8 % 2 ^ 46

/-- R318, R285, R48: a peer reads this module's memory: none while it must wait for a gliding line or a held bank. -/
def State.serveLoad (s : State) (src : Nat) (body : List Byte) : Option State :=
  let a := bodyAddr body
  let n := numAt body 8 2 % 2 ^ 13
  let tag := numAt body 12 4
  let f := s.addrFault .peer a n
  if f ≠ 0 then some (s.sendPkt src 1 0x02 (respBody tag f []) .none)
  else if (linesOf a n).any (fun l => (SMap.find s.ltags l).isSome) ∨ s.banksHeld a n then none
  else
    let s := s.touch a n
    if s.poisoned a n then some (s.sendPkt src 1 0x02 (respBody tag 0x0511 []) .none)
    else some (s.sendPkt src 1 0x02 (respBody tag 0 (s.readBytes a n)) .none)

/-- R318, R319, R48, R286: a peer stores, by a STORE or a BULK packet: none while it must wait for a held bank. -/
def State.serveStore (s : State) (src : Nat) (body : List Byte) : Option State :=
  let a := bodyAddr body
  let bs := body.drop 16
  let tag := bodyTag body
  let f := s.addrFault .peer a bs.length
  if bs = [] then some s
  else if f ≠ 0 then some (s.sendPkt src 1 0x06 (respBody tag f []) .none)
  else if s.banksHeld a bs.length then none
  else
    let r := s.store (cellsFrom a bs)
    some (if r.2 then r.1.sendPkt src 1 0x06 (respBody tag 0x0511 []) .none else r.1)

/-- R488: a peer's atomic: none while it must wait for a gliding line or a held bank. -/
def State.serveAtomic (s : State) (src : Nat) (body : List Byte) : Option State :=
  let h := numAt body 0 16
  let a := bits h 0 46
  let op := bits h 46 4
  let sz := bits h 50 3
  let ret := bitAt h 53
  let tag := bits h 96 32
  let n := 2 ^ sz
  let answer (s : State) (status : Nat) (bs : List Byte) : State :=
    if ret then s.sendPkt src 1 0x05 (respBody tag status bs) .none
    else if status = 0 then s else s.sendPkt src 1 0x06 (respBody tag status []) .none
  let f := if !(atomOk op sz) then 0x0101 else if a % n ≠ 0 then 0x0104 else s.addrFault .peer a n
  if f ≠ 0 then some (answer s f [])
  else if (linesOf a n).any (fun l => (SMap.find s.ltags l).isSome) ∨ s.banksHeld a n then none
  else
    let s := s.touch a n
    if s.poisoned a n then some (answer s 0x0511 [])
    else
      let r := s.atomAt a op sz (numAt body 16 n) (numAt body (16 + n) n)
      some (answer r.2 0 (leBytes n r.1))

/-- A peer's request is performed: none while it must wait, as one of the compute part does while that is down (R40). -/
def State.serve (s : State) (q : PeerReq) : Option State :=
  if !s.computeUp ∧ inCompute (bodyAddr q.body) then none
  else if q.typ = 1 then s.serveLoad q.src q.body
  else if q.typ = 4 then s.serveAtomic q.src q.body
  else s.serveStore q.src q.body

/-- R326, R282: the requests that wait are performed as far as they may, those of one flow in their order. -/
def State.serveInbox (s : State) : State :=
  if s.inbox = [] then s
  else
    let r := s.inbox.foldl (fun (a : State × List PeerReq) q =>
      if a.2.any (fun p => p.src = q.src && p.vc = q.vc) then (a.1, a.2 ++ [q])
      else match a.1.serve q with
        | none => (a.1, a.2 ++ [q])
        | some s => (s, a.2)) (s, [])
    { r.1 with inbox := r.2 }

/-- R282, R322: an accepted request of a flow waits. -/
def State.flowWaits (s : State) (src vc : Nat) : Bool := s.inbox.any (fun p => p.src = src && p.vc = vc)

/-- R322: an accepted request is performed, or waits behind those of its flow, or for its line or bank. -/
def State.arriveReq (s : State) (q : PeerReq) : State :=
  let s := s.serveInbox
  let wait : State := { s with inbox := s.inbox ++ [q] }
  if s.flowWaits q.src q.vc then wait else (s.serve q).getD wait

/-- R40, R316, R322: a request arrives: it is accepted, unless its home is in reset. -/
def State.takeReq (s : State) (rf : RecvFlow) (q : PeerReq) : Take :=
  if !s.computeUp ∧ inCompute (bodyAddr q.body) then .no 0 s else .yes rf (s.arriveReq q)

/-- R40: may an answer be accepted? While the compute part is down its threads and engines wait for nothing. -/
def State.answerable (s : State) (tag : Nat) : Bool := s.computeUp || (SMap.find s.waiters tag).isSome

/-- R318, R319, R326: an answer, accepted whatever else goes on (R316). -/
def State.takeAnswer (s : State) (rf : RecvFlow) (body : List Byte) : Take :=
  let tag := numAt body 0 4
  let status := numAt body 4 2
  if !(s.answerable tag) then .no 0 s
  else .yes rf (s.answerArrives tag status (body.drop 16) (rf.landed - 16))

/-- R390, R395: a lap packet. -/
def State.takeLap (s : State) (src i : Nat) (rf : RecvFlow) (body : List Byte) : Take :=
  if !s.computeUp ∨ body.length ≠ 4096 then .no 0 s
  else match s.lapTarget i src rf.count with
    | none => .no 2 (s.noPost i)
    | some (p, off) => .yes { rf with count := rf.count + 1 } (s.lapAccept i p off body)

/-- R447, R448: a relay packet. -/
def State.takeRelay (s : State) (src vc : Nat) (rf : RecvFlow) (body : List Byte) : Take :=
  if !s.computeUp then .no 0 s
  else match s.relayPacket rf vc src body with
    | none => .no 3 s
    | some (rf, s) => .yes rf s

/-- A packet that its flow would accept meets its consumer. -/
def State.consume (s : State) (p typ src vc : Nat) (rf : RecvFlow) (body : List Byte) : Take :=
  match typ with
  | 0x01 => s.takeReq rf { src := src, vc := vc, typ := typ, body := body }
  | 0x02 => s.takeAnswer rf body
  | 0x03 => s.takeReq rf { src := src, vc := vc, typ := typ, body := body }
  | 0x04 => s.takeReq rf { src := src, vc := vc, typ := typ, body := body }
  | 0x05 => s.takeAnswer rf body
  | 0x06 => if s.answerable (numAt body 0 4) then .yes rf (s.statusTag (numAt body 0 4) (numAt body 4 2)) else .no 0 s
  | 0x10 => .yes rf (s.takeMgmt p src body)
  | 0x18 => s.takeLap src (vc - 2) rf body
  | 0x20 => s.takeRelay src vc rf body
  | 0x28 => s.takeReq rf { src := src, vc := vc, typ := typ, body := body }
  | _ => .yes rf s

/-- R320, R322: a sequenced packet for this module. -/
def State.receive (s : State) (p typ : Nat) (k : Packet) : State :=
  let src := k.src.toNat
  let vc := k.vc.toNat
  match s.verdict src vc k with
  | .discard => s
  | .full => (s.incFld Fd.JL_FLOWS_REFUSED_FULL).sendNack src vc k 1
  | .duplicate rf => s.sendAck src vc rf
  | .take rf old =>
    let rf := { rf with port := p }
    let s := match old with
      | some o => s.dropLapEntry vc o
      | none => s
    match s.consume p typ src vc rf k.body with
    | .no reason s =>
      let s : State := if old.isSome then { s with recvs := s.recvs.set (src * 16 + vc) rf } else s
      if reason = 0 then s else s.sendNack src vc k reason
    | .yes rf s => s.commitRecv src vc k rf

/-- R325: a NACK ends one wait of its flow. -/
def State.takeNack (s : State) (k : Packet) : State :=
  let reason := numAt k.body 0 1
  match SMap.find s.sends (k.src.toNat * 16 + k.vc.toNat) with
  | some f => if f.epoch = k.epoch ∧ 1 ≤ reason ∧ reason ≤ 3 then s.endWait k.src.toNat k.vc.toNat else s
  | none => s

/-- R318: a NOTICE names a module, a port and an event. -/
def State.noticeArrives (s : State) (p : Nat) (k : Packet) : State :=
  let h := numAt k.body 0 16
  s.takeNotice p (bits h 0 18) (bits h 18 3) (bits h 21 3)

/-- With no command waiting, an edge of the core clock passes (R117), and the requests that wait go on as far as they may (R282, R322). -/
def State.idle (s : State) : State := s.tick.serveInbox

/-- A packet for this module. -/
def State.atHome (s : State) (p typ : Nat) (k : Packet) : State :=
  if typ = 0x08 then s.ackFlow k.src.toNat k.vc.toNat k.epoch k.seq
  else if typ = 0x09 then s.takeNack k
  else s.receive p typ k

/-- R303, R332: a port that carries flits. -/
def State.portCarries (s : State) (p : Nat) : Bool := s.portState p = 2 || s.portState p = 3

/-- A packet has arrived whole by a port: it is for this module, or passes through (R312, R327, R329, R334). -/
def State.arrive (s : State) (p typ : Nat) (k : Packet) : State :=
  if !(s.portCarries p) ∨ !(typeOnVc typ k.vc.toNat) ∨ (!s.isSealed ∧ k.vc ≠ 0) then s
  else if typ = 0x11 then s.noticeArrives p k
  else if k.dst.toNat = s.moduleId then s.atHome p typ k
  else if !s.isSealed then s
  else s.forward p typ k

end Sys2Proof.Machine
end

