-- ==== Sys2Proof/Machine/FlitOps.lean ====
section
/-! DEFINITION. Flits (R305 to R311, R314, R319, R326, R363, R397, R398): their bytes and CRC, packet headers in header flits,
what a data flit does to the packet it belongs to, and cut-through. -/

namespace Sys2Proof.Machine

/-! Headers -/

/-- R317: the 16 bytes of a packet header. -/
def headBytes (typ : Nat) (k : Packet) (len : Nat) : List Byte :=
  leBytes 16 (k.dst.toNat + k.src.toNat * 2 ^ 18 + k.vc.toNat * 2 ^ 36 + b2n k.dclass * 2 ^ 40 + k.order.toNat * 2 ^ 41
    + k.dir.toNat * 2 ^ 44 + typ % 64 * 2 ^ 50 + b2n k.opn * 2 ^ 56 + b2n k.cls * 2 ^ 57 + k.seq.toNat * 2 ^ 64
    + len % 2 ^ 13 * 2 ^ 96 + k.epoch.toNat * 2 ^ 112)

/-- R317: a packet header read from its bytes. -/
def headOf (bs : List Byte) : InPkt :=
  let v := leNat bs
  { typ := bits v 50 6, len := bits v 96 13
    pkt := { dst := BitVec.ofNat 18 v, src := BitVec.ofNat 18 (v / 2 ^ 18), vc := BitVec.ofNat 4 (v / 2 ^ 36), dclass := bitAt v 40,
             order := BitVec.ofNat 3 (v / 2 ^ 41), dir := BitVec.ofNat 6 (v / 2 ^ 44), opn := bitAt v 56, cls := bitAt v 57,
             seq := BitVec.ofNat 32 (v / 2 ^ 64), epoch := BitVec.ofNat 16 (v / 2 ^ 112), body := [] } }

/-- R307: the headers in a header flit: its slots that are not all zeros. -/
def flitHeaders (body : List Byte) : List InPkt :=
  ((List.range 16).map (fun i => (body.drop (16 * i)).take 16)).filterMap (fun bs => if allZero bs then none else some (headOf bs))

/-! Packets passing through -/

/-- A packet that passes through this module. -/
def State.passes (s : State) (k : InPkt) : Bool :=
  s.isSealed && k.pkt.dst.toNat ≠ s.moduleId && k.typ ≠ 0x11 && typeOnVc k.typ k.pkt.vc.toNat

/-- Two headers are one packet's, on whatever link. -/
def samePkt (a b : Packet) (ta tb : Nat) : Bool :=
  a.dst = b.dst && a.src = b.src && a.vc = b.vc && a.seq = b.seq && a.epoch = b.epoch && ta = tb

/-- R311: the header of a packet that passes through goes on as soon as it has come. -/
def State.beginForward (s : State) (p : Nat) (k : InPkt) : State :=
  match s.forwardPort p k.pkt with
  | none => s
  | some (q, c) =>
    if s.portState q = 4 then s
    else
      let x := s.link q
      s.setLink q { x with
        outq := x.outq ++ [{ typ := k.typ, pkt := { k.pkt with dclass := c }, len := k.len, whence := p, inCls := k.pkt.dclass }] }

/-- A packet on its way out by a port, still growing from another. -/
def OutPkt.growing (o : OutPkt) (p : Nat) (k : InPkt) : Bool :=
  o.whence = p && decide (o.pkt.body.length < o.len) && samePkt o.pkt k.pkt o.typ k.typ

/-- R311: the good copy of a flit that went out with an inverted CRC fills its slot, and the slot is sent again. -/
def State.fillHole (s : State) (q : Nat) (o : OutPkt) (bs : List Byte) (short : Bool) : State :=
  let x := s.link q
  match x.replay.find? (fun r => r.hole && r.flit.vc = o.pkt.vc && r.flit.dclass = o.pkt.dclass) with
  | none => s
  | some r =>
    let f := Flit.seal { r.flit with
      fill := BitVec.ofNat 8 (bs.length - 1), last := r.flit.last || short, body := bs ++ List.replicate (256 - bs.length) 0 }
    s.setLink q { x with replay := x.replay.map (fun y => if y.flit.lseq = r.flit.lseq then { flit := f } else y) }

/-- Bytes of a packet that passes through have come: it grows on its way out, or a hole left for them is filled. One that
ended short ends short here too (log entry 41). -/
def State.growForward (s : State) (p : Nat) (k : InPkt) (bs : List Byte) (short : Bool) : State :=
  (List.range 6).foldl (fun s q =>
    let x := s.link q
    match x.outq.find? (fun o => o.growing p k) with
    | none => s
    | some o =>
      let hole := decide (o.pkt.body.length < o.off)
      let body := o.pkt.body ++ bs
      let g := { o with pkt := { o.pkt with body := body }, len := if short then body.length else o.len }
      let ended := decide (g.len ≤ g.off) && decide (g.len ≤ g.pkt.body.length)
      let outq := alterFirst (fun o => o.growing p k) (fun _ => g) x.outq
      let s := s.setLink q { x with
        outq := if ended then outq.filter (fun o => !(samePkt o.pkt g.pkt o.typ g.typ && o.whence = p)) else outq }
      if hole then s.fillHole q o bs short else s) s

/-! Landing flit by flit -/

/-- R322, R326: the receive entry under which the bytes of a packet may land before it is whole: the packet is the next one of
its flow. An entry that the packet opens is made now. -/
def State.landEntry (s : State) (k : Packet) : Option (RecvFlow × State) :=
  let src := k.src.toNat
  let vc := k.vc.toNat
  match s.verdict src vc k with
  | .take rf old =>
    let s := match old with
      | some o => s.dropLapEntry vc o
      | none => s
    some (rf, { s with recvs := s.recvs.set (src * 16 + vc) rf })
  | _ => none

/-- R326: record how many body bytes of the next packet have landed. -/
def State.recordLanded (s : State) (k : Packet) (n : Nat) : State :=
  { s with recvs := SMap.alter s.recvs (k.src.toNat * 16 + k.vc.toNat) (fun rf => { rf with landed := max rf.landed n }) }

/-- R643: the port that a flow's packets come in by. -/
def State.cameBy (s : State) (p : Nat) (k : Packet) : State :=
  { s with recvs := SMap.alter s.recvs (k.src.toNat * 16 + k.vc.toNat) (fun rf =>
      if rf.epoch = k.epoch then { rf with port := p } else rf) }

/-- R326: bytes of a re-sent packet that landed before are written again, without any count. -/
def againThenNew (off landed : Nat) (bs : List Byte) : List Byte × List Byte := (bs.take (landed - off), bs.drop (landed - off))

/-- R397: bytes of a lap packet at a place of its body land under the posting's lap window, if they may glide. -/
def State.flitLap (s : State) (k : Packet) (off : Nat) (bs : List Byte) (good : Bool) : State :=
  let i := k.vc.toNat - 2
  match s.landEntry k with
  | none => s
  | some (rf, s') =>
    match s'.lapTarget i k.src.toNat rf.count with
    | none => s
    | some (post, at0) =>
      match s'.lapWindow i post with
      | none => s
      | some (core, w, s') =>
        let c := againThenNew off rf.landed bs
        let a := post.addr + at0 + off
        let s' := s'.putCells (cellsFrom a c.1)
        if c.2 = [] then s'
        else
          let r := s'.landGliding core w (a + c.1.length) c.2 post.bar post.ep
          let s' := r.1.alterPost i post.id (fun q => { q with late := keepFault q.late r.2 })
          if good then s'.recordLanded k (off + bs.length)
          else s'.refusePiece core w { addr := a + c.1.length, len := c.2.length, bar := post.bar, ep := post.ep }

/-- Where the bytes of an answer land in a scratchpad: its address, the barrier and its BEPOCH, whether the bytes count there, and whether
they glide. -/
structure Landing where
  dst : Nat
  bar : Nat
  ep : Nat
  counts : Bool
  glides : Bool

/-- R319, R91, R93, R126: where an answer's bytes land in a scratchpad: those of a copy, which glide when they count on a barrier and the
receiving tile's CUT_EN is 1, and those of a FILL. -/
def State.flitTarget (s : State) (tag : Nat) : Option Landing :=
  match SMap.find s.waiters tag with
  | some (.fill k _) =>
    match SMap.find s.chks k.code with
    | none => none
    | some x =>
      match x.exts with
      | [] => none
      | (_, dst, n) :: _ =>
        let d := (devSplit dst).2
        if x.fill ∧ x.stage = 1 ∧ (scratchCore d).isSome ∧ s.addrFault .engine d (min n 4080) = 0
        then some { dst := d, bar := 0, ep := 0, counts := false, glides := false } else none
  | some (.txn tile id) =>
    match SMap.find (s.tile tile).txns id with
    | none => none
    | some x =>
      match SMap.find (s.tile tile).copies x.copy, x.op with
      | some c, .mv _ b _ cnt =>
        let counts := decide (c.bar ≠ 0) && cnt
        match scratchCore (devSplit b).2 with
        | none => none
        | some core =>
          if !c.blocked ∧ !c.ordered ∧ s.here b then
            some { dst := (devSplit b).2, bar := c.bar, ep := c.ep, counts := counts
                   glides := counts && s.isSet (Fd.TILE_GLIDE_CTL_CUT_EN (core / 16)) }
          else none
      | _, _ => none
  | _ => none

/-- R86, R286: a fault that the copy or FILL behind a tag reports as it completes. -/
def State.faultTxn (s : State) (tag fault : Nat) : State :=
  match SMap.find s.waiters tag with
  | some (.txn tile id) =>
    match SMap.find (s.tile tile).txns id with
    | some x => s.alterCopy tile x.copy (fun c => { c with fault := keepFault c.fault fault })
    | none => s
  | some (.fill k _) => { s with chks := SMap.alter s.chks k.code (fun x => { x with fault := keepFault x.fault fault }) }
  | _ => s

/-- R86: good bytes land confirmed. -/
def State.landPlain (s : State) (tag : Nat) (c : Landing) (a : Nat) (bs : List Byte) : State :=
  let q := s.store (cellsFrom a bs)
  let r := if c.counts then q.1.barLand c.bar c.ep bs.length else (q.1, 0)
  r.1.faultTxn tag (keepFault (if q.2 then 0x0511 else 0) r.2)

/-- R86, R93, R319, R326, R363: bytes of an answer land in a scratchpad. Those that count on a barrier land under its cut-through window,
confirmed as their flit's check passes, refused as it fails; the others, and all where no window is to be had, land once it has passed.
Bytes that landed before are written again without any count. -/
def State.flitAnswer (s : State) (k : InPkt) (off : Nat) (bs : List Byte) (good : Bool) : State :=
  let status := numAt k.pkt.body 4 2
  if off < 16 ∧ off + bs.length ≤ 16 then s
  else
    let body := k.pkt.body ++ bs
    let tag := numAt body 0 4
    match s.flitTarget tag, s.landEntry k.pkt with
    | some c, some (rf, s') =>
      if numAt body 4 2 ≠ 0 ∨ (status ≠ 0 ∧ 16 ≤ off) then s
      else
        let lo := max 16 (max off rf.landed)
        let data := bs.drop (lo - off)
        let s' := s'.putCells (cellsFrom (c.dst + (max 16 off - 16)) ((bs.drop (max 16 off - off)).take (lo - max 16 off)))
        let a := c.dst + (lo - 16)
        let core := (scratchCore c.dst).getD 0
        let done (s : State) : State := s.recordLanded k.pkt (off + bs.length)
        if data = [] then s'
        else match if c.glides then s'.windowFor core (.cut c.bar) else none with
          | some (w, s') =>
            let piece : Piece := { addr := a, len := data.length, bar := c.bar, ep := c.ep }
            let r := s'.landGliding core w a data c.bar c.ep
            let s' := r.1.faultTxn tag r.2
            if good then done (s'.confirmPiece core w piece) else s'.refusePiece core w piece
          | none => if good then done (s'.landPlain tag c a data) else s
    | _, _ => s

/-- R319: bytes of a bulk packet bound for a scratchpad land as their flits arrive, unless an earlier one of its flow waits. -/
def State.flitBulk (s : State) (k : InPkt) (off : Nat) (bs : List Byte) : State :=
  let body := k.pkt.body ++ bs
  let a := bodyAddr body
  let n := k.len - 16
  match regionOf a with
  | .scratch _ _ =>
    if n = 0 ∨ s.addrFault .peer a n ≠ 0 ∨ s.flowWaits k.pkt.src.toNat k.pkt.vc.toNat then s
    else match s.landEntry k.pkt with
      | none => s
      | some (_, s) =>
        let lo := max 16 off
        (s.store (cellsFrom (a + (lo - 16)) (bs.drop (lo - off)))).1.recordLanded k.pkt (off + bs.length)
  | _ => s

/-- R319, R439: bytes of a batch of results land where the posting takes them, if that is a scratchpad, as their flits arrive. They count
when their block is whole. -/
def State.flitRelay (s : State) (k : InPkt) (off : Nat) (bs : List Byte) : State :=
  match s.landEntry k.pkt with
  | none => s
  | some (rf, s') =>
    let d := RelHdr.dec rf.hdr
    match if rf.hdr = [] ∨ rf.drop ∨ d.kind ≠ 2 then none else s'.relOpen d with
    | some h =>
      let cells := bs.zipIdx.filterMap (fun b =>
        let i := rf.data.length + off + b.2
        (s'.resultAt h (d.b0 + i / 1024)).bind (fun a => if (scratchCore a).isSome then some (a + i % 1024, b.1) else none))
      (s'.store cells).1.recordLanded k.pkt (off + bs.length)
    | none => s

/-- R311, R319: what the bytes of a data flit do before their packet is whole. -/
def State.flitLands (s : State) (k : InPkt) (bs : List Byte) (good : Bool) : State :=
  let off := k.pkt.body.length
  if k.pkt.dst.toNat ≠ s.moduleId ∨ !s.isSealed ∨ !s.computeUp ∨ !(typeOnVc k.typ k.pkt.vc.toNat) then s
  else if k.typ = 0x18 then (if k.len = 4096 then s.flitLap k.pkt off bs good else s)
  else if k.typ = 0x02 then s.flitAnswer k off bs good
  else if k.typ = 0x20 ∧ good then s.flitRelay k off bs
  else if k.typ = 0x28 ∧ good then s.flitBulk k off bs
  else s

/-! Receiving -/

/-- R307: the headers of a header flit: a packet without a body is whole. -/
def State.takeHeaders (s : State) (p : Nat) (ks : List InPkt) : State :=
  ks.foldl (fun s k =>
    if k.len = 0 then s.arrive p k.typ k.pkt
    else
      let x := s.link p
      let s := s.setLink p { x with arriving := x.arriving ++ [k] }
      if s.passes k then s.beginForward p k else s) s

/-- R308: a data flit belongs to the oldest packet of its VC and class. -/
def LinkPort.owner (x : LinkPort) (vc : BitVec 4) (c : Bool) : Option InPkt :=
  x.arriving.find? (fun k => k.pkt.vc = vc && k.pkt.dclass = c)

/-- R319: the bytes of a DATA flit go on towards their module, or land here; a packet cut short or too long lands nothing. -/
def State.dataLands (s : State) (p : Nat) (k : InPkt) (bs : List Byte) (short : Bool) : State :=
  if s.passes k then s.growForward p k bs short
  else if short ∨ k.len < k.pkt.body.length + bs.length then s else (s.flitLands k bs true).cameBy p k.pkt

/-- R314: does a flit of a packet that passes through wait here, before it goes on? -/
def State.flitWaits (s : State) (p : Nat) (k : InPkt) : Bool :=
  s.passes k && (List.range 6).any (fun q => (s.link q).outq.any (fun o => o.growing p k && decide (o.off ≤ o.pkt.body.length)))

/-- R306, R308, R314: a good data flit. Unless it waits to go on, its buffer is free again and its credit goes back. A packet whose last
flit leaves it shorter or longer than its header says is dropped (log entry 41). -/
def State.takeData (s : State) (p : Nat) (f : Flit) : State :=
  let x := s.link p
  let key := f.vc.toNat * 2 + b2n f.dclass
  match x.owner f.vc f.dclass with
  | none => s.setLink p { x with returns := x.returns.set key (x.returns.getD key 0 + 1) }
  | some k =>
    let s := s.setLink p (if s.flitWaits p k then x.waits key else { x with returns := x.returns.set key (x.returns.getD key 0 + 1) })
    let bs := f.body.take (f.fill.toNat + 1)
    let whole := decide (k.pkt.body.length + bs.length = k.len)
    let s := s.dataLands p k bs (f.last && !whole)
    let g := { k with pkt := { k.pkt with body := k.pkt.body ++ bs } }
    let x := s.link p
    let mine (y : InPkt) : Bool := y.pkt.vc = f.vc && y.pkt.dclass = f.dclass
    if g.len ≤ g.pkt.body.length ∨ f.last then
      let s := s.setLink p { x with arriving := x.arriving.eraseP mine }
      if s.passes k ∨ !whole then s else s.arrive p g.typ g.pkt
    else s.setLink p { x with arriving := alterFirst mine (fun _ => g) x.arriving }

/-- R308: the first packet of each VC and class that has started. -/
def LinkPort.firstOf (x : LinkPort) (key : Nat) : Option OutPkt :=
  x.outq.find? (fun o => o.hdrSent && o.pkt.vc.toNat * 2 + b2n o.pkt.dclass = key)

/-- R310: room in the replay buffer. -/
def LinkPort.room (x : LinkPort) : Bool := decide (x.replay.length < 3072)

/-- R311, R308: a flit of a packet that passes through fails its check after it has gone on: it ends with the inverse of its
correct CRC, and its slot waits for the good copy. It goes on only while its packet is the one its VC and class is sending. -/
def State.failForward (s : State) (p : Nat) (k : InPkt) (bs : List Byte) : State :=
  (List.range 6).foldl (fun s q =>
    let x := s.link q
    match x.outq.find? (fun o => o.growing p k) with
    | none => s
    | some o =>
      let key := o.pkt.vc.toNat * 2 + b2n o.pkt.dclass
      if x.firstOf key = some o ∧ o.off = o.pkt.body.length ∧ (s.portState q = 2 ∨ s.portState q = 3) ∧ x.resend = [] ∧ x.room
          ∧ 0 < x.credits.getD key 0 then
        let f := dataFlit x o bs
        let bad := { f with crc := ~~~(flitCrc f) }
        let s := s.setLink q { x with
          nextL := x.nextL + 1, credits := x.credits.set key (x.credits.getD key 0 - 1)
          replay := x.replay ++ [{ flit := bad, hole := true }]
          outq := alterFirst (fun o => o.growing p k) (fun o => { o with off := o.off + bs.length }) x.outq }
        { s with out := s.out ++ [.flit q bad] }
      else s) s

/-- R310: the lane of some with the most FEC symbol errors; of several the lowest. -/
def worstLane (errs : List Nat) (lanes : List Nat) : Nat :=
  (lanes.foldl (fun (a : Nat × Nat) l => if a.2 < errs.getD l 0 then (l, errs.getD l 0) else a)
    (lanes.headD 0, errs.getD (lanes.headD 0) 0)).1

/-- R340: the lanes of a port that hold lock. -/
def State.lockedLanes (s : State) (p : Nat) : List Nat := (List.range 32).filter (bitAt (s.fld (Fd.JL_P_LANES_LOCKED p)))

/-- R309, R310, R332: a flit fails its check: counted, charged to the lane with the most symbol errors, and replay is asked for. Charges
older than the longest RETRY_WIN_MS are past counting. -/
def State.flitFails (s : State) (p : Nat) (f : Flit) (r : FecReport) : State :=
  let x := s.link p
  let ms := r.ms
  let s := s.incFld (Fd.JL_P_COUNT_RETRIES p)
  let s := s.setLink p { x with
    charges := x.charges.filter (fun e => decide (ms ≤ e.2 + 10000)) ++ [(worstLane r.errs (s.lockedLanes p), ms)], nakDue := true, discarding := true }
  if x.discarding ∨ f.kind ≠ 2 ∨ f.lseq ≠ x.expL then s
  else match x.owner f.vc f.dclass with
    | none => s
    | some k =>
      let bs := (f.body.take (f.fill.toNat + 1)).take (k.len - k.pkt.body.length)
      if s.passes k then s.failForward p k bs else s.flitLands k bs false

/-- R309, R310: an acknowledgement releases the flits sent up to the one it names; a NAK has the rest sent again. One that names no flit
of the replay buffer releases none. -/
def LinkPort.acked (x : LinkPort) (ack : BitVec 12) (nak : Bool) : LinkPort :=
  let left := match x.replay.findIdx? (fun r => r.flit.lseq = ack) with
    | some i => x.replay.drop (i + 1)
    | none => x.replay
  { x with
    replay := left
    resend := if nak then left.map (fun r => r.flit.lseq) else x.resend.filter (fun l => left.any (fun r => r.flit.lseq = l)) }

/-- R314: credits come back. -/
def LinkPort.credited (x : LinkPort) (f : Flit) : LinkPort :=
  let key := f.crVc.toNat * 2 + b2n f.crClass
  if f.crCount = 0 then x else { x with credits := x.credits.set key (x.credits.getD key 0 + f.crCount.toNat) }

/-- R309: a flit that passes its check. -/
def State.flitPasses (s : State) (p : Nat) (f : Flit) : State :=
  let x := (s.link p).acked f.ack f.nak
  let s := s.setLink p x
  if f.kind = 0 then s.setLink p (x.credited f)
  else if f.lseq = x.expL then
    let s := s.setLink p { x.credited f with expL := x.expL + 1, discarding := false, nakDue := false }
    if f.kind = 1 then s.takeHeaders p (flitHeaders f.body)
    else if f.kind = 2 then s.takeData p f
    else s
  else if (x.expL - f.lseq).toNat ≤ 2048 then s
  else s.setLink p { x with nakDue := true, discarding := true }

/-! Sending -/

/-- The bytes that the next data flit of a packet would carry; none while they have not all come. -/
def OutPkt.nextBytes (o : OutPkt) : List Byte :=
  let n := min 256 (o.len - o.off)
  let bs := (o.pkt.body.drop o.off).take n
  if bs.length = n then bs else []

/-- Give a flit the port's acknowledgement and NAK as they stand, and its CRC. -/
def State.sendFlit (s : State) (p : Nat) (f : Flit) : State :=
  let x := s.link p
  let f := Flit.seal { f with ack := x.expL - 1, nak := x.nakDue }
  let s := s.setLink p { x with nakDue := false }
  { s with out := s.out ++ [.flit p f] }

/-- Credits to return in the next new flit: VC and class, and count. -/
def LinkPort.owed (x : LinkPort) : Nat × Nat := ((x.returns.find? (fun e => e.2 ≠ 0)).map (fun e => (e.1, min 63 e.2))).getD (0, 0)

/-- A flit with returned credits, and the port without them. -/
def LinkPort.giveCredits (x : LinkPort) (f : Flit) : LinkPort × Flit :=
  let c := x.owed
  if c.2 = 0 then (x, f)
  else ({ x with returns := x.returns.set c.1 (x.returns.getD c.1 0 - c.2) },
    { f with crVc := BitVec.ofNat 4 (c.1 / 2), crClass := decide (c.1 % 2 = 1), crCount := BitVec.ofNat 6 c.2 })

/-- An idle flit (R306). -/
def idleFlit (x : LinkPort) : Flit :=
  { kind := 0, lseq := x.nextL, ack := x.expL - 1, nak := x.nakDue, vc := 0, dclass := false, crVc := 0, crClass := false,
    crCount := 0, fill := 0, last := false, body := List.replicate 256 0, crc := 0 }

/-- Send an idle flit, with credits. -/
def State.sendIdle (s : State) (p : Nat) : State :=
  let x := s.link p
  let g := x.giveCredits (idleFlit x)
  (s.setLink p g.1).sendFlit p g.2

/-- Send a new flit, which the replay buffer keeps. -/
def State.sendNew (s : State) (p : Nat) (x : LinkPort) (f : Flit) : State :=
  let g := x.giveCredits f
  let f := Flit.seal { g.2 with lseq := x.nextL }
  (s.setLink p { g.1 with nextL := x.nextL + 1, replay := x.replay ++ [{ flit := f }] }).sendFlit p f

/-- R307: a header flit with up to sixteen headers. -/
def headerFlit (x : LinkPort) (os : List OutPkt) : Flit :=
  let bs := os.flatMap (fun o => headBytes o.typ o.pkt o.len)
  { idleFlit x with kind := 1, body := bs ++ List.replicate (256 - bs.length) 0 }

/-- R307: start packets: their headers leave. -/
def State.sendHeaders (s : State) (p : Nat) : State :=
  let x := s.link p
  let go := (x.outq.filter (fun o => !o.hdrSent)).take 16
  let rec mark (n : Nat) : List OutPkt → List OutPkt
    | [] => []
    | o :: os => if !o.hdrSent ∧ n ≠ 0 then { o with hdrSent := true } :: mark (n - 1) os else o :: mark n os
  let outq := (mark 16 x.outq).filter (fun o => !(o.hdrSent && o.len = 0))
  s.sendNew p { x with outq := outq } (headerFlit x go)

/-- R307, R314: a data flit of a packet leaves. If it waited in the receiver of another port, it leaves that too. -/
def State.sendData (s : State) (p key : Nat) (o : OutPkt) : State :=
  let x := s.link p
  let bs := o.nextBytes
  let q (y : OutPkt) : Bool := y.hdrSent && y.pkt.vc.toNat * 2 + b2n y.pkt.dclass = key
  let outq := if o.len ≤ o.off + bs.length then x.outq.eraseP q
    else alterFirst q (fun y => { y with off := y.off + bs.length }) x.outq
  let s := s.sendNew p { x with outq := outq, credits := x.credits.set key (x.credits.getD key 0 - 1) } (dataFlit x o bs)
  if o.whence < 6 then s.setLink o.whence ((s.link o.whence).freed o.inKey 1) else s

/-- The VC and class whose first packet can send a data flit now. -/
def LinkPort.dataKey (x : LinkPort) : Option (Nat × OutPkt) :=
  (List.range 32).findSome? (fun key =>
    match x.firstOf key with
    | some o => if o.nextBytes ≠ [] ∧ 0 < x.credits.getD key 0 then some (key, o) else none
    | none => none)

end Sys2Proof.Machine
end

