-- ==== Sys2Proof/Machine/Flits.lean ====
section
/-! DEFINITION. The two commands of a port's link layer: a flit arrives, and a flit slot leaves (R305 to R314). -/

namespace Sys2Proof.Machine

/-- FLIT_RECEIVE (R309 to R311, R314, R342): the FEC's codewords are counted, and the flit's check passes or fails. -/
def execFlitReceive (p : Port) (f : Flit) (r : FecReport) (s : State) : Host.Outcome State Fault Refusal :=
  .next (if !(s.portCarries p.val) then s
    else
      let s := (s.incFld (Fd.JL_P_FEC_CORR p.val) r.corr).incFld (Fd.JL_P_FEC_UNCORR p.val) r.uncorr
      if f.body.length = 256 ∧ f.crc = flitCrc f then s.flitPasses p.val f else s.flitFails p.val f r)

/-- FLIT_TRANSMIT (R307 to R310, R314, R332): what must be sent again first; then headers, which a draining port no longer
starts; then data; else an idle flit. -/
def execFlitTransmit (p : Port) (s : State) : Host.Outcome State Fault Refusal :=
  let q := p.val
  let x := s.link q
  if !(s.portCarries q) then .next s
  else match x.resend with
    | l :: ls =>
      (match x.replay.find? (fun r => r.flit.lseq = l) with
      | none => .next ((s.setLink q { x with resend := ls }).sendIdle q)
      | some r =>
        if r.hole then .next (s.sendIdle q)
        else .next ((s.setLink q { x with resend := ls }).sendFlit q r.flit))
    | [] =>
      if !x.room then .next (s.sendIdle q)
      else if s.portState q = 2 ∧ x.outq.any (fun o => !o.hdrSent) then .next (s.sendHeaders q)
      else match x.dataKey with
        | some (key, o) => .next (s.sendData q key o)
        | none => .next (s.sendIdle q)

end Sys2Proof.Machine
end

