-- ==== Sys2Proof/Machine/Glide.lean ====
section
/-! DEFINITION. The events of glide that stand alone: a window's timeout (R114) and a write of TILE_GLIDE_CTL (R126, R127). -/

namespace Sys2Proof.Machine

/-- The lines that a window's input wrote. -/
def Window.lines (x : Window) : List Nat := rangeLines (x.pieces.map (fun (p : Piece) => (p.addr, p.len)))

/-- R114: the lines of discarded input are poisoned, and their tags clear. -/
def State.discardLines (s : State) (ls : List Nat) : State :=
  (ls.foldl (fun s l => s.setLineTag l 0 128) s).poisonLines ls

/-- GLIDE_WINDOW_TIMEOUT (R114): a window neither confirmed nor refused in time is refused; each participant rewinds and
stops with 0x0108 at its checkpoint; its input is discarded, and the window closes. Input that was confirmed before stays: its lines
lose the tag and are not poisoned; what a barrier counts in UNCONF of the discarded input stands, and the program reinitialises it
(DESIGN CHOICE, log entry 100). -/
def execGlideWindowTimeout (c : Cid) (w : Fin 8) (s : State) : Host.Outcome State Fault Refusal :=
  .next (match SMap.find (s.core c.code).windows w.val with
  | none => s
  | some x =>
    if x.pieces.any (fun p => p.refused) then s
    else
      let ps := s.participants c.code w.val
      let s := s.refuseWindow c.code w.val
      let s := ps.foldl (fun s t => s.stopThread t 0x0108 (s.regs t).pc) s
      (s.discardLines x.lines).closeWindow c.code w.val)

/-- TILE_GLIDE_CTL_WRITE (R126, R127): input that already glides is unaffected. -/
def execTileGlideCtlWrite (tile : Fin 36) (value : BitVec 64) (s : State) : Host.Outcome State Fault Refusal :=
  let v := value.toNat
  .next (s.hostWriteIn (0x10 + tile.val) (fun s =>
    (((s.setFld (Fd.TILE_GLIDE_CTL_CUT_EN tile.val) v).setFld (Fd.TILE_GLIDE_CTL_SCALE_EN tile.val) (v / 2)).setFld
      (Fd.TILE_GLIDE_CTL_LAP_EN tile.val) (v / 4)).setFld (Fd.TILE_GLIDE_CTL_TIMEOUT tile.val) (v / 65536)))

end Sys2Proof.Machine
end

