-- ==== Sys2Proof/Machine/Laps.lean ====
section
/-! DEFINITION. The lap instructions, the arming of lap VCs, and the bias tables (R391, R392, R394, R402, R404, R405, R411 to
R414). -/

namespace Sys2Proof.Machine

/-- R392: S_B bytes lie wholly in the vat or in one scratchpad of a tile, 64-byte aligned. -/
def lapRegionOk (a n : Nat) : Bool :=
  decide (a % 64 = 0)
    && (decide (a + n ≤ 0x4000000)
        || (decide (0x8000000 ≤ a) && decide (a + n ≤ 0x10000000)
            && decide ((a - 0x8000000) / 0x800000 = (a + n - 1 - 0x8000000) / 0x800000)))

/-- LAP.POST and its .DISCARD form (R392, R394). A tile offset with bits [63:28] set raises 0x0104 (R474) where its region would be tested
(DESIGN CHOICE, log entry 100: the Faults column does not list it). -/
def State.postLap (s : State) (t i slice a bar : Nat) (discard : Bool) : Eff :=
  if !(s.lapArmed i) then .fault 0x0801 s
  else if s.lapSlices i ≤ slice then .fault 0x0805 s
  else if !discard ∧ 2 ^ 28 ≤ a then .fault 0x0104 s
  else if !discard ∧ !(lapRegionOk a (s.sliceBytes i)) then .fault 0x0805 s
  else if barFault bar ≠ 0 then .fault (barFault bar) s
  else
    let x := s.lap i
    if 4 ≤ (x.posts.filter (fun p => p.slice = slice)).length then .wait .waitData s
    else
      let b := barAddr t bar
      let at0 := if discard then 0 else tileBase (tileOf t) + a
      let p : Posting :=
        { t := t, pc := (s.regs t).pc, owner := (s.thread t).owner, id := x.nextId, slice := slice, addr := at0, bar := b, ep := s.barEpoch b, discard := discard }
      .retire (s.setLap i { x with posts := x.posts ++ [p], nextId := x.nextId + 1 })

/-- LAP.POST (R392). -/
def execLapPost (t : Tid) (w : IWord) (s : State) : Host.Outcome State Fault Refusal :=
  let w := { w with mod := w.mod &&& ~~~2#16 }
  .next (s.issue t w
    { ok := ({ a := .g, b := .g, c := .g, mods := 1 } : Form).ok w, gate := true,
      reads := [gR w.a.toNat, gR w.b.toNat, gR w.c.toNat] } (fun s _ =>
    let r := s.regs t.code
    s.postLap t.code (w.ms 0 1) (r.getG w.a.toNat).toNat (r.getG w.b.toNat).toNat (r.getG w.c.toNat).toNat false))

/-- LAP.POST.DISCARD (R394): it names no region. -/
def execLapPostDiscard (t : Tid) (w : IWord) (s : State) : Host.Outcome State Fault Refusal :=
  let w := { w with mod := w.mod ||| 2#16 }
  .next (s.issue t w
    { ok := ({ a := .g, c := .g, mods := 3 } : Form).ok w, gate := true,
      reads := [gR w.a.toNat, gR w.c.toNat] } (fun s _ =>
    let r := s.regs t.code
    s.postLap t.code (w.ms 0 1) (r.getG w.a.toNat).toNat 0 (r.getG w.c.toNat).toNat true))

/-- R405: the link faults of a slice at issue: 0x0605, then 0x0602. -/
def State.lapLinkFault (s : State) (i : Nat) : Nat :=
  match s.lapRing i with
  | none => 0x0602
  | some r => if r.next = s.moduleId then 0 else s.linkFault r.next (2 + i)

/-- LAP.SEND (R402, R405, R474): its source is a local address. -/
def execLapSend (t : Tid) (w : IWord) (s : State) : Host.Outcome State Fault Refusal :=
  .next (s.issue t w
    { ok := ({ a := .g, b := .g, c := .g, mods := 1 } : Form).ok w, gate := true,
      reads := [gR w.a.toNat, gR w.b.toNat, gR w.c.toNat] } (fun s _ =>
    let th := t.code
    let x := s.thread th
    let i := w.ms 0 1
    let slice := (x.regs.getG w.a.toNat).toNat
    let a := (x.regs.getG w.b.toNat).toNat % 2 ^ 46
    let bar := (x.regs.getG w.c.toNat).toNat
    let n := s.sliceBytes i
    if !(s.lapArmed i) then .fault 0x0801 s
    else if s.lapSlices i ≤ slice ∨ s.lapSourceBad th a n then .fault 0x0805 s
    else if s.lapLinkFault i ≠ 0 then .fault (s.lapLinkFault i) s
    else if s.addrFault .thread a n ≠ 0 then .fault (s.addrFault .thread a n) s
    else if barFault bar ≠ 0 then .fault (barFault bar) s
    else if !(s.lapRoom i slice) then .wait .waitData s
    else
      let b := barAddr th bar
      .retire (s.lapEnqueue i
        { id := 0, slice := slice, t := th, pc := x.regs.pc, owner := x.owner, bar := b, ep := s.barEpoch b
          srcs := [(selfDev a, n)] })))

/-- R404: the device ranges of a run of a wheel, rows or block scales, page by page, and whether a page is absent. -/
def State.runRanges (s : State) (tile wn d token n : Nat) (sc : Bool) : List (Nat × Nat) × Bool × State :=
  let w := s.wheel wn
  let off := token - w.tbase
  (w.pagesOf token n).foldl
    (fun (q : List (Nat × Nat) × Bool × State) i =>
      let r := q.2.2.putEntry tile wn d i
      let lo := max off (i * w.tokens)
      let hi := min (off + n) ((i + 1) * w.tokens)
      let row := lo - i * w.tokens
      let x := if sc then (r.1.scale + row * w.scaleRow, (hi - lo) * w.scaleRow) else (r.1.frame + row * w.rowb, (hi - lo) * w.rowb)
      (q.1 ++ [x], q.2.1 || !r.1.valid, r.2)) ([], false, s)

/-- What the walks to the pages of a run read (R365). -/
def State.runWalks (s : State) (wn d token n : Nat) : List (List (Nat × Nat)) :=
  ((s.wheel wn).pagesOf token n).map (s.walkRanges wn d)

/-- LAP.SEND.KV (R404, R405, R491): its pin is the tile's memory engine's (R369). It waits while the tables it reads are held (R282), and
ends with 0x0511 when they are poisoned (R285). -/
def execLapSendKv (t : Tid) (w : IWord) (s : State) : Host.Outcome State Fault Refusal :=
  let form : Form := { a := .g, b := .g, c := .g, mods := 7, x := .fields [0, 1, 2, 3] }
  .next (s.issue t w
    { ok := form.ok w, head := form.head w, gate := true,
      reads := [gR w.a.toNat, gR w.b.toNat, gR w.c.toNat, gR (w.f 0), gR (w.f 1), gR (w.f 2), gR (w.f 3)] } (fun s _ =>
    let th := t.code
    let x := s.thread th
    let i := w.ms 0 1
    let sc := w.m 2
    let g (k : Nat) : Nat := (x.regs.getG k).toNat
    let slice := g w.a.toNat
    let wn := g w.b.toNat
    let bar := g w.c.toNat
    let n := g (w.f 3)
    let wh := s.wheel wn
    let known := s.wheelExists wn && decide (wh.state ≠ 0)
    let wf := s.wheelFault wn
    let d := wh.stream' (g (w.f 0)) (g (w.f 1)) (w.ms 1 1)
    if !(s.lapArmed i) then .fault 0x0801 s
    else if s.descHeld wn then .wait .waitData s
    else if s.lapSlices i ≤ slice ∨ n = 0 ∨ (known ∧ n * (if sc then wh.scaleRow else wh.rowb) ≠ s.sliceBytes i) then
      .fault 0x0805 s
    else if s.lapLinkFault i ≠ 0 then .fault (s.lapLinkFault i) s
    else if wf ≠ 0 then .fault wf s
    else if wh.runBad (g (w.f 0)) (g (w.f 1)) (g (w.f 2)) n then .fault 0x0702 s
    else if barFault bar ≠ 0 then .fault (barFault bar) s
    else if !(s.lapRoom i slice) ∨ (s.runWalks wn d (g (w.f 2)) n).any s.anyHeld then .wait .waitData s
    else
      let b := barAddr th bar
      let walks := (s.runWalks wn d (g (w.f 2)) n).flatten
      let bad := s.rangesPoisoned walks
      let pin := (s.touchAll walks).takePin (pinEngine (tileOf th))
      let r := pin.2.runRanges (tileOf th) wn d (g (w.f 2)) n sc
      .retire (r.2.2.lapEnqueue i
        { id := 0, slice := slice, t := th, pc := x.regs.pc, owner := x.owner, bar := b, ep := s.barEpoch b
          srcs := r.1, fault := if bad then 0x0511 else if r.2.1 then 0x0703 else 0, pin := some (pinEngine (tileOf th), pin.1) })))

/-- LAP_ARM (R391). -/
def execLapArm (i : Fin 2) (s : State) : Host.Outcome State Fault Refusal := .next (s.hostWriteIn 13 (fun s => s.lapArm i.val))

/-- LAP_DISARM (R391). -/
def execLapDisarm (i : Fin 2) (s : State) : Host.Outcome State Fault Refusal := .next (s.hostWriteIn 13 (fun s => s.lapDisarm i.val))

/-! Bias tables -/

/-- TBL.LOAD (R411): queued behind the tile's earlier loads. -/
def execTblLoad (t : Tid) (w : IWord) (s : State) : Host.Outcome State Fault Refusal :=
  .next (s.issue t w
    { ok := ({ a := .g, b := .g, c := .g } : Form).ok w, gate := true,
      reads := [gR w.a.toNat, gR w.b.toNat, gR w.c.toNat] } (fun s _ =>
    let th := t.code
    let x := s.thread th
    let src := (x.regs.getG w.a.toNat).toNat
    let h0 := (x.regs.getG w.b.toNat).toNat
    let n := (x.regs.getG w.c.toNat).toNat
    let tile := tileOf th
    if 64 < h0 + n then .fault 0x0802 s
    else if n ≠ 0 ∧ (src % 16 ≠ 0 ∨ 2 ^ 28 ≤ src) then .fault 0x0104 s
    else if n ≠ 0 ∧ !(inVatOrOwn (coreIdx (coreOf th)) src (n * 512)) then .fault 0x0103 s
    else
      let q := s.tile tile
      .retire (s.setTile tile { q with
        loads := q.loads ++ [{ t := th, pc := x.regs.pc, owner := x.owner, src := src, h0 := h0, n := n }] })))

/-- R412: the switch of the bias tables: shadow and front change places. -/
def State.tblSwitch (s : State) (tile : Nat) : State :=
  if s.isSet (Fd.TILE_ATT_TBL_SHADOW_READY tile) then
    let q := s.tile tile
    let s := s.setTile tile { q with front := q.shadow, shadow := q.front, copied := false }
    (s.incFld (Fd.TILE_ATT_TBL_GEN tile)).setFld (Fd.TILE_ATT_TBL_SHADOW_READY tile) 0
  else s

/-- R412, R414: nothing holds a TBL.FENCE of a tile back: no load is in progress, no thread of the tile takes part in a
window. -/
def State.tblFree (s : State) (tile : Nat) : Bool :=
  (s.tile tile).loads = [] && s.threads.all (fun e => tileOf e.1 ≠ tile || e.2.ckpts = [])

/-- TBL.FENCE (R412, R414): behind its gate it waits, pending, for loads and windows; then it switches, or does nothing. -/
def execTblFence (t : Tid) (w : IWord) (s : State) : Host.Outcome State Fault Refusal :=
  .next (s.issue t w { ok := ({} : Form).ok w, gate := true } (fun s _ =>
    let th := t.code
    if s.tblFree (tileOf th) then
      let s := s.tblSwitch (tileOf th)
      .retire (s.setThread th { s.thread th with fence := false })
    else .wait .waitSync (s.setThread th { s.thread th with fence := true })))

/-- TBL_LOAD_DONE (R411): the oldest load of a tile is served, once no line it reads glides (R101). A poisoned source line leaves the
shadow heads as they were and is its thread's fault 0x0510. -/
def execTblLoadDone (tile : Fin 36) (s : State) : Host.Outcome State Fault Refusal :=
  let q := s.tile tile.val
  match q.loads with
  | [] => .next s
  | l :: rest =>
    let a := tileBase tile.val + l.src
    if !(s.computeUp) || (linesOf a (l.n * 512)).any (fun k => (SMap.find s.ltags k).isSome) then .next s
    else if s.poisoned a (l.n * 512) then
      .next ((s.setTile tile.val { q with loads := rest }).failLater l.t 0x0510 l.pc l.owner)
    else
      let base := if q.copied then q.shadow else q.front
      let sh := (List.range (l.n * 256)).foldl (fun (m : SMap Nat) k =>
        let v := s.readNat (a + 2 * k) 2
        if v = 0 then SMap.erase m (l.h0 * 256 + k) else m.set (l.h0 * 256 + k) v) base
      let s := s.setTile tile.val { q with loads := rest, shadow := sh, copied := true }
      .next (s.setFld (Fd.TILE_ATT_TBL_SHADOW_READY tile.val) 1)

/-- TBL_GEN_SWITCH (R412): the oldest pending TBL.FENCE of a tile switches once nothing holds it back. -/
def execTblGenSwitch (tile : Fin 36) (s : State) : Host.Outcome State Fault Refusal :=
  match s.threads.find? (fun e => decide (tileOf e.1 = tile.val) && e.2.fence) with
  | none => .next s
  | some (t, x) =>
    if s.tblFree tile.val ∧ s.computeUp then
      let s := s.tblSwitch tile.val
      .next ((s.setThread t { x with fence := false }).goTo t (x.regs.pc + 8))
    else .next s

end Sys2Proof.Machine
end

