-- ==== Sys2Proof/Machine/Launches.lean ====
section
/-! DEFINITION. Launches (R512, R513, R557): the threads a LAUNCH starts, and how it completes. -/

namespace Sys2Proof.Machine

/-- The fields of a LAUNCH body (R512). -/
structure LaunchBody where
  tiles : Nat
  cores : Nat
  first : Nat
  count : Nat
  ident : Bool
  nargs : Nat
  pc : Nat
  args : List Nat
  deriving DecidableEq, Repr

/-- R512: read a LAUNCH body. -/
def launchBody (c : Cmd) : LaunchBody :=
  { tiles := c.body 0 8, cores := c.body 8 2, first := c.body 10 1, count := c.body 11 1 + 1, ident := bitAt (c.body 12 1) 0,
    nargs := c.body 13 1, pc := c.body 16 4, args := (List.range 8).map (fun i => c.body (24 + 8 * i) 8) }

/-- R512: the fields are invalid (0x0A10). -/
def State.launchBad (s : State) (b : LaunchBody) : Bool :=
  decide (127 < b.first + b.count - 1) || (List.range 36).any (fun t => bitAt b.tiles t && !s.tileOn t)
    || b.cores = 0 || b.tiles = 0 || decide ((if b.ident then 7 else 8) < b.nargs)

/-- The threads a LAUNCH names, in rising (tile, core, thread). -/
def LaunchBody.tids (b : LaunchBody) : List Nat :=
  ((List.range 36).filter (bitAt b.tiles)).flatMap (fun t =>
    ((List.range 16).filter (bitAt b.cores)).flatMap (fun c =>
      (List.range b.count).map (fun i => t * 2048 + c * 128 + b.first + i)))

/-- R512: the identity word of a thread. -/
def State.identWord (s : State) (t : Nat) : Nat :=
  s.moduleId * 2 ^ 24 + tileOf t * 2 ^ 12 + coreIdx (coreOf t) * 2 ^ 8 + thOf t

/-- R60, R228: a thread as its launch starts it: arguments, program counter, the lane generators' launch key. A PC that
breaks R65 stops it at its first instruction. -/
def State.startThread (s : State) (k : CmdRef) (b : LaunchBody) (t : Nat) : State :=
  let args := (List.range 8).map (fun i =>
    if i = 7 ∧ b.ident then s.identWord t else if i < b.nargs then b.args.getD i 0 else 0)
  let g := args.zipIdx.foldl (fun (m : SMap (BitVec 64)) x => if x.1 = 0 then m else m.set x.2 (BitVec.ofNat 64 x.1)) []
  let bad := b.pc % 8 ≠ 0 ∨ 0x4000000 ≤ b.pc
  s.setThread t {
    regs := { g := g, pc := b.pc, key := s.rngKey t }
    st := .ready, owner := some k, due := if bad then some (0x0102, b.pc) else none }

/-- LAUNCH (R512, R557): it waits until every named thread is FREE, and starts them all. -/
def execLaunch (k : CmdRef) (s : State) : Host.Outcome State Fault Refusal :=
  .next (match s.cmd k with
  | none => s
  | some c =>
    if s.mayStart k [0x01] then
      let b := launchBody c
      let go := s.startCmd k
      if !(c.clean [(0, 14), (16, 4), (24, 64)]) ∨ b.tiles ≥ 2 ^ 36 ∨ 1 < c.body 12 1 then (go.launchFault c.job 0x0A11).finishCmd k 0x0A11
      else if s.launchBad b then (go.launchFault c.job 0x0A10).finishCmd k 0x0A10
      else if s.ofJob c.job ∧ s.fld Fd.JOB_STEP_STATE = 2 then go.finishCmd k 0x0C09
      else if s.computeUp ∧ b.tids.all (fun t => (s.thread t).st = .free) then
        let st : State := { go with launches := go.launches.set k.code { tids := b.tids, live := b.tids, job := BitVec.ofNat 16 c.job } }
        (b.tids.foldl (fun st t => st.startThread k b t) st).phaseCheck
      else s
    else s)

/-- R513: the fault a launch completes with: of its lowest thread that stopped with a code other than 0x0A16. -/
def Launch.fault (l : Launch) : Nat :=
  match l.faults.foldl (fun (best : Option (Nat × BitVec 16)) f =>
      if f.2 = 0x0A16 then best
      else match best with
        | none => some f
        | some b => if f.1 < b.1 then some f else best) none with
  | some f => f.2.toNat
  | none => 0

/-- LAUNCH_COMPLETE (R513, R556): every thread the launch started has retired EXIT or has stopped. Its stopped threads become
FREE. -/
def execLaunchComplete (k : CmdRef) (s : State) : Host.Outcome State Fault Refusal :=
  .next (match SMap.find s.launches k.code with
  | none => s
  | some l =>
    if l.live = [] then
      let s := l.tids.foldl (fun s t =>
        if (s.thread t).owner = some k then { s with threads := SMap.erase s.threads t } else s) s
      let s : State := { s with launches := SMap.erase s.launches k.code }
      let s := s.launchFault l.job.toNat l.fault
      (s.finishCmd k l.fault l.tids.length).phaseCheck
    else s)

end Sys2Proof.Machine
end

