-- ==== Sys2Proof/Machine/Trust.lean ====
section
/-! DEFINITION. Trust and test: the random source (R616), the security version (R620), licences as a command (R626), the watchdog
(R631), BIST as a command (R633, R634) and broadcast loading at its source (R639). -/

namespace Sys2Proof.Machine

/-! The random source and the security version -/

/-- RNG_HEALTH_TEST (R616): the third failure in a row records 0x0E61; a pass answers what waited. -/
def execRngHealthTest (pass : Bool) (s : State) : Host.Outcome State Fault Refusal :=
  .next (if !s.boot.powered then s
    else
      let s := s.setFld Fd.ID_RNG_HEALTHY (b2n pass)
      if pass then (s.setBoot { s.boot with rngFails := 0 }).answerStalled
      else
        let n := s.boot.rngFails + 1
        let s := (s.satFld Fd.ID_RNG_FAILS).setBoot { s.boot with rngFails := n }
        if n = 3 then s.log 0x0E61 else s)

/-- R620: the SVN of the running image. -/
def State.runningSvn (s : State) : Nat := fwSvn s.fw.running

/-- R620: the host writes 1 to ID_SVN.COMMIT. -/
def State.commitSvn (s : State) : State :=
  if s.isSet Fd.ID_SVN_COMMIT then s
  else if s.fw.run = 0 ∨ s.runningSvn ≤ s.fld Fd.ID_SVN_SVN then s.log 0x0E06
  else s.setFld Fd.ID_SVN_COMMIT 1

/-- SVN_COMMIT (R620). -/
def execSvnCommit (s : State) : Host.Outcome State Fault Refusal := .next (s.hostWrite State.commitSvn)

/-- SVN_FUSE_DONE (R620): the fused SVN only rises. -/
def execSvnFuseDone (s : State) : Host.Outcome State Fault Refusal :=
  .next (if s.isSet Fd.ID_SVN_COMMIT then
      (s.setHeld Fd.ID_SVN_SVN (max (s.fld Fd.ID_SVN_SVN) s.runningSvn)).setFld Fd.ID_SVN_COMMIT 0
    else s)

/-! Licences (R626) -/

/-- R626: n bytes at a device address lie in an open host window. -/
def State.inOpenWindow (s : State) (a n : Nat) : Bool :=
  let l := (devSplit a).2
  s.here a && decide (regionOf l = .host) && (match s.winAt l, s.winAt (l + n - 1) with
    | some i, some j => i = j
    | _, _ => false)

/-- R626: the fault of a licence record, in the order of its table, or 0. -/
def State.licenceFault (s : State) (bs : List Byte) : Nat :=
  let q := numAt bs 16 4
  if !licForm bs then 0x0E14
  else if !(Config.sigOk 4 bs) then 0x0E11
  else if numAt bs 8 6 ≠ s.fld Fd.ID_MODULE_SERIAL then 0x0E12
  else if q < s.fld Fd.LIC_FLOOR_FLOOR ∨ (s.fld Fd.LIC_STAT_VARIANT ≠ 0 ∧ q ≤ s.fld Fd.LIC_STAT_LSEQ)
      ∨ (s.isSet Fd.LIC_PEND_PENDING ∧ q ≤ s.fld Fd.LIC_PEND_PEND_LSEQ) then 0x0E13
  else 0

/-- LICENCE (R626). -/
def execLicence (k : CmdRef) (s : State) : Host.Outcome State Fault Refusal :=
  .next (match s.cmd k with
  | none => s
  | some c =>
    if s.mayStart k [0x38] then
      let s := s.startCmd k
      let a := c.body 0 8
      if !(c.clean [(0, 8)]) then s.finishCmd k 0x0A11
      else if a % 16 ≠ 0 then s.finishCmd k 0x0104
      else if !(s.inOpenWindow a 128) then s.finishCmd k 0x0E14
      else
        let bs := s.readBytes (devSplit a).2 128
        let f := s.licenceFault bs
        if f ≠ 0 then s.finishCmd k f
        else
          let q := numAt bs 16 4
          let s : State := { s with fw := { s.fw with pend := bs } }
          ((s.setHeld Fd.LIC_PEND_PENDING 1).setHeld Fd.LIC_PEND_PEND_LSEQ q).finishCmd k 0 q
    else s)

/-! The watchdog (R631) -/

/-- R631: the packets that waited leave. -/
def State.resumeMgmt (s : State) : State :=
  let s : State := { s with mgmtStop := false }
  s.sends.foldl (fun s e => if e.1 % 16 = 0 then s.pumpFlow (e.1 / 16) 0 e.2.waiting.length else s) s

/-- R631: MC_WDT.KICK is written. -/
def State.kick (s : State) : State := if s.mgmtStop ∧ s.fw.run ≠ 0 then s.resumeMgmt else s

/-- WDT_KICK (R631, R47). -/
def execWdtKick (agent : Agent) (s : State) : Host.Outcome State Fault Refusal :=
  .next (match agent with
  | .controller => s.kick
  | .host => s.hostWrite State.kick
  | _ => s)

/-- R639, R646: a load that has failed: its chunks not yet sent are dropped. -/
def State.failLoad (s : State) (fault : Nat) : State :=
  let s : State := { s with sends := s.sends.map (fun e => (e.1, { e.2 with waiting := e.2.waiting.filter (fun w => w.org ≠ .fwLoad) })) }
  ((s.setFld Fd.MC_FWB_CTL_START 0).setFld Fd.MC_FWB_STAT_STATE 3).setFld Fd.MC_FWB_STAT_FAULT fault

/-- WDT_EXPIRY (R631). -/
def execWdtExpiry (s : State) : Host.Outcome State Fault Refusal :=
  .next (if !(s.isSet Fd.MC_WDT_EN) then s
    else
      let s : State := { s with mgmtStop := true }
      let s := ((s.setFld Fd.MC_WDT_HUNG 1).incFld Fd.MC_WDT_EXPIRIES).log 0x0E41
      let s := if s.fld Fd.MC_FWB_STAT_STATE = 1 then s.failLoad 0x0E41 else s
      s.runFirmware false)

/-! Broadcast loading at its source (R639) -/

/-- R638: the chunks of an image for another module. -/
def State.sendChunks (s : State) (d : Nat) (x : FwImg) (bs : List Byte) (bcast : Bool) : State :=
  (List.range (chunkCount x.total)).foldl (fun s i =>
    s.sendPkt d 0 0x10 (chunkBody s.moduleId x bcast i ((bs.drop (4064 * i)).take 4064)) .fwLoad) s

/-- R639, R640: this module loads the image itself. -/
def State.loadHere (s : State) (x : FwImg) (bs : List Byte) : State :=
  let r := s.imageWhole x bs
  r.2.countStatus r.1

/-- R639: the load's state once its chunks have been handed on. -/
def State.showLoad (s : State) : State :=
  if s.inFlight (fun o => o = .fwLoad) then (s.setFld Fd.MC_FWB_CTL_START 1).setFld Fd.MC_FWB_STAT_STATE 1
  else (s.setFld Fd.MC_FWB_CTL_START 0).setFld Fd.MC_FWB_STAT_STATE 2

/-- R639: where the image a load has read goes: one module, the whole torus, or this module. -/
def State.placeLoad (s : State) (x : FwImg) (bs : List Byte) : State :=
  if s.isSet Fd.MC_FWB_CTL_ONE then
    let d := s.fld Fd.MC_FWB_CTL_DSTMOD
    if d = s.moduleId then (s.loadHere x bs).showLoad
    else
      let f := s.linkFault d 0
      if f ≠ 0 then s.failLoad f else (s.sendChunks d x bs false).showLoad
  else if s.isSet Fd.MC_FWB_CTL_TORUS then
    if !s.isSealed then (s.log 0x0601).failLoad 0x0601
    else ((s.treeNext s.moduleId none).foldl (fun s d => s.sendChunks d x bs true) s |>.loadHere x bs).showLoad
  else (s.loadHere x bs).showLoad

/-- R639: a load of the image in a host window begins; ONE comes first. -/
def State.startLoad (s : State) : State :=
  if s.isSet Fd.MC_FWB_CTL_START then s
  else
    let s : State := { s with fw := { s.fw with seq := s.fw.seq + 1 } }
    let s := ((s.setFld Fd.MC_FWB_COUNT_DONE 0).setFld Fd.MC_FWB_COUNT_FAILED 0).setFld Fd.MC_FWB_STAT_FAULT 0
    let a := s.fld Fd.MC_FWB_SRC_SRC
    let n := s.fld Fd.MC_FWB_STAT_LEN
    let kind := s.fld Fd.MC_FWB_CTL_KIND
    if (if kind = 0 then 2 ^ 23 else 2 ^ 26) < n then s.failLoad 0x0E71
    else if n ≠ 0 ∧ !(s.inOpenWindow (0x3FFFF * 2 ^ 46 + a) n) then s.failLoad 0x0502
    else
      let bs := s.readBytes a n
      let x : FwImg := { image := s.fw.seq.toNat, kind := kind, total := n, dst := s.fld Fd.MC_FWB_CTL_DST, crc := crc32 bs }
      s.placeLoad x bs

/-- FW_LOAD_START (R639). -/
def execFwLoadStart (s : State) : Host.Outcome State Fault Refusal := .next (s.hostWrite State.startLoad)

/-! BIST as a command (R633, R634) -/

/-- R633: the condition of a die. -/
def State.dieHeld (s : State) (d : Nat) : Bool :=
  if 5 ≤ d then s.isSet Fd.PWR_CPR_HELD
  else if d = 3 ∨ d = 4 then !(s.isSet (Fd.MAP_CTL_MAP_EN .far))
  else ((List.range 6).filter (fun p => portDie p = d)).all (fun p => s.portState p = 4)

/-- A list cut into groups of six. -/
def sixes : Nat → List Nat → List (List Nat)
  | 0, _ => []
  | n + 1, l => if l = [] then [] else l.take 6 :: sixes n (l.drop 6)

/-- R634: the last group is done: the command completes with the dies that failed, and a waiting bring-up may go on. -/
def State.endBist (s : State) (x : BistRun) : State :=
  let s := (s.setTrust { s.trust with bist := none }).setFld Fd.BIST_STAT_RUNNING 0
  (s.finishCmd x.k (if x.failed = 0 then 0 else 0x0E32) x.failed).holdOrGo

/-- BIST (R633): checks, and then the groups run: tiles six at a time, rind dies beside them. -/
def execBist (k : CmdRef) (s : State) : Host.Outcome State Fault Refusal :=
  .next (match s.cmd k with
  | none => s
  | some c =>
    if s.mayStart k [0x39] ∧ s.trust.bist.isNone then
      let s := s.startCmd k
      let dies := (List.range 45).filter (fun i => bitAt (c.body 0 8) i)
      let fl := c.body 8 1
      let res := c.body 16 8
      let f := if res % 64 ≠ 0 then 0x0104 else if dies = [] then 0 else s.destFault res (32 * dies.length)
      if !(c.clean [(0, 9), (16, 8)]) ∨ bitAt (c.body 0 8) 0 ∨ 2 ^ 45 ≤ c.body 0 8 ∨ 8 ≤ fl then s.finishCmd k 0x0A11
      else if f ≠ 0 then (if f = 0x0A14 then s.log f else s).finishCmd k f
      else if !(dies.all s.dieHeld) then s.finishCmd k 0x0E31
      else
        let x : BistRun := {
          k := k, dies := dies, todo := sixes 6 (dies.filter (9 ≤ ·)) ++ (dies.filter (· < 9)).map (fun d => [d])
          lbist := bitAt fl 0, mbist := bitAt fl 1, retire := bitAt fl 2, res := res }
        if dies = [] then s.endBist x
        else (s.setTrust { s.trust with bist := some x }).setFld Fd.BIST_STAT_RUNNING 1
    else s)

/-- R634: one die's result is written, its signatures shown, and with RETIRE its failures appended. A test that was not run leaves
its pass bit open (a free value). -/
def State.bistResult (s : State) (x : BistRun) (r : BistResult) : State × BistRun :=
  let d := r.index.val
  let lbad := x.lbist && r.lsig ≠ Config.golden d false
  let mbad := x.mbist && r.msig ≠ Config.golden d true
  let bad := lbad || mbad
  let es := if x.retire && bad then (r.fails.map BitVec.toNat).filter (fun e => bits e 8 8 = d && 1 ≤ e % 16 && e % 16 ≤ 12) else []
  let n := s.defects.length
  let s := es.foldl (fun s e => s.foundBad 2 e) s
  let added := s.defects.length - n
  let s := if x.lbist then s.setFld (Fd.BIST_LSIG_LSIG d) r.lsig.toNat else s
  let s := if x.mbist then s.setFld (Fd.BIST_MSIG_MSIG d) r.msig.toNat else s
  let lp := if x.lbist then b2n (!lbad) else s.freeVal 1
  let s := s.useFree
  let mp := if x.mbist then b2n (!mbad) else s.freeVal 1
  let s := s.useFree
  let v := d + lp * 2 ^ 8 + mp * 2 ^ 9 + added % 2 ^ 16 * 2 ^ 16 + (if x.lbist then r.lsig.toNat else 0) * 2 ^ 64
    + (if x.mbist then r.msig.toNat else 0) * 2 ^ 128
  let rank := (x.dies.filter (· < d)).length
  ((s.store (cellsFrom ((devSplit x.res).2 + 32 * rank) (leBytes 32 v))).1, { x with failed := x.failed + b2n bad })

/-- BIST_GROUP_DONE (R633, R634): a group that runs now: the first group of tiles left, or any rind die. -/
def execBistGroupDone (rs : List BistResult) (s : State) : Host.Outcome State Fault Refusal :=
  .next (match s.trust.bist with
  | none => s
  | some x =>
    let ds := rs.map (fun r => r.index.val)
    let runs := x.todo.filter (fun g => g.all (· < 9)) ++ (x.todo.filter (fun g => g.all (9 ≤ ·))).take 1
    if !(runs.contains ds) then s
    else
      let r := rs.foldl (fun (p : State × BistRun) r => p.1.bistResult p.2 r) (s, x)
      let x : BistRun := { r.2 with todo := r.2.todo.filter (fun g => g ≠ ds) }
      if x.todo = [] then r.1.endBist x else r.1.setTrust { r.1.trust with bist := some x })

end Sys2Proof.Machine
end

