-- ==== Sys2Proof/Machine/Registers.lean ====
section
/-! DEFINITION. Writes to control space (R11 to R13, R47, R50 to R52, R627): who may write where, and what each register's write
does beside storing its fields. -/

namespace Sys2Proof.Machine

/-- Does a write change any bit of a range of bits of a register? -/
def State.changes (s : State) (r : Reg) (mask v lo len : Nat) : Bool :=
  bits (maskMix (s.regNat r) v mask) lo len ≠ bits (s.regNat r) lo len

/-- Store the fields of a register, and then clamp some of them. -/
def State.writeClamped (s : State) (r : Reg) (mask v : Nat) (cl : List (Fld × Nat × Nat)) : State :=
  cl.foldl (fun s c => s.clampFld c.1 c.2.1 c.2.2) (s.writeFields r mask v)

/-- R630: a request for a transmit swing in mV, of the Jurvo ports (0) or of CXL (1), is clamped to ID_CAPS, with 0x0E42. No register and no row
of the command table makes such a request, so that no command calls it (log entry 87). -/
def State.requestSwing (s : State) (cxl : Bool) (mv : Nat) : State :=
  let cap := s.fld (if cxl then Fd.ID_CAPS_CXL_TX_MV else Fd.ID_CAPS_JURVO_TX_MV)
  let st := s.setBoot { s.boot with swing := s.boot.swing.set (b2n cxl) (min mv cap) }
  if cap < mv then st.log 0x0E42 else st

/-- R608: a request above or below what R608 allows is clamped, with 0x0F04 and LIMITER. -/
def State.limit (s : State) (f : Fld) (lo hi : Nat) : State :=
  if s.fld f < lo ∨ hi < s.fld f then ((s.clampFld f lo hi).setFld Fd.PWR_STAT_LIMITER 1).log 0x0F04 else s

/-- R420: a lap configuration: while armed its geometry does not change (0x0805); ARM arms and disarms. -/
def State.writeLapCfg (s : State) (i mask v : Nat) : State :=
  let geo := 2 ^ 28 - 2
  let bad := s.lapArmed i && (s.changes (.JOB_LAP_CFG i) mask v 1 13 || s.changes (.JOB_LAP_CFG i) mask v 16 12)
  let st := if bad then s.log 0x0805 else s
  let m := if s.lapArmed i then mask - (mask &&& geo) else mask
  let m := m - (m &&& 1)
  let st := st.writeClamped (.JOB_LAP_CFG i) m v [(Fd.JOB_LAP_CFG_SLICE_PAGES i, 1, 2048)]
  if !bitAt mask 0 then st
  else if bitAt v 0 then st.lapArm i
  else if s.lapArmed i then st.lapDisarm i else st

/-- R356, R357: a write to KV_CTL: EN set starts the check, EN cleared disables; CFG_BAD clears. A write whose clearing of EN is refused
is discarded. -/
def State.writeKvCtl (s : State) (mask v : Nat) : State :=
  if bitAt mask 0 ∧ !bitAt v 0 ∧ s.isSet Fd.KV_CTL_EN ∧ !s.allFree then s.log 0x0708 else
  let s := s.writeFields .KV_CTL (mask - (mask &&& 1)) v
  if !bitAt mask 0 then s else if bitAt v 0 then s.kvEnable else s.kvDisable

/-- R357: a register of the KV configuration, which cannot change while EN is 1. -/
def State.writeKvCfg (s : State) (r : Reg) (mask v : Nat) : State :=
  if s.isSet Fd.KV_CTL_EN then s.log 0x0708 else s.writeFields r mask v

/-- R602, R611: a write to PWR_CPR. -/
def State.writeCpr (s : State) (mask v : Nat) : State :=
  let w := v &&& mask
  let s := s.writeFields .PWR_CPR (mask &&& 4) v
  let s := if bitAt w 1 then s.setFld Fd.PWR_CPR_RELEASE 1 else s
  let s := if bitAt w 0 then s.requestCpr else s
  s.holdOrGo

/-- R631, R647: a write to MC_WDT. The management controller cannot change the LK fields (0x0E40). -/
def State.writeWdt (s : State) (ctl : Bool) (mask v : Nat) : State :=
  let lk := 2 ^ 17 - 1
  let st := if ctl then
      (let st := s.writeFields .MC_WDT (mask - (mask &&& lk)) v
       if s.changes .MC_WDT mask v 0 17 then st.log 0x0E40 else st)
    else s.writeClamped .MC_WDT mask v [(Fd.MC_WDT_TIMEOUT_MS, 100, 10000)]
  if bitAt (v &&& mask) 17 then st.kick else st

/-- R639, R647: a write to MC_FWB_CTL. -/
def State.writeFwb (s : State) (mask v : Nat) : State :=
  let s := s.writeFields .MC_FWB_CTL (mask - (mask &&& 1)) v
  if bitAt (v &&& mask) 0 then s.startLoad else s

/-- R333, R336, R338: a write to JL_P_CTL. -/
def State.writePortCtl (s : State) (p mask v : Nat) : State :=
  let s := s.writeFields (.JL_P_CTL p) mask v
  let s := if s.isSet (Fd.JL_P_CTL_ENABLE p) then s else s.retirePort p
  if bitAt (v &&& mask) 2 then s.revivePort p else s

/-- R275, R293: a write to a GUARD register. -/
def State.writeGuard (s : State) (k : Tier) (mask v : Nat) : State :=
  let crit := s.fld (Fd.GUARD_CRIT k)
  let s := s.writeClamped (.GUARD k) mask v [(Fd.GUARD_ACT_LIMIT k, 256, s.fld (Fd.GUARD_ACT_MAX k)), (Fd.GUARD_THR1 k, 0, crit - 2)]
  s.clampFld (Fd.GUARD_THR2 k) (s.fld (Fd.GUARD_THR1 k) + 1) (crit - 1)

/-- R606, R611: a write to PWR_THERM. -/
def State.writeTherm (s : State) (mask v : Nat) : State :=
  let s := s.writeClamped .PWR_THERM mask v [(Fd.PWR_THERM_TJ_THROTTLE, 0, s.fld Fd.PWR_THERM_TJ_TRIP - 5)]
  (s.clampFld Fd.PWR_THERM_TJ_RESUME 0 (s.fld Fd.PWR_THERM_TJ_THROTTLE - 5)).holdOrGo

/-- R530: a write to HST_JRNL_BASE: JBASE changes only while no stream is enabled. -/
def State.writeJrnl (s : State) (mask v : Nat) : State :=
  let busy := (List.range 4096).any (fun i => s.isSet (Fd.HST_S_CTL_EN i))
  s.writeFields .HST_JRNL_BASE (if busy then mask - (mask &&& (2 ^ 46 - 1)) else mask) v

/-- What a write of the bits of a mask to a register does; `ctl` says that the management controller writes. -/
def State.writeReg (s : State) (ctl : Bool) (r : Reg) (mask v : Nat) : State :=
  match r with
  | .HST_S_CTL i => s.writeStreamCtl i mask v
  | .HST_S_CMD i => if s.isSet (Fd.HST_S_CTL_EN i) then s else s.writeFields r mask v
  | .HST_S_CPL i => if s.isSet (Fd.HST_S_CTL_EN i) then s else s.writeFields r mask v
  | .HST_S_LINE i => if s.isSet (Fd.HST_S_CTL_EN i) then s else s.writeFields r mask v
  | .HST_S_DB i => s.learnTail i (BitVec.ofNat 32 (v &&& mask))
  | .HST_JRNL_BASE => s.writeJrnl mask v
  | .JOB_CTL => s.writeJobCtl mask v
  | .JOB_SEED => if s.stepOpen then s.log 0x0C02 else s.writeFields r mask v
  | .JOB_PHASE_MAP _ => if s.stepOpen then s.log 0x0C02 else s.writeFields r mask v
  | .JOB_STEP_CMD => s.writeStepCmd (v &&& mask)
  | .JOB_LOSS => s.writeLoss mask v
  | .JOB_FILL => if bits mask 0 16 = 0 then s else s.writePlan (bits (maskMix (s.regNat r) v mask) 0 16)
  | .JOB_LAP_CFG i => s.writeLapCfg i mask v
  | .ING_CTL => if bits mask 0 8 = 0 then s else s.writePipesEn (bits (maskMix (s.regNat r) v mask) 0 8)
  | .REL_CFG => s.writeClamped r mask v [(Fd.REL_CFG_TIMEOUT_MS, 1, 60000)]
  | .REL_NOISE => s.writeClamped r mask v [(Fd.REL_NOISE_ENTRIES_LOG, 0, 15)]
  | .REL_NORM_CTL k => s.writeNorm k 0 mask v
  | .REL_NORM_ADDR k => s.writeNorm k 1 mask v
  | .REL_NORM_BAR k => s.writeNorm k 2 mask v
  | .REL_NORM_SLOTS k => s.writeNorm k 3 mask v
  | .REL_RED_CTL h => s.writeRel h 0 mask v
  | .REL_RED_ID h => s.writeRel h 1 mask v
  | .REL_RED_OWN h => s.writeRel h 2 mask v
  | .REL_RED_RING h => s.writeRel h 3 mask v
  | .REL_RED_SLOTS h => s.writeRel h 4 mask v
  | .REL_RED_EXP h => s.writeRel h 5 mask v
  | .REL_RED_ACC h => s.writeRel h 6 mask v
  | .REL_RED_CMPA h => s.writeRel h 7 mask v
  | .REL_RED_STAT h => s.writeRel h 8 mask v
  | .REL_RED_CHK h => s.writeRel h 9 mask v
  | .JL_TORUS => ((s.writeFields .JL_TORUS mask v).renamed s.moduleId).showGateways
  | .JL_GATEWAY i => (s.writeFields (.JL_GATEWAY i) mask v).showGateways
  | .JL_SEAL => if bitAt (v &&& mask) 0 then s.sealTorus else s
  | .JL_P_CTL p => s.writePortCtl p mask v
  | .JL_P_THRESH p =>
    s.writeClamped r mask v [(Fd.JL_P_THRESH_RETRY_LIMIT p, 1, 64), (Fd.JL_P_THRESH_RETRY_WIN_MS p, 100, 10000),
      (Fd.JL_P_THRESH_LOL_LIMIT p, 1, 8), (Fd.JL_P_THRESH_LOL_WIN_S p, 60, 3600), (Fd.JL_P_THRESH_RETRAIN_LIMIT p, 1, 4)]
  | .JL_E2E_CTL => s.writeClamped r mask v [(Fd.JL_E2E_CTL_TIMEOUT_US, 20, 10000), (Fd.JL_E2E_CTL_LIMIT_MS, 100, 60000)]
  | .MAP_CTL k => if bitAt mask 0 then s.setMap k v else s
  | .HASH_KEY k => s.writeHashKey k (v &&& mask)
  | .GUARD k => s.writeGuard k mask v
  | .KV_CTL => s.writeKvCtl mask v
  | .KV_TABLE => if s.isSet Fd.KV_CTL_EN then s.log 0x0708 else s.writeClamped r mask v [(Fd.KV_TABLE_WHEELS, 0, 65536)]
  | .KV_TABLE_REC => s.writeKvCfg r mask v
  | .KV_TABLE_RECS => s.writeKvCfg r mask v
  | .KV_PROT => s.writeKvCfg r mask v
  | .KV_POOL_CFG _ => s.writeKvCfg r mask v
  | .KV_POOL_STAT _ => s.writeKvCfg r mask v
  | .KV_EVT => s.writeClamped r mask v [(Fd.KV_EVT_ENTRIES_LOG, 0, 15)]
  | .CLK_DOM_CTL d =>
    if d ≠ 0 ∨ bits mask 0 32 = 0 then s
    else (let x := maskMix (s.regNat r) v mask; s.writeCoreRatio (bits x 0 16) (bits x 16 16))
  | .CLK_XTAL_CTL => s.writeClamped r mask v [(Fd.CLK_XTAL_CTL_DELAY_US, 1000, 2000000)]
  | .CLK_SSC => s.writeClamped r mask v [(Fd.CLK_SSC_CORE_DEPTH, 0, 10), (Fd.CLK_SSC_MESH_DEPTH, 0, 10)]
  | .PWR_CPR => s.writeCpr mask v
  | .PWR_CAP =>
    let c := s.fld Fd.PWR_CAP_CEIL_W
    ((s.writeFields r mask v).limit Fd.PWR_CAP_CAP_W 0 c).limit Fd.PWR_CAP_COOL_CAP_W 0 c
  | .PWR_THERM => s.writeTherm mask v
  | .PWR_LIFT => (s.writeFields r mask v).limit Fd.PWR_LIFT_RAMP_US 2000 4000
  | .ID_SVN => if bitAt (v &&& mask) 16 ∧ !ctl then s.commitSvn else s
  | .MC_WDT => s.writeWdt ctl mask v
  | .MC_FWB_CTL => s.writeFwb mask v
  | .DVSEC_BAR0 _ => s
  | .DVSEC_BAR4 _ => s
  | .DVSEC_FAR _ => s
  | .DVSEC_WIN _ => s
  | .DVSEC_WIN_HPA _ => s
  | r => s.writeFields r mask v

/-- R330, R526, R529: a write to the windows beside the registers: the MSI-X tables and the pistes take it, any other offset
discards it (R51). -/
def State.writeWindow (s : State) (b r mask v : Nat) : State :=
  if b = 6 ∧ 0xC0000 ≤ r ∧ r < 0xE0000 ∧ (r - 0xC0000) % 0x10000 < 0x8000 then
    let q := (r - 0xC0000) / 0x10000
    let k := q * 2048 + (r - 0xC0000) % 0x10000 / 16
    let old := (s.msix.getD k (1#128 <<< 96)).toNat
    let h := 64 * (r / 8 % 2)
    let new := setBits old h 64 (maskMix (bits old h 64) v mask)
    ({ s with msix := s.msix.set k (BitVec.ofNat 128 new) } : State).flushVecs q
  else if b = 13 ∧ 0x1000 ≤ r ∧ r < 0x2000 ∧ r % 256 < 144 then
    let i := (r - 0x1000) / 256
    let f := s.pisteFault i
    if f ≠ 0 then s.log f
    else
      let old := s.piste i
      let o := 8 * (r % 256)
      s.setPisteBits i (setBits old o 64 (maskMix (bits old o 64) v mask))
  else s

/-- What a write to control space meets before it reaches its register: a fault that discards it, or 0 (R11, R44, R46, R52, R627). An offset
that no chapter lists discards without fault (R51), as does TILE_CORE_MAP, all of whose fields are RO, of a tile out of service (R12,
R25). -/
def State.csrFault (s : State) (off : Nat) (size : AccessSize) : Nat :=
  let b := off / 0x100000
  if 0x34 ≤ b then 0x0501
  else if b = 0xE ∨ b = 0xF then 0x0502
  else if !(csrListed (off / 8 * 8)) then 0
  else if (accessMask off size).isNone then 0x0A02
  else if off / 8 * 8 % 0x100000 = 0 ∧ 0x10 ≤ b ∧ !(s.blockInReset b) then 0
  else s.blockRefusal b

/-- A write to control space that no fault discards. -/
def State.csrPut (s : State) (ctl : Bool) (off : Nat) (size : AccessSize) (v : Nat) : State :=
  let m := (accessMask off size).getD 0
  let o := off / 8 * 8
  match regAt o with
  | some r => s.writeReg ctl r m (accessValue off v)
  | none => s.writeWindow (o / 0x100000) (o % 0x100000) m (accessValue off v)

/-- R48, R52: a write by the host or the management controller. -/
def State.csrWrite (s : State) (ctl : Bool) (off : Nat) (size : AccessSize) (v : Nat) : State :=
  let f := s.csrFault off size
  if f = 0 then s.csrPut ctl off size v
  else if ctl ∨ f < 0x0A00 then s.log f
  else s.logBar f

/-- The bytes of an access. -/
def sizeBytes : AccessSize → Nat
  | .one => 1
  | .two => 2
  | .four => 4
  | .eight => 8

/-- What a read of control space by the host or the management controller meets (R11, R44, R46): a fault for which it returns
all ones, or 0. A block in reset, of a tile out of service or without a licence is read without fault (R25, R52, R627). -/
def csrReadFault (off : Nat) (size : AccessSize) : Nat :=
  let b := off / 0x100000
  if 0x34 ≤ b then 0x0501
  else if b = 0xE ∨ b = 0xF then 0x0502
  else if csrListed (off / 8 * 8) && (accessMask off size).isNone then 0x0A02 else 0

/-- R11, R48, R52: a read of control space by the host, through BAR2, or by the management controller: the machine after it,
and the value it returns. Before stage 1 has completed a host read gives reset values (R503). A fault returns all ones and
is recorded in the HST fault log. The command table has no row that reads a register, so no command calls it (log entry
101). -/
def State.csrRead (s : State) (ctl : Bool) (off : Nat) (size : AccessSize) : State × Nat :=
  let f := csrReadFault off size
  if f ≠ 0 then ((if ctl ∨ f < 0x0A00 then s.log f else s.logBar f), 2 ^ (8 * sizeBytes size) - 1)
  else
    let o := off / 8 * 8
    (s, bits (if ctl ∨ s.boot.done1 then s.csrWord o else s.resetWord o) (8 * (off % 8)) (8 * sizeBytes size))

/-- R47, R560: the fault of a thread's write to control space that stops the thread, or 0. -/
def threadCsrFault (off : Nat) (size : AccessSize) : Nat :=
  let b := off / 0x100000
  if 0x34 ≤ b then 0x0501
  else if b = 0xE ∨ b = 0xF then 0x0502
  else if b = 0xD then (if off = (Reg.JOB_LOSS).addr ∨ (off = (Reg.JOB_LOSS).addr + 4 ∧ size = .four) then 0 else 0x0C0C)
  else if 0x10 ≤ b ∨ b = 0xB ∨ b = 0xC then 0 else 0x0503

/-- A thread's write that does not stop it: what else discards it is recorded (R11, R52). -/
def State.threadCsr (s : State) (off : Nat) (size : AccessSize) (v : Nat) : State :=
  let f := s.csrFault off size
  if f = 0 then s.csrPut false off size v else s.log f

/-- REGISTER_WRITE (R11 to R13, R47, R51, R52). A peer's access is refused where it arrives (R47), a thread's stops the thread. -/
def execRegisterWrite (agent : Agent) (off : BitVec 26) (size : AccessSize) (value : BitVec 64) (s : State) :
    Host.Outcome State Fault Refusal :=
  let o := off.toNat
  .next (match agent with
  | .host => s.hostWrite (fun s => s.csrWrite false o size value.toNat)
  | .controller => if s.fw.run = 0 then s else s.csrWrite true o size value.toNat
  | .thread t => s.behindGate t.code (fun s =>
      let f := threadCsrFault o size
      if f = 0 then s.threadCsr o size value.toNat else s.stopThread t.code (BitVec.ofNat 16 f) (s.regs t.code).pc)
  | .peer => s)

end Sys2Proof.Machine
end

