-- ==== Sys2Proof/Machine/Memory.lean ====
section
/-! DEFINITION. The loads, stores and atomics of a thread (R41 to R49, R72 to R74, R100 to R103, R484 to R489, R453). -/

namespace Sys2Proof.Machine

/-- R485: gB plus IMM10 times a size, modulo 2^64. -/
def memAddr (r : TRegs) (w : IWord) (scale : Nat) : Nat :=
  ((((r.getG w.b.toNat).toNat : Int) + w.simm * scale) % 2 ^ 64).toNat

/-- R471: the runs of enabled lanes of 4 bytes: first lane and number of lanes. -/
def laneRuns (g : BitVec 64) : List (Nat × Nat) :=
  (List.range 64).foldr (fun i acc =>
    if g.getLsbD i then
      (match acc with
       | (j, n) :: rest => if j = i + 1 then (i, n + 1) :: rest else (i, 1) :: (j, n) :: rest
       | [] => [(i, 1)])
    else acc) []

/-- The bytes of runs of lanes of an image. -/
def runBytes (a : Nat) (runs : List (Nat × Nat)) : List (Nat × Nat) := runs.map (fun r => (a + 4 * r.1, 4 * r.2))

/-- R103: do all bytes of some ranges of a device address lie in the thread's own scratchpad? -/
def State.ownScratch (s : State) (t dev : Nat) (l : List (Nat × Nat)) : Bool :=
  s.isSelf (devSplit dev).1 && l.all (fun r =>
    decide (scratchBase (tileOf t) (coreIdx (coreOf t)) ≤ r.1)
      && decide (r.1 + r.2 ≤ scratchBase (tileOf t) (coreIdx (coreOf t)) + 0x800000))

/-- R47, R473: the faults of the bytes of a thread's access, before and after it is known whose module they are in: a byte beyond
the 46 bits of a local address is in no range (0x0501). A peer's own faults come back with its answer (R48). -/
def State.rangesFault (s : State) (dev : Nat) (l : List (Nat × Nat)) : Nat :=
  if l.any (fun r => decide (2 ^ 46 < r.1 + r.2)) then 0x0501
  else if s.isSelf (devSplit dev).1 then l.foldl (fun f r => firstFault f (s.addrFault .thread r.1 r.2)) 0
  else 0

/-- R47: is a local address in a control and status block? -/
def csrOffset (a : Nat) : Option Nat := match regionOf a with | .csr off => some off | _ => none

/-- A thread's load has been issued. -/
def State.addLoad (s : State) (t : Nat) (l : Load) : State :=
  let x := s.thread t
  s.setThread t { x with loads := x.loads ++ [l] }

/-- R51: every 8-byte word that size bytes at an offset touch is one that no chapter lists. -/
def csrUnlisted (off size : Nat) : Bool :=
  (List.range ((off + size - 1) / 8 - off / 8 + 1)).all (fun i => !(csrListed ((off / 8 + i) * 8)))

/-- What a load brings of control space (R11, R51, R485): zero where no chapter lists any of it, whatever the width (DESIGN CHOICE, log entry
90); a register's 32 or 64 bits; or all ones for another width, with 0x0A02. -/
def State.csrLoad (s : State) (off size : Nat) (scalar : Bool) : State × Nat :=
  if csrUnlisted off size then (s, 0)
  else if !scalar ∨ size < 4 then (s.log 0x0A02, 2 ^ (8 * size) - 1)
  else if size = 8 then (s, s.csrWord off)
  else (s, bits (s.csrWord (off / 8 * 8)) (8 * (off % 8)) 32)

/-- The tag a load takes up from the lines it reads, none while it waits; a .GLIDE form joins their windows (R99, R101, R102,
R414). -/
def State.loadTag (s : State) (t : Nat) (glide : Bool) (ls : List Nat) : Option (BitVec 8) :=
  if !glide then s.readTag t ls
  else match s.glideReadTag t ls with
    | none => none
    | some tag =>
      if s.fencePend (tileOf t) ∧ (List.range 8).any (fun w => tag.getLsbD w && (SMap.find (s.thread t).ckpts w).isNone) then none
      else some tag

/-- A load of the bytes of some runs, its address aligned (R473, R484, R485): `size` is the whole operand, `skip` the lanes before the
first one; `r0` the registers just before the instruction, the checkpoint of the windows it joins (R99). -/
def State.loadRuns (s : State) (t dev : Nat) (runs : List (Nat × Nat)) (dest : Dest) (size skip : Nat) (sext glide : Bool)
    (tag : BitVec 8) (r0 : TRegs) : Eff :=
  let a := (devSplit dev).2
  let x := s.thread t
  let f := s.rangesFault dev runs
  if f ≠ 0 then .fault f s
  else if !(s.isSelf (devSplit dev).1) then
    let f := s.linkFault (devSplit dev).1 1
    if f ≠ 0 then .fault f s
    else
      let first := ((runs.head?).getD (a, 0)).1
      let last := ((runs.getLast?).getD (a, 0))
      let r := s.newTag (.thread t x.regs.pc x.owner)
      let s := r.2.addLoad t { dest := dest, size := size, sext := sext, value := 0, tag := tag, remote := some (BitVec.ofNat 32 r.1),
                               pc := x.regs.pc, ord := x.joined, skip := skip }
      .retire (s.sendPkt (devSplit dev).1 1 0x01 (loadReqBody first (last.1 + last.2 - first) r.1) (.request r.1))
  else match csrOffset a with
    | some off =>
      let r := s.csrLoad off size (match dest with | .scalar _ => true | _ => false)
      .retire (r.1.addLoad t { dest := dest, size := size, sext := sext, value := r.2, tag := tag, remote := none,
                               pc := x.regs.pc, ord := x.joined })
    | none =>
      if s.arrayOwes t runs ∨ s.anyHeld runs then .wait .waitData s
      else match s.loadTag t glide (rangeLines runs) with
        | none => .wait .waitData s
        | some mt =>
          if s.rangesPoisoned runs then .fault 0x0510 s
          else
            let v := s.readNat a size
            let s := if glide then s.joinTag t mt r0 else s
            let s := runs.foldl (fun s r => s.touch r.1 r.2) s
            .retire (s.addLoad t { dest := dest, size := size, sext := sext, value := v, tag := tag ||| mt, remote := none,
                                   pc := x.regs.pc, ord := (s.thread t).joined })

/-- LD and LD.GLIDE (R485). -/
def scalarLoad (t : Tid) (w : IWord) (glide : Bool) (s : State) : State :=
  let r0 := s.regs t.code
  s.issue t w
    { ok := ({ a := .g, b := .g, mods := 7, imm := true } : Form).ok w, reads := [gR w.b.toNat], writes := [gR w.a.toNat] }
    (fun s tag =>
      let n := 2 ^ w.ms 0 2
      let dev := memAddr (s.regs t.code) w n
      if dev % n ≠ 0 then .fault 0x0104 s
      else s.loadRuns t.code dev [((devSplit dev).2, n)] (.scalar w.a.toNat) n 0 (w.m 2) glide tag r0)

/-- VLD and VLD.GLIDE (R471, R485): only enabled lanes are loaded. -/
def vectorLoad (t : Tid) (w : IWord) (glide : Bool) (s : State) : State :=
  let r0 := s.regs t.code
  s.issue t w
    { ok := ({ a := .v, b := .g, imm := true } : Form).ok w, lane := true, reads := [gR w.b.toNat], writes := [vR w.a.toNat] }
    (fun s tag =>
      let r := s.regs t.code
      let dev := memAddr r w 256
      let runs := laneRuns (r.guard w)
      if dev % 8 ≠ 0 then .fault 0x0104 s
      else if runs = [] then .retire s
      else
        let far := !(s.isSelf (devSplit dev).1)
        s.loadRuns t.code dev (runBytes (devSplit dev).2 runs) (.vector w.a.toNat (r.guard w)) 256
          (if far then ((runs.head?).getD (0, 0)).1 else 0) false glide tag r0)

/-- LD (R485, R261). -/
def execLd (t : Tid) (w : IWord) (s : State) : Host.Outcome State Fault Refusal := .next (scalarLoad t w false s)

/-- LD.GLIDE (R102, R485). -/
def execLdGlide (t : Tid) (w : IWord) (s : State) : Host.Outcome State Fault Refusal := .next (scalarLoad t w true s)

/-- VLD (R485). -/
def execVld (t : Tid) (w : IWord) (s : State) : Host.Outcome State Fault Refusal := .next (vectorLoad t w false s)

/-- VLD.GLIDE (R102, R485). -/
def execVldGlide (t : Tid) (w : IWord) (s : State) : Host.Outcome State Fault Refusal := .next (vectorLoad t w true s)

/-- DSC.LD (R485): the 16-byte descriptor at an aligned address. -/
def execDscLd (t : Tid) (w : IWord) (s : State) : Host.Outcome State Fault Refusal :=
  .next (s.issue t w
    { ok := ({ a := .d, b := .g, imm := true } : Form).ok w, reads := [gR w.b.toNat], writes := [dR w.a.toNat] }
    (fun s tag =>
      let dev := memAddr (s.regs t.code) w 16
      if dev % 16 ≠ 0 then .fault 0x0104 s
      else s.loadRuns t.code dev [((devSplit dev).2, 16)] (.desc w.a.toNat) 16 0 false false tag (s.regs t.code)))

/-- The access size of a scalar width. -/
def widthOf (n : Nat) : AccessSize := if n = 4 then .four else if n = 8 then .eight else if n = 2 then .two else .one

/-- A store of bytes at ranges of a device address, its address aligned (R473, R478, R484, R485). `size` is the width a control block
sees, none when it is no scalar's. -/
def State.storeRuns (s : State) (t dev : Nat) (runs : List ((Nat × Nat) × List Byte)) (size : Option Nat) (tag : BitVec 8) : Eff :=
  let a := (devSplit dev).2
  let x := s.thread t
  let f := s.rangesFault dev (runs.map (·.1))
  if f ≠ 0 then .fault f s
  else if !(s.isSelf (devSplit dev).1) then
    let d := (devSplit dev).1
    let f := s.linkFault d 1
    if f ≠ 0 then .fault f s
    else .retire (runs.foldl (fun s r =>
      let q := s.newTag (.thread t x.regs.pc x.owner)
      q.2.sendPkt d 1 0x03 (storeBody r.1.1 q.1 r.2) (.store t x.regs.pc x.owner)) s)
  else match csrOffset a with
    | some off =>
      let sz := match size with | some n => widthOf n | none => .one
      let f := threadCsrFault off sz
      if f ≠ 0 then .fault f s
      else .retire (s.threadCsr off sz (leNat ((runs.head?.map (·.2)).getD [])))
    | none => s.access t [] (runs.map (·.1)) (fun s _ =>
        .retire (s.putTagged t (runs.flatMap (fun r => cellsFrom r.1.1 r.2)) tag))

/-- ST (R485): the low bytes of gA. -/
def execSt (t : Tid) (w : IWord) (s : State) : Host.Outcome State Fault Refusal :=
  let n := 2 ^ w.ms 0 2
  let dev := memAddr (s.regs t.code) w n
  .next (s.issue t w
    { ok := ({ a := .g, b := .g, mods := 3, imm := true } : Form).ok w, gate := !(s.ownScratch t.code dev [((devSplit dev).2, n)])
      reads := [gR w.a.toNat, gR w.b.toNat] }
    (fun s tag =>
      if dev % n ≠ 0 then .fault 0x0104 s
      else s.storeRuns t.code dev [(((devSplit dev).2, n), leBytes n ((s.regs t.code).getG w.a.toNat).toNat)] (some n) tag))

/-- VST (R485): the enabled lanes of vA. -/
def execVst (t : Tid) (w : IWord) (s : State) : Host.Outcome State Fault Refusal :=
  let r := s.regs t.code
  let dev := memAddr r w 256
  let runs := laneRuns (r.guard w)
  .next (s.issue t w
    { ok := ({ a := .v, b := .g, imm := true } : Form).ok w, lane := true
      gate := !(s.ownScratch t.code dev (runBytes (devSplit dev).2 runs)), reads := [vR w.a.toNat, gR w.b.toNat] }
    (fun s tag =>
      if dev % 8 ≠ 0 then .fault 0x0104 s
      else if runs = [] then .retire s
      else s.storeRuns t.code dev
        (runs.map (fun q => (((devSplit dev).2 + 4 * q.1, 4 * q.2), leBytes (4 * q.2) (bits (r.getV w.a.toNat).toNat (32 * q.1) (32 * q.2)))))
        none tag))

/-- R488: the body of an ATOMIC packet. -/
def atomicBody (a op sz : Nat) (ret : Bool) (tag x cmp : Nat) : List Byte :=
  leBytes 16 (a % 2 ^ 46 + op * 2 ^ 46 + sz * 2 ^ 50 + b2n ret * 2 ^ 53 + tag * 2 ^ 96)
    ++ leBytes (2 ^ sz) x ++ (if op = 9 then leBytes (2 ^ sz) cmp else [])

/-- R484, R486: the faults of an atomic's bytes at issue, or 0: a control block takes none (0x0503). -/
def State.atomFault (s : State) (dev : Nat) (l : List (Nat × Nat)) : Nat :=
  let f := s.rangesFault dev l
  if f ≠ 0 then f
  else if s.isSelf (devSplit dev).1 then (if (csrOffset (devSplit dev).2).isSome then 0x0503 else 0)
  else s.linkFault (devSplit dev).1 1

/-- R486: the operand form of an ATOM: D for CAS only, A unless .NR; the operation and size are ones it may carry. -/
def atomForm (w : IWord) : Bool :=
  ({ a := if w.m 6 then .none else .g, b := .g, c := .g, d := if w.ms 0 4 = 9 then .g else .none, mods := 0x7F } : Form).ok w
    && decide (w.ms 0 4 ≤ 9) && decide (2 ≤ w.ms 4 2)

/-- R429, R453: ATOM goes to a peer as an ATOMIC; one that returns the old value makes its destination outstanding. -/
def State.atomSend (s : State) (t : Nat) (w : IWord) (x : Thread) (dev v cmp : Nat) (tag : BitVec 8) : State :=
  let sz := w.ms 4 2
  let ret := !(w.m 6)
  let q := s.newTag (.thread t x.regs.pc x.owner)
  let body := atomicBody (devSplit dev).2 (w.ms 0 4) sz ret q.1 v cmp
  if ret then
    (q.2.addLoad t { dest := .scalar w.a.toNat, size := 2 ^ sz, sext := false, value := 0, tag := tag
                     remote := some (BitVec.ofNat 32 q.1), pc := x.regs.pc, ord := x.joined }).sendPkt
      (devSplit dev).1 1 0x04 body (.atomic t x.regs.pc x.owner q.1)
  else q.2.sendPkt (devSplit dev).1 1 0x04 body (.store t x.regs.pc x.owner)

/-- R429: ATOM acts here at once: the word at its address, its tag where the core's own, and the old value in Ga. -/
def State.atomHere (s : State) (t : Nat) (w : IWord) (a v cmp : Nat) (tag : BitVec 8) : State :=
  let sz := w.ms 4 2
  let n := 2 ^ sz
  let q := (s.touch a n).atomAt a (w.ms 0 4) sz v cmp
  let s := q.2.tagWritten t ((cellsFrom a (leBytes n 0)).filter (fun c => lineInCore (coreOf t) (lineOf c.1))) tag
  if w.m 6 then s else s.modRegs t (fun r => r.setG w.a.toNat (BitVec.ofNat 64 q.1) tag)

/-- ATOM (R81, R484, R486, R488). -/
def execAtom (t : Tid) (w : IWord) (s : State) : Host.Outcome State Fault Refusal :=
  let op := w.ms 0 4
  let sz := w.ms 4 2
  let n := 2 ^ sz
  let ret := !(w.m 6)
  let dev := ((s.regs t.code).getG w.b.toNat).toNat
  let a := (devSplit dev).2
  .next (s.issue t w
    { ok := atomForm w, gate := !(s.ownScratch t.code dev [(a, n)])
      reads := [gR w.b.toNat, gR w.c.toNat] ++ (if op = 9 then [gR w.d.toNat] else [])
      writes := if ret then [gR w.a.toNat] else [] }
    (fun s tag =>
      let x := s.thread t.code
      let v := (x.regs.getG w.c.toNat).toNat
      let cmp := if op = 9 then (x.regs.getG w.d.toNat).toNat else 0
      if dev % n ≠ 0 then .fault 0x0104 s
      else
        let f := s.atomFault dev [(a, n)]
        if f ≠ 0 then .fault f s
        else if !(s.isSelf (devSplit dev).1) then
          .retire (s.atomSend t.code w x dev v cmp tag)
        else s.access t.code [(a, n)] [(a, n)] (fun s mt => .retire (s.atomHere t.code w a v cmp (tag ||| mt)))))

/-- R429, R430: the quanta of ATOM.ADD.BFX go to a peer, one ATOMIC per enabled lane. -/
def State.bfxSend (s : State) (th dst : Nat) (x : Thread) (qs : List (Nat × Nat × Bool)) : State :=
  let s := s.flagFld Fd.REL_STAT_ATOM_OVF (qs.any (fun q => q.2.2))
  qs.foldl (fun s q =>
    let k := s.newTag (.thread th x.regs.pc x.owner)
    k.2.sendPkt dst 1 0x04 (atomicBody q.1 10 3 false k.1 q.2.1 0) (.store th x.regs.pc x.owner)) s

/-- R429, R430: one quantum is added at an address; the bytes of the thread's own core take the tag. -/
def bfxLane (th : Nat) (tag : BitVec 8) (s : State) (q : Nat × Nat × Bool) : State :=
  let k := (s.touch q.1 8).atomAt q.1 10 3 q.2.1 0
  k.2.tagWritten th ((cellsFrom q.1 (leBytes 8 0)).filter (fun c => lineInCore (coreOf th) (lineOf c.1))) tag

/-- R429, R430: the quanta of ATOM.ADD.BFX are added here, lane by lane. -/
def State.bfxAdd (s : State) (th : Nat) (qs : List (Nat × Nat × Bool)) (tag : BitVec 8) : State :=
  qs.foldl (bfxLane th tag) (s.flagFld Fd.REL_STAT_ATOM_OVF (qs.any (fun q => q.2.2)))

/-- ATOM.ADD.BFX (R429, R430, R453, R487): one atomic for each enabled lane. -/
def execAtomAddBfx (t : Tid) (w : IWord) (s : State) : Host.Outcome State Fault Refusal :=
  let r := s.regs t.code
  let dev := (r.getG w.a.toNat).toNat
  let a := (devSplit dev).2
  let lanes := (List.range 64).filter (fun i => (r.guard w).getLsbD i)
  let words := lanes.map (fun i => (a + 8 * i, 8))
  .next (s.issue t w
    { ok := ({ a := .g, b := .v, c := .g } : Form).ok w, lane := true, gate := !(s.ownScratch t.code dev words)
      reads := [gR w.a.toNat, vR w.b.toNat, gR w.c.toNat] }
    (fun s tag =>
      let x := s.thread t.code
      let e := signed 8 (r.getG w.c.toNat).toNat
      let qs := lanes.map (fun i => (a + 8 * i, relQuant e (lane (r.getV w.b.toNat) i)))
      if dev % 512 ≠ 0 then .fault 0x0104 s
      else if lanes = [] then .retire s
      else
        let f := s.atomFault dev words
        if f ≠ 0 then .fault f s
        else if !(s.isSelf (devSplit dev).1) then
          .retire (s.bfxSend t.code (devSplit dev).1 x qs)
        else s.access t.code words words (fun s mt => .retire (s.bfxAdd t.code qs (tag ||| mt)))))

end Sys2Proof.Machine
end

