-- ==== Sys2Proof/Machine/Packets.lean ====
section
/-! DEFINITION. Packets as they arrive, one command for each type (R318, R447, R638), the timers of flows (R323 to R325), and
a lap sequencer's turn (R402 to R405). -/

namespace Sys2Proof.Machine

/-- LOAD_REQ (R318, R322). -/
def execLoadReq (p : Port) (k : Packet) (s : State) : Host.Outcome State Fault Refusal := .next (s.arrive p.val 0x01 k)
/-- LOAD_RESP (R318, R316). -/
def execLoadResp (p : Port) (k : Packet) (s : State) : Host.Outcome State Fault Refusal := .next (s.arrive p.val 0x02 k)
/-- STORE (R318, R319). -/
def execStore (p : Port) (k : Packet) (s : State) : Host.Outcome State Fault Refusal := .next (s.arrive p.val 0x03 k)
/-- ATOMIC (R488, R81). -/
def execAtomic (p : Port) (k : Packet) (s : State) : Host.Outcome State Fault Refusal := .next (s.arrive p.val 0x04 k)
/-- ATOMIC_RESP (R318, R316). -/
def execAtomicResp (p : Port) (k : Packet) (s : State) : Host.Outcome State Fault Refusal := .next (s.arrive p.val 0x05 k)
/-- STATUS (R318, R316). -/
def execStatus (p : Port) (k : Packet) (s : State) : Host.Outcome State Fault Refusal := .next (s.arrive p.val 0x06 k)
/-- ACK (R321, R323). -/
def execAck (p : Port) (k : Packet) (s : State) : Host.Outcome State Fault Refusal := .next (s.arrive p.val 0x08 k)
/-- NACK (R325). -/
def execNack (p : Port) (k : Packet) (s : State) : Host.Outcome State Fault Refusal := .next (s.arrive p.val 0x09 k)
/-- CLOSE (R318, R324). -/
def execClose (p : Port) (k : Packet) (s : State) : Host.Outcome State Fault Refusal := .next (s.arrive p.val 0x0A k)
/-- NOTICE (R334). -/
def execNotice (p : Port) (k : Packet) (s : State) : Host.Outcome State Fault Refusal := .next (s.arrive p.val 0x11 k)
/-- BULK (R319). -/
def execBulk (p : Port) (k : Packet) (s : State) : Host.Outcome State Fault Refusal := .next (s.arrive p.val 0x28 k)
/-- LAP (R389 to R397). -/
def execLap (p : Port) (k : Packet) (s : State) : Host.Outcome State Fault Refusal := .next (s.arrive p.val 0x18 k)

/-- R638: a MGMT packet of one MTYPE arrives. -/
def State.mgmtRow (s : State) (p mtype : Nat) (k : Packet) : State := if numAt k.body 0 1 = mtype then s.arrive p 0x10 k else s

/-- LAPGEO (R391, R638). -/
def execLapgeo (p : Port) (k : Packet) (s : State) : Host.Outcome State Fault Refusal := .next (s.mgmtRow p.val 1 k)
/-- FWCHUNK (R638 to R640). -/
def execFwchunk (p : Port) (k : Packet) (s : State) : Host.Outcome State Fault Refusal := .next (s.mgmtRow p.val 2 k)
/-- FWSTATUS (R638, R640). -/
def execFwstatus (p : Port) (k : Packet) (s : State) : Host.Outcome State Fault Refusal := .next (s.mgmtRow p.val 3 k)

/-- R447: the header of the batch that a relay packet belongs to: its own body, or the header its flow is inside of. -/
def State.batchHdr (s : State) (k : Packet) : List Byte :=
  match SMap.find s.recvs (k.src.toNat * 16 + k.vc.toNat) with
  | some rf => if rf.epoch = k.epoch ∧ rf.hdr ≠ [] then rf.hdr else k.body
  | none => k.body

/-- R447: a RELAY packet of a batch of one KIND arrives, or passes through. -/
def State.relayRow (s : State) (p kind : Nat) (k : Packet) : State :=
  if k.dst.toNat = s.moduleId ∧ (RelHdr.dec (s.batchHdr k)).kind ≠ kind then s else s.arrive p 0x20 k

/-- CONTRIB (R447, R450). -/
def execContrib (p : Port) (k : Packet) (s : State) : Host.Outcome State Fault Refusal := .next (s.relayRow p.val 0 k)
/-- PARTIAL (R443, R447). -/
def execPartialSum (p : Port) (k : Packet) (s : State) : Host.Outcome State Fault Refusal := .next (s.relayRow p.val 1 k)
/-- RESULT (R445, R447). -/
def execResult (p : Port) (k : Packet) (s : State) : Host.Outcome State Fault Refusal := .next (s.relayRow p.val 2 k)
/-- EXPTAB (R445, R447). -/
def execExptab (p : Port) (k : Packet) (s : State) : Host.Outcome State Fault Refusal := .next (s.relayRow p.val 3 k)
/-- PREPASS (R433, R447). -/
def execPrepass (p : Port) (k : Packet) (s : State) : Host.Outcome State Fault Refusal := .next (s.relayRow p.val 4 k)
/-- NORM (R447, R456). -/
def execNorm (p : Port) (k : Packet) (s : State) : Host.Outcome State Fault Refusal := .next (s.relayRow p.val 5 k)
/-- NORMRES (R447, R457). -/
def execNormres (p : Port) (k : Packet) (s : State) : Host.Outcome State Fault Refusal := .next (s.relayRow p.val 6 k)

/-! Timers -/

/-- ACK_TIMER_EXPIRY (R323): 2 µs after the first acceptance that is not yet acknowledged. -/
def execAckTimerExpiry (src : ModId) (vc : BitVec 4) (s : State) : Host.Outcome State Fault Refusal :=
  .next (match SMap.find s.recvs (src.toNat * 16 + vc.toNat) with
  | none => s
  | some rf => if rf.since = 0 then s else s.sendAck src.toNat vc.toNat rf)

/-- E2E_RESEND_TIMEOUT (R325). -/
def execE2eResendTimeout (dst : ModId) (vc : BitVec 4) (s : State) : Host.Outcome State Fault Refusal :=
  .next (s.endWait dst.toNat vc.toNat)

/-- FLOW_FAIL (R325): LIMIT_MS without progress. -/
def execFlowFail (dst : ModId) (vc : BitVec 4) (s : State) : Host.Outcome State Fault Refusal :=
  .next (match SMap.find s.sends (dst.toNat * 16 + vc.toNat) with
  | none => s
  | some f => if f.reopen ∨ f.unacked = [] then s else s.failFlow dst.toNat vc.toNat 0x0603)

/-- FLOW_REOPEN_WAIT_END (R324). -/
def execFlowReopenWaitEnd (dst : ModId) (vc : BitVec 4) (s : State) : Host.Outcome State Fault Refusal :=
  .next (s.reopenFlow dst.toNat vc.toNat)

/-- IDLE_FLOW_CLOSE (R324, R390): 10 ms with nothing unacknowledged. A lap flow closes only at a lap boundary. -/
def execIdleFlowClose (dst : ModId) (vc : BitVec 4) (s : State) : Host.Outcome State Fault Refusal :=
  let d := dst.toNat
  let v := vc.toNat
  .next (match SMap.find s.sends (d * 16 + v) with
  | none => s
  | some f =>
    if f.reopen ∨ f.closing ∨ f.unacked ≠ [] ∨ f.waiting ≠ [] ∨ ((v = 2 ∨ v = 3) ∧ (s.lap (v - 2)).cur ≠ 0) then s
    else
      s.sendPkt d v 0x0A [] .none true)

/-- RECV_ENTRY_EXPIRY (R324): nothing accepted for twice LIMIT_MS. An incomplete lap of the entry is discarded with it. -/
def execRecvEntryExpiry (src : ModId) (vc : BitVec 4) (s : State) : Host.Outcome State Fault Refusal :=
  let key := src.toNat * 16 + vc.toNat
  .next (match SMap.find s.recvs key with
  | none => s
  | some rf =>
    let s := s.dropLapEntry vc.toNat rf
    { s with recvs := SMap.erase s.recvs key })

/-- FW_IMAGE_TIMEOUT (R640): 10 s without a chunk of an image that has not completed. -/
def execFwImageTimeout (src : ModId) (s : State) : Host.Outcome State Fault Refusal :=
  .next { s with fw := { s.fw with imgs := SMap.erase s.fw.imgs src.toNat } }

/-! The lap sequencer -/

/-- R405: a slice cannot be sent: it completes with the fault, the rest of its lap is not sent, and the flow fails; on a ring of one the
part of the lap that landed here is discarded (R400). -/
def State.lapStop (s : State) (i : Nat) (q : LapSend) (next : Option Nat) (fault : Nat) : State :=
  let s := s.lapSendEnd i q fault
  let s := s.setLap i { s.lap i with cur := q.slice + 1 }
  let s := match next with
    | some d =>
      if d = s.moduleId then
        (let s := s.lapReplaced i (s.lap i).loop
         s.setLap i { s.lap i with loop := 0 })
      else s.failFlow d (2 + i) 0x0603
    | none => s
  s.lapGiveUp i 0x0603

/-- R260: a range in pieces that lie in one 256-byte span each. -/
def spanPieces (a n : Nat) : List (Nat × Nat) :=
  (List.range ((a % 256 + n + 255) / 256)).map (fun k =>
    let lo := max a ((a / 256 + k) * 256)
    (lo, min (a + n) ((a / 256 + k + 1) * 256) - lo))

/-- R260: ask peers for the bytes of a slice that lie with them, a transaction for each span. -/
def State.lapAsk (s : State) (i : Nat) (q : LapSend) : State :=
  let asks := (q.srcs.filter (fun r => !(s.here r.1))).flatMap (fun r => spanPieces r.1 r.2)
  let s := s.alterSend i q.id (fun q => { q with asked := true, reads := asks.length })
  asks.foldl (fun s r =>
    let t := s.newTag (.lap i q.id r.1)
    t.2.sendPkt (devSplit r.1).1 1 0x01 (loadReqBody (devSplit r.1).2 r.2 t.1) (.request t.1)) s

/-- R389: the packets of a slice. -/
def pagesOf (bs : List Byte) (n : Nat) : List (List Byte) := (List.range n).map (fun k => (bs.drop (4096 * k)).take 4096)

/-- R384: with one member, a slice is delivered to this module itself, packet by packet. -/
def State.lapLoop (s : State) (i : Nat) (bs : List Byte) : State :=
  (pagesOf bs (s.lapPages i)).foldl (fun s b =>
    match s.lapTarget i s.moduleId (s.lap i).loop with
    | none => s
    | some (p, off) =>
      let s := s.lapAccept i p off b
      s.setLap i { s.lap i with loop := (s.lap i).loop + 1 }) s

/-- A slice leaves: its bytes are read, and its packets go to NEXT. -/
def State.lapLeave (s : State) (i : Nat) (q : LapSend) (next : Nat) : State :=
  let s := q.srcs.foldl (fun s r => if s.here r.1 then s.touch (devSplit r.1).2 r.2 else s) s
  let bs := s.lapBytes q
  let s := s.setLap i { s.lap i with cur := (q.slice + 1) % s.lapSlices i, next := next }
  let s := s.alterSend i q.id (fun q => { q with sent := true })
  if next = s.moduleId then (s.lapLoop i bs).lapSent i q.id
  else (pagesOf bs (s.lapPages i)).foldl (fun s b => s.sendPkt next (2 + i) 0x18 b (.lap i q.id)) s

/-- R563: NEXT is read from the ring as a lap begins, and kept for its other slices. -/
def State.lapNext (s : State) (i : Nat) : Option Nat :=
  if (s.lap i).cur = 0 then (s.lapRing i).map (·.next) else some (s.lap i).next

/-- LAP_SLICE_SEND (R328, R402 to R405): a sequencer's next slice is read, or leaves once nothing holds it back. NEXT is settled as
the lap begins (R563); one that cannot be reached stops the slice. -/
def execLapSliceSend (i : Fin 2) (s : State) : Host.Outcome State Fault Refusal :=
  let v := i.val
  let x := s.lap v
  match x.sends.find? (fun q => !q.sent && q.slice = x.cur) with
  | none => .next s
  | some q =>
    let next := s.lapNext v
    if !s.computeUp then .next s
    else if q.fault ≠ 0 then .next (s.lapStop v q next q.fault)
    else if s.lapPoisoned q then .next (s.lapStop v q next 0x0511)
    else match next with
      | none => .next (s.lapStop v q none 0x0602)
      | some d =>
        let f := if d = s.moduleId then 0 else s.linkFault d (2 + v)
        if f ≠ 0 then .next (s.lapStop v q next f)
        else if !(s.lapSettled q) then .next s
        else if !q.asked ∧ q.srcs.any (fun r => !(s.here r.1)) then .next (s.lapAsk v q)
        else if q.reads ≠ 0 ∨ !(s.engineRoom (tileOf q.t) (s.sliceBytes v / 256)) then .next s
        else if d = s.moduleId ∧ (s.lapTarget v s.moduleId x.loop).isNone then .next s
        else .next (s.lapLeave v q d)

end Sys2Proof.Machine
end

