-- ==== Sys2Proof/Machine/Rows.lean ====
section
/-! DEFINITION. The row statistics (R250 to R254), distance bias and masks (R407 to R410, R413) and key conversion (R415 to
R417). -/

namespace Sys2Proof.Machine

/-- The FP32 code of an element of a score or input region (R252: widened exactly). -/
def State.elem32 (s : State) (tile : Nat) (d : Desc) (i j : Nat) : Nat :=
  (fp32.enc false (decFmt d.fmt 0 (s.elem tile d i j))).code

/-- R250, R254: lanes below n take new values; the others keep their bits. -/
def vBelow (old : BitVec 2048) (n : Nat) (f : Nat → Nat) : BitVec 2048 :=
  vMake 32 64 (fun i => if i < n then f i else lane old i)

/-- R252: an input region: FP32, BF16 or FP16 without block scales. -/
def Desc.rowInput (d : Desc) : Bool := decide (d.fmt ≤ 2) && !d.scaleEn

/-- Both counts are non-zero. -/
def Desc.some (d : Desc) : Bool := d.rows ≠ 0 && d.cols ≠ 0

/-- ROW.MAX (R251, R254). With R = 0 no lane changes; the operands' tags still join the register's, as in ROW.RESCALE and
ROW.RMS.FIN (DESIGN CHOICE, log entry 100). -/
def execRowMax (t : Tid) (w : IWord) (s : State) : Host.Outcome State Fault Refusal :=
  .next (s.issue t w
    { ok := ({ a := .v, b := .v, c := .d } : Form).ok w
      reads := [vR w.b.toNat, dR w.c.toNat], writes := [vR w.a.toNat] }
    (fun s tag =>
      let c := coreOf t.code
      let d := Desc.dec ((s.regs t.code).getD' w.c.toNat)
      let df := d.fault (coreIdx c) false false
      if df ≠ 0 then .fault df s
      else if !d.rowInput then .fault 0x0401 s
      else if 64 < d.rows then .fault 0x0402 s
      else s.access t.code (d.rowRanges t.tile.val) [] (fun s mt =>
        .retire (s.modRegs t.code (fun r =>
          let x (i : Nat) : Nat := (List.range d.cols).foldl (fun m j => max2 m (s.elem32 t.tile.val d i j)) (lane (r.getV w.b.toNat) i)
          r.setV w.a.toNat (vBelow (r.getV w.a.toNat) d.rows x)
            (tag ||| mt ||| (if d.rows < 64 then r.tag (vR w.a.toNat) else 0)))))))

/-- R252: the formats of tP. -/
def Desc.rowProb (d : Desc) : Bool := decide (d.fmt ≤ 4) && (!d.scaleEn || decide (3 ≤ d.fmt))

/-- R253: two regions share a byte, beyond the exact coincidence that is allowed. -/
def rowsClash (tile : Nat) (a b : Desc) : Bool :=
  let same := a.base = b.base && a.stride = b.stride && a.w = b.w
  let sc := if b.scaleEn then [(tileBase tile + b.scale, b.scaleBytes false)] else []
  (!same && rangesCross (a.rowRanges tile) (b.rowRanges tile)) || rangesCross sc (a.rowRanges tile ++ b.rowRanges tile)

/-- R251: e[j] of a score under a row's maximum. -/
def State.prob (s : State) (vm x : Nat) : Nat := if vm = 0xFF800000 then 0 else s.sfExp2 fp32 (f32sub x vm)

/-- ROW.SUMEXP (R251 to R254). -/
def execRowSumexp (t : Tid) (w : IWord) (s : State) : Host.Outcome State Fault Refusal :=
  .next (s.issue t w
    { ok := ({ a := .v, b := .v, c := .d, d := .d, mods := 1 } : Form).ok w
      gate := (Desc.dec ((s.regs t.code).getD' w.d.toNat)).inVat
      reads := [vR w.b.toNat, dR w.c.toNat, dR w.d.toNat], writes := [vR w.a.toNat] }
    (fun s tag =>
      let c := coreOf t.code
      let tile := t.tile.val
      let r := s.regs t.code
      let d := Desc.dec (r.getD' w.c.toNat)
      let p := Desc.dec (r.getD' w.d.toNat)
      let df := descFaults [d.fault (coreIdx c) false false, p.fault (coreIdx c) true false]
      if df ≠ 0 then .fault df s
      else if !d.rowInput || !p.rowProb then .fault 0x0401 s
      else if 64 < d.rows ∨ p.rows ≠ d.rows ∨ p.cols ≠ d.cols ∨ (d.some ∧ rowsClash tile d p) then .fault 0x0402 s
      else if !d.some then .retire s
      else s.access t.code (d.rowRanges tile) (p.readRanges tile false) (fun s mt =>
        let tag := tag ||| mt ||| r.tag (vR w.a.toNat)
        let row (i : Nat) : List Nat := (List.range d.cols).map (fun j => s.prob (lane (r.getV w.b.toNat) i) (s.elem32 tile d i j))
        let rows := (List.range d.rows).map row
        let sum (i : Nat) : Nat := (blocks32 (rows.getD i [])).foldl (fun a b => f32add a (groupSum (b.map fp32.dec)))
          (lane (r.getV w.a.toNat) i)
        let conv (l : List Nat) : List Nat × List Conv :=
          if p.scaleEn then
            let bs := (blocks32 l).map (fun b => blockComputed p.fmt (b.map fp32.dec))
            (bs.map (·.1), bs.flatMap (·.2))
          else ([], l.map (fun x => encFmt p.fmt (w.m 0) 0 (fp32.dec x)))
        let cs := rows.map conv
        let cells := cs.zipIdx.flatMap (fun x => s.regionRow tile p x.2 x.1.1 (x.1.2.map (·.code)))
        let s := (s.putTagged t.code cells tag).convFlags c (cs.flatMap (·.2))
        .retire (s.modRegs t.code (fun r => r.setV w.a.toNat (vBelow (r.getV w.a.toNat) d.rows sum) tag)))))

/-- R251: the factor by which a rising maximum rescales. -/
def State.factor (s : State) (old new : Nat) : Nat := if old = new then 0x3F800000 else s.sfExp2 fp32 (f32sub old new)

/-- R492: the row count of a register form: 0x0402 above 64. -/
def rowImm (w : IWord) : Nat := w.imm.toNat

/-- ROW.RESCALE (R251, R254): the register form. -/
def execRowRescale (t : Tid) (w : IWord) (s : State) : Host.Outcome State Fault Refusal :=
  .next (s.issue t w
    { ok := ({ a := .v, b := .v, c := .v, imm := true } : Form).ok w && decide (0 ≤ w.simm)
      reads := [vR w.b.toNat, vR w.c.toNat], writes := [vR w.a.toNat] }
    (fun s tag =>
      if 64 < rowImm w then .fault 0x0402 s
      else .retire (s.modRegs t.code (fun r =>
        let f (i : Nat) : Nat := s.factor (lane (r.getV w.b.toNat) i) (lane (r.getV w.c.toNat) i)
        r.setV w.a.toNat (vBelow (r.getV w.a.toNat) (rowImm w) (fun i => f32mul (lane (r.getV w.a.toNat) i) (f i)))
          (tag ||| r.tag (vR w.a.toNat))))))

/-- ROW.RESCALE.T (R251, R253): tO is rescaled in place. -/
def execRowRescaleT (t : Tid) (w : IWord) (s : State) : Host.Outcome State Fault Refusal :=
  .next (s.issue t w
    { ok := ({ a := .d, b := .v, c := .v } : Form).ok w
      gate := (Desc.dec ((s.regs t.code).getD' w.a.toNat)).inVat
      reads := [dR w.a.toNat, vR w.b.toNat, vR w.c.toNat] }
    (fun s tag =>
      let tile := t.tile.val
      let r := s.regs t.code
      let d := Desc.dec (r.getD' w.a.toNat)
      let df := d.fault t.core.val true false
      if df ≠ 0 then .fault df s
      else if d.fmt ≠ 0 ∨ d.scaleEn then .fault 0x0401 s
      else if 64 < d.rows then .fault 0x0402 s
      else if !d.some then .retire s
      else s.access t.code (d.rowRanges tile) (d.rowRanges tile) (fun s mt =>
        let f (i : Nat) : Nat := s.factor (lane (r.getV w.b.toNat) i) (lane (r.getV w.c.toNat) i)
        let cells := (List.range d.rows).flatMap (fun i =>
          s.regionRow tile d i [] ((List.range d.cols).map (fun j => f32mul (s.elem tile d i j) (f i))))
        .retire (s.putTagged t.code cells (tag ||| mt)))))

/-- ROW.RMS.PART (R251, R254). -/
def execRowRmsPart (t : Tid) (w : IWord) (s : State) : Host.Outcome State Fault Refusal :=
  .next (s.issue t w
    { ok := ({ a := .v, b := .d } : Form).ok w, reads := [dR w.b.toNat], writes := [vR w.a.toNat] }
    (fun s tag =>
      let d := Desc.dec ((s.regs t.code).getD' w.b.toNat)
      let df := d.fault t.core.val false false
      if df ≠ 0 then .fault df s
      else if !d.rowInput then .fault 0x0401 s
      else if 64 < d.rows then .fault 0x0402 s
      else if !d.some then .retire s
      else s.access t.code (d.rowRanges t.tile.val) [] (fun s mt =>
        .retire (s.modRegs t.code (fun r =>
          let xs (i : Nat) : List Num := (List.range d.cols).map (fun j =>
            let x := fp32.dec (s.elem32 t.tile.val d i j)
            prodNum x x)
          let sum (i : Nat) : Nat := (blocks32 (xs i)).foldl (fun a b => f32add a (groupSum b)) (lane (r.getV w.a.toNat) i)
          r.setV w.a.toNat (vBelow (r.getV w.a.toNat) d.rows sum) (tag ||| mt ||| r.tag (vR w.a.toNat)))))))

/-- R251: a code divided by a positive integer, rounded once. -/
def f32divN (c n : Nat) : Nat :=
  match fp32.dec c with
  | .nan sg fr => fp32.nanCode sg fr
  | .inf _ => c
  | .fin neg m e => if m = 0 then c else (fp32.enc false ((quot ⟨if neg then -(m : Int) else m, e⟩ ⟨n, 0⟩).num neg)).code

/-- ROW.RMS.FIN (R251, R254). -/
def execRowRmsFin (t : Tid) (w : IWord) (s : State) : Host.Outcome State Fault Refusal :=
  .next (s.issue t w
    { ok := ({ a := .v, b := .v, c := .g, d := .g, imm := true } : Form).ok w && decide (0 ≤ w.simm)
      reads := [vR w.b.toNat, gR w.c.toNat, gR w.d.toNat], writes := [vR w.a.toNat] }
    (fun s tag =>
      let r := s.regs t.code
      let n := (r.getG w.c.toNat).toNat % 2 ^ 32
      let ge := (r.getG w.d.toNat).toNat % 2 ^ 32
      let e := fp32.dec ge
      if 64 < rowImm w then .fault 0x0402 s
      else if n = 0 ∨ !e.isFin ∨ (e.neg ∧ e.dy.m ≠ 0) then .fault 0x0403 s
      else .retire (s.modRegs t.code (fun r =>
        r.setV w.a.toNat (vBelow (r.getV w.a.toNat) (rowImm w) (fun i =>
            sfRsqrt fp32 (f32add (f32divN (lane (r.getV w.b.toNat) i) n) ge)))
          (tag ||| (if rowImm w < 64 then r.tag (vR w.a.toNat) else 0))))))

/-! Distance bias and masks -/

/-- R407: the bucket of a distance not below zero. -/
def biasBucket (d : Nat) : Nat :=
  if d < 32 then d else let e := Nat.log2 d; 32 + 4 * (e - 5) + d / 2 ^ (e - 2) % 4

/-- R407: the index of a signed distance. -/
def biasIndex (d : Int) : Nat := if 0 ≤ d then biasBucket d.toNat else 128 + biasBucket (-d).toNat

/-- R410: a segment array of n IDs at a tile offset: aligned, within the vat or the core's scratchpad. -/
def segOk (c off n : Nat) : Bool := off % 4 = 0 && inVatOrOwn c off (4 * n)

/-- ATT.BIAS (R407 to R410, R413). A segment array's tile offset with bits [63:28] set raises 0x0104 (R474), before the arrays are tested
(DESIGN CHOICE, log entry 100: the Faults column does not list it). -/
def execAttBias (t : Tid) (w : IWord) (s : State) : Host.Outcome State Fault Refusal :=
  let form : Form := { a := .d, b := .g, c := .g, d := .g, mods := 3, x := if w.m 1 then .fields [0, 1] else .never }
  .next (s.issue t w
    { ok := form.ok w, head := form.head w
      gate := (Desc.dec ((s.regs t.code).getD' w.a.toNat)).inVat
      reads := [dR w.a.toNat, gR w.b.toNat, gR w.c.toNat, gR w.d.toNat] ++ (if w.m 1 then [gR (w.f 0), gR (w.f 1)] else []) }
    (fun s tag =>
      let tile := t.tile.val
      let r := s.regs t.code
      let d := Desc.dec (r.getD' w.a.toNat)
      let gq := (r.getG w.b.toNat).toNat
      let gk := (r.getG w.c.toNat).toNat
      let h := (r.getG w.d.toNat).toNat
      let sq := (r.getG (w.f 0)).toNat
      let sk := (r.getG (w.f 1)).toNat
      let df := d.fault t.core.val true false
      if df ≠ 0 then .fault df s
      else if 63 < h ∨ d.fmt ≠ 0 then .fault 0x0802 s
      else if !d.some then .retire s
      else if 2 ^ 24 ≤ gq + d.rows - 1 ∨ 2 ^ 24 ≤ gk + d.cols - 1 then .fault 0x0802 s
      else if w.m 1 ∧ (2 ^ 28 ≤ sq ∨ 2 ^ 28 ≤ sk) then .fault 0x0104 s
      else if w.m 1 ∧ !(segOk t.core.val sq d.rows && segOk t.core.val sk d.cols) then .fault 0x0802 s
      else
        let segs := if w.m 1 then [(tileBase tile + sq, 4 * d.rows), (tileBase tile + sk, 4 * d.cols)] else []
        s.access t.code (d.rowRanges tile ++ segs) (d.rowRanges tile) (fun s mt =>
          let tbl := (s.tile tile).front
          let masked (i j : Nat) : Bool :=
            (w.m 0 && decide (gq + i < gk + j))
              || (w.m 1 && s.readNat (tileBase tile + sq + 4 * i) 4 ≠ s.readNat (tileBase tile + sk + 4 * j) 4)
          let bias (i j : Nat) : Nat :=
            (fp32.enc false (decFmt 2 0 (tbl.getD (h * 256 + biasIndex ((gq + i : Nat) - (gk + j : Nat))) 0))).code
          let cells := (List.range d.rows).flatMap (fun i =>
            s.regionRow tile { d with scaleEn := false } i [] ((List.range d.cols).map (fun j =>
              if masked i j then 0xFF800000 else f32add (s.elem tile d i j) (bias i j))))
          .retire (s.putTagged t.code cells (tag ||| mt)))))

/-! Key conversion -/

/-- R415: the pairs that widen. -/
def kcvtWidens (sf df : Nat) : Bool :=
  ([3, 4, 6, 7].contains sf && decide (df ≤ 2)) || ((sf = 1 || sf = 2) && df = 0)

/-- R415 to R418: the shapes, formats or scales of a conversion are not allowed: 0x0805. -/
def kcvtBad (d k : Desc) : Bool :=
  decide (8 ≤ d.fmt) || decide (8 ≤ k.fmt) || d.rows ≠ k.rows || d.cols ≠ k.cols
    || (if d.fmt = k.fmt then d.scaleEn != k.scaleEn
        else (k.scaleEn && decide (k.fmt ≤ 2)) || (d.scaleEn && decide (d.fmt ≤ 2)))

/-- R416: the value is exactly representable in the format; NaNs and infinities carry over. -/
def exactIn (fmt : Nat) (x : Num) : Bool :=
  let c := encFmt fmt false 0 x
  !x.isFin || (!c.ovf && ((decFmt fmt 0 c.code).dy.add x.dy.neg).m = 0)

/-- R416, R417: the scale and element codes of a row of tK in the format of tD, or none where a widening is not exact. -/
def State.kcvtRow (s : State) (tile : Nat) (d k : Desc) (satm : Bool) (i : Nat) : Option (List Nat × List Conv) :=
  let codes := (List.range k.cols).map (s.elem tile k i)
  let scs := (List.range ((k.cols + 31) / 32)).map (fun b => s.scaleOf tile k false i (32 * b))
  if d.fmt = k.fmt then some (scs, codes.map (fun c => { code := c }))
  else
    let vs := codes.zipIdx.map (fun x => scaled (scs.getD (x.2 / 32) 0x7F) (decFmt k.fmt 0 x.1))
    if kcvtWidens k.fmt d.fmt then
      if vs.all (exactIn d.fmt) then some ([], vs.map (encFmt d.fmt false 0)) else none
    else if d.scaleEn then
      let bs := (blocks32 vs).map (blockComputed d.fmt)
      some (bs.map (·.1), bs.flatMap (·.2))
    else some ([], vs.map (encFmt d.fmt satm 0))

/-- R416: the rows in ascending order, until one is not exact. -/
def State.kcvtRows (s : State) (t tile core : Nat) (d k : Desc) (satm : Bool) (tag : BitVec 8) : List Nat → State × Bool
  | [] => (s, true)
  | i :: is =>
    match s.kcvtRow tile d k satm i with
    | none => (s, false)
    | some (sc, cs) =>
      State.kcvtRows ((s.putTagged t (s.regionRow tile d i sc (cs.map (·.code))) tag).convFlags core cs) t tile core d k satm tag is

/-- ATT.KCVT (R415 to R418). -/
def execAttKcvt (t : Tid) (w : IWord) (s : State) : Host.Outcome State Fault Refusal :=
  .next (s.issue t w
    { ok := ({ a := .d, b := .d, mods := 3 } : Form).ok w
      gate := (Desc.dec ((s.regs t.code).getD' w.a.toNat)).inVat
      reads := [dR w.a.toNat, dR w.b.toNat] }
    (fun s tag =>
      let tile := t.tile.val
      let r := s.regs t.code
      let d := Desc.dec (r.getD' w.a.toNat)
      let k := Desc.dec (r.getD' w.b.toNat)
      let df := descFaults [d.fault t.core.val true false, k.fault t.core.val false false]
      if fmtBad d.fmt || fmtBad k.fmt then .fault 0x0302 s
      else if kcvtBad d k || (kcvtWidens k.fmt d.fmt && d.scaleEn) then .fault 0x0805 s
      else if d.fmt ≠ k.fmt ∧ !kcvtWidens k.fmt d.fmt ∧ !w.m 0 then .fault 0x0803 s
      else if df ≠ 0 then .fault df s
      else if !d.some then .retire s
      else s.access t.code (k.readRanges tile false) (d.readRanges tile false) (fun s mt =>
        let q := s.kcvtRows t.code tile (coreOf t.code) d k (w.m 1) (tag ||| mt) (List.range d.rows)
        if q.2 then .retire q.1 else .fault 0x0804 q.1)))

end Sys2Proof.Machine
end

