-- ==== Sys2Proof/Machine/Vector.lean ====
section
/-! DEFINITION. The vector unit's lane instructions (R492 to R494) and the special-function instructions (R238). -/

namespace Sys2Proof.Machine

/-- V.ADD (R493). -/
def execVAdd (t : Tid) (w : IWord) (s : State) : Host.Outcome State Fault Refusal := .next (laneOp2 t w s f32add)
/-- V.SUB (R493). -/
def execVSub (t : Tid) (w : IWord) (s : State) : Host.Outcome State Fault Refusal := .next (laneOp2 t w s f32sub)
/-- V.MUL (R493). -/
def execVMul (t : Tid) (w : IWord) (s : State) : Host.Outcome State Fault Refusal := .next (laneOp2 t w s f32mul)

/-- V.FMA (R493): rounds once. -/
def execVFma (t : Tid) (w : IWord) (s : State) : Host.Outcome State Fault Refusal :=
  .next (laneOp t w s (({ a := .v, b := .v, c := .v, d := .v } : Form).ok w) [vR w.b.toNat, vR w.c.toNat, vR w.d.toNat]
    (fun r i => f32fma (lane (r.getV w.b.toNat) i) (lane (r.getV w.c.toNat) i) (lane (r.getV w.d.toNat) i)))

/-- V.MAX (R493): +0 above -0; a NaN yields the first NaN in the order B then C. -/
def execVMax (t : Tid) (w : IWord) (s : State) : Host.Outcome State Fault Refusal := .next (laneOp2 t w s max2)
/-- V.MIN (R493). -/
def execVMin (t : Tid) (w : IWord) (s : State) : Host.Outcome State Fault Refusal := .next (laneOp2 t w s min2)

/-- R493, R196: a NaN takes its quiet bit. -/
def quietNan (c : Nat) : Nat := match fp32.dec c with
  | .nan sg fr => fp32.nanCode sg fr
  | _ => c

/-- V.ABS (R493): changes only the sign bit of a number. -/
def execVAbs (t : Tid) (w : IWord) (s : State) : Host.Outcome State Fault Refusal :=
  .next (laneOp1 t w s (fun c => if (fp32.dec c).isNan then quietNan c else c % 2 ^ 31))
/-- V.NEG (R493). -/
def execVNeg (t : Tid) (w : IWord) (s : State) : Host.Outcome State Fault Refusal :=
  .next (laneOp1 t w s (fun c => if (fp32.dec c).isNan then quietNan c else c ^^^ 0x80000000))

/-- R493: the conditions of V.CMP; a NaN makes every one false but NE. -/
def laneCond (k : Nat) (int : Bool) (b c : Nat) : Bool :=
  let x := fp32.dec b
  let y := fp32.dec c
  let nan := !int && (x.isNan || y.isNan)
  let lt := if int then decide (signed 32 b < signed 32 c) else x.lt y
  let gt := if int then decide (signed 32 c < signed 32 b) else y.lt x
  if nan then decide (k = 1)
  else match k with
    | 0 => !lt && !gt
    | 1 => lt || gt
    | 2 => lt
    | 3 => !gt
    | 4 => gt
    | _ => !lt

/-- V.CMP (R493): disabled lanes leave their bits of pA. -/
def execVCmp (t : Tid) (w : IWord) (s : State) : Host.Outcome State Fault Refusal :=
  .next (s.issue t w
    { ok := ({ a := .p, b := .v, c := .v, mods := 0xF } : Form).ok w && decide (w.ms 0 3 ≤ 5)
      lane := true, reads := [vR w.b.toNat, vR w.c.toNat], writes := [pR w.a.toNat] }
    (fun s tag => .retire (s.modRegs t.code (fun r =>
      let bits := (List.range 64).foldl (fun a i =>
        if laneCond (w.ms 0 3) (w.m 3) (lane (r.getV w.b.toNat) i) (lane (r.getV w.c.toNat) i) then a + 2 ^ i else a) 0
      let g := r.guard w
      r.setP w.a.toNat ((r.getP w.a.toNat &&& ~~~g) ||| (BitVec.ofNat 64 bits &&& g)) (tag ||| r.keepTag w (pR w.a.toNat))))))

/-- V.SEL (R493). -/
def execVSel (t : Tid) (w : IWord) (s : State) : Host.Outcome State Fault Refusal :=
  .next (laneOp t w s (({ a := .v, b := .v, c := .v, d := .p } : Form).ok w) [vR w.b.toNat, vR w.c.toNat, pR w.d.toNat]
    (fun r i => if (r.getP w.d.toNat).getLsbD i then lane (r.getV w.b.toNat) i else lane (r.getV w.c.toNat) i))

/-- V.BCAST (R493). -/
def execVBcast (t : Tid) (w : IWord) (s : State) : Host.Outcome State Fault Refusal :=
  .next (laneOp t w s (({ a := .v, b := .g } : Form).ok w) [gR w.b.toNat]
    (fun r _ => (r.getG w.b.toNat).toNat % 2 ^ 32))

/-- V.EXTR (R471, R493): guarded as a whole. -/
def execVExtr (t : Tid) (w : IWord) (s : State) : Host.Outcome State Fault Refusal :=
  .next (s.issue t w
    { ok := ({ a := .g, b := .v, c := .g } : Form).ok w
      reads := [vR w.b.toNat, gR w.c.toNat], writes := [gR w.a.toNat] }
    (fun s tag => .retire (s.modRegs t.code (fun r =>
      r.setG w.a.toNat (BitVec.ofNat 64 (lane (r.getV w.b.toNat) ((r.getG w.c.toNat).toNat % 64))) tag))))

/-- V.LANEID (R493). -/
def execVLaneid (t : Tid) (w : IWord) (s : State) : Host.Outcome State Fault Refusal :=
  .next (laneOp t w s (({ a := .v } : Form).ok w) [] (fun _ i => i))

/-- R199: the groups a format offers. -/
def fmtGroups (f : Nat) : Nat := 2048 / (64 * fmtWidth f)

/-- R494: one element converted. -/
def cvtElem (sf df : Nat) (e : Int) (satm : Bool) (c : Nat) : Conv :=
  if sf = df then { code := c } else encFmt df satm e (decFmt sf e c)

/-- V.CVT (R494): a group of 64 elements of the source format into a group of the destination format. -/
def execVCvt (t : Tid) (w : IWord) (s : State) : Host.Outcome State Fault Refusal :=
  let sf := w.ms 0 4
  let df := w.ms 4 4
  let bfx := sf = 9 || df = 9
  .next (s.issue t w
    { ok := ({ a := .v, b := .v, c := if bfx then .g else .none, mods := 0x7FFF } : Form).ok w
        && decide (sf ≠ 10) && decide (df ≠ 10)
        && (fmtBad sf || decide (w.ms 8 3 < fmtGroups sf)) && (fmtBad df || decide (w.ms 11 3 < fmtGroups df))
      lane := true, reads := vR w.b.toNat :: (if bfx then [gR w.c.toNat] else []), writes := [vR w.a.toNat] }
    (fun s tag =>
      if fmtBad sf || fmtBad df then .fault 0x0302 s
      else
        let r := s.regs t.code
        let e := signed 8 ((r.getG w.c.toNat).toNat % 256)
        let sw := fmtWidth sf
        let dw := fmtWidth df
        let on := (List.range 64).filter (fun i => (r.guard w).getLsbD i)
        let cv := on.map (fun i => cvtElem sf df e (w.m 14) (vElem (r.getV w.b.toNat) sw (64 * w.ms 8 3 + i)))
        let v := (on.zip cv).foldl (fun v x => vPut v (64 * dw * w.ms 11 3 + dw * x.1) dw x.2.code) (r.getV w.a.toNat)
        let v := if dw = 6 then v.setWidth 1920 |>.setWidth 2048 else v
        let s := s.convFlags (coreOf t.code) cv
        .retire (s.modRegs t.code (fun r => r.setV w.a.toNat v (tag ||| r.tag (vR w.a.toNat))))))

/-- V.IADD (R493). -/
def execVIadd (t : Tid) (w : IWord) (s : State) : Host.Outcome State Fault Refusal := .next (laneOp2 t w s (· + ·))
/-- V.ISUB (R493). -/
def execVIsub (t : Tid) (w : IWord) (s : State) : Host.Outcome State Fault Refusal :=
  .next (laneOp2 t w s (fun b c => b + 2 ^ 32 - c))
/-- V.IMUL (R493): the low 32 bits. -/
def execVImul (t : Tid) (w : IWord) (s : State) : Host.Outcome State Fault Refusal := .next (laneOp2 t w s (· * ·))
/-- V.AND (R493). -/
def execVAnd (t : Tid) (w : IWord) (s : State) : Host.Outcome State Fault Refusal := .next (laneOp2 t w s (· &&& ·))
/-- V.OR (R493). -/
def execVOr (t : Tid) (w : IWord) (s : State) : Host.Outcome State Fault Refusal := .next (laneOp2 t w s (· ||| ·))
/-- V.XOR (R493). -/
def execVXor (t : Tid) (w : IWord) (s : State) : Host.Outcome State Fault Refusal := .next (laneOp2 t w s (· ^^^ ·))
/-- V.SHL (R493): counts are lane bits [4:0]. -/
def execVShl (t : Tid) (w : IWord) (s : State) : Host.Outcome State Fault Refusal :=
  .next (laneOp2 t w s (fun b c => b * 2 ^ (c % 32)))
/-- V.SHR (R493). -/
def execVShr (t : Tid) (w : IWord) (s : State) : Host.Outcome State Fault Refusal :=
  .next (laneOp2 t w s (fun b c => b / 2 ^ (c % 32)))
/-- V.SAR (R493). -/
def execVSar (t : Tid) (w : IWord) (s : State) : Host.Outcome State Fault Refusal :=
  .next (laneOp2 t w s (fun b c => toTwos 32 (Int.fdiv (signed 32 b) (2 ^ (c % 32) : Nat))))

/-- SF.* (R238): FP32 lanes, or one BF16 group of the destination. -/
def sfOp (k : Nat) (t : Tid) (w : IWord) (s : State) : State :=
  s.issue t w
    { ok := ({ a := .v, b := .v, mods := 3 } : Form).ok w && (w.m 0 || !w.m 1)
      lane := true, reads := [vR w.b.toNat], writes := [vR w.a.toNat] }
    (fun s tag => .retire (s.modRegs t.code (fun r =>
      let src := r.getV w.b.toNat
      let old := r.getV w.a.toNat
      if w.m 0 then
        let g := if w.m 1 then 1024 else 0
        let v := ((List.range 64).filter (fun i => (r.guard w).getLsbD i)).foldl (fun v i =>
          vPut v (g + 16 * i) 16 (s.sfEval k bf16 (lane src i))) old
        r.setV w.a.toNat v (tag ||| r.tag (vR w.a.toNat))
      else
        r.setV w.a.toNat (vLanes old (r.guard w) (fun i => s.sfEval k fp32 (lane src i)))
          (tag ||| r.keepTag w (vR w.a.toNat)))))

/-- SF.TANH (R241). -/
def execSfTanh (t : Tid) (w : IWord) (s : State) : Host.Outcome State Fault Refusal := .next (sfOp 0 t w s)
/-- SF.LOGISTIC (R242). -/
def execSfLogistic (t : Tid) (w : IWord) (s : State) : Host.Outcome State Fault Refusal := .next (sfOp 1 t w s)
/-- SF.EXP2 (R243). -/
def execSfExp2 (t : Tid) (w : IWord) (s : State) : Host.Outcome State Fault Refusal := .next (sfOp 2 t w s)
/-- SF.RCP (R247). -/
def execSfRcp (t : Tid) (w : IWord) (s : State) : Host.Outcome State Fault Refusal := .next (sfOp 3 t w s)
/-- SF.RSQRT (R247). -/
def execSfRsqrt (t : Tid) (w : IWord) (s : State) : Host.Outcome State Fault Refusal := .next (sfOp 4 t w s)

end Sys2Proof.Machine
end

