-- ==== Sys2Proof/Machine/Wupd.lean ====
section
/-! DEFINITION. The weight update (R219 to R229): the layer-table entry, the arithmetic of WX, stochastic rounding, and the
four instructions. -/

namespace Sys2Proof.Machine

/-- R219: a layer-table entry. -/
structure Layer where
  bu : Int
  bm : Int
  bv : Int
  wfmt : Nat
  lr : Nat
  b1 : Nat
  ob1 : Nat
  b2 : Nat
  ob2 : Nat
  eps : Nat
  wd : Nat
  bc1 : Nat
  bc2 : Nat
  rsv : Bool
  raw : Nat
  deriving DecidableEq, Repr

/-- R219: the entry of 48 bytes. -/
def Layer.dec (n : Nat) : Layer :=
  let f (i : Nat) : Nat := bits n (8 * i) 32
  { bu := signed 8 (bits n 0 8), bm := signed 8 (bits n 8 8), bv := signed 8 (bits n 16 8), wfmt := bits n 24 4
    lr := f 4, b1 := f 8, ob1 := f 12, b2 := f 16, ob2 := f 20, eps := f 24, wd := f 28, bc1 := f 32, bc2 := f 36
    rsv := bits n 28 4 ≠ 0 || bits n 320 64 ≠ 0, raw := n }

/-- R219: the entry breaks a condition: 0x0304. -/
def Layer.bad (l : Layer) (adam : Bool) : Bool :=
  let off (b : Int) : Bool := decide (b < -64) || decide (63 < b)
  let eps := fp32.dec l.eps
  off l.bu || off l.bm || off l.bv || decide (2 < l.wfmt) || l.rsv
    || [l.lr, l.b1, l.ob1, l.b2, l.ob2, l.eps, l.wd, l.bc1, l.bc2].any (fun c => !(fp32.dec c).isFin)
    || (adam && (eps.dy.m ≤ 0))

/-- The exact value of a finite FP32 code. -/
def dy32 (c : Nat) : Dy := (fp32.dec c).dy

/-- The magnitude code at or below m * 2^e, with the exponent range open above, and the part of a spacing above it times
2^32, rounded down (R226). -/
def FFmt.truncMag (f : FFmt) (m : Nat) (e : Int) : Nat × Nat :=
  if m = 0 then (0, 0)
  else
    let l : Int := Nat.log2 m + e
    let emin := 1 - f.bias
    if f.bias + 2 < l then (4 * f.signBit, 0)
    else
      let x := if l < emin then emin else l
      let sc : Dy := ⟨m, e - (x - f.mb)⟩
      let q := sc.floor
      let fr := (sc.add ⟨-q, 0⟩).shift 32
      ((x - emin).toNat * 2 ^ f.mb + q.toNat, fr.floor.toNat)

/-- R224, R226: round x to the weight format: to nearest even, or stochastically with 32 random bits. Answers the code and
whether it saturated. -/
def finalRound (fmt : Nat) (sr : Option Nat) (x : Dy) : Nat × Bool :=
  match ffmt fmt with
  | none => (0, false)
  | some f =>
    if x.m = 0 then (0, false)
    else
      let sg := b2n (decide (x.m < 0)) * f.signBit
      let c := match sr with
        | none => f.roundMag x.m.natAbs x.e
        | some d =>
          let q := f.truncMag x.m.natAbs x.e
          if 2 ^ 32 ≤ q.2 + d then q.1 + 1 else q.1
      if c ≤ f.maxFin then (sg + c, false) else (sg + f.maxFin, true)

/-- R227: the draw of lane l at a counter value: its low 32 bits. -/
def drawBits (key : BitVec 64) (c l : Nat) : Nat := permP key.toNat (c % 2 ^ 58 * 64 + l) % 2 ^ 32

/-- R222: BF16 of a value, to nearest even, saturating. A zero is +0: neither R220 nor R222 gives its sign (DESIGN CHOICE, log
entry 100). -/
def momRound (x : Dy) : Conv := bf16.enc true (x.num false)

/-- What an update computes for one element: the new weight value (none where the spec states none), and the stored moments. -/
structure Upd where
  x : Option Dy
  m1 : Dy := Dy.zero
  v1 : Dy := Dy.zero

/-- R221: WUPD of one element. -/
def Layer.sgd (l : Layer) (gc : Num) (wv u : Dy) : Upd :=
  if !gc.isFin then { x := none }
  else
    let u := u.shift (-l.bu)
    { x := some ((wv.add (wx (((dy32 l.lr).mul (dy32 l.wd)).mul wv)).neg).add (wx (((dy32 l.lr).mul gc.dy).mul u)).neg) }

/-- R222: WUPD.ADAM of one element. A negative radicand has no stated root. -/
def Layer.adam (l : Layer) (gc : Num) (wv g m v : Dy) : Upd :=
  let g := wx (gc.dy.mul g)
  let m := m.shift (-l.bm)
  let v := v.shift (-l.bv)
  let m1 := wx (((dy32 l.b1).mul m).add ((dy32 l.ob1).mul g))
  let v1 := wx (((dy32 l.b2).mul v).add (((dy32 l.ob2).mul g).mul g))
  let rad := wx ((dy32 l.bc2).mul v1)
  if rad.m < 0 then { x := none, m1 := m1, v1 := v1 }
  else
    let root := if rad.m = 0 then Dy.zero else wx (sqrtDy rad)
    let den := wx (root.add (dy32 l.eps))
    let num := wx ((dy32 l.bc1).mul m1)
    let u := if num.m = 0 then Dy.zero else wx (quot num den)
    { x := some ((wv.add (wx (((dy32 l.lr).mul (dy32 l.wd)).mul wv)).neg).add (wx ((dy32 l.lr).mul u)).neg), m1 := m1, v1 := v1 }

/-- R223: the regions' shapes and the formats of the inputs beside tW, all that does not rest on the entry. -/
def wupdBad (wd : Desc) (others : List (Desc × List Nat)) : Bool :=
  wd.scaleEn || others.any (fun x =>
    x.1.rows ≠ wd.rows || x.1.cols ≠ wd.cols || x.1.scaleEn || !x.2.contains x.1.fmt)

/-- The element number i of a region in row-major order. -/
def State.elemAt (s : State) (tile : Nat) (d : Desc) (i : Nat) : Nat := s.elem tile d (i / d.cols) (i % d.cols)

/-- Write element number i. -/
def State.putAt (s : State) (tile : Nat) (d : Desc) (i code : Nat) : State := s.putElem tile d (i / d.cols) (i % d.cols) code

/-- R231, log entry 2: an unstated value of an update, a function of its operands alone. -/
def openUpd (which : Nat) (l : Layer) (gc : Num) (codes : List Nat) (w : Nat) : Nat :=
  (Config.openUpdate which (l.raw :: (fp32.enc false gc).code :: codes)).toNat % 2 ^ w

/-- R224 to R226, R229: one element: its weight rounded with its draw, its flags; `open0` where the spec states no weight. -/
def State.wupdElem (s : State) (t tile : Nat) (wd : Desc) (sr : Bool) (i : Nat) (u : Upd) (open0 : Nat) : State :=
  let r := s.regs t
  let d := if sr then some (drawBits r.key (r.ctr.toNat + i / 64) (i % 64)) else none
  match u.x with
  | none => s.putAt tile wd i open0
  | some x =>
    let q := finalRound wd.fmt d x
    (s.putAt tile wd i q.1).numFlag (coreOf t) Fd.TILE_NUM_STAT_UPD_SAT q.2

/-- R219 to R225: one WUPD element. -/
def State.sgdElem (s : State) (t tile : Nat) (l : Layer) (gc : Num) (sr : Bool) (wd ud : Desc) (i : Nat) : State :=
  let codes := [s.elemAt tile wd i, s.elemAt tile ud i]
  let wv := decFmt wd.fmt 0 (s.elemAt tile wd i)
  let u := decFmt ud.fmt 0 (s.elemAt tile ud i)
  if !(wv.isFin && u.isFin) then s.noteSkip (coreOf t)
  else s.wupdElem t tile wd sr i (l.sgd gc wv.dy u.dy) (openUpd 0 l gc codes wd.w)

/-- R219 to R225: one WUPD.ADAM element. With a clip factor that is not finite the spec states no result: the weight and
both moments are open. -/
def State.adamElem (s : State) (t tile : Nat) (l : Layer) (gc : Num) (sr : Bool) (wd gd md vd : Desc) (i : Nat) : State :=
  let codes := [wd, gd, md, vd].map (fun d => s.elemAt tile d i)
  let wv := decFmt wd.fmt 0 (s.elemAt tile wd i)
  let g := decFmt gd.fmt 0 (s.elemAt tile gd i)
  let m := decFmt md.fmt 0 (s.elemAt tile md i)
  let v := decFmt vd.fmt 0 (s.elemAt tile vd i)
  if !(wv.isFin && g.isFin && m.isFin && v.isFin) then s.noteSkip (coreOf t)
  else if !gc.isFin then
    ((s.putAt tile wd i (openUpd 0 l gc codes wd.w)).putAt tile md i (openUpd 1 l gc codes 16)).putAt tile vd i (openUpd 2 l gc codes 16)
  else
    let u := l.adam gc wv.dy g.dy m.dy v.dy
    let s := s.wupdElem t tile wd sr i u (openUpd 0 l gc codes wd.w)
    let m' := momRound (u.m1.shift l.bm)
    let v' := momRound (u.v1.shift l.bv)
    ((s.putAt tile md i m'.code).putAt tile vd i v'.code).numFlag (coreOf t) Fd.TILE_NUM_STAT_MOM_SAT (m'.sat || v'.sat)

/-- R229: an update over n elements has retired: its counter moves on under stochastic rounding. -/
def State.drawn (s : State) (t n : Nat) (sr : Bool) : State :=
  if sr then s.modRegs t (fun r => { r with ctr := r.ctr + BitVec.ofNat 58 ((n + 63) / 64) }) else s

/-- R221, R229: every element of the update in ascending order, then the bytes it wrote with their tags, and the counter of
stochastic rounding moved on. -/
def State.wupdRun (s : State) (t n : Nat) (f : State → Nat → State) (wrs : List (Nat × Nat)) (sr : Bool) (tag : BitVec 8) : State :=
  let s1 := (List.range n).foldl f s
  let s2 := { s1 with mem := s.mem }.putTagged t (s1.cellsOf wrs) tag
  s2.drawn t n sr

/-- R219, R237: the layer-table entry is read as any operand is, and only then checked. -/
def State.withLayer (s : State) (t : Tid) (off : Nat) (adam : Bool) (wfmt : Nat) (k : Layer → State → BitVec 8 → Eff) : Eff :=
  let a := tileBase t.tile.val + off
  s.access t.code [(a, 48)] [] (fun s mt =>
    let l := Layer.dec (s.readNat a 48)
    if wfmt ≠ l.wfmt then .fault 0x0303 s
    else if l.bad adam then .fault 0x0304 s
    else k l s mt)

/-- The checks and the run of a weight update: the regions it only reads and those it writes, the entry, and every element in
row-major order; then the draws of R229. -/
def wupdBody (t : Tid) (s : State) (tag : BitVec 8) (adam sr : Bool) (off : Nat) (wd : Desc) (ins outs : List (Desc × List Nat))
    (f : Layer → State → Nat → State) : Eff :=
  let tile := t.tile.val
  let c := t.core.val
  let df := descFaults (wd.fault c true false :: (ins.map (fun x => x.1.fault c false false) ++ outs.map (fun x => x.1.fault c true false)))
  let some := wd.rows ≠ 0 && wd.cols ≠ 0
  if df ≠ 0 then .fault df s
  else if some ∧ (off % 16 ≠ 0 ∨ 2 ^ 28 ≤ off) then .fault 0x0104 s
  else if some ∧ !inVatOrOwn c off 48 then .fault 0x0103 s
  else if wupdBad wd (ins ++ outs) then .fault 0x0303 s
  else if !some then .retire s
  else
    let wrs := (wd :: outs.map (·.1)).flatMap (fun d => d.rowRanges tile)
    let rds := (wd :: (ins ++ outs).map (·.1)).flatMap (fun d => d.rowRanges tile)
    s.withLayer t off adam wd.fmt (fun l s lt => s.access t.code rds wrs (fun s mt =>
      .retire (s.wupdRun t.code (wd.rows * wd.cols) (f l) wrs sr (tag ||| lt ||| mt))))

/-- R229: an update whose guard is 0 draws nothing, and its counter moves on all the same: R229's advance, which no predicate
stops, is read before R471's 'without any effect' (DESIGN CHOICE, log entry 100). -/
def State.wupdOff (t : Nat) (w : IWord) (sr : Bool) (s : State) : State :=
  let d := Desc.dec ((s.regs t).getD' w.a.toNat)
  s.drawn t (d.rows * d.cols) sr

/-- The tags an update's results carry, and its gate: it writes to the vat. -/
def wupdGate (r : TRegs) (ds : List Nat) : Bool := ds.any (fun i => (Desc.dec (r.getD' i)).inVat)

/-- WUPD and WUPD.SR (R221). -/
def wupdOp (t : Tid) (w : IWord) (sr : Bool) (s : State) : State :=
  s.issue t w
    { ok := ({ a := .d, b := .d, c := .g, d := .g, mods := if sr then 0x8000 else 0 } : Form).ok w
      gate := wupdGate (s.regs t.code) [w.a.toNat]
      reads := [dR w.a.toNat, dR w.b.toNat, gR w.c.toNat, gR w.d.toNat]
      off := State.wupdOff t.code w sr }
    (fun s tag =>
      let r := s.regs t.code
      let wd := Desc.dec (r.getD' w.a.toNat)
      let ud := Desc.dec (r.getD' w.b.toNat)
      let gc := fp32.dec ((r.getG w.c.toNat).toNat % 2 ^ 32)
      wupdBody t s tag false sr (r.getG w.d.toNat).toNat wd [(ud, [1])] []
        (fun l s i => s.sgdElem t.code t.tile.val l gc sr wd ud i))

/-- WUPD.ADAM and WUPD.ADAM.SR (R222). -/
def adamOp (t : Tid) (w : IWord) (sr : Bool) (s : State) : State :=
  let form : Form := { a := .d, b := .d, c := .d, d := .d, mods := if sr then 0x8000 else 0, x := .fields [0, 1] }
  s.issue t w
    { ok := form.ok w, head := form.head w
      gate := wupdGate (s.regs t.code) [w.a.toNat, w.c.toNat, w.d.toNat]
      reads := [dR w.a.toNat, dR w.b.toNat, dR w.c.toNat, dR w.d.toNat, gR (w.f 0), gR (w.f 1)]
      off := State.wupdOff t.code w sr }
    (fun s tag =>
      let r := s.regs t.code
      let wd := Desc.dec (r.getD' w.a.toNat)
      let gd := Desc.dec (r.getD' w.b.toNat)
      let md := Desc.dec (r.getD' w.c.toNat)
      let vd := Desc.dec (r.getD' w.d.toNat)
      let gc := fp32.dec ((r.getG (w.f 0)).toNat % 2 ^ 32)
      wupdBody t s tag true sr (r.getG (w.f 1)).toNat wd [(gd, [0, 1])] [(md, [1]), (vd, [1])]
        (fun l s i => s.adamElem t.code t.tile.val l gc sr wd gd md vd i))

/-- WUPD (R221): MOD[15] clear. -/
def execWupd (t : Tid) (w : IWord) (s : State) : Host.Outcome State Fault Refusal :=
  .next (wupdOp t { w with mod := w.mod &&& 0x7FFF } false s)
/-- WUPD.SR (R226, R472): MOD[15] set. -/
def execWupdSr (t : Tid) (w : IWord) (s : State) : Host.Outcome State Fault Refusal :=
  .next (wupdOp t { w with mod := w.mod ||| 0x8000 } true s)
/-- WUPD.ADAM (R222). -/
def execWupdAdam (t : Tid) (w : IWord) (s : State) : Host.Outcome State Fault Refusal :=
  .next (adamOp t { w with mod := w.mod &&& 0x7FFF } false s)
/-- WUPD.ADAM.SR (R226, R472). -/
def execWupdAdamSr (t : Tid) (w : IWord) (s : State) : Host.Outcome State Fault Refusal :=
  .next (adamOp t { w with mod := w.mod ||| 0x8000 } true s)

end Sys2Proof.Machine
end

