-- ==== Sys2Proof/Machine/Dispatch.lean ====
section
/-! DEFINITION. exec: what each command does to everything but the queue, one arm per row of spec/opcode_table.json. -/

namespace Sys2Proof.Machine

/-- The effect of a command: its meaning, or its refusal by name. -/
def exec (i : Instr) (s : State) : Host.Outcome State Fault Refusal :=
  match i with
  | .registerWrite agent off size value => Sys2Proof.Machine.execRegisterWrite agent off size value s
  | .nop t w => Sys2Proof.Machine.execNop t w s
  | .exitThread t w => Sys2Proof.Machine.execExit t w s
  | .br t w => Sys2Proof.Machine.execBr t w s
  | .brz t w => Sys2Proof.Machine.execBrz t w s
  | .brnz t w => Sys2Proof.Machine.execBrnz t w s
  | .brp t w => Sys2Proof.Machine.execBrp t w s
  | .brnp t w => Sys2Proof.Machine.execBrnp t w s
  | .call t w => Sys2Proof.Machine.execCall t w s
  | .ret t w => Sys2Proof.Machine.execRet t w s
  | .movi t w => Sys2Proof.Machine.execMovi t w s
  | .add t w => Sys2Proof.Machine.execAdd t w s
  | .sub t w => Sys2Proof.Machine.execSub t w s
  | .mul t w => Sys2Proof.Machine.execMul t w s
  | .and t w => Sys2Proof.Machine.execAnd t w s
  | .or t w => Sys2Proof.Machine.execOr t w s
  | .xor t w => Sys2Proof.Machine.execXor t w s
  | .shl t w => Sys2Proof.Machine.execShl t w s
  | .shr t w => Sys2Proof.Machine.execShr t w s
  | .sar t w => Sys2Proof.Machine.execSar t w s
  | .smin t w => Sys2Proof.Machine.execSmin t w s
  | .smax t w => Sys2Proof.Machine.execSmax t w s
  | .umin t w => Sys2Proof.Machine.execUmin t w s
  | .umax t w => Sys2Proof.Machine.execUmax t w s
  | .cmp t w => Sys2Proof.Machine.execCmp t w s
  | .sel t w => Sys2Proof.Machine.execSel t w s
  | .pset t w => Sys2Proof.Machine.execPset t w s
  | .pget t w => Sys2Proof.Machine.execPget t w s
  | .dscSet t w => Sys2Proof.Machine.execDscSet t w s
  | .dscGet t w => Sys2Proof.Machine.execDscGet t w s
  | .dscOfs t w => Sys2Proof.Machine.execDscOfs t w s
  | .fenceRel t w => Sys2Proof.Machine.execFenceRel t w s
  | .fenceAcq t w => Sys2Proof.Machine.execFenceAcq t w s
  | .gate t w => Sys2Proof.Machine.execGate t w s
  | .phase t w => Sys2Proof.Machine.execPhase t w s
  | .cycRead t w => Sys2Proof.Machine.execCycRead t w s
  | .stRead t w => Sys2Proof.Machine.execStRead t w s
  | .rngSeek t w => Sys2Proof.Machine.execRngSeek t w s
  | .rngSeekPos t w => Sys2Proof.Machine.execRngSeekPos t w s
  | .ld t w => Sys2Proof.Machine.execLd t w s
  | .ldGlide t w => Sys2Proof.Machine.execLdGlide t w s
  | .st t w => Sys2Proof.Machine.execSt t w s
  | .vld t w => Sys2Proof.Machine.execVld t w s
  | .vldGlide t w => Sys2Proof.Machine.execVldGlide t w s
  | .vst t w => Sys2Proof.Machine.execVst t w s
  | .dscLd t w => Sys2Proof.Machine.execDscLd t w s
  | .atom t w => Sys2Proof.Machine.execAtom t w s
  | .atomAddBfx t w => Sys2Proof.Machine.execAtomAddBfx t w s
  | .move t w => Sys2Proof.Machine.execMove t w s
  | .moveT t w => Sys2Proof.Machine.execMoveT t w s
  | .kvGet t w => Sys2Proof.Machine.execKvGet t w s
  | .kvPut t w => Sys2Proof.Machine.execKvPut t w s
  | .lapPost t w => Sys2Proof.Machine.execLapPost t w s
  | .lapPostDiscard t w => Sys2Proof.Machine.execLapPostDiscard t w s
  | .lapSend t w => Sys2Proof.Machine.execLapSend t w s
  | .lapSendKv t w => Sys2Proof.Machine.execLapSendKv t w s
  | .relArm t w => Sys2Proof.Machine.execRelArm t w s
  | .relSend t w => Sys2Proof.Machine.execRelSend t w s
  | .relPost t w => Sys2Proof.Machine.execRelPost t w s
  | .tblLoad t w => Sys2Proof.Machine.execTblLoad t w s
  | .tblFence t w => Sys2Proof.Machine.execTblFence t w s
  | .barInit t w => Sys2Proof.Machine.execBarInit t w s
  | .barArrive t w => Sys2Proof.Machine.execBarArrive t w s
  | .barArriveTx t w => Sys2Proof.Machine.execBarArriveTx t w s
  | .barWait t w => Sys2Proof.Machine.execBarWait t w s
  | .barWaitGlide t w => Sys2Proof.Machine.execBarWaitGlide t w s
  | .vAdd t w => Sys2Proof.Machine.execVAdd t w s
  | .vSub t w => Sys2Proof.Machine.execVSub t w s
  | .vMul t w => Sys2Proof.Machine.execVMul t w s
  | .vFma t w => Sys2Proof.Machine.execVFma t w s
  | .vMax t w => Sys2Proof.Machine.execVMax t w s
  | .vMin t w => Sys2Proof.Machine.execVMin t w s
  | .vAbs t w => Sys2Proof.Machine.execVAbs t w s
  | .vNeg t w => Sys2Proof.Machine.execVNeg t w s
  | .vCmp t w => Sys2Proof.Machine.execVCmp t w s
  | .vSel t w => Sys2Proof.Machine.execVSel t w s
  | .vBcast t w => Sys2Proof.Machine.execVBcast t w s
  | .vExtr t w => Sys2Proof.Machine.execVExtr t w s
  | .vLaneid t w => Sys2Proof.Machine.execVLaneid t w s
  | .vCvt t w => Sys2Proof.Machine.execVCvt t w s
  | .vIadd t w => Sys2Proof.Machine.execVIadd t w s
  | .vIsub t w => Sys2Proof.Machine.execVIsub t w s
  | .vImul t w => Sys2Proof.Machine.execVImul t w s
  | .vAnd t w => Sys2Proof.Machine.execVAnd t w s
  | .vOr t w => Sys2Proof.Machine.execVOr t w s
  | .vXor t w => Sys2Proof.Machine.execVXor t w s
  | .vShl t w => Sys2Proof.Machine.execVShl t w s
  | .vShr t w => Sys2Proof.Machine.execVShr t w s
  | .vSar t w => Sys2Proof.Machine.execVSar t w s
  | .sfTanh t w => Sys2Proof.Machine.execSfTanh t w s
  | .sfLogistic t w => Sys2Proof.Machine.execSfLogistic t w s
  | .sfExp2 t w => Sys2Proof.Machine.execSfExp2 t w s
  | .sfRcp t w => Sys2Proof.Machine.execSfRcp t w s
  | .sfRsqrt t w => Sys2Proof.Machine.execSfRsqrt t w s
  | .rowMax t w => Sys2Proof.Machine.execRowMax t w s
  | .rowSumexp t w => Sys2Proof.Machine.execRowSumexp t w s
  | .rowRescale t w => Sys2Proof.Machine.execRowRescale t w s
  | .rowRescaleT t w => Sys2Proof.Machine.execRowRescaleT t w s
  | .rowRmsPart t w => Sys2Proof.Machine.execRowRmsPart t w s
  | .rowRmsFin t w => Sys2Proof.Machine.execRowRmsFin t w s
  | .attBias t w => Sys2Proof.Machine.execAttBias t w s
  | .attKcvt t w => Sys2Proof.Machine.execAttKcvt t w s
  | .wupd t w => Sys2Proof.Machine.execWupd t w s
  | .wupdSr t w => Sys2Proof.Machine.execWupdSr t w s
  | .wupdAdam t w => Sys2Proof.Machine.execWupdAdam t w s
  | .wupdAdamSr t w => Sys2Proof.Machine.execWupdAdamSr t w s
  | .mmaOpen t w => Sys2Proof.Machine.execMmaOpen t w s
  | .mmaClose t w => Sys2Proof.Machine.execMmaClose t w s
  | .mmaLoadw t w => Sys2Proof.Machine.execMmaLoadw t w s
  | .mmaLoadwT t w => Sys2Proof.Machine.execMmaLoadwT t w s
  | .mmaStream t w => Sys2Proof.Machine.execMmaStream t w s
  | .mmaDrain t w => Sys2Proof.Machine.execMmaDrain t w s
  | .mmaDrainT t w => Sys2Proof.Machine.execMmaDrainT t w s
  | .rampStep c => Sys2Proof.Machine.execRampStep c s
  | .arrayHoldExpiry c => Sys2Proof.Machine.execArrayHoldExpiry c s
  | .shadowBankFull c => Sys2Proof.Machine.execShadowBankFull c s
  | .swapTokenEnter c => Sys2Proof.Machine.execSwapTokenEnter c s
  | .swapComplete c => Sys2Proof.Machine.execSwapComplete c s
  | .arrayRowEnter c => Sys2Proof.Machine.execArrayRowEnter c s
  | .passComplete c => Sys2Proof.Machine.execPassComplete c s
  | .drainRowBegin c => Sys2Proof.Machine.execDrainRowBegin c s
  | .drainTileCheck c => Sys2Proof.Machine.execDrainTileCheck c s
  | .drainComplete c => Sys2Proof.Machine.execDrainComplete c s
  | .flitTransmit p => Sys2Proof.Machine.execFlitTransmit p s
  | .flitReceive p f r => Sys2Proof.Machine.execFlitReceive p f r s
  | .glideWindowTimeout c w => Sys2Proof.Machine.execGlideWindowTimeout c w s
  | .tileGlideCtlWrite tile value => Sys2Proof.Machine.execTileGlideCtlWrite tile value s
  | .engineTransactionComplete tile id => Sys2Proof.Machine.execEngineTransactionComplete tile id s
  | .localLoadReturn t => Sys2Proof.Machine.execLocalLoadReturn t s
  | .mapEnable tier => Sys2Proof.Machine.execMapEnable tier s
  | .mapDisable tier => Sys2Proof.Machine.execMapDisable tier s
  | .hashKeyWrite tier key => Sys2Proof.Machine.execHashKeyWrite tier key s
  | .regionInitDone tier region => Sys2Proof.Machine.execRegionInitDone tier region s
  | .queueHotDetect tier unit depth => Sys2Proof.Machine.execQueueHotDetect tier unit depth s
  | .actLimitReached tier unit row => Sys2Proof.Machine.execActLimitReached tier unit row s
  | .dimmActAlert unit => Sys2Proof.Machine.execDimmActAlert unit s
  | .refreshWindowEnd tier unit => Sys2Proof.Machine.execRefreshWindowEnd tier unit s
  | .dramTempReport tier unit temp => Sys2Proof.Machine.execDramTempReport tier unit temp s
  | .patrolScrubRead line errs inner hours => Sys2Proof.Machine.execPatrolScrubRead line errs inner hours s
  | .scrubWriteback line => Sys2Proof.Machine.execScrubWriteback line s
  | .nearColumnRemapDone unit => Sys2Proof.Machine.execNearColumnRemapDone unit s
  | .portTrainingDone p info => Sys2Proof.Machine.execPortTrainingDone p info s
  | .laneLossOfLock p lane ms => Sys2Proof.Machine.execLaneLossOfLock p lane ms s
  | .laneThresholdReached p lanes => Sys2Proof.Machine.execLaneThresholdReached p lanes s
  | .portDrainDone p => Sys2Proof.Machine.execPortDrainDone p s
  | .portRetrainDone p ok peerRetired => Sys2Proof.Machine.execPortRetrainDone p ok peerRetired s
  | .portDisable p => Sys2Proof.Machine.execPortDisable p s
  | .portRevive p => Sys2Proof.Machine.execPortRevive p s
  | .torusSeal => Sys2Proof.Machine.execTorusSeal s
  | .loadReq p k => Sys2Proof.Machine.execLoadReq p k s
  | .loadResp p k => Sys2Proof.Machine.execLoadResp p k s
  | .store p k => Sys2Proof.Machine.execStore p k s
  | .atomic p k => Sys2Proof.Machine.execAtomic p k s
  | .atomicResp p k => Sys2Proof.Machine.execAtomicResp p k s
  | .status p k => Sys2Proof.Machine.execStatus p k s
  | .ack p k => Sys2Proof.Machine.execAck p k s
  | .nack p k => Sys2Proof.Machine.execNack p k s
  | .close p k => Sys2Proof.Machine.execClose p k s
  | .notice p k => Sys2Proof.Machine.execNotice p k s
  | .bulk p k => Sys2Proof.Machine.execBulk p k s
  | .ackTimerExpiry src vc => Sys2Proof.Machine.execAckTimerExpiry src vc s
  | .e2eResendTimeout dst vc => Sys2Proof.Machine.execE2eResendTimeout dst vc s
  | .flowFail dst vc => Sys2Proof.Machine.execFlowFail dst vc s
  | .flowReopenWaitEnd dst vc => Sys2Proof.Machine.execFlowReopenWaitEnd dst vc s
  | .idleFlowClose dst vc => Sys2Proof.Machine.execIdleFlowClose dst vc s
  | .recvEntryExpiry src vc => Sys2Proof.Machine.execRecvEntryExpiry src vc s
  | .create k => Sys2Proof.Machine.execCreate k s
  | .share k => Sys2Proof.Machine.execShare k s
  | .wheelCopy k => Sys2Proof.Machine.execWheelCopy k s
  | .free k => Sys2Proof.Machine.execFree k s
  | .park k => Sys2Proof.Machine.execPark k s
  | .resume k => Sys2Proof.Machine.execResume k s
  | .parkFinish => Sys2Proof.Machine.execParkFinish s
  | .poolLowPreempt pool => Sys2Proof.Machine.execPoolLowPreempt pool s
  | .cowCopyDone => Sys2Proof.Machine.execCowCopyDone s
  | .pageWalkDone tile => Sys2Proof.Machine.execPageWalkDone tile s
  | .frameReclaim rec => Sys2Proof.Machine.execFrameReclaim rec s
  | .kvEnable => Sys2Proof.Machine.execKvEnable s
  | .kvCheckDone => Sys2Proof.Machine.execKvCheckDone s
  | .kvDisable => Sys2Proof.Machine.execKvDisable s
  | .kvEvtTailWrite tail => Sys2Proof.Machine.execKvEvtTailWrite tail s
  | .lapArm ix => Sys2Proof.Machine.execLapArm ix s
  | .lapDisarm ix => Sys2Proof.Machine.execLapDisarm ix s
  | .lapgeo p k => Sys2Proof.Machine.execLapgeo p k s
  | .lap p k => Sys2Proof.Machine.execLap p k s
  | .lapSliceSend ix => Sys2Proof.Machine.execLapSliceSend ix s
  | .tblLoadDone tile => Sys2Proof.Machine.execTblLoadDone tile s
  | .tblGenSwitch tile => Sys2Proof.Machine.execTblGenSwitch tile s
  | .relayEntryWrite h reg value => Sys2Proof.Machine.execRelayEntryWrite h reg value s
  | .normSetWrite set reg value => Sys2Proof.Machine.execNormSetWrite set reg value s
  | .contrib p k => Sys2Proof.Machine.execContrib p k s
  | .partialSum p k => Sys2Proof.Machine.execPartialSum p k s
  | .result p k => Sys2Proof.Machine.execResult p k s
  | .exptab p k => Sys2Proof.Machine.execExptab p k s
  | .prepass p k => Sys2Proof.Machine.execPrepass p k s
  | .norm p k => Sys2Proof.Machine.execNorm p k s
  | .normres p k => Sys2Proof.Machine.execNormres p k s
  | .relayLocalAccept h slot block => Sys2Proof.Machine.execRelayLocalAccept h slot block s
  | .relayBlockSend h block => Sys2Proof.Machine.execRelayBlockSend h block s
  | .noiseRecordWrite set => Sys2Proof.Machine.execNoiseRecordWrite set s
  | .noiseTailWrite tail => Sys2Proof.Machine.execNoiseTailWrite tail s
  | .relayTimeout h => Sys2Proof.Machine.execRelayTimeout h s
  | .cxlPortTrain q mode speed width msix => Sys2Proof.Machine.execCxlPortTrain q mode speed width msix s
  | .cxlPortDown q => Sys2Proof.Machine.execCxlPortDown q s
  | .portReset q => Sys2Proof.Machine.execPortReset q s
  | .windowLock q ix => Sys2Proof.Machine.execWindowLock q ix s
  | .hostBar4Access q a => Sys2Proof.Machine.execHostBar4Access q a s
  | .streamEnable st => Sys2Proof.Machine.execStreamEnable st s
  | .streamDisable st => Sys2Proof.Machine.execStreamDisable st s
  | .streamStop st => Sys2Proof.Machine.execStreamStop st s
  | .streamResume st => Sys2Proof.Machine.execStreamResume st s
  | .tailLineInvalidate st tail => Sys2Proof.Machine.execTailLineInvalidate st tail s
  | .doorbell st tail => Sys2Proof.Machine.execDoorbell st tail s
  | .entryFetch st entry => Sys2Proof.Machine.execEntryFetch st entry s
  | .commandAccept st => Sys2Proof.Machine.execCommandAccept st s
  | .jtailWrite tail => Sys2Proof.Machine.execJtailWrite tail s
  | .cplHeadWrite st head => Sys2Proof.Machine.execCplHeadWrite st head s
  | .launch k => Sys2Proof.Machine.execLaunch k s
  | .launchComplete k => Sys2Proof.Machine.execLaunchComplete k s
  | .copy k => Sys2Proof.Machine.execCopy k s
  | .copyT k => Sys2Proof.Machine.execCopyT k s
  | .cave k => Sys2Proof.Machine.execCave k s
  | .relaySet k => Sys2Proof.Machine.execRelaySet k s
  | .pisteLoad k => Sys2Proof.Machine.execPisteLoad k s
  | .checkpointSave k => Sys2Proof.Machine.execCheckpointSave k s
  | .checkpointFill k => Sys2Proof.Machine.execCheckpointFill k s
  | .ingest k => Sys2Proof.Machine.execIngest k s
  | .licence k => Sys2Proof.Machine.execLicence k s
  | .bist k => Sys2Proof.Machine.execBist k s
  | .resync k => Sys2Proof.Machine.execResync k s
  | .nopCommand k => Sys2Proof.Machine.execNopCommand k s
  | .commitPoint st => Sys2Proof.Machine.execCommitPoint st s
  | .sampleDispatch => Sys2Proof.Machine.execSampleDispatch s
  | .ingestLogWrite => Sys2Proof.Machine.execIngestLogWrite s
  | .sampleDone pipe => Sys2Proof.Machine.execSampleDone pipe s
  | .ingLogTailWrite tail => Sys2Proof.Machine.execIngLogTailWrite tail s
  | .ingPipesEnWrite en => Sys2Proof.Machine.execIngPipesEnWrite en s
  | .jobEnable => Sys2Proof.Machine.execJobEnable s
  | .jobDisable => Sys2Proof.Machine.execJobDisable s
  | .stepBegin verify step mapGen => Sys2Proof.Machine.execStepBegin verify step mapGen s
  | .stepEnd => Sys2Proof.Machine.execStepEnd s
  | .stepAbort => Sys2Proof.Machine.execStepAbort s
  | .jobLossWrite t loss => Sys2Proof.Machine.execJobLossWrite t loss s
  | .fillPlanWrite plan => Sys2Proof.Machine.execFillPlanWrite plan s
  | .flowRouteSwitch dst vc => Sys2Proof.Machine.execFlowRouteSwitch dst vc s
  | .stepRecordWrite => Sys2Proof.Machine.execStepRecordWrite s
  | .srecTailWrite tail => Sys2Proof.Machine.execSrecTailWrite tail s
  | .powerGoodRise slotId => Sys2Proof.Machine.execPowerGoodRise slotId s
  | .powerGoodFall => Sys2Proof.Machine.execPowerGoodFall s
  | .inputVoltageLow mv => Sys2Proof.Machine.execInputVoltageLow mv s
  | .sidebandReset us => Sys2Proof.Machine.execSidebandReset us s
  | .stage0Done flashOk => Sys2Proof.Machine.execStage0Done flashOk s
  | .firmwareSelect a b lic pend => Sys2Proof.Machine.execFirmwareSelect a b lic pend s
  | .fwSlotWrite slotB img => Sys2Proof.Machine.execFwSlotWrite slotB img s
  | .stage2Start dimms fails => Sys2Proof.Machine.execStage2Start dimms fails s
  | .dramTrainingDone tier unit ok c => Sys2Proof.Machine.execDramTrainingDone tier unit ok c s
  | .stage2Done => Sys2Proof.Machine.execStage2Done s
  | .liftRailCheck bad supply => Sys2Proof.Machine.execLiftRailCheck bad supply s
  | .liftBistEnd fails => Sys2Proof.Machine.execLiftBistEnd fails s
  | .xtalDelayExpiry => Sys2Proof.Machine.execXtalDelayExpiry s
  | .xtalQualWindowEnd edges count => Sys2Proof.Machine.execXtalQualWindowEnd edges count s
  | .xtalRetryTimer => Sys2Proof.Machine.execXtalRetryTimer s
  | .xtalMonitorWindowEnd count => Sys2Proof.Machine.execXtalMonitorWindowEnd count s
  | .pllLock locked => Sys2Proof.Machine.execPllLock locked s
  | .domainRampStep d => Sys2Proof.Machine.execDomainRampStep d s
  | .coreRatioWrite num den => Sys2Proof.Machine.execCoreRatioWrite num den s
  | .droopDetect tile => Sys2Proof.Machine.execDroopDetect tile s
  | .droopRecover tile => Sys2Proof.Machine.execDroopRecover tile s
  | .freqCountGate d count => Sys2Proof.Machine.execFreqCountGate d count s
  | .powerControlTick panelW dimmW hottest => Sys2Proof.Machine.execPowerControlTick panelW dimmW hottest s
  | .tileTempTrip tile temp => Sys2Proof.Machine.execTileTempTrip tile temp s
  | .coolantSample inlet flow => Sys2Proof.Machine.execCoolantSample inlet flow s
  | .coolantTripTimer => Sys2Proof.Machine.execCoolantTripTimer s
  | .iinLimitReached da => Sys2Proof.Machine.execIinLimitReached da s
  | .iinLimitClear da => Sys2Proof.Machine.execIinLimitClear da s
  | .bgSettingCheck u o => Sys2Proof.Machine.execBgSettingCheck u o s
  | .quietWindowRetrain => Sys2Proof.Machine.execQuietWindowRetrain s
  | .retrainDone ok c => Sys2Proof.Machine.execRetrainDone ok c s
  | .cprRequest => Sys2Proof.Machine.execCprRequest s
  | .railFault => Sys2Proof.Machine.execRailFault s
  | .cprRelease => Sys2Proof.Machine.execCprRelease s
  | .computeBringupStep => Sys2Proof.Machine.execComputeBringupStep s
  | .computeBringupDone => Sys2Proof.Machine.execComputeBringupDone s
  | .svnCommit => Sys2Proof.Machine.execSvnCommit s
  | .svnFuseDone => Sys2Proof.Machine.execSvnFuseDone s
  | .rngHealthTest pass => Sys2Proof.Machine.execRngHealthTest pass s
  | .bistGroupDone rs => Sys2Proof.Machine.execBistGroupDone rs s
  | .wdtKick agent => Sys2Proof.Machine.execWdtKick agent s
  | .wdtExpiry => Sys2Proof.Machine.execWdtExpiry s
  | .fwLoadStart => Sys2Proof.Machine.execFwLoadStart s
  | .fwchunk p k => Sys2Proof.Machine.execFwchunk p k s
  | .fwstatus p k => Sys2Proof.Machine.execFwstatus p k s
  | .fwImageTimeout src => Sys2Proof.Machine.execFwImageTimeout src s
  | .resyncSnapshotRefresh => Sys2Proof.Machine.execResyncSnapshotRefresh s
  | .mctpResyncPage page => Sys2Proof.Machine.execMctpResyncPage page s
  | .getVersion m => Sys2Proof.Machine.execGetVersion m s
  | .getCapabilities m => Sys2Proof.Machine.execGetCapabilities m s
  | .negotiateAlgorithms m => Sys2Proof.Machine.execNegotiateAlgorithms m s
  | .getDigests m => Sys2Proof.Machine.execGetDigests m s
  | .getCertificate m => Sys2Proof.Machine.execGetCertificate m s
  | .challenge m => Sys2Proof.Machine.execChallenge m s
  | .getMeasurements m => Sys2Proof.Machine.execGetMeasurements m s
  | .keyExchange m => Sys2Proof.Machine.execKeyExchange m s
  | .finish m => Sys2Proof.Machine.execFinish m s
  | .heartbeat m => Sys2Proof.Machine.execHeartbeat m s
  | .keyUpdate m => Sys2Proof.Machine.execKeyUpdate m s
  | .endSession m => Sys2Proof.Machine.execEndSession m s
  | .cableSeated p watts => Sys2Proof.Machine.execCableSeated p watts s
  | .cableRemoved p => Sys2Proof.Machine.execCableRemoved p s
  | .cableOverdraw p => Sys2Proof.Machine.execCableOverdraw p s
  | .dimmOverdraw unit => Sys2Proof.Machine.execDimmOverdraw unit s
  | .dimmOverdrawClear unit => Sys2Proof.Machine.execDimmOverdrawClear unit s
  | .dimmFuseOpen unit => Sys2Proof.Machine.execDimmFuseOpen unit s
  | .leakDetect => Sys2Proof.Machine.execLeakDetect s
  | .leakClear => Sys2Proof.Machine.execLeakClear s
  | .i3cAddressAssign addr => Sys2Proof.Machine.execI3cAddressAssign addr s
  | .twinGraceExpiry h => Sys2Proof.Machine.execTwinGraceExpiry h s
  | .caveSlotCopyDone => Sys2Proof.Machine.execCaveSlotCopyDone s
  | .doeDiscovery q index => Sys2Proof.Machine.execDoeDiscovery q index s
  | .cxlTableAccess q handle => Sys2Proof.Machine.execCxlTableAccess q handle s
  | .ideKm q m => Sys2Proof.Machine.execIdeKm q m s
  | .dvsecWrite q off value => Sys2Proof.Machine.execDvsecWrite q off value s

end Sys2Proof.Machine
end

