-- ==== Sys2Proof/WellFormed.lean ====
section
/-! DEFINITION. Which commands are well formed: their operands of no fixed size have a size and values that the spec's layouts
allow. The effect of a command is defined on ill-formed ones too; nothing in the machine depends on these checks. -/

namespace Sys2Proof

/-- R317: LEN is 0 to 4,096. -/
def Packet.wf (k : Packet) : Bool := decide (k.body.length ≤ 4096)

/-- R305: a flit's body is 256 bytes. -/
def Flit.wf (f : Flit) : Bool := decide (f.body.length = 256)

/-- R617: a slot holds at most its 512-byte header and an image of 8 MiB. -/
def FwSlot.wf (f : FwSlot) : Bool := decide (f.image.length ≤ 512 + 8 * 2 ^ 20)

/-- R624: a licence record is 128 bytes, or could not be read. -/
def Licence.wf (l : Licence) : Bool := decide (l.bytes.length = 128 ∨ l.bytes = [])

/-- R501: an access moves at least one byte. -/
def Bar4Access.wf (a : Bar4Access) : Bool := decide (a.bytes ≠ [])

/-- R527: an AES-GCM key has 256 bits; a message that carries none has an empty one. -/
def IdeKm.wf (m : IdeKm) : Bool := decide (m.key.length = 32 ∨ m.key = [])

/-- R288: a near unit is one of 16 stacks. -/
def unitWf (k : Tier) (u : Fin 24) : Bool := k = .far || decide (u.val < 16)

/-- R264, R265: a far tier has at most 16,384 regions of 1 GiB, a near tier 1,024. -/
def regionWf (k : Tier) (r : Nat) : Bool := decide (r < (if k = .far then 16384 else 1024))

/-- R44, R278: the lines of the DRAM tiers and of the tiles. -/
def lineWf (l : Nat) : Bool := decide (l < 0x110240000000 / 64)

/-- The operands of a command are well formed. -/
def Instr.wf : Instr → Bool
  | .flitReceive _ f _ => f.wf
  | .loadReq _ k | .loadResp _ k | .store _ k | .atomic _ k | .atomicResp _ k | .status _ k | .ack _ k | .nack _ k
  | .close _ k | .notice _ k | .bulk _ k | .lapgeo _ k | .lap _ k | .contrib _ k | .partialSum _ k | .result _ k
  | .exptab _ k | .prepass _ k | .norm _ k | .normres _ k | .fwchunk _ k | .fwstatus _ k => k.wf
  | .firmwareSelect a b l p => a.wf && b.wf && l.wf && p.wf
  | .fwSlotWrite _ f => f.wf
  | .hostBar4Access _ a => a.wf
  | .ideKm _ m => m.wf
  | .regionInitDone k r => regionWf k r
  | .queueHotDetect k u _ | .actLimitReached k u _ | .refreshWindowEnd k u | .dramTempReport k u _ | .dramTrainingDone k u _ _ =>
    unitWf k u
  | .patrolScrubRead l _ _ _ | .scrubWriteback l => lineWf l
  | _ => true

end Sys2Proof
end

