-- ==== Sys2Proof/Safety.lean ====
section
/-! DEFINITION. What counts as a safe run, in the terms the statements use: the canonical forms that the plain data of a state
keeps, when an instruction word may issue, and what a retirement leaves. -/

namespace Sys2Proof.Machine

/-- The memory of the module is in canonical form: addresses rising, no zero listed. -/
def State.MemWf (s : State) : Prop := Memory.wf s.mem = true

/-- Every command that waits is well formed. -/
def State.QueueWf (s : State) : Prop := ∀ c ∈ s.pending, Instr.wf c = true

/-- The registers that the guard of a word reads (R471). -/
def guardRegs (w : IWord) : List Nat := if w.pred = 0 then [] else [pR (w.pred.toNat - 1)]

/-- A word of a thread comes to its own effect: the thread holds a program and runs (R59), no failure of an earlier instruction
is due (R478), the word and its extension lie in the vat unpoisoned (R65, R284), it breaks no rule of encoding (R470 to R472),
no load under way writes a register it names (R63), and an implicit gate is open (R103, R104). -/
structure State.Ready (s : State) (t : Tid) (w : IWord) (form gate : Bool) (regs : List Nat) : Prop where
  live : s.live t.code = true
  due : (s.thread t.code).due = none
  inVat : (s.regs t.code).pc < 0x4000000
  clean : s.poisoned (tileBase (tileOf t.code) + (s.regs t.code).pc) 8 = false
  legal : form = true
  extIn : w.x = true → (s.regs t.code).pc + 8 < 0x4000000
  extClean : w.x = true → s.poisoned (tileBase (tileOf t.code) + (s.regs t.code).pc + 8) 8 = false
  idle : (s.thread t.code).busy (guardRegs w ++ regs) = false
  solid : gate = true → (s.thread t.code).ckpts = [] ∧ (s.regs t.code).held = none

/-- R471: the guard of a word that is not lane-wise lets it act. -/
def State.Enabled (s : State) (t : Tid) (w : IWord) : Prop :=
  w.pred = 0 ∨ ((s.regs t.code).guard w).getLsbD 0 = true

/-- R98: a guard is control flow: the thread's control tag takes the tag of the predicate. -/
def TRegs.past (r : TRegs) (w : IWord) : TRegs :=
  if w.pred = 0 then r else { r with ctrl := r.ctrl ||| r.guardTag w }

/-- R97: the tag of a result: the tags of the registers read and the control tag. -/
def TRegs.resultTag (r : TRegs) (w : IWord) (reads : List Nat) : BitVec 8 :=
  (r.past w).tagsOf reads ||| (r.past w).ctrl

/-- R97, R471: the tag of a lane-wise result: the guard's tag besides. -/
def TRegs.laneTag (r : TRegs) (w : IWord) (reads : List Nat) : BitVec 8 := r.tagsOf reads ||| r.ctrl ||| r.guardTag w

/-- The thread alone has changed: it is ready past the word, its registers changed by f. -/
def State.retire (s : State) (t : Tid) (w : IWord) (f : TRegs → TRegs) : State :=
  let x := s.thread t.code
  s.setThread t.code { x with st := .ready, waitBar := none, regs := { f (x.regs.past w) with pc := x.regs.pc + w.size } }

/-- The same for a lane-wise word, whose guard is no control flow. -/
def State.retireLane (s : State) (t : Tid) (w : IWord) (f : TRegs → TRegs) : State :=
  let x := s.thread t.code
  s.setThread t.code { x with st := .ready, waitBar := none, regs := { f x.regs with pc := x.regs.pc + w.size } }

/-- The thread alone has changed: it is ready at a place, its registers changed by f. -/
def State.jumped (s : State) (t : Tid) (w : IWord) (pc : Nat) (f : TRegs → TRegs) : State :=
  let x := s.thread t.code
  s.setThread t.code { x with st := .ready, waitBar := none, regs := { f (x.regs.past w) with pc := pc } }

/-- The state behind an enabled guard, before the instruction's own effect. -/
def State.pastGuard (s : State) (t : Tid) (w : IWord) : State :=
  if w.pred = 0 then s else s.modRegs t.code (fun r => r.past w)

/-- The thread moves past the word and is ready. -/
def State.advance (s : State) (t : Tid) (w : IWord) : State := s.goTo t.code ((s.regs t.code).pc + w.size)

/-- An instruction's access to its tile's SRAM meets nothing that stops it, and goes on in a state with the tags of the lines
read: the array owes it no line (R63), no bank it touches is held (R282), no line glides out of its reach (R101), no poison is in its way (R285, R286), and
the shadow store has room (R107). -/
structure State.Opens (s : State) (t : Nat) (rd wr : List (Nat × Nat)) (tag : BitVec 8) (u : State) : Prop where
  owes : s.arrayOwes t rd = false
  holds : s.arrayHolds t wr = false
  rests : s.anyHeld (rd ++ wr) = false
  tags : s.readTag t (rangeLines rd) = some tag
  clean : s.rangesPoisoned rd = false
  whole : s.partPoison wr = false
  room : s.shadowLines t ((rangeLines wr).filter (lineInCore (coreOf t))) = some u

/-- A command answers a next state of which something holds. -/
def Answers (i : Instr) (s : State) (P : State → Prop) : Prop := ∃ u, exec i s = .next u ∧ P u

/-- Two states differ in the thread t at most. -/
def State.SameBut (t : Nat) (s u : State) : Prop :=
  { u with threads := s.threads } = s ∧ ∀ x, x ≠ t → u.thread x = s.thread x

/-- R511: a command of a stream starts now: it is held, it may start, and its body names nothing beside its fields. -/
structure State.Starts (s : State) (k : CmdRef) (opc : Nat) (used : List (Nat × Nat)) (c : Cmd) : Prop where
  held : s.cmd k = some c
  may : s.mayStart k [opc] = true
  clean : c.clean used = true

/-- R52, R503: the host reaches the block of a register: stage 1 has completed and nothing refuses the block. -/
def State.Hears (s : State) (b : Nat) : Prop := s.boot.done1 = true ∧ s.blockRefusal b = 0

end Sys2Proof.Machine
end

