-- ==== Sys2Proof/Certificates/Slice0/Obligations.lean ====
section
/-! DEFINITION. The statements for the provers. -/

open Sys2Proof Sys2Proof.Machine

/-- A step with a command waiting is exec of that command on the state with the rest of the queue. With none waiting one edge of the
core clock passes (the model's choice, log entry 1): every core counts a cycle, but for an edge the input-current limit drops (R607), and
the 16th edge for a tile that stretches its clock (R593).
After it the peers' requests that waited (R282, R322) are served as far as they may be. -/
def Obligations.StepRunsFront : Prop :=
  ∀ (c : Instr) (rest : List Instr) (s : State),
    step { s with pending := c :: rest } = exec c { s with pending := rest } ∧
    (∀ u : State, u.inbox = [] → u.serveInbox = u) ∧
    (s.pending = [] → ¬ s.computeUp = true → step s = .next s.serveInbox) ∧
    (s.pending = [] → s.computeUp = true →
      let dropped := s.boot.dropped ≠ 0 ∧ s.edges % s.boot.dropped = s.boot.dropped - 1
      let stretched (tile : Nat) := tile ∈ s.boot.droop ∧ s.edges % 16 = 15
      ∃ u : State, step s = .next u.serveInbox ∧ { u with edges := s.edges, cycle := s.cycle, lost := s.lost } = s ∧ u.edges = s.edges + 1 ∧
        (dropped → u.cycle = s.cycle ∧ u.lost = s.lost) ∧
        (¬ dropped → u.cycle = s.cycle + 1 ∧
          (s.boot.droop.Nodup → ∀ tile, (stretched tile → u.lost.getD tile 0 = s.lost.getD tile 0 + 1) ∧
            (¬ stretched tile → u.lost.getD tile 0 = s.lost.getD tile 0))))

/-- R482: gA takes the result of B and C, where C is a register or IMM10; shifts use C[5:0], MUL keeps the low 64 bits, CMP writes
1 or 0. The whole next state is given: the thread alone changes, in gA with its tag (R97), its state and its program counter. -/
def Obligations.ScalarResults : Prop :=
  ∀ (t : Tid) (w : IWord) (s : State),
    s.Enabled t w →
    let r := s.regs t.code
    let b := r.getG w.b.toNat
    let c := if w.m 0 then BitVec.ofInt 64 w.simm else r.getG w.c.toNat
    let n := c.toNat % 64
    let reads := if w.m 0 then [gR w.b.toNat] else [gR w.b.toNat, gR w.c.toNat]
    let wrote (v : BitVec 64) : Host.Outcome State Fault Refusal :=
      .next (s.retire t w (fun q => q.setG w.a.toNat v (r.resultTag w reads)))
    (s.Ready t w ((scalarForm w 1).ok w) false (reads ++ [gR w.a.toNat]) →
      exec (.add t w) s = wrote (b + c) ∧ exec (.sub t w) s = wrote (b - c) ∧ exec (.mul t w) s = wrote (b * c) ∧
      exec (.and t w) s = wrote (b &&& c) ∧ exec (.or t w) s = wrote (b ||| c) ∧ exec (.xor t w) s = wrote (b ^^^ c) ∧
      exec (.shl t w) s = wrote (b <<< n) ∧ exec (.shr t w) s = wrote (b >>> n) ∧
      exec (.sar t w) s = wrote (b.sshiftRight n) ∧
      exec (.smin t w) s = wrote (if b.toInt ≤ c.toInt then b else c) ∧
      exec (.smax t w) s = wrote (if b.toInt ≤ c.toInt then c else b) ∧
      exec (.umin t w) s = wrote (if b.toNat ≤ c.toNat then b else c) ∧
      exec (.umax t w) s = wrote (if b.toNat ≤ c.toNat then c else b)) ∧
    (s.Ready t w ((scalarForm w 0xF).ok w) false (reads ++ [gR w.a.toNat]) →
      (w.ms 1 3 = 0 → exec (.cmp t w) s = wrote (if b = c then 1 else 0)) ∧
      (w.ms 1 3 = 1 → exec (.cmp t w) s = wrote (if b ≠ c then 1 else 0)) ∧
      (w.ms 1 3 = 2 → exec (.cmp t w) s = wrote (if b.toInt < c.toInt then 1 else 0)) ∧
      (w.ms 1 3 = 3 → exec (.cmp t w) s = wrote (if b.toInt ≤ c.toInt then 1 else 0)) ∧
      (w.ms 1 3 = 4 → exec (.cmp t w) s = wrote (if b.toNat < c.toNat then 1 else 0)) ∧
      (w.ms 1 3 = 5 → exec (.cmp t w) s = wrote (if b.toNat ≤ c.toNat then 1 else 0)))

/-- R467, R480, R482, R483: the immediate, the selected register, the predicate, the descriptor and its two halves, the cycle
counter (R117) and the status word of a thread that is READY (R70). The whole next state is given. -/
def Obligations.RegisterMoves : Prop :=
  ∀ (t : Tid) (w : IWord) (s : State),
    s.Enabled t w →
    let r := s.regs t.code
    let did (f : TRegs → TRegs) : Host.Outcome State Fault Refusal := .next (s.retire t w f)
    let a := w.a.toNat
    let b := w.b.toNat
    let c := w.c.toNat
    let d := w.d.toNat
    let plain (f : Form) (regs : List Nat) : Prop := s.Ready t w (f.ok w) false regs
    (w.mod = 0 → w.pred.toNat ≤ 16 → (w.x = true → w.b = 0 ∧ w.c = 0 ∧ w.d = 0 ∧ w.imm = 0) → s.Ready t w true false [gR a] →
      exec (.movi t w) s = did (fun q => q.setG a (if w.x then w.ext else BitVec.ofInt 64 w.imm28) (r.resultTag w []))) ∧
    (plain { a := .g, b := .g, c := .g, d := .p } [gR b, gR c, pR d, gR a] →
      exec (.sel t w) s = did (fun q => q.setG a (if (r.getP d).getLsbD 0 then r.getG b else r.getG c)
        (r.resultTag w [gR b, gR c, pR d]))) ∧
    (plain { a := .p, b := .g } [gR b, pR a] →
      exec (.pset t w) s = did (fun q => q.setP a (r.getG b) (r.resultTag w [gR b]))) ∧
    (plain { a := .g, b := .p } [pR b, gR a] →
      exec (.pget t w) s = did (fun q => q.setG a (r.getP b) (r.resultTag w [pR b]))) ∧
    (plain { a := .d, b := .g, c := .g } [gR b, gR c, dR a] →
      exec (.dscSet t w) s = did (fun q => q.setD a (r.getG c ++ r.getG b) (r.resultTag w [gR b, gR c]))) ∧
    (plain { a := .g, b := .g, c := .d } [dR c, gR a, gR b] →
      exec (.dscGet t w) s = did (fun q => (q.setG a ((r.getD' c).extractLsb' 0 64) (r.resultTag w [dR c])).setG b
        ((r.getD' c).extractLsb' 64 64) (r.resultTag w [dR c]))) ∧
    (plain { a := .d, b := .g, c := .g } [dR a, gR b, gR c, dR a] →
      exec (.dscOfs t w) s = did (fun q => q.setD a (descOffset (r.getD' a) (r.getG b) (r.getG c))
        (r.resultTag w [dR a, gR b, gR c]))) ∧
    (plain { a := .g } [gR a] →
      exec (.cycRead t w) s = did (fun q => q.setG a (BitVec.ofNat 64 (s.cycle - s.lost.getD (tileOf t.code) 0)) (r.resultTag w []))) ∧
    (plain { a := .g } [gR a] →
      let x : Thread := { s.thread t.code with st := .ready, regs := r.past w }
      exec (.stRead t w) s = did (fun q => q.setG a (BitVec.ofNat 64 x.status) (r.resultTag w [])))

/-- R483: the descriptor that DSC.OFS writes, field by field, and the two halves of the one that DSC.SET writes. -/
def Obligations.DescriptorFields : Prop :=
  (∀ (d : BitVec 128) (b c : BitVec 64),
    bits (descOffset d b c).toNat 0 28 = (bits d.toNat 0 28 + b.toNat) % 2 ^ 28 ∧
    bits (descOffset d b c).toNat 96 28 = (bits d.toNat 96 28 + c.toNat) % 2 ^ 28 ∧
    bits (descOffset d b c).toNat 28 68 = bits d.toNat 28 68 ∧
    bits (descOffset d b c).toNat 124 4 = bits d.toNat 124 4) ∧
  (∀ (b c : BitVec 64), (c ++ b : BitVec 128).toNat = c.toNat * 2 ^ 64 + b.toNat ∧
    (c ++ b : BitVec 128).extractLsb' 0 64 = b ∧ (c ++ b : BitVec 128).extractLsb' 64 64 = c) ∧
  (∀ (t : Tid) (w : IWord) (s : State), s.Enabled t w →
    let r := s.regs t.code
    (s.Ready t w (({ a := .d, b := .g, c := .g } : Form).ok w) false [gR w.b.toNat, gR w.c.toNat, dR w.a.toNat] →
      exec (.dscSet t w) s = .next (s.retire t w (fun q => q.setD w.a.toNat (r.getG w.c.toNat ++ r.getG w.b.toNat)
        (r.resultTag w [gR w.b.toNat, gR w.c.toNat])))) ∧
    (s.Ready t w (({ a := .g, b := .g, c := .d } : Form).ok w) false [dR w.c.toNat, gR w.a.toNat, gR w.b.toNat] →
      w.a ≠ w.b →
      exec (.dscGet t w) s = .next (s.retire t w (fun q =>
        (q.setG w.a.toNat ((r.getD' w.c.toNat).extractLsb' 0 64) (r.resultTag w [dR w.c.toNat])).setG w.b.toNat
          ((r.getD' w.c.toNat).extractLsb' 64 64) (r.resultTag w [dR w.c.toNat])))) ∧
    (s.Ready t w (({ a := .d, b := .g, c := .g } : Form).ok w) false [dR w.a.toNat, gR w.b.toNat, gR w.c.toNat, dR w.a.toNat] →
      exec (.dscOfs t w) s = .next (s.retire t w (fun q =>
        q.setD w.a.toNat (descOffset (r.getD' w.a.toNat) (r.getG w.b.toNat) (r.getG w.c.toNat))
          (r.resultTag w [dR w.a.toNat, gR w.b.toNat, gR w.c.toNat])))))

/-- R480: NOP. R104: GATE where its thread takes part in no window. R228: RNG.SEEK computes the key from the step number then
current and the module, tile and core, or from the logical position with .POS, and sets the counter. -/
def Obligations.NopGateSeek : Prop :=
  ∀ (t : Tid) (w : IWord) (s : State),
    s.Enabled t w →
    let r := s.regs t.code
    let did (f : TRegs → TRegs) : Host.Outcome State Fault Refusal := .next (s.retire t w f)
    (s.Ready t w (({} : Form).ok w) false [] → exec (.nop t w) s = did id) ∧
    (s.Ready t w (({} : Form).ok w) true [] → exec (.gate t w) s = did id) ∧
    (w.mod = 0 → s.Ready t w (({ a := .g } : Form).ok w) false [gR w.a.toNat] →
      exec (.rngSeek t w) s = did (fun q => { q with key := s.rngKey t.code, ctr := (r.getG w.a.toNat).setWidth 58 })) ∧
    (w.mod = 1 → s.Ready t w (({ a := .g, b := .g, mods := 1 } : Form).ok w) false [gR w.a.toNat, gR w.b.toNat] →
      exec (.rngSeekPos t w) s = did (fun q =>
        { q with key := s.rngKeyPos (r.getG w.b.toNat).toNat, ctr := (r.getG w.a.toNat).setWidth 58 }))

/-- R481: a relative branch goes to PC + 8 * IMM28, RET to the offset in gA, and CALL writes PC + 8 to gA first; R65: the target is a
multiple of 8 below 0x0400_0000; R98: a test makes the control flow carry the tag of the register tested, taken or not. -/
def Obligations.BranchTargets : Prop :=
  ∀ (t : Tid) (w : IWord) (s : State),
    s.Enabled t w →
    let r := s.regs t.code
    let a := w.a.toNat
    let target := branchTarget s t w
    let near (x : Int) : Prop := 0 ≤ x ∧ x < 0x4000000 ∧ x % 8 = 0
    let jump (pc : Nat) (f : TRegs → TRegs) : Host.Outcome State Fault Refusal := .next (s.jumped t w pc f)
    let tested (reg : Nat) (q : TRegs) : TRegs := { q with ctrl := q.ctrl ||| q.tag reg }
    let cond (reg : Nat) (c : Prop) (i : Instr) : Prop :=
      (c → exec i s = jump target.toNat (tested reg)) ∧ (¬ c → exec i s = .next (s.retire t w (tested reg)))
    target = (r.pc : Int) + 8 * w.imm28 ∧
    (near target →
      (s.Ready t w (formIOk .none w) false [] → exec (.br t w) s = jump target.toNat id) ∧
      (s.Ready t w (formIOk .g w) false [gR a] →
        cond (gR a) (r.getG a = 0) (.brz t w) ∧ cond (gR a) (r.getG a ≠ 0) (.brnz t w) ∧
        exec (.call t w) s = jump target.toNat (fun q => q.setG a (BitVec.ofNat 64 (r.pc + 8)) (r.resultTag w []))) ∧
      (s.Ready t w (formIOk .p w) false [pR a] →
        cond (pR a) ((r.getP a).getLsbD 0 = true) (.brp t w) ∧ cond (pR a) (¬ (r.getP a).getLsbD 0 = true) (.brnp t w))) ∧
    (near (r.getG a).toNat → s.Ready t w (({ a := .g } : Form).ok w) false [gR a] →
      exec (.ret t w) s = jump (r.getG a).toNat (tested (gR a)))

/-- R471: a lane whose guard bit is 0 keeps its bits. R250, R254: lanes from the row count on keep theirs. -/
def Obligations.LaneMask : Prop :=
  ∀ (old : BitVec 2048) (g : BitVec 64) (n : Nat) (f : Nat → Nat) (i : Nat), i < 64 →
    (g.getLsbD i = true → lane (vLanes old g f) i = f i % 2 ^ 32) ∧
    (g.getLsbD i = false → lane (vLanes old g f) i = lane old i) ∧
    (i < n → lane (vBelow old n f) i = f i % 2 ^ 32) ∧
    (n ≤ i → lane (vBelow old n f) i = lane old i) ∧
    (∀ w j x k, (j + 1) * w ≤ 2048 → (k + 1) * w ≤ 2048 →
      vElem (vPut old (w * j) w x) w k = if k = j then x % 2 ^ w else vElem old w k)

/-- R493: the result of each enabled lane; R471: the others keep their bits and their tag joins; the whole next state is given. The
arithmetic is that of the FP32 functions of the model, each rounding once. -/
def Obligations.FloatLanes : Prop :=
  ∀ (t : Tid) (w : IWord) (s : State),
    let r := s.regs t.code
    let a := w.a.toNat
    let B (i : Nat) := lane (r.getV w.b.toNat) i
    let C (i : Nat) := lane (r.getV w.c.toNat) i
    let D (i : Nat) := lane (r.getV w.d.toNat) i
    let ready (f : Form) (reads : List Nat) : Prop := s.Ready t w (f.ok w) false (reads ++ [vR a])
    let lanes (i : Instr) (reads : List Nat) (f : Nat → Nat) : Prop :=
      exec i s = .next (s.retireLane t w (fun q =>
        q.setV a (vLanes (r.getV a) (r.guard w) f) (r.laneTag w reads ||| r.keepTag w (vR a))))
    (ready { a := .v, b := .v, c := .v } [vR w.b.toNat, vR w.c.toNat] →
      lanes (.vAdd t w) [vR w.b.toNat, vR w.c.toNat] (fun i => f32add (B i) (C i)) ∧
      lanes (.vSub t w) [vR w.b.toNat, vR w.c.toNat] (fun i => f32sub (B i) (C i)) ∧
      lanes (.vMul t w) [vR w.b.toNat, vR w.c.toNat] (fun i => f32mul (B i) (C i)) ∧
      lanes (.vMax t w) [vR w.b.toNat, vR w.c.toNat] (fun i => max2 (B i) (C i)) ∧
      lanes (.vMin t w) [vR w.b.toNat, vR w.c.toNat] (fun i => min2 (B i) (C i))) ∧
    (ready { a := .v, b := .v, c := .v, d := .v } [vR w.b.toNat, vR w.c.toNat, vR w.d.toNat] →
      lanes (.vFma t w) [vR w.b.toNat, vR w.c.toNat, vR w.d.toNat] (fun i => f32fma (B i) (C i) (D i))) ∧
    (ready { a := .v, b := .v } [vR w.b.toNat] →
      lanes (.vAbs t w) [vR w.b.toNat] (fun i => if (fp32.dec (B i)).isNan then quietNan (B i) else B i % 2 ^ 31) ∧
      lanes (.vNeg t w) [vR w.b.toNat] (fun i => if (fp32.dec (B i)).isNan then quietNan (B i) else B i ^^^ 0x80000000)) ∧
    (ready { a := .v, b := .v, c := .v, d := .p } [vR w.b.toNat, vR w.c.toNat, pR w.d.toNat] →
      lanes (.vSel t w) [vR w.b.toNat, vR w.c.toNat, pR w.d.toNat]
        (fun i => if (r.getP w.d.toNat).getLsbD i then B i else C i)) ∧
    (ready { a := .v, b := .g } [gR w.b.toNat] →
      lanes (.vBcast t w) [gR w.b.toNat] (fun _ => (r.getG w.b.toNat).toNat % 2 ^ 32)) ∧
    (ready { a := .v } [] → lanes (.vLaneid t w) [] (fun i => i))

/-- R493: 32-bit lanes wrap; shift counts are lane bits [4:0]. R471: disabled lanes keep their bits. The whole next state is given. -/
def Obligations.IntegerLanes : Prop :=
  ∀ (t : Tid) (w : IWord) (s : State),
    let r := s.regs t.code
    let a := w.a.toNat
    let B (i : Nat) := lane (r.getV w.b.toNat) i
    let C (i : Nat) := lane (r.getV w.c.toNat) i
    let reads := [vR w.b.toNat, vR w.c.toNat]
    let lanes (i : Instr) (f : Nat → Nat) : Prop :=
      exec i s = .next (s.retireLane t w (fun q =>
        q.setV a (vLanes (r.getV a) (r.guard w) f) (r.laneTag w reads ||| r.keepTag w (vR a))))
    s.Ready t w (({ a := .v, b := .v, c := .v } : Form).ok w) false (reads ++ [vR a]) →
      lanes (.vIadd t w) (fun i => B i + C i) ∧
      lanes (.vIsub t w) (fun i => B i + 2 ^ 32 - C i) ∧
      lanes (.vImul t w) (fun i => B i * C i) ∧
      lanes (.vAnd t w) (fun i => B i &&& C i) ∧
      lanes (.vOr t w) (fun i => B i ||| C i) ∧
      lanes (.vXor t w) (fun i => B i ^^^ C i) ∧
      lanes (.vShl t w) (fun i => B i * 2 ^ (C i % 32)) ∧
      lanes (.vShr t w) (fun i => B i / 2 ^ (C i % 32)) ∧
      lanes (.vSar t w) (fun i => toTwos 32 (Int.fdiv (signed 32 (B i)) (2 ^ (C i % 32) : Nat)))

/-- R493: V.CMP writes the predicate bits of the enabled lanes, V.EXTR a scalar. R494: V.CVT converts a group of 64 elements. R238: SF.*
writes FP32 lanes or, with MOD[0], a BF16 group. The conversions and functions are the model's, named by R194 and R241 to R248. -/
def Obligations.CompareExtractConvert : Prop :=
  ∀ (t : Tid) (w : IWord) (s : State),
    let r := s.regs t.code
    let a := w.a.toNat
    let B (i : Nat) := lane (r.getV w.b.toNat) i
    let C (i : Nat) := lane (r.getV w.c.toNat) i
    let sf (i : Instr) (k : Nat) : Prop :=
      exec i s = .next (s.retireLane t w (fun q =>
        q.setV a (vLanes (r.getV a) (r.guard w) (fun j => s.sfEval k fp32 (B j)))
          (r.laneTag w [vR w.b.toNat] ||| r.keepTag w (vR a))))
    let half (i : Instr) (k : Nat) : Prop :=
      exec i s = .next (s.retireLane t w (fun q =>
        q.setV a (((List.range 64).filter (fun j => (r.guard w).getLsbD j)).foldl (fun v j =>
            vPut v ((if w.m 1 then 1024 else 0) + 16 * j) 16 (s.sfEval k bf16 (B j))) (r.getV a))
          (r.laneTag w [vR w.b.toNat] ||| r.tag (vR a))))
    (s.Ready t w (({ a := .p, b := .v, c := .v, mods := 0xF } : Form).ok w && decide (w.ms 0 3 ≤ 5)) false
        [vR w.b.toNat, vR w.c.toNat, pR a] →
      ∃ p : BitVec 64, exec (.vCmp t w) s = .next (s.retireLane t w (fun q =>
          q.setP a p (r.laneTag w [vR w.b.toNat, vR w.c.toNat] ||| r.keepTag w (pR a)))) ∧
        ∀ i, i < 64 → p.getLsbD i = if (r.guard w).getLsbD i then laneCond (w.ms 0 3) (w.m 3) (B i) (C i)
          else (r.getP a).getLsbD i) ∧
    (s.Enabled t w → s.Ready t w (({ a := .g, b := .v, c := .g } : Form).ok w) false [vR w.b.toNat, gR w.c.toNat, gR a] →
      exec (.vExtr t w) s = .next (s.retire t w (fun q =>
        q.setG a (BitVec.ofNat 64 (B ((r.getG w.c.toNat).toNat % 64))) (r.resultTag w [vR w.b.toNat, gR w.c.toNat])))) ∧
    (
      let sf := w.ms 0 4
      let df := w.ms 4 4
      let bfx := sf = 9 ∨ df = 9
      let sw := fmtWidth sf
      let dw := fmtWidth df
      let reads := vR w.b.toNat :: (if bfx then [gR w.c.toNat] else [])
      let on := (List.range 64).filter (fun i => (r.guard w).getLsbD i)
      let cv := on.map (fun i => cvtElem sf df (signed 8 ((r.getG w.c.toNat).toNat % 256)) (w.m 14)
        (vElem (r.getV w.b.toNat) sw (64 * w.ms 8 3 + i)))
      let v := (on.zip cv).foldl (fun v x => vPut v (64 * dw * w.ms 11 3 + dw * x.1) dw x.2.code) (r.getV a)
      sf ≠ 10 → df ≠ 10 → fmtBad sf = false → fmtBad df = false → w.ms 8 3 < fmtGroups sf → w.ms 11 3 < fmtGroups df →
      s.Ready t w (({ a := .v, b := .v, c := if bfx then .g else .none, mods := 0x7FFF } : Form).ok w) false (reads ++ [vR a]) →
      exec (.vCvt t w) s = .next ((s.convFlags (coreOf t.code) cv).retireLane t w (fun q =>
        q.setV a (if dw = 6 then (v.setWidth 1920).setWidth 2048 else v) (r.laneTag w reads ||| r.tag (vR a))))) ∧
    (s.Ready t w (({ a := .v, b := .v, mods := 3 } : Form).ok w && (w.m 0 || !w.m 1)) false [vR w.b.toNat, vR a] →
      (w.m 0 = false →
        sf (.sfTanh t w) 0 ∧ sf (.sfLogistic t w) 1 ∧ sf (.sfExp2 t w) 2 ∧ sf (.sfRcp t w) 3 ∧ sf (.sfRsqrt t w) 4) ∧
      (w.m 0 = true →
        half (.sfTanh t w) 0 ∧ half (.sfLogistic t w) 1 ∧ half (.sfExp2 t w) 2 ∧ half (.sfRcp t w) 3 ∧ half (.sfRsqrt t w) 4))

/-- R138, R140: EXIT gives up the lease and the thread, once its array instructions have completed. R76, R77, R79: a fence retires when
nothing it orders is under way, and waits otherwise. R118 to R121: PHASE appends the record of the phase left. -/
def Obligations.ExitFencePhase : Prop :=
  (∀ (t : Tid) (w : IWord) (s : State), s.Enabled t w →
    let p := s.pastGuard t w
    let th := t.code
    let c := coreOf th
    let x := s.thread th
    let a := (s.core c).array
    let left : State := { s.setArray c (a.release (thOf th)) with threads := SMap.erase p.threads th }
    let ended : State := match x.owner with
      | none => left
      | some k => left.alterLaunch k (fun l => { l with live := l.live.filter (· ≠ th) })
    let plain (f : Form) (gate : Bool) : Prop := s.Ready t w (f.ok w) gate []
    (plain {} true →
      (a.q.any (fun o => decide (o.th = thOf th)) = false → exec (.exitThread t w) s = .next ended.phaseCheck) ∧
      (a.q.any (fun o => decide (o.th = thOf th)) = true → exec (.exitThread t w) s = .next (s.waitIn th .waitData))) ∧
    (plain { mods := 3 } false →
      ((x.loads.any (fun l => l.remote.isSome) = false ∧ (2 ≤ w.ms 0 2 → s.unacked th = false) →
          exec (.fenceRel t w) s = .next (s.retire t w id)) ∧
        (x.loads.any (fun l => l.remote.isSome) = true ∨ (2 ≤ w.ms 0 2 ∧ s.unacked th = true) →
          exec (.fenceRel t w) s = .next (s.waitIn th .waitSync)) ∧
        (x.loads = [] → exec (.fenceAcq t w) s = .next (s.retire t w id)) ∧
        (x.loads ≠ [] → exec (.fenceAcq t w) s = .next (s.waitIn th .waitSync)))) ∧
    (w.imm.toNat < 256 → plain { imm := true } true →
      ((s.core c).phase = w.imm.toNat → exec (.phase t w) s = .next (s.retire t w id)) ∧
      ((s.core c).phase ≠ w.imm.toNat →
        exec (.phase t w) s = .next (((p.changePhase c w.imm.toNat).phaseCheck).advance t w)))) ∧
  (∀ (s : State) (c n : Nat), c < 576 → n < 256 →
    let u := s.changePhase c n
    let head : Fld := Fd.TILE_PHASE_HEAD_HEAD (c / 16) (coreIdx c)
    let tail := Fd.TILE_PHASE_HEAD_TILE_TAIL (c / 16) (coreIdx c)
    let lost := Fd.TILE_PHASE_HEAD_OVERRUN (c / 16) (coreIdx c)
    let old := s.core c
    let full := (s.fld head + 1) % 256 = s.fld tail
    u.core c = { old with ring := old.ring.set (s.fld head) (s.phaseRecord c), phase := n, phaseStart := s.cycle - s.lost.getD (c / 16) 0 } ∧
    u.fld (Fd.TILE_PHASE_HEAD_CUR_PHASE (c / 16) (coreIdx c)) = n ∧
    u.fld head = (s.fld head + 1) % 256 ∧
    u.fld tail = (if full then (s.fld tail + 1) % 256 else s.fld tail % 256) ∧
    (full → u.fld lost = (s.fld lost + 1) % 2 ^ lost.len) ∧
    (¬ full → u.fld lost = s.fld lost) ∧
    u.mem = s.mem ∧ u.threads = s.threads ∧
    (
      let r := (s.phaseRecord c).toNat
     bits r 0 32 = s.fld Fd.JOB_STEP_STEP % 2 ^ 32 ∧ bits r 32 8 = old.phase % 256 ∧ bits r 40 4 = coreIdx c ∧
     bits r 44 20 = c / 16 ∧ bits r 64 64 = (s.cycle - s.lost.getD (c / 16) 0 - old.phaseStart) % 2 ^ 64))

/-- R84: BAR.INIT n sets COUNT and LEFT to n and clears PENDING, UNCONF, PHASE and BROKEN; on a BROKEN barrier BEPOCH counts up; on one
neither BROKEN nor idle it raises 0x0106. The object lies where the operand names it, and the access meets nothing that stops it. -/
def Obligations.BarrierInit : Prop :=
  ∀ (t : Tid) (w : IWord) (s u : State) (tag : BitVec 8), s.Enabled t w →
    let n := ((s.regs t.code).getG w.b.toNat).toNat
    let v := s.barOperand t w
    let a := barAddr t.code v
    let b := u.bar a
    let fresh (e : Nat) : Bar :=
      { pend := 0, left := n, count := n, unconf := 0, phase := false, broken := false, epoch := e, rest := b.rest }
    s.Ready t w (({ a := .g, b := .g } : Form).ok w) true [gR w.a.toNat, gR w.b.toNat] →
    0 < n → n < 2 ^ 16 → v ≠ 0 → barFault v = 0 → (s.pastGuard t w).Opens t.code [(a, 16)] [(a, 16)] tag u →
    (b.broken = true → exec (.barInit t w) s = .next ((u.setBar a (fresh ((b.epoch + 1) % 256))).advance t w)) ∧
    (b.broken = false → b.left = b.count → b.pend = 0 → b.unconf = 0 →
      exec (.barInit t w) s = .next ((u.setBar a (fresh b.epoch)).advance t w)) ∧
    (b.broken = false → ¬ (b.left = b.count ∧ b.pend = 0 ∧ b.unconf = 0) →
      exec (.barInit t w) s = .next (u.raise t.code 0x0106 w.size) ∧ (u.raise t.code 0x0106 w.size).mem = s.mem)

/-- R85, R88: an arrival updates the object, or raises 0x0107. R89: a wait retires when PHASE differs from q; BAR.WAIT.GLIDE also when only
gliding bytes are due, joining their windows; otherwise it waits. R82: an operand that names no object raises 0x0105. R122, the
model's reading: BAR.INIT 0 retires. -/
def Obligations.BarrierUse : Prop :=
  ∀ (t : Tid) (w : IWord) (s u : State) (tag : BitVec 8), s.Enabled t w →
    let th := t.code
    let v := s.barOperand t w
    let a := barAddr th v
    let b := u.bar a
    let p := s.pastGuard t w
    let ok (f : Form) (gate : Bool) (regs : List Nat) : Prop := s.Ready t w (f.ok w) gate (gR w.a.toNat :: regs)
    let object (rd wr : List (Nat × Nat)) : Prop := v ≠ 0 ∧ barFault v = 0 ∧ p.Opens th rd wr tag u
    let arrives (i : Instr) (n : Nat) : Prop :=
      object [(a, 16)] [(a, 16)] →
      (b.broken = false → (u.thread th).loads.any (fun l => l.remote.isSome) = false →
        ((b.arrive n).broken = false → exec i s = .next ((u.setBar a (b.arrive n)).advance t w)) ∧
        ((b.arrive n).broken = true → exec i s = .next ((u.breakBar a (b.arrive n)).raise th 0x0107 w.size))) ∧
      (b.broken = true → exec i s = .next (u.raise th 0x0107 w.size)) ∧
      (b.broken = false → (u.thread th).loads.any (fun l => l.remote.isSome) = true →
        exec i s = .next (u.setThread th { u.thread th with st := .waitData, regs := s.regs th }))
    let waits (i : Instr) (glides : Prop) : Prop :=
      object [(a, 16)] [] →
      (b.broken = true → exec i s = .next (u.raise th 0x0107 w.size)) ∧
      (b.broken = false → b.phase ≠ w.m 0 → (u.thread th).loads = [] → exec i s = .next (u.advance t w)) ∧
      (b.broken = false → (b.phase = w.m 0 ∨ (u.thread th).loads ≠ []) → ¬ glides →
        exec i s = .next (u.setThread th { u.thread th with st := .waitSync, waitBar := some a, regs := s.regs th }))
    let glides : Prop := b.left = 0 ∧ b.pend = 0 ∧ b.unconf ≠ 0 ∧ (u.thread th).loads = [] ∧
      u.barWindows (tileOf th) a ≠ [] ∧ ∀ k ∈ u.barWindows (tileOf th) a, k.1 = coreOf th ∧
        ((SMap.find (u.thread th).ckpts k.2).isSome ∨ (u.participants k.1 k.2).length < 16)
    (w.m 0 = false → ok { a := .g } true [] → arrives (.barArrive t w) 0) ∧
    (w.m 0 = true → ok { a := .g, b := .g, mods := 1 } true [gR w.b.toNat] →
      arrives (.barArriveTx t w) ((s.regs th).getG w.b.toNat).toNat) ∧
    (ok { a := .g, mods := 1 } false [] →
      waits (.barWait t w) False ∧ waits (.barWaitGlide t w) glides ∧
      (object [(a, 16)] [] → b.broken = false → b.phase = w.m 0 → glides →
        (u.fencePend (tileOf th) = false ∨ u.barJoins th a = false → exec (.barWaitGlide t w) s = .next
          ((u.join th ((u.barWindows (tileOf th) a).map (·.2)) (s.regs th)).advance t w)) ∧
        (u.fencePend (tileOf th) = true → u.barJoins th a = true →
          exec (.barWaitGlide t w) s = .next (u.setThread th { u.thread th with st := .waitData, regs := s.regs th }))) ∧
      (v = 0 ∨ barFault v ≠ 0 → exec (.barWait t w) s = .next (p.raise th 0x0105 w.size)))

/-- R82: the layout. R85, R87, R88: an arrival that leaves everything zero flips PHASE and reloads LEFT. R86: bytes that land, are confirmed
or are refused move between PENDING and UNCONF. -/
def Obligations.BarrierCounts : Prop :=
  let fits (b : Bar) : Prop := -(2 ^ 31) ≤ b.pend ∧ b.pend < 2 ^ 31 ∧ b.left < 2 ^ 16 ∧ b.count < 2 ^ 16 ∧
    b.unconf < 2 ^ 32 ∧ b.epoch < 2 ^ 8 ∧ b.rest < 2 ^ 22
  (∀ b : Bar, fits b → Bar.dec b.enc = b ∧ b.enc < 2 ^ 128) ∧
  (∀ v : Nat, fits (Bar.dec v)) ∧
  (∀ (b : Bar) (n : Nat), fits b → b.broken = false →
    (b.left = 0 → b.arrive n = { b with broken := true }) ∧
    (b.left ≠ 0 → 2 ^ 31 ≤ b.pend + n → b.arrive n = { b with broken := true }) ∧
    (b.left ≠ 0 → b.pend + n < 2 ^ 31 →
      let q : Bar := { b with pend := b.pend + n, left := b.left - 1 }
      (q.left = 0 ∧ q.pend = 0 ∧ q.unconf = 0 → b.arrive n = { q with phase := !b.phase, left := b.count }) ∧
      (¬ (q.left = 0 ∧ q.pend = 0 ∧ q.unconf = 0) → b.arrive n = q)) ∧
    fits (b.arrive n)) ∧
  (∀ (b : Bar) (n : Nat), fits b → -(2 ^ 31) ≤ b.pend - n → b.unconf + n < 2 ^ 32 →
    (b.update (-(n : Int)) n).update n (-(n : Int)) = b)

/-- R485: the address is gB plus IMM10 times the size. R63: a load is under way until it returns (the model captures its value as it
issues: log entry 13). R102, R99: a .GLIDE form joins the windows of the lines it reads. A load of a control block brings the value of
R11; a load of a peer leaves as a LOAD_REQ. -/
def Obligations.LoadsIssue : Prop :=
  ∀ (t : Tid) (w : IWord) (s : State),
    let th := t.code
    let r := s.regs th
    let n := 2 ^ w.ms 0 2
    let started (i : Instr) (p : State) (dev : Nat) (runs : List (Nat × Nat)) (dest : Dest) (size skip : Nat) (sext glide : Bool)
        (tag : BitVec 8) : Prop :=
      let m := (devSplit dev).1
      let a := (devSplit dev).2
      let x := p.thread th
      let first := (runs.head?.getD (a, 0)).1
      let last := runs.getLast?.getD (a, 0)
      let load (v : Nat) (g : BitVec 8) (k : Option (BitVec 32)) (o sk : Nat) : Load :=
        { dest := dest, size := size, sext := sext, value := v, tag := g, remote := k, pc := x.regs.pc, ord := o, skip := sk }
      p.rangesFault dev runs = 0 →
      (p.isSelf m = true → csrOffset a = none → p.arrayOwes th runs = false → p.anyHeld runs = false →
        p.rangesPoisoned runs = false → ∀ mt, p.loadTag th glide (rangeLines runs) = some mt →
          let q := if glide then p.joinTag th mt r else p
          let u := runs.foldl (fun s k => s.touch k.1 k.2) q
          exec i s = .next ((u.addLoad th (load (p.readNat a size) (tag ||| mt) none (u.thread th).joined 0)).advance t w)) ∧
      (p.isSelf m = true → csrOffset a = none → p.arrayOwes th runs = true ∨ p.anyHeld runs = true →
        exec i s = .next (s.waitIn th .waitData)) ∧
      (p.isSelf m = true → ∀ off, csrOffset a = some off →
        let c := p.csrLoad off size (match dest with | .scalar _ => true | _ => false)
        exec i s = .next ((c.1.addLoad th (load c.2 tag none x.joined 0)).advance t w)) ∧
      (p.isSelf m = false → p.linkFault m 1 = 0 →
        let k := p.newTag (.thread th x.regs.pc x.owner)
        exec i s = .next (((k.2.addLoad th (load 0 tag (some (BitVec.ofNat 32 k.1)) x.joined skip)).sendPkt m 1 0x01
          (loadReqBody first (last.1 + last.2 - first) k.1) (.request k.1)).advance t w))
    let p := s.pastGuard t w
    let devS := memAddr r w n
    let devV := memAddr r w 256
    let devD := memAddr r w 16
    let runs := laneRuns (r.guard w)
    let skip := if s.isSelf (devSplit devV).1 then 0 else (runs.head?.getD (0, 0)).1
    (s.Enabled t w → s.Ready t w (({ a := .g, b := .g, mods := 7, imm := true } : Form).ok w) false [gR w.b.toNat, gR w.a.toNat] →
      let tag := r.resultTag w [gR w.b.toNat]
      (devS % n = 0 →
        started (.ld t w) p devS [((devSplit devS).2, n)] (.scalar w.a.toNat) n 0 (w.m 2) false tag ∧
        started (.ldGlide t w) p devS [((devSplit devS).2, n)] (.scalar w.a.toNat) n 0 (w.m 2) true tag) ∧
      (devS % n ≠ 0 → exec (.ld t w) s = .next (p.raise th 0x0104 w.size))) ∧
    (s.Enabled t w → s.Ready t w (({ a := .d, b := .g, imm := true } : Form).ok w) false [gR w.b.toNat, dR w.a.toNat] →
      devD % 16 = 0 →
      started (.dscLd t w) p devD [((devSplit devD).2, 16)] (.desc w.a.toNat) 16 0 false false (r.resultTag w [gR w.b.toNat])) ∧
    (s.Ready t w (({ a := .v, b := .g, imm := true } : Form).ok w) false [gR w.b.toNat, vR w.a.toNat] → devV % 8 = 0 →
      let tag := r.laneTag w [gR w.b.toNat]
      let bytes := runBytes (devSplit devV).2 runs
      (runs = [] → exec (.vld t w) s = .next (s.advance t w) ∧ exec (.vldGlide t w) s = .next (s.advance t w)) ∧
      (runs ≠ [] →
        started (.vld t w) s devV bytes (.vector w.a.toNat (r.guard w)) 256 skip false false tag ∧
        started (.vldGlide t w) s devV bytes (.vector w.a.toNat (r.guard w)) 256 skip false true tag))

/-- R261: a load of this module returns. R485: how its value fills the destination. R471: lanes not loaded keep their bits. R109: a
checkpoint taken after the load issued takes the value too. -/
def Obligations.LoadsReturn : Prop :=
  (∀ (t : Tid) (s : State) (l : Load), (s.thread t.code).loads.find? (fun l => l.remote.isNone) = some l →
    let x := s.thread t.code
    let u := s.deliver t.code l l.value
    exec (.localLoadReturn t) s = .next u ∧ s.SameBut t.code u ∧
      u.regs t.code = x.regs.putLoad l l.value ∧ (u.thread t.code).st = x.st ∧
      (∀ k ∈ (u.thread t.code).loads, k ∈ x.loads ∧ k.dest.code ≠ l.dest.code)) ∧
  (∀ (t : Tid) (s : State), (∀ l ∈ (s.thread t.code).loads, l.remote.isSome = true) → exec (.localLoadReturn t) s = .next s) ∧
  (∀ (r : TRegs) (l : Load) (v : Nat),
    (∀ i, l.dest = .scalar i → l.size ≤ 8 → 0 < l.size →
      (l.sext = false → ((r.putLoad l v).getG i).toNat = v % 2 ^ (8 * l.size)) ∧
      (l.sext = true → ((r.putLoad l v).getG i).toInt = signed (8 * l.size) v) ∧
      (r.putLoad l v).tag (gR i) = l.tag ∧ ∀ j, j ≠ i → (r.putLoad l v).getG j = r.getG j) ∧
    (∀ i lanes k, l.dest = .vector i lanes → k < 64 →
      lane ((r.putLoad l v).getV i) k = if lanes.getLsbD k then bits v (32 * (k - l.skip)) 32 else lane (r.getV i) k) ∧
    (∀ i, l.dest = .desc i → (r.putLoad l v).getD' i = BitVec.ofNat 128 v ∧ (r.putLoad l v).g = r.g ∧ (r.putLoad l v).v = r.v))

/-- R485: ST stores the low bytes of gA at gB plus IMM10 times the size, VST the enabled lanes of vA. R106: the lines written are kept in
the shadow store first. R97: a line of the thread's own scratchpad takes the tag of the value. -/
def Obligations.StoresIssue : Prop :=
  ∀ (t : Tid) (w : IWord) (s : State),
    let th := t.code
    let r := s.regs th
    let n := 2 ^ w.ms 0 2
    let stored (i : Instr) (p : State) (dev : Nat) (runs : List ((Nat × Nat) × List Byte)) (size : Option Nat) (tag : BitVec 8) : Prop :=
      let m := (devSplit dev).1
      let x := p.thread th
      let width := match size with | some n => widthOf n | none => .one
      p.rangesFault dev (runs.map (·.1)) = 0 →
      (p.isSelf m = true → csrOffset (devSplit dev).2 = none → ∀ u g, p.Opens th [] (runs.map (·.1)) g u →
        exec i s = .next ((u.putTagged th (runs.flatMap (fun k => cellsFrom k.1.1 k.2)) tag).advance t w)) ∧
      (p.isSelf m = true → ∀ off, csrOffset (devSplit dev).2 = some off → threadCsrFault off width = 0 →
        exec i s = .next ((p.threadCsr off width (leNat ((runs.head?.map (·.2)).getD []))).advance t w)) ∧
      (p.isSelf m = false → p.linkFault m 1 = 0 →
        exec i s = .next ((runs.foldl (fun q k =>
          let g := q.newTag (.thread th x.regs.pc x.owner)
          g.2.sendPkt m 1 0x03 (storeBody k.1.1 g.1 k.2) (.store th x.regs.pc x.owner)) p).advance t w))
    let devS := memAddr r w n
    let devV := memAddr r w 256
    let runs := laneRuns (r.guard w)
    let bytesS := [(((devSplit devS).2, n), leBytes n (r.getG w.a.toNat).toNat)]
    let bytesV := runs.map (fun k => (((devSplit devV).2 + 4 * k.1, 4 * k.2),
      leBytes (4 * k.2) (bits (r.getV w.a.toNat).toNat (32 * k.1) (32 * k.2))))
    (s.Enabled t w →
      s.Ready t w (({ a := .g, b := .g, mods := 3, imm := true } : Form).ok w)
        (!(s.ownScratch th devS [((devSplit devS).2, n)])) [gR w.a.toNat, gR w.b.toNat] →
      (devS % n = 0 → stored (.st t w) (s.pastGuard t w) devS bytesS (some n) (r.resultTag w [gR w.a.toNat, gR w.b.toNat])) ∧
      (devS % n ≠ 0 → exec (.st t w) s = .next ((s.pastGuard t w).raise th 0x0104 w.size))) ∧
    (s.Ready t w (({ a := .v, b := .g, imm := true } : Form).ok w)
        (!(s.ownScratch th devV (runBytes (devSplit devV).2 runs))) [vR w.a.toNat, gR w.b.toNat] →
      (devV % 8 ≠ 0 → exec (.vst t w) s = .next (s.raise th 0x0104 w.size)) ∧
      (devV % 8 = 0 → runs = [] → exec (.vst t w) s = .next (s.advance t w)) ∧
      (devV % 8 = 0 → runs ≠ [] → stored (.vst t w) s devV bytesV none (r.laneTag w [vR w.a.toNat, gR w.b.toNat])))

/-- R72, R485: what a store writes is read back, and every other byte of memory reads as before. R83: an object of a phase in progress that
a store meets is marked BROKEN, in its own sixteen bytes. R286: a line that is poisoned takes a whole line only. -/
def Obligations.WritesReachTheirBytesAlone : Prop :=
  ∀ (s : State) (t : Nat) (cells : List (Nat × Byte)) (tag : BitVec 8) (a : Nat),
    let u := (s.store cells).1
    let v := s.putTagged t cells tag
    (cells.map (·.1)).Nodup →
    (regionOf a ≠ .host → (∀ c ∈ cells, c.1 ≠ a) → (∀ e ∈ s.bars, ¬ (e.1 ≤ a ∧ a < e.1 + 16)) →
      u.byteAt a = s.byteAt a ∧ v.byteAt a = s.byteAt a) ∧
    ((∀ c ∈ cells, regionOf c.1 ≠ .host) → (∀ e ∈ s.bars, ∀ i, i < 16 → regionOf (e.1 + i) ≠ .host) →
      u.host = s.host ∧ v.host = s.host) ∧
    (∀ b, (a, b) ∈ cells → regionOf a ≠ .host → s.badLine (lineOf a) = false →
      (∀ e ∈ s.bars, ∀ c ∈ cells, ¬ (e.1 ≤ c.1 ∧ c.1 < e.1 + 16)) →
      u.byteAt a = b ∧ v.byteAt a = b)

/-- R486: the operations. R81: each acts once, at the home of its address. R453, R487: ATOM.ADD.BFX adds the quantum of each enabled lane.
The old value of an atomic of this module arrives as it issues (log entry 23). -/
def Obligations.AtomicResults : Prop :=
  (∀ (t : Tid) (w : IWord) (s : State),
    let th := t.code
    let r := s.regs th
    let op := w.ms 0 4
    let n := 2 ^ w.ms 4 2
    let dev := (r.getG w.b.toNat).toNat
    let a := (devSplit dev).2
    let m := (devSplit dev).1
    let reads := [gR w.b.toNat, gR w.c.toNat] ++ (if op = 9 then [gR w.d.toNat] else [])
    let p := s.pastGuard t w
    let x := (r.getG w.c.toNat).toNat
    let cmp := if op = 9 then (r.getG w.d.toNat).toNat else 0
    (s.Enabled t w → s.Ready t w (atomForm w) (!(s.ownScratch th dev [(a, n)])) (reads ++ (if w.m 6 then [] else [gR w.a.toNat])) →
      dev % n = 0 → p.atomFault dev [(a, n)] = 0 →
      (p.isSelf m = true → ∀ u g, p.Opens th [(a, n)] [(a, n)] g u →
        exec (.atom t w) s = .next ((u.atomHere th w a x cmp (r.resultTag w reads ||| g)).advance t w)) ∧
      (p.isSelf m = false →
        exec (.atom t w) s = .next ((p.atomSend th w (p.thread th) dev x cmp (r.resultTag w reads)).advance t w))) ∧
    (
      let e := signed 8 (r.getG w.c.toNat).toNat
      let dev := (r.getG w.a.toNat).toNat
      let a := (devSplit dev).2
      let m := (devSplit dev).1
      let lanes := (List.range 64).filter (fun i => (r.guard w).getLsbD i)
      let words := lanes.map (fun i => (a + 8 * i, 8))
      let qs := lanes.map (fun i => (a + 8 * i, relQuant e (lane (r.getV w.b.toNat) i)))
      let reads := [gR w.a.toNat, vR w.b.toNat, gR w.c.toNat]
      s.Ready t w (({ a := .g, b := .v, c := .g } : Form).ok w) (!(s.ownScratch th dev words)) reads →
      dev % 512 = 0 →
      (lanes = [] → exec (.atomAddBfx t w) s = .next (s.advance t w)) ∧
      (lanes ≠ [] → s.atomFault dev words = 0 →
        (s.isSelf m = true → ∀ u g, s.Opens th words words g u →
          exec (.atomAddBfx t w) s = .next ((u.bfxAdd th qs (r.laneTag w reads ||| g)).advance t w)) ∧
        (s.isSelf m = false → exec (.atomAddBfx t w) s = .next ((s.bfxSend th m (s.thread th) qs).advance t w))))) ∧
  (∀ (sz old x cmp : Nat),
    let W := 2 ^ (8 * 2 ^ sz)
    let S := signed (8 * 2 ^ sz)
    let new (op : Nat) := (atomNew op sz old x cmp).1
    new 0 = (old + x) % W ∧ new 1 = old &&& x ∧ new 2 = old ||| x ∧ new 3 = old ^^^ x ∧
    new 4 = (if S old < S x then x else old) ∧ new 5 = (if S x < S old then x else old) ∧
    new 6 = max old x ∧ new 7 = min old x ∧ new 8 = x ∧ new 9 = (if old = cmp then x else old) ∧
    new 10 = (bfxAdd old x).1) ∧
  (∀ (s : State) (a op sz x cmp : Nat),
    let n := 2 ^ sz
    let old := s.readNat a n
    (s.atomAt a op sz x cmp).1 = old ∧
    (s.atomAt a op sz x cmp).2.mem =
      (s.store (cellsFrom a (leBytes n (atomNew op sz old (x % 2 ^ (8 * n)) (cmp % 2 ^ (8 * n))).1))).1.mem)

/-- R251: the pseudocode of the row statistics, lane i for row i. R254: empty regions, and lanes from R on keep their bits. The access to the
regions opens, and the descriptors break no rule of R69, R252 and R253. -/
def Obligations.RowStatistics : Prop :=
  ∀ (t : Tid) (w : IWord) (s u : State) (mt : BitVec 8), s.Enabled t w →
    let th := t.code
    let tile := t.tile.val
    let r := s.regs th
    let a := w.a.toNat
    let p := s.pastGuard t w
    let A (i : Nat) := lane (r.getV a) i
    let B (i : Nat) := lane (r.getV w.b.toNat) i
    let C (i : Nat) := lane (r.getV w.c.toNat) i
    let dA := Desc.dec (r.getD' a)
    let dB := Desc.dec (r.getD' w.b.toNat)
    let dC := Desc.dec (r.getD' w.c.toNat)
    let dD := Desc.dec (r.getD' w.d.toNat)
    let vec (i : Instr) (q : State) (n : Nat) (tag : BitVec 8) (f : Nat → Nat) : Prop :=
      exec i s = .next ((q.modRegs th (fun x => x.setV a (vBelow (r.getV a) n f) tag)).advance t w)
    let keep := r.tag (vR a)
    let input (d : Desc) : Prop := d.fault t.core.val false false = 0 ∧ d.rowInput = true ∧ d.rows ≤ 64
    (
      let tag := r.resultTag w [vR w.b.toNat, dR w.c.toNat]
      s.Ready t w (({ a := .v, b := .v, c := .d } : Form).ok w) false [vR w.b.toNat, dR w.c.toNat, vR a] → input dC →
      p.Opens th (dC.rowRanges tile) [] mt u →
      vec (.rowMax t w) u dC.rows (tag ||| mt ||| (if dC.rows < 64 then keep else 0))
        (fun i => (List.range dC.cols).foldl (fun m j => max2 m (u.elem32 tile dC i j)) (B i))) ∧
    (
      let tag := r.resultTag w [vR w.b.toNat, dR w.c.toNat, dR w.d.toNat]
      s.Ready t w (({ a := .v, b := .v, c := .d, d := .d, mods := 1 } : Form).ok w) dD.inVat
        [vR w.b.toNat, dR w.c.toNat, dR w.d.toNat, vR a] →
      input dC → dD.fault t.core.val true false = 0 → dD.rowProb = true → dD.rows = dC.rows → dD.cols = dC.cols →
      (dC.some = false → exec (.rowSumexp t w) s = .next (s.retire t w id)) ∧
      (dC.some = true → rowsClash tile dC dD = false → p.Opens th (dC.rowRanges tile) (dD.readRanges tile false) mt u →
        let tag := tag ||| mt ||| keep
        let rows := (List.range dC.rows).map (fun i => (List.range dC.cols).map (fun j => u.prob (B i) (u.elem32 tile dC i j)))
        let conv (l : List Nat) : List Nat × List Conv :=
          if dD.scaleEn then
            let bs := (blocks32 l).map (fun b => blockComputed dD.fmt (b.map fp32.dec))
            (bs.map (·.1), bs.flatMap (·.2))
          else ([], l.map (fun x => encFmt dD.fmt (w.m 0) 0 (fp32.dec x)))
        let cs := rows.map conv
        let cells := cs.zipIdx.flatMap (fun x => u.regionRow tile dD x.2 x.1.1 (x.1.2.map (·.code)))
        vec (.rowSumexp t w) ((u.putTagged th cells tag).convFlags (coreOf th) (cs.flatMap (·.2))) dC.rows tag
          (fun i => (blocks32 (rows.getD i [])).foldl (fun x b => f32add x (groupSum (b.map fp32.dec))) (A i)))) ∧
    (
      let tag := r.resultTag w [vR w.b.toNat, vR w.c.toNat]
      s.Ready t w (({ a := .v, b := .v, c := .v, imm := true } : Form).ok w && decide (0 ≤ w.simm)) false
        [vR w.b.toNat, vR w.c.toNat, vR a] → rowImm w ≤ 64 →
      vec (.rowRescale t w) p (rowImm w) (tag ||| keep) (fun i => f32mul (A i) (p.factor (B i) (C i)))) ∧
    (
      let tag := r.resultTag w [dR a, vR w.b.toNat, vR w.c.toNat]
      s.Ready t w (({ a := .d, b := .v, c := .v } : Form).ok w) dA.inVat [dR a, vR w.b.toNat, vR w.c.toNat] →
      dA.fault t.core.val true false = 0 → dA.fmt = 0 → dA.scaleEn = false → dA.rows ≤ 64 →
      (dA.some = false → exec (.rowRescaleT t w) s = .next (s.retire t w id)) ∧
      (dA.some = true → p.Opens th (dA.rowRanges tile) (dA.rowRanges tile) mt u →
        exec (.rowRescaleT t w) s = .next ((u.putTagged th ((List.range dA.rows).flatMap (fun i =>
          u.regionRow tile dA i [] ((List.range dA.cols).map (fun j => f32mul (u.elem tile dA i j) (u.factor (B i) (C i))))))
          (tag ||| mt)).advance t w))) ∧
    (
      let tag := r.resultTag w [dR w.b.toNat]
      s.Ready t w (({ a := .v, b := .d } : Form).ok w) false [dR w.b.toNat, vR a] → input dB →
      (dB.some = false → exec (.rowRmsPart t w) s = .next (s.retire t w id)) ∧
      (dB.some = true → p.Opens th (dB.rowRanges tile) [] mt u →
        vec (.rowRmsPart t w) u dB.rows (tag ||| mt ||| keep) (fun i =>
          (blocks32 ((List.range dB.cols).map (fun j => prodNum (fp32.dec (u.elem32 tile dB i j)) (fp32.dec (u.elem32 tile dB i j))))).foldl
            (fun x b => f32add x (groupSum b)) (A i)))) ∧
    (
      let tag := r.resultTag w [vR w.b.toNat, gR w.c.toNat, gR w.d.toNat]
      let n := (r.getG w.c.toNat).toNat % 2 ^ 32
      let ge := (r.getG w.d.toNat).toNat % 2 ^ 32
      s.Ready t w (({ a := .v, b := .v, c := .g, d := .g, imm := true } : Form).ok w && decide (0 ≤ w.simm)) false
        [vR w.b.toNat, gR w.c.toNat, gR w.d.toNat, vR a] → rowImm w ≤ 64 →
      ((n = 0 ∨ (fp32.dec ge).isFin = false ∨ ((fp32.dec ge).neg = true ∧ (fp32.dec ge).dy.m ≠ 0)) →
        exec (.rowRmsFin t w) s = .next (p.raise th 0x0403 w.size)) ∧
      (n ≠ 0 → (fp32.dec ge).isFin = true → ((fp32.dec ge).neg = false ∨ (fp32.dec ge).dy.m = 0) →
        vec (.rowRmsFin t w) p (rowImm w) (tag ||| (if rowImm w < 64 then keep else 0))
          (fun i => sfRsqrt fp32 (f32add (f32divN (B i) n) ge))))

/-- R409, R413: a masked score becomes minus infinity, any other takes its head's bias of the front copy. R415 to R417: a key region is
copied, widened exactly or narrowed. R416: rows already written stay written when a value is not exact. -/
def Obligations.AttentionRegions : Prop :=
  (∀ (t : Tid) (w : IWord) (s u : State) (mt : BitVec 8), s.Enabled t w →
    let th := t.code
    let tile := t.tile.val
    let r := s.regs th
    let p := s.pastGuard t w
    let d := Desc.dec (r.getD' w.a.toNat)
    (
      let gq := (r.getG w.b.toNat).toNat
      let gk := (r.getG w.c.toNat).toNat
      let h := (r.getG w.d.toNat).toNat
      let sq := (r.getG (w.f 0)).toNat
      let sk := (r.getG (w.f 1)).toNat
      let reads := [dR w.a.toNat, gR w.b.toNat, gR w.c.toNat, gR w.d.toNat] ++ (if w.m 1 then [gR (w.f 0), gR (w.f 1)] else [])
      let segs := if w.m 1 then [(tileBase tile + sq, 4 * d.rows), (tileBase tile + sk, 4 * d.cols)] else []
      s.Ready t w (({ a := .d, b := .g, c := .g, d := .g, mods := 3, x := if w.m 1 then .fields [0, 1] else .never } : Form).ok w)
        d.inVat reads →
      d.fault t.core.val true false = 0 → h ≤ 63 → d.fmt = 0 →
      (d.some = false → exec (.attBias t w) s = .next (s.retire t w id)) ∧
      (d.some = true → gq + d.rows - 1 < 2 ^ 24 → gk + d.cols - 1 < 2 ^ 24 →
        (w.m 1 = true → segOk t.core.val sq d.rows = true ∧ segOk t.core.val sk d.cols = true) →
        p.Opens th (d.rowRanges tile ++ segs) (d.rowRanges tile) mt u →
        let masked (i j : Nat) : Bool := (w.m 0 && decide (gq + i < gk + j))
          || (w.m 1 && u.readNat (tileBase tile + sq + 4 * i) 4 ≠ u.readNat (tileBase tile + sk + 4 * j) 4)
        let bias (i j : Nat) : Nat := (fp32.enc false (decFmt 2 0
          ((u.tile tile).front.getD (h * 256 + biasIndex ((gq + i : Nat) - (gk + j : Nat))) 0))).code
        let cells := (List.range d.rows).flatMap (fun i =>
          u.regionRow tile { d with scaleEn := false } i [] ((List.range d.cols).map (fun j =>
            if masked i j then 0xFF800000 else f32add (u.elem tile d i j) (bias i j))))
        exec (.attBias t w) s = .next ((u.putTagged th cells (r.resultTag w reads ||| mt)).advance t w))) ∧
    (
      let k := Desc.dec (r.getD' w.b.toNat)
      s.Ready t w (({ a := .d, b := .d, mods := 3 } : Form).ok w) d.inVat [dR w.a.toNat, dR w.b.toNat] →
      fmtBad d.fmt = false → fmtBad k.fmt = false →
      d.fault t.core.val true false = 0 → k.fault t.core.val false false = 0 →
      kcvtBad d k = false → (kcvtWidens k.fmt d.fmt = true → d.scaleEn = false) →
      (d.fmt ≠ k.fmt → kcvtWidens k.fmt d.fmt = false → w.m 0 = true) →
      (d.some = false → exec (.attKcvt t w) s = .next (s.retire t w id)) ∧
      (d.some = true → p.Opens th (k.readRanges tile false) (d.readRanges tile false) mt u →
        let q := u.kcvtRows th tile (coreOf th) d k (w.m 1) (r.resultTag w [dR w.a.toNat, dR w.b.toNat] ||| mt) (List.range d.rows)
        (q.2 = true → exec (.attKcvt t w) s = .next (q.1.advance t w)) ∧
        (q.2 = false → exec (.attKcvt t w) s = .next (q.1.raise th 0x0804 w.size))))) ∧
  (∀ d : Int, -(2 ^ 24) < d → d < 2 ^ 24 →
    (0 ≤ d → biasIndex d = biasBucket d.toNat) ∧ (d < 0 → biasIndex d = 128 + biasBucket (-d).toNat) ∧
    (biasIndex d < 108 ∨ (128 ≤ biasIndex d ∧ biasIndex d < 236)))

/-- R221, R222: the arithmetic of one element. R225: an element with a NaN or an infinity is kept. R226, R229: the .SR forms draw, and COUNTER
moves on. A result for which the spec states no value is free (log entry 2). That COUNTER
moves on where the guard is 0 is the model's choice between R229 and R471 (log entry 100). -/
def Obligations.WeightUpdates : Prop :=
  (∀ (t : Tid) (w : IWord) (s u : State) (mt : BitVec 8), s.Enabled t w →
    let th := t.code
    let tile := t.tile.val
    let c := t.core.val
    let r := s.regs th
    let p := s.pastGuard t w
    let dA := Desc.dec (r.getD' w.a.toNat)
    let dB := Desc.dec (r.getD' w.b.toNat)
    let dC := Desc.dec (r.getD' w.c.toNat)
    let dD := Desc.dec (r.getD' w.d.toNat)
    let updates (i : Instr) (sr adam : Bool) (off : Nat) (ins outs : List (Desc × List Nat)) (tag : BitVec 8)
        (f : Layer → State → Nat → State) : Prop :=
      let entry := tileBase tile + off
      let wrs := (dA :: outs.map (·.1)).flatMap (fun d => d.rowRanges tile)
      let rds := (dA :: (ins ++ outs).map (·.1)).flatMap (fun d => d.rowRanges tile)
      dA.fault c true false = 0 → (∀ x ∈ ins, x.1.fault c false false = 0) → (∀ x ∈ outs, x.1.fault c true false = 0) →
      wupdBad dA (ins ++ outs) = false →
      ((dA.rows = 0 ∨ dA.cols = 0) → exec i s = .next (s.retire t w id)) ∧
      (dA.rows ≠ 0 → dA.cols ≠ 0 → off % 16 = 0 → off < 2 ^ 28 → inVatOrOwn c off 48 = true →
        ∀ (v : State) (lt : BitVec 8), p.Opens th [(entry, 48)] [] lt v →
          let l := Layer.dec (p.readNat entry 48)
          dA.fmt = l.wfmt → l.bad adam = false → v.Opens th rds wrs mt u →
          exec i s = .next ((u.wupdRun th (dA.rows * dA.cols) (f l) wrs sr (tag ||| lt ||| mt)).advance t w))
    (
      let reads := [dR w.a.toNat, dR w.b.toNat, gR w.c.toNat, gR w.d.toNat]
      let gc := fp32.dec ((r.getG w.c.toNat).toNat % 2 ^ 32)
      let off := (r.getG w.d.toNat).toNat
      let go (i : Instr) (sr : Bool) : Prop := updates i sr false off [(dB, [1])] [] (r.resultTag w reads)
        (fun l q i => q.sgdElem th tile l gc sr dA dB i)
      (w.m 15 = false → s.Ready t w (({ a := .d, b := .d, c := .g, d := .g } : Form).ok w) dA.inVat reads → go (.wupd t w) false) ∧
      (w.m 15 = true → s.Ready t w (({ a := .d, b := .d, c := .g, d := .g, mods := 0x8000 } : Form).ok w) dA.inVat reads →
        go (.wupdSr t w) true)) ∧
    (
      let reads := [dR w.a.toNat, dR w.b.toNat, dR w.c.toNat, dR w.d.toNat, gR (w.f 0), gR (w.f 1)]
      let gc := fp32.dec ((r.getG (w.f 0)).toNat % 2 ^ 32)
      let off := (r.getG (w.f 1)).toNat
      let gate := dA.inVat || dC.inVat || dD.inVat
      let go (i : Instr) (sr : Bool) : Prop := updates i sr true off [(dB, [0, 1])] [(dC, [1]), (dD, [1])] (r.resultTag w reads)
        (fun l q i => q.adamElem th tile l gc sr dA dB dC dD i)
      (w.m 15 = false → s.Ready t w (({ a := .d, b := .d, c := .d, d := .d, x := .fields [0, 1] } : Form).ok w) gate reads →
        go (.wupdAdam t w) false) ∧
      (w.m 15 = true → s.Ready t w (({ a := .d, b := .d, c := .d, d := .d, mods := 0x8000, x := .fields [0, 1] } : Form).ok w) gate reads →
        go (.wupdAdamSr t w) true))) ∧
  (∀ (t : Tid) (w : IWord) (s : State), ¬ s.Enabled t w → w.m 15 = true →
    let r := s.regs t.code
    let d := Desc.dec (r.getD' w.a.toNat)
    let drew : State := s.retire t w (fun q => { q with ctr := q.ctr + BitVec.ofNat 58 ((d.rows * d.cols + 63) / 64) })
    (s.Ready t w (({ a := .d, b := .d, c := .g, d := .g, mods := 0x8000 } : Form).ok w) d.inVat
        [dR w.a.toNat, dR w.b.toNat, gR w.c.toNat, gR w.d.toNat] → exec (.wupdSr t w) s = .next drew) ∧
    (s.Ready t w (({ a := .d, b := .d, c := .d, d := .d, mods := 0x8000, x := .fields [0, 1] } : Form).ok w)
        (d.inVat || (Desc.dec (r.getD' w.c.toNat)).inVat || (Desc.dec (r.getD' w.d.toNat)).inVat)
        [dR w.a.toNat, dR w.b.toNat, dR w.c.toNat, dR w.d.toNat, gR (w.f 0), gR (w.f 1)] → exec (.wupdAdamSr t w) s = .next drew)) ∧
  (∀ (s : State) (t n : Nat) (f : State → Nat → State) (wrs : List (Nat × Nat)) (tag : BitVec 8),
    let u := s.wupdRun t n f wrs false tag
    (s.wupdRun t n f wrs true tag) = u.modRegs t (fun r => { r with ctr := r.ctr + BitVec.ofNat 58 ((n + 63) / 64) })) ∧
  (∀ (l : Layer) (gc wv g m v : Dy),
    let lr := dy32 l.lr
    let decay := wx ((lr.mul (dy32 l.wd)).mul wv)
    let n := gc.num false
    let u := g.shift (-l.bu)
    ((l.sgd n wv g).x = some ((wv.add decay.neg).add (wx ((lr.mul n.dy).mul u)).neg)) ∧
    (
      let g1 := wx (n.dy.mul g)
      let m1 := wx (((dy32 l.b1).mul (m.shift (-l.bm))).add ((dy32 l.ob1).mul g1))
      let v1 := wx (((dy32 l.b2).mul (v.shift (-l.bv))).add (((dy32 l.ob2).mul g1).mul g1))
      let rad := wx ((dy32 l.bc2).mul v1)
      let num := wx ((dy32 l.bc1).mul m1)
      (l.adam n wv g m v).m1 = m1 ∧ (l.adam n wv g m v).v1 = v1 ∧
      let den := wx ((wx (sqrtDy rad)).add (dy32 l.eps))
      (0 < rad.m → num.m ≠ 0 → (l.adam n wv g m v).x = some ((wv.add decay.neg).add (wx (lr.mul (wx (quot num den)))).neg)))) ∧
  (∀ (s : State) (t tile : Nat) (l : Layer) (gc : Machine.Num) (sr : Bool) (wd ud gd md vd : Desc) (i : Nat),
    let off (d : Desc) : Bool := !(decFmt d.fmt 0 (s.elemAt tile d i)).isFin
    ((off wd || off ud) = true → (s.sgdElem t tile l gc sr wd ud i).mem = s.mem) ∧
    ((off wd || off gd || off md || off vd) = true → (s.adamElem t tile l gc sr wd gd md vd i).mem = s.mem))

/-- R136 to R138: the lease. R139: an accepted instruction joins the queue, with the barrier and its BEPOCH. R166, R167: a load waits for the
one before it. R179: a drain copies its operands as it issues. R217: a .SPRED drain may open a window of its own. -/
def Obligations.ArrayInstructions : Prop :=
  ∀ (t : Tid) (w : IWord) (s : State), s.Enabled t w →
    let th := t.code
    let tile := tileOf th
    let c := coreOf th
    let i := coreIdx c
    let r := s.regs th
    let p := s.pastGuard t w
    let a := (s.core c).array
    (s.Ready t w (({} : Form).ok w) true [] →
      (a.lease = none → exec (.mmaOpen t w) s = .next ((p.setArray c { a with lease := some t.th.val }).advance t w)) ∧
      (a.lease = some t.th.val → exec (.mmaOpen t w) s = .next (s.retire t w id)) ∧
      (∀ h, a.lease = some h → h ≠ t.th.val → exec (.mmaOpen t w) s =
        .next ((s.setArray c { a with wait := t.th.val :: a.wait.filter (· ≠ t.th.val) }).waitIn th .waitData)) ∧
      (a.lease = some t.th.val → exec (.mmaClose t w) s = .next ((p.setArray c (a.release t.th.val)).advance t w)) ∧
      (a.lease ≠ some t.th.val → exec (.mmaClose t w) s = .next (p.raise th 0x0207 w.size))) ∧
    (
      let v := r.getD' w.a.toNat
      let d := Desc.dec v
      let loads (j : Instr) (tr : Bool) : Prop :=
        let k := if tr then d.cols else d.rows
        let n := if tr then d.rows else d.cols
        a.lease = some (thOf th) → d.fault i false (!tr) = 0 → k ≤ 256 → n ≤ 128 → d.fmt ≤ 7 → (d.scaleEn = true → 3 ≤ d.fmt) →
        (tr = true → d.fmt ≠ 5) → a.full = false →
        (k = 0 ∨ n = 0 → exec j s = .next (s.retire t w id)) ∧
        (k ≠ 0 → n ≠ 0 → a.loading = false →
          ((d.fmt = 0 ∨ ∃ o, a.latest = some o ∧ o.fmt = 0) → a.passing = false) →
          p.arrayOwes th (d.readRanges tile (!tr)) = false →
          (tr = true → p.engineRoom tile (spanCount (d.readRanges tile false)) = true) →
          let q := p.pushArr th (.load v tr 0) r.pc 0
          exec j s = .next (((q.setArray c { (q.core c).array with
            latest := some { fmt := d.fmt, k := k, n := n, scaled := d.scaleEn } }).rampUp c).advance t w))
      (w.m 0 = false → s.Ready t w (({ a := .d } : Form).ok w) true [dR w.a.toNat] → loads (.mmaLoadw t w) false) ∧
      (w.m 0 = true → s.Ready t w (({ a := .d, mods := 1 } : Form).ok w) true [dR w.a.toNat] → loads (.mmaLoadwT t w) true)) ∧
    (
      let va := r.getD' w.a.toNat
      let vc := r.getD' w.b.toNat
      let d := Desc.dec va
      let b := (r.getG w.d.toNat).toNat
      let pm := if w.m 3 then [pR w.c.toNat, pR (w.c.toNat + 1)] else []
      s.Ready t w (({ a := .d, b := .d, c := if w.m 3 then .p else .none, d := .g, mods := 0xF } : Form).ok w
        && decide (w.ms 0 2 ≠ 3) && (!w.m 3 || decide (w.c.toNat % 2 = 0))) true ([dR w.a.toNat, dR w.b.toNat, gR w.d.toNat] ++ pm) →
      a.lease = some (thOf th) → a.full = false →
      ∀ op, a.latest = some op → streamFault c d (Desc.dec vc) (some op) b = 0 →
        let mask := passMask r w
        let pass (n : Nat) : State := p.pushArr th (.pass va vc (w.ms 0 2) (w.m 2) mask op n) r.pc (barAddr th b)
        ((d.rows = 0 ∨ passCols op.n mask = []) →
          exec (.mmaStream t w) s = .next (((pass d.rows).settleRamp c).advance t w)) ∧
        (d.rows ≠ 0 → passCols op.n mask ≠ [] → p.arrayOwes th (d.readRanges tile false) = false →
          exec (.mmaStream t w) s = .next (((pass 0).rampUp c).advance t w))) ∧
    (
      let dc := Desc.dec (r.getD' w.a.toNat)
      let dd := Desc.dec (r.getD' w.b.toNat)
      let b := (r.getG w.c.toNat).toNat
      let glide := BitVec.ofNat 8 (s.thread th).glide
      let nz := dc.some
      let named := (drainAddrs w dc.rows dc.cols).map (fun x => ((r.getG (w.f x.1)).toNat, x.2))
      let copied := ((drainAddrs w dc.rows dc.cols).filter (fun y => y.1 ≠ 3)).map (fun y =>
        (tileBase tile + (r.getG (w.f y.1)).toNat, y.2))
      let drains (j : Instr) : Prop :=
        let sp := p.drainSpec th w nz
        let outs := (List.range dc.rows).flatMap (drainOut sp tile)
        let tab := if sp.smode = 2 then [(tileBase tile + sp.amax, tileCount dc.rows * 8)] else []
        let run : DrainRun :=
          { todo := if nz then (List.range dc.rows).map (fun m => (m, 0)) else [], tag := glide, ord := (s.thread th).joined }
        a.lease = some (thOf th) → a.full = false → dc.fault i false false = 0 → dd.fault i true (w.m 0) = 0 →
        (dc.fmt = 0 ∨ dc.fmt = 8) → drainBad dc dd w = false → (w.m 0 = true → dd.fmt ≠ 5) →
        barFault b = 0 → (w.m 0 = true → p.engineRoom tile (spanCount (dd.rowRanges tile)) = true) →
        (nz = true → (∀ y ∈ named, y.1 % 16 = 0 ∧ y.1 < 2 ^ 28) ∧ inOwn i dc.base dc.span = true ∧
          (∀ y ∈ named, inVatOrOwn i y.1 y.2 = true) ∧
          (w.ms 3 2 = 3 → sp.bad = false → pwlOk sp.table = true) ∧
          p.arrayOwes th copied = false ∧ p.arrayHolds th (outs ++ tab) = false ∧
          (p.opensScale th sp = true → p.fencePend tile = false) ∧ p.rangesTag copied &&& ~~~glide = 0) →
        exec j s = .next (((p.pushArr th (.drain sp run) r.pc (barAddr th b)).openScale th w.size sp run).advance t w)
      (w.m 0 = false → s.Ready t w (drainOk w) (drainGate r w) (drainReads w) → drains (.mmaDrain t w)) ∧
      (w.m 0 = true → s.Ready t w (drainOk w) true (drainReads w) → drains (.mmaDrainT t w)))

/-- R136, R138: of the threads that wait, the first after the releasing one, counting modulo 128. -/
def Obligations.LeaseRotates : Prop :=
  ∀ (a : MatArray) (th : Nat), th < 128 →
    let u := a.release th
    let far (n : Nat) : Nat := (n + 127 - th) % 128
    u.q = a.q ∧ u.front = a.front ∧ u.shadow = a.shadow ∧ u.latest = a.latest ∧ u.ramp = a.ramp ∧ u.cols = a.cols ∧ u.hold = a.hold ∧
    (a.lease ≠ some th → u.lease = a.lease ∧ ∀ n, n ∈ u.wait ↔ n ∈ a.wait ∧ n ≠ th) ∧
    (a.lease = some th → (∀ n ∈ a.wait, n < 128) →
      (a.wait = [] → u.lease = none) ∧
      (a.wait ≠ [] → ∃ n, u.lease = some n ∧ n ∈ a.wait ∧ (∀ k ∈ a.wait, far n ≤ far k) ∧
        ∀ k, k ∈ u.wait ↔ k ∈ a.wait ∧ k ≠ n))

/-- R170 to R173: the ramp. R163 to R167: a load fills the shadow bank, its token exchanges the banks, and it leaves the queue. R151 to R155:
the rows of a pass enter in order. R139, R149: a pass that has entered whole lands its bytes on its barrier. -/
def Obligations.ArrayEvents : Prop :=
  ∀ (c : Cid) (s : State),
    let k := c.code
    let tile := c.tile.val
    let a := (s.core k).array
    let n := if a.rampLen = 0 then 4 else if a.rampLen = 1 then 2 else 1
    (a.ramp = 1 → exec (.rampStep c) s = .next ((s.setArray k { a with
      cols := min 128 (a.cols + n), ramp := if 128 ≤ a.cols + n then 2 else 1 }).settleRamp k)) ∧
    (a.ramp = 3 → exec (.rampStep c) s = .next (s.setArray k { a with cols := a.cols - n, ramp := if a.cols ≤ n then 0 else 3 })) ∧
    (a.hold.isSome = true → exec (.arrayHoldExpiry c) s = .next (s.rampDown k)) ∧
    (∀ o v tr, a.q.find? (fun o => match o.kind with | .load _ _ 0 => true | _ => false) = some o → o.kind = .load v tr 0 →
      let d := Desc.dec v
      let op := s.readOperand tile d tr
      s.rangesTag (d.readRanges tile (!tr)) = 0 →
      (d.fmt = 0 → exec (.shadowBankFull c) s =
        .next (((s.setArray k { a with front := some op, shadow := some op }).dropArr k o.id).settleRamp k)) ∧
      (d.fmt ≠ 0 → exec (.shadowBankFull c) s = .next ((s.setArray k { a with shadow := some op }).alterArr k o.id
        (fun x => { x with kind := .load v tr 1 })))) ∧
    (∀ o, a.q.find? (fun o => match o.kind with | .load _ _ 1 => true | _ => false) = some o → a.ramp = 2 →
      (∀ x ∈ a.before o.id, x.entering = false) →
      ∃ f, exec (.swapTokenEnter c) s = .next ((s.setArray k { a with front := a.shadow, shadow := a.front }).alterArr k o.id f) ∧
        ∀ (x : ArrOp) (v : BitVec 128) (tr : Bool) (ph : Nat), x.kind = .load v tr ph → f x = { x with kind := .load v tr 2 }) ∧
    (∀ o, a.q.find? (fun o => match o.kind with | .load _ _ 2 => true | _ => false) = some o →
      exec (.swapComplete c) s = .next ((s.dropArr k o.id).settleRamp k)) ∧
    (∀ o ta tc g z mask m next op, a.q.find? ArrOp.entering = some o → o.kind = .pass ta tc g z mask m next → a.front = some op →
      let out := (Desc.dec tc).rowRange tile next
      a.ramp = 2 → s.rangesTag ((Desc.dec ta).rowReads tile next ++ (if z then [] else [out])) = 0 →
      (∀ x ∈ a.before o.id, (∀ v tr ph, x.kind = .load v tr ph → ph = 2) ∧
        (∀ sp r, x.kind = .drain sp r → rangesCross (x.readsLeft tile) [out] = false)) →
      exec (.arrayRowEnter c) s = .next ((s.passRow k (Desc.dec ta) (Desc.dec tc) g z mask op next).alterArr k o.id
        (fun x => { x with kind := .pass ta tc g z mask m (next + 1) }))) ∧
    (∀ o ta tc g z mask m next,
      a.q.find? (fun o => match o.kind with | .pass _ _ _ _ _ _ _ => true | _ => false) = some o →
      o.kind = .pass ta tc g z mask m next → (Desc.dec ta).rows ≤ next →
      let q := ((s.dropArr k o.id).incFld (Fd.TILE_ARRAY_COUNT_PASSES tile c.core.val)).barLand o.bar o.ep
        ((Desc.dec ta).rows * m.n * 4)
      let u := q.1.settleRamp k
      exec (.passComplete c) s = .next (if q.2 = 0 then u else u.failLater (k * 128 + o.th) (BitVec.ofNat 16 q.2) o.pc o.owner))

/-- R183: the rows of the earliest drain leave in order. R214 to R217: a tile of a .SPRED drain is checked once its rows have their values,
retried twice, then saturated, its window refused at the first failure. R183, R216: the drain then ends. -/
def Obligations.EpilogueEvents : Prop :=
  ∀ (c : Cid) (s : State),
    let k := c.code
    let tile := c.tile.val
    let a := (s.core k).array
    (∀ o sp r m kind rest, a.drain = some (o, sp, r) → r.todo = (m, kind) :: rest →
      let dc := Desc.dec sp.tC
      let src := dc.rowRange tile m
      let first := sp.smode = 2 && kind = 0 && m % 32 = 0
      let entry := (tileBase tile + sp.amax + 8 * (m / 32), 8)
      let reads := src :: (if first then [entry] else [])
      (∀ x ∈ a.before o.id, ∀ ta tc g z mk op n, x.kind = .pass ta tc g z mk op n → rangesCross (x.writesLeft tile) [src] = false) →
      s.rangesTag reads &&& ~~~r.tag = 0 →
      ((sp.bad = true ∨ s.rangesPoisoned reads = true) → exec (.drainRowBegin c) s = .next (s.drainPoison k o sp r)) ∧
      (sp.bad = false → s.rangesPoisoned reads = false →
        ∀ u r', s.drainAny k o sp { r with todo := rest } m kind ((s.accRow tile dc m).zipIdx.map (fun x => s.epilogue sp x.2 x.1))
            (if first then predict sp (s.readNat entry.1 4) else none) = some (u, r') →
          exec (.drainRowBegin c) s = .next (u.setRun k o.id sp r'))) ∧
    (∀ o sp r i tl e, a.drain = some (o, sp, r) → r.tiles.find? (fun x => !x.2.final) = some (i, tl) → tl.e = some e →
      let dc := Desc.dec sp.tC
      let fmt := (Desc.dec sp.tD).fmt
      let rows := tileRows dc.rows i
      let vs := (rows.flatMap (fun m => r.vals.getD m [])).map sp.num
      let fails : Bool := vs.any (fun x => fmtOverflows fmt (x.scale (-e)))
      let q := s.refuseDrain k sp r
      (∀ m ∈ rows, (SMap.find r.vals m).isSome = true) →
      (fails = false → ∀ u r', s.finishTile k o sp r i false = some (u, r') →
        exec (.drainTileCheck c) s = .next (u.setRun k o.id sp r')) ∧
      (fails = true → tl.k = 2 → ∀ u r', q.1.finishTile k o sp q.2 i true = some (u, r') →
        exec (.drainTileCheck c) s = .next ((u.numFlag k Fd.TILE_NUM_STAT_SPRED_SAT true).setRun k o.id sp r')) ∧
      (fails = true → tl.k ≠ 2 →
        let up := if tl.k = 0 then max (floorLog2 (amaxOf vs) - emaxOf fmt) (e + 1) else e + 1
        exec (.drainTileCheck c) s = .next ((q.1.noteRetry k).setRun k o.id sp { q.2 with
          tiles := q.2.tiles.set i { tl with e := some (min up 127), k := tl.k + 1 }
          vals := q.2.vals.filter (fun x => !(rows.contains x.1))
          todo := q.2.todo.filter (fun x => x.2 = 2) ++ rows.map (fun m => (m, 1)) ++ q.2.todo.filter (fun x => x.2 ≠ 2) }))) ∧
    (∀ o sp r, a.q.find? (fun o => match o.kind with | .drain _ _ => true | _ => false) = some o → o.kind = .drain sp r →
      drainBegun sp r = true →
      let d := Desc.dec sp.tD
      let t := k * 128 + o.th
      let closed := match r.window with | some w => (s.dropArr k o.id).closeWindow k w | none => s.dropArr k o.id
      let q := closed.barLand o.bar o.ep (d.rows * d.rowBytes)
      exec (.drainComplete c) s = .next (if r.fail then q.1.failLater t 0x0301 o.pc o.owner
        else if o.lost then q.1.failLater t 0x0511 o.pc o.owner
        else if q.2 = 0 then q.1 else q.1.failLater t (BitVec.ofNat 16 q.2) o.pc o.owner))

/-- R490: MOVE and MOVE.T. R86: a copy records the BEPOCH of its barrier. R359 to R362: KV.GET translates its pages as it goes, KV.PUT once
every page is ready. R369: a wheel access takes a pin. R260: an engine without room makes the thread wait. -/
def Obligations.CopiesAccepted : Prop :=
  ∀ (t : Tid) (w : IWord) (s : State), s.Enabled t w →
    let th := t.code
    let tile := t.tile.val
    let x := s.thread th
    let p := s.pastGuard t w
    let g (i : Nat) : Nat := ((s.regs th).getG i).toNat
    let made (bar : Nat) (segs : List TxnOp) (geom : Option Geom) : Copy :=
      { org := .thread th x.regs.pc x.owner, bar := barAddr th bar, ep := p.barEpoch (barAddr th bar), segs := segs, geom := geom }
    let accepts (i : Instr) (f n : Nat) (c : Copy) : Prop :=
      (f ≠ 0 → exec i s = .next (p.raise th f w.size)) ∧
      (f = 0 → p.engineRoom tile n = true → exec i s = .next ((p.acceptCopy tile c).advance t w)) ∧
      (f = 0 → p.engineRoom tile n = false → exec i s = .next (s.waitIn th .waitData))
    (
      let a := g w.a.toNat
      let b := g w.b.toNat
      let n := g w.c.toNat
      let bar := g w.d.toNat
      let f := if n = 0 then 0 else p.moveFault a b n
      s.Ready t w (({ a := .g, b := .g, c := .g, d := .g } : Form).ok w) true
        [gR w.a.toNat, gR w.b.toNat, gR w.c.toNat, gR w.d.toNat] →
      accepts (.move t w) (if f ≠ 0 then f else barFault bar) (n / 256 + 1)
        (made bar (if n = 0 then [] else [.mv b a n true]) none)) ∧
    (
      let us := if w.m 4 then [0, 1, 2, 3, 4, 5] else [0, 1, 2, 3]
      let geom : Geom := { fmt := w.ms 0 4, src := g w.b.toNat, dst := g w.a.toNat, sstride := g (w.f 2), dstride := g (w.f 3),
                           rows := g (w.f 0), cols := g (w.f 1) }
      let y : Transp := { g := geom, sc := w.m 4, col := w.m 5, ssrc := g (w.f 4), sdst := g (w.f 5) }
      let f := p.transpFault y
      let zero := geom.rows = 0 ∨ geom.cols = 0
      s.Ready t w (({ a := .g, b := .g, c := .g, mods := if w.m 4 then 0x3F else 0x1F, x := .fields us } : Form).ok w) true
        ([gR w.a.toNat, gR w.b.toNat, gR w.c.toNat] ++ us.map (fun k => gR (w.f k))) →
      accepts (.moveT t w) (if f ≠ 0 then f else barFault (g w.c.toNat)) (if zero then 1 else y.srcLen / 256 + y.dstLen / 256 + 2)
        (made (g w.c.toNat) (if zero then [] else y.segs) (some geom))) ∧
    (
      let a := kvArgs (s.regs th) w
      let wh := p.wheel a.wheel
      let d := wh.stream' a.layer a.group a.kind
      let pages := wh.pagesOf a.token a.n
      let walks := pages.map (s.walkRanges a.wheel d)
      s.Ready t w (kvSpec w).ok true (kvSpec w).reads →
      (p.descHeld a.wheel = true → exec (.kvGet t w) s = .next (s.waitIn th .waitData) ∧ exec (.kvPut t w) s = .next (s.waitIn th .waitData)) ∧
      (p.descHeld a.wheel = false →
      (p.kvFault th a true ≠ 0 → exec (.kvGet t w) s = .next (p.raise th (p.kvFault th a true) w.size)) ∧
      (p.kvFault th a true = 0 → p.engineRoom tile (2 * a.n) = true →
        let pin := p.takePin (coreOf th)
        let y := pin.2.tile tile
        let c : Copy := { made a.bar [] none with
          pin := some (coreOf th, pin.1)
          walk := some { wheel := a.wheel, d := d, desc := a.dsc, token := a.token, left := a.n, row := 0 } }
        let q := (pin.2.setTile tile { y with nextId := y.nextId + 1, copies := y.copies.set y.nextId c }).translate
          (a.n + 2) tile y.nextId none
        exec (.kvGet t w) s = .next (((q.issueTxns tile 8192).settleCopy tile y.nextId).advance t w)) ∧
      (p.putFault th a ≠ 0 → exec (.kvPut t w) s = .next (p.raise th (p.putFault th a) w.size)) ∧
      (p.putFault th a = 0 → p.engineRoom tile (2 * a.n) = true → (∀ x ∈ walks, p.anyHeld x = false) →
        let h := if p.inLine th then p else p.newTry (th + 1)
        let pages' := (h.touchAll walks.flatten).putPages th a.wheel d pages
        ((∃ i ∈ pages, h.walkBad a.wheel d i = true) → exec (.kvPut t w) s = .next ((h.leaveLine th).raise th 0x0510 w.size)) ∧
        ((∀ i ∈ pages, h.walkBad a.wheel d i = false) →
        (∀ u, pages' = .ready u →
          let v := u.leaveLine th
          let pin := v.takePin (coreOf th)
          let q := pin.2.putSegs tile a.wheel d (Desc.dec a.dsc) a.token a.n pages
          let c : Copy := { made a.bar q.1 none with ep := v.barEpoch (barAddr th a.bar), pin := some (coreOf th, pin.1) }
          exec (.kvPut t w) s = .next ((q.2.acceptCopy tile c).advance t w)) ∧
        (∀ u, pages' = .wait u → exec (.kvPut t w) s =
          .next (((u.joinLine th).unguard th (s.regs th).ctrl).waitIn th .waitData)) ∧
        (∀ u, pages' = .fail u →
          exec (.kvPut t w) s = .next ((u.leaveLine th).stopThread th (BitVec.ofNat 16 0x0721) x.regs.pc))))))

/-- R514: COPY and COPY.T move what MOVE and MOVE.T move, in the engine of the tile named or of the lowest in service. R516: CAVE moves its
extents in order, and none of them when one has a fault (R48). R510: a body that sets what it does not use is 0x0A11. -/
def Obligations.CopyCommands : Prop :=
  ∀ (k : CmdRef) (s : State) (c : Cmd),
    let p := s.startCmd k
    (∀ t, s.Starts k 0x02 [(0, 25)] c → s.copyTile (c.body 24 1) = some t → s.engineRoom t (c.body 16 8 / 256 + 1) = true →
      let n := c.body 16 8
      let f := p.moveFault (c.body 0 8) (c.body 8 8) n
      (n = 0 → exec (.copy k) s = .next (p.finishCmd k 0)) ∧
      (2 ^ 40 < n → exec (.copy k) s = .next (p.finishCmd k 0x0A11)) ∧
      (0 < n → n ≤ 2 ^ 40 → f ≠ 0 → exec (.copy k) s = .next (p.finishCmd k f)) ∧
      (0 < n → n ≤ 2 ^ 40 → f = 0 → exec (.copy k) s = .next (p.acceptCopy t
        { org := .cmd k, bar := 0, ep := 0, segs := [.mv (c.body 8 8) (c.body 0 8) n true] }))) ∧
    (∀ t, s.Starts k 0x03 [(0, 26), (32, 40)] c → s.copyTile (c.body 24 1) = some t →
      s.engineRoom t ((transpOf c).srcLen / 256 + (transpOf c).dstLen / 256 + 2) = true → c.body 25 1 < 64 →
      let x := transpOf c
      let f := p.transpFault x
      (f ≠ 0 → exec (.copyT k) s = .next (p.finishCmd k f)) ∧
      (f = 0 → x.g.rows = 0 ∨ x.g.cols = 0 → exec (.copyT k) s = .next (p.finishCmd k 0)) ∧
      (f = 0 → x.g.rows ≠ 0 → x.g.cols ≠ 0 → exec (.copyT k) s = .next (p.acceptCopy t
        { org := .cmd k, bar := 0, ep := 0, segs := x.segs, geom := some x.g }))) ∧
    (∀ t, s.Starts k 0x18 [(0, 13)] c → s.tilesOn.head? = some t → s.engineRoom t 1 = true → s.caveHeld c = false →
      let a := c.body 0 8 % 2 ^ 46
      let n := c.body 8 4
      let es := (List.range n).map (fun i => p.caveExtent (c.body 12 1) (a + 24 * i))
      n ≤ 2 ^ 20 → c.body 12 1 ≤ 1 →
      (n = 0 → exec (.cave k) s = .next (p.finishCmd k 0)) ∧
      (0 < n → p.addrFault .engine a (24 * n) = 0 → p.poisoned a (24 * n) = true →
        exec (.cave k) s = .next (p.finishCmd k 0x0511)) ∧
      (0 < n → p.addrFault .engine a (24 * n) = 0 → p.poisoned a (24 * n) = false →
        let list := (es.filter (fun e => e.1.2.2 ≠ 0)).map (fun e => TxnOp.mv e.1.1 e.1.2.1 e.1.2.2 true)
        (∀ e, es.find? (fun e => e.2 ≠ 0) = some e → exec (.cave k) s = .next ((p.touch a (24 * n)).finishCmd k e.2)) ∧
        ((∀ e ∈ es, e.2 = 0) → exec (.cave k) s = .next ((p.touch a (24 * n)).acceptCopy t
          { org := .cmd k, bar := 0, ep := 0, ordered := true, segs := list }))))

/-- R260: a transaction moves at most 256 bytes within one aligned span of its source and of its destination, when its source does not
glide. R285, R286: what poison does to it. -/
def Obligations.TransactionsMove : Prop :=
  (∀ (tile : Fin 36) (id : Nat) (s : State) (x : Txn) (c : Copy),
    let t := tile.val
    SMap.find (s.tile t).txns id = some x → SMap.find (s.tile t).copies x.copy = some c →
    let target := c.target x.op
    let bs := s.txnBytes c x
    let u := x.op.sources.foldl (fun s r => if s.here r.1 then s.touch (devSplit r.1).2 r.2 else s) s
    (s.txnReady t id c x = false → exec (.engineTransactionComplete tile id) s = .next s) ∧
    let f := s.txnFault c x
    let edge : Prop := s.pastEdge target.1 = true ∧ bs.any (·.2) = true
    (s.computeUp = true → s.txnReady t id c x = true → f ≠ 0 → exec (.engineTransactionComplete tile id) s = .next (s.failTxn t id f)) ∧
    (s.computeUp = true → s.txnReady t id c x = true → f = 0 → ∀ a n, x.op = .rd a n →
      exec (.engineTransactionComplete tile id) s = .next ((u.readAhead t x a n).endTxn t id x.copy)) ∧
    (s.computeUp = true → s.txnReady t id c x = true → f = 0 → c.blocked = false → (∀ a n, x.op ≠ .rd a n) →
      (¬ edge → s.here target.1 = true →
        exec (.engineTransactionComplete tile id) s = .next ((u.landTxn t x target.1 bs).endTxn t id x.copy)) ∧
      (¬ edge → s.here target.1 = false →
        let q := u.setTile t { u.tile t with txns := (u.tile t).txns.set id { x with sent := true } }
        let g := q.newTag (.txn t id)
        exec (.engineTransactionComplete tile id) s = .next (g.2.sendPkt (devSplit target.1).1 1 0x03
          (storeBody (devSplit target.1).2 g.1 (bs.map (·.1))) (.txn t id))) ∧
      (edge →
        let v := u.alterCopy t x.copy (fun c => { c with
          fault := if c.fault = 0 then 0x0511 else c.fault, blocked := true, segs := [] })
        let good := cleanPrefix target.1 bs
        exec (.engineTransactionComplete tile id) s = .next
          (if good = [] then v.endTxn t id x.copy
           else if v.here target.1 = true then (v.landTxn t x target.1 good).endTxn t id x.copy
           else v.sendTxn t id { x with op := .mv target.1 target.1 good.length x.op.counts } target.1 (good.map (·.1)))))) ∧
  (∀ (tile : Fin 36) (id : Nat) (s : State), SMap.find (s.tile tile.val).txns id = none →
    exec (.engineTransactionComplete tile id) s = .next s) ∧
  (∀ (c : Copy) (a b n : Nat) (cnt : Bool) (r : List TxnOp), 0 < n → c.segs = .mv a b n cnt :: r →
    ∃ k, 0 < k ∧ k ≤ n ∧ a / 256 = (a + k - 1) / 256 ∧ b / 256 = (b + k - 1) / 256 ∧
      c.nextPiece = some (.mv a b k cnt, if n ≤ k then r else .mv (a + k) (b + k) (n - k) cnt :: r))

/-- R377: what each command does and the state its wheel must be in. R378: the wheel unit serves one at a time. R353, R366, R367, R371: the
tables; R373, R374: the park and the resume it begins. -/
def Obligations.WheelCommands : Prop :=
  ∀ (k : CmdRef) (s : State) (c : Cmd), s.wops = [] → s.kvWaiting = [] →
    let p := ((s.startCmd k).touchAll [((s.startCmd k).wheelAddr (c.body 0 2), 64)]).newTry 0
    let wn := c.body 0 2
    let free (opc : Nat) : Prop := s.tablesHeld (s.cmdTables opc c) = false
    let w := p.wheel wn
    (s.Starts k 0x10 [(0, 2), (16, 64)] c → free 0x10 →
      let v := c.bits (128 + 128) 512
      let n := Wheel.dec v
      (p.stateFault wn [0] ≠ 0 → exec (.create k) s = .next (p.finishCmd k (p.stateFault wn [0]))) ∧
      (p.stateFault wn [0] = 0 → p.createOk n = false → exec (.create k) s = .next (p.finishCmd k 0x0704)) ∧
      (p.stateFault wn [0] = 0 → p.createOk n = true →
        let u := (List.range n.streams).foldl (fun s d =>
          s.kvWrite (n.dir + 8 * d) 8 (1 + (n.leaf + d * n.indices * 16) / 16 * 16))
          (p.zeroRange (selfDev n.leaf) (n.streams * n.indices * 16))
        exec (.create k) s = .next (((u.kvWrite (u.wheelAddr wn) 64 (setBits v 0 3 1)).forget wn).finishCmd k 0))) ∧
    (s.Starts k 0x11 [(0, 4), (8, 8)] c → free 0x11 →
      let b := c.body 2 2
      let p := ((s.startCmd k).touchAll [((s.startCmd k).wheelAddr wn, 64), ((s.startCmd k).wheelAddr b, 64)]).newTry 0
      let w := p.wheel wn
      let i0 := c.body 8 4
      let i1 := c.body 12 4
      let y := p.wheel b
      let ps := (List.range w.streams).flatMap (fun d => (List.range (i1 - i0)).map (fun j => (d, i0 + j)))
      p.stateFault wn [1] = 0 → p.stateFault b [1] = 0 →
      (i1 ≤ i0 → exec (.share k) s = .next (p.finishCmd k 0)) ∧
      (i0 < i1 → w.psize = y.psize ∧ w.fmt = y.fmt ∧ w.scaleEn = y.scaleEn ∧ w.rowbLog = y.rowbLog ∧ w.layers = y.layers ∧
          w.groups = y.groups ∧ w.tbase = y.tbase ∧ i1 ≤ w.indices ∧ i1 ≤ y.indices →
        (∀ q ∈ ps, (p.entry y q.1 q.2).valid = false) →
        exec (.share k) s = .next ((ps.foldl (fun s q =>
          let e := s.entry w q.1 q.2
          if e.valid then
            let e := { e with cow := true }
            let s := (s.setEntry wn q.1 q.2 e).setEntry b q.1 q.2 e
            let s := if e.record = noRec then s else s.setRec e.record 0 24 (s.recBits e.record 0 24 + 1)
            s.setWheel b 96 32 ((s.wheel b).pages + 1)
          else s) p).finishCmd k 0)) ∧
      (i0 < i1 → (∃ q ∈ ps, (p.entry y q.1 q.2).valid = true) → exec (.share k) s = .next (p.finishCmd k 0x0706))) ∧
    (s.Starts k 0x12 [(0, 2), (8, 8)] c → free 0x12 →
      let ps := w.places.filter (fun q => decide (c.body 8 4 ≤ q.2) && decide (q.2 < c.body 12 4) && (p.entry w q.1 q.2).cow)
      (p.stateFault wn [1] ≠ 0 → exec (.wheelCopy k) s = .next (p.finishCmd k (p.stateFault wn [1]))) ∧
      (p.stateFault wn [1] = 0 → exec (.wheelCopy k) s = .next ({ p with wops := [.cowList wn ps k] } : State).wheelProceed)) ∧
    (s.Starts k 0x13 [(0, 2)] c → free 0x13 → (s.stateFault wn [1, 3, 5] = 0 → s.epochRoom (s.wheel wn).pages = true) →
      (p.stateFault wn [1, 3, 5] ≠ 0 → exec (.free k) s = .next (p.finishCmd k (p.stateFault wn [1, 3, 5]))) ∧
      (p.stateFault wn [1, 3, 5] = 0 →
        let u := w.places.foldl (fun s q =>
          let e := s.entry w q.1 q.2
          if e.valid then s.swing wn q.1 q.2 { e with valid := false } else s) p
        exec (.free k) s = .next (((u.setWheelState wn 0).setWheel wn 96 32 0).finishCmd k 0))) ∧
    (s.Starts k 0x14 [(0, 2)] c → free 0x14 →
      (p.stateFault wn [1] ≠ 0 → exec (.park k) s = .next (p.finishCmd k (p.stateFault wn [1]))) ∧
      (p.stateFault wn [1] = 0 → exec (.park k) s = .next (p.startPark wn 0 (some k)))) ∧
    (s.Starts k 0x15 [(0, 2)] c → free 0x15 →
      let ps := w.places.filter (fun q => let e := p.entry w q.1 q.2; e.valid && e.record = noRec)
      (p.stateFault wn [3] ≠ 0 → exec (.resume k) s = .next (p.finishCmd k (p.stateFault wn [3]))) ∧
      (p.stateFault wn [3] = 0 → exec (.resume k) s = .next ((p.setWheelState wn 4).resumeNext wn ps [] k [])))

/-- R368: a copy-on-write. R373, R374: the pages of a park and of a resume. R375: the record of a park. R372: a pool that runs low. R370: a
frame whose readers have finished. R365: a walk reads the entry and caches it. -/
def Obligations.WheelUnitSteps : Prop :=
  ∀ (s : State),
    (∀ wn d i r cp rest, s.wops = .cow wn d i r cp :: rest → cp.reads = 0 → s.epochRoom 1 = true → cp.fault = 0 →
      s.tablesHeld (s.walkRanges wn d i ++ s.pageRanges cp) = false →
      let q := if cp.moved then (s, 0) else s.writePage cp
      (q.2 ≠ 0 → exec .cowCopyDone s = .next (q.1.cowFail r q.2 cp rest)) ∧
      (q.2 = 0 → q.1.wheelWrites = true → exec .cowCopyDone s =
        .next { q.1 with wops := .cow wn d i r { cp with moved := true } :: rest }) ∧
      (q.2 = 0 → q.1.wheelWrites = false →
        let u := q.1.swing wn d i (q.1.entryOf (q.1.wheel wn).pool r)
        exec .cowCopyDone s =
          .next ({ (u.dropPin cp.pin.1 cp.pin.2).incFld Fd.KV_STAT_COWS with wops := rest } : State).wheelProceed)) ∧
    (∀ wn d i more slots cause k fault cp rest, s.wops = .park wn ((d, i) :: more) slots cause k fault (some cp) false :: rest →
      cp.reads = 0 → s.epochRoom 1 = true → cp.fault = 0 → s.tablesHeld (s.walkRanges wn d i ++ s.pageRanges cp) = false →
      (s.writePage cp).2 = 0 →
      let q := (s.writePage cp).1
      let u := (q.swing wn d i ((q.wheel wn).caveEntry slots)).dropPin cp.pin.1 cp.pin.2
      let r := u.parkNext wn more (slots + 1) cause k fault
      exec .caveSlotCopyDone s = .next { r.2 with wops := r.1 :: rest }) ∧
    (∀ wn d i more got k cp rest, s.wops = .resume wn ((d, i) :: more) got k (some cp) :: rest →
      cp.reads = 0 → cp.fault = 0 → cp.moved = false → s.tablesHeld (s.walkRanges wn d i ++ s.pageRanges cp) = false →
      (s.writePage cp).2 = 0 →
      let q := (s.writePage cp).1
      exec .caveSlotCopyDone s = .next (if q.wheelWrites
        then { q with wops := .resume wn ((d, i) :: more) got k (some { cp with moved := true }) :: rest }
        else (q.dropPin cp.pin.1 cp.pin.2).resumeNext wn more got k rest)) ∧
    (∀ wn slots cause k fault, s.parkNext wn [] slots cause k fault =
      (.park wn [] slots cause k fault none true, (s.setWheel wn 416 32 slots).setWheelState wn 3)) ∧
    (s.kvRingRoom = false → exec .parkFinish s = .next s) ∧
    (∀ wn todo slots cause k fault cp rest, s.wops = .park wn todo slots cause k fault cp true :: rest → s.kvRingRoom = true →
      let parked := if (s.wheel wn).state = 3 then s.incFld Fd.KV_STAT_PARKS else s
      let u := parked.parkRecord wn cause fault slots
      exec .parkFinish s =
        .next ({ (match k with | some k => u.finishCmd k fault | none => u) with wops := rest } : State).wheelProceed) ∧
    (∀ (pool : Fin 16) x, s.isSet Fd.KV_CTL_EN = true → s.wops = [] → s.kvWaiting = [] →
      s.fld (Fd.KV_POOL_STAT_FREE pool.val) < s.fld (Fd.KV_POOL_CFG_LOW pool.val) → s.victim pool.val 15 65536 [] = some x →
      exec (.poolLowPreempt pool) s = .next (s.startPark x 2 none)) ∧
    (∀ rec : BitVec 24, s.reclaim.contains rec.toNat = true →
      s.tablesHeld ((s.frameRanges rec.toNat).filterMap (fun x => if s.here x.1 then some ((devSplit x.1).2, x.2) else none)) = false →
      (∀ e ∈ s.busyEpochs, (s.kvEpoch - e).toNat < (s.kvEpoch - BitVec.ofNat 32 (s.recBits rec.toNat 32 32)).toNat) →
      let pool := s.recBits rec.toNat 24 4
      let n := 2 ^ (s.fld (Fd.KV_POOL_CFG_PSIZE pool) + 16)
      let u := if s.isSet (Fd.KV_POOL_CFG_ZERO pool) then
        (s.zeroRange (s.recBits rec.toNat 64 64) n).zeroRange (s.recBits rec.toNat 128 64) (n / 16) else s
      let v := u.freeRec rec.toNat
      exec (.frameReclaim rec) s = .next ({ v with reclaim := v.reclaim.filter (· ≠ rec.toNat) } : State).wheelProceed) ∧
    (∀ (tile : Fin 36) cid c q, (s.tile tile.val).copies.find? (fun e => e.2.walk.isSome) = some (cid, c) → c.walk = some q →
      let w := s.wheel q.wheel
      let i := (q.token - w.tbase) / w.tokens
      let v := BitVec.ofNat 128 (s.entryNat w q.d i)
      let at' := s.touchAll (s.walkRanges q.wheel q.d i)
      let u := ((at'.incFld (Fd.TILE_KV_CACHE_MISSES tile.val)).cachePut tile.val q.wheel q.d i v).translate (q.left + 2) tile.val cid (some v)
      s.anyHeld (s.walkRanges q.wheel q.d i) = false →
      (s.walkBad q.wheel q.d i = false → exec (.pageWalkDone tile) s = .next ((u.issueTxns tile.val 8192).settleCopy tile.val cid)) ∧
      (s.walkBad q.wheel q.d i = true → exec (.pageWalkDone tile) s = .next ((s.alterCopy tile.val cid (fun c => { c with
        fault := if c.fault = 0 then 0x0510 else c.fault, blocked := true, segs := [], walk := none })).settleCopy tile.val cid)))

/-- R354: the layout of a page entry, whose frame lies on a 64 KiB and whose scale array on a 2 KiB boundary of the same module. R358: the
list of a pool. Far memory takes the bytes as they are: no line of the tables is poisoned or without power and none holds a barrier. -/
def Obligations.WheelTables : Prop :=
  (∀ (e : Entry) (w : Wheel), e.loc < 8 → e.record < 2 ^ 24 → w.fmt < 16 → e.frame < 2 ^ 64 → e.frame % 65536 = 0 →
    e.scale % 2048 = 0 → e.scale / 2 ^ 46 = e.frame / 2 ^ 46 →
    Entry.dec (e.enc w) = e ∧ bits (e.enc w) 5 4 = w.fmt ∧ bitAt (e.enc w) 9 = w.scaleEn ∧ e.enc w < 2 ^ 128) ∧
  (∀ (v lo len x : Nat), lo + len ≤ 512 → v < 2 ^ 512 →
    setBits v lo len x < 2 ^ 512 ∧ bits (setBits v lo len x) lo len = x % 2 ^ len ∧
    ∀ i, (i < lo ∨ lo + len ≤ i) → bitAt (setBits v lo len x) i = bitAt v i) ∧
  (∀ (s : State) (r : Nat),
    let pool := s.recBits r 24 4
    let u := s.freeRec r
    let plain (q : State) : Prop := ∀ i, i < 32 → regionOf (s.recAddr r + i) = .far ∧ q.badLine (lineOf (s.recAddr r + i)) = false
    plain s → s.bars = [] → r < 2 ^ 24 → s.fld (Fd.KV_POOL_STAT_FREE pool) + 1 < 2 ^ 24 →
    u.fld (Fd.KV_POOL_CFG_HEAD pool) = r ∧
    u.fld (Fd.KV_POOL_STAT_FREE pool) = s.fld (Fd.KV_POOL_STAT_FREE pool) + 1 ∧
    u.recBits r 192 24 = s.fld (Fd.KV_POOL_CFG_HEAD pool) % 2 ^ 24 ∧ u.recBits r 28 3 = 0 ∧
    u.recBits r 24 4 = pool ∧ u.recBits r 64 64 = s.recBits r 64 64 ∧ u.recBits r 128 64 = s.recBits r 128 64)

/-- R356: EN written 1 starts the check, whose end sets EN, or CFG_BAD with the first failing record. R357: EN is cleared when every wheel is FREE. -/
def Obligations.KvEnabling : Prop :=
  ∀ (s : State),
    (s.boot.done1 = true →
      (s.isSet Fd.KV_CTL_EN = false → exec .kvEnable s = .next (s.setFld Fd.KV_CTL_CHECKING 1)) ∧
      (s.isSet Fd.KV_CTL_EN = true → exec .kvEnable s = .next s) ∧
      (s.isSet Fd.KV_CTL_EN = false → exec .kvDisable s = .next s) ∧
      (s.isSet Fd.KV_CTL_EN = true → (∀ w, w < s.fld Fd.KV_TABLE_WHEELS → (s.wheel w).state = 0) →
        exec .kvDisable s = .next (s.setFld Fd.KV_CTL_EN 0)) ∧
      (s.isSet Fd.KV_CTL_EN = true → ∀ w, w < s.fld Fd.KV_TABLE_WHEELS → (s.wheel w).state ≠ 0 →
        exec .kvDisable s = .next (s.log 0x0708))) ∧
    (
      let u := s.setFld Fd.KV_CTL_CHECKING 0
      s.isSet Fd.KV_CTL_CHECKING = true → s.tablesHeld [] = false →
      (u.poolCheck = none → exec .kvCheckDone s = .next (u.setFld Fd.KV_CTL_EN 1)) ∧
      (∀ r, u.poolCheck = some r →
        exec .kvCheckDone s = .next ((u.setFld Fd.KV_CTL_CFG_BAD 1).setFld Fd.KV_CTL_CFG_ERR r))) ∧
    (s.isSet Fd.KV_CTL_CHECKING = false → exec .kvCheckDone s = .next s) ∧
    (∀ tail : BitVec 20, s.Hears 11 →
      Answers (.kvEvtTailWrite tail) s (fun u => u = s.setFld Fd.KV_EVT_PTR_KV_EVT_TAIL tail.toNat ∧
        u.fld Fd.KV_EVT_PTR_KV_EVT_TAIL = tail.toNat))

/-- R392, R394: a posting joins its slice's queue, which holds four. R402, R404: a slice joins the sequencer with its source, its barrier
and, for a run of a wheel, its pin. R405: their faults, and a slice of a lap given up. -/
def Obligations.LapInstructions : Prop :=
  ∀ (t : Tid) (w : IWord) (s : State), s.Enabled t w →
    let th := t.code
    let i := w.ms 0 1
    let r := s.regs th
    let p := s.pastGuard t w
    let g (k : Nat) : Nat := (r.getG k).toNat
    let x := s.lap i
    let stops (j : Instr) (slice : Nat) : Prop :=
      (s.lapArmed i = false → exec j s = .next (p.raise th 0x0801 w.size)) ∧
      (s.lapArmed i = true → s.lapSlices i ≤ slice → exec j s = .next (p.raise th 0x0805 w.size))
    let posts (j : Instr) (slice a bar : Nat) (discard : Bool) : Prop :=
      s.lapArmed i = true → slice < s.lapSlices i → (discard = false → lapRegionOk a (s.sliceBytes i) = true) → barFault bar = 0 →
      (4 ≤ (x.posts.filter (fun q => q.slice = slice)).length → exec j s = .next (s.waitIn th .waitData)) ∧
      ((x.posts.filter (fun q => q.slice = slice)).length < 4 → exec j s =
        .next ((p.setLap i { x with nextId := x.nextId + 1, posts := x.posts ++ [{
          t := th, pc := r.pc, owner := (s.thread th).owner, id := x.nextId, slice := slice, addr := if discard then 0 else tileBase (tileOf th) + a, bar := barAddr th bar,
          ep := s.barEpoch (barAddr th bar), discard := discard }] }).advance t w))
    (w.m 1 = false → s.Ready t w (({ a := .g, b := .g, c := .g, mods := 1 } : Form).ok w) true
        [gR w.a.toNat, gR w.b.toNat, gR w.c.toNat] →
      stops (.lapPost t w) (g w.a.toNat) ∧ posts (.lapPost t w) (g w.a.toNat) (g w.b.toNat) (g w.c.toNat) false) ∧
    (w.m 1 = true → s.Ready t w (({ a := .g, c := .g, mods := 3 } : Form).ok w) true [gR w.a.toNat, gR w.c.toNat] →
      stops (.lapPostDiscard t w) (g w.a.toNat) ∧ posts (.lapPostDiscard t w) (g w.a.toNat) 0 (g w.c.toNat) true) ∧
    (s.Ready t w (({ a := .g, b := .g, c := .g, mods := 1 } : Form).ok w) true [gR w.a.toNat, gR w.b.toNat, gR w.c.toNat] →
      let slice := g w.a.toNat
      let a := g w.b.toNat % 2 ^ 46
      let bar := g w.c.toNat
      let n := s.sliceBytes i
      stops (.lapSend t w) slice ∧
      (s.lapArmed i = true → slice < s.lapSlices i → p.lapSourceBad th a n = true →
        exec (.lapSend t w) s = .next (p.raise th 0x0805 w.size)) ∧
      (s.lapArmed i = true → slice < s.lapSlices i → p.lapSourceBad th a n = false →
        (s.lapLinkFault i ≠ 0 → exec (.lapSend t w) s = .next (p.raise th (s.lapLinkFault i) w.size)) ∧
        (s.lapLinkFault i = 0 → s.addrFault .thread a n = 0 → barFault bar = 0 →
          (s.lapRoom i slice = false → exec (.lapSend t w) s = .next (s.waitIn th .waitData)) ∧
          (s.lapRoom i slice = true → exec (.lapSend t w) s = .next ((p.lapEnqueue i
            { id := 0, slice := slice, t := th, pc := r.pc, owner := (s.thread th).owner, bar := barAddr th bar,
              ep := s.barEpoch (barAddr th bar), srcs := [(selfDev a, n)] }).advance t w))))) ∧
    (s.Ready t w (({ a := .g, b := .g, c := .g, mods := 7, x := .fields [0, 1, 2, 3] } : Form).ok w) true
        [gR w.a.toNat, gR w.b.toNat, gR w.c.toNat, gR (w.f 0), gR (w.f 1), gR (w.f 2), gR (w.f 3)] →
      let sc := w.m 2
      let slice := g w.a.toNat
      let wn := g w.b.toNat
      let bar := g w.c.toNat
      let n := g (w.f 3)
      let wh := s.wheel wn
      let d := wh.stream' (g (w.f 0)) (g (w.f 1)) (w.ms 1 1)
      let walks := s.runWalks wn d (g (w.f 2)) n
      (s.lapArmed i = true → s.descHeld wn = true → exec (.lapSendKv t w) s = .next (s.waitIn th .waitData)) ∧
      (s.descHeld wn = false →
      stops (.lapSendKv t w) slice ∧
      (s.lapArmed i = true → slice < s.lapSlices i → n ≠ 0 → n * (if sc then wh.scaleRow else wh.rowb) = s.sliceBytes i →
        s.lapLinkFault i = 0 →
        (s.wheelFault wn ≠ 0 → exec (.lapSendKv t w) s = .next (p.raise th (s.wheelFault wn) w.size)) ∧
        (s.wheelFault wn = 0 → wh.runBad (g (w.f 0)) (g (w.f 1)) (g (w.f 2)) n = false → barFault bar = 0 →
          (s.lapRoom i slice = false → exec (.lapSendKv t w) s = .next (s.waitIn th .waitData)) ∧
          (s.lapRoom i slice = true → (∀ x ∈ walks, s.anyHeld x = false) →
            let pin := (p.touchAll walks.flatten).takePin (pinEngine (tileOf th))
            let q := pin.2.runRanges (tileOf th) wn d (g (w.f 2)) n sc
            exec (.lapSendKv t w) s = .next ((q.2.2.lapEnqueue i
              { id := 0, slice := slice, t := th, pc := r.pc, owner := (s.thread th).owner, bar := barAddr th bar,
                ep := s.barEpoch (barAddr th bar), srcs := q.1, fault := if s.rangesPoisoned walks.flatten then 0x0511 else if q.2.1 then 0x0703 else 0,
                pin := some (pinEngine (tileOf th), pin.1) }).advance t w))))))

/-- R391: arming compares a geometry that has come and sends the module's own to NEXT; disarming releases the postings. R402 to R405: a
sequencer's next slice. R411, R412, R414: loads fill the shadow heads, and a fence switches them to the front. -/
def Obligations.LapsAndTables : Prop :=
  (∀ (i : Fin 2) (s : State), s.Hears 13 →
    let v := i.val
    let armed := s.setFld (Fd.JOB_LAP_CFG_ARM v) 1
    let known := match (s.lap v).geom with
      | some g => (armed.setLap v { s.lap v with geom := none }).geoCompare v g
      | none => armed.setLap v { s.lap v with geom := none }
    (s.lapArmed v = true → exec (.lapArm i) s = .next s) ∧
    (s.lapArmed v = false → known.lapRing v = none → exec (.lapArm i) s = .next known) ∧
    (∀ r, s.lapArmed v = false → known.lapRing v = some r → r.next ≠ known.moduleId → known.linkFault r.next 0 = 0 →
      exec (.lapArm i) s = .next (known.sendPkt r.next 0 0x10 (known.geoBody v) .none)) ∧
    (∀ r, s.lapArmed v = false → known.lapRing v = some r → r.next = known.moduleId →
      exec (.lapArm i) s = .next (known.geoCompare v (known.fld (Fd.JOB_LAP_CFG_SLICES_M1 v), known.lapPages v))) ∧
    (
      let open0 (c : Nat × Core) : List (Nat × Nat) := (c.2.windows.filter (fun w => match w.2.kind with
        | .lap a _ => a = v
        | _ => false)).map (fun w => (c.1, w.1))
      exec (.lapDisarm i) s = .next ((s.cores.flatMap open0).foldl (fun s w => s.closeWindow w.1 w.2)
        (((s.setFld (Fd.JOB_LAP_CFG_ARM v) 0).setFld (Fd.JOB_LAP_CFG_PEER_OK v) 0).setLap v { s.lap v with posts := [] })))) ∧
  (∀ (i : Fin 2) (s : State) (q : LapSend),
    let v := i.val
    let x := s.lap v
    x.sends.find? (fun q => !q.sent && q.slice = x.cur) = some q → s.computeUp = true →
    (q.fault ≠ 0 → exec (.lapSliceSend i) s = .next (s.lapStop v q (s.lapNext v) q.fault)) ∧
    (q.fault = 0 → s.lapPoisoned q = true → exec (.lapSliceSend i) s = .next (s.lapStop v q (s.lapNext v) 0x0511)) ∧
    (∀ d, q.fault = 0 → s.lapPoisoned q = false → s.lapNext v = some d → d ≠ s.moduleId → s.linkFault d (2 + v) ≠ 0 →
      exec (.lapSliceSend i) s = .next (s.lapStop v q (some d) (s.linkFault d (2 + v)))) ∧
    (∀ d, q.fault = 0 → s.lapPoisoned q = false → s.lapNext v = some d → (d ≠ s.moduleId → s.linkFault d (2 + v) = 0) →
      s.lapSettled q = true → q.reads = 0 →
      (q.asked = false → (∃ a ∈ q.srcs, s.here a.1 = false) → exec (.lapSliceSend i) s = .next (s.lapAsk v q)) ∧
      ((q.asked = true ∨ ∀ a ∈ q.srcs, s.here a.1 = true) → s.engineRoom (tileOf q.t) (s.sliceBytes v / 256) = true →
        (d = s.moduleId → (s.lapTarget v s.moduleId x.loop).isSome = true) →
        exec (.lapSliceSend i) s = .next (s.lapLeave v q d)))) ∧
  (∀ (t : Tid) (w : IWord) (s : State), s.Enabled t w →
    let th := t.code
    let tile := tileOf th
    let r := s.regs th
    let p := s.pastGuard t w
    (s.Ready t w (({ a := .g, b := .g, c := .g } : Form).ok w) true [gR w.a.toNat, gR w.b.toNat, gR w.c.toNat] →
      let src := (r.getG w.a.toNat).toNat
      let h0 := (r.getG w.b.toNat).toNat
      let n := (r.getG w.c.toNat).toNat
      let q := s.tile tile
      (64 < h0 + n → exec (.tblLoad t w) s = .next (p.raise th 0x0802 w.size)) ∧
      (h0 + n ≤ 64 → (n ≠ 0 → src % 16 = 0 ∧ src < 2 ^ 28) → (n ≠ 0 → inVatOrOwn (coreIdx (coreOf th)) src (n * 512) = true) →
        exec (.tblLoad t w) s = .next ((p.setTile tile { q with
          loads := q.loads ++ [{ t := th, pc := r.pc, owner := (s.thread th).owner, src := src, h0 := h0, n := n }] }).advance t w))) ∧
    (s.Ready t w (({} : Form).ok w) true [] →
      (p.tblFree tile = true → exec (.tblFence t w) s =
        .next (((p.tblSwitch tile).setThread th { (p.tblSwitch tile).thread th with fence := false }).advance t w)) ∧
      (p.tblFree tile = false → exec (.tblFence t w) s =
        .next (s.setThread th { s.thread th with st := .waitSync, fence := true })))) ∧
  (∀ (tile : Fin 36) (s : State),
    let k := tile.val
    let q := s.tile k
    (∀ l rest, q.loads = l :: rest → s.computeUp = true →
      let a := tileBase k + l.src
      let u := s.setTile k { q with loads := rest }
      let glides := ∃ x ∈ linesOf a (l.n * 512), (SMap.find s.ltags x).isSome = true
      (glides → exec (.tblLoadDone tile) s = .next s) ∧
      (¬ glides →
       (s.poisoned a (l.n * 512) = true → exec (.tblLoadDone tile) s = .next (u.failLater l.t 0x0510 l.pc l.owner)) ∧
       (s.poisoned a (l.n * 512) = false → ∃ sh, exec (.tblLoadDone tile) s =
          .next ((s.setTile k { q with loads := rest, shadow := sh, copied := true }).setFld
            (Fd.TILE_ATT_TBL_SHADOW_READY k) 1) ∧
        ∀ e, sh.getD e 0 = if l.h0 * 256 ≤ e ∧ e < (l.h0 + l.n) * 256 then s.readNat (a + 2 * (e - l.h0 * 256)) 2
          else (if q.copied then q.shadow else q.front).getD e 0))) ∧
    (∀ t x, s.threads.find? (fun e => decide (tileOf e.1 = k) && e.2.fence) = some (t, x) → s.tblFree k = true → s.computeUp = true →
      exec (.tblGenSwitch tile) s =
        .next (((s.tblSwitch k).setThread t { x with fence := false }).goTo t (x.regs.pc + 8))) ∧
    (s.isSet (Fd.TILE_ATT_TBL_SHADOW_READY k) = true →
      (s.tblSwitch k).tile k = { q with front := q.shadow, shadow := q.front, copied := false } ∧
      (s.tblSwitch k).fld (Fd.TILE_ATT_TBL_GEN k) = (s.fld (Fd.TILE_ATT_TBL_GEN k) + 1) % 2 ^ (Fd.TILE_ATT_TBL_GEN k).len ∧
      (s.tblSwitch k).isSet (Fd.TILE_ATT_TBL_SHADOW_READY k) = false) ∧
    (s.isSet (Fd.TILE_ATT_TBL_SHADOW_READY k) = false → s.tblSwitch k = s))

/-- R436, R454: arming an entry that is SET, DONE or FAILED and passes every check. R438: an offer. R439: the posting, which takes the results
already final in their order. -/
def Obligations.RelayInstructions : Prop :=
  ∀ (t : Tid) (w : IWord) (s : State), s.Enabled t w →
    let th := t.code
    let r := s.regs th
    let own := (s.thread th).owner
    let p := s.pastGuard t w
    let g (k : Nat) : Nat := (r.getG k).toNat
    let h := g w.a.toNat
    let st := s.relState h
    (s.Ready t w (({ a := .g } : Form).ok w) true [gR w.a.toNat] →
      (st = 0 ∨ st = 2 → exec (.relArm t w) s = .next (p.raise th 0x0901 w.size)) ∧
      let lost := s.poisoned (s.fld (Fd.REL_RED_SLOTS_SLOT_MAP h)) (8 * s.relK h)
      (st ≠ 0 → st ≠ 2 → lost = true → exec (.relArm t w) s = .next (p.raise th 0x0510 w.size)) ∧
      (st ≠ 0 → st ≠ 2 → lost = false → s.armOk h = false → exec (.relArm t w) s = .next (p.raise th 0x0906 w.size)) ∧
      (st ≠ 0 → st ≠ 2 → lost = false → s.armOk h = true → exec (.relArm t w) s = .next ((p.armEntry h own).advance t w))) ∧
    (s.Ready t w (({ a := .g, b := .g, c := .g, d := .g, x := .fields [0, 1] } : Form).ok w) true
        [gR w.a.toNat, gR w.b.toNat, gR w.c.toNat, gR w.d.toNat, gR (w.f 0), gR (w.f 1)] →
      let slot := g w.b.toNat
      let b0 := g w.c.toNat
      let nb := g w.d.toNat
      let a := g (w.f 0) % 2 ^ 46
      let bar := g (w.f 1)
      let x := s.relay h
      let v := x.map.getD slot 0
      (st ≠ 2 → exec (.relSend t w) s = .next (p.raise th 0x0901 w.size)) ∧
      (st = 2 → s.offerBad th h slot b0 nb a = true → exec (.relSend t w) s = .next (p.raise th 0x0902 w.size)) ∧
      (st = 2 → s.offerBad th h slot b0 nb a = false → barFault bar = 0 →
        let o : Offer :=
          { id := x.nextId, t := th, pc := r.pc, owner := own, slot := slot, twin := slotPrimary v ≠ s.moduleId,
            b0 := b0, next := b0, pre := if s.isSet (Fd.REL_RED_CTL_EXP_SRC h) then b0 else b0 + nb, stop := b0 + nb,
            addr := a, bytes := s.relBytes h ((List.range nb).map (b0 + ·)), bar := barAddr th bar,
            ep := s.barEpoch (barAddr th bar), host := slotHost v }
        (nb = 0 → exec (.relSend t w) s = .next ((p.endOffer 0 o).advance t w)) ∧
        (nb ≠ 0 → exec (.relSend t w) s = .next ((p.setRelay h { x with
          nextId := x.nextId + 1, offered := x.offered + nb, offers := x.offers ++ [o] }).advance t w)))) ∧
    (s.Ready t w (({ a := .g, b := .g, c := .g } : Form).ok w) true [gR w.a.toNat, gR w.b.toNat, gR w.c.toNat] →
      let a := g w.b.toNat % 2 ^ 46
      let bar := g w.c.toNat
      let n := s.relBytes h (s.due h)
      (st ≠ 2 ∨ (s.relay h).post.isSome = true ∨ a % 64 ≠ 0 → exec (.relPost t w) s = .next (p.raise th 0x0905 w.size)) ∧
      (st = 2 → (s.relay h).post = none → a % 64 = 0 →
        (n ≠ 0 → tierOf a ≠ 0 ∧ tierOf a = tierOf (a + n - 1) ∧ foreignScratch th a = false ∧ s.addrFault .thread a n = 0) →
        barFault bar = 0 →
        let q := p.modRelay h (fun x => { x with
          post := some { t := th, pc := r.pc, owner := own, addr := a, bar := barAddr th bar, ep := s.barEpoch (barAddr th bar) } })
        let u := (q.owned h).foldl (fun s b =>
          match SMap.find (s.relay h).finals b with
          | some codes => if (s.owned h).findIdx (· = b) < (s.relay h).outs then s.landResult h b codes else s
          | none => s) q
        exec (.relPost t w) s = .next ((u.relayAdvance h).advance t w)))

/-- R438, R449: the next block of an offer is accepted here or leaves for its host, its magnitude first where a pre-pass runs (R433); poisoned, it
is discarded (R452). R443: the partials of a ring. R451: the grace of a twin. R458: the noise record. R459: a timeout. R463, R464: writes. -/
def Obligations.RelaySteps : Prop :=
  (∀ (h : Fin 1024) (slot : Fin 1024) (block : Nat) (s : State) (o : Offer),
    let k := h.val
    s.relState k = 2 ∨ s.relState k = 3 → s.computeUp = true →
    ((s.relay k).offers.find? (fun o => o.slot = slot.val && o.next = block && decide (o.next < o.stop)
        && o.host = s.moduleId) = some o → s.offerSettled k o block = true →
      (o.pre ≤ block → exec (.relayLocalAccept h slot block) s = .next ((s.reportOffer k o block).relayAdvance k)) ∧
      (block < o.pre → s.poisoned (o.at0 block) (4 * s.relLen k block) = true →
        exec (.relayLocalAccept h slot block) s = .next ((s.poisonedOffer k o block).relayAdvance k)) ∧
      (block < o.pre → s.poisoned (o.at0 block) (4 * s.relLen k block) = false → s.expKnown k block = true →
        exec (.relayLocalAccept h slot block) s =
          .next ((((s.touch (o.at0 block) (4 * s.relLen k block)).localCopy k o block).alterOffer k o.id
            (fun o => { o with next := block + 1 })).relayAdvance k))) ∧
    (s.relState k = 2 → s.localCopy k o block = s.contribute k o.slot o.twin block (s.offerCodes k o block)) ∧
    (s.relState k = 3 → (s.relay k).window = false → s.localCopy k o block = s.lateCopies k o.slot block 1) ∧
    (
      let reports := (s.relay k).offers.find? (fun o => o.pre = block && decide (o.pre < o.stop) && s.offerSettled k o block)
      let leaves := (s.relay k).offers.find? (fun o => o.next = block && decide (o.next < o.stop) && o.pre = o.stop
        && o.host ≠ s.moduleId && s.offerSettled k o block)
      (reports = some o → exec (.relayBlockSend h block) s = .next ((s.reportOffer k o block).relayAdvance k)) ∧
      (reports = none → leaves = some o → s.poisoned (o.at0 block) (4 * s.relLen k block) = true →
        exec (.relayBlockSend h block) s = .next ((s.poisonedOffer k o block).relayAdvance k)) ∧
      (reports = none → leaves = some o → s.poisoned (o.at0 block) (4 * s.relLen k block) = false →
        exec (.relayBlockSend h block) s = .next ((((s.touch (o.at0 block) (4 * s.relLen k block)).alterOffer k o.id
          (fun o => { o with next := block + 1 })).relaySend k o.host
          0 o.slot o.twin block 1 [] ((s.offerCodes k o block).flatMap (leBytes 4)) o.id).relayAdvance k)) ∧
      (reports = none → leaves = none →
        exec (.relayBlockSend h block) s = .next (if s.relState k = 2 then (s.sendPartial k block).relayAdvance k else s)))) ∧
  (∀ (set : Fin 16) (s : State),
    let k := set.val
    let x := s.norm k
    let log := s.fld Fd.REL_NOISE_ENTRIES_LOG + 4
    let v := s.fld (Fd.REL_NORM_CTL_JOB k) + k * 2 ^ 16 + x.seq.toNat * 2 ^ 32 + x.ssqf * 2 ^ 64 + x.slotsf * 2 ^ 96
      + x.slots.length % 2 ^ 16 * 2 ^ 128 + x.fault * 2 ^ 160
    let a := s.fld Fd.REL_NOISE_BASE * 64 + s.fld Fd.REL_NOISE_PTR_HEAD % 2 ^ log * 64
    let u := (s.ringPut a (leBytes 64 v)).incFld Fd.REL_NOISE_PTR_HEAD
    x.closing = true → (s.fld Fd.REL_NOISE_PTR_HEAD + 2 ^ 20 - s.fld Fd.REL_NOISE_PTR_TAIL) % 2 ^ 20 < 2 ^ log →
    (u.isSet Fd.REL_NOISE_VEC_EN = false → exec (.noiseRecordWrite set) s = .next (u.finishNorm k)) ∧
    (u.isSet Fd.REL_NOISE_VEC_EN = true → exec (.noiseRecordWrite set) s =
      .next ((u.raiseVec (u.fld Fd.HST_IRQ_CTL_EVT_PORT) (u.fld Fd.REL_NOISE_VEC)).finishNorm k))) ∧
  (∀ (h : Fin 1024) (s : State),
    let k := h.val
    let x := s.relay k
    (s.relState k = 2 → exec (.relayTimeout h) s = .next (s.relayFail k 0x0903)) ∧
    (s.relState k ≠ 2 → exec (.relayTimeout h) s = .next s) ∧
    (s.relState k = 2 → x.offers = [] → x.post = none → s.isSet (Fd.REL_RED_CTL_NORM_EN k) = false →
      s.ofJob (s.fld (Fd.REL_RED_CTL_JOB k)) = false →
      let u := (((s.setFld (Fd.REL_RED_CTL_FAULT k) 0x0903).setFld (Fd.REL_RED_CTL_STATE k) 4).setFld (Fd.REL_RED_CTL_EXP_STALE k) 1).setRelay k
          { x with offers := [], post := none, window := false }
      s.relayFail k 0x0903 = u.dropWaiting (fun o => match o with
        | .relay j g _ => j = k && g = u.relGen k
        | _ => false)) ∧
    (s.relState k = 3 → x.window = true → exec (.twinGraceExpiry h) s =
      .next ((s.incFld (Fd.REL_RED_CHK_UNCHECKED k) (x.kept.filter (fun e => !e.2)).length).setRelay k { x with window := false }))) ∧
  (∀ (s : State), s.Hears 12 →
    (∀ (h : Fin 1024) (reg : Fin 10) (value : BitVec 64),
      let u := (if reg.val < 8 then s.endOffers h.val 0 else s).writeFields (relReg h.val reg.val) fullMask value.toNat
      (s.relState h.val = 2 → exec (.relayEntryWrite h reg value) s = .next (s.logRec 0x0906 5 h.val)) ∧
      (s.relState h.val ≠ 2 → reg.val < 8 →
        exec (.relayEntryWrite h reg value) s = .next (u.setFld (Fd.REL_RED_CTL_STATE h.val) 1)) ∧
      (s.relState h.val ≠ 2 → 8 ≤ reg.val → exec (.relayEntryWrite h reg value) s = .next u)) ∧
    (∀ (set : Fin 16) (reg : Fin 4) (value : BitVec 64),
      ((s.norm set.val).count ≠ 0 → exec (.normSetWrite set reg value) s = .next (s.logRec 0x0906 5 set.val)) ∧
      ((s.norm set.val).count = 0 →
        exec (.normSetWrite set reg value) s = .next (s.writeFields (normReg set.val reg.val) fullMask value.toNat))) ∧
    (∀ tail : BitVec 20, Answers (.noiseTailWrite tail) s (fun u => u = s.setFld Fd.REL_NOISE_PTR_TAIL tail.toNat ∧
      u.fld Fd.REL_NOISE_PTR_TAIL = tail.toNat)))

/-- R430: sums are exact while they stay in the range, so the order of arrival cannot be seen; the BFX NaN is sticky. R450: the first copy of a
slot's block counts and every later one is discarded. -/
def Obligations.RelaySums : Prop :=
  (∀ (ws vs : List Nat), (∀ x ∈ ws, x < 2 ^ 64 ∧ x ≠ bfxNan) → ((ws.map (fun x => (signed 64 x).natAbs)).sum < 2 ^ 63) → ws.Perm vs →
    vs.foldl (fun a x => (bfxAdd a x).1) 0 = toTwos 64 ((ws.map (signed 64)).sum) ∧
    ∀ k, k < vs.length → (bfxAdd ((vs.take k).foldl (fun a x => (bfxAdd a x).1) 0) (vs.getD k 0)).2 = false) ∧
  (∀ (ws : List Nat) (a : Nat), bfxNan ∈ ws → ws.foldl (fun a x => (bfxAdd a x).1) a = bfxNan) ∧
  (∀ (e : Int) (code : Nat), (relQuant e code).1 = bfxNan ∨ (signed 64 (relQuant e code).1).natAbs ≤ 2 ^ 63 - 1) ∧
  (∀ (s : State) (h slot b : Nat) (twin : Bool) (codes : List Nat), s.accepted h slot b = true →
    SMap.find (s.relay h).kept (slot * 2 ^ 20 + b) = none → s.contribute h slot twin b codes = s)

/-- R318, R319, R488: requests, bulk data and answers. R48: a request whose address breaks a rule is answered with its fault. R285: poison is
answered with 0x0511. R282, R322: an accepted request that meets a held bank or a gliding line waits, and those of its flow behind it. R316,
R318, R321: the answer carries the tag of the one who waits. -/
def Obligations.PacketsOfMemory : Prop :=
  ∀ (p : Port) (k : Packet) (s : State) (rf : RecvFlow) (old : Option RecvFlow),
    let vc := k.vc.toNat
    let src := k.src.toNat
    let x := { rf with port := p.val }
    let a := bodyAddr k.body
    let bs := k.body.drop 16
    let done (u : State) : State := u.commitRecv src vc k x
    let b := s.serveInbox
    let up : Prop := s.computeUp = true ∧ b.computeUp = true ∨ inCompute a = false
    let waits (typ : Nat) : State := { b with inbox := b.inbox ++ [{ src := src, vc := vc, typ := typ, body := k.body }] }
    let stores (j : Instr) (typ : Nat) : Prop :=
      let f := b.addrFault .peer a bs.length
      let r := b.store (cellsFrom a bs)
      (b.flowWaits src vc = true → exec j s = .next (done (waits typ))) ∧
      (b.flowWaits src vc = false →
        (bs = [] → exec j s = .next (done b)) ∧
        (bs ≠ [] → f ≠ 0 → exec j s = .next (done (b.sendPkt src 1 0x06 (respBody (bodyTag k.body) f []) .none))) ∧
        (bs ≠ [] → f = 0 → b.banksHeld a bs.length = true → exec j s = .next (done (waits typ))) ∧
        (bs ≠ [] → f = 0 → b.banksHeld a bs.length = false → r.2 = false → exec j s = .next (done r.1)) ∧
        (bs ≠ [] → f = 0 → b.banksHeld a bs.length = false → r.2 = true → exec j s =
          .next (done (r.1.sendPkt src 1 0x06 (respBody (bodyTag k.body) 0x0511 []) .none))))
    s.portCarries p.val = true → s.isSealed = true → k.dst.toNat = s.moduleId → s.verdict src vc k = .take rf old →
    (vc = 1 →
      (up → stores (.store p k) 0x03) ∧
      (
        let n := numAt k.body 8 2 % 2 ^ 13
        let tag := numAt k.body 12 4
        let glides := ∃ l ∈ linesOf a n, (SMap.find b.ltags l).isSome = true
        up →
        (b.flowWaits src vc = true → exec (.loadReq p k) s = .next (done (waits 0x01))) ∧
        (b.flowWaits src vc = false →
          (b.addrFault .peer a n ≠ 0 → exec (.loadReq p k) s =
            .next (done (b.sendPkt src 1 0x02 (respBody tag (b.addrFault .peer a n) []) .none))) ∧
          (b.addrFault .peer a n = 0 → glides ∨ b.banksHeld a n = true → exec (.loadReq p k) s = .next (done (waits 0x01))) ∧
          (b.addrFault .peer a n = 0 → ¬ glides → b.banksHeld a n = false →
            let u := b.touch a n
            (u.poisoned a n = true → exec (.loadReq p k) s = .next (done (u.sendPkt src 1 0x02 (respBody tag 0x0511 []) .none))) ∧
            (u.poisoned a n = false → exec (.loadReq p k) s =
              .next (done (u.sendPkt src 1 0x02 (respBody tag 0 (u.readBytes a n)) .none)))))) ∧
      (
        let h := numAt k.body 0 16
        let at0 := bits h 0 46
        let op := bits h 46 4
        let sz := bits h 50 3
        let n := 2 ^ sz
        let glides := ∃ l ∈ linesOf at0 n, (SMap.find b.ltags l).isSome = true
        up → b.flowWaits src vc = false → atomOk op sz = true → at0 % n = 0 → b.addrFault .peer at0 n = 0 →
        (glides ∨ b.banksHeld at0 n = true → exec (.atomic p k) s = .next (done (waits 0x04))) ∧
        (¬ glides → b.banksHeld at0 n = false → (b.touch at0 n).poisoned at0 n = false →
          let r := (b.touch at0 n).atomAt at0 op sz (numAt k.body 16 n) (numAt k.body (16 + n) n)
          (bitAt h 53 = true → exec (.atomic p k) s =
            .next (done (r.2.sendPkt src 1 0x05 (respBody (bits h 96 32) 0 (leBytes n r.1)) .none))) ∧
          (bitAt h 53 = false → exec (.atomic p k) s = .next (done r.2)))) ∧
      (
        let tag := numAt k.body 0 4
        let status := numAt k.body 4 2
        let got := if s.awaitsAck tag then
            { s with early := s.early.set tag { status := status, bytes := bs, landed := rf.landed - 16 } }
          else s.answerTag tag status bs (rf.landed - 16)
        s.answerable tag = true →
        exec (.loadResp p k) s = .next (done got) ∧
        exec (.atomicResp p k) s = .next (done got) ∧
        exec (.status p k) s = .next (done (s.statusTag tag status)))) ∧
    (12 ≤ vc → up → stores (.bulk p k) 0x28)

/-- R321, R325: ACK and NACK name a send flow. R334: a NOTICE is taken whatever its destination. R395: a lap packet lands in the posting of its
slice, or is refused with reason 2. R638: management. R447, R448: a batch is a header and its data, refused with reason 3 where its time has not come. -/
def Obligations.PacketsOfRoles : Prop :=
  ∀ (p : Port) (k : Packet) (s : State),
    let vc := k.vc.toNat
    let src := k.src.toNat
    let h := numAt k.body 0 16
    s.portCarries p.val = true → (s.isSealed = true ∨ vc = 0) →
    (vc = 0 → exec (.notice p k) s = .next (s.takeNotice p.val (bits h 0 18) (bits h 18 3) (bits h 21 3))) ∧
    (k.dst.toNat = s.moduleId →
      exec (.ack p k) s = .next (s.ackFlow src vc k.epoch k.seq) ∧
      (∀ f, SMap.find s.sends (src * 16 + vc) = some f → f.epoch = k.epoch → 1 ≤ numAt k.body 0 1 → numAt k.body 0 1 ≤ 3 →
        exec (.nack p k) s = .next (s.endWait src vc)) ∧
      (∀ rf, s.verdict src vc k = .take rf none →
        let x := { rf with port := p.val }
        exec (.close p k) s = .next (s.commitRecv src vc k x) ∧
        (vc = 0 →
          (∀ i, numAt k.body 0 1 = 1 → i < 2 → bits h 8 8 = 2 + i → exec (.lapgeo p k) s =
            .next ((s.geoArrive i (bits h 16 10, bits h 32 12)).commitRecv src vc k x)) ∧
          (numAt k.body 0 1 = 2 → exec (.fwchunk p k) s = .next ((s.chunkArrives p.val src k.body).commitRecv src vc k x)) ∧
          (numAt k.body 0 1 = 3 → exec (.fwstatus p k) s = .next
            ((if bits h 32 32 = s.fw.seq.toNat then s.countStatus (bits h 64 16) else s).commitRecv src vc k x))) ∧
        (vc = 2 ∨ vc = 3 → s.computeUp = true → k.body.length = 4096 →
          (∀ q off, s.lapTarget (vc - 2) src rf.count = some (q, off) → exec (.lap p k) s =
            .next ((s.lapAccept (vc - 2) q off k.body).commitRecv src vc k { x with count := rf.count + 1 })) ∧
          (s.lapTarget (vc - 2) src rf.count = none → exec (.lap p k) s = .next ((s.noPost (vc - 2)).sendNack src vc k 2))) ∧
        (4 ≤ vc → vc ≤ 11 → s.computeUp = true →
          let rows (j : Instr) (kind : Nat) : Prop :=
            (RelHdr.dec (s.batchHdr k)).kind = kind →
            (rf.hdr = [] →
              let d := RelHdr.dec k.body
              (s.relClassify src d = .refuse → exec j s = .next (s.sendNack src vc k 3)) ∧
              (∀ e, s.relClassify src d = .take e →
                (d.bytes ≠ 0 → exec j s = .next (s.commitRecv src vc k { x with hdr := k.body, data := [], drop := false })) ∧
                (d.bytes = 0 → exec j s = .next ((s.takeBatch e vc src d []).commitRecv src vc k x)))) ∧
            (rf.hdr ≠ [] →
              let d := RelHdr.dec rf.hdr
              let data := rf.data ++ k.body
              (data.length < d.bytes → exec j s = .next (s.commitRecv src vc k { x with data := data })) ∧
              (∀ e, d.bytes ≤ data.length → rf.drop = false → s.relOpen d = some e → exec j s =
                .next ((s.takeBatch e vc src d data).commitRecv src vc k { x with hdr := [], data := [] })))
          rows (.contrib p k) 0 ∧ rows (.partialSum p k) 1 ∧ rows (.result p k) 2 ∧ rows (.exptab p k) 3 ∧
          rows (.prepass p k) 4 ∧ rows (.norm p k) 5 ∧ rows (.normres p k) 6)))

/-- R322: the first matching row of the table. R323: each acceptance advances EXPECTED by one. R326: at most 32,768 receive entries. -/
def Obligations.ReceiveFlows : Prop :=
  (∀ (s : State) (k : Packet) (rf : RecvFlow) (old : Option RecvFlow),
    let vc := k.vc.toNat
    let src := k.src.toNat
    let u := s.commitRecv src vc k rf
    s.verdict src vc k = .take rf old →
    rf.epoch = k.epoch ∧ rf.expected = k.seq ∧
    (k.cls = false → ∃ q, SMap.find u.recvs (src * 16 + vc) = some q ∧ q.epoch = k.epoch ∧ q.expected = k.seq + 1 ∧
      u.verdict src vc k = .duplicate q) ∧
    (k.cls = true → SMap.find u.recvs (src * 16 + vc) = none) ∧
    ∀ n, n ≠ src * 16 + vc → SMap.find u.recvs n = SMap.find s.recvs n) ∧
  (∀ (p typ : Nat) (s : State) (k : Packet),
    let vc := k.vc.toNat
    let src := k.src.toNat
    (s.verdict src vc k = .discard → s.receive p typ k = s) ∧
    (∀ q, s.verdict src vc k = .duplicate q → s.receive p typ k = s.sendAck src vc q) ∧
    (s.verdict src vc k = .full → s.receive p typ k = (s.incFld Fd.JL_FLOWS_REFUSED_FULL).sendNack src vc k 1) ∧
    (SMap.find s.recvs (src * 16 + vc) = none → 32768 ≤ s.recvs.length → s.verdict src vc k = if k.opn ∧ k.seq = 0 then .full else .discard) ∧
    (∀ q, SMap.find s.recvs (src * 16 + vc) = some q → q.epoch = k.epoch →
      (q.expected = k.seq → s.verdict src vc k = .take q none) ∧
      (q.expected ≠ k.seq → (q.expected - k.seq).toNat ≤ 2 ^ 31 → s.verdict src vc k = .duplicate q) ∧
      (2 ^ 31 < (q.expected - k.seq).toNat → s.verdict src vc k = .discard)))

/-- R323: the acknowledgement timer. R325: a wait that ends resends, the wait doubling to sixteen times; no progress for LIMIT_MS fails the flow.
R324: reopening, closing and the life of a receive entry. R320: at most 32,768 send flows are open. R640: an image that stops coming. -/
def Obligations.FlowTimers : Prop :=
  ∀ (m : ModId) (vc : BitVec 4) (s : State),
    let d := m.toNat
    let v := vc.toNat
    let key := d * 16 + v
    (∀ rf, SMap.find s.recvs key = some rf →
      (rf.since ≠ 0 → exec (.ackTimerExpiry m vc) s = .next (({ s with recvs := s.recvs.set key { rf with since := 0 } } : State).sendCtl
        d v 0x08 (rf.expected - 1) rf.epoch [])) ∧
      (rf.since = 0 → exec (.ackTimerExpiry m vc) s = .next s) ∧
      Answers (.recvEntryExpiry m vc) s (fun u => SMap.find u.recvs key = none ∧
        ((v ≠ 2 ∧ v ≠ 3) → u = { s with recvs := SMap.erase s.recvs key }) ∧
        ((v = 2 ∨ v = 3) → u = { s.lapReplaced (v - 2) rf.count with recvs := SMap.erase (s.lapReplaced (v - 2) rf.count).recvs key }))) ∧
    (SMap.find s.recvs key = none → exec (.ackTimerExpiry m vc) s = .next s ∧ exec (.recvEntryExpiry m vc) s = .next s) ∧
    (∀ f, SMap.find s.sends key = some f →
      (f.reopen = false → f.unacked ≠ [] →
        let g := { f with wait := min 16 (2 * f.wait) }
        (s.routeFault d v f.piste = 0x0602 → exec (.e2eResendTimeout m vc) s = .next (s.failFlow d v 0x0602)) ∧
        (s.routeFault d v f.piste ≠ 0x0602 → exec (.e2eResendTimeout m vc) s = .next (f.unacked.foldl (fun s k =>
          let od := s.orderDir d v f.piste
          s.emit k.typ { k.pkt with order := BitVec.ofNat 3 od.1, dir := BitVec.ofNat 6 od.2 })
          { s with sends := s.sends.set key g })) ∧
        exec (.flowFail m vc) s = .next (s.failFlow d v 0x0603)) ∧
      (f.reopen = false → f.unacked = [] → exec (.e2eResendTimeout m vc) s = .next s ∧ exec (.flowFail m vc) s = .next s) ∧
      (f.reopen = true → f.waiting = [] → exec (.flowReopenWaitEnd m vc) s =
        .next { s with sends := SMap.erase s.sends key }) ∧
      (f.reopen = true → f.waiting ≠ [] → s.openFlows < 32768 →
        let n : State := if SMap.find s.failedEp key = some s.newEpoch then { s with fcount := s.fcount + 1 } else s
        let q : State := { n with failedEp := SMap.erase n.failedEp key }
        exec (.flowReopenWaitEnd m vc) s = .next (({ q with
          sends := q.sends.set key { epoch := q.newEpoch, piste := q.pisteFor d q.curPiste, waiting := f.waiting } } : State).pumpFlow
            d v f.waiting.length)) ∧
      (f.reopen = true → f.waiting ≠ [] → 32768 ≤ s.openFlows → ∃ g, (s.openFlow d v f.waiting).sends = s.sends.set key g ∧
        g.held = true ∧ g.waiting = f.waiting) ∧
      (f.reopen = false → exec (.flowReopenWaitEnd m vc) s = .next s) ∧
      (f.reopen = false → f.closing = false → f.unacked = [] → f.waiting = [] → ((v = 2 ∨ v = 3) → (s.lap (v - 2)).cur = 0) →
        exec (.idleFlowClose m vc) s = .next (s.sendPkt d v 0x0A [] .none true))) ∧
    (SMap.find s.sends key = none → exec (.e2eResendTimeout m vc) s = .next s ∧ exec (.flowFail m vc) s = .next s ∧
      exec (.flowReopenWaitEnd m vc) s = .next s ∧ exec (.idleFlowClose m vc) s = .next s) ∧
    exec (.fwImageTimeout m) s = .next { s with fw := { s.fw with imgs := SMap.erase s.fw.imgs d } }

/-- R305, R309: the CRC covers a flit's bytes and every flit carries the acknowledgement. R307, R308, R310: what a slot sends. R309 to R311, R314:
what a flit that comes does, and one that fails its check. -/
def Obligations.LinkSlots : Prop :=
  (∀ (p : Port) (s : State), s.portCarries p.val = true →
    let x := s.link p.val
    (∃ u f, exec (.flitTransmit p) s = .next u ∧ u.out = s.out ++ [.flit p.val f] ∧ f.crc = flitCrc f ∧ f.ack = x.expL - 1 ∧
      f.nak = x.nakDue ∧ (u.link p.val).nakDue = false ∧ ∀ q, q ≠ p.val → { u.link q with
        kept := (s.link q).kept, pooled := (s.link q).pooled, returns := (s.link q).returns } = s.link q) ∧
    (x.resend = [] →
      (x.room = false → exec (.flitTransmit p) s = .next (s.sendIdle p.val)) ∧
      (x.room = true →
        (s.portState p.val = 2 → (∃ o ∈ x.outq, o.hdrSent = false) → exec (.flitTransmit p) s = .next (s.sendHeaders p.val)) ∧
        ((s.portState p.val = 3 ∨ ∀ o ∈ x.outq, o.hdrSent = true) →
          (∀ key o, x.dataKey = some (key, o) → exec (.flitTransmit p) s = .next (s.sendData p.val key o)) ∧
          (x.dataKey = none → exec (.flitTransmit p) s = .next (s.sendIdle p.val)))))) ∧
  (∀ (p : Port) (f : Flit) (r : FecReport) (s0 : State), s0.portCarries p.val = true →
    let q := p.val
    let s := (s0.incFld (Fd.JL_P_FEC_CORR q) r.corr).incFld (Fd.JL_P_FEC_UNCORR q) r.uncorr
    let x := (s.link q).acked f.ack f.nak
    let good := f.body.length = 256 ∧ f.crc = flitCrc f
    s.link q = s0.link q ∧
    (¬ good → ((s.link q).discarding = true ∨ f.kind ≠ 2 ∨ f.lseq ≠ (s.link q).expL) → exec (.flitReceive p f r) s0 =
      .next ((s.incFld (Fd.JL_P_COUNT_RETRIES q)).setLink q { s.link q with
        charges := (s.link q).charges.filter (fun e => decide (r.ms ≤ e.2 + 10000)) ++ [(worstLane r.errs (s.lockedLanes q), r.ms)]
        nakDue := true, discarding := true })) ∧
    (good →
      (f.kind = 0 → exec (.flitReceive p f r) s0 = .next (s.setLink q (x.credited f))) ∧
      (f.lseq = x.expL →
        let u := s.setLink q { x.credited f with expL := x.expL + 1, discarding := false, nakDue := false }
        (f.kind = 1 → exec (.flitReceive p f r) s0 = .next (u.takeHeaders q (flitHeaders f.body))) ∧
        (f.kind = 2 → exec (.flitReceive p f r) s0 = .next (u.takeData q f))) ∧
      (f.kind ≠ 0 → f.lseq ≠ x.expL →
        ((x.expL - f.lseq).toNat ≤ 2048 → exec (.flitReceive p f r) s0 = .next (s.setLink q x)) ∧
        (2048 < (x.expL - f.lseq).toNat → exec (.flitReceive p f r) s0 =
          .next (s.setLink q { x with nakDue := true, discarding := true }))))) ∧
  (∀ (x : LinkPort) (ack : BitVec 12) (nak : Bool),
    (∀ i, x.replay.findIdx? (fun r => r.flit.lseq = ack) = some i → (x.acked ack nak).replay = x.replay.drop (i + 1)) ∧
    ((∀ r ∈ x.replay, r.flit.lseq ≠ ack) → (x.acked ack nak).replay = x.replay))

/-- R114: a window neither confirmed nor refused in time. R126, R127: TILE_GLIDE_CTL. -/
def Obligations.GlideEvents : Prop :=
  (∀ (c : Cid) (w : Fin 8) (s : State),
    let k := c.code
    (SMap.find (s.core k).windows w.val = none → exec (.glideWindowTimeout c w) s = .next s) ∧
    (∀ x, SMap.find (s.core k).windows w.val = some x → (∀ p ∈ x.pieces, p.refused = false) →
      let u := (s.participants k w.val).foldl (fun s t => s.stopThread t 0x0108 (s.regs t).pc) (s.refuseWindow k w.val)
      exec (.glideWindowTimeout c w) s = .next ((u.discardLines x.lines).closeWindow k w.val))) ∧
  (∀ (tile : Fin 36) (value : BitVec 64) (s : State), s.Hears (0x10 + tile.val) →
    Answers (.tileGlideCtlWrite tile value) s (fun u =>
      u.fld (Fd.TILE_GLIDE_CTL_CUT_EN tile.val) = bits value.toNat 0 1 ∧
      u.fld (Fd.TILE_GLIDE_CTL_SCALE_EN tile.val) = bits value.toNat 1 1 ∧
      u.fld (Fd.TILE_GLIDE_CTL_LAP_EN tile.val) = bits value.toNat 2 1 ∧
      u.fld (Fd.TILE_GLIDE_CTL_TIMEOUT tile.val) = bits value.toNat 16 (Fd.TILE_GLIDE_CTL_TIMEOUT tile.val).len ∧
      { u with flds := s.flds } = s))

/-- R303, R304, R336: a training that ends. R331 to R333: lanes and retraining. R333, R338: disabling. R336: reviving. R339, R340: gateway ports and the lanes of the peer. R327: the seal. -/
def Obligations.PortEvents : Prop :=
  (∀ (p : Port) (s : State),
    let q := p.val
    (∀ info : TrainInfo, s.portState q = 1 → s.fld (Fd.JL_P_STAT_GEN q) = 0 →
      let u := s.learnLanes q info.peerRetired
      let lanes := laneSet (u.fld (Fd.JL_P_LANES_RETIRED q))
      (info.ok = false → (s.link q).revived = false → exec (.portTrainingDone p info) s = .next s) ∧
      (info.ok = false → (s.link q).revived = true → exec (.portTrainingDone p info) s = .next (s.retrainFailed q)) ∧
      (info.ok = true → lanes = none → exec (.portTrainingDone p info) s = .next (u.retirePort q)) ∧
      (info.ok = true → ∀ w k m, lanes = some (w, k, m) →
        let a := ((u.setFld (Fd.JL_P_STAT_WIDTH q) w).setFld (Fd.JL_P_STAT_LANESET q) k).setFld (Fd.JL_P_LANES_LOCKED q) m
        let a := (a.laneUnits q).foldl (fun s u => s.useSetting 1 u info.cond) a
        let gen := if info.oftan ∨ (s.link q).gen1 ∨ info.gen.toNat < 2 then 1 else 2
        let b := (((a.setFld (Fd.JL_P_STAT_GEN q) gen).setFld (Fd.JL_P_STAT_OFTAN q) (b2n info.oftan)).setFld
          (Fd.JL_P_STAT_PEER_ID q) info.peerId.toNat).setFld (Fd.JL_P_STAT_PEER_PORT q) info.peerPort.toNat
        let c := (b.showGateways.setLink q { freshLink with revived := (s.link q).revived }).portUpNow q
        let c := ((c.setFld (Fd.JL_P_STAT_RETRAIN_FAILS q) 0).revivedUp q).sendKnown q
        exec (.portTrainingDone p info) s = .next (if info.oftan then c.rerouteAll else c))) ∧
    ((s.link q).revived = true ∨ s.retired.contains (s.moduleId * 8 + q) = true → s.revivedUp q =
      ((s.setLink q { s.link q with revived := false }).forgetRetired s.moduleId q).sendNotices 6 s.moduleId q 2) ∧
    ((s.link q).revived = false → s.retired.contains (s.moduleId * 8 + q) = false → s.revivedUp q = s) ∧
    (s.showGateways.fld (Fd.JL_P_STAT_GATEWAY q) = b2n (s.gatewayPort s.moduleId q)) ∧
    (∀ (lane : Fin 32) (ms : Nat),
      let locked := s.fld (Fd.JL_P_LANES_LOCKED q)
      let u := (s.setFld (Fd.JL_P_LANES_LOCKED q) (locked - 2 ^ lane.val)).setLink q
        { s.link q with lol := (s.link q).lol ++ [(lane.val, ms)] }
      bitAt locked lane.val = true →
      (s.portState q = 2 ∨ s.portState q = 3 → exec (.laneLossOfLock p lane ms) s =
        .next ((u.setFld (Fd.JL_P_STAT_STATE q) 1).satFld (Fd.JL_P_COUNT_RETRAINS q))) ∧
      (s.portState q = 1 → exec (.laneLossOfLock p lane ms) s = .next u)) ∧
    (∀ lanes : BitVec 32,
      let old := s.fld (Fd.JL_P_LANES_RETIRED q)
      let ls := (List.range 32).filter (fun l => lanes.getLsbD l && s.laneWorn q l && !bitAt old l)
      let new := ls.foldl (fun a l => a ||| 2 ^ l) old
      let w : State := { s with ownLanes := s.ownLanes.set q (ls.foldl (fun a l => a ||| 2 ^ l) (s.ownLanes.getD q 0)) }
      let u := ls.foldl (fun s _ => s.logRec 0x0606 4 q) ((w.showLanes q).incFld (Fd.JL_P_COUNT_LANE_RETIRES q) ls.length)
      ls ≠ [] → s.portState q = 2 →
      (laneSet new = none → exec (.laneThresholdReached p lanes) s = .next (u.retirePort q)) ∧
      (∀ w k m, laneSet new = some (w, k, m) →
        ((w, k) ≠ (s.fld (Fd.JL_P_STAT_WIDTH q), s.fld (Fd.JL_P_STAT_LANESET q)) →
          exec (.laneThresholdReached p lanes) s = .next (u.setFld (Fd.JL_P_STAT_STATE q) 3)) ∧
        ((w, k) = (s.fld (Fd.JL_P_STAT_WIDTH q), s.fld (Fd.JL_P_STAT_LANESET q)) →
          exec (.laneThresholdReached p lanes) s = .next u))) ∧
    (s.portState q = 3 → (s.link q).replay = [] → (∀ o ∈ (s.link q).outq, o.hdrSent = false) →
      exec (.portDrainDone p) s = .next ((s.setFld (Fd.JL_P_STAT_STATE q) 1).satFld (Fd.JL_P_COUNT_RETRAINS q))) ∧
    (∀ peer : BitVec 32, s.portState q = 1 →
      (s.fld (Fd.JL_P_STAT_GEN q) ≠ 0 →
        let r := ((s.setFld (Fd.JL_P_STAT_RETRAIN_FAILS q) 0).learnLanes q peer).takeLanes q
        (r.2 = true → exec (.portRetrainDone p true peer) s = .next ((r.1.portUpNow q).revivedUp q)) ∧
        (r.2 = false → exec (.portRetrainDone p true peer) s = .next r.1)) ∧
      (s.fld (Fd.JL_P_STAT_GEN q) ≠ 0 ∨ (s.link q).revived = true →
        let u := s.incFld (Fd.JL_P_STAT_RETRAIN_FAILS q)
        (u.fld (Fd.JL_P_THRESH_RETRAIN_LIMIT q) ≤ u.fld (Fd.JL_P_STAT_RETRAIN_FAILS q) →
          exec (.portRetrainDone p false peer) s = .next (u.retirePort q)) ∧
        (u.fld (Fd.JL_P_STAT_RETRAIN_FAILS q) < u.fld (Fd.JL_P_THRESH_RETRAIN_LIMIT q) →
          exec (.portRetrainDone p false peer) s = .next (u.satFld (Fd.JL_P_COUNT_RETRAINS q))))) ∧
    (∀ peer : BitVec 32, (s.learnLanes q peer).fld (Fd.JL_P_LANES_RETIRED q) = (s.ownLanes.getD q 0 ||| peer.toNat) % 2 ^ 32) ∧
    (s.Hears 8 →
      exec (.portDisable p) s = .next ((s.setFld (Fd.JL_P_CTL_ENABLE q) 0).retirePort q) ∧
      (s.unitRetired 12 (portDie q) q 0 = false → s.isSet (Fd.JL_P_CTL_ENABLE q) = true → s.linkPower = true → s.portState q ≠ 0 →
        let own : State := { s with ownLanes := SMap.erase s.ownLanes q }
        let u := ((own.showLanes q).setFld (Fd.JL_P_STAT_RETRAIN_FAILS q) 0).setLink q
          { s.link q with revived := true }
        (s.portState q = 4 →
          let v := u.setFld (Fd.JL_P_STAT_STATE q) 1
          exec (.portRevive p) s = .next ((v.setLink q { v.link q with gen1 := v.isSet (Fd.JL_P_CTL_GEN1_ONLY q) }).satFld (Fd.JL_P_COUNT_RETRAINS q))) ∧
        (s.portState q = 2 → exec (.portRevive p) s = .next (u.setFld (Fd.JL_P_STAT_STATE q) 3)) ∧
        (s.portState q = 1 ∨ s.portState q = 3 → exec (.portRevive p) s = .next u)))) ∧
  (∀ s : State, s.Hears 8 →
    (s.isSealed = true → exec .torusSeal s = .next s) ∧
    (s.isSealed = false → s.sealOk = true → exec .torusSeal s = .next (s.setFld Fd.JL_SEAL_SEAL 1)) ∧
    (s.isSealed = false → s.sealOk = false → exec .torusSeal s = .next (s.log 0x0609)))

/-- R269, R270: MAP_EN and what it discards. R268: the hash key. R274 to R276: queues, rows and temperature. R278 to R284: what a patrol read
finds. R282: a remap that ends. -/
def Obligations.DramEvents : Prop :=
  (∀ (tier : Tier) (s : State), s.Hears (tierBlk tier / 0x100000) →
    let base := if tier = .far then 0 else 0x100000000000
    let size := if tier = .far then 0x100000000000 else 0x10000000000
    let maps (j : Instr) (v : Nat) : Prop :=
      (s.fld (Fd.MAP_CTL_MAP_EN tier) = v → exec j s = .next s) ∧
      (s.fld (Fd.MAP_CTL_MAP_EN tier) ≠ v → Answers j s (fun u =>
        u.fld (Fd.MAP_CTL_MAP_EN tier) = v ∧ u.fld (Fd.MAP_CTL_INIT_DONE tier) = 0 ∧
        u.fld (Fd.MEM_INIT_NEXT tier) = 0 ∧ u.fld (Fd.MEM_INIT_DONE tier) = 0 ∧
        (∀ a, base ≤ a → a < base + size → u.mem.get a = 0 ∧ u.poison.getD (lineOf a) false = false) ∧
        (∀ a, (a < base ∨ base + size ≤ a) → u.mem.get a = s.mem.get a ∧
          u.poison.getD (lineOf a) false = s.poison.getD (lineOf a) false) ∧
        u.threads = s.threads))
    maps (.mapEnable tier) 1 ∧ maps (.mapDisable tier) 0 ∧
    ∀ key : BitVec 64,
      (s.isSet (Fd.MAP_CTL_MAP_EN tier) = true → exec (.hashKeyWrite tier key) s = .next (s.log 0x0505)) ∧
      (s.isSet (Fd.MAP_CTL_MAP_EN tier) = false → Answers (.hashKeyWrite tier key) s (fun u =>
        u = s.setFld (Fd.HASH_KEY_KEY tier) key.toNat ∧ u.fld (Fd.HASH_KEY_KEY tier) = key.toNat))) ∧
  (∀ (tier : Tier) (s : State),
    (exec (.regionInitDone tier (s.fld (Fd.MEM_INIT_NEXT tier))) s = .next (s.initRegion tier (s.fld (Fd.MEM_INIT_NEXT tier)))) ∧
    (∀ r, r ≠ s.fld (Fd.MEM_INIT_NEXT tier) → exec (.regionInitDone tier r) s = .next s)) ∧
  (∀ (tier : Tier) (unit : Fin 24) (s : State), unitExists tier unit.val = true →
    let n := unit.val
    let key := unitKey tier n
    (∀ depth : Fin 257,
      let u := (s.setFld (Fd.CH_QDEPTH_CUR tier n) depth.val).setFld (Fd.CH_QDEPTH_PEAK tier n)
        (max (s.fld (Fd.CH_QDEPTH_PEAK tier n)) depth.val)
      let hot := max 1 (s.fld (Fd.ERR_CTL_HOT_DEPTH tier)) * 8
      (depth.val < hot → exec (.queueHotDetect tier unit depth) s =
        .next { u with dram := { s.dram with hot := s.dram.hot.filter (· ≠ key) } }) ∧
      (hot ≤ depth.val → s.dram.hot.contains key = true → exec (.queueHotDetect tier unit depth) s = .next u) ∧
      (hot ≤ depth.val → s.dram.hot.contains key = false → exec (.queueHotDetect tier unit depth) s =
        .next ((({ u with dram := { s.dram with hot := s.dram.hot ++ [key] } } : State).setFld (Fd.CH_STAT_HOT tier n) 1).incFld
          (Fd.CH_QDEPTH_HOT_EVENTS tier n)))) ∧
    (∀ row,
      (s.dram.rows.contains (key, row) = true → exec (.actLimitReached tier unit row) s = .next s) ∧
      (s.dram.rows.contains (key, row) = false →
        let u := ({ s with dram := { s.dram with rows := s.dram.rows ++ [(key, row)] } } : State).incFld (Fd.CH_RH_MITIGATIONS tier n)
        (tier = .far → exec (.actLimitReached tier unit row) s = .next u) ∧
        (tier = .near → exec (.actLimitReached tier unit row) s = .next (u.incFld (Fd.CH_RH_ALERTS tier n))))) ∧
    exec (.refreshWindowEnd tier unit) s = .next { s with dram := { s.dram with rows := s.dram.rows.filter (fun e => e.1 ≠ key) } } ∧
    (∀ temp : BitVec 8,
      let lv := s.heatLevel tier temp.toNat
      let u := (s.setFld (Fd.CH_STAT_TEMP tier n) temp.toNat).setFld (Fd.CH_STAT_THROTTLE tier n) lv
      (lv ≠ 3 → exec (.dramTempReport tier unit temp) s = .next u) ∧
      (lv = 3 → s.fld (Fd.CH_STAT_THROTTLE tier n) = 3 →
        exec (.dramTempReport tier unit temp) s = .next (u.setFld (Fd.CH_STAT_CRIT_SEEN tier n) 1)) ∧
      (lv = 3 → s.fld (Fd.CH_STAT_THROTTLE tier n) ≠ 3 →
        exec (.dramTempReport tier unit temp) s = .next ((u.setFld (Fd.CH_STAT_CRIT_SEEN tier n) 1).logRec 0x0507 3 n)))) ∧
  (∀ (unit : Fin 24) (s : State),
    let n := unit.val
    exec (.dimmActAlert unit) s = .next (s.incFld (Fd.CH_RH_ALERTS .far n)) ∧
    (∀ e, s.dram.remaps.find? (fun e => e.1 = n) = some e →
      let b := n * 2048 + columnBank e.2
      let u : State := { s with dram := { s.dram with
        remaps := s.dram.remaps.erase e, spares := s.dram.spares.set b (s.dram.spares.getD b 0 + 1) } }
      (s.fld (Fd.CH_STAT_STATE .near n) = 2 →
        exec (.nearColumnRemapDone unit) s = .next ((u.setFld (Fd.CH_STAT_STATE .near n) 3).showSpares n)) ∧
      (s.fld (Fd.CH_STAT_STATE .near n) ≠ 2 → exec (.nearColumnRemapDone unit) s = .next (u.showSpares n)))) ∧
  (∀ (line hours : Nat) (h : LineHome) (errs : CodeErrors) (inner : BitVec 8) (s : State),
    (s.lineHome line = some h →
      let p := (s.countInner h inner.toNat).touch (line * 64) 64
      let seen := p.seenErrors h errs
      (p.badLine line = true ∨ seen = [] → exec (.patrolScrubRead line errs inner hours) s = .next p) ∧
      (p.badLine line = false → seen ≠ [] →
        (p.correctable line h seen = true → exec (.patrolScrubRead line errs inner hours) s = .next (p.corrected line h seen hours)) ∧
        (p.correctable line h seen = false → exec (.patrolScrubRead line errs inner hours) s =
          .next ((p.countUe h).poisonLines [line])))) ∧
    (s.lineHome line = none → exec (.patrolScrubRead line errs inner hours) s = .next s) ∧
    (∀ u, s.spareMode line u = false → ∀ (d : Nat) (ps : List Nat), s.correctable line (.far u) (ps.map (fun k => (d, k))) = true) ∧
    (∀ u, s.spareMode line u = true → ∀ x y rest, s.correctable line (.far u) (x :: y :: rest) = false) ∧
    (∀ u x, s.correctable line (.near u) [x] = true) ∧ (∀ u x y rest, s.correctable line (.near u) (x :: y :: rest) = false) ∧
    (∀ pos, SMap.find s.dram.scrubs line = some pos → exec (.scrubWriteback line) s = .next { s with dram := { s.dram with
      scrubs := SMap.erase s.dram.scrubs line
      seen := SMap.erase s.dram.seen line
      fixed := s.dram.fixed.set line (s.dram.fixed.getD line [] ++ s.dram.seen.getD line []).eraseDups } }) ∧
    (SMap.find s.dram.scrubs line = none → exec (.scrubWriteback line) s = .next s))

/-- R11: accesses are 32 or 64 bits, aligned. R46, R51: what no register backs. R47, R560: a thread. R48, R52, R627: the host, the management
controller and the dies in reset. -/
def Obligations.RegisterWrites : Prop :=
  ∀ (off : BitVec 26) (size : AccessSize) (value : BitVec 64) (s : State),
    let o := off.toNat
    let v := value.toNat
    let f := s.csrFault o size
    (s.boot.done1 = true →
      (f = 0 → exec (.registerWrite .host off size value) s = .next (s.csrPut false o size v)) ∧
      (0x0A00 ≤ f → exec (.registerWrite .host off size value) s = .next (s.logBar f)) ∧
      (f ≠ 0 → f < 0x0A00 → exec (.registerWrite .host off size value) s = .next (s.log f))) ∧
    (s.fw.run ≠ 0 →
      (f = 0 → exec (.registerWrite .controller off size value) s = .next (s.csrPut true o size v)) ∧
      (f ≠ 0 → exec (.registerWrite .controller off size value) s = .next (s.log f))) ∧
    (∀ t : Tid,
      let g := threadCsrFault o size
      let x := s.thread t.code
      (s.live t.code = false → exec (.registerWrite (.thread t) off size value) s = .next s) ∧
      (s.live t.code = true →
        (∀ code pc, x.due = some (code, pc) → exec (.registerWrite (.thread t) off size value) s = .next (s.stopThread t.code code pc)) ∧
        (x.due = none →
          (x.ckpts ≠ [] → exec (.registerWrite (.thread t) off size value) s = .next (s.waitIn t.code .waitGate)) ∧
          (∀ code pc, x.ckpts = [] → x.regs.held = some (code, pc) →
            exec (.registerWrite (.thread t) off size value) s = .next (s.stopThread t.code code pc)) ∧
          (x.ckpts = [] → x.regs.held = none →
            (g = 0 → f = 0 → exec (.registerWrite (.thread t) off size value) s = .next (s.csrPut false o size v)) ∧
            (g = 0 → f ≠ 0 → exec (.registerWrite (.thread t) off size value) s = .next (s.log f)) ∧
            (g ≠ 0 → exec (.registerWrite (.thread t) off size value) s =
              .next (s.stopThread t.code (BitVec.ofNat 16 g) (s.regs t.code).pc)))))) ∧
    (exec (.registerWrite .peer off size value) s = .next s) ∧
    (
      let b := o / 0x100000
      (0x34 ≤ b → f = 0x0501) ∧ (b = 0xE ∨ b = 0xF → f = 0x0502) ∧
      (b < 0x34 → b ≠ 0xE → b ≠ 0xF → csrListed (o / 8 * 8) = false → f = 0) ∧
      (b < 0x34 → b ≠ 0xE → b ≠ 0xF → csrListed (o / 8 * 8) = true →
        (size ≠ .four → size ≠ .eight → f = 0x0A02) ∧
        (size = .four → o % 4 ≠ 0 → f = 0x0A02) ∧ (size = .eight → o % 8 ≠ 0 → f = 0x0A02) ∧
        (size = .four ∧ o % 4 = 0 ∨ size = .eight ∧ o % 8 = 0 →
          (o / 8 * 8 % 0x100000 ≠ 0 ∨ b < 0x10 ∨ s.blockInReset b = true → f = s.blockRefusal b) ∧
          (o / 8 * 8 % 0x100000 = 0 → 0x10 ≤ b → s.blockInReset b = false → f = 0)))) ∧
    (∀ r, regAt (o / 8 * 8) = some r → s.csrPut false o size v = s.writeReg false r ((accessMask o size).getD 0) (accessValue o v))

/-- R12: RO, WO, RW, W1C, W1S and LK fields. R13: a narrow write leaves the bits it does not name. -/
def Obligations.FieldAccess : Prop :=
  ∀ (s : State) (f : Fld) (mask v : Nat),
    let u := s.storeFld f mask v
    let m (i : Nat) : Bool := bitAt (bits mask f.lo f.len) i
    let x (i : Nat) : Bool := bitAt (bits v f.lo f.len) i
    let old (i : Nat) : Bool := bitAt (s.fld f) i
    (f.acc = .ro ∨ f.acc = .wo → u = s) ∧
    (∀ i, i < f.len →
      (f.acc = .rw → bitAt (u.fld f) i = if m i then x i else old i) ∧
      (f.acc = .w1c → bitAt (u.fld f) i = (old i && !(m i && x i))) ∧
      (f.acc = .w1s → bitAt (u.fld f) i = (old i || (m i && x i))) ∧
      (f.acc = .lk → bitAt (u.fld f) i = if s.fldSealed f then old i else if m i then x i else old i)) ∧
    (∀ g : Fld, g.key ≠ f.key → u.fld g = s.fld g) ∧
    { u with flds := s.flds } = s

/-- R498, R500: a port's link. R502: its identity. R505, R506: the DVSEC, whose locked windows no write moves (0x0A14). R501: BAR4. R527, R528: keys and
mailbox, their object layouts PRESUMED from the PCIe and CXL specifications (log entry 54). -/
def Obligations.HostPorts : Prop :=
  (∀ (q : CxlPort) (s : State),
    let n := q.val
    let up := s.fld (Fd.HST_PORT_STAT_MODE n)
    (∀ (mode speed width : Fin 4) (msix : MsixCtl), s.boot.done0 = true → up = 0 → mode ≠ 0 → speed ≠ 0 → width ≠ 0 →
      let u := ((s.setFld (Fd.HST_PORT_STAT_MODE n) mode.val).setFld (Fd.HST_PORT_STAT_SPEED n) speed.val).setFld
        (Fd.HST_PORT_STAT_WIDTH n) width.val
      exec (.cxlPortTrain q mode speed width msix) s = .next ((((u.setFld Fd.PWR_CARRIER_CXL_PRES
        (setBits (u.fld Fd.PWR_CARRIER_CXL_PRES) n 1 1)).sizeBars n).setMsix n msix).flushVecs n) ∧
      ∀ v : State, (v.sizeBars n).bar4Log n = v.fld (Fd.DVSEC_BAR4_BAR4_LOG n) ∧ (v.setMsix n msix).msixOf n = msix) ∧
    (
      let u := ((s.setFld (Fd.HST_PORT_STAT_MODE n) 0).setFld (Fd.HST_PORT_STAT_SPEED n) 0).setFld (Fd.HST_PORT_STAT_WIDTH n) 0
      let v := u.setTrust { s.trust with
        ide := s.trust.ide.filter (fun e => e.1 / 2 ^ 16 ≠ n)
        ideKinds := s.trust.ideKinds.filter (fun e => e.1 / 2 ^ 8 ≠ n) }
      let d := if up = 0 then s else ((v.setFld (Fd.HST_PORT_STAT_IDE_ON n) 0).satFld (Fd.HST_PORT_STAT_DOWNS n)).logRec 0x0A19 1 n
      exec (.cxlPortDown q) s = .next d ∧
      exec (.portReset q) s = .next { d with
        msix := d.msix.filter (fun e => e.1 / 2048 ≠ n), msixPend := d.msixPend.filter (fun e => e.1 / 2048 ≠ n),
        msixCtl := SMap.erase d.msixCtl n,
        trust := { d.trust with
          vers := SMap.erase d.trust.vers n, phase := SMap.erase d.trust.phase n,
          sessions := d.trust.sessions.filter (fun e => e.2.transport ≠ n),
          stalled := d.trust.stalled.filter (fun e => e.2.transport.val ≠ n) } }) ∧
    (s.cxlOpen n = true →
      (∀ i : Fin 16,
        (s.isSet (Fd.DVSEC_WIN_LOCK i.val) = true → exec (.windowLock q i) s = .next (s.logRec 0x0A14 1 n)) ∧
        (s.isSet (Fd.DVSEC_WIN_LOCK i.val) = false → exec (.windowLock q i) s = .next (s.setFld (Fd.DVSEC_WIN_LOCK i.val) 1)) ∧
        (∀ (off : BitVec 12) (value : BitVec 64),
          let win := off.toNat = 0x20 + 0x18 * i.val
          let hpa := off.toNat = 0x28 + 0x18 * i.val
          (win ∨ hpa → s.isSet (Fd.DVSEC_WIN_LOCK i.val) = true → exec (.dvsecWrite q off value) s = .next (s.logRec 0x0A14 1 n)) ∧
          (win → s.isSet (Fd.DVSEC_WIN_LOCK i.val) = false →
            exec (.dvsecWrite q off value) s = .next (s.writeFields (.DVSEC_WIN i.val) fullMask value.toNat)) ∧
          (hpa → s.isSet (Fd.DVSEC_WIN_LOCK i.val) = false →
            exec (.dvsecWrite q off value) s = .next (s.writeFields (.DVSEC_WIN_HPA i.val) fullMask value.toNat)))) ∧
      (∀ value : BitVec 64,
        exec (.dvsecWrite q 0x08 value) s = .next (s.writeFields (.DVSEC_BAR0 n) fullMask value.toNat) ∧
        exec (.dvsecWrite q 0x10 value) s =
          .next ((s.writeFields (.DVSEC_BAR4 n) fullMask value.toNat).clampFld (Fd.DVSEC_BAR4_BAR4_LOG n) 30 40) ∧
        exec (.dvsecWrite q 0x18 value) s = .next (s.writeFields (.DVSEC_FAR n) fullMask value.toNat)) ∧
      (∀ index : BitVec 8,
        let w := match doeProtocols[index.toNat]? with
          | some p => p.1 + p.2 * 2 ^ 16 + (if index = 3 then 0 else index.toNat + 1) * 2 ^ 24
          | none => 0xFFFF
        exec (.doeDiscovery q index) s = .next { s with out := s.out ++ [.reply n (doeObject 1 0 (leBytes 4 w))] }) ∧
      (∀ handle : BitVec 16, ∃ b, exec (.cxlTableAccess q handle) s =
          .next { s with out := s.out ++ [.reply n (doeObject 0x1E98 2 b)] } ∧
        (∀ e, (s.cdat n)[handle.toNat]? = some e → b = leBytes 4 ((if handle = 1 then 0xFFFF else handle.toNat + 1) * 2 ^ 16) ++ e))) ∧
    (∀ a : Bar4Access, up ≠ 0 → a.bytes ≠ [] → a.off + a.bytes.length ≤ 2 ^ s.bar4Log n →
      let len := a.bytes.length
      let l := s.fld (Fd.DVSEC_FAR_FAR_OFS n) * 2 ^ 30 + a.off
      let f := s.bar4Fault a.write l len
      let r := s.store (cellsFrom l a.bytes)
      let t := s.touch l len
      (f ≠ 0 → a.write = true → exec (.hostBar4Access q a) s = .next (s.log f)) ∧
      (f ≠ 0 → a.write = false → exec (.hostBar4Access q a) s =
        .next { s.log f with out := (s.log f).out ++ [.hostData n (List.replicate len 0xFF) false] }) ∧
      (f = 0 → s.banksHeld l len = false → a.write = true → exec (.hostBar4Access q a) s = .next (if r.2 then r.1.log 0x0511 else r.1)) ∧
      (f = 0 → s.banksHeld l len = false → a.write = false → exec (.hostBar4Access q a) s =
        .next { t with out := t.out ++ [.hostData n (t.readBytes l len) (t.poisoned l len)] }) ∧
      (s.isSet Fd.KV_CTL_EN = true → a.write = true → 2 ≤ s.fld Fd.PWR_STAGE_STAGE → regionOf l = .far → regionOf (l + len - 1) = .far →
        s.addrFault .host l len = 0 → s.meetsProt l len = true → f = 0x0709)) ∧
    (∀ c, s.configIdentity n = some c → c.device = 0x3624 ∧ c.classCode = 0x120000 ∧
      (s.fld Fd.LIC_STAT_VARIANT = 1 → c.subsystem = 0x000A) ∧ (s.fld Fd.LIC_STAT_VARIANT = 2 → c.subsystem = 0x000B) ∧
      (s.fld Fd.LIC_STAT_VARIANT = 3 → c.subsystem = 0x000C))) ∧
  (∀ (q : CxlPort) (m : IdeKm) (s : State) (x : Session),
    let n := q.val
    s.fld (Fd.HST_PORT_STAT_MODE n) ≠ 0 → SMap.find s.trust.sessions m.session.val = some x → x.live = true →
    (m.object = 0 → exec (.ideKm q m) s = .next (s.ideReply n m 1 0)) ∧
    (m.object = 2 → m.key.length = 32 → s.ideRoom n m = true → exec (.ideKm q m) s = .next ((s.setIde n m m.key false).ideReply n m 3 0)) ∧
    (m.object = 2 → (m.key.length ≠ 32 ∨ s.ideRoom n m = false) → exec (.ideKm q m) s = .next (s.ideReply n m 3 4)) ∧
    (∀ y, SMap.find s.trust.ide (ideSlot n m) = some y → s.ideRoom n m = true →
      (m.object = 4 → exec (.ideKm q m) s = .next ((s.setIde n m y.1 true).ideReply n m 6 0)) ∧
      (m.object = 5 → exec (.ideKm q m) s = .next ((s.setIde n m y.1 false).ideReply n m 6 0))) ∧
    (
      let mine := s.trust.ideKinds.filter (fun e => decide (e.1 / 2 ^ 8 = n) && sameIde e.2 m.kind)
      SMap.find s.trust.ideKinds (n * 2 ^ 8 + m.streamId.toNat) = none →
      (m.kind = .link → (s.ideRoom n m = true ↔ mine.length < 1)) ∧ (m.kind = .selective → (s.ideRoom n m = true ↔ mine.length < 4)) ∧
      (∀ md, m.kind = .cachemem md → (s.ideRoom n m = true ↔ s.fld (Fd.HST_PORT_STAT_MODE n) = 1 ∧ mine.length < 1))))

/-- R507, R531: HST_S_CTL. R508: the tail line and the doorbell. R509: the next entry is fetched, or the stream halts with 0x0A12. R519 to R521: the
journal, acceptance and commit points. R523, R568: the compute-part reset and fills. -/
def Obligations.StreamFrontEnd : Prop :=
  (∀ (st : Fin 4096) (s : State), s.Hears 6 →
    let i := st.val
    let gone (u : State) : State := { u with streams := SMap.erase u.streams i, cmds := u.cmds.filter (fun e => e.1 / 2 ^ 32 ≠ i) }
    (
      let on := s.writeFields (.HST_S_CTL i) 1 1
      s.isSet (Fd.HST_S_CTL_EN i) = false →
      (on.streamOk i = true → exec (.streamEnable st) s = .next ((((((gone on).setFld (Fd.HST_S_SEQ_ACCEPTED i) 0xFFFFFFFF).setFld
        (Fd.HST_S_SEQ_COMMITTED i) 0xFFFFFFFF)).setFld (Fd.HST_S_CPLP_COMPLETED i) 0xFFFFFFFF).showStream i)) ∧
      (on.streamOk i = false → exec (.streamEnable st) s = .next (s.streamFault i 0x0A17))) ∧
    (s.isSet (Fd.HST_S_CTL_EN i) = true →
      let idle := s.fld (Fd.HST_S_STAT_STATE i) = 4 ∧ s.fld (Fd.HST_S_CPLP_COMPLETED i) = s.fld (Fd.HST_S_SEQ_ACCEPTED i)
      (idle → exec (.streamDisable st) s = .next ((gone (s.writeFields (.HST_S_CTL i) 1 0)).showStream i)) ∧
      (¬ idle → exec (.streamDisable st) s = .next (s.streamFault i 0x0A17))) ∧
    exec (.streamStop st) s = .next ((s.writeFields (.HST_S_CTL i) 4 4).showStream i) ∧
    exec (.streamResume st) s =
      .next (((s.writeFields (.HST_S_CTL i) 8 8).setStream i (fun x => { x with halted := false })).showStream i) ∧
    (∀ tail : BitVec 32, exec (.doorbell st tail) s = .next (s.learnTail i tail)) ∧
    (∀ head : BitVec 32, Answers (.cplHeadWrite st head) s (fun u => u = s.setFld (Fd.HST_S_CPLP_CPL_HEAD i) head.toNat ∧
      u.fld (Fd.HST_S_CPLP_CPL_HEAD i) = head.toNat)) ∧
    (∀ tail : BitVec 32, Answers (.jtailWrite tail) s (fun u => u = s.setFld Fd.HST_JRNL_PTR_JTAIL tail.toNat ∧
      u.fld Fd.HST_JRNL_PTR_JTAIL = tail.toNat))) ∧
  (∀ (st : Fin 4096) (s : State),
    let i := st.val
    let x := s.stream i
    (∀ tail : BitVec 32,
      let mode := s.fld (Fd.HST_PORT_STAT_MODE (s.fld (Fd.HST_S_CTL_PORT i)))
      (mode = 1 ∨ mode = 2 → exec (.tailLineInvalidate st tail) s = .next (s.learnTail i tail)) ∧
      (mode ≠ 1 → mode ≠ 2 → exec (.tailLineInvalidate st tail) s = .next s) ∧
      (s.isSet (Fd.HST_S_CTL_EN i) = true → 0 < (tail - x.tail).toNat → (tail - x.tail).toNat < 2 ^ 31 →
        s.learnTail i tail = s.setStream i (fun x => { x with tail := tail })) ∧
      ((tail - x.tail).toNat = 0 ∨ 2 ^ 31 ≤ (tail - x.tail).toNat → s.learnTail i tail = s)) ∧
    (∀ entry : BitVec 1024,
      let n : BitVec 32 := BitVec.ofNat 32 (s.fld (Fd.HST_S_SEQ_ACCEPTED i) + 1)
      let ahead := (x.tail - n).toNat
      let overrun := s.cmdEntries i < (x.tail - BitVec.ofNat 32 (s.fld (Fd.HST_S_SEQ_COMMITTED i) + 1)).toNat
      s.isSet (Fd.HST_S_CTL_EN i) = true → x.halted = false → s.streamUp i = true → x.replay = none →
      s.fld (Fd.HST_S_STAT_STATE i) = 1 → x.fetched = none → 0 < ahead → ahead < 2 ^ 31 →
      (bits entry.toNat 32 32 = n.toNat → ¬ overrun →
        exec (.entryFetch st entry) s = .next (s.setStream i (fun x => { x with fetched := some entry }))) ∧
      (bits entry.toNat 32 32 ≠ n.toNat ∨ overrun → exec (.entryFetch st entry) s =
        .next (((s.setStream i (fun x => { x with halted := true, fetched := none })).streamFault i 0x0A12).showStream i))) ∧
    (∀ e : BitVec 1024, x.fetched = some e → s.fld (Fd.HST_S_STAT_STATE i) = 1 → s.streamUp i = true → s.tailFar i = true →
      exec (.commandAccept st) s = .next (((s.setStream i (fun x => { x with halted := true, fetched := none })).streamFault i 0x0A12).showStream i)) ∧
    (∀ e : BitVec 1024, x.fetched = some e → s.fld (Fd.HST_S_STAT_STATE i) = 1 → s.streamUp i = true → s.tailFar i = false →
      s.jRoom = true → s.cpr = 0 →
      let n : BitVec 32 := BitVec.ofNat 32 (s.fld (Fd.HST_S_SEQ_ACCEPTED i) + 1)
      let k : CmdRef := { stream := st, seq := n }
      let opc := bits e.toNat 0 8
      let crc := crc32 (entryBytes e)
      let isFill := opc = 0x28 ∧ bits e.toNat 224 8 = 1
      let idle := s.fld Fd.JOB_STEP_STATE = 0
      let c : Cmd := { entry := e, commit := e.getLsbD 8 || opcForcing opc || decide (255 ≤ s.openCount i), crc := crc
                       again := false, replayed := false, fill := decide (isFill ∧ idle), pre := 0 }
      let a := (s.jWrite i 1 n.toNat opc crc).setFld (Fd.HST_S_SEQ_ACCEPTED i) n.toNat
      let b := ({ a with cmds := a.cmds.set k.code c } : State).setStream i (fun x => { x with fetched := none })
      let h := b.setFld Fd.JOB_CTL_HOLD 1
      let d := if isFill then (if idle then h.incFld Fd.JOB_FILL_PENDING else h.finishCmd k 0x0C0B) else b
      exec (.commandAccept st) s = .next (d.screen k opc)) ∧
    (∀ l, firstInterval (s.streamCmds i) = some l → s.streamUp i = true → (∀ e ∈ l, 2 ≤ e.2.st ∧ e.2.again = false) →
      let r := s.writeRecords i l
      let last := (l.getLast?.map (·.1)).getD 0 % 2 ^ 32
      let a := (r.1.jWrite i 2 last 0 0).setFld (Fd.HST_S_SEQ_COMMITTED i) last
      let b : State := { a with cmds := a.cmds.filter (fun e => !(l.map (·.1)).contains e.1) }
      (r.2 = false ∨ r.1.jRoom = false → exec (.commitPoint st) s = .next r.1) ∧
      (r.2 = true → r.1.jRoom = true →
        ((∃ e ∈ l, e.2.irq = true) → b.isSet (Fd.HST_S_CTL_VEC_EN i) = true → exec (.commitPoint st) s =
          .next ((b.raiseVec (b.fld (Fd.HST_S_CTL_PORT i)) (b.fld (Fd.HST_S_CTL_VEC i))).showStream i)) ∧
        ((∀ e ∈ l, e.2.irq = false) ∨ b.isSet (Fd.HST_S_CTL_VEC_EN i) = false →
          exec (.commitPoint st) s = .next (b.showStream i)))))

/-- R510, R511: a command that may not start waits, and one whose unused bytes are not zero finishes with 0x0A11. R512, R513: launches. R517: set-up.
R566, R567: checkpoints. R538, R539: ingest. R626, R633, R641: licence, BIST and RESYNC. -/
def Obligations.StreamCommands : Prop :=
  ∀ (k : CmdRef) (s : State),
    let p := s.startCmd k
    let waits (j : Instr) (opc : Nat) : Prop := s.mayStart k [opc] = false → exec j s = .next s
    let stray (j : Instr) (opc : Nat) (used : List (Nat × Nat)) : Prop :=
      ∀ c, s.cmd k = some c → s.mayStart k [opc] = true → c.clean used = false → exec j s = .next (p.finishCmd k 0x0A11)
    waits (.launch k) 0x01 ∧
    (∀ c, s.cmd k = some c → s.mayStart k [0x01] = true → c.clean [(0, 14), (16, 4), (24, 64)] = false →
      exec (.launch k) s = .next ((p.launchFault c.job 0x0A11).finishCmd k 0x0A11)) ∧
    waits (.relaySet k) 0x20 ∧ stray (.relaySet k) 0x20 [(0, 2), (8, 64)] ∧
    waits (.pisteLoad k) 0x21 ∧ stray (.pisteLoad k) 0x21 [(0, 1), (8, 8)] ∧
    (SMap.find s.chks k.code = none → waits (.checkpointSave k) 0x28 ∧ waits (.checkpointFill k) 0x28) ∧ waits (.ingest k) 0x30 ∧
    waits (.licence k) 0x38 ∧ stray (.licence k) 0x38 [(0, 8)] ∧ waits (.bist k) 0x39 ∧
    waits (.resync k) 0x3A ∧ stray (.resync k) 0x3A [(0, 16)] ∧ waits (.nopCommand k) 0x3F ∧ stray (.nopCommand k) 0x3F [] ∧
    (∀ c, s.Starts k 0x3F [] c → exec (.nopCommand k) s = .next (p.finishCmd k 0)) ∧
    (∀ c, s.Starts k 0x01 [(0, 14), (16, 4), (24, 64)] c →
      let b := launchBody c
      b.tiles < 2 ^ 36 → c.body 12 1 ≤ 1 →
      (s.launchBad b = true → exec (.launch k) s = .next ((p.launchFault c.job 0x0A10).finishCmd k 0x0A10)) ∧
      (s.launchBad b = false → (s.ofJob c.job = true → s.fld Fd.JOB_STEP_STATE ≠ 2) →
        (s.computeUp = true → (∀ t ∈ b.tids, (s.thread t).st = .free) → exec (.launch k) s =
          .next ((b.tids.foldl (fun u t => u.startThread k b t) ({ p with
            launches := p.launches.set k.code ({ tids := b.tids, live := b.tids, job := BitVec.ofNat 16 c.job } : Launch) } : State)).phaseCheck)) ∧
        ((s.computeUp = false ∨ ∃ t ∈ b.tids, (s.thread t).st ≠ .free) → exec (.launch k) s = .next s))) ∧
    (∀ l, SMap.find s.launches k.code = some l →
      (l.live ≠ [] → exec (.launchComplete k) s = .next s) ∧
      (l.live = [] →
        let a := l.tids.foldl (fun u t =>
          if (u.thread t).owner = some k then { u with threads := SMap.erase u.threads t } else u) s
        let b : State := { a with launches := SMap.erase a.launches k.code }
        exec (.launchComplete k) s =
          .next (((b.launchFault l.job.toNat l.fault).finishCmd k l.fault l.tids.length).phaseCheck))) ∧
    (∀ c, s.Starts k 0x20 [(0, 2), (8, 64)] c →
      let h := c.body 0 2
      (1023 < h ∨ p.relState h = 2 → exec (.relaySet k) s = .next ((p.log 0x0906).finishCmd k 0x0906)) ∧
      (h ≤ 1023 → p.relState h ≠ 2 → exec (.relaySet k) s =
        .next (((List.range 8).foldl (fun u i => u.writeRel h i fullMask (c.body (8 + 8 * i) 8)) p).finishCmd k 0))) ∧
    (∀ c, s.Starts k 0x21 [(0, 1), (8, 8)] c →
      let i := c.body 0 1
      let a := c.body 8 8
      let m := (devSplit a).1
      let l := (devSplit a).2
      (p.pisteFault i ≠ 0 → exec (.pisteLoad k) s = .next (p.refusePiste k (p.pisteFault i))) ∧
      (p.pisteFault i = 0 → p.here a = true → p.addrFault .engine l 144 = 0 → p.poisoned l 144 = false →
        exec (.pisteLoad k) s = .next (((p.touch l 144).loadPiste i ((p.touch l 144).readBytes l 144)).finishCmd k 0)) ∧
      (p.pisteFault i = 0 → p.here a = false → p.linkFault m 1 = 0 →
        let r := p.newTag (.piste k)
        exec (.pisteLoad k) s = .next (r.2.sendPkt m 1 0x01 (loadReqBody l 144 r.1) (.request r.1)))) ∧
    (∀ c, s.Starts k 0x28 [(0, 36)] c → SMap.find s.chks k.code = none → s.chkHeld c = false → p.chkOk c = true →
      let list := c.body 0 8
      let n := c.body 8 4
      let dir := c.body 12 1
      let vc := c.body 13 1
      let hdr := c.body 16 8
      let m := (devSplit hdr).1
      let es := (List.range n).map (fun i => p.chkExtent (list + 24 * i))
      let u := p.touch list (24 * n)
      let x : Chk := { fill := decide (dir = 1), hdr := hdr, vc := vc, job := c.job, step := c.body 24 4, count := n, exts := es
                       want := if dir = 1 then 0 else (es.map (fun e => e.2.2)).sum }
      p.addrFault .engine list (24 * n) = 0 → p.poisoned list (24 * n) = false → (∀ e ∈ es, p.extentOk dir hdr e = true) →
      u.linkFault m 1 = 0 →
      (dir = 0 → u.linkFault m vc = 0 → exec (.checkpointSave k) s = .next ((u.setChk k x).sendHeader k x false)) ∧
      (dir = 1 → c.body 28 2 = p.fld Fd.JOB_FILL_PLAN →
        let r := (u.setChk k x).newTag (.fill k hdr)
        exec (.checkpointFill k) s =
          .next (r.2.sendPkt m 1 0x01 (loadReqBody (devSplit hdr).2 64 r.1) (.request r.1)))) ∧
    (∀ c, s.Starts k 0x30 [(0, 64)] c → s.ingest ≠ none ∨ s.fld Fd.ING_CTL_PIPES_EN = 0 ∨ (s.lineUp k).head? ≠ some k →
      exec (.ingest k) s = .next { s with ingLine := s.lineUp k }) ∧
    (∀ c, s.Starts k 0x30 [(0, 64)] c → s.ingest = none → s.fld Fd.ING_CTL_PIPES_EN ≠ 0 → (s.lineUp k).head? = some k →
      let p := ({ s with ingLine := (s.lineUp k).tail } : State).startCmd k
      let b := ingestBody c
      let f := p.ingestFault c b (p.profile b.prof)
      (f ≠ 0 → exec (.ingest k) s = .next (p.finishCmd k f)) ∧
      (f = 0 → exec (.ingest k) s =
        .next ({ p with ingest := some { k := k, prof := p.profile b.prof } } : State).ingLog)) ∧
    (∀ c, s.Starts k 0x38 [(0, 8)] c →
      let a := c.body 0 8
      let bs := p.readBytes (devSplit a).2 128
      let f := p.licenceFault bs
      a % 16 = 0 → p.inOpenWindow a 128 = true →
      (f ≠ 0 → exec (.licence k) s = .next (p.finishCmd k f)) ∧
      (f = 0 → exec (.licence k) s = .next (((({ p with fw := { p.fw with pend := bs } } : State).setHeld Fd.LIC_PEND_PENDING 1).setHeld
        Fd.LIC_PEND_PEND_LSEQ (numAt bs 16 4)).finishCmd k 0 (numAt bs 16 4)))) ∧
    (∀ c, s.Starts k 0x39 [(0, 9), (16, 8)] c → s.trust.bist = none →
      let dies := (List.range 45).filter (fun i => bitAt (c.body 0 8) i)
      let fl := c.body 8 1
      let res := c.body 16 8
      bitAt (c.body 0 8) 0 = false → c.body 0 8 < 2 ^ 45 → fl < 8 → res % 64 = 0 → dies ≠ [] →
      p.destFault res (32 * dies.length) = 0 →
      ((∃ d ∈ dies, p.dieHeld d = false) → exec (.bist k) s = .next (p.finishCmd k 0x0E31)) ∧
      ((∀ d ∈ dies, p.dieHeld d = true) → exec (.bist k) s = .next ((p.setTrust { p.trust with bist := some {
        k := k, dies := dies, todo := sixes 6 (dies.filter (9 ≤ ·)) ++ (dies.filter (· < 9)).map (fun d => [d]),
        lbist := bitAt fl 0, mbist := bitAt fl 1, retire := bitAt fl 2, res := res } }).setFld Fd.BIST_STAT_RUNNING 1))) ∧
    (∀ c, s.Starts k 0x3A [(0, 16)] c →
      let a := c.body 0 8
      let bs := p.assemble.1
      let u := p.assemble.2.snapshot bs
      let f := u.destFault a bs.length
      (a % 64 ≠ 0 → exec (.resync k) s = .next (p.finishCmd k 0x0104)) ∧
      (a % 64 = 0 → c.body 8 8 < bs.length → exec (.resync k) s = .next (u.finishCmd k 0x0E51 bs.length)) ∧
      (a % 64 = 0 → bs.length ≤ c.body 8 8 → f = 0 →
        exec (.resync k) s = .next (((u.store (cellsFrom (devSplit a).2 bs)).1).finishCmd k 0 bs.length)))

/-- R540, R550: the next sample goes to the lowest free pipeline. R541, R546, R547: a sample is delivered or skipped. R548: the input log. R554 to
R560, R564: the job and its step. R570: the fill plan. R335, R562: a flow whose route changed and is drained. -/
def Obligations.IngestAndJobs : Prop :=
  (∀ (s : State) (g : Ingest) (c : Cmd), s.ingest = some g → s.cmd g.k = some c →
    let b := ingestBody c
    (∀ i, (List.range 8).find? (fun i => bitAt (s.fld Fd.ING_CTL_PIPES_EN) i && (SMap.find s.pipes i).isNone) = some i →
      g.logged = true → g.next < b.count →
      let r := s.readEntry b g.next
      exec .sampleDispatch s = .next (({ r.2 with
        ingest := some { g with next := g.next + 1 }, pipes := r.2.pipes.set i r.1 } : State).showPipe i)) ∧
    (∀ (pipe : Fin 8) (x : Pipe), SMap.find s.pipes pipe.val = some x → s.slotClear g b x = true →
      let d := s.decodeSample g.prof x
      let r := sampleReason g.prof x d (s.sourceStop x)
      let u := s.touch x.src (min d.used (min x.len (s.reachEnd x.src - x.src)))
      let ok := r.1 = 0
      let bs := if ok then slotBytes g.prof x.fskip d else List.replicate g.prof.slotSize 0
      let w := u.store (cellsFrom (b.out + x.slot * b.slot) bs)
      let a := ((w.1.incFld
        (if ok then Fd.ING_STAT_DELIVERED else Fd.ING_STAT_SKIPPED)).incFld (Fd.ING_PIPE_STAT_SAMPLES pipe.val))
      exec (.sampleDone pipe) s = .next ((({ a with pipes := SMap.erase a.pipes pipe.val } : State).showPipe pipe.val).ingFinish
        { g with
          done := g.done + 1
          stats := g.stats.set x.slot (statusEntry r.1 r.2 (if r.1 = 8 then 0 else x.codec) x.user)
          good := if ok then g.good + 1 else g.good
          bad := if ok then g.bad else g.bad + 1
          lost := g.lost || w.2 })) ∧
    (g.logged = false → s.ingRoom = true →
      let h := s.fld Fd.ING_LOG_PTR_HEAD
      let a := s.fld Fd.ING_LOG_BASE_BASE * 32 + h % 2 ^ (s.fld Fd.ING_LOG_BASE_ENTRIES_LOG + 4) * 32
      let f := if regionOf a = .host then s.addrFault .engine a 32 else 0x0502
      let w := s.store (cellsFrom a (leBytes 32 (ingRecord g.k c b)))
      let q := if w.2 then w.1.log 0x0511 else w.1
      (f = 0 → exec .ingestLogWrite s = .next ((q.incFld Fd.ING_LOG_PTR_HEAD).ingFinish { g with logged := true })) ∧
      (f ≠ 0 → exec .ingestLogWrite s = .next (((s.log f).incFld Fd.ING_LOG_PTR_HEAD).ingFinish { g with logged := true }))) ∧
    (s.ingRoom = false → exec .ingestLogWrite s = .next s)) ∧
  (∀ s : State, s.Hears 7 →
    (∀ tail : BitVec 20, Answers (.ingLogTailWrite tail) s (fun u => u = s.setFld Fd.ING_LOG_PTR_TAIL tail.toNat ∧
      u.fld Fd.ING_LOG_PTR_TAIL = tail.toNat)) ∧
    (∀ en : BitVec 8, Answers (.ingPipesEnWrite en) s (fun u => u.fld Fd.ING_CTL_PIPES_EN = en.toNat ∧
      (∀ i, i < 8 → u.fld (Fd.ING_PIPE_STAT_STATE i) =
        if (SMap.find s.pipes i).isSome then 1 else if en.getLsbD i then 0 else 3) ∧
      { u with flds := s.flds } = s))) ∧
  (∀ s : State, s.Hears 13 →
    let old := s.regNat .JOB_CTL
    (s.stepOpen = true →
      exec .jobEnable s = .next (s.log 0x0C02) ∧ (bitAt old 16 = true → exec .jobDisable s = .next (s.log 0x0C01))) ∧
    (s.stepOpen = false →
      let on := s.writeFields .JOB_CTL (2 ^ 16) (2 ^ 16)
      (bitAt old 16 = false → exec .jobEnable s = .next (((on.setFld Fd.JOB_CTL_HOLD 0).setFld Fd.JOB_STEP_STATE 0).phaseCheck)) ∧
      (bitAt old 16 = true → exec .jobEnable s = .next on.phaseCheck) ∧
      exec .jobDisable s = .next ((s.writeFields .JOB_CTL (2 ^ 16) 0).phaseCheck)) ∧
    (∀ (verify : Bool) (step : BitVec 32) (mapGen : BitVec 8),
      let j : Instr := .stepBegin verify step mapGen
      (s.jobRec.isSome = true → exec j s = .next (s.log 0x0C01)) ∧
      (s.jobRec = none →
        (s.isSet Fd.JOB_CTL_EN = false ∨ s.stepOpen = true → exec j s = .next (s.log 0x0C01)) ∧
        (s.isSet Fd.JOB_CTL_EN = true → s.stepOpen = false →
          (mapGen.toNat ≠ s.fld Fd.JOB_CTL_MAP_GEN → exec j s = .next (s.log 0x0C03)) ∧
          (mapGen.toNat = s.fld Fd.JOB_CTL_MAP_GEN →
            let held := s.fld Fd.JOB_FILL_PENDING ≠ 0 ∨ (s.isSet Fd.JOB_CTL_HOLD = true ∧ verify = false)
            let u := (((((s.setFld Fd.JOB_STEP_STEP step.toNat).setFld Fd.JOB_STEP_STATE 1).setFld Fd.JOB_STEP_VERIFY
              (b2n verify)).setFld Fd.JOB_STEP_LOSS_VALID 0).setFld Fd.JOB_STEP_SUSPECT 0).setFld Fd.JOB_STEP_FAULT 0
            (held → exec j s = .next (s.log 0x0C04)) ∧
            (¬ held → exec j s = .next (u.takePhase (u.fld Fd.JOB_PHASE_MPHASE))))))) ∧
    (s.jobRec.isSome = true → exec .stepEnd s = .next (s.log 0x0C01) ∧ exec .stepAbort s = .next (s.log 0x0C01)) ∧
    (s.jobRec = none →
      (s.stepOpen = false → exec .stepEnd s = .next (s.log 0x0C01) ∧ exec .stepAbort s = .next (s.log 0x0C01)) ∧
      (s.stepOpen = true →
        (
          let ok := s.isSet Fd.JOB_STEP_LOSS_VALID = true ∧ s.fld Fd.JOB_LOSS_LOSS = s.fld Fd.JOB_VERIFY_EXPECT
          let outcome := if s.fld Fd.JOB_STEP_STATE = 2 then 1 else if s.isSet Fd.JOB_STEP_VERIFY then (if ok then 3 else 4) else 0
          let fault := if outcome = 4 then 0x0C05 else s.fld Fd.JOB_STEP_FAULT
          exec .stepEnd s =
            .next ({ s with jobRec := some (s.stepRecord outcome fault, decide (outcome = 3)) } : State).writeStepRecord) ∧
        (
          let a := s.jobThreads.foldl (fun s t => s.haltThread t 0x0C0A (s.regs t).pc) s
          let hs := (List.range 1024).filter (fun h => a.relState h = 2 && a.ofJob (a.fld (Fd.REL_RED_CTL_JOB h)))
          let b := ((hs.foldl (fun s h => s.relayFail h 0x0C0A) a).lapDisarm 0).lapDisarm 1
          exec .stepAbort s =
            .next ({ b with jobRec := some (b.stepRecord 2 (b.fld Fd.JOB_STEP_FAULT), false) } : State).writeStepRecord))) ∧
    (∀ tail : BitVec 20, Answers (.srecTailWrite tail) s (fun u => u = s.setFld Fd.JOB_SREC_PTR_TAIL tail.toNat ∧
      u.fld Fd.JOB_SREC_PTR_TAIL = tail.toNat)) ∧
    (∀ plan : BitVec 16, Answers (.fillPlanWrite plan) s (fun u =>
      u.fld Fd.JOB_FILL_PLAN = plan.toNat ∧ u.fld Fd.JOB_FILL_PENDING = 0 ∧ u.fld Fd.JOB_FILL_DONE = 0 ∧
      u.isSet Fd.JOB_CTL_HOLD = true ∧ u.jobRec = s.jobRec.map (fun r => (r.1, false)) ∧ (∀ e ∈ u.cmds, e.2.fill = false) ∧ u.mem = s.mem ∧ u.threads = s.threads))) ∧
  (∀ (t : Tid) (loss : BitVec 64) (s : State),
    let x := s.thread t.code
    (s.live t.code = false → exec (.jobLossWrite t loss) s = .next s) ∧
    (s.live t.code = true → x.due = none →
      (x.ckpts ≠ [] → exec (.jobLossWrite t loss) s = .next (s.waitIn t.code .waitGate)) ∧
      (x.ckpts = [] → x.regs.held = none →
        (s.stepOpen = false → exec (.jobLossWrite t loss) s = .next s) ∧
        (s.stepOpen = true → Answers (.jobLossWrite t loss) s (fun u =>
          u.fld Fd.JOB_LOSS_LOSS = loss.toNat ∧ u.isSet Fd.JOB_STEP_LOSS_VALID = true ∧ { u with flds := s.flds } = s))))) ∧
  (∀ (s : State) (r : Nat) (clear : Bool), s.jobRec = some (r, clear) →
    (s.srecRoom = false → exec .stepRecordWrite s = .next s) ∧
    (s.srecRoom = true →
      let a := s.fld Fd.JOB_SREC_BASE * 32 + s.fld Fd.JOB_SREC_PTR_HEAD % 2 ^ (s.fld Fd.JOB_SREC_ENTRIES_LOG + 4) * 32
      let n := s.srSeq + 1
      let f := if regionOf a = .host then s.addrFault .engine a 32 else 0x0502
      let w := s.store (cellsFrom a (leBytes 32 (r + n.toNat * 2 ^ 96)))
      let q := if f = 0 then (if w.2 then w.1.log 0x0511 else w.1) else s.log f
      let b := (({ q with jobRec := none, srSeq := n } : State).incFld Fd.JOB_SREC_PTR_HEAD).setFld Fd.JOB_STEP_STATE 0
      let d := if clear then b.setFld Fd.JOB_CTL_HOLD 0 else b
      exec .stepRecordWrite s = .next (d.selectPiste (d.fld Fd.JOB_CTL_IDLE_PISTE)))) ∧
  (∀ (dst : ModId) (vc : BitVec 4) (s : State) (f : SendFlow) (i : Nat),
    let key := dst.toNat * 16 + vc.toNat
    SMap.find s.sends key = some f → f.toward = some i →
    (f.unacked ≠ [] ∨ f.reopen = true ∨ f.held = true → exec (.flowRouteSwitch dst vc) s = .next s) ∧
    (f.unacked = [] → f.reopen = false → f.held = false →
      let j := s.pisteFor dst.toNat i
      let fault := s.routeFault dst.toNat vc.toNat j
      let u : State := { s with sends := s.sends.set key { f with piste := j, toward := none } }
      (fault = 0 ∨ f.waiting = [] → exec (.flowRouteSwitch dst vc) s =
        .next (u.pumpFlow dst.toNat vc.toNat f.waiting.length)) ∧
      (fault ≠ 0 → f.waiting ≠ [] → exec (.flowRouteSwitch dst vc) s = .next (u.failFlow dst.toNat vc.toNat fault))))

/-- R579 to R583, R618, R659: power, the stages and what starts each. R595, R596: the lifts. R584 to R594: crystal, root PLL, domains, droop and
frequency counts. STAGE_MS after a stage is a free value (log entry 2). -/
def Obligations.StartAndClocks : Prop :=
  ∀ s : State,
    (∀ slot : BitVec 3,
      (s.boot.powered = false → exec (.powerGoodRise slot) s = .next (s.powerOn slot.toNat)) ∧
      (s.boot.powered = true → exec (.powerGoodRise slot) s = .next s)) ∧
    (s.boot.powered = true →
      exec .powerGoodFall s = .next s.cleared ∧
      (∀ us, 1000 ≤ us → exec (.sidebandReset us) s = .next (s.powerOn (s.fld Fd.PWR_CARRIER_SLOT_ID))) ∧
      (∀ us, us < 1000 → exec (.sidebandReset us) s = .next s) ∧
      (∀ mv : BitVec 16,
        let u := s.setFld Fd.PWR_IN_VIN_MV mv.toNat
        (46000 ≤ mv.toNat → mv.toNat < 50000 → exec (.inputVoltageLow mv) s = .next (u.episode 9 true 0x0F09)) ∧
        (mv.toNat < 46000 ∨ 50000 ≤ mv.toNat → exec (.inputVoltageLow mv) s = .next (u.episode 9 false 0x0F09))) ∧
      (s.boot.done0 = false →
        let a : State := { s with loaded := true }
        let b := ((a.setBoot { a.boot with done0 := true }).setFld Fd.MC_PANEL_DIES_DIE_UP 0x1FF).stageEnds
        (flashListOk = true →
          let f := b.setBoot { b.boot with flash := true }
          let g := (f.setBoot { f.boot with listFull := f.isSet Fd.BIST_STAT_OVERFLOW }).noLicence
          exec (.stage0Done true) s = .next ((g.showPanel 7).setFld Fd.PWR_STAGE_STAGE 1)) ∧
        (flashListOk = false → exec (.stage0Done true) s = .next (b.log 0x0D07)) ∧
        exec (.stage0Done false) s = .next (b.log 0x0D07)) ∧
      (s.boot.xtal = 0 → exec .xtalDelayExpiry s = .next (s.setBoot { s.boot with xtal := 1 }))) ∧
    (s.boot.flash = true →
      (∀ (a b : FwSlot) (lic pend : Licence), s.boot.done1 = false →
        let has (known read : List Byte) : List Byte := if known = [] then read else known
        let q := has s.fw.pend pend.bytes
        let u : State := { s with fw := { s.fw with
          slotA := has s.fw.slotA a.image, slotB := has s.fw.slotB b.image
          lic := if q = [] then has s.fw.lic lic.bytes else q, pend := [] } }
        let v := u.setBoot { u.boot with selected := true }
        exec (.firmwareSelect a b lic pend) s =
          .next (((v.setHeld Fd.LIC_PEND_PENDING 0).setHeld Fd.LIC_PEND_PEND_LSEQ 0).runFirmware true)) ∧
      (∀ img : FwSlot, s.fw.run = 0 →
        let u : State := { s with fw := { s.fw with slotA := img.image, prefer := 0 } }
        let v : State := { s with fw := { s.fw with slotB := img.image, prefer := 0 } }
        (s.boot.selected = true →
          exec (.fwSlotWrite false img) s = .next (u.runFirmware (!s.boot.done1)) ∧
          exec (.fwSlotWrite true img) s = .next (v.runFirmware (!s.boot.done1))) ∧
        (s.boot.selected = false → exec (.fwSlotWrite false img) s = .next u ∧ exec (.fwSlotWrite true img) s = .next v))) ∧
    (s.boot.done1 = true → s.boot.done2 = false → s.fld Fd.PWR_STAGE_STAGE = 1 → s.isSet Fd.CLK_ROOT_STATUS_XTAL_OK = true →
      s.isSet Fd.CLK_ROOT_STATUS_PLL_LOCK = true →
      ∀ (dimms : List (Fin 24 × Dimm)) (tests : List BistResult),
      let u := (((s.setFld Fd.PWR_STAGE_STAGE 2).startDomain 2).startDomain 3).startDomain 4
      let v : State := { u with dram := { u.dram with dimms := dimms.foldl (fun m d => SMap.set m d.1.val d.2) [] } }
      let w := (tests.filter (fun r => decide (1 ≤ r.index.val) && decide (r.index.val < 9))).foldl State.quickBist v
      exec (.stage2Start dimms tests) s = .next ((List.range 6).foldl (fun s p =>
        if s.portState p = 4 then s
        else if s.unitRetired 12 (portDie p) p 0 then
          ((List.range 16).foldl (fun s v => s.setFld (Fd.JL_P_VC_STOPPED p v) 1) (s.setFld (Fd.JL_P_STAT_STATE p) 4)).recordRetired
            s.moduleId p
        else
          let q := s.setFld (Fd.JL_P_STAT_STATE p) 1
          q.setLink p { q.link p with gen1 := q.isSet (Fd.JL_P_CTL_GEN1_ONLY p) }) w.showStacks)) ∧
    (∀ (unit : Fin 24) (ok : Bool) (c : UnitCond),
      (s.fld Fd.PWR_STAGE_STAGE = 2 → s.boot.done2 = false → s.fld (Fd.CH_STAT_STATE .far unit.val) = 0 →
        exec (.dramTrainingDone .far unit ok c) s = .next (s.trainFar unit.val ok c)) ∧
      (((s.fld Fd.PWR_STAGE_STAGE = 2 ∧ s.boot.done2 = false) ∨ s.cpr = 3) → s.fld (Fd.CH_STAT_STATE .near unit.val) = 0 →
        exec (.dramTrainingDone .near unit ok c) s = .next (s.trainNear unit.val (s.cpr = 0) ok c))) ∧
    (∀ (kind unit : Nat) (c : UnitCond),
      let r := s.setting kind unit
      (r.valid kind unit = true → r.covers c = true → s.useSetting kind unit c = s) ∧
      (¬ (r.valid kind unit = true ∧ r.covers c = true) →
        (r.present kind unit = true → s.useSetting kind unit c =
          ((s.incFld Fd.MC_SET_STAT_REJECTED).measure kind unit c 0).logRec 0x0D05 7 (kind + unit * 16)) ∧
        (r.present kind unit = false → s.useSetting kind unit c = (s.measure kind unit c 0).logRec 0x0D05 7 (kind + unit * 16)) ∧
        SMap.find (s.useSetting kind unit c).settings (kind + unit * 16) ≠ none)) ∧
    (s.fld Fd.PWR_STAGE_STAGE = 2 → s.boot.done2 = false → s.isSet Fd.ID_RNG_HEALTHY = true → s.nearResolved = true →
      s.farResolved = true →
      let m := (s.mapIfNot .far).mapIfNot .near
      let u := (m.setBoot { m.boot with done2 := true }).stageEnds
      (s.cpr = 0 → exec .stage2Done s = .next u.beginLifts) ∧
      (s.cpr = 1 → u.mayBringUp = true →
        exec .stage2Done s = .next ((u.setFld Fd.PWR_CPR_RELEASE 0).setFld Fd.PWR_CPR_HELD 0).bringUpLifts) ∧
      (s.cpr = 1 → u.mayBringUp = false → exec .stage2Done s = .next u)) ∧
    (∀ (k : Nat) (bad : BitVec 36) (supply : BitVec 2), s.boot.lift = some (k, false) →
      let ts := s.liftTiles k
      let low := ts.filter (fun t => bad.getLsbD t)
      let models (live : List Nat) (u : State) : State := live.foldl (fun s t =>
        s.useSetting 4 t { temp := BitVec.ofNat 8 (s.fld (Fd.PWR_TILE_TEMP t)), supply := supply }) u
      (s.boot.again = 0 → low ≠ [] → exec (.liftRailCheck bad supply) s =
        .next (s.setBoot { s.boot with again := low.foldl (fun a t => a + 2 ^ t) 0 })) ∧
      (low = [] → exec (.liftRailCheck bad supply) s = .next ((models ts (s.setBoot { s.boot with
        lift := some (k, true), again := 0, liveTiles := ts.foldl (fun a t => a ||| 2 ^ t) s.boot.liveTiles })).startDomain 0)) ∧
      (s.boot.again ≠ 0 → ∀ dead, dead = low.filter (fun t => bitAt s.boot.again t) → dead ≠ [] →
        let live := ts.filter (fun t => !(dead.contains t))
        let a := dead.foldl (fun s _ => s.log 0x0F05) (s.setBoot { s.boot with
          lift := some (k, true), again := 0, rails := dead.foldl (fun a t => a ||| 2 ^ t) s.boot.rails,
          liveTiles := live.foldl (fun a t => a ||| 2 ^ t) s.boot.liveTiles })
        exec (.liftRailCheck bad supply) s = .next ((models live ((a.setFld Fd.PWR_STAGE_LIFT_FAIL
          (a.fld Fd.PWR_STAGE_LIFT_FAIL ||| 2 ^ k)).showPanel (a.fld Fd.MC_PANEL_TILES_EXCL_ROW))).startDomain 0))) ∧
    (∀ r : BistResult,
      let d := r.index.val
      let shown := (if 9 ≤ d then s.setFld (Fd.BIST_LSIG_LSIG d) r.lsig.toNat else s).setFld (Fd.BIST_MSIG_MSIG d) r.msig.toNat
      let es := (r.fails.map BitVec.toNat).filter (fun e => bits e 8 8 = d && testedKind d (e % 16))
      let u := es.foldl (fun s e => s.foundBad 1 e) shown
      let differs := (9 ≤ d ∧ r.lsig ≠ Config.golden d false) ∨ r.msig ≠ Config.golden d true
      (¬ differs → s.quickBist r = shown) ∧
      (differs → s.quickBist r = u.setFld Fd.BIST_QUICK_FAIL (shown.fld Fd.BIST_QUICK_FAIL ||| 2 ^ d))) ∧
    (∀ (k : Nat) (tests : List BistResult), s.boot.lift = some (k, true) →
      let ts := s.liftTiles k
      let a := (tests.filter (fun r => ts.any (fun t => r.index.val = 9 + t))).foldl State.quickBist s
      let u := a.liftDone k
      (u.routerBad = true → exec (.liftBistEnd tests) s =
        .next ((u.showPanel (u.fld Fd.MC_PANEL_TILES_EXCL_ROW)).refuseStage3 0x0E21)) ∧
      (u.routerBad = false → (u.takeClass false).boot.refused = true → exec (.liftBistEnd tests) s = .next (u.takeClass false)) ∧
      (u.routerBad = false → (u.takeClass false).boot.refused = false →
        exec (.liftBistEnd tests) s = .next (State.nextLift (5 - k) (u.takeClass false)))) ∧
    (∀ count : BitVec 32, s.boot.xtal = 1 →
      exec (.xtalQualWindowEnd true count) s = .next (((s.setFld Fd.CLK_ROOT_STATUS_IOSC_CAL count.toNat).setFld
        Fd.CLK_ROOT_STATUS_XTAL_OK 1).setBoot { s.boot with xtal := 3, badWindow := false }) ∧
      exec (.xtalQualWindowEnd false count) s = .next ((s.setBoot { s.boot with xtal := 2 }).log 0x0D01)) ∧
    (s.boot.xtal = 2 → exec .xtalRetryTimer s = .next (s.setBoot { s.boot with xtal := 0 })) ∧
    (∀ count : BitVec 32, s.boot.xtal = 3 →
      let cal := s.fld Fd.CLK_ROOT_STATUS_IOSC_CAL
      let good := cal * 995 ≤ count.toNat * 1000 ∧ count.toNat * 1000 ≤ cal * 1005
      let u := (s.satFld Fd.CLK_ROOT_STATUS_XTAL_FAILS).setBoot { s.boot with badWindow := true }
      (good → exec (.xtalMonitorWindowEnd count) s = .next (s.setBoot { s.boot with badWindow := false })) ∧
      (¬ good → s.boot.badWindow = false → exec (.xtalMonitorWindowEnd count) s = .next u) ∧
      (¬ good → s.boot.badWindow = true → exec (.xtalMonitorWindowEnd count) s = .next u.loseCrystal)) ∧
    (s.isSet Fd.CLK_ROOT_STATUS_XTAL_OK = true → s.isSet Fd.CLK_ROOT_STATUS_PLL_LOCK = false → s.boot.pllTries < 4 →
      exec (.pllLock true) s = .next ((List.range 8).foldl (fun s d =>
        if s.domHz d = 0 then s else (s.setFld (Fd.CLK_DOM_CTL_SRC d) 1).aim d (nominalGoal d))
        (s.setFld Fd.CLK_ROOT_STATUS_PLL_LOCK 1)) ∧
      exec (.pllLock false) s = .next ((s.setBoot { s.boot with pllTries := s.boot.pllTries + 1 }).log 0x0D03)) ∧
    (∀ d : Fin 8,
      let k := d.val
      let f := s.domHz k
      let g := s.domGoal k
      let goal := goalHz g
      (s.isSet (Fd.CLK_DOM_CTL_RAMPING k) = true →
        (g.2.2 = true →
          let f' := if f < goal then min goal (f + f / 16) else max goal (f - f / 16)
          let u := s.setBoot { s.boot with freq := s.boot.freq.set k f' }
          (f' ≠ goal → exec (.domainRampStep d) s = .next u) ∧
          (f' = goal → exec (.domainRampStep d) s = .next (u.setFld (Fd.CLK_DOM_CTL_RAMPING k) 0))) ∧
        (g.2.2 = false →
          (f * 15 ≤ goal * 16 → exec (.domainRampStep d) s = .next (((s.setBoot { s.boot with freq := s.boot.freq.set k goal }).setFld
            (Fd.CLK_DOM_CTL_RAMPING k) 0).setFld (Fd.CLK_DOM_CTL_SRC k) 0).recovered) ∧
          (goal * 16 < f * 15 → exec (.domainRampStep d) s =
            .next (s.setBoot { s.boot with freq := s.boot.freq.set k (max goal (f - f / 16)) })))) ∧
      (s.isSet (Fd.CLK_DOM_CTL_RAMPING k) = false → exec (.domainRampStep d) s = .next s) ∧
      (∀ count : BitVec 32, s.isSet Fd.CLK_ROOT_STATUS_XTAL_OK = true → exec (.freqCountGate d count) s =
        .next (s.setFld (Fd.CLK_FCNT_KHZ k) (if f = 0 then 0 else count.toNat)))) ∧
    (∀ num den : BitVec 16, s.boot.done1 = true →
      let n := num.toNat
      let m := den.toNat
      let ratio (u : State) (a b : Nat) : State :=
        let w := (u.setFld (Fd.CLK_DOM_CTL_NUM 0) a).setFld (Fd.CLK_DOM_CTL_DEN 0) b
        if s.boot.coreSet then w else w.aimCore a b
      (m = 0 → exec (.coreRatioWrite num den) s = .next (s.log 0x0F04)) ∧
      (m ≠ 0 → n ≠ 0 → 375000000 * n ≤ 12000000000 * m → 12000000000 * m ≤ 1500000000 * n →
        exec (.coreRatioWrite num den) s = .next (ratio s n m)) ∧
      (m ≠ 0 → (n = 0 ∨ 1500000000 * n < 12000000000 * m) →
        exec (.coreRatioWrite num den) s = .next (ratio (s.log 0x0F04) 8 1)) ∧
      (m ≠ 0 → n ≠ 0 → 12000000000 * m < 375000000 * n → exec (.coreRatioWrite num den) s = .next (ratio (s.log 0x0F04) 32 1))) ∧
    (∀ tile : Fin 36,
      (bitAt s.boot.liveTiles tile.val = true → s.boot.droop.contains tile.val = false → exec (.droopDetect tile) s =
        .next ((s.setBoot { s.boot with droop := s.boot.droop ++ [tile.val] }).incFld (Fd.PWR_TILE_DROOPS tile.val))) ∧
      exec (.droopRecover tile) s = .next (s.setBoot { s.boot with droop := s.boot.droop.filter (· ≠ tile.val) }))

/-- R605 to R607: the control of power and heat. R597 to R601: settings checked and retrained. R602, R604: the compute-part reset and bring-up. R653,
R656, R660, R662: the carrier. -/
def Obligations.PowerAndCarrier : Prop :=
  ∀ s : State,
    (s.boot.done0 = true →
      (∀ (panelW dimmW : BitVec 16) (hottest : BitVec 8),
        let a := ((s.setFld Fd.PWR_IN_P_PANEL_W panelW.toNat).setFld Fd.PWR_IN_P_DIMM_W dimmW.toNat).setFld Fd.PWR_THERM_TJ_MAX hottest.toNat
        let b := (List.range 36).foldl (fun s t =>
          if hottest.toNat < s.fld (Fd.PWR_TILE_TEMP t) then s.setFld (Fd.PWR_TILE_TEMP t) hottest.toNat else s) a
        let cap := if s.isSet Fd.PWR_STAT_COOL_LOW then min (s.fld Fd.PWR_CAP_CAP_W) (s.fld Fd.PWR_CAP_COOL_CAP_W)
          else s.fld Fd.PWR_CAP_CAP_W
        let above := decide (cap < panelW.toNat)
        let hot := decide (s.fld Fd.PWR_THERM_TJ_THROTTLE ≤ hottest.toNat)
        let d := (((b.flagFld Fd.PWR_STAT_CAPPING above).flagFld Fd.PWR_STAT_THROTTLE hot).episode 1 above 0x0F01).episode 2 hot 0x0F02
        let g := s.domGoal 0
        (above = true ∨ hot = true → exec (.powerControlTick panelW dimmW hottest) s =
          .next ((d.setBoot { d.boot with coreSet := true }).aimCore (lowerGoal g).1 (lowerGoal g).2).holdOrGo) ∧
        (above = false → hot = false → panelW.toNat * 100 ≤ cap * 97 → exec (.powerControlTick panelW dimmW hottest) s =
          .next ((d.setBoot { d.boot with coreSet := true }).aimCore (raiseGoal g).1 (raiseGoal g).2).holdOrGo) ∧
        (above = false → hot = false → cap * 97 < panelW.toNat * 100 →
          exec (.powerControlTick panelW dimmW hottest) s = .next d.holdOrGo)) ∧
      (∀ (tile : Fin 36) (temp : BitVec 8),
        let a := s.setFld (Fd.PWR_TILE_TEMP tile.val) temp.toNat
        let u := a.setFld Fd.PWR_THERM_TJ_MAX (max (a.fld Fd.PWR_THERM_TJ_MAX) temp.toNat)
        (u.fld Fd.PWR_THERM_TJ_TRIP ≤ temp.toNat → exec (.tileTempTrip tile temp) s = .next ((u.log 0x0F03).raiseCpr 5)) ∧
        (temp.toNat < u.fld Fd.PWR_THERM_TJ_TRIP → exec (.tileTempTrip tile temp) s = .next u)) ∧
      (∀ (inlet : BitVec 8) (flow : BitVec 16),
        let low := decide (45 < inlet.toNat) || decide (flow.toNat < 160)
        let severe := decide (50 < inlet.toNat) || decide (flow.toNat < 100)
        let u := ((((s.setFld Fd.PWR_THERM_INLET_C inlet.toNat).setFld Fd.PWR_THERM_FLOW_DLPM flow.toNat).setFld Fd.PWR_STAT_COOL_LOW
          (b2n low)).episode 6 low 0x0F06).episode 12 (decide (inlet.toNat < 20)) 0x0F0C
        exec (.coolantSample inlet flow) s =
          .next (u.setBoot { u.boot with coolTimer := severe, coolTrip := u.boot.coolTrip && severe }).holdOrGo) ∧
      exec .railFault s = .next ((s.log 0x0F08).raiseCpr 6) ∧
      (∀ unit : Fin 24,
        (s.dram.overdraw.contains unit.val = false → exec (.dimmOverdraw unit) s =
          .next (({ s with dram := { s.dram with overdraw := s.dram.overdraw ++ [unit.val] } } : State).log 0x0F0B)) ∧
        (bitAt (s.fld Fd.PWR_CARRIER_DIMM_OFF) unit.val = false → exec (.dimmFuseOpen unit) s =
          .next (((s.putBit Fd.PWR_CARRIER_DIMM_OFF unit.val true).setFld (Fd.CH_STAT_STATE .far unit.val) 5).log 0x0F0B))) ∧
      (s.isSet Fd.PWR_CARRIER_LEAK = false →
        exec .leakDetect s = .next (((s.setFld Fd.PWR_CARRIER_LEAK 1).log 0x0F0A).raiseCpr 5)) ∧
      (∀ addr : BitVec 7, exec (.i3cAddressAssign addr) s = .next { s with trust := { s.trust with i3c := some addr } })) ∧
    (s.boot.coolTimer = true → exec .coolantTripTimer s =
      .next (((s.setBoot { s.boot with coolTimer := false, coolTrip := true }).log 0x0F03).raiseCpr 5)) ∧
    (s.boot.powered = true →
      (∀ da : BitVec 16,
        let u := s.setFld Fd.PWR_IN_IIN_DA da.toNat
        (2150 ≤ da.toNat → s.boot.dropped ≠ 4 → exec (.iinLimitReached da) s =
          .next (((u.setBoot { s.boot with dropped := 4 }).setFld Fd.PWR_STAT_IIN_LIMIT 1).log 0x0F07)) ∧
        (da.toNat < 2150 ∨ s.boot.dropped = 4 → exec (.iinLimitReached da) s = .next u) ∧
        (da.toNat < 2050 → exec (.iinLimitClear da) s = .next (u.setBoot { s.boot with
          dropped := if s.boot.dropped = 4 then 8 else if s.boot.dropped = 8 then 16 else 0 })) ∧
        (2050 ≤ da.toNat → exec (.iinLimitClear da) s = .next u)) ∧
      (∀ (p : Port) (watts : BitVec 8), bitAt (s.fld Fd.PWR_CARRIER_CAGE_PRES) p.val = false →
        let u := s.putBit Fd.PWR_CARRIER_CAGE_PRES p.val true
        (watts.toNat ≤ 12 → exec (.cableSeated p watts) s = .next (u.putBit Fd.PWR_CARRIER_CAGE_PWR_OFF p.val false)) ∧
        (12 < watts.toNat → exec (.cableSeated p watts) s = .next (u.cutCable p.val)))) ∧
    (∀ p : Port, bitAt (s.fld Fd.PWR_CARRIER_CAGE_PRES) p.val = true →
      exec (.cableRemoved p) s = .next ((s.putBit Fd.PWR_CARRIER_CAGE_PRES p.val false).portDark p.val) ∧
      (bitAt (s.fld Fd.PWR_CARRIER_CAGE_PWR_OFF) p.val = false → exec (.cableOverdraw p) s = .next (s.cutCable p.val))) ∧
    (∀ unit : Fin 24, exec (.dimmOverdrawClear unit) s =
      .next { s with dram := { s.dram with overdraw := s.dram.overdraw.filter (· ≠ unit.val) } }) ∧
    exec .leakClear s = .next (s.setFld Fd.PWR_CARRIER_LEAK 0).holdOrGo ∧
    (∀ u : SettingUnit, s.fld Fd.PWR_STAGE_STAGE = 3 → s.isSet Fd.MC_SET_CTL_BG_CHECK_EN = true → s.unitInUse u = true →
      ∀ o : UnitCheck,
      let k := s.settingsOf u
      let outside := ∃ n ∈ k.2, (s.setting k.1 n).covers o.cond = false
      let many := ∃ n, s.rateLimit u = some n ∧ n < o.rate
      let bad := outside ∨ many ∨ o.margin = false
      (¬ bad → o.heavy = false → exec (.bgSettingCheck u o) s = .next s) ∧
      (¬ bad → o.heavy = true → exec (.bgSettingCheck u o) s = .next (k.2.foldl (fun s n =>
        if bits (s.setting k.1 n).tag.toNat 50 2 = 0 then s.heavySetting k.1 n else s) s)) ∧
      (bad → s.boot.marked.contains u = true ∨ s.boot.retraining = some u → exec (.bgSettingCheck u o) s = .next s) ∧
      (bad → s.boot.marked.contains u = false → s.boot.retraining ≠ some u → exec (.bgSettingCheck u o) s =
        .next (s.setBoot { s.boot with marked := s.boot.marked ++ [u] }).showMarked)) ∧
    (∀ u rest, s.boot.marked = u :: rest → s.quiet = true → s.boot.retraining = none →
      (s.unitInUse u = false → exec .quietWindowRetrain s = .next (s.setBoot { s.boot with marked := rest }).showMarked) ∧
      (s.unitInUse u = true →
        let a := ((s.setBoot { s.boot with marked := rest, retraining := some u }).showMarked).satFld Fd.MC_SET_STAT_RETRAINS
        (∀ p, u = .port p → exec .quietWindowRetrain s = .next (a.setFld (Fd.JL_P_STAT_STATE p.val) 3)) ∧
        ((∀ p, u ≠ .port p) → exec .quietWindowRetrain s = .next a))) ∧
    (∀ u, s.boot.retraining = some u →
      let idle := s.setBoot { s.boot with retraining := none }
      let a := match u with
        | .port p => if idle.portState p.val = 1 ∧ idle.fld (Fd.JL_P_STAT_GEN p.val) ≠ 0 then idle.portUpNow p.val else idle
        | _ => idle
      let n := a.boot.fails.getD (settingCode u) 0 + 1
      let clear (a : State) : State := a.setBoot { a.boot with fails := SMap.erase a.boot.fails (settingCode u) }
      let k := a.settingsOf u
      ∀ c : UnitCond,
      let renewed := k.2.foldl (fun s n => s.measure k.1 n c 1) a
      exec (.retrainDone true c) s = .next (clear renewed) ∧
      (∀ t, u = .tile t → exec (.retrainDone false c) s = .next (clear renewed)) ∧
      ((∀ t, u ≠ .tile t) →
        (n < 2 → exec (.retrainDone false c) s = .next (a.setBoot { a.boot with fails := a.boot.fails.set (settingCode u) n })) ∧
        (2 ≤ n → exec (.retrainDone false c) s = .next ((clear a).retireUnit u)))) ∧
    (s.boot.done1 = true →
      (s.fld Fd.PWR_STAGE_STAGE = 3 → exec .cprRequest s = .next (s.raiseCpr 4)) ∧
      (s.fld Fd.PWR_STAGE_STAGE ≠ 3 → exec .cprRequest s = .next (s.log 0x0D09)) ∧
      exec .cprRelease s = .next (s.setFld Fd.PWR_CPR_RELEASE 1).holdOrGo) ∧
    (s.cpr = 2 → exec .computeBringupStep s =
      .next { (s.setFld Fd.MC_PANEL_DIES_DIE_UP (s.fld Fd.MC_PANEL_DIES_DIE_UP ||| 0x1E0)).showStacks with cpr := 3 }) ∧
    (s.cpr = 3 → s.nearResolved = true → s.isSet Fd.ID_RNG_HEALTHY = true →
      exec .computeBringupStep s = .next ((s.setMap .near 0).mapTier .near).bringUpLifts) ∧
    (
      let up (u : State) : State := { u.setFld Fd.PWR_STAGE_COMPUTE_UP 1 with cpr := 0, cycle := 0, edges := 0, lost := [] }
      let ends (u : State) : State :=
        ((if u.fld Fd.PWR_STAGE_STAGE = 3 then u else (u.setFld Fd.PWR_STAGE_STAGE 3).stageEnds).setFld
          Fd.CLK_ROOT_STATUS_RECOVERY 0).beginReplays
      (s.cpr = 5 → exec .computeBringupDone s = .next (ends (up s.loseWheels.wheelProceed))) ∧
      (s.cpr = 0 → s.computeUp = false → s.boot.liftsEnded = 6 → s.boot.lift = none → s.boot.refused = false →
        exec .computeBringupDone s = .next (ends (up s))))

/-- R620: the SVN fuses. R616: the health test. R631: the watchdog. R639: the checks of a load at its source. R633, R634: a group's results. R641: the
snapshot in BAR0 and the pages over MCTP. The pass bit of a test that was not run is a free value (log entry 2). -/
def Obligations.TrustEvents : Prop :=
  (∀ s : State, s.boot.done1 = true →
    (s.isSet Fd.ID_SVN_COMMIT = false →
      (s.fw.run ≠ 0 → s.fld Fd.ID_SVN_SVN < fwSvn s.fw.running → exec .svnCommit s = .next (s.setFld Fd.ID_SVN_COMMIT 1)) ∧
      (s.fw.run = 0 ∨ fwSvn s.fw.running ≤ s.fld Fd.ID_SVN_SVN → exec .svnCommit s = .next (s.log 0x0E06))) ∧
    (
      let n := s.fld Fd.MC_FWB_STAT_LEN
     let a := s.fld Fd.MC_FWB_SRC_SRC
     let kind := s.fld Fd.MC_FWB_CTL_KIND
     let u : State := { s with fw := { s.fw with seq := s.fw.seq + 1 } }
     let v := ((u.setFld Fd.MC_FWB_COUNT_DONE 0).setFld Fd.MC_FWB_COUNT_FAILED 0).setFld Fd.MC_FWB_STAT_FAULT 0
     let most := if kind = 0 then 2 ^ 23 else 2 ^ 26
     let seen := n = 0 ∨ v.inOpenWindow (0x3FFFF * 2 ^ 46 + a) n = true
     let bs := v.readBytes a n
     let x : FwImg := { image := v.fw.seq.toNat, kind := kind, total := n, dst := s.fld Fd.MC_FWB_CTL_DST, crc := crc32 bs }
     s.isSet Fd.MC_FWB_CTL_START = false →
      v.fld Fd.MC_FWB_SRC_SRC = a → v.fld Fd.MC_FWB_STAT_LEN = n → v.fld Fd.MC_FWB_CTL_KIND = kind →
      v.fld Fd.MC_FWB_CTL_DST = s.fld Fd.MC_FWB_CTL_DST →
      (most < n → exec .fwLoadStart s = .next (v.failLoad 0x0E71)) ∧
      (n ≤ most → ¬ seen → exec .fwLoadStart s = .next (v.failLoad 0x0502)) ∧
      (n ≤ most → seen → exec .fwLoadStart s = .next (v.placeLoad x bs)))) ∧
  (∀ s : State,
    (s.isSet Fd.ID_SVN_COMMIT = true → exec .svnFuseDone s =
      .next ((s.setHeld Fd.ID_SVN_SVN (max (s.fld Fd.ID_SVN_SVN) (fwSvn s.fw.running))).setFld Fd.ID_SVN_COMMIT 0)) ∧
    (s.boot.powered = true →
      let good := s.setFld Fd.ID_RNG_HEALTHY 1
      let bad := (s.setFld Fd.ID_RNG_HEALTHY 0).satFld Fd.ID_RNG_FAILS
      let n := s.boot.rngFails + 1
      let v := bad.setBoot { s.boot with rngFails := n }
      exec (.rngHealthTest true) s = .next ((good.setBoot { s.boot with rngFails := 0 }).answerStalled) ∧
      (n = 3 → exec (.rngHealthTest false) s = .next (v.log 0x0E61)) ∧
      (n ≠ 3 → exec (.rngHealthTest false) s = .next v)) ∧
    (s.mgmtStop = true → s.fw.run ≠ 0 →
      exec (.wdtKick .controller) s = .next s.resumeMgmt ∧
      (s.boot.done1 = true → exec (.wdtKick .host) s = .next s.resumeMgmt)) ∧
    (s.mgmtStop = false → exec (.wdtKick .controller) s = .next s) ∧
    (s.isSet Fd.MC_WDT_EN = true →
      let u : State := { s with mgmtStop := true }
      let v := ((u.setFld Fd.MC_WDT_HUNG 1).incFld Fd.MC_WDT_EXPIRIES).log 0x0E41
      (v.fld Fd.MC_FWB_STAT_STATE ≠ 1 → exec .wdtExpiry s = .next (v.runFirmware false)) ∧
      (v.fld Fd.MC_FWB_STAT_STATE = 1 → exec .wdtExpiry s = .next ((v.failLoad 0x0E41).runFirmware false))) ∧
    (s.boot.done0 = true →
      let r := s.assemble
      let sent (u : State) (b : List Byte) (p : BitVec 16) : State := { u with out := u.out ++ [.reply 2 (pageOf b p.toNat)] }
      exec .resyncSnapshotRefresh s =
        .next { r.2 with trust := { r.2.trust with bar0 := r.1, snap := r.2.trust.snap + 2 } } ∧
      exec (.mctpResyncPage 0) s = .next (sent { r.2 with trust := { r.2.trust with mctp := r.1 } } r.1 0) ∧
      (∀ p : BitVec 16, p ≠ 0 → exec (.mctpResyncPage p) s = .next (sent s s.trust.mctp p)))) ∧
  (∀ (s : State) (x : BistRun) (rs : List BistResult),
    let ds := rs.map (fun r => r.index.val)
    let rind := x.todo.filter (fun g => g.all (· < 9))
    let tiles := x.todo.filter (fun g => g.all (9 ≤ ·))
    let r := rs.foldl (fun (p : State × BistRun) q => p.1.bistResult p.2 q) (s, x)
    let y : BistRun := { r.2 with todo := r.2.todo.filter (fun g => g ≠ ds) }
    s.trust.bist = some x →
    (ds ∈ rind ∨ tiles.head? = some ds →
      (y.todo ≠ [] → exec (.bistGroupDone rs) s = .next (r.1.setTrust { r.1.trust with bist := some y })) ∧
      (y.todo = [] → exec (.bistGroupDone rs) s = .next ((((r.1.setTrust { r.1.trust with bist := none }).setFld
        Fd.BIST_STAT_RUNNING 0).finishCmd y.k (if y.failed = 0 then 0 else 0x0E32) y.failed).holdOrGo))) ∧
    (ds ∉ rind → tiles.head? ≠ some ds → exec (.bistGroupDone rs) s = .next s))

/-- R621 to R623: the requests, the algorithms, slot 0's chain and the measurements. R616: a request that needs random numbers waits while the
source fails. The message layout is PRESUMED from DMTF DSP0274 (log entry 53); signatures, nonces and key data are free values (log entry 2). -/
def Obligations.SpdmRequests : Prop :=
  (∀ (m : Spdm) (s : State), s.hears m = false →
    exec (.getVersion m) s = .next s ∧ exec (.getCapabilities m) s = .next s ∧ exec (.negotiateAlgorithms m) s = .next s ∧
    exec (.getDigests m) s = .next s ∧ exec (.getCertificate m) s = .next s ∧ exec (.challenge m) s = .next s ∧
    exec (.getMeasurements m) s = .next s ∧ exec (.keyExchange m) s = .next s ∧ exec (.finish m) s = .next s ∧
    exec (.heartbeat m) s = .next s ∧ exec (.keyUpdate m) s = .next s ∧ exec (.endSession m) s = .next s) ∧
  (∀ (m : Spdm) (s : State), s.boot.done0 = true → (2 ≤ m.transport.val ∨ 12 + m.body.length ≤ 4096) →
    let t := m.transport.val
    let p := SMap.getD s.trust.phase t 0
    let v := SMap.find s.trust.vers t
    (m.version = 0x10 → exec (.getVersion m) s = .next ((s.setTrust { s.trust with
      vers := SMap.erase s.trust.vers t, phase := s.trust.phase.set t 1,
      sessions := s.trust.sessions.filter (fun e => e.2.transport ≠ t) }).answer m 0x04 0 0 [0, 2, 0x00, 0x11, 0x00, 0x12])) ∧
    (m.version ≠ 0x10 → exec (.getVersion m) s = .next (s.refuseSpdm m 0x41)) ∧
    (p = 0 → exec (.getCapabilities m) s = .next (s.refuseSpdm m 0x04)) ∧
    (p ≠ 0 → m.version = 0x11 ∨ m.version = 0x12 →
      let u := s.setTrust { s.trust with vers := s.trust.vers.set t m.version.toNat, phase := s.trust.phase.set t 2 }
      exec (.getCapabilities m) s = .next ({ u with free := u.free + 1 }.answer m 0x61 0 0 ([0] ++ u.freeBytes 1 ++ [0, 0]
        ++ leBytes 4 0x62D6 ++ (if m.version = 0x12 then leBytes 4 4096 ++ leBytes 4 4096 else [])))) ∧
    (p < 2 → exec (.negotiateAlgorithms m) s = .next (s.refuseSpdm m 0x04)) ∧
    (2 ≤ p → v ≠ some m.version.toNat → exec (.negotiateAlgorithms m) s = .next (s.refuseSpdm m 0x41)) ∧
    (
      let b := m.body
     let offered := (List.range m.param1.toNat).filterMap (fun i =>
      let o := 28 + 4 * i
      let ty := numAt b o 1
      let ours := if ty = 2 then 0x10 else if ty = 3 then 0x02 else if ty = 5 then 0x01 else 0
      if 2 ≤ ty ∧ ty ≤ 5 ∧ o + 4 ≤ b.length then some (leBytes 1 ty ++ [0x20] ++ leBytes 2 (numAt b (o + 2) 2 &&& ours)) else none)
     let n := offered.length
     2 ≤ p → v = some m.version.toNat → exec (.negotiateAlgorithms m) s =
      .next ((s.setTrust { s.trust with phase := s.trust.phase.set t 3 }).answer m 0x63 n 0 (leBytes 2 (36 + 4 * n)
        ++ leBytes 1 (numAt m.body 2 1 &&& 1) ++ [0] ++ leBytes 4 0x4 ++ leBytes 4 (numAt m.body 4 4 &&& 0x80)
        ++ leBytes 4 (numAt m.body 8 4 &&& 0x2) ++ List.replicate 16 0 ++ offered.flatten))) ∧
    (p < 3 → (m.session = none ∨ m.verified = false) →
      exec (.challenge m) s = .next (s.refuseSpdm m 0x04) ∧ exec (.heartbeat m) s = .next (s.refuseSpdm m 0x04)) ∧
    (s.spdmError m = 0 →
      let chain := Config.certChain
      let off := numAt m.body 0 2
      let part := (chain.drop off).take (numAt m.body 2 2)
      let kept (c : Nat) := s.setTrust { s.trust with stalled := s.trust.stalled ++ [(c, m)] }
      (chain = [] → exec (.getDigests m) s = .next (s.refuseSpdm m 0x05)) ∧
      (chain = [] → m.param1 = 0 → exec (.getCertificate m) s = .next (s.refuseSpdm m 0x05)) ∧
      (chain ≠ [] → exec (.getDigests m) s = .next (s.answer m 0x01 0 1 (sha384 chain))) ∧
      (m.param1 = 0 → off < chain.length → exec (.getCertificate m) s = .next (s.answer m 0x02 0 0
        (leBytes 2 part.length ++ leBytes 2 (chain.length - off - part.length) ++ part))) ∧
      (m.param1 ≠ 0 → exec (.getCertificate m) s = .next (s.refuseSpdm m 0x01)) ∧
      (s.isSet Fd.ID_RNG_HEALTHY = false → exec (.challenge m) s = .next (kept 0x83) ∧
        exec (.getMeasurements m) s = .next (kept 0xE0) ∧ exec (.keyExchange m) s = .next (kept 0xE4)) ∧
      (s.isSet Fd.ID_RNG_HEALTHY = true →
        let d := s.chainDigest
        let e := { d.2 with free := d.2.free + 32 }
        (m.param1 = 0 → exec (.challenge m) s = .next ({ e with free := e.free + 96 }.answer m 0x03 0 1
          (d.1 ++ d.2.freeBytes 32 ++ s.measureSummary m.param2.toNat ++ [0, 0] ++ e.freeBytes 96))) ∧
        (
          let r := s.measureAll [1, 2, 3, 4, 5, 6]
         let n := { s with free := s.free + 32 }
         let g := { n with free := n.free + 96 }
         m.param2 = 0xFF → m.param1.getLsbD 0 = true → exec (.getMeasurements m) s =
          .next (g.answer m 0x60 0 0 (leBytes 1 6 ++ leBytes 3 r.length ++ r ++ s.freeBytes 32 ++ [0, 0] ++ n.freeBytes 96))) ∧
        (∀ i : Nat, i = m.param2.toNat → 1 ≤ i → i ≤ 6 → m.param1.getLsbD 0 = false →
          let r := s.measureBlock i
          let n := { s with free := s.free + 32 }
          exec (.getMeasurements m) s =
            .next (n.answer m 0x60 0 0 (leBytes 1 1 ++ leBytes 3 r.length ++ r ++ s.freeBytes 32 ++ [0, 0] ++ []))) ∧
        (
          let x := { s with free := s.free + 33 }
         let y := { x with free := x.free + 96 }
         let g := { y with free := y.free + 144 }
         let a := s.freeBytes 33
         m.param2 = 0 → ∀ n : Nat, (List.range 4).find? (fun n => (SMap.find s.trust.sessions n).isNone) = some n →
          exec (.keyExchange m) s = .next ((g.setTrust { s.trust with
            sessions := s.trust.sessions.set n { transport := t, live := false } }).answer m 0x64 (leNat (a.take 1)) 0
              (leBytes 2 n ++ [0, 0] ++ a.drop 1 ++ x.freeBytes 96 ++ s.measureSummary m.param1.toNat ++ [0, 0] ++ y.freeBytes 144))) ∧
        ((List.range 4).find? (fun n => (SMap.find s.trust.sessions n).isNone) = none →
          exec (.keyExchange m) s = .next (s.refuseSpdm m 0x0A))) ∧
      (∀ n x, s.session m = some (n, x) →
        (x.live = true →
          exec (.heartbeat m) s = .next (s.answer m 0x68 0 0 []) ∧
          (1 ≤ m.param1.toNat → m.param1.toNat ≤ 3 →
            exec (.keyUpdate m) s = .next (s.answer m 0x69 m.param1.toNat m.param2.toNat [])) ∧
          (m.param1 = 0 ∨ 3 < m.param1.toNat → exec (.keyUpdate m) s = .next (s.refuseSpdm m 0x01)) ∧
          exec (.endSession m) s =
            .next ((s.setTrust { s.trust with sessions := SMap.erase s.trust.sessions n }).answer m 0x6C 0 0 [])) ∧
        (x.live = false → exec (.heartbeat m) s = .next (s.refuseSpdm m 0x04) ∧
          exec (.keyUpdate m) s = .next (s.refuseSpdm m 0x04) ∧ exec (.endSession m) s = .next (s.refuseSpdm m 0x04)))) ∧
    (∀ n x, s.session m = some (n, x) →
      (x.live = false → m.verified = true → exec (.finish m) s =
        .next ((s.setTrust { s.trust with sessions := s.trust.sessions.set n { x with live := true } }).answer m 0x65 0 0 [])) ∧
      (x.live = false → m.verified = false → exec (.finish m) s =
        .next ((s.setTrust { s.trust with sessions := SMap.erase s.trust.sessions n }).refuseSpdm m 0x06)) ∧
      (x.live = true → exec (.finish m) s = .next (s.refuseSpdm m 0x04))) ∧
    (s.session m = none → exec (.finish m) s = .next (s.refuseSpdm m 0x04)))

/-- R59, R478: what issues at all. R65, R66, R284: the faults of the word itself. R63: the wait. R471: a guard that is false. R105, R133: a fault held or
raised. R671, R526: a record of the fault log and its vector. -/
def Obligations.IssueChecks : Prop :=
  (∀ (t : Tid) (w : IWord) (s : State),
    let x := s.thread t.code
    let pc := x.regs.pc
    let here := tileBase (tileOf t.code) + pc
    let form := (scalarForm w 1).ok w
    let regs := scalarReads w ++ [gR w.a.toNat]
    ∀ i ∈ [Instr.add t w, .sub t w, .mul t w, .and t w, .or t w, .xor t w, .shl t w, .shr t w, .sar t w, .smin t w, .smax t w,
        .umin t w, .umax t w],
      (s.live t.code = false → exec i s = .next s) ∧
      (∀ f, s.live t.code = true → x.due = some f → exec i s = .next (s.stopThread t.code f.1 f.2)) ∧
      (s.live t.code = true → x.due = none →
        (0x4000000 ≤ pc → x.ckpts = [] → exec i s = .next (s.stopThread t.code 0x0102 pc)) ∧
        (pc < 0x4000000 → s.poisoned here 8 = true → exec i s = .next (s.raise t.code 0x0510 w.size)) ∧
        (pc < 0x4000000 → s.poisoned here 8 = false →
          (form = false → exec i s = .next (s.raise t.code 0x0101 w.size)) ∧
          (form = true → w.x = true → 0x4000000 ≤ pc + 8 → exec i s = .next (s.raise t.code 0x0102 w.size)) ∧
          (form = true → (w.x = false ∨ pc + 8 < 0x4000000 ∧ s.poisoned (here + 8) 8 = false) →
            x.busy (guardRegs w ++ regs) = true → exec i s = .next (s.waitIn t.code .waitData)))) ∧
      (s.Ready t w form false regs → ¬ s.Enabled t w → exec i s = .next (s.retire t w id))) ∧
  (∀ (t code n : Nat) (s : State),
    let x := s.thread t
    (x.ckpts = [] → s.raise t code n = s.stopThread t (BitVec.ofNat 16 code) x.regs.pc ∧
      (x.owner = none →
        let f := x.regs.held.getD (BitVec.ofNat 16 code, x.regs.pc)
        ((s.raise t code n).thread t).st = .stopped ∧
        ((s.raise t code n).thread t).fault = f.1 ∧ ((s.raise t code n).thread t).faultPc = f.2 / 8 % 2 ^ 24)) ∧
    (x.ckpts ≠ [] →
      let y := (s.raise t code n).thread t
      y.st = .ready ∧ y.regs.pc = x.regs.pc + n ∧ y.ckpts = x.ckpts ∧
      (x.regs.held = none → y.regs.held = some (BitVec.ofNat 16 code, x.regs.pc)) ∧
      (∀ h, x.regs.held = some h → y.regs.held = some h))) ∧
  (∀ (s : State) (code source detail : Nat),
    let h := s.fld Fd.HST_FLOG_PTR_FHEAD
    let tl := s.fld Fd.HST_FLOG_PTR_FTAIL
    let n := s.flogCount + 1
    let u := s.logRec code source detail
    let port := s.fld Fd.HST_IRQ_CTL_EVT_PORT
    let vec := s.fld Fd.HST_IRQ_CTL_FLOG_VEC
    code < 2 ^ 16 → source < 2 ^ 8 → detail < 2 ^ 40 → s.fld Fd.JOB_STEP_STEP < 2 ^ 32 → port < 2 →
    (∃ r, SMap.find u.flog h = some r ∧ bits r.toNat 0 16 = code ∧ bits r.toNat 16 8 = source ∧ bits r.toNat 24 40 = detail ∧
      bits r.toNat 64 32 = s.fld Fd.JOB_STEP_STEP ∧ bits r.toNat 96 32 = n.toNat) ∧
    (∀ k, k ≠ h → SMap.find u.flog k = SMap.find s.flog k) ∧
    u.flogCount = n ∧ u.fld Fd.HST_FLOG_PTR_FHEAD = (h + 1) % 256 ∧
    ((h + 1) % 256 = tl → u.fld Fd.HST_FLOG_PTR_FTAIL = (tl + 1) % 256 ∧
      u.fld Fd.HST_FLOG_PTR_FOVER = (s.fld Fd.HST_FLOG_PTR_FOVER + 1) % 2 ^ 32) ∧
    ((h + 1) % 256 ≠ tl → u.fld Fd.HST_FLOG_PTR_FTAIL = tl ∧ u.fld Fd.HST_FLOG_PTR_FOVER = s.fld Fd.HST_FLOG_PTR_FOVER) ∧
    (s.isSet Fd.HST_IRQ_CTL_FLOG_VEC_EN = false → u.out = s.out ∧ u.msixPend = s.msixPend) ∧
    (s.isSet Fd.HST_IRQ_CTL_FLOG_VEC_EN = true →
      (s.vecMasked (port * 2048 + vec % 2048) = false → s.fld (Fd.HST_PORT_STAT_MODE port) ≠ 0 →
        u.out = s.out ++ [.msix port (vec % 2048)]) ∧
      (s.vecMasked (port * 2048 + vec % 2048) = true ∨ s.fld (Fd.HST_PORT_STAT_MODE port) = 0 →
        u.out = s.out ∧ u.msixPend = s.msixPend.set (port * 2048 + vec % 2048) true)))

/-- R14: the Reset column. R667: a fuse or flash field reads zero until its value is loaded. R59: no thread runs before a launch. That waiting
commands, memory and rings are empty is the model's choice where the spec gives none (log entry 3). -/
def Obligations.ResetMeets : Prop :=
  State.reset.MemWf ∧ State.reset.QueueWf ∧ State.reset.pending = [] ∧
  (∀ f : Fld, (∀ n, f.rst = .num n → State.reset.fld f = n) ∧ (f.rst = .fuse ∨ f.rst = .flash → State.reset.fld f = 0)) ∧
  (∀ t : Nat, State.reset.live t = false)

/-- The queue of the block is first in, first out: no command's effect reorders, drops or adds a waiting command, and no command stops the
block. So every waiting command stays well formed. -/
def Obligations.QueueFirstOut : Prop :=
  ∀ s : State, ∃ u, step s = .next u ∧ u.pending = s.pending.tail ∧ (s.QueueWf → u.QueueWf)

/-- The memory of the module is a list of address and byte pairs, addresses rising and no zero listed, so that equal memories are equal data (log
entry 3). The statement is about all 322 commands and the idle step. -/
def Obligations.MemoryCanonical : Prop :=
  ∀ s u : State, s.MemWf → step s = .next u → u.MemWf
end

