-- ==== Sys2Proof/Laws/Frame.lean ====
section
/-! SUPPORT. The state that an effect, an outcome or a preparation goes on from, and the frame lemmas of folds and choices that
the laws about the queue and about memory use. -/

namespace Sys2Proof.Machine

/-- The state an effect goes on from. -/
def Eff.st : Eff → State
  | .retire s => s
  | .jump _ s => s
  | .done s => s
  | .fault _ s => s
  | .wait _ s => s
  | .stop _ _ s => s

@[simp] theorem Eff.st_retire (s : State) : (Eff.retire s).st = s := (rfl)

@[simp] theorem Eff.st_jump (p : Nat) (s : State) : (Eff.jump p s).st = s := (rfl)

@[simp] theorem Eff.st_done (s : State) : (Eff.done s).st = s := (rfl)

@[simp] theorem Eff.st_fault (c : Nat) (s : State) : (Eff.fault c s).st = s := (rfl)

@[simp] theorem Eff.st_wait (x : TState) (s : State) : (Eff.wait x s).st = s := (rfl)

@[simp] theorem Eff.st_stop (c : BitVec 16) (p : Nat) (s : State) : (Eff.stop c p s).st = s := (rfl)

@[simp] theorem Eff.st_ite (c : Prop) [Decidable c] (a b : Eff) : (if c then a else b).st = if c then a.st else b.st := by split <;> rfl

/-- The state a receiver goes on from. -/
def Take.st : Take → State
  | .yes _ s => s
  | .no _ s => s

@[simp] theorem Take.st_yes (r : RecvFlow) (s : State) : (Take.yes r s).st = s := (rfl)

@[simp] theorem Take.st_no (n : Nat) (s : State) : (Take.no n s).st = s := (rfl)

@[simp] theorem Take.st_ite (c : Prop) [Decidable c] (a b : Take) : (if c then a else b).st = if c then a.st else b.st := by split <;> rfl

/-- The next state of an outcome, or the state before where there is none. -/
def outState (o : Host.Outcome State Fault Refusal) (d : State) : State :=
  match o with
  | .next s => s
  | _ => d

@[simp] theorem outState_next (s d : State) : outState (.next s) d = s := (rfl)

@[simp] theorem outState_ite (c : Prop) [Decidable c] (a b : Host.Outcome State Fault Refusal) (d : State) :
    outState (if c then a else b) d = if c then outState a d else outState b d := by split <;> rfl

@[simp] theorem ite_fst' {α : Type} (c : Prop) [Decidable c] (a b : State × α) : (if c then a else b).1 = if c then a.1 else b.1 := by split <;> rfl

@[simp] theorem ite_snd' {α : Type} (c : Prop) [Decidable c] (a b : α × State) : (if c then a else b).2 = if c then a.2 else b.2 := by split <;> rfl

@[simp] theorem ite_pending (c : Prop) [Decidable c] (a b : State) :
    (if c then a else b).pending = if c then a.pending else b.pending := by split <;> rfl

@[simp] theorem foldl_pending {α : Type} (g : State → α → State) (l : List α) (s : State)
    (h : ∀ s x, (g s x).pending = s.pending) : (l.foldl g s).pending = s.pending := by
  induction l generalizing s with
  | nil => rfl
  | cons a l ih => simp [List.foldl, ih, h]

@[simp] theorem foldl_fst_pending {α β : Type} (g : State × β → α → State × β) (l : List α) (a : State × β)
    (h : ∀ a x, (g a x).1.pending = a.1.pending) : (l.foldl g a).1.pending = a.1.pending := by
  induction l generalizing a with
  | nil => rfl
  | cons x l ih => simp [List.foldl, ih, h]

@[simp] theorem foldl_snd_pending {α β : Type} (g : β × State → α → β × State) (l : List α) (a : β × State)
    (h : ∀ a x, (g a x).2.pending = a.2.pending) : (l.foldl g a).2.pending = a.2.pending := by
  induction l generalizing a with
  | nil => rfl
  | cons x l ih => simp [List.foldl, ih, h]

/-- The state a preparation of pages goes on from. -/
def PutPrep.st : PutPrep → State
  | .ready s => s
  | .wait s => s
  | .fail s => s

@[simp] theorem PutPrep.st_ready (s : State) : (PutPrep.ready s).st = s := (rfl)

@[simp] theorem PutPrep.st_wait (s : State) : (PutPrep.wait s).st = s := (rfl)

@[simp] theorem PutPrep.st_fail (s : State) : (PutPrep.fail s).st = s := (rfl)

@[simp] theorem PutPrep.st_ite (c : Prop) [Decidable c] (a b : PutPrep) : (if c then a else b).st = if c then a.st else b.st := by split <;> rfl

end Sys2Proof.Machine
end

