-- ==== Sys2Proof/Laws/Memory.lean ====
section
/-! SUPPORT. The laws of byte memory: its canonical form is kept by writing and by clearing, and by folds and choices. -/

namespace Sys2Proof.Machine

/-- Every key of a sparse map is above a bound. -/
def SMap.above {α : Type} (k : Nat) : SMap α → Bool
  | [] => true
  | (k', _) :: m => k < k' && SMap.above k m

theorem SMap.rising_cons {α : Type} (k : Nat) (v : α) (m : SMap α) :
    SMap.rising ((k, v) :: m) = (SMap.above k m && SMap.rising m) := by
  induction m generalizing k v with
  | nil => rfl
  | cons e m ih =>
    obtain ⟨k', v'⟩ := e
    rw [ih k' v']
    simp only [SMap.rising, SMap.above]
    rw [ih k' v']
    cases h : decide (k < k')
    · simp
    · have h' : k < k' := of_decide_eq_true h
      have up : SMap.above k' m = true → SMap.above k m = true := by
        clear ih h
        induction m with
        | nil => intro _; rfl
        | cons f m ih =>
          intro g
          simp only [SMap.above, Bool.and_eq_true, decide_eq_true_eq] at g ⊢
          exact ⟨by omega, ih g.2⟩
      cases g : SMap.above k' m
      · simp
      · simp [up g]

theorem SMap.above_filter {α : Type} (k : Nat) (m : SMap α) (p : Nat × α → Bool) (h : SMap.above k m = true) :
    SMap.above k (m.filter p) = true := by
  induction m with
  | nil => rfl
  | cons e m ih =>
    simp only [SMap.above, Bool.and_eq_true, decide_eq_true_eq] at h
    simp only [List.filter]
    split
    · simp [SMap.above, h.1, ih h.2]
    · exact ih h.2

/-- A filtered map still has its keys rising. -/
theorem SMap.rising_filter {α : Type} (m : SMap α) (p : Nat × α → Bool) (h : SMap.rising m = true) :
    SMap.rising (m.filter p) = true := by
  induction m with
  | nil => rfl
  | cons e m ih =>
    obtain ⟨k, v⟩ := e
    rw [SMap.rising_cons, Bool.and_eq_true] at h
    simp only [List.filter]
    split
    · rw [SMap.rising_cons, SMap.above_filter _ _ _ h.1, ih h.2]; rfl
    · exact ih h.2

theorem SMap.above_set {α : Type} (b k : Nat) (v : α) (m : SMap α) (hb : b < k) (h : SMap.above b m = true) :
    SMap.above b (SMap.set m k v) = true := by
  induction m with
  | nil => simp [SMap.set, SMap.above, hb]
  | cons e m ih =>
    obtain ⟨k', v'⟩ := e
    simp only [SMap.above, Bool.and_eq_true, decide_eq_true_eq] at h
    simp only [SMap.set]
    split
    · simp [SMap.above, hb, h.2]
    · split
      · simp [SMap.above, hb, h]
      · simp [SMap.above, h.1, ih h.2]

theorem SMap.above_mono {α : Type} (a b : Nat) (m : SMap α) (hab : a ≤ b) (h : SMap.above b m = true) :
    SMap.above a m = true := by
  induction m with
  | nil => rfl
  | cons e m ih =>
    simp only [SMap.above, Bool.and_eq_true, decide_eq_true_eq] at h ⊢
    exact ⟨by omega, ih h.2⟩

/-- Putting an entry keeps the keys rising. -/
theorem SMap.rising_set {α : Type} (m : SMap α) (k : Nat) (v : α) (h : SMap.rising m = true) :
    SMap.rising (SMap.set m k v) = true := by
  induction m with
  | nil => rfl
  | cons e m ih =>
    obtain ⟨k', v'⟩ := e
    rw [SMap.rising_cons, Bool.and_eq_true] at h
    simp only [SMap.set]
    split
    · rename_i hk
      subst hk
      rw [SMap.rising_cons, h.1, h.2]; rfl
    · split
      · rename_i hk
        rw [SMap.rising_cons, SMap.rising_cons, h.1, h.2]
        simp [SMap.above, hk, SMap.above_mono _ _ _ (Nat.le_of_lt hk) h.1]
      · rw [SMap.rising_cons, ih h.2, SMap.above_set _ _ _ _ (by omega) h.1]; rfl

theorem SMap.all_set {α : Type} (m : SMap α) (k : Nat) (v : α) (p : Nat × α → Bool) (hv : p (k, v) = true) (h : m.all p = true) :
    (SMap.set m k v).all p = true := by
  induction m with
  | nil => simp [SMap.set, hv]
  | cons e m ih =>
    simp only [List.all_cons, Bool.and_eq_true] at h
    obtain ⟨k', v'⟩ := e
    simp only [SMap.set]
    split
    · simp only [List.all_cons, hv, h.2, Bool.and_self]
    · split
      · simp only [List.all_cons, hv, h.1, h.2, Bool.and_self]
      · simp only [List.all_cons, h.1, ih h.2, Bool.and_self]

/-- Writing one byte keeps memory in canonical form. -/
@[simp] theorem Memory.set_wf (m : Memory) (a : Nat) (b : Byte) (h : Memory.wf m = true) : Memory.wf (m.set a b) = true := by
  simp only [Memory.wf, Bool.and_eq_true] at h ⊢
  unfold Memory.set SMap.erase
  split
  · refine ⟨SMap.rising_filter _ _ h.1, ?_⟩
    have h2 := h.2
    simp only [List.all_eq_true, List.mem_filter] at h2 ⊢
    exact fun x hx => h2 x hx.1
  · rename_i hb
    exact ⟨SMap.rising_set _ _ _ h.1, SMap.all_set _ _ _ _ (decide_eq_true hb) h.2⟩

/-- Clearing a range keeps memory in canonical form. -/
@[simp] theorem Memory.clear_wf (m : Memory) (lo n : Nat) (h : Memory.wf m = true) : Memory.wf (m.clear lo n) = true := by
  simp only [Memory.wf, Bool.and_eq_true] at h ⊢
  refine ⟨SMap.rising_filter _ _ h.1, ?_⟩
  have h2 := h.2
  unfold Memory.clear
  simp only [List.all_eq_true, List.mem_filter] at h2 ⊢
  exact fun x hx => h2 x hx.1

/-- Writing bytes keeps memory in canonical form. -/
@[simp] theorem Memory.write_wf (m : Memory) (a : Nat) (bs : List Byte) (h : Memory.wf m = true) :
    Memory.wf (m.write a bs) = true := by
  induction bs generalizing m a with
  | nil => exact h
  | cons b bs ih => exact ih _ _ (Memory.set_wf m a b h)

@[simp] theorem ite_mem (c : Prop) [Decidable c] (a b : State) : (if c then a else b).mem = if c then a.mem else b.mem := by
  split <;> rfl

@[simp] theorem ite_memWf (c : Prop) [Decidable c] (a b : Memory) (ha : Memory.wf a = true) (hb : Memory.wf b = true) :
    Memory.wf (if c then a else b) = true := by split <;> assumption

@[simp] theorem foldl_mem {α : Type} (g : State → α → State) (l : List α) (s : State)
    (h : ∀ s x, (g s x).mem = s.mem) : (l.foldl g s).mem = s.mem := by
  induction l generalizing s with
  | nil => rfl
  | cons a l ih => simp [List.foldl, ih, h]

@[simp] theorem foldl_fst_mem {α β : Type} (g : State × β → α → State × β) (l : List α) (a : State × β)
    (h : ∀ a x, (g a x).1.mem = a.1.mem) : (l.foldl g a).1.mem = a.1.mem := by
  induction l generalizing a with
  | nil => rfl
  | cons x l ih => simp [List.foldl, ih, h]

@[simp] theorem foldl_snd_mem {α β : Type} (g : β × State → α → β × State) (l : List α) (a : β × State)
    (h : ∀ a x, (g a x).2.mem = a.2.mem) : (l.foldl g a).2.mem = a.2.mem := by
  induction l generalizing a with
  | nil => rfl
  | cons x l ih => simp [List.foldl, ih, h]

@[simp] theorem foldl_memWf {α : Type} (g : State → α → State) (l : List α) (s : State)
    (h : ∀ s x, Memory.wf s.mem = true → Memory.wf (g s x).mem = true) (hs : Memory.wf s.mem = true) :
    Memory.wf (l.foldl g s).mem = true := by
  induction l generalizing s with
  | nil => exact hs
  | cons a l ih => exact ih _ (h _ _ hs)

@[simp] theorem foldl_fst_memWf {α β : Type} (g : State × β → α → State × β) (l : List α) (a : State × β)
    (h : ∀ a x, Memory.wf a.1.mem = true → Memory.wf (g a x).1.mem = true) (hs : Memory.wf a.1.mem = true) :
    Memory.wf (l.foldl g a).1.mem = true := by
  induction l generalizing a with
  | nil => exact hs
  | cons x l ih => exact ih _ (h _ _ hs)

@[simp] theorem foldl_snd_memWf {α β : Type} (g : β × State → α → β × State) (l : List α) (a : β × State)
    (h : ∀ a x, Memory.wf a.2.mem = true → Memory.wf (g a x).2.mem = true) (hs : Memory.wf a.2.mem = true) :
    Memory.wf (l.foldl g a).2.mem = true := by
  induction l generalizing a with
  | nil => exact hs
  | cons x l ih => exact ih _ (h _ _ hs)


end Sys2Proof.Machine
end

