-- ==== Sys2Proof/Laws/Canon1.lean ====
section
/-! SUPPORT. Every operation of the machine keeps memory in canonical form; most leave memory as it was (part 1): Ops, Operands, GlideOps, Flags, ArrayOps, Issue, FlowOps, CmdOps, Engine, Array, RegOps, JobOps. -/

namespace Sys2Proof.Machine

set_option maxRecDepth 4000

@[simp] theorem State.setFld_mem (s : State) (f : Fld) (v : Nat) :
    (@State.setFld s f v).mem = s.mem := by
  unfold State.setFld; simp

@[simp] theorem State.setHeld_mem (s : State) (f : Fld) (v : Nat) :
    (@State.setHeld s f v).mem = s.mem := by
  unfold State.setHeld; simp

@[simp] theorem State.incFld_mem (s : State) (f : Fld) (n : Nat) :
    (@State.incFld s f n).mem = s.mem := by
  unfold State.incFld; simp

@[simp] theorem State.satFld_mem (s : State) (f : Fld) (n : Nat) :
    (@State.satFld s f n).mem = s.mem := by
  unfold State.satFld; simp

@[simp] theorem State.flagFld_mem (s : State) (f : Fld) (c : Bool) :
    (@State.flagFld s f c).mem = s.mem := by
  unfold State.flagFld; simp

@[simp] theorem State.resetBlocks_mem (s : State) (lo : Nat) (hi : Nat) :
    (@State.resetBlocks s lo hi).mem = s.mem := by
  unfold State.resetBlocks; simp

@[simp] theorem State.useFree_mem (s : State) :
    (@State.useFree s).mem = s.mem := by
  unfold State.useFree; simp

@[simp] theorem State.raiseVec_mem (s : State) (port : Nat) (vec : Nat) :
    (@State.raiseVec s port vec).mem = s.mem := by
  unfold State.raiseVec; simp

@[simp] theorem State.flushVecs_mem (s : State) (port : Nat) :
    (@State.flushVecs s port).mem = s.mem := by
  unfold State.flushVecs; simp

@[simp] theorem State.logRec_mem (s : State) (code : Nat) (source : Nat) (detail : Nat) :
    (@State.logRec s code source detail).mem = s.mem := by
  unfold State.logRec; simp

@[simp] theorem State.log_mem (s : State) (code : Nat) (detail : Nat) :
    (@State.log s code detail).mem = s.mem := by
  unfold State.log; simp

@[simp] theorem State.tick_mem (s : State) :
    (@State.tick s).mem = s.mem := by
  unfold State.tick; simp

@[simp] theorem State.initRegion_mem (s : State) (k : Tier) (r : Nat) :
    (@State.initRegion s k r).mem = s.mem := by
  unfold State.initRegion; simp

@[simp] theorem State.touch1_mem (s : State) (a : Nat) :
    (@State.touch1 s a).mem = s.mem := by
  unfold State.touch1; try dsimp only []
  repeat' (first | (simp [*]; done) | split | intro _)

@[simp] theorem State.touch_mem (s : State) (a : Nat) (n : Nat) :
    (@State.touch s a n).mem = s.mem := by
  unfold State.touch; simp

@[simp] theorem State.poisonLines_mem (s : State) (ls : List Nat) :
    (@State.poisonLines s ls).mem = s.mem := by
  unfold State.poisonLines; simp

@[simp] theorem State.putByte_memWf (s : State) (a : Nat) (b : Byte) (hm : Memory.wf s.mem = true) :
    Memory.wf (@State.putByte s a b).mem = true := by
  unfold State.putByte; try dsimp only []
  repeat' (first | (simp +contextual (maxDischargeDepth := 30) [*]; done) | split | intro _)

@[simp] theorem State.putCells_memWf (s : State) (cells : List (Nat × Byte)) (hm : Memory.wf s.mem = true) :
    Memory.wf (@State.putCells s cells).mem = true := by
  unfold State.putCells; simp +contextual (maxDischargeDepth := 30) [*]

@[simp] theorem State.storeLine_memWf (s : State) (cells : List (Nat × Byte)) (acc : State × Bool) (l : Nat)
    (hm : Memory.wf acc.1.mem = true) : Memory.wf (s.storeLine cells acc l).1.mem = true := by
  unfold State.storeLine
  dsimp only []
  repeat' (first | (simp [hm]; done) | (exact State.putCells_memWf _ _ (by simp [hm])) | split)

@[simp] theorem State.touchCells_mem (s : State) (cells : List (Nat × Byte)) :
    (@State.touchCells s cells).mem = s.mem := by
  unfold State.touchCells; simp

@[simp] theorem State.voidScrubs_mem (s : State) (ls : List Nat) :
    (@State.voidScrubs s ls).mem = s.mem := by
  unfold State.voidScrubs; simp

@[simp] theorem State.write_memWf (s : State) (cells : List (Nat × Byte)) (hm : Memory.wf s.mem = true) :
    Memory.wf ((@State.write s cells).1).mem = true := by
  unfold State.write; simp +contextual (maxDischargeDepth := 30) [*]

@[simp] theorem State.setThread_mem (s : State) (t : Nat) (x : Thread) :
    (@State.setThread s t x).mem = s.mem := by
  unfold State.setThread; simp

@[simp] theorem State.setCore_mem (s : State) (c : Nat) (x : Core) :
    (@State.setCore s c x).mem = s.mem := by
  unfold State.setCore; simp

@[simp] theorem State.setArray_mem (s : State) (c : Nat) (x : MatArray) :
    (@State.setArray s c x).mem = s.mem := by
  unfold State.setArray; simp

@[simp] theorem State.alterLaunch_mem (s : State) (k : CmdRef) (f : Launch → Launch) :
    (@State.alterLaunch s k f).mem = s.mem := by
  unfold State.alterLaunch; simp

@[simp] theorem State.haltThread_mem (s : State) (t : Nat) (code : BitVec 16) (pc : Nat) :
    (@State.haltThread s t code pc).mem = s.mem := by
  unfold State.haltThread; try dsimp only []
  repeat' (first | (simp [*]; done) | split | intro _)

@[simp] theorem State.endPeer_mem (s : State) (t : Nat) :
    (@State.endPeer s t).mem = s.mem := by
  unfold State.endPeer; try dsimp only []
  repeat' (first | (simp [*]; done) | split | intro _)

@[simp] theorem State.endLaunch_mem (s : State) (owner : Option CmdRef) (code : BitVec 16) :
    (@State.endLaunch s owner code).mem = s.mem := by
  unfold State.endLaunch; try dsimp only []
  repeat' (first | (simp [*]; done) | split | intro _)

@[simp] theorem State.stopThread_mem (s : State) (t : Nat) (code : BitVec 16) (pc : Nat) :
    (@State.stopThread s t code pc).mem = s.mem := by
  unfold State.stopThread; try dsimp only []
  repeat' (first | (simp [*]; done) | split | intro _)

@[simp] theorem State.failLater_mem (s : State) (t : Nat) (code : BitVec 16) (pc : Nat) (owner : Option CmdRef) :
    (@State.failLater s t code pc owner).mem = s.mem := by
  unfold State.failLater; try dsimp only []
  repeat' (first | (simp [*]; done) | split | intro _)

@[simp] theorem State.report_mem (s : State) (t : Nat) (fault : Nat) (pc : Nat) (owner : Option CmdRef) :
    (@State.report s t fault pc owner).mem = s.mem := by
  unfold State.report; simp

@[simp] theorem State.raise_mem (s : State) (t : Nat) (code : Nat) (n : Nat) :
    (@State.raise s t code n).mem = s.mem := by
  unfold State.raise; simp

@[simp] theorem State.knowBar_mem (s : State) (a : Nat) :
    (@State.knowBar s a).mem = s.mem := by
  unfold State.knowBar; simp

@[simp] theorem State.setBar_memWf (s : State) (a : Nat) (b : Bar) (hm : Memory.wf s.mem = true) :
    Memory.wf (@State.setBar s a b).mem = true := by
  unfold State.setBar; simp +contextual (maxDischargeDepth := 30) [*]

@[simp] theorem State.breakBar_memWf (s : State) (a : Nat) (b : Bar) (hm : Memory.wf s.mem = true) :
    Memory.wf (@State.breakBar s a b).mem = true := by
  unfold State.breakBar; simp +contextual (maxDischargeDepth := 30) [*]

@[simp] theorem State.putBar_memWf (s : State) (a : Nat) (b : Bar) (hm : Memory.wf s.mem = true) :
    Memory.wf (@State.putBar s a b).mem = true := by
  unfold State.putBar; simp +contextual (maxDischargeDepth := 30) [*]

@[simp] theorem State.barCount_memWf (s : State) (a : Nat) (ep : Nat) (dp : Int) (du : Int) (hm : Memory.wf s.mem = true) :
    Memory.wf ((@State.barCount s a ep dp du).1).mem = true := by
  unfold State.barCount; simp +contextual (maxDischargeDepth := 30) [*]

@[simp] theorem State.barLand_memWf (s : State) (a : Nat) (ep : Nat) (n : Nat) (hm : Memory.wf s.mem = true) :
    Memory.wf ((@State.barLand s a ep n).1).mem = true := by
  unfold State.barLand; simp +contextual (maxDischargeDepth := 30) [*]

@[simp] theorem State.storeOverBars_memWf (s before : State) (cells : List (Nat × Byte)) (hm : Memory.wf s.mem = true) :
    Memory.wf (s.storeOverBars before cells).mem = true := by
  unfold State.storeOverBars
  apply foldl_memWf
  · intro s e hm
    dsimp only []
    repeat' (first | exact hm | (simp [hm]; done) | split)
  · exact hm

@[simp] theorem State.store_memWf (s : State) (cells : List (Nat × Byte)) (hm : Memory.wf s.mem = true) :
    Memory.wf ((@State.store s cells).1).mem = true := by
  unfold State.store; simp +contextual (maxDischargeDepth := 30) [*]

@[simp] theorem State.ringPut_memWf (s : State) (a : Nat) (bs : List Byte) (hm : Memory.wf s.mem = true) :
    Memory.wf (@State.ringPut s a bs).mem = true := by
  unfold State.ringPut; simp +contextual (maxDischargeDepth := 30) [*]

@[simp] theorem State.portPut_mem (s : State) (q : Nat) (a : Nat) (bs : List Byte) :
    (@State.portPut s q a bs).mem = s.mem := by
  unfold State.portPut; simp

@[simp] theorem State.modRegs_mem (s : State) (t : Nat) (f : TRegs → TRegs) :
    (@State.modRegs s t f).mem = s.mem := by
  unfold State.modRegs; simp

@[simp] theorem State.join_mem (s : State) (t : Nat) (ws : List Nat) (r : TRegs) :
    (@State.join s t ws r).mem = s.mem := by
  unfold State.join; simp

theorem State.openWindow_mem (s : State) (core : Nat) (k : WKind) (r0 : Nat × State) (h0 : @State.openWindow s core k = some r0) :
    (r0.2).mem = s.mem := by
  unfold State.openWindow at h0; (try dsimp only [] at h0)
  repeat' split at h0
  all_goals first | (cases h0; done) | (cases h0; first | rfl | simp [*])

theorem State.windowFor_mem (s : State) (core : Nat) (k : WKind) (r0 : Nat × State) (h0 : s.windowFor core k = some r0) :
    r0.2.mem = s.mem := by
  unfold State.windowFor at h0
  split at h0
  · cases h0; rfl
  · exact State.openWindow_mem _ _ _ _ h0

@[simp] theorem State.setLineTag_mem (s : State) (l : Nat) (tag : BitVec 8) (owner : Nat) :
    (@State.setLineTag s l tag owner).mem = s.mem := by
  unfold State.setLineTag; simp

@[simp] theorem State.addLineTag_mem (s : State) (l : Nat) (tag : BitVec 8) (owner : Nat) :
    (@State.addLineTag s l tag owner).mem = s.mem := by
  unfold State.addLineTag; try dsimp only []
  repeat' (first | (simp [*]; done) | split | intro _)

@[simp] theorem State.clearLines_mem (s : State) (core : Nat) (w : Nat) :
    (@State.clearLines s core w).mem = s.mem := by
  unfold State.clearLines; simp

@[simp] theorem State.clearThread_mem (s : State) (t : Nat) (w : Nat) :
    (@State.clearThread s t w).mem = s.mem := by
  unfold State.clearThread; try dsimp only []
  repeat' (first | (simp [*]; done) | split | intro _)

@[simp] theorem State.closeWindow_mem (s : State) (core : Nat) (w : Nat) :
    (@State.closeWindow s core w).mem = s.mem := by
  unfold State.closeWindow; simp

@[simp] theorem State.restoreLines_memWf (s : State) (ls : List ShadowLine) (hm : Memory.wf s.mem = true) :
    Memory.wf (@State.restoreLines s ls).mem = true := by
  unfold State.restoreLines; simp +contextual (maxDischargeDepth := 30) [*]

@[simp] theorem State.rewind_memWf (s : State) (t : Nat) (w : Nat) (hm : Memory.wf s.mem = true) :
    Memory.wf ((@State.rewind s t w).1).mem = true := by
  unfold State.rewind; try dsimp only []
  repeat' (first | (simp +contextual (maxDischargeDepth := 30) [*]; done) | split | intro _)

@[simp] theorem State.refuseChain_memWf (n : Nat) (s : State) (core : Nat) (ws : List Nat) (hm : Memory.wf s.mem = true) :
    Memory.wf (State.refuseChain n s core ws).mem = true := by
  induction n generalizing s ws with
  | zero => exact hm
  | succ n ih =>
    cases ws with
    | nil => exact hm
    | cons w ws =>
      unfold State.refuseChain
      simp (maxDischargeDepth := 30) +contextual [ih, hm]

@[simp] theorem State.refuseWindow_memWf (s : State) (core : Nat) (w : Nat) (hm : Memory.wf s.mem = true) :
    Memory.wf (@State.refuseWindow s core w).mem = true := by
  unfold State.refuseWindow; simp +contextual (maxDischargeDepth := 30) [*]

@[simp] theorem State.closeIfSettled_mem (s : State) (core : Nat) (w : Nat) :
    (@State.closeIfSettled s core w).mem = s.mem := by
  unfold State.closeIfSettled; try dsimp only []
  repeat' (first | (simp [*]; done) | split | intro _)

@[simp] theorem State.modWindow_mem (s : State) (core : Nat) (w : Nat) (f : Window → Window) :
    (@State.modWindow s core w f).mem = s.mem := by
  unfold State.modWindow; simp

@[simp] theorem State.confirmPiece_memWf (s : State) (core : Nat) (w : Nat) (p : Piece) (hm : Memory.wf s.mem = true) :
    Memory.wf (@State.confirmPiece s core w p).mem = true := by
  unfold State.confirmPiece; simp +contextual (maxDischargeDepth := 30) [*]

@[simp] theorem State.refusePiece_memWf (s : State) (core : Nat) (w : Nat) (p : Piece) (hm : Memory.wf s.mem = true) :
    Memory.wf (@State.refusePiece s core w p).mem = true := by
  unfold State.refusePiece; simp +contextual (maxDischargeDepth := 30) [*]

@[simp] theorem State.joinTag_mem (s : State) (t : Nat) (tag : BitVec 8) (r : TRegs) :
    (@State.joinTag s t tag r).mem = s.mem := by
  unfold State.joinTag; simp

theorem State.shadowBefore_mem (s u : State) (t ord : Nat) (ls : List Nat) (h : s.shadowBefore t ord ls = some u) :
    u.mem = s.mem := by
  unfold State.shadowBefore at h
  dsimp only [] at h
  split at h
  · cases h
  · cases h; rfl

theorem State.shadowLines_mem (s u : State) (t : Nat) (ls : List Nat) (h : s.shadowLines t ls = some u) :
    u.mem = s.mem := State.shadowBefore_mem s u t _ ls h

@[simp] theorem State.tagWritten_mem (s : State) (t : Nat) (cells : List (Nat × Byte)) (tag : BitVec 8) :
    (@State.tagWritten s t cells tag).mem = s.mem := by
  unfold State.tagWritten; simp

@[simp] theorem State.numFlag_mem (s : State) (core : Nat) (f : Nat → Nat → Fld) (c : Bool) :
    (@State.numFlag s core f c).mem = s.mem := by
  unfold State.numFlag; simp

@[simp] theorem State.convFlags_mem (s : State) (core : Nat) (cs : List Conv) :
    (@State.convFlags s core cs).mem = s.mem := by
  unfold State.convFlags; simp

@[simp] theorem State.noteRetry_mem (s : State) (core : Nat) :
    (@State.noteRetry s core).mem = s.mem := by
  unfold State.noteRetry; simp

@[simp] theorem State.noteSkip_mem (s : State) (core : Nat) :
    (@State.noteSkip s core).mem = s.mem := by
  unfold State.noteSkip; simp

@[simp] theorem State.rampDown_mem (s : State) (core : Nat) :
    (@State.rampDown s core).mem = s.mem := by
  unfold State.rampDown; simp

@[simp] theorem State.settleRamp_mem (s : State) (core : Nat) :
    (@State.settleRamp s core).mem = s.mem := by
  unfold State.settleRamp; try dsimp only []
  repeat' (first | (simp [*]; done) | split | intro _)

@[simp] theorem State.rampUp_mem (s : State) (core : Nat) :
    (@State.rampUp s core).mem = s.mem := by
  unfold State.rampUp; simp

@[simp] theorem State.pushArr_mem (s : State) (t : Nat) (k : ArrKind) (pc : Nat) (bar : Nat) :
    (@State.pushArr s t k pc bar).mem = s.mem := by
  unfold State.pushArr; simp

@[simp] theorem State.alterArr_mem (s : State) (core : Nat) (id : Nat) (f : ArrOp → ArrOp) :
    (@State.alterArr s core id f).mem = s.mem := by
  unfold State.alterArr; simp

@[simp] theorem State.dropArr_mem (s : State) (core : Nat) (id : Nat) :
    (@State.dropArr s core id).mem = s.mem := by
  unfold State.dropArr; simp

@[simp] theorem State.passRow_memWf (s : State) (core : Nat) (a : Desc) (c : Desc) (g : Nat) (zacc : Bool) (mask : BitVec 128) (op : Operand) (m : Nat) (hm : Memory.wf s.mem = true) :
    Memory.wf (@State.passRow s core a c g zacc mask op m).mem = true := by
  unfold State.passRow; simp +contextual (maxDischargeDepth := 30) [*]

theorem State.drainStore_memWf (s : State) (core : Nat) (o : ArrOp) (r : DrainRun) (cells : List (Nat × Byte)) (extra : BitVec 8)
    (r0 : State) (h0 : State.drainStore s core o r cells extra = some r0) (hm : Memory.wf s.mem = true) : Memory.wf r0.mem = true := by
  unfold State.drainStore at h0
  dsimp only [] at h0
  split at h0
  · cases h0
  · have h := State.shadowBefore_mem _ _ _ _ _ ‹_›
    cases h0
    rw [State.tagWritten_mem]
    split
    · rw [State.alterArr_mem]
      apply State.store_memWf
      rw [h]; exact hm
    · apply State.store_memWf
      rw [h]; exact hm

@[simp] theorem State.clearRowLine_mem (w : Nat) (rest : List Piece) (s : State) (l : Nat) :
    (@State.clearRowLine w rest s l).mem = s.mem := by
  unfold State.clearRowLine; try dsimp only []
  repeat' (first | (simp [*]; done) | split | intro _)

@[simp] theorem State.confirmRow_mem (s : State) (core : Nat) (w : Nat) (sp : DrainSpec) (refused : Bool) (m : Nat) :
    (@State.confirmRow s core w sp refused m).mem = s.mem := by
  unfold State.confirmRow; simp

theorem State.drainRow_memWf (s : State) (core : Nat) (o : ArrOp) (sp : DrainSpec) (r : DrainRun) (m : Nat) (e : Option Int)
    (satm glide : Bool) (codes : List Nat) (r0 : State) (h0 : State.drainRow s core o sp r m e satm glide codes = some r0)
    (hm : Memory.wf s.mem = true) : Memory.wf r0.mem = true := by
  unfold State.drainRow at h0
  dsimp only [] at h0
  split at h0
  · cases h0
  · have h := State.drainStore_memWf _ _ _ _ _ _ _ ‹_› hm
    repeat' split at h0
    all_goals (cases h0; simp (maxDischargeDepth := 30) [h])

@[simp] theorem State.setRun_mem (s : State) (core : Nat) (id : Nat) (sp : DrainSpec) (r : DrainRun) :
    (@State.setRun s core id sp r).mem = s.mem := by
  unfold State.setRun; simp

theorem State.finishTile_memWf (s : State) (core : Nat) (o : ArrOp) (sp : DrainSpec) (r : DrainRun) (i : Nat) (forced : Bool)
    (r0 : State × DrainRun) (h0 : State.finishTile s core o sp r i forced = some r0) (hm : Memory.wf s.mem = true) :
    Memory.wf r0.1.mem = true := by
  unfold State.finishTile at h0
  dsimp only [] at h0
  have hs : ∀ c x, s.drainStore core o r c 0 = some x → Memory.wf x.mem = true := fun c x h =>
    State.drainStore_memWf _ _ _ _ _ _ _ h hm
  have hf : ∀ (l : List Nat) (f : Nat → List Nat) (e : Option Int) (b : Bool) (a : Option State),
      (∀ x, a = some x → Memory.wf x.mem = true) →
      ∀ x, l.foldl (fun (acc : Option State) m => match acc with
        | none => none
        | some s => s.drainRow core o sp r m e b false (f m)) a = some x → Memory.wf x.mem = true := by
    intro l f e b
    induction l with
    | nil => intro a ha x hx; exact ha x hx
    | cons m l ih =>
      intro a ha x hx
      refine ih _ ?_ x hx
      intro y hy
      cases a with
      | none => cases hy
      | some z => exact State.drainRow_memWf _ _ _ _ _ _ _ _ _ _ _ hy (ha z rfl)
  split at h0
  · cases h0
  · rename_i y hy
    cases h0
    split at hy
    · exact hs _ _ hy
    · exact hf _ _ _ _ _ (fun x hx => hs _ _ hx) _ hy

@[simp] theorem State.drainPoison_memWf (s : State) (core : Nat) (o : ArrOp) (sp : DrainSpec) (r : DrainRun) (hm : Memory.wf s.mem = true) :
    Memory.wf (@State.drainPoison s core o sp r).mem = true := by
  unfold State.drainPoison; try dsimp only []
  repeat' (first | (simp +contextual (maxDischargeDepth := 30) [*]; done) | split | intro _)

@[simp] theorem State.waitIn_mem (s : State) (t : Nat) (st : TState) :
    (@State.waitIn s t st).mem = s.mem := by
  unfold State.waitIn; simp

@[simp] theorem State.goTo_mem (s : State) (t : Nat) (pc : Nat) :
    (@State.goTo s t pc).mem = s.mem := by
  unfold State.goTo; simp

@[simp] theorem Eff.finish_mem (t n : Nat) (e : Eff) : (e.finish t n).mem = e.st.mem := by
  cases e <;> simp [Eff.finish]

@[simp] theorem State.gated_mem (s : State) (t : Nat) (k : Eff) (hk : k.st.mem = s.mem) :
    (s.gated t k).st.mem = s.mem := by
  unfold State.gated
  dsimp only []
  split
  · rfl
  · split
    · rfl
    · exact hk

@[simp] theorem State.unguard_mem (s : State) (t : Nat) (ctrl : BitVec 8) :
    (@State.unguard s t ctrl).mem = s.mem := by
  unfold State.unguard; simp

@[simp] theorem Eff.unguard_mem (t : Nat) (ctrl : BitVec 8) (y0 : Eff) :
    (@Eff.unguard t ctrl y0).st.mem = y0.st.mem := by
  unfold Eff.unguard; try dsimp only []
  repeat' (first | (simp [*]; done) | split | intro _)

@[simp] theorem State.gated_memWf (s : State) (t : Nat) (k : Eff) (hk : Memory.wf k.st.mem = true) (hm : Memory.wf s.mem = true) :
    Memory.wf (s.gated t k).st.mem = true := by
  unfold State.gated
  dsimp only []
  split
  · exact hm
  · split
    · exact hm
    · exact hk

@[simp] theorem State.guarded_mem (s : State) (t : Nat) (w : IWord) (sp : Spec) (body : State → BitVec 8 → Eff)
    (hoff : ∀ y, (sp.off y).mem = y.mem)
    (hbody : ∀ y b, (body y b).st.mem = y.mem) : (s.guarded t w sp body).st.mem = s.mem := by
  unfold State.guarded
  dsimp only []
  repeat' (first | (simp [hbody, hoff]; done) | split)

@[simp] theorem State.guarded_memWf (s : State) (t : Nat) (w : IWord) (sp : Spec) (body : State → BitVec 8 → Eff)
    (hoff : ∀ y, (sp.off y).mem = y.mem)
    (hbody : ∀ y b, Memory.wf y.mem = true → Memory.wf (body y b).st.mem = true) (hm : Memory.wf s.mem = true) :
    Memory.wf (s.guarded t w sp body).st.mem = true := by
  unfold State.guarded
  dsimp only []
  repeat' (first
    | (simp [hm, hoff]; done)
    | (apply hbody; simp [hm]; done)
    | (rw [Eff.unguard_mem]; apply hbody; simp [hm]; done)
    | split)

@[simp] theorem State.attempt_mem (s : State) (t : Nat) (w : IWord) (sp : Spec) (body : State → BitVec 8 → Eff)
    (hoff : ∀ y, (sp.off y).mem = y.mem)
    (hbody : ∀ y b, (body y b).st.mem = y.mem) : (s.attempt t w sp body).st.mem = s.mem := by
  unfold State.attempt
  dsimp only []
  repeat' (first | (simp [hbody, hoff]; done) | split)

@[simp] theorem State.attempt_memWf (s : State) (t : Nat) (w : IWord) (sp : Spec) (body : State → BitVec 8 → Eff)
    (hoff : ∀ y, (sp.off y).mem = y.mem)
    (hbody : ∀ y b, Memory.wf y.mem = true → Memory.wf (body y b).st.mem = true) (hm : Memory.wf s.mem = true) :
    Memory.wf (s.attempt t w sp body).st.mem = true := by
  have h := State.guarded_memWf s t w sp body hoff hbody hm
  unfold State.attempt
  dsimp only []
  repeat' (first | (simp [hm, h, hoff]; done) | split)

@[simp] theorem State.behindGate_mem (s : State) (t : Nat) (go : State → State) (hgo : ∀ y0, (go y0).mem = y0.mem) :
    (@State.behindGate s t go).mem = s.mem := by
  unfold State.behindGate; try dsimp only []
  repeat' (first | (simp [*]; done) | split | intro _)

@[simp] theorem State.behindGate_memWf (s : State) (t : Nat) (go : State → State) (hgo : ∀ y0, Memory.wf y0.mem = true → Memory.wf (go y0).mem = true) (hm : Memory.wf s.mem = true) :
    Memory.wf (@State.behindGate s t go).mem = true := by
  unfold State.behindGate; try dsimp only []
  repeat' (first | (simp +contextual (maxDischargeDepth := 30) [*]; done) | split | intro _)

@[simp] theorem State.issue_mem (s : State) (tid : Tid) (w : IWord) (sp : Spec) (body : State → BitVec 8 → Eff)
    (hoff : ∀ y, (sp.off y).mem = y.mem)
    (hbody : ∀ y b, (body y b).st.mem = y.mem) : (s.issue tid w sp body).mem = s.mem := by
  unfold State.issue
  dsimp only []
  repeat' (first | (simp [hbody, hoff]; done) | split)

@[simp] theorem State.issue_memWf (s : State) (tid : Tid) (w : IWord) (sp : Spec) (body : State → BitVec 8 → Eff)
    (hoff : ∀ y, (sp.off y).mem = y.mem)
    (hbody : ∀ y b, Memory.wf y.mem = true → Memory.wf (body y b).st.mem = true) (hm : Memory.wf s.mem = true) :
    Memory.wf (s.issue tid w sp body).mem = true := by
  have h := State.attempt_memWf s tid.code w sp body hoff hbody hm
  unfold State.issue
  dsimp only []
  repeat' (first | (simp [hm, h, hoff]; done) | split)

@[simp] theorem State.setPisteBits_mem (s : State) (i : Nat) (v : Nat) :
    (@State.setPisteBits s i v).mem = s.mem := by
  unfold State.setPisteBits; simp

@[simp] theorem State.setLink_mem (s : State) (p : Nat) (x : LinkPort) :
    (@State.setLink s p x).mem = s.mem := by
  unfold State.setLink; simp

@[simp] theorem State.enqueue_mem (s : State) (p : Nat) (typ : Nat) (k : Packet) (whence : Nat) :
    (@State.enqueue s p typ k whence).mem = s.mem := by
  unfold State.enqueue; simp

@[simp] theorem State.emit_mem (s : State) (typ : Nat) (k : Packet) :
    (@State.emit s typ k).mem = s.mem := by
  unfold State.emit; try dsimp only []
  repeat' (first | (simp [*]; done) | split | intro _)

@[simp] theorem State.sendCtl_mem (s : State) (d : Nat) (vc : Nat) (typ : Nat) (seq : BitVec 32) (ep : BitVec 16) (body : List Byte) :
    (@State.sendCtl s d vc typ seq ep body).mem = s.mem := by
  unfold State.sendCtl; simp

@[simp] theorem State.passFailed_mem (s : State) (key : Nat) :
    (@State.passFailed s key).mem = s.mem := by
  unfold State.passFailed; simp

@[simp] theorem State.openFlow_mem (s : State) (d : Nat) (vc : Nat) (waiting : List WaitPkt) :
    (@State.openFlow s d vc waiting).mem = s.mem := by
  unfold State.openFlow; simp

@[simp] theorem State.dropWaiting_mem (s : State) (q : Origin → Bool) :
    (@State.dropWaiting s q).mem = s.mem := by
  unfold State.dropWaiting; simp

@[simp] theorem State.pumpFlow_mem (s : State) (d vc n : Nat) : (s.pumpFlow d vc n).mem = s.mem := by
  induction n generalizing s with
  | zero => rfl
  | succ n ih =>
    unfold State.pumpFlow
    dsimp only []
    repeat' (first | (simp [ih]; done) | rfl | split)

@[simp] theorem State.sendPkt_mem (s : State) (d : Nat) (vc : Nat) (typ : Nat) (body : List Byte) (org : Origin) (cls : Bool) :
    (@State.sendPkt s d vc typ body org cls).mem = s.mem := by
  unfold State.sendPkt; try dsimp only []
  repeat' (first | (simp [*]; done) | split | intro _)

@[simp] theorem State.newTag_mem (s : State) (w : Waiter) :
    ((@State.newTag s w).2).mem = s.mem := by
  unfold State.newTag; simp

@[simp] theorem State.setPiste_mem (s : State) (i : Nat) :
    (@State.setPiste s i).mem = s.mem := by
  unfold State.setPiste; simp

@[simp] theorem State.selectPiste_mem (s : State) (i : Nat) :
    (@State.selectPiste s i).mem = s.mem := by
  unfold State.selectPiste; simp

@[simp] theorem State.setStream_mem (s : State) (i : Nat) (f : Stream → Stream) :
    (@State.setStream s i f).mem = s.mem := by
  unfold State.setStream; simp

@[simp] theorem State.showStream_mem (s : State) (i : Nat) :
    (@State.showStream s i).mem = s.mem := by
  unfold State.showStream; simp

@[simp] theorem State.alterCmd_mem (s : State) (k : CmdRef) (f : Cmd → Cmd) :
    (@State.alterCmd s k f).mem = s.mem := by
  unfold State.alterCmd; simp

@[simp] theorem State.startCmd_mem (s : State) (k : CmdRef) :
    (@State.startCmd s k).mem = s.mem := by
  unfold State.startCmd; simp

@[simp] theorem State.fillDone_mem (s : State) (fault : Nat) :
    (@State.fillDone s fault).mem = s.mem := by
  unfold State.fillDone; simp

@[simp] theorem State.finishCmd_mem (s : State) (k : CmdRef) (fault : Nat) (result : Nat) (poison : Bool) :
    (@State.finishCmd s k fault result poison).mem = s.mem := by
  unfold State.finishCmd; try dsimp only []
  repeat' (first | (simp [*]; done) | split | intro _)

@[simp] theorem State.takePin_mem (s : State) (h : Nat) :
    ((@State.takePin s h).2).mem = s.mem := by
  unfold State.takePin; simp

@[simp] theorem State.dropPin_mem (s : State) (h : Nat) (slot : Nat) :
    (@State.dropPin s h slot).mem = s.mem := by
  unfold State.dropPin; simp

@[simp] theorem State.setTile_mem (s : State) (t : Nat) (x : Tile) :
    (@State.setTile s t x).mem = s.mem := by
  unfold State.setTile; simp

@[simp] theorem State.alterCopy_mem (s : State) (t : Nat) (c : Nat) (f : Copy → Copy) :
    (@State.alterCopy s t c f).mem = s.mem := by
  unfold State.alterCopy; simp

@[simp] theorem State.issueOne_mem (s : State) (t : Nat) (cid : Nat) (c : Copy) (op : TxnOp) (rest : List TxnOp) :
    (@State.issueOne s t cid c op rest).mem = s.mem := by
  unfold State.issueOne; try dsimp only []
  repeat' (first | (simp [*]; done) | split | intro _)

@[simp] theorem State.issueTxns_mem (s : State) (t n : Nat) : (s.issueTxns t n).mem = s.mem := by
  induction n generalizing s with
  | zero => rfl
  | succ n ih =>
    unfold State.issueTxns
    dsimp only []
    repeat' (first | (simp [ih]; done) | rfl | split)

@[simp] theorem State.endCopy_memWf (s : State) (t : Nat) (cid : Nat) (c : Copy) (hm : Memory.wf s.mem = true) :
    Memory.wf (@State.endCopy s t cid c).mem = true := by
  unfold State.endCopy; try dsimp only []
  repeat' (first | (simp +contextual (maxDischargeDepth := 30) [*]; done) | split | intro _)

@[simp] theorem State.settleCopy_memWf (s : State) (t : Nat) (cid : Nat) (hm : Memory.wf s.mem = true) :
    Memory.wf (@State.settleCopy s t cid).mem = true := by
  unfold State.settleCopy; try dsimp only []
  repeat' (first | (simp +contextual (maxDischargeDepth := 30) [*]; done) | split | intro _)

@[simp] theorem State.acceptCopy_memWf (s : State) (t : Nat) (c : Copy) (hm : Memory.wf s.mem = true) :
    Memory.wf (@State.acceptCopy s t c).mem = true := by
  unfold State.acceptCopy; simp +contextual (maxDischargeDepth := 30) [*]

@[simp] theorem State.endTxn_memWf (s : State) (t : Nat) (id : Nat) (cid : Nat) (hm : Memory.wf s.mem = true) :
    Memory.wf (@State.endTxn s t id cid).mem = true := by
  unfold State.endTxn; simp +contextual (maxDischargeDepth := 30) [*]

@[simp] theorem State.landBytes_memWf (s : State) (a : Nat) (bs : List (Byte × Bool)) (hm : Memory.wf s.mem = true) :
    Memory.wf (@State.landBytes s a bs).1.mem = true := by
  unfold State.landBytes; simp +contextual (maxDischargeDepth := 30) [*]

@[simp] theorem State.landTxn_memWf (s : State) (t : Nat) (x : Txn) (dst : Nat) (bs : List (Byte × Bool)) (hm : Memory.wf s.mem = true) :
    Memory.wf (@State.landTxn s t x dst bs).mem = true := by
  unfold State.landTxn; simp +contextual (maxDischargeDepth := 30) [*]

@[simp] theorem State.sendTxn_mem (s : State) (t : Nat) (id : Nat) (x : Txn) (dst : Nat) (bs : List Byte) :
    (@State.sendTxn s t id x dst bs).mem = s.mem := by
  unfold State.sendTxn; simp

@[simp] theorem State.stopTxn_memWf (s : State) (t : Nat) (id : Nat) (x : Txn) (dst : Nat) (bs : List (Byte × Bool)) (hm : Memory.wf s.mem = true) :
    Memory.wf (@State.stopTxn s t id x dst bs).mem = true := by
  unfold State.stopTxn; simp +contextual (maxDischargeDepth := 30) [*]

@[simp] theorem State.readAhead_mem (s : State) (t : Nat) (x : Txn) (dev : Nat) (n : Nat) :
    (@State.readAhead s t x dev n).mem = s.mem := by
  unfold State.readAhead; simp

@[simp] theorem State.failTxn_memWf (s : State) (t : Nat) (id : Nat) (fault : Nat) (hm : Memory.wf s.mem = true) :
    Memory.wf (@State.failTxn s t id fault).mem = true := by
  unfold State.failTxn; try dsimp only []
  repeat' (first | (simp +contextual (maxDischargeDepth := 30) [*]; done) | split | intro _)

@[simp] theorem State.moveTxn_memWf (s : State) (t : Nat) (id : Nat) (c : Copy) (x : Txn) (hm : Memory.wf s.mem = true) :
    Memory.wf (@State.moveTxn s t id c x).mem = true := by
  unfold State.moveTxn; try dsimp only []
  repeat' (first | (simp +contextual (maxDischargeDepth := 30) [*]; done) | split | intro _)

@[simp] theorem State.ackTxn_memWf (s : State) (t : Nat) (id : Nat) (hm : Memory.wf s.mem = true) :
    Memory.wf (@State.ackTxn s t id).mem = true := by
  unfold State.ackTxn; try dsimp only []
  repeat' (first | (simp +contextual (maxDischargeDepth := 30) [*]; done) | split | intro _)

@[simp] theorem State.answerTxn_memWf (s : State) (t : Nat) (id : Nat) (status : Nat) (bs : List Byte) (hm : Memory.wf s.mem = true) :
    Memory.wf (@State.answerTxn s t id status bs).mem = true := by
  unfold State.answerTxn; simp +contextual (maxDischargeDepth := 30) [*]

@[simp] theorem execEngineTransactionComplete_memWf (tile : Fin 36) (id : Nat) (s : State) (hm : Memory.wf s.mem = true) :
    Memory.wf (outState (@execEngineTransactionComplete tile id s) s).mem = true := by
  unfold execEngineTransactionComplete; try dsimp only []
  repeat' (first | (simp +contextual (maxDischargeDepth := 30) [*]; done) | split | intro _)

@[simp] theorem holding_mem (s : State) (t : Nat) (k : Eff) (hk : k.st.mem = s.mem) :
    (holding s t k).st.mem = s.mem := by
  unfold holding
  split
  · exact hk
  · rfl

@[simp] theorem execMmaOpen_memWf (t : Tid) (w : IWord) (s : State) (hm : Memory.wf s.mem = true) :
    Memory.wf (outState (execMmaOpen t w s) s).mem = true := by
  unfold execMmaOpen
  try dsimp only []
  rw [outState_next]
  refine State.issue_memWf _ _ _ _ _ (fun _ => rfl) ?_ ?_
  · intro s x hs
    try dsimp only []
    repeat' (first | exact hs | (simp (maxDischargeDepth := 30) +contextual [hs]; done) | split)
  · exact hm

@[simp] theorem holding_memWf (s : State) (t : Nat) (k : Eff) (hk : Memory.wf k.st.mem = true) (hm : Memory.wf s.mem = true) :
    Memory.wf (holding s t k).st.mem = true := by
  unfold holding
  split
  · exact hk
  · exact hm

@[simp] theorem execMmaClose_mem (t : Tid) (w : IWord) (s : State) :
    (outState (@execMmaClose t w s) s).mem = s.mem := by
  unfold execMmaClose; simp

@[simp] theorem loadwBody_mem (t : Nat) (tr : Bool) (v : BitVec 128) (s : State) :
    (@loadwBody t tr v s).st.mem = s.mem := by
  unfold loadwBody; simp

@[simp] theorem execMmaLoadw_mem (t : Tid) (w : IWord) (s : State) :
    (outState (@execMmaLoadw t w s) s).mem = s.mem := by
  unfold execMmaLoadw; simp

@[simp] theorem execMmaLoadwT_mem (t : Tid) (w : IWord) (s : State) :
    (outState (@execMmaLoadwT t w s) s).mem = s.mem := by
  unfold execMmaLoadwT; simp

@[simp] theorem streamBody_mem (t : Nat) (w : IWord) (s : State) :
    (@streamBody t w s).st.mem = s.mem := by
  unfold streamBody; try dsimp only []
  repeat' (first | (simp [*]; done) | split | intro _)

@[simp] theorem execMmaStream_mem (t : Tid) (w : IWord) (s : State) :
    (outState (@execMmaStream t w s) s).mem = s.mem := by
  unfold execMmaStream; simp

@[simp] theorem State.openScale_mem (s : State) (t n : Nat) (sp : DrainSpec) (r : DrainRun) :
    (s.openScale t n sp r).mem = s.mem := by
  unfold State.openScale
  dsimp only []
  split
  · split
    · rfl
    · have h := State.openWindow_mem _ _ _ _ ‹_›
      simp only [] at h
      simp [h]
  · rfl

@[simp] theorem drainBody_mem (t : Nat) (w : IWord) (s : State) :
    (@drainBody t w s).st.mem = s.mem := by
  unfold drainBody; simp

@[simp] theorem execMmaDrain_mem (t : Tid) (w : IWord) (s : State) :
    (outState (@execMmaDrain t w s) s).mem = s.mem := by
  unfold execMmaDrain; simp

@[simp] theorem execMmaDrainT_mem (t : Tid) (w : IWord) (s : State) :
    (outState (@execMmaDrainT t w s) s).mem = s.mem := by
  unfold execMmaDrainT; simp

@[simp] theorem execRampStep_mem (c : Cid) (s : State) :
    (outState (@execRampStep c s) s).mem = s.mem := by
  unfold execRampStep; simp

@[simp] theorem execArrayHoldExpiry_mem (c : Cid) (s : State) :
    (outState (@execArrayHoldExpiry c s) s).mem = s.mem := by
  unfold execArrayHoldExpiry; simp

@[simp] theorem execShadowBankFull_mem (c : Cid) (s : State) :
    (outState (@execShadowBankFull c s) s).mem = s.mem := by
  unfold execShadowBankFull; try dsimp only []
  repeat' (first | (simp [*]; done) | split | intro _)

@[simp] theorem execSwapTokenEnter_mem (c : Cid) (s : State) :
    (outState (@execSwapTokenEnter c s) s).mem = s.mem := by
  unfold execSwapTokenEnter; try dsimp only []
  repeat' (first | (simp [*]; done) | split | intro _)

@[simp] theorem execSwapComplete_mem (c : Cid) (s : State) :
    (outState (@execSwapComplete c s) s).mem = s.mem := by
  unfold execSwapComplete; try dsimp only []
  repeat' (first | (simp [*]; done) | split | intro _)

@[simp] theorem execArrayRowEnter_memWf (c : Cid) (s : State) (hm : Memory.wf s.mem = true) :
    Memory.wf (outState (@execArrayRowEnter c s) s).mem = true := by
  unfold execArrayRowEnter; try dsimp only []
  repeat' (first | (simp +contextual (maxDischargeDepth := 30) [*]; done) | split | intro _)

@[simp] theorem execPassComplete_memWf (c : Cid) (s : State) (hm : Memory.wf s.mem = true) :
    Memory.wf (outState (execPassComplete c s) s).mem = true := by
  unfold execPassComplete
  rw [outState_next]
  split
  · split
    · exact hm
    · dsimp only []
      have h : ∀ (a b : Nat) (x : Nat) (k : Nat) (f : Fld), Memory.wf ((((s.dropArr c.code k).incFld f).barLand a b x).1.settleRamp c.code).mem = true :=
        fun a b x k f => by
          rw [State.settleRamp_mem]
          exact State.barLand_memWf _ _ _ _ (by rw [State.incFld_mem, State.dropArr_mem]; exact hm)
      repeat' (first
        | (rw [State.report_mem]; exact h _ _ _ _ _)
        | exact h _ _ _ _ _
        | split)
  · exact hm

theorem State.spredRow_memWf (s : State) (core : Nat) (o : ArrOp) (sp : DrainSpec) (r : DrainRun) (m kind : Nat) (codes : List Nat)
    (e : Option Int) (r0 : State × DrainRun) (h0 : State.spredRow s core o sp r m kind codes e = some r0)
    (hm : Memory.wf s.mem = true) : Memory.wf r0.1.mem = true := by
  unfold State.spredRow at h0
  dsimp only [] at h0
  split at h0
  · cases h0
  · rename_i s' r' hw
    have hs : Memory.wf s'.mem = true := by
      repeat' split at hw
      all_goals first
        | (cases hw; done)
        | (have h := State.drainRow_memWf _ _ _ _ _ _ _ _ _ _ _ ‹_› hm; cases hw; exact h)
        | (cases hw; exact hm)
    repeat' split at h0
    all_goals first
      | exact State.finishTile_memWf _ _ _ _ _ _ _ _ h0 hs
      | (cases h0; exact hs)

theorem State.drainAny_memWf (s : State) (core : Nat) (o : ArrOp) (sp : DrainSpec) (r : DrainRun) (m kind : Nat) (codes : List Nat)
    (e : Option Int) (r0 : State × DrainRun) (h0 : State.drainAny s core o sp r m kind codes e = some r0)
    (hm : Memory.wf s.mem = true) : Memory.wf r0.1.mem = true := by
  unfold State.drainAny at h0
  repeat' split at h0
  · simp only [Option.map_eq_some_iff] at h0
    obtain ⟨a, ha, rfl⟩ := h0
    exact State.drainRow_memWf _ _ _ _ _ _ _ _ _ _ _ ha hm
  · simp only [Option.map_eq_some_iff] at h0
    obtain ⟨a, ha, rfl⟩ := h0
    exact State.drainRow_memWf _ _ _ _ _ _ _ _ _ _ _ ha hm
  · exact State.spredRow_memWf _ _ _ _ _ _ _ _ _ _ h0 hm

@[simp] theorem execDrainRowBegin_memWf (c : Cid) (s : State) (hm : Memory.wf s.mem = true) :
    Memory.wf (outState (execDrainRowBegin c s) s).mem = true := by
  unfold execDrainRowBegin
  dsimp only []
  rw [outState_next]
  repeat' (first
    | exact hm
    | (simp (maxDischargeDepth := 30) [hm]; done)
    | (have h := State.drainAny_memWf _ _ _ _ _ _ _ _ _ _ ‹_› hm; simp only [] at h; simp (maxDischargeDepth := 30) [h]; done)
    | split)

@[simp] theorem State.refuseDrain_memWf (s : State) (core : Nat) (sp : DrainSpec) (r : DrainRun) (hm : Memory.wf s.mem = true) :
    Memory.wf ((@State.refuseDrain s core sp r).1).mem = true := by
  unfold State.refuseDrain; try dsimp only []
  repeat' (first | (simp +contextual (maxDischargeDepth := 30) [*]; done) | split | intro _)

@[simp] theorem execDrainTileCheck_memWf (c : Cid) (s : State) (hm : Memory.wf s.mem = true) :
    Memory.wf (outState (execDrainTileCheck c s) s).mem = true := by
  unfold execDrainTileCheck
  rw [outState_next]
  split
  · exact hm
  · dsimp only []
    split
    · exact hm
    · split
      · exact hm
      · split
        · exact hm
        · split
          · split
            · exact hm
            · have h := State.finishTile_memWf _ _ _ _ _ _ _ _ ‹_› hm
              simp only [] at h
              simp (maxDischargeDepth := 30) [h]
          · have hr : Memory.wf (s.refuseDrain c.code ‹DrainSpec› ‹DrainRun›).1.mem = true := by
              simp (maxDischargeDepth := 30) [hm]
            split
            · split
              · simp (maxDischargeDepth := 30) [hm]
              · have h := State.finishTile_memWf _ _ _ _ _ _ _ _ ‹_› hr
                simp only [] at h
                simp (maxDischargeDepth := 30) [h]
            · simp (maxDischargeDepth := 30) [hm]

@[simp] theorem execDrainComplete_memWf (c : Cid) (s : State) (hm : Memory.wf s.mem = true) :
    Memory.wf (outState (@execDrainComplete c s) s).mem = true := by
  unfold execDrainComplete; try dsimp only []
  repeat' (first | (simp +contextual (maxDischargeDepth := 30) [*]; done) | split | intro _)

@[simp] theorem State.storeFld_mem (s : State) (f : Fld) (mask : Nat) (v : Nat) :
    (@State.storeFld s f mask v).mem = s.mem := by
  unfold State.storeFld; try dsimp only []
  repeat' (first | (simp [*]; done) | split | intro _)

@[simp] theorem State.writeFields_mem (s : State) (r : Reg) (mask : Nat) (v : Nat) :
    (@State.writeFields s r mask v).mem = s.mem := by
  unfold State.writeFields; simp

@[simp] theorem State.logBar_mem (s : State) (code : Nat) :
    (@State.logBar s code).mem = s.mem := by
  unfold State.logBar; simp

@[simp] theorem State.hostWrite_mem (s : State) (go : State → State) (hgo : ∀ y0, (go y0).mem = y0.mem) :
    (@State.hostWrite s go).mem = s.mem := by
  unfold State.hostWrite; try dsimp only []
  repeat' (first | (simp [*]; done) | split | intro _)

@[simp] theorem State.hostWrite_memWf (s : State) (go : State → State) (hgo : ∀ y0, Memory.wf y0.mem = true → Memory.wf (go y0).mem = true) (hm : Memory.wf s.mem = true) :
    Memory.wf (@State.hostWrite s go).mem = true := by
  unfold State.hostWrite; simp +contextual (maxDischargeDepth := 30) [*]

@[simp] theorem State.hostWriteIn_mem (s : State) (b : Nat) (go : State → State) (hgo : ∀ y0, (go y0).mem = y0.mem) :
    (@State.hostWriteIn s b go).mem = s.mem := by
  unfold State.hostWriteIn; try dsimp only []
  repeat' (first | (simp [*]; done) | split | intro _)

@[simp] theorem State.clampFld_mem (s : State) (f : Fld) (lo : Nat) (hi : Nat) :
    (@State.clampFld s f lo hi).mem = s.mem := by
  unfold State.clampFld; simp

@[simp] theorem State.hostWriteIn_memWf (s : State) (b : Nat) (go : State → State) (hgo : ∀ y0, Memory.wf y0.mem = true → Memory.wf (go y0).mem = true) (hm : Memory.wf s.mem = true) :
    Memory.wf (@State.hostWriteIn s b go).mem = true := by
  unfold State.hostWriteIn; simp +contextual (maxDischargeDepth := 30) [*]

@[simp] theorem State.failStep_mem (s : State) (code : Nat) :
    (@State.failStep s code).mem = s.mem := by
  unfold State.failStep; simp

@[simp] theorem State.suspectStep_mem (s : State) :
    (@State.suspectStep s).mem = s.mem := by
  unfold State.suspectStep; simp

@[simp] theorem State.launchFault_mem (s : State) (job : Nat) (code : Nat) :
    (@State.launchFault s job code).mem = s.mem := by
  unfold State.launchFault; simp

@[simp] theorem State.takePhase_mem (s : State) (n : Nat) :
    (@State.takePhase s n).mem = s.mem := by
  unfold State.takePhase; simp

@[simp] theorem State.phaseCheck_mem (s : State) :
    (@State.phaseCheck s).mem = s.mem := by
  unfold State.phaseCheck; try dsimp only []
  repeat' (first | (simp [*]; done) | split | intro _)

end Sys2Proof.Machine
end

