-- ==== Sys2Proof/Laws/Canon2.lean ====
section
/-! SUPPORT. Every operation of the machine keeps memory in canonical form; most leave memory as it was (part 2): RelayOps, WheelOps, Relay, Streams, Ingest, LapOps, Jobs. -/

namespace Sys2Proof.Machine

set_option maxRecDepth 4000

@[simp] theorem State.setRelay_mem (s : State) (h : Nat) (x : Relay) :
    (@State.setRelay s h x).mem = s.mem := by
  unfold State.setRelay; simp

@[simp] theorem State.modRelay_mem (s : State) (h : Nat) (f : Relay → Relay) :
    (@State.modRelay s h f).mem = s.mem := by
  unfold State.modRelay; simp

@[simp] theorem State.overrange_mem (s : State) (h : Nat) (c : Bool) :
    (@State.overrange s h c).mem = s.mem := by
  unfold State.overrange; simp

@[simp] theorem State.touchExp_mem (s : State) (h : Nat) (b : Nat) :
    (@State.touchExp s h b).mem = s.mem := by
  unfold State.touchExp; simp

@[simp] theorem State.sendBatch_mem (s : State) (h : Nat) (dst : Nat) (kind : Nat) (slot : Nat) (twin : Bool) (b0 : Nat) (n : Nat) (tail : List Byte) (data : List Byte) (send : Nat) :
    ((@State.sendBatch s h dst kind slot twin b0 n tail data send).2).mem = s.mem := by
  unfold State.sendBatch; simp

@[simp] theorem State.setNorm_mem (s : State) (k : Nat) (x : NormSet) :
    (@State.setNorm s k x).mem = s.mem := by
  unfold State.setNorm; simp

@[simp] theorem State.relayPut_memWf (s : State) (cells : List (Nat × Byte)) (hm : Memory.wf s.mem = true) :
    Memory.wf (@State.relayPut s cells).mem = true := by
  unfold State.relayPut; simp +contextual (maxDischargeDepth := 30) [*]

@[simp] theorem State.landNorm_memWf (s : State) (k : Nat) (bs : List Byte) (hm : Memory.wf s.mem = true) :
    Memory.wf (@State.landNorm s k bs).mem = true := by
  unfold State.landNorm; try dsimp only []
  repeat' (first | (simp +contextual (maxDischargeDepth := 30) [*]; done) | split | intro _)

@[simp] theorem State.closeNorm_memWf (s : State) (k : Nat) (hm : Memory.wf s.mem = true) :
    Memory.wf (@State.closeNorm s k).mem = true := by
  unfold State.closeNorm
  dsimp only []
  rw [State.setNorm_mem, foldl_mem]
  · apply State.landNorm_memWf
    split
    · exact foldl_memWf _ _ _ (fun s e hs => State.relayPut_memWf _ _ hs) hm
    · exact hm
  · intro s m
    repeat' (first | rfl | (simp; done) | split)

@[simp] theorem State.settleNorm_memWf (s : State) (k : Nat) (hm : Memory.wf s.mem = true) :
    Memory.wf (@State.settleNorm s k).mem = true := by
  unfold State.settleNorm; simp +contextual (maxDischargeDepth := 30) [*]

@[simp] theorem State.countNorms_memWf (s : State) (k : Nat) (y0 : List NormBatch) (hm : Memory.wf s.mem = true) :
    Memory.wf (@State.countNorms s k y0).mem = true := by
  induction y0 generalizing s with
  | nil => exact hm
  | cons a l ih =>
    unfold State.countNorms
    try dsimp only []
    repeat' (first | (simp +contextual (maxDischargeDepth := 30) [*]; done) | exact hm | split)

@[simp] theorem State.countNorm_memWf (s : State) (k : Nat) (b : NormBatch) (hm : Memory.wf s.mem = true) :
    Memory.wf (@State.countNorm s k b).mem = true := by
  unfold State.countNorm; simp +contextual (maxDischargeDepth := 30) [*]

@[simp] theorem State.finishNorm_memWf (s : State) (k : Nat) (hm : Memory.wf s.mem = true) :
    Memory.wf (@State.finishNorm s k).mem = true := by
  unfold State.finishNorm; simp +contextual (maxDischargeDepth := 30) [*]

@[simp] theorem State.endOffer_memWf (s : State) (fault : Nat) (o : Offer) (hm : Memory.wf s.mem = true) :
    Memory.wf (@State.endOffer s fault o).mem = true := by
  unfold State.endOffer; simp +contextual (maxDischargeDepth := 30) [*]

@[simp] theorem State.endOffers_memWf (s : State) (h : Nat) (fault : Nat) (hm : Memory.wf s.mem = true) :
    Memory.wf (@State.endOffers s h fault).mem = true := by
  unfold State.endOffers; simp +contextual (maxDischargeDepth := 30) [*]

@[simp] theorem State.failPost_memWf (s : State) (h : Nat) (code : Nat) (x : Relay) (hm : Memory.wf s.mem = true) :
    Memory.wf (@State.failPost s h code x).mem = true := by
  unfold State.failPost; try dsimp only []
  repeat' (first | (simp +contextual (maxDischargeDepth := 30) [*]; done) | split | intro _)

@[simp] theorem State.failNorm_memWf (s : State) (h : Nat) (code : Nat) (x : Relay) (hm : Memory.wf s.mem = true) :
    Memory.wf (@State.failNorm s h code x).mem = true := by
  unfold State.failNorm; simp +contextual (maxDischargeDepth := 30) [*]

@[simp] theorem State.relayFail_memWf (s : State) (h : Nat) (code : Nat) (hm : Memory.wf s.mem = true) :
    Memory.wf (@State.relayFail s h code).mem = true := by
  unfold State.relayFail; simp +contextual (maxDischargeDepth := 30) [*]

@[simp] theorem State.relayStore_memWf (s : State) (h : Nat) (cells : List (Nat × Byte)) (hm : Memory.wf s.mem = true) :
    Memory.wf (@State.relayStore s h cells).mem = true := by
  unfold State.relayStore; simp +contextual (maxDischargeDepth := 30) [*]

@[simp] theorem State.putExp_memWf (s : State) (h : Nat) (b : Nat) (other : Bool) (e : Int) (hm : Memory.wf s.mem = true) :
    Memory.wf (@State.putExp s h b other e).mem = true := by
  unfold State.putExp; simp +contextual (maxDischargeDepth := 30) [*]

@[simp] theorem State.putAcc_memWf (s : State) (h : Nat) (b : Nat) (ws : List Nat) (hm : Memory.wf s.mem = true) :
    Memory.wf (@State.putAcc s h b ws).mem = true := by
  unfold State.putAcc; simp +contextual (maxDischargeDepth := 30) [*]

@[simp] theorem State.setAccepted_memWf (s : State) (h : Nat) (slot : Nat) (b : Nat) (hm : Memory.wf s.mem = true) :
    Memory.wf (@State.setAccepted s h slot b).mem = true := by
  unfold State.setAccepted; simp +contextual (maxDischargeDepth := 30) [*]

@[simp] theorem State.relaySend_memWf (s : State) (h : Nat) (dst : Nat) (kind : Nat) (slot : Nat) (twin : Bool) (b0 : Nat) (n : Nat) (tail : List Byte) (data : List Byte) (send : Nat) (hm : Memory.wf s.mem = true) :
    Memory.wf (@State.relaySend s h dst kind slot twin b0 n tail data send).mem = true := by
  unfold State.relaySend; simp +contextual (maxDischargeDepth := 30) [*]

@[simp] theorem State.landResult_memWf (s : State) (h : Nat) (b : Nat) (codes : List Nat) (hm : Memory.wf s.mem = true) :
    Memory.wf (@State.landResult s h b codes).mem = true := by
  unfold State.landResult; try dsimp only []
  repeat' (first | (simp +contextual (maxDischargeDepth := 30) [*]; done) | split | intro _)

@[simp] theorem State.settleOffers_memWf (s : State) (h : Nat) (hm : Memory.wf s.mem = true) :
    Memory.wf (@State.settleOffers s h).mem = true := by
  unfold State.settleOffers; simp +contextual (maxDischargeDepth := 30) [*]

@[simp] theorem State.sendNorm_memWf (s : State) (h : Nat) (hm : Memory.wf s.mem = true) :
    Memory.wf (@State.sendNorm s h).mem = true := by
  unfold State.sendNorm; simp +contextual (maxDischargeDepth := 30) [*]

@[simp] theorem State.settleRelay_mem (s : State) (h : Nat) :
    (@State.settleRelay s h).mem = s.mem := by
  unfold State.settleRelay; simp

@[simp] theorem State.finalise_memWf (s : State) (h : Nat) (b : Nat) (hm : Memory.wf s.mem = true) :
    Memory.wf (@State.finalise s h b).mem = true := by
  unfold State.finalise; simp +contextual (maxDischargeDepth := 30) [*]

@[simp] theorem State.outResult_memWf (s : State) (h : Nat) (b : Nat) (codes : List Nat) (hm : Memory.wf s.mem = true) :
    Memory.wf (@State.outResult s h b codes).mem = true := by
  unfold State.outResult; simp +contextual (maxDischargeDepth := 30) [*]

@[simp] theorem State.withAcc_memWf (s : State) (h : Nat) (b : Nat) (go : State → State) (hgo : ∀ y0, Memory.wf y0.mem = true → Memory.wf (go y0).mem = true) (hm : Memory.wf s.mem = true) :
    Memory.wf (@State.withAcc s h b go).mem = true := by
  unfold State.withAcc; simp +contextual (maxDischargeDepth := 30) [*]

@[simp] theorem State.relayAdvance_memWf (s : State) (h : Nat) (hm : Memory.wf s.mem = true) :
    Memory.wf (State.relayAdvance s h).mem = true := by
  unfold State.relayAdvance
  split
  · exact State.settleOffers_memWf _ _ hm
  split
  · exact hm
  · try dsimp only []
    have hf : ∀ u : State, Memory.wf u.mem = true →
        Memory.wf (if u.relState h = 2 then ((u.sendNorm h).settleOffers h).settleRelay h else u).mem = true := by
      intro u hu
      split
      · rw [State.settleRelay_mem]
        exact State.settleOffers_memWf _ _ (State.sendNorm_memWf _ _ hu)
      · exact hu
    refine hf _ (foldl_memWf _ _ _ (fun s x hs => ?_) (foldl_memWf _ _ _ (fun s x hs => ?_) hm))
    · try dsimp only []
      repeat' (first | exact hs | (simp (maxDischargeDepth := 30) [hs]; done) | split)
    · split
      · exact State.withAcc_memWf _ _ _ _ (fun s hs => State.finalise_memWf _ _ _ hs) hs
      · exact hs

@[simp] theorem State.compareTwin_mem (s : State) (h : Nat) (slot : Nat) (b : Nat) (codes : List Nat) :
    (@State.compareTwin s h slot b codes).mem = s.mem := by
  unfold State.compareTwin; try dsimp only []
  repeat' (first | (simp [*]; done) | split | intro _)

@[simp] theorem State.contribute_memWf (s : State) (h : Nat) (slot : Nat) (twin : Bool) (b : Nat) (codes : List Nat) (hm : Memory.wf s.mem = true) :
    Memory.wf (@State.contribute s h slot twin b codes).mem = true := by
  unfold State.contribute; simp +contextual (maxDischargeDepth := 30) [*]

@[simp] theorem State.agreeExp_memWf (s : State) (h : Nat) (b : Nat) (e : Int) (hm : Memory.wf s.mem = true) :
    Memory.wf (@State.agreeExp s h b e).mem = true := by
  unfold State.agreeExp; simp +contextual (maxDischargeDepth := 30) [*]

@[simp] theorem State.takeMagnitude_memWf (s : State) (h slot b m : Nat) (hm : Memory.wf s.mem = true) :
    Memory.wf (State.takeMagnitude s h slot b m).mem = true := by
  have h0 : ∀ f : Relay → Relay, Memory.wf (s.modRelay h f).mem = true := fun f => by rw [State.modRelay_mem]; exact hm
  unfold State.takeMagnitude
  dsimp only []
  split
  · exact hm
  · split
    · split
      · exact State.relaySend_memWf _ _ _ _ _ _ _ _ _ _ _ (State.agreeExp_memWf _ _ _ _ (h0 _))
      · exact State.agreeExp_memWf _ _ _ _ (h0 _)
    · exact h0 _

@[simp] theorem State.reportMagnitude_memWf (s : State) (h : Nat) (slot : Nat) (twin : Bool) (b : Nat) (m : Nat) (send : Nat) (hm : Memory.wf s.mem = true) :
    Memory.wf (@State.reportMagnitude s h slot twin b m send).mem = true := by
  unfold State.reportMagnitude; simp +contextual (maxDischargeDepth := 30) [*]

@[simp] theorem State.kvWrite_memWf (s : State) (a : Nat) (n : Nat) (v : Nat) (hm : Memory.wf s.mem = true) :
    Memory.wf (@State.kvWrite s a n v).mem = true := by
  unfold State.kvWrite; simp +contextual (maxDischargeDepth := 30) [*]

@[simp] theorem State.setWheel_memWf (s : State) (w : Nat) (lo : Nat) (len : Nat) (v : Nat) (hm : Memory.wf s.mem = true) :
    Memory.wf (@State.setWheel s w lo len v).mem = true := by
  unfold State.setWheel; simp +contextual (maxDischargeDepth := 30) [*]

@[simp] theorem State.setWheelState_memWf (s : State) (w : Nat) (v : Nat) (hm : Memory.wf s.mem = true) :
    Memory.wf (@State.setWheelState s w v).mem = true := by
  unfold State.setWheelState; simp +contextual (maxDischargeDepth := 30) [*]

@[simp] theorem State.touchAll_mem (s : State) (l : List (Nat × Nat)) :
    (@State.touchAll s l).mem = s.mem := by
  unfold State.touchAll; simp

@[simp] theorem State.forget_mem (s : State) (w : Nat) :
    (@State.forget s w).mem = s.mem := by
  unfold State.forget; simp

@[simp] theorem State.setEntry_memWf (s : State) (wn : Nat) (d : Nat) (i : Nat) (e : Entry) (hm : Memory.wf s.mem = true) :
    Memory.wf (@State.setEntry s wn d i e).mem = true := by
  unfold State.setEntry; try dsimp only []
  repeat' (first | (simp +contextual (maxDischargeDepth := 30) [*]; done) | split | intro _)

@[simp] theorem State.setRec_memWf (s : State) (r : Nat) (lo : Nat) (len : Nat) (v : Nat) (hm : Memory.wf s.mem = true) :
    Memory.wf (@State.setRec s r lo len v).mem = true := by
  unfold State.setRec; simp +contextual (maxDischargeDepth := 30) [*]

theorem State.allocRec_memWf (s : State) (pool : Nat) (r0 : Nat × State) (h0 : @State.allocRec s pool = some r0) (hm : Memory.wf s.mem = true) :
    Memory.wf (r0.2).mem = true := by
  unfold State.allocRec at h0; (try dsimp only [] at h0)
  repeat' split at h0
  all_goals first | (cases h0; done) | (cases h0; first | exact hm | simp (maxDischargeDepth := 30) [*])

@[simp] theorem State.freeRec_memWf (s : State) (r : Nat) (hm : Memory.wf s.mem = true) :
    Memory.wf (@State.freeRec s r).mem = true := by
  unfold State.freeRec; simp +contextual (maxDischargeDepth := 30) [*]

@[simp] theorem State.dropRec_memWf (s : State) (r : Nat) (hm : Memory.wf s.mem = true) :
    Memory.wf (@State.dropRec s r).mem = true := by
  unfold State.dropRec; simp +contextual (maxDischargeDepth := 30) [*]

@[simp] theorem State.swing_memWf (s : State) (wn : Nat) (d : Nat) (i : Nat) (e : Entry) (hm : Memory.wf s.mem = true) :
    Memory.wf (@State.swing s wn d i e).mem = true := by
  unfold State.swing; simp +contextual (maxDischargeDepth := 30) [*]

@[simp] theorem State.clearRange_memWf (s : State) (a : Nat) (n : Nat) (hm : Memory.wf s.mem = true) :
    Memory.wf (@State.clearRange s a n).mem = true := by
  unfold State.clearRange; simp +contextual (maxDischargeDepth := 30) [*]

@[simp] theorem State.zeroRange_memWf (s : State) (dev : Nat) (n : Nat) (hm : Memory.wf s.mem = true) :
    Memory.wf (@State.zeroRange s dev n).mem = true := by
  unfold State.zeroRange; simp +contextual (maxDischargeDepth := 30) [*]

@[simp] theorem State.reclaimRec_memWf (s : State) (r : Nat) (hm : Memory.wf s.mem = true) :
    Memory.wf (@State.reclaimRec s r).mem = true := by
  unfold State.reclaimRec; simp +contextual (maxDischargeDepth := 30) [*]

@[simp] theorem State.giveBack_memWf (s : State) (r : Nat) (hm : Memory.wf s.mem = true) :
    Memory.wf (@State.giveBack s r).mem = true := by
  unfold State.giveBack; simp +contextual (maxDischargeDepth := 30) [*]

@[simp] theorem State.freeTaken_memWf (s : State) (got : List (Nat × Nat × Nat)) (hm : Memory.wf s.mem = true) :
    Memory.wf (State.freeTaken s got).mem = true := by
  unfold State.freeTaken
  apply foldl_memWf
  · intro s x hs
    exact State.giveBack_memWf _ _ hs
  · exact hm

@[simp] theorem State.fetchPeer_mem (s : State) (dev : Nat) (n : Nat) :
    ((@State.fetchPeer s dev n).2).mem = s.mem := by
  unfold State.fetchPeer; simp

@[simp] theorem State.beginPage_mem (s : State) (holder : Nat) (pieces : List (Nat × Nat × Nat)) :
    ((@State.beginPage s holder pieces).2).mem = s.mem := by
  unfold State.beginPage; simp

@[simp] theorem State.writePiece_memWf (s : State) (cp : PageCopy) (x : Nat × Nat × Nat) (hm : Memory.wf s.mem = true) :
    Memory.wf (@State.writePiece s cp x).1.mem = true := by
  unfold State.writePiece; simp +contextual (maxDischargeDepth := 30) [*]

@[simp] theorem State.writePage_memWf (s : State) (cp : PageCopy) (hm : Memory.wf s.mem = true) :
    Memory.wf ((@State.writePage s cp).1).mem = true := by
  unfold State.writePage; simp +contextual (maxDischargeDepth := 30) [*]

@[simp] theorem State.parkNext_memWf (s : State) (wn : Nat) (todo : List (Nat × Nat)) (slots : Nat) (cause : Nat) (k : Option CmdRef) (fault : Nat) (hm : Memory.wf s.mem = true) :
    Memory.wf ((@State.parkNext s wn todo slots cause k fault).2).mem = true := by
  unfold State.parkNext; try dsimp only []
  repeat' (first | (simp +contextual (maxDischargeDepth := 30) [*]; done) | split | intro _)

@[simp] theorem State.startPark_memWf (s : State) (wn : Nat) (cause : Nat) (k : Option CmdRef) (hm : Memory.wf s.mem = true) :
    Memory.wf (@State.startPark s wn cause k).mem = true := by
  unfold State.startPark; simp +contextual (maxDischargeDepth := 30) [*]

@[simp] theorem State.newTry_mem (s : State) (who : Nat) :
    (@State.newTry s who).mem = s.mem := by
  unfold State.newTry; simp

@[simp] theorem State.preempt_memWf (s : State) (pool : Nat) (prio : Nat) (requester : Nat) (who : Nat) (hm : Memory.wf s.mem = true) :
    Memory.wf ((@State.preempt s pool prio requester who).1).mem = true := by
  unfold State.preempt; try dsimp only []
  repeat' (first | (simp +contextual (maxDischargeDepth := 30) [*]; done) | split | intro _)

@[simp] theorem State.joinLine_mem (s : State) (t : Nat) :
    (@State.joinLine s t).mem = s.mem := by
  unfold State.joinLine; simp

@[simp] theorem State.leaveLine_mem (s : State) (t : Nat) :
    (@State.leaveLine s t).mem = s.mem := by
  unfold State.leaveLine; simp

@[simp] theorem State.alterPage_mem (s : State) (f : PageCopy → PageCopy) :
    (@State.alterPage s f).mem = s.mem := by
  unfold State.alterPage; try dsimp only []
  repeat' (first | (simp [*]; done) | split | intro _)

@[simp] theorem State.wheelAnswer_mem (s : State) (src : Nat) (status : Nat) (bs : List Byte) :
    (@State.wheelAnswer s src status bs).mem = s.mem := by
  unfold State.wheelAnswer; simp

@[simp] theorem State.wheelFail_mem (s : State) (fault : Nat) :
    (@State.wheelFail s fault).mem = s.mem := by
  unfold State.wheelFail; simp

@[simp] theorem State.startCow_mem (s : State) (wn : Nat) (d : Nat) (i : Nat) (rec : Nat) (holder : Nat) :
    (@State.startCow s wn d i rec holder).mem = s.mem := by
  unfold State.startCow; simp

@[simp] theorem State.cowStep_memWf (n : Nat) (s : State) (hm : Memory.wf s.mem = true) :
    Memory.wf (State.cowStep n s).mem = true := by
  induction n generalizing s with
  | zero => exact hm
  | succ n ih =>
    unfold State.cowStep
    dsimp only []
    repeat' (first
      | exact hm
      | (apply ih; simp (maxDischargeDepth := 30) [hm]; done)
      | (simp (maxDischargeDepth := 30) [hm]; done)
      | (have h := State.allocRec_memWf _ _ _ ‹_› hm; simp at h; simp (maxDischargeDepth := 30) [h]; done)
      | split)

@[simp] theorem State.wheelProceed_memWf (s : State) (hm : Memory.wf s.mem = true) :
    Memory.wf (@State.wheelProceed s).mem = true := by
  unfold State.wheelProceed; try dsimp only []
  repeat' (first | (simp +contextual (maxDischargeDepth := 30) [*]; done) | split | intro _)

@[simp] theorem State.cachePut_mem (s : State) (t : Nat) (wn : Nat) (d : Nat) (i : Nat) (e : BitVec 128) :
    (@State.cachePut s t wn d i e).mem = s.mem := by
  unfold State.cachePut; simp

@[simp] theorem State.translate_mem (n : Nat) (s : State) (t id : Nat) (e : Option (BitVec 128)) :
    (State.translate n s t id e).mem = s.mem := by
  induction n generalizing s e with
  | zero => rfl
  | succ n ih =>
    unfold State.translate
    dsimp only []
    repeat' (first | (simp [ih]; done) | rfl | (simp; done) | split)

@[simp] theorem State.armEntry_memWf (s : State) (h : Nat) (launch : Option CmdRef) (hm : Memory.wf s.mem = true) :
    Memory.wf (@State.armEntry s h launch).mem = true := by
  unfold State.armEntry; try dsimp only []
  repeat' (first | (simp +contextual (maxDischargeDepth := 30) [*]; done) | split | intro _)

@[simp] theorem execRelArm_memWf (t : Tid) (w : IWord) (s : State) (hm : Memory.wf s.mem = true) :
    Memory.wf (outState (@execRelArm t w s) s).mem = true := by
  unfold execRelArm; simp +contextual (maxDischargeDepth := 30) [*]

@[simp] theorem execRelSend_memWf (t : Tid) (w : IWord) (s : State) (hm : Memory.wf s.mem = true) :
    Memory.wf (outState (@execRelSend t w s) s).mem = true := by
  unfold execRelSend; simp +contextual (maxDischargeDepth := 30) [*]

@[simp] theorem execRelPost_memWf (t : Tid) (w : IWord) (s : State) (hm : Memory.wf s.mem = true) :
    Memory.wf (outState (execRelPost t w s) s).mem = true := by
  unfold execRelPost
  rw [outState_next]
  refine State.issue_memWf _ _ _ _ _ (fun _ => rfl) (fun s x hs => ?_) hm
  dsimp only []
  split
  · exact hs
  split
  · exact hs
  split
  · exact hs
  · simp only [Eff.st_retire]
    apply State.relayAdvance_memWf
    refine foldl_memWf _ _ _ (fun s y hs => ?_) ?_
    · repeat' (first | exact hs | (simp (maxDischargeDepth := 30) [hs]; done) | split)
    · simp (maxDischargeDepth := 30) [hs]

@[simp] theorem State.alterOffer_mem (s : State) (h : Nat) (id : Nat) (f : Offer → Offer) :
    (@State.alterOffer s h id f).mem = s.mem := by
  unfold State.alterOffer; simp

@[simp] theorem State.poisonedOffer_memWf (s : State) (h : Nat) (o : Offer) (b : Nat) (hm : Memory.wf s.mem = true) :
    Memory.wf (@State.poisonedOffer s h o b).mem = true := by
  unfold State.poisonedOffer; simp +contextual (maxDischargeDepth := 30) [*]

@[simp] theorem State.reportOffer_memWf (s : State) (h : Nat) (o : Offer) (b : Nat) (hm : Memory.wf s.mem = true) :
    Memory.wf (@State.reportOffer s h o b).mem = true := by
  unfold State.reportOffer; simp +contextual (maxDischargeDepth := 30) [*]

@[simp] theorem State.lateCopies_mem (s : State) (h : Nat) (slot : Nat) (b0 : Nat) (n : Nat) :
    (@State.lateCopies s h slot b0 n).mem = s.mem := by
  unfold State.lateCopies; simp

@[simp] theorem State.localCopy_memWf (s : State) (h : Nat) (o : Offer) (b : Nat) (hm : Memory.wf s.mem = true) :
    Memory.wf (@State.localCopy s h o b).mem = true := by
  unfold State.localCopy; simp +contextual (maxDischargeDepth := 30) [*]

@[simp] theorem execRelayLocalAccept_memWf (h : Fin 1024) (slot : Fin 1024) (block : Nat) (s : State) (hm : Memory.wf s.mem = true) :
    Memory.wf (outState (@execRelayLocalAccept h slot block s) s).mem = true := by
  unfold execRelayLocalAccept; try dsimp only []
  repeat' (first | (simp +contextual (maxDischargeDepth := 30) [*]; done) | split | intro _)

@[simp] theorem State.sendPartial_memWf (s : State) (h : Nat) (b : Nat) (hm : Memory.wf s.mem = true) :
    Memory.wf (@State.sendPartial s h b).mem = true := by
  unfold State.sendPartial; simp +contextual (maxDischargeDepth := 30) [*]

@[simp] theorem execRelayBlockSend_memWf (h : Fin 1024) (block : Nat) (s : State) (hm : Memory.wf s.mem = true) :
    Memory.wf (outState (@execRelayBlockSend h block s) s).mem = true := by
  unfold execRelayBlockSend; try dsimp only []
  repeat' (first | (simp +contextual (maxDischargeDepth := 30) [*]; done) | split | intro _)

@[simp] theorem execRelayTimeout_memWf (h : Fin 1024) (s : State) (hm : Memory.wf s.mem = true) :
    Memory.wf (outState (@execRelayTimeout h s) s).mem = true := by
  unfold execRelayTimeout; simp +contextual (maxDischargeDepth := 30) [*]

@[simp] theorem execTwinGraceExpiry_mem (h : Fin 1024) (s : State) :
    (outState (@execTwinGraceExpiry h s) s).mem = s.mem := by
  unfold execTwinGraceExpiry; simp

@[simp] theorem State.writeRel_memWf (s : State) (h : Nat) (i : Nat) (mask : Nat) (v : Nat) (hm : Memory.wf s.mem = true) :
    Memory.wf (@State.writeRel s h i mask v).mem = true := by
  unfold State.writeRel; simp +contextual (maxDischargeDepth := 30) [*]

@[simp] theorem execRelayEntryWrite_memWf (h : Fin 1024) (reg : Fin 10) (value : BitVec 64) (s : State) (hm : Memory.wf s.mem = true) :
    Memory.wf (outState (@execRelayEntryWrite h reg value s) s).mem = true := by
  unfold execRelayEntryWrite; simp +contextual (maxDischargeDepth := 30) [*]

@[simp] theorem State.writeNorm_mem (s : State) (k : Nat) (i : Nat) (mask : Nat) (v : Nat) :
    (@State.writeNorm s k i mask v).mem = s.mem := by
  unfold State.writeNorm; simp

@[simp] theorem execNormSetWrite_mem (set : Fin 16) (reg : Fin 4) (value : BitVec 64) (s : State) :
    (outState (@execNormSetWrite set reg value s) s).mem = s.mem := by
  unfold execNormSetWrite; simp

@[simp] theorem execNoiseTailWrite_mem (tail : BitVec 20) (s : State) :
    (outState (@execNoiseTailWrite tail s) s).mem = s.mem := by
  unfold execNoiseTailWrite; simp

@[simp] theorem execNoiseRecordWrite_memWf (set : Fin 16) (s : State) (hm : Memory.wf s.mem = true) :
    Memory.wf (outState (@execNoiseRecordWrite set s) s).mem = true := by
  unfold execNoiseRecordWrite; simp +contextual (maxDischargeDepth := 30) [*]

@[simp] theorem State.dropStale_mem (s : State) (h : Nat) (d : RelHdr) :
    (@State.dropStale s h d).mem = s.mem := by
  unfold State.dropStale; simp

theorem State.relClassify_memWf (s : State) (src : Nat) (d : RelHdr) (x : State) (h0 : State.relClassify s src d = .drop x)
    (hm : Memory.wf s.mem = true) : Memory.wf x.mem = true := by
  unfold State.relClassify at h0
  split at h0
  · cases h0
  · dsimp only [] at h0
    repeat' split at h0
    all_goals first | (cases h0; done) | (cases h0; simp (maxDischargeDepth := 30) [hm])

@[simp] theorem State.takePartial_memWf (s : State) (h : Nat) (b : Nat) (exp : Nat) (esc : Bool) (bs : List Byte) (hm : Memory.wf s.mem = true) :
    Memory.wf (@State.takePartial s h b exp esc bs).mem = true := by
  unfold State.takePartial; simp +contextual (maxDischargeDepth := 30) [*]

@[simp] theorem State.takeBlock_memWf (s : State) (h : Nat) (d : RelHdr) (i : Nat) (bs : List Byte) (hm : Memory.wf s.mem = true) :
    Memory.wf (@State.takeBlock s h d i bs).mem = true := by
  unfold State.takeBlock; try dsimp only []
  repeat' (first | (simp +contextual (maxDischargeDepth := 30) [*]; done) | split | intro _)

@[simp] theorem State.takeBatch_memWf (s : State) (h : Nat) (vc : Nat) (src : Nat) (d : RelHdr) (bs : List Byte) (hm : Memory.wf s.mem = true) :
    Memory.wf (@State.takeBatch s h vc src d bs).mem = true := by
  unfold State.takeBatch; simp +contextual (maxDischargeDepth := 30) [*]

theorem State.relayPacket_memWf (s : State) (rf : RecvFlow) (vc src : Nat) (body : List Byte) (r0 : RecvFlow × State)
    (h0 : State.relayPacket s rf vc src body = some r0) (hm : Memory.wf s.mem = true) : Memory.wf r0.2.mem = true := by
  have hc : ∀ d x, s.relClassify src d = .drop x → Memory.wf x.mem = true := fun d x h => State.relClassify_memWf _ _ _ _ h hm
  unfold State.relayPacket at h0
  dsimp only [] at h0
  split at h0
  · split at h0
    · cases h0
    · cases h0; exact hc _ _ ‹_›
    · cases h0; split <;> simp (maxDischargeDepth := 30) [hm]
  · split at h0
    · cases h0; exact hm
    · split at h0
      · cases h0; exact hm
      · split at h0 <;> (cases h0; simp (maxDischargeDepth := 30) [hm])

@[simp] theorem State.streamFault_mem (s : State) (i : Nat) (code : Nat) :
    (@State.streamFault s i code).mem = s.mem := by
  unfold State.streamFault; simp

@[simp] theorem State.jWrite_memWf (s : State) (i : Nat) (kind : Nat) (seq : Nat) (opc : Nat) (crc : Nat) (hm : Memory.wf s.mem = true) :
    Memory.wf (@State.jWrite s i kind seq opc crc).mem = true := by
  unfold State.jWrite; simp +contextual (maxDischargeDepth := 30) [*]

@[simp] theorem State.writeStreamCtl_mem (s : State) (i : Nat) (mask : Nat) (v : Nat) :
    (@State.writeStreamCtl s i mask v).mem = s.mem := by
  unfold State.writeStreamCtl; simp

@[simp] theorem execStreamEnable_mem (st : Fin 4096) (s : State) :
    (outState (@execStreamEnable st s) s).mem = s.mem := by
  unfold execStreamEnable; simp

@[simp] theorem execStreamDisable_mem (st : Fin 4096) (s : State) :
    (outState (@execStreamDisable st s) s).mem = s.mem := by
  unfold execStreamDisable; simp

@[simp] theorem execStreamStop_mem (st : Fin 4096) (s : State) :
    (outState (@execStreamStop st s) s).mem = s.mem := by
  unfold execStreamStop; simp

@[simp] theorem execStreamResume_mem (st : Fin 4096) (s : State) :
    (outState (@execStreamResume st s) s).mem = s.mem := by
  unfold execStreamResume; simp

@[simp] theorem State.learnTail_mem (s : State) (i : Nat) (v : BitVec 32) :
    (@State.learnTail s i v).mem = s.mem := by
  unfold State.learnTail; simp

@[simp] theorem execTailLineInvalidate_mem (st : Fin 4096) (tail : BitVec 32) (s : State) :
    (outState (@execTailLineInvalidate st tail s) s).mem = s.mem := by
  unfold execTailLineInvalidate; simp

@[simp] theorem execDoorbell_mem (st : Fin 4096) (tail : BitVec 32) (s : State) :
    (outState (@execDoorbell st tail s) s).mem = s.mem := by
  unfold execDoorbell; simp

@[simp] theorem State.screen_mem (s : State) (k : CmdRef) (opc : Nat) :
    (@State.screen s k opc).mem = s.mem := by
  unfold State.screen; simp

@[simp] theorem State.refetch_mem (s : State) (i : Nat) (n : BitVec 32) (entry : BitVec 1024) :
    (@State.refetch s i n entry).mem = s.mem := by
  unfold State.refetch; try dsimp only []
  repeat' (first | (simp [*]; done) | split | intro _)

@[simp] theorem State.haltStream_mem (s : State) (i : Nat) :
    (@State.haltStream s i).mem = s.mem := by
  unfold State.haltStream; simp

@[simp] theorem State.fetchNew_mem (s : State) (i : Nat) (entry : BitVec 1024) :
    (@State.fetchNew s i entry).mem = s.mem := by
  unfold State.fetchNew; simp

@[simp] theorem State.replayEntries_memWf (s : State) (i : Nat) (y0 : List Nat) (hm : Memory.wf s.mem = true) :
    Memory.wf (@State.replayEntries s i y0).mem = true := by
  induction y0 generalizing s with
  | nil => exact hm
  | cons a l ih =>
    unfold State.replayEntries
    try dsimp only []
    repeat' (first | (simp +contextual (maxDischargeDepth := 30) [*]; done) | exact hm | split)

@[simp] theorem State.replayEntry_memWf (s : State) (i : Nat) (hm : Memory.wf s.mem = true) :
    Memory.wf (@State.replayEntry s i).mem = true := by
  unfold State.replayEntry; try dsimp only []
  repeat' (first | (simp +contextual (maxDischargeDepth := 30) [*]; done) | split | intro _)

@[simp] theorem execEntryFetch_memWf (st : Fin 4096) (entry : BitVec 1024) (s : State) (hm : Memory.wf s.mem = true) :
    Memory.wf (outState (@execEntryFetch st entry s) s).mem = true := by
  unfold execEntryFetch; try dsimp only []
  repeat' (first | (simp +contextual (maxDischargeDepth := 30) [*]; done) | split | intro _)

@[simp] theorem State.acceptEntry_memWf (s : State) (i : Nat) (k : CmdRef) (opc : Nat) (c : Cmd) (isFill : Bool) (idle : Bool) (hm : Memory.wf s.mem = true) :
    Memory.wf (@State.acceptEntry s i k opc c isFill idle).mem = true := by
  unfold State.acceptEntry; simp +contextual (maxDischargeDepth := 30) [*]

@[simp] theorem execCommandAccept_memWf (st : Fin 4096) (s : State) (hm : Memory.wf s.mem = true) :
    Memory.wf (outState (@execCommandAccept st s) s).mem = true := by
  unfold execCommandAccept; try dsimp only []
  repeat' (first | (simp +contextual (maxDischargeDepth := 30) [*]; done) | split | intro _)

@[simp] theorem execJtailWrite_mem (tail : BitVec 32) (s : State) :
    (outState (@execJtailWrite tail s) s).mem = s.mem := by
  unfold execJtailWrite; simp

@[simp] theorem execCplHeadWrite_mem (st : Fin 4096) (head : BitVec 32) (s : State) :
    (outState (@execCplHeadWrite st head s) s).mem = s.mem := by
  unfold execCplHeadWrite; simp

@[simp] theorem State.writeRecords_memWf (s : State) (i : Nat) (l : List (Nat × Cmd)) (hm : Memory.wf s.mem = true) :
    Memory.wf (s.writeRecords i l).1.mem = true := by
  induction l generalizing s with
  | nil => exact hm
  | cons a l ih =>
    obtain ⟨key, c⟩ := a
    unfold State.writeRecords
    dsimp only []
    repeat' (first | exact hm | (apply ih; simp (maxDischargeDepth := 30) [hm]; done) | (simp (maxDischargeDepth := 30) [hm]; done) | split)

@[simp] theorem execCommitPoint_memWf (st : Fin 4096) (s : State) (hm : Memory.wf s.mem = true) :
    Memory.wf (outState (@execCommitPoint st s) s).mem = true := by
  unfold execCommitPoint; try dsimp only []
  repeat' (first | (simp +contextual (maxDischargeDepth := 30) [*]; done) | split | intro _)

@[simp] theorem State.interruptStream_mem (s : State) (i : Nat) :
    (@State.interruptStream s i).mem = s.mem := by
  unfold State.interruptStream; simp

@[simp] theorem State.interruptStreams_mem (s : State) :
    (@State.interruptStreams s).mem = s.mem := by
  unfold State.interruptStreams; simp

@[simp] theorem State.beginReplay_memWf (s : State) (i : Nat) (hm : Memory.wf s.mem = true) :
    Memory.wf (@State.beginReplay s i).mem = true := by
  unfold State.beginReplay; try dsimp only []
  repeat' (first | (simp +contextual (maxDischargeDepth := 30) [*]; done) | split | intro _)

@[simp] theorem State.beginReplays_memWf (s : State) (hm : Memory.wf s.mem = true) :
    Memory.wf (@State.beginReplays s).mem = true := by
  unfold State.beginReplays; simp +contextual (maxDischargeDepth := 30) [*]

@[simp] theorem execNopCommand_mem (k : CmdRef) (s : State) :
    (outState (@execNopCommand k s) s).mem = s.mem := by
  unfold execNopCommand; try dsimp only []
  repeat' (first | (simp [*]; done) | split | intro _)

@[simp] theorem execRelaySet_memWf (k : CmdRef) (s : State) (hm : Memory.wf s.mem = true) :
    Memory.wf (outState (@execRelaySet k s) s).mem = true := by
  unfold execRelaySet; try dsimp only []
  repeat' (first | (simp +contextual (maxDischargeDepth := 30) [*]; done) | split | intro _)

@[simp] theorem State.loadPiste_mem (s : State) (i : Nat) (image : List Byte) :
    (@State.loadPiste s i image).mem = s.mem := by
  unfold State.loadPiste; simp

@[simp] theorem State.refusePiste_mem (s : State) (k : CmdRef) (f : Nat) :
    (@State.refusePiste s k f).mem = s.mem := by
  unfold State.refusePiste; simp

@[simp] theorem execPisteLoad_mem (k : CmdRef) (s : State) :
    (outState (@execPisteLoad k s) s).mem = s.mem := by
  unfold execPisteLoad; try dsimp only []
  repeat' (first | (simp [*]; done) | split | intro _)

@[simp] theorem State.answerPiste_mem (s : State) (k : CmdRef) (status : Nat) (bs : List Byte) :
    (@State.answerPiste s k status bs).mem = s.mem := by
  unfold State.answerPiste; try dsimp only []
  repeat' (first | (simp [*]; done) | split | intro _)

@[simp] theorem State.ingFinish_memWf (s : State) (g : Ingest) (hm : Memory.wf s.mem = true) :
    Memory.wf (@State.ingFinish s g).mem = true := by
  unfold State.ingFinish; try dsimp only []
  repeat' (first | (simp +contextual (maxDischargeDepth := 30) [*]; done) | split | intro _)

@[simp] theorem State.ingLog_memWf (s : State) (hm : Memory.wf s.mem = true) :
    Memory.wf (@State.ingLog s).mem = true := by
  unfold State.ingLog; try dsimp only []
  repeat' (first | (simp +contextual (maxDischargeDepth := 30) [*]; done) | split | intro _)

@[simp] theorem execIngest_memWf (k : CmdRef) (s : State) (hm : Memory.wf s.mem = true) :
    Memory.wf (outState (@execIngest k s) s).mem = true := by
  unfold execIngest; try dsimp only []
  repeat' (first | (simp +contextual (maxDischargeDepth := 30) [*]; done) | split | intro _)

@[simp] theorem execIngestLogWrite_memWf (s : State) (hm : Memory.wf s.mem = true) :
    Memory.wf (outState (@execIngestLogWrite s) s).mem = true := by
  unfold execIngestLogWrite; simp +contextual (maxDischargeDepth := 30) [*]

@[simp] theorem execIngLogTailWrite_mem (tail : BitVec 20) (s : State) :
    (outState (@execIngLogTailWrite tail s) s).mem = s.mem := by
  unfold execIngLogTailWrite; simp

@[simp] theorem State.showPipe_mem (s : State) (i : Nat) :
    (@State.showPipe s i).mem = s.mem := by
  unfold State.showPipe; simp

@[simp] theorem State.writePipesEn_mem (s : State) (v : Nat) :
    (@State.writePipesEn s v).mem = s.mem := by
  unfold State.writePipesEn; simp

@[simp] theorem execIngPipesEnWrite_mem (en : BitVec 8) (s : State) :
    (outState (@execIngPipesEnWrite en s) s).mem = s.mem := by
  unfold execIngPipesEnWrite; simp

@[simp] theorem State.readEntry_mem (s : State) (b : IngestBody) (slot : Nat) :
    ((@State.readEntry s b slot).2).mem = s.mem := by
  unfold State.readEntry; simp

@[simp] theorem execSampleDispatch_mem (s : State) :
    (outState (@execSampleDispatch s) s).mem = s.mem := by
  unfold execSampleDispatch; try dsimp only []
  repeat' (first | (simp [*]; done) | split | intro _)

@[simp] theorem execSampleDone_memWf (pipe : Fin 8) (s : State) (hm : Memory.wf s.mem = true) :
    Memory.wf (outState (@execSampleDone pipe s) s).mem = true := by
  unfold execSampleDone; try dsimp only []
  repeat' (first | (simp +contextual (maxDischargeDepth := 30) [*]; done) | split | intro _)

@[simp] theorem State.setLap_mem (s : State) (i : Nat) (x : LapVc) :
    (@State.setLap s i x).mem = s.mem := by
  unfold State.setLap; simp



@[simp] theorem State.geoCompare_mem (s : State) (i : Nat) (g : Nat × Nat) :
    (@State.geoCompare s i g).mem = s.mem := by
  unfold State.geoCompare; simp

@[simp] theorem State.geoArrive_mem (s : State) (i : Nat) (g : Nat × Nat) :
    (@State.geoArrive s i g).mem = s.mem := by
  unfold State.geoArrive; simp

@[simp] theorem State.lapArm_mem (s : State) (i : Nat) :
    (@State.lapArm s i).mem = s.mem := by
  unfold State.lapArm; try dsimp only []
  repeat' (first | (simp [*]; done) | split | intro _)

@[simp] theorem State.lapDisarm_mem (s : State) (i : Nat) :
    (@State.lapDisarm s i).mem = s.mem := by
  unfold State.lapDisarm; simp

@[simp] theorem State.alterPost_mem (s : State) (i : Nat) (id : Nat) (f : Posting → Posting) :
    (@State.alterPost s i id f).mem = s.mem := by
  unfold State.alterPost; simp

theorem State.lapWindow_mem (s : State) (i : Nat) (p : Posting) (r0 : Nat × Nat × State) (h0 : s.lapWindow i p = some r0) :
    r0.2.2.mem = s.mem := by
  unfold State.lapWindow at h0
  split at h0
  · cases h0
  · split at h0
    · cases h0
    · simp only [Option.map_eq_some_iff] at h0
      obtain ⟨a, ha, rfl⟩ := h0
      exact State.windowFor_mem _ _ _ _ ha

@[simp] theorem State.landGliding_memWf (s : State) (core : Nat) (w : Nat) (a : Nat) (bs : List Byte) (bar : Nat) (ep : Nat) (hm : Memory.wf s.mem = true) :
    Memory.wf ((@State.landGliding s core w a bs bar ep).1).mem = true := by
  unfold State.landGliding; simp +contextual (maxDischargeDepth := 30) [*]

@[simp] theorem State.countPieces_memWf (s : State) (ps : List Piece) (f : Piece → Int × Int) (late : Nat) (hm : Memory.wf s.mem = true) :
    Memory.wf ((@State.countPieces s ps f late).1).mem = true := by
  unfold State.countPieces; simp +contextual (maxDischargeDepth := 30) [*]

@[simp] theorem State.lapCount_mem (s : State) (i : Nat) (p : Posting) (off : Nat) (win : Option (Nat × Nat)) :
    (@State.lapCount s i p off win).mem = s.mem := by
  unfold State.lapCount; try dsimp only []
  repeat' (first | (simp [*]; done) | split | intro _)

@[simp] theorem State.lapAccept_memWf (s : State) (i : Nat) (p : Posting) (off : Nat) (bs : List Byte) (hm : Memory.wf s.mem = true) :
    Memory.wf (@State.lapAccept s i p off bs).mem = true := by
  unfold State.lapAccept; try dsimp only []
  repeat' (first | (simp +contextual (maxDischargeDepth := 30) [*]; done) | split | intro _)

@[simp] theorem State.lapGiveBack_memWf (s : State) (i : Nat) (p : Posting) (hm : Memory.wf s.mem = true) :
    Memory.wf (@State.lapGiveBack s i p).mem = true := by
  unfold State.lapGiveBack; try dsimp only []
  repeat' (first | (simp +contextual (maxDischargeDepth := 30) [*]; done) | split | intro _)

@[simp] theorem State.lapReplaced_memWf (s : State) (i count : Nat) (hm : Memory.wf s.mem = true) :
    Memory.wf (s.lapReplaced i count).mem = true := by
  unfold State.lapReplaced
  split
  · exact hm
  · refine foldl_memWf _ _ _ (fun s q hs => ?_) hm
    split <;> simp (maxDischargeDepth := 30) [hs]

@[simp] theorem State.noPost_mem (s : State) (i : Nat) :
    (@State.noPost s i).mem = s.mem := by
  unfold State.noPost; simp

@[simp] theorem State.alterSend_mem (s : State) (i : Nat) (id : Nat) (f : LapSend → LapSend) :
    (@State.alterSend s i id f).mem = s.mem := by
  unfold State.alterSend; simp

@[simp] theorem State.lapSendEnd_mem (s : State) (i : Nat) (q : LapSend) (fault : Nat) :
    (@State.lapSendEnd s i q fault).mem = s.mem := by
  unfold State.lapSendEnd; try dsimp only []
  repeat' (first | (simp [*]; done) | split | intro _)

@[simp] theorem State.lapSent_memWf (s : State) (i : Nat) (id : Nat) (hm : Memory.wf s.mem = true) :
    Memory.wf (@State.lapSent s i id).mem = true := by
  unfold State.lapSent; try dsimp only []
  repeat' (first | (simp +contextual (maxDischargeDepth := 30) [*]; done) | split | intro _)

@[simp] theorem State.lapSliceFailed_mem (s : State) (i : Nat) (id : Nat) (fault : Nat) :
    (@State.lapSliceFailed s i id fault).mem = s.mem := by
  unfold State.lapSliceFailed; try dsimp only []
  repeat' (first | (simp [*]; done) | split | intro _)

@[simp] theorem State.lapGiveUp_mem (s : State) (i : Nat) (fault : Nat) :
    (@State.lapGiveUp s i fault).mem = s.mem := by
  unfold State.lapGiveUp
  dsimp only []
  split
  · rfl
  · rw [State.setLap_mem, foldl_mem]
    intro s k
    split <;> simp

@[simp] theorem State.lapAnswer_mem (s : State) (i : Nat) (id : Nat) (src : Nat) (status : Nat) (bs : List Byte) :
    (@State.lapAnswer s i id src status bs).mem = s.mem := by
  unfold State.lapAnswer; simp

@[simp] theorem State.lapEnqueue_mem (s : State) (i : Nat) (q : LapSend) :
    (@State.lapEnqueue s i q).mem = s.mem := by
  unfold State.lapEnqueue; simp

@[simp] theorem State.writeJobCtl_mem (s : State) (mask : Nat) (v : Nat) :
    (@State.writeJobCtl s mask v).mem = s.mem := by
  unfold State.writeJobCtl; simp

@[simp] theorem execJobEnable_mem (s : State) :
    (outState (@execJobEnable s) s).mem = s.mem := by
  unfold execJobEnable; simp

@[simp] theorem execJobDisable_mem (s : State) :
    (outState (@execJobDisable s) s).mem = s.mem := by
  unfold execJobDisable; simp

@[simp] theorem State.beginStep_mem (s : State) (verify : Bool) (step : Nat) (mapGen : Nat) :
    (@State.beginStep s verify step mapGen).mem = s.mem := by
  unfold State.beginStep; simp

@[simp] theorem execStepBegin_mem (verify : Bool) (step : BitVec 32) (mapGen : BitVec 8) (s : State) :
    (outState (@execStepBegin verify step mapGen s) s).mem = s.mem := by
  unfold execStepBegin; simp

@[simp] theorem State.writeStepRecord_memWf (s : State) (hm : Memory.wf s.mem = true) :
    Memory.wf (@State.writeStepRecord s).mem = true := by
  unfold State.writeStepRecord; try dsimp only []
  repeat' (first | (simp +contextual (maxDischargeDepth := 30) [*]; done) | split | intro _)

@[simp] theorem State.endStep_memWf (s : State) (hm : Memory.wf s.mem = true) :
    Memory.wf (@State.endStep s).mem = true := by
  unfold State.endStep; simp +contextual (maxDischargeDepth := 30) [*]

@[simp] theorem execStepEnd_memWf (s : State) (hm : Memory.wf s.mem = true) :
    Memory.wf (outState (@execStepEnd s) s).mem = true := by
  unfold execStepEnd; simp +contextual (maxDischargeDepth := 30) [*]

@[simp] theorem State.abortStep_memWf (s : State) (hm : Memory.wf s.mem = true) :
    Memory.wf (@State.abortStep s).mem = true := by
  unfold State.abortStep; simp +contextual (maxDischargeDepth := 30) [*]

@[simp] theorem execStepAbort_memWf (s : State) (hm : Memory.wf s.mem = true) :
    Memory.wf (outState (@execStepAbort s) s).mem = true := by
  unfold execStepAbort; simp +contextual (maxDischargeDepth := 30) [*]

@[simp] theorem State.writeStepCmd_memWf (s : State) (v : Nat) (hm : Memory.wf s.mem = true) :
    Memory.wf (@State.writeStepCmd s v).mem = true := by
  unfold State.writeStepCmd; try dsimp only []
  repeat' (first | (simp +contextual (maxDischargeDepth := 30) [*]; done) | split | intro _)

@[simp] theorem execStepRecordWrite_memWf (s : State) (hm : Memory.wf s.mem = true) :
    Memory.wf (outState (@execStepRecordWrite s) s).mem = true := by
  unfold execStepRecordWrite; simp +contextual (maxDischargeDepth := 30) [*]

@[simp] theorem execSrecTailWrite_mem (tail : BitVec 20) (s : State) :
    (outState (@execSrecTailWrite tail s) s).mem = s.mem := by
  unfold execSrecTailWrite; simp

@[simp] theorem State.writeLoss_mem (s : State) (mask : Nat) (v : Nat) :
    (@State.writeLoss s mask v).mem = s.mem := by
  unfold State.writeLoss; simp

@[simp] theorem execJobLossWrite_mem (t : Tid) (loss : BitVec 64) (s : State) :
    (outState (@execJobLossWrite t loss s) s).mem = s.mem := by
  unfold execJobLossWrite; simp

@[simp] theorem State.writePlan_mem (s : State) (plan : Nat) :
    (@State.writePlan s plan).mem = s.mem := by
  unfold State.writePlan; simp

@[simp] theorem execFillPlanWrite_mem (plan : BitVec 16) (s : State) :
    (outState (@execFillPlanWrite plan s) s).mem = s.mem := by
  unfold execFillPlanWrite; simp

end Sys2Proof.Machine
end

