-- ==== Sys2Proof/Laws/Canon3.lean ====
section
/-! SUPPORT. Every operation of the machine keeps memory in canonical form; most leave memory as it was (part 3): Wheels, DramOps, Ckpt, Control, VecOps, Sync, LoadOps, Ports, FwOps. -/

namespace Sys2Proof.Machine

set_option maxRecDepth 4000

@[simp] theorem execKvGet_memWf (t : Tid) (w : IWord) (s : State) (hm : Memory.wf s.mem = true) :
    Memory.wf (outState (execKvGet t w s) s).mem = true := by
  unfold execKvGet
  try dsimp only []
  rw [outState_next]
  refine State.issue_memWf _ _ _ _ _ (fun _ => rfl) ?_ ?_
  · intro s x hs
    try dsimp only []
    repeat' (first | exact hs | (simp (maxDischargeDepth := 30) +contextual [hs]; done) | split)
  · exact hm

@[simp] theorem State.walkFail_memWf (s : State) (t : Nat) (cid : Nat) (hm : Memory.wf s.mem = true) :
    Memory.wf (@State.walkFail s t cid).mem = true := by
  unfold State.walkFail; simp +contextual (maxDischargeDepth := 30) [*]

@[simp] theorem State.walkEnd_memWf (s : State) (t : Nat) (cid : Nat) (q : KvRun) (hm : Memory.wf s.mem = true) :
    Memory.wf (@State.walkEnd s t cid q).mem = true := by
  unfold State.walkEnd; simp +contextual (maxDischargeDepth := 30) [*]

@[simp] theorem execPageWalkDone_memWf (tile : Fin 36) (s : State) (hm : Memory.wf s.mem = true) :
    Memory.wf (outState (@execPageWalkDone tile s) s).mem = true := by
  unfold execPageWalkDone; try dsimp only []
  repeat' (first | (simp +contextual (maxDischargeDepth := 30) [*]; done) | split | intro _)

@[simp] theorem State.putPages_memWf (s : State) (t wn d : Nat) (l : List Nat) (hm : Memory.wf s.mem = true) :
    Memory.wf ((State.putPages s t wn d l).st).mem = true := by
  induction l generalizing s with
  | nil => exact hm
  | cons i rest ih =>
    unfold State.putPages
    dsimp only []
    repeat' (first
      | exact hm
      | (apply ih; simp (maxDischargeDepth := 30) [hm]; done)
      | (simp (maxDischargeDepth := 30) [hm]; done)
      | (have h := State.allocRec_memWf _ _ _ ‹_› hm; simp at h; simp (maxDischargeDepth := 30) [h]; done)
      | (have h := State.allocRec_memWf _ _ _ ‹_› hm; simp at h; apply ih; simp (maxDischargeDepth := 30) [h]; done)
      | split)

@[simp] theorem State.putEntry_mem (s : State) (t : Nat) (wn : Nat) (d : Nat) (i : Nat) :
    ((@State.putEntry s t wn d i).2).mem = s.mem := by
  unfold State.putEntry; try dsimp only []
  repeat' (first | (simp [*]; done) | split | intro _)

@[simp] theorem State.putSegs_mem (s : State) (t : Nat) (wn : Nat) (d : Nat) (dsc : Desc) (token : Nat) (n : Nat) (is : List Nat) :
    ((@State.putSegs s t wn d dsc token n is).2).mem = s.mem := by
  unfold State.putSegs; simp

@[simp] theorem execKvPut_memWf (t : Tid) (w : IWord) (s : State) (hm : Memory.wf s.mem = true) :
    Memory.wf (outState (execKvPut t w s) s).mem = true := by
  unfold execKvPut
  rw [outState_next]
  refine State.issue_memWf _ _ _ _ _ (fun _ => rfl) ?_ ?_
  · intro s x hs
    dsimp only []
    have hu : Memory.wf (if s.inLine t.code then s else s.newTry (t.code + 1)).mem = true := by split <;> simp [hs]
    generalize (if s.inLine t.code then s else s.newTry (t.code + 1)) = u at hu ⊢
    split
    · exact hs
    split
    · simp [hs]
    split
    · exact hs
    split
    · exact hu
    split
    · simp [hu]
    · split
      all_goals
        rename_i s' h
        have hp := congrArg (fun p => Memory.wf (PutPrep.st p).mem) h
        simp [hu] at hp
        simp (maxDischargeDepth := 30) [← hp]
  · exact hm

@[simp] theorem State.wheelCmd_memWf (s : State) (k : CmdRef) (opc : Nat) (used : List (Nat × Nat)) (run : Cmd → State → State) (hrun : ∀ y0 y1, Memory.wf y1.mem = true → Memory.wf (run y0 y1).mem = true) (hm : Memory.wf s.mem = true) :
    Memory.wf (@State.wheelCmd s k opc used run).mem = true := by
  unfold State.wheelCmd; try dsimp only []
  repeat' (first | (simp +contextual (maxDischargeDepth := 30) [*]; done) | split | intro _)

@[simp] theorem State.wheelCmd_mem (s : State) (k : CmdRef) (opc : Nat) (used : List (Nat × Nat)) (run : Cmd → State → State) (hrun : ∀ y0 y1, (run y0 y1).mem = y1.mem) :
    (@State.wheelCmd s k opc used run).mem = s.mem := by
  unfold State.wheelCmd; try dsimp only []
  repeat' (first | (simp [*]; done) | split | intro _)

@[simp] theorem execCreate_memWf (k : CmdRef) (s : State) (hm : Memory.wf s.mem = true) :
    Memory.wf (outState (@execCreate k s) s).mem = true := by
  unfold execCreate; simp +contextual (maxDischargeDepth := 30) [*]

@[simp] theorem execShare_memWf (k : CmdRef) (s : State) (hm : Memory.wf s.mem = true) : Memory.wf (outState (execShare k s) s).mem = true := by
  unfold execShare
  rw [outState_next]
  refine State.wheelCmd_memWf _ _ _ _ _ (fun c s hs => ?_) hm
  dsimp only []
  split
  · simpa using hs
  split
  · simpa using hs
  split
  · simpa using hs
  split
  · simpa using hs
  split
  · simpa using hs
  · rw [State.finishCmd_mem]
    refine foldl_memWf _ _ _ (fun s p hs => ?_) hs
    repeat' (first | exact hs | (simp (maxDischargeDepth := 30) [hs]; done) | split)

@[simp] theorem execWheelCopy_memWf (k : CmdRef) (s : State) (hm : Memory.wf s.mem = true) :
    Memory.wf (outState (@execWheelCopy k s) s).mem = true := by
  unfold execWheelCopy; simp +contextual (maxDischargeDepth := 30) [*]

@[simp] theorem execFree_memWf (k : CmdRef) (s : State) (hm : Memory.wf s.mem = true) :
    Memory.wf (outState (@execFree k s) s).mem = true := by
  unfold execFree; simp +contextual (maxDischargeDepth := 30) [*]

@[simp] theorem execPark_memWf (k : CmdRef) (s : State) (hm : Memory.wf s.mem = true) :
    Memory.wf (outState (@execPark k s) s).mem = true := by
  unfold execPark; simp +contextual (maxDischargeDepth := 30) [*]

@[simp] theorem State.resumeFail_memWf (s : State) (wn : Nat) (got : List (Nat × Nat × Nat)) (k : CmdRef) (rest : List WheelOp) (fault : Nat) (hm : Memory.wf s.mem = true) :
    Memory.wf (@State.resumeFail s wn got k rest fault).mem = true := by
  unfold State.resumeFail; simp +contextual (maxDischargeDepth := 30) [*]

@[simp] theorem State.resumeNext_memWf (s : State) (wn : Nat) (todo : List (Nat × Nat)) (got : List (Nat × Nat × Nat)) (k : CmdRef)
    (rest : List WheelOp) (hm : Memory.wf s.mem = true) : Memory.wf (State.resumeNext s wn todo got k rest).mem = true := by
  unfold State.resumeNext
  dsimp only []
  split
  · simp (maxDischargeDepth := 30) +contextual [hm]
  · split
    · simp (maxDischargeDepth := 30) [hm]
    · have h := State.allocRec_memWf _ _ _ ‹_› hm
      simp at h
      simp (maxDischargeDepth := 30) [h]

@[simp] theorem execResume_memWf (k : CmdRef) (s : State) (hm : Memory.wf s.mem = true) :
    Memory.wf (outState (@execResume k s) s).mem = true := by
  unfold execResume; simp +contextual (maxDischargeDepth := 30) [*]

@[simp] theorem execCaveSlotCopyDone_memWf (s : State) (hm : Memory.wf s.mem = true) :
    Memory.wf (outState (@execCaveSlotCopyDone s) s).mem = true := by
  unfold execCaveSlotCopyDone; try dsimp only []
  repeat' (first | (simp +contextual (maxDischargeDepth := 30) [*]; done) | split | intro _)

@[simp] theorem State.cowFail_memWf (s : State) (rec0 : Nat) (fault : Nat) (cp : PageCopy) (rest : List WheelOp) (hm : Memory.wf s.mem = true) :
    Memory.wf (@State.cowFail s rec0 fault cp rest).mem = true := by
  unfold State.cowFail; try dsimp only []
  repeat' (first | (simp +contextual (maxDischargeDepth := 30) [*]; done) | split | intro _)

@[simp] theorem execCowCopyDone_memWf (s : State) (hm : Memory.wf s.mem = true) :
    Memory.wf (outState (@execCowCopyDone s) s).mem = true := by
  unfold execCowCopyDone; try dsimp only []
  repeat' (first | (simp +contextual (maxDischargeDepth := 30) [*]; done) | split | intro _)

@[simp] theorem State.parkRecord_memWf (s : State) (wn : Nat) (cause : Nat) (fault : Nat) (slots : Nat) (hm : Memory.wf s.mem = true) :
    Memory.wf (@State.parkRecord s wn cause fault slots).mem = true := by
  unfold State.parkRecord; simp +contextual (maxDischargeDepth := 30) [*]

@[simp] theorem execParkFinish_memWf (s : State) (hm : Memory.wf s.mem = true) :
    Memory.wf (outState (@execParkFinish s) s).mem = true := by
  unfold execParkFinish; try dsimp only []
  repeat' (first | (simp +contextual (maxDischargeDepth := 30) [*]; done) | split | intro _)

@[simp] theorem execPoolLowPreempt_memWf (pool : Fin 16) (s : State) (hm : Memory.wf s.mem = true) :
    Memory.wf (outState (@execPoolLowPreempt pool s) s).mem = true := by
  unfold execPoolLowPreempt; try dsimp only []
  repeat' (first | (simp +contextual (maxDischargeDepth := 30) [*]; done) | split | intro _)

@[simp] theorem execFrameReclaim_memWf (rec : BitVec 24) (s : State) (hm : Memory.wf s.mem = true) :
    Memory.wf (outState (@execFrameReclaim rec s) s).mem = true := by
  unfold execFrameReclaim; simp +contextual (maxDischargeDepth := 30) [*]

@[simp] theorem State.kvEnable_mem (s : State) :
    (@State.kvEnable s).mem = s.mem := by
  unfold State.kvEnable; simp

@[simp] theorem execKvEnable_mem (s : State) :
    (outState (@execKvEnable s) s).mem = s.mem := by
  unfold execKvEnable; simp

@[simp] theorem execKvCheckDone_mem (s : State) :
    (outState (@execKvCheckDone s) s).mem = s.mem := by
  unfold execKvCheckDone; try dsimp only []
  repeat' (first | (simp [*]; done) | split | intro _)

@[simp] theorem State.kvDisable_mem (s : State) :
    (@State.kvDisable s).mem = s.mem := by
  unfold State.kvDisable; simp

@[simp] theorem execKvDisable_mem (s : State) :
    (outState (@execKvDisable s) s).mem = s.mem := by
  unfold execKvDisable; simp

@[simp] theorem execKvEvtTailWrite_mem (tail : BitVec 20) (s : State) :
    (outState (@execKvEvtTailWrite tail s) s).mem = s.mem := by
  unfold execKvEvtTailWrite; simp

@[simp] theorem State.addDefect_mem (s : State) (e : Nat) :
    (@State.addDefect s e).mem = s.mem := by
  unfold State.addDefect; simp

@[simp] theorem State.clearTier_memWf (s : State) (k : Tier) (hm : Memory.wf s.mem = true) :
    Memory.wf (@State.clearTier s k).mem = true := by
  unfold State.clearTier; simp +contextual (maxDischargeDepth := 30) [*]

@[simp] theorem State.setMap_memWf (s : State) (k : Tier) (v : Nat) (hm : Memory.wf s.mem = true) :
    Memory.wf (@State.setMap s k v).mem = true := by
  unfold State.setMap; simp +contextual (maxDischargeDepth := 30) [*]

@[simp] theorem State.mapTier_memWf (s : State) (k : Tier) (hm : Memory.wf s.mem = true) :
    Memory.wf (@State.mapTier s k).mem = true := by
  unfold State.mapTier; simp +contextual (maxDischargeDepth := 30) [*]

@[simp] theorem State.writeHashKey_mem (s : State) (k : Tier) (v : Nat) :
    (@State.writeHashKey s k v).mem = s.mem := by
  unfold State.writeHashKey; simp

@[simp] theorem State.showSpares_mem (s : State) (u : Nat) :
    (@State.showSpares s u).mem = s.mem := by
  unfold State.showSpares; simp

@[simp] theorem State.retireDevice_mem (s : State) (u : Nat) (dev : Nat) (pass : Option Nat) :
    (@State.retireDevice s u dev pass).mem = s.mem := by
  unfold State.retireDevice; simp

@[simp] theorem State.retireColumn_mem (s : State) (u : Nat) (index : Nat) :
    (@State.retireColumn s u index).mem = s.mem := by
  unfold State.retireColumn; simp

@[simp] theorem State.foundBad_mem (s : State) (src : Nat) (e : Nat) :
    (@State.foundBad s src e).mem = s.mem := by
  unfold State.foundBad; try dsimp only []
  repeat' (first | (simp [*]; done) | split | intro _)

@[simp] theorem State.countCe_mem (s : State) (x1 : LineHome) :
    (@State.countCe s x1).mem = s.mem := by
  unfold State.countCe; try dsimp only []
  repeat' (first | (simp [*]; done) | split | intro _)

@[simp] theorem State.countUe_mem (s : State) (x1 : LineHome) :
    (@State.countUe s x1).mem = s.mem := by
  unfold State.countUe; try dsimp only []
  repeat' (first | (simp [*]; done) | split | intro _)

@[simp] theorem State.markPermanent_mem (s : State) (h : LineHome) (index : Nat) (hour : Nat) :
    (@State.markPermanent s h index hour).mem = s.mem := by
  unfold State.markPermanent; try dsimp only []
  repeat' (first | (simp [*]; done) | split | intro _)

@[simp] theorem State.correctedUnit_mem (s : State) (h : LineHome) (again : Bool) (hour : Nat) (index : Nat) :
    (@State.correctedUnit s h again hour index).mem = s.mem := by
  unfold State.correctedUnit; simp

@[simp] theorem State.corrected_mem (s : State) (l : Nat) (h : LineHome) (errs : CodeErrors) (hour : Nat) :
    (@State.corrected s l h errs hour).mem = s.mem := by
  unfold State.corrected; simp

@[simp] theorem State.measure_mem (s : State) (kind : Nat) (unit : Nat) (c : UnitCond) (act : Nat) :
    (@State.measure s kind unit c act).mem = s.mem := by
  unfold State.measure; simp

@[simp] theorem State.heavySetting_mem (s : State) (kind : Nat) (unit : Nat) :
    (@State.heavySetting s kind unit).mem = s.mem := by
  unfold State.heavySetting; simp

@[simp] theorem State.useSetting_mem (s : State) (kind : Nat) (unit : Nat) (c : UnitCond) :
    (@State.useSetting s kind unit c).mem = s.mem := by
  unfold State.useSetting; simp

@[simp] theorem State.trainFar_mem (s : State) (u : Nat) (ok : Bool) (c : UnitCond) :
    (@State.trainFar s u ok c).mem = s.mem := by
  unfold State.trainFar; try dsimp only []
  repeat' (first | (simp [*]; done) | split | intro _)

@[simp] theorem State.remapListed_mem (s : State) (u : Nat) :
    (@State.remapListed s u).mem = s.mem := by
  unfold State.remapListed; simp

@[simp] theorem State.showStacks_mem (s : State) :
    (@State.showStacks s).mem = s.mem := by
  unfold State.showStacks; simp

@[simp] theorem State.trainNear_mem (s : State) (u : Nat) (first : Bool) (ok : Bool) (c : UnitCond) :
    (@State.trainNear s u first ok c).mem = s.mem := by
  unfold State.trainNear; simp

@[simp] theorem State.setChk_mem (s : State) (k : CmdRef) (x : Chk) :
    (@State.setChk s k x).mem = s.mem := by
  unfold State.setChk; simp

@[simp] theorem State.storeHeader_mem (s : State) (x : Chk) (valid : Bool) (tag : Nat) (org : Origin) :
    (@State.storeHeader s x valid tag org).mem = s.mem := by
  unfold State.storeHeader; simp

@[simp] theorem State.voidHeader_mem (s : State) (x : Chk) :
    (@State.voidHeader s x).mem = s.mem := by
  unfold State.voidHeader; simp

@[simp] theorem State.endChk_mem (s : State) (k : CmdRef) (x : Chk) (fault : Nat) :
    (@State.endChk s k x fault).mem = s.mem := by
  unfold State.endChk; simp

@[simp] theorem State.sendHeader_mem (s : State) (k : CmdRef) (x : Chk) (valid : Bool) :
    (@State.sendHeader s k x valid).mem = s.mem := by
  unfold State.sendHeader; simp

@[simp] theorem State.saveNext_mem (s : State) (k : CmdRef) (x : Chk) :
    (@State.saveNext s k x).mem = s.mem := by
  unfold State.saveNext; try dsimp only []
  repeat' (first | (simp [*]; done) | split | intro _)

@[simp] theorem State.ackChk_mem (s : State) (k : CmdRef) :
    (@State.ackChk s k).mem = s.mem := by
  unfold State.ackChk; try dsimp only []
  repeat' (first | (simp [*]; done) | split | intro _)

@[simp] theorem State.failChk_mem (s : State) (k : CmdRef) (fault : Nat) :
    (@State.failChk s k fault).mem = s.mem := by
  unfold State.failChk; try dsimp only []
  repeat' (first | (simp [*]; done) | split | intro _)

@[simp] theorem State.fillNext_mem (s : State) (k : CmdRef) (x : Chk) :
    (@State.fillNext s k x).mem = s.mem := by
  unfold State.fillNext; try dsimp only []
  repeat' (first | (simp [*]; done) | split | intro _)

@[simp] theorem State.landChk_memWf (s : State) (k : CmdRef) (x : Chk) (bs : List Byte) (landed : Nat) (hm : Memory.wf s.mem = true) :
    Memory.wf (@State.landChk s k x bs landed).mem = true := by
  unfold State.landChk; try dsimp only []
  repeat' (first | (simp +contextual (maxDischargeDepth := 30) [*]; done) | split | intro _)

@[simp] theorem State.answerChk_memWf (s : State) (k : CmdRef) (status : Nat) (bs : List Byte) (landed : Nat) (hm : Memory.wf s.mem = true) :
    Memory.wf (@State.answerChk s k status bs landed).mem = true := by
  unfold State.answerChk; try dsimp only []
  repeat' (first | (simp +contextual (maxDischargeDepth := 30) [*]; done) | split | intro _)

@[simp] theorem State.resumeChk_memWf (s : State) (k : CmdRef) (x : Chk) (hm : Memory.wf s.mem = true) :
    Memory.wf (@State.resumeChk s k x).mem = true := by
  unfold State.resumeChk; try dsimp only []
  repeat' (first | (simp +contextual (maxDischargeDepth := 30) [*]; done) | split | intro _)

@[simp] theorem State.startChk_mem (s : State) (k : CmdRef) (fill : Bool) :
    (@State.startChk s k fill).mem = s.mem := by
  unfold State.startChk; try dsimp only []
  repeat' (first | (simp [*]; done) | split | intro _)

@[simp] theorem State.runChk_memWf (s : State) (k : CmdRef) (fill : Bool) (hm : Memory.wf s.mem = true) :
    Memory.wf (@State.runChk s k fill).mem = true := by
  unfold State.runChk; try dsimp only []
  repeat' (first | (simp +contextual (maxDischargeDepth := 30) [*]; done) | split | intro _)

@[simp] theorem execCheckpointSave_memWf (k : CmdRef) (s : State) (hm : Memory.wf s.mem = true) :
    Memory.wf (outState (@execCheckpointSave k s) s).mem = true := by
  unfold execCheckpointSave; simp +contextual (maxDischargeDepth := 30) [*]

@[simp] theorem execCheckpointFill_memWf (k : CmdRef) (s : State) (hm : Memory.wf s.mem = true) :
    Memory.wf (outState (@execCheckpointFill k s) s).mem = true := by
  unfold execCheckpointFill; simp +contextual (maxDischargeDepth := 30) [*]

@[simp] theorem jumpTo_mem (s : State) (target : Int) :
    (@jumpTo s target).st.mem = s.mem := by
  unfold jumpTo; simp

@[simp] theorem execNop_mem (t : Tid) (w : IWord) (s : State) :
    (outState (@execNop t w s) s).mem = s.mem := by
  unfold execNop; simp

@[simp] theorem execBr_mem (t : Tid) (w : IWord) (s : State) :
    (outState (@execBr t w s) s).mem = s.mem := by
  unfold execBr; simp

@[simp] theorem testTag_mem (s : State) (t : Tid) (reg : Nat) :
    (@testTag s t reg).mem = s.mem := by
  unfold testTag; simp

@[simp] theorem branchIf_mem (t : Tid) (w : IWord) (s : State) (reg : Nat) (taken : Bool) :
    (@branchIf t w s reg taken).st.mem = s.mem := by
  unfold branchIf; simp

@[simp] theorem execBrz_mem (t : Tid) (w : IWord) (s : State) :
    (outState (@execBrz t w s) s).mem = s.mem := by
  unfold execBrz; simp

@[simp] theorem execBrnz_mem (t : Tid) (w : IWord) (s : State) :
    (outState (@execBrnz t w s) s).mem = s.mem := by
  unfold execBrnz; simp

@[simp] theorem execBrp_mem (t : Tid) (w : IWord) (s : State) :
    (outState (@execBrp t w s) s).mem = s.mem := by
  unfold execBrp; simp

@[simp] theorem execBrnp_mem (t : Tid) (w : IWord) (s : State) :
    (outState (@execBrnp t w s) s).mem = s.mem := by
  unfold execBrnp; simp

@[simp] theorem execCall_mem (t : Tid) (w : IWord) (s : State) : (outState (execCall t w s) s).mem = s.mem := by
  unfold execCall
  try dsimp only []
  rw [outState_next]
  refine State.issue_mem _ _ _ _ _ (fun _ => rfl) ?_
  intro s x
  split
  · rename_i pc s' h
    have hp := congrArg (fun e => (Eff.st e).mem) h
    simp only [jumpTo_mem, Eff.st_jump] at hp
    simp [hp]
  · simp

@[simp] theorem execRet_mem (t : Tid) (w : IWord) (s : State) :
    (outState (@execRet t w s) s).mem = s.mem := by
  unfold execRet; simp

@[simp] theorem execMovi_mem (t : Tid) (w : IWord) (s : State) :
    (outState (@execMovi t w s) s).mem = s.mem := by
  unfold execMovi; simp

@[simp] theorem scalarOp_mem (t : Tid) (w : IWord) (s : State) (mods : Nat) (ok : Bool) (f : BitVec 64 → BitVec 64 → BitVec 64) :
    (@scalarOp t w s mods ok f).mem = s.mem := by
  unfold scalarOp; simp

@[simp] theorem execAdd_mem (t : Tid) (w : IWord) (s : State) :
    (outState (@execAdd t w s) s).mem = s.mem := by
  unfold execAdd; simp

@[simp] theorem execSub_mem (t : Tid) (w : IWord) (s : State) :
    (outState (@execSub t w s) s).mem = s.mem := by
  unfold execSub; simp

@[simp] theorem execMul_mem (t : Tid) (w : IWord) (s : State) :
    (outState (@execMul t w s) s).mem = s.mem := by
  unfold execMul; simp

@[simp] theorem execAnd_mem (t : Tid) (w : IWord) (s : State) :
    (outState (@execAnd t w s) s).mem = s.mem := by
  unfold execAnd; simp

@[simp] theorem execOr_mem (t : Tid) (w : IWord) (s : State) :
    (outState (@execOr t w s) s).mem = s.mem := by
  unfold execOr; simp

@[simp] theorem execXor_mem (t : Tid) (w : IWord) (s : State) :
    (outState (@execXor t w s) s).mem = s.mem := by
  unfold execXor; simp

@[simp] theorem execShl_mem (t : Tid) (w : IWord) (s : State) :
    (outState (@execShl t w s) s).mem = s.mem := by
  unfold execShl; simp

@[simp] theorem execShr_mem (t : Tid) (w : IWord) (s : State) :
    (outState (@execShr t w s) s).mem = s.mem := by
  unfold execShr; simp

@[simp] theorem execSar_mem (t : Tid) (w : IWord) (s : State) :
    (outState (@execSar t w s) s).mem = s.mem := by
  unfold execSar; simp

@[simp] theorem execSmin_mem (t : Tid) (w : IWord) (s : State) :
    (outState (@execSmin t w s) s).mem = s.mem := by
  unfold execSmin; simp

@[simp] theorem execSmax_mem (t : Tid) (w : IWord) (s : State) :
    (outState (@execSmax t w s) s).mem = s.mem := by
  unfold execSmax; simp

@[simp] theorem execUmin_mem (t : Tid) (w : IWord) (s : State) :
    (outState (@execUmin t w s) s).mem = s.mem := by
  unfold execUmin; simp

@[simp] theorem execUmax_mem (t : Tid) (w : IWord) (s : State) :
    (outState (@execUmax t w s) s).mem = s.mem := by
  unfold execUmax; simp

@[simp] theorem execCmp_mem (t : Tid) (w : IWord) (s : State) :
    (outState (@execCmp t w s) s).mem = s.mem := by
  unfold execCmp; simp

@[simp] theorem execSel_mem (t : Tid) (w : IWord) (s : State) :
    (outState (@execSel t w s) s).mem = s.mem := by
  unfold execSel; simp

@[simp] theorem execPset_mem (t : Tid) (w : IWord) (s : State) :
    (outState (@execPset t w s) s).mem = s.mem := by
  unfold execPset; simp

@[simp] theorem execPget_mem (t : Tid) (w : IWord) (s : State) :
    (outState (@execPget t w s) s).mem = s.mem := by
  unfold execPget; simp

@[simp] theorem execDscSet_mem (t : Tid) (w : IWord) (s : State) :
    (outState (@execDscSet t w s) s).mem = s.mem := by
  unfold execDscSet; simp

@[simp] theorem execDscGet_mem (t : Tid) (w : IWord) (s : State) :
    (outState (@execDscGet t w s) s).mem = s.mem := by
  unfold execDscGet; simp

@[simp] theorem execDscOfs_mem (t : Tid) (w : IWord) (s : State) :
    (outState (@execDscOfs t w s) s).mem = s.mem := by
  unfold execDscOfs; simp

@[simp] theorem execGate_mem (t : Tid) (w : IWord) (s : State) :
    (outState (@execGate t w s) s).mem = s.mem := by
  unfold execGate; simp

@[simp] theorem execCycRead_mem (t : Tid) (w : IWord) (s : State) :
    (outState (@execCycRead t w s) s).mem = s.mem := by
  unfold execCycRead; simp

@[simp] theorem execStRead_mem (t : Tid) (w : IWord) (s : State) :
    (outState (@execStRead t w s) s).mem = s.mem := by
  unfold execStRead; simp

@[simp] theorem execRngSeek_mem (t : Tid) (w : IWord) (s : State) :
    (outState (@execRngSeek t w s) s).mem = s.mem := by
  unfold execRngSeek; simp

@[simp] theorem execRngSeekPos_mem (t : Tid) (w : IWord) (s : State) :
    (outState (@execRngSeekPos t w s) s).mem = s.mem := by
  unfold execRngSeekPos; simp

@[simp] theorem laneOp_mem (t : Tid) (w : IWord) (s : State) (ok : Bool) (reads : List Nat) (f : TRegs → Nat → Nat) :
    (@laneOp t w s ok reads f).mem = s.mem := by
  unfold laneOp; simp

@[simp] theorem laneOp2_mem (t : Tid) (w : IWord) (s : State) (f : Nat → Nat → Nat) :
    (@laneOp2 t w s f).mem = s.mem := by
  unfold laneOp2; simp

@[simp] theorem laneOp1_mem (t : Tid) (w : IWord) (s : State) (f : Nat → Nat) :
    (@laneOp1 t w s f).mem = s.mem := by
  unfold laneOp1; simp

@[simp] theorem State.access_memWf (s : State) (t : Nat) (rd wr : List (Nat × Nat)) (k : State → BitVec 8 → Eff)
    (hk : ∀ s b, Memory.wf s.mem = true → Memory.wf (k s b).st.mem = true) (hm : Memory.wf s.mem = true) :
    Memory.wf (s.access t rd wr k).st.mem = true := by
  unfold State.access
  split
  · exact hm
  · split
    · exact hm
    · split
      · exact hm
      · split
        · exact hm
        · apply hk; rw [State.shadowLines_mem _ _ _ _ ‹_›]; exact hm

@[simp] theorem State.access_mem (s : State) (t : Nat) (rd wr : List (Nat × Nat)) (k : State → BitVec 8 → Eff)
    (hk : ∀ s b, (k s b).st.mem = s.mem) : (s.access t rd wr k).st.mem = s.mem := by
  unfold State.access
  split
  · rfl
  · split
    · rfl
    · split
      · rfl
      · split
        · rfl
        · rw [hk]; exact State.shadowLines_mem _ _ _ _ ‹_›

@[simp] theorem State.putTagged_memWf (s : State) (t : Nat) (cells : List (Nat × Byte)) (tag : BitVec 8) (hm : Memory.wf s.mem = true) :
    Memory.wf (@State.putTagged s t cells tag).mem = true := by
  unfold State.putTagged; simp +contextual (maxDischargeDepth := 30) [*]

@[simp] theorem State.putElem_memWf (s : State) (tile : Nat) (d : Desc) (i : Nat) (j : Nat) (code : Nat) (hm : Memory.wf s.mem = true) :
    Memory.wf (@State.putElem s tile d i j code).mem = true := by
  unfold State.putElem; simp +contextual (maxDischargeDepth := 30) [*]

@[simp] theorem execExit_memWf (t : Tid) (w : IWord) (s : State) (hm : Memory.wf s.mem = true) :
    Memory.wf (outState (execExit t w s) s).mem = true := by
  unfold execExit
  try dsimp only []
  rw [outState_next]
  refine State.issue_memWf _ _ _ _ _ (fun _ => rfl) ?_ ?_
  · intro s x hs
    try dsimp only []
    repeat' (first | exact hs | (simp (maxDischargeDepth := 30) +contextual [hs]; done) | split)
  · exact hm

@[simp] theorem execFenceRel_mem (t : Tid) (w : IWord) (s : State) :
    (outState (@execFenceRel t w s) s).mem = s.mem := by
  unfold execFenceRel; simp

@[simp] theorem execFenceAcq_mem (t : Tid) (w : IWord) (s : State) :
    (outState (@execFenceAcq t w s) s).mem = s.mem := by
  unfold execFenceAcq; simp

@[simp] theorem State.changePhase_mem (s : State) (core : Nat) (n : Nat) :
    (@State.changePhase s core n).mem = s.mem := by
  unfold State.changePhase; simp

@[simp] theorem execPhase_mem (t : Tid) (w : IWord) (s : State) :
    (outState (@execPhase t w s) s).mem = s.mem := by
  unfold execPhase; simp

@[simp] theorem State.onBar_memWf (s : State) (t : Tid) (w : IWord) (writes : Bool) (k : State → Nat → Eff)
    (hk : ∀ y a, Memory.wf y.mem = true → Memory.wf (k y a).st.mem = true) (hm : Memory.wf s.mem = true) :
    Memory.wf (s.onBar t w writes k).st.mem = true := by
  unfold State.onBar
  dsimp only []
  split
  · exact hm
  · exact State.access_memWf _ _ _ _ _ (fun s _ => hk s _) hm

@[simp] theorem State.onBar_mem (s : State) (t : Tid) (w : IWord) (writes : Bool) (k : State → Nat → Eff)
    (hk : ∀ y a, (k y a).st.mem = y.mem) : (s.onBar t w writes k).st.mem = s.mem := by
  unfold State.onBar
  dsimp only []
  split
  · rfl
  · exact State.access_mem _ _ _ _ _ (fun s _ => hk s _)

@[simp] theorem execBarInit_memWf (t : Tid) (w : IWord) (s : State) (hm : Memory.wf s.mem = true) :
    Memory.wf (outState (execBarInit t w s) s).mem = true := by
  unfold execBarInit
  try dsimp only []
  rw [outState_next]
  refine State.issue_memWf _ _ _ _ _ (fun _ => rfl) ?_ ?_
  · intro s x hs
    try dsimp only []
    repeat' (first | exact hs | (simp (maxDischargeDepth := 30) +contextual [hs]; done) | split)
  · exact hm

@[simp] theorem arriveBody_memWf (t : Tid) (w : IWord) (bytes : Nat) (s : State) (hm : Memory.wf s.mem = true) :
    Memory.wf (arriveBody t w bytes s).st.mem = true := by
  unfold arriveBody
  apply State.onBar_memWf
  · intro s a hs
    dsimp only []
    repeat' (first | exact hs | (simp (maxDischargeDepth := 30) [hs]; done) | split)
  · exact hm

@[simp] theorem execBarArrive_memWf (t : Tid) (w : IWord) (s : State) (hm : Memory.wf s.mem = true) :
    Memory.wf (outState (@execBarArrive t w s) s).mem = true := by
  unfold execBarArrive; simp +contextual (maxDischargeDepth := 30) [*]

@[simp] theorem execBarArriveTx_memWf (t : Tid) (w : IWord) (s : State) (hm : Memory.wf s.mem = true) :
    Memory.wf (outState (@execBarArriveTx t w s) s).mem = true := by
  unfold execBarArriveTx; simp +contextual (maxDischargeDepth := 30) [*]

@[simp] theorem State.waitOn_mem (s : State) (t : Nat) (a : Nat) :
    (@State.waitOn s t a).st.mem = s.mem := by
  unfold State.waitOn; simp

@[simp] theorem execBarWait_mem (t : Tid) (w : IWord) (s : State) :
    (outState (@execBarWait t w s) s).mem = s.mem := by
  unfold execBarWait; simp

@[simp] theorem execBarWaitGlide_memWf (t : Tid) (w : IWord) (s : State) (hm : Memory.wf s.mem = true) :
    Memory.wf (outState (execBarWaitGlide t w s) s).mem = true := by
  unfold execBarWaitGlide
  try dsimp only []
  rw [outState_next]
  refine State.issue_memWf _ _ _ _ _ (fun _ => rfl) ?_ ?_
  · intro s x hs
    try dsimp only []
    repeat' (first | exact hs | (simp (maxDischargeDepth := 30) +contextual [hs]; done) | split)
  · exact hm

@[simp] theorem State.deliver_mem (s : State) (t : Nat) (l : Load) (v : Nat) :
    (@State.deliver s t l v).mem = s.mem := by
  unfold State.deliver; simp

@[simp] theorem execLocalLoadReturn_mem (t : Tid) (s : State) :
    (outState (@execLocalLoadReturn t s) s).mem = s.mem := by
  unfold execLocalLoadReturn; try dsimp only []
  repeat' (first | (simp [*]; done) | split | intro _)

@[simp] theorem State.answerThread_mem (s : State) (t : Nat) (pc : Nat) (owner : Option CmdRef) (tag : Nat) (status : Nat) (bs : List Byte) :
    (@State.answerThread s t pc owner tag status bs).mem = s.mem := by
  unfold State.answerThread; try dsimp only []
  repeat' (first | (simp [*]; done) | split | intro _)

@[simp] theorem State.answerLanded_memWf (s : State) (tile : Nat) (id : Nat) (landed : Nat) (bs : List Byte) (hm : Memory.wf s.mem = true) :
    Memory.wf (@State.answerLanded s tile id landed bs).mem = true := by
  unfold State.answerLanded; try dsimp only []
  repeat' (first | (simp +contextual (maxDischargeDepth := 30) [*]; done) | split | intro _)

@[simp] theorem State.answerTag_memWf (s : State) (tag : Nat) (status : Nat) (bs : List Byte) (landed : Nat) (hm : Memory.wf s.mem = true) :
    Memory.wf (@State.answerTag s tag status bs landed).mem = true := by
  unfold State.answerTag; try dsimp only []
  repeat' (first | (simp +contextual (maxDischargeDepth := 30) [*]; done) | split | intro _)

@[simp] theorem State.answerArrives_memWf (s : State) (tag : Nat) (status : Nat) (bs : List Byte) (landed : Nat) (hm : Memory.wf s.mem = true) :
    Memory.wf (@State.answerArrives s tag status bs landed).mem = true := by
  unfold State.answerArrives; simp +contextual (maxDischargeDepth := 30) [*]

@[simp] theorem State.requestAcked_memWf (s : State) (tag : Nat) (hm : Memory.wf s.mem = true) :
    Memory.wf (@State.requestAcked s tag).mem = true := by
  unfold State.requestAcked; try dsimp only []
  repeat' (first | (simp +contextual (maxDischargeDepth := 30) [*]; done) | split | intro _)

@[simp] theorem State.statusTag_memWf (s : State) (tag : Nat) (status : Nat) (hm : Memory.wf s.mem = true) :
    Memory.wf (@State.statusTag s tag status).mem = true := by
  unfold State.statusTag; try dsimp only []
  repeat' (first | (simp +contextual (maxDischargeDepth := 30) [*]; done) | split | intro _)

@[simp] theorem State.packetAcked_memWf (s : State) (k : SentPkt) (hm : Memory.wf s.mem = true) :
    Memory.wf (@State.packetAcked s k).mem = true := by
  unfold State.packetAcked; try dsimp only []
  repeat' (first | (simp +contextual (maxDischargeDepth := 30) [*]; done) | split | intro _)

@[simp] theorem State.originFailed_memWf (s : State) (o : Origin) (fault : Nat) (hm : Memory.wf s.mem = true) :
    Memory.wf (@State.originFailed s o fault).mem = true := by
  unfold State.originFailed; try dsimp only []
  repeat' (first | (simp +contextual (maxDischargeDepth := 30) [*]; done) | split | intro _)

@[simp] theorem State.admitFlow_mem (s : State) :
    (@State.admitFlow s).mem = s.mem := by
  unfold State.admitFlow; try dsimp only []
  repeat' (first | (simp [*]; done) | split | intro _)

@[simp] theorem State.lapFlowFailed_mem (s : State) (d : Nat) (vc : Nat) (fault : Nat) :
    (@State.lapFlowFailed s d vc fault).mem = s.mem := by
  unfold State.lapFlowFailed; simp

@[simp] theorem State.failFlow_memWf (s : State) (d : Nat) (vc : Nat) (fault : Nat) (hm : Memory.wf s.mem = true) :
    Memory.wf (@State.failFlow s d vc fault).mem = true := by
  unfold State.failFlow; try dsimp only []
  repeat' (first | (simp +contextual (maxDischargeDepth := 30) [*]; done) | split | intro _)

@[simp] theorem State.reopenFlow_mem (s : State) (d : Nat) (vc : Nat) :
    (@State.reopenFlow s d vc).mem = s.mem := by
  unfold State.reopenFlow; try dsimp only []
  repeat' (first | (simp [*]; done) | split | intro _)

@[simp] theorem State.flowLeft_mem (s : State) (d : Nat) (vc : Nat) (f : SendFlow) (left : List SentPkt) :
    (@State.flowLeft s d vc f left).mem = s.mem := by
  unfold State.flowLeft; simp

@[simp] theorem State.pumpLeft_mem (s : State) (d : Nat) (vc : Nat) :
    (@State.pumpLeft s d vc).mem = s.mem := by
  unfold State.pumpLeft; try dsimp only []
  repeat' (first | (simp [*]; done) | split | intro _)

@[simp] theorem State.ackFlow_memWf (s : State) (d vc : Nat) (epoch : BitVec 16) (seq : BitVec 32) (hm : Memory.wf s.mem = true) :
    Memory.wf (State.ackFlow s d vc epoch seq).mem = true := by
  have h : ∀ (l : List SentPkt) (x : State), Memory.wf x.mem = true → Memory.wf (l.foldl State.packetAcked x).mem = true :=
    fun l x hx => foldl_memWf _ l x (fun s k hs => State.packetAcked_memWf s k hs) hx
  unfold State.ackFlow
  split
  · exact hm
  · split
    · exact hm
    · dsimp only []
      split
      · exact hm
      · rw [State.pumpLeft_mem]
        exact h _ _ (by rw [State.flowLeft_mem]; exact hm)

@[simp] theorem State.resendFlow_mem (s : State) (d : Nat) (vc : Nat) (f : SendFlow) :
    (@State.resendFlow s d vc f).mem = s.mem := by
  unfold State.resendFlow; simp

@[simp] theorem State.endWait_memWf (s : State) (d : Nat) (vc : Nat) (hm : Memory.wf s.mem = true) :
    Memory.wf (@State.endWait s d vc).mem = true := by
  unfold State.endWait; try dsimp only []
  repeat' (first | (simp +contextual (maxDischargeDepth := 30) [*]; done) | split | intro _)

@[simp] theorem State.sendNotice_mem (s : State) (q : Nat) (m : Nat) (p : Nat) (ev : Nat) :
    (@State.sendNotice s q m p ev).mem = s.mem := by
  unfold State.sendNotice; simp

@[simp] theorem State.sendNotices_mem (s : State) (but : Nat) (m : Nat) (p : Nat) (ev : Nat) :
    (@State.sendNotices s but m p ev).mem = s.mem := by
  unfold State.sendNotices; simp

@[simp] theorem State.sendKnown_mem (s : State) (q : Nat) :
    (@State.sendKnown s q).mem = s.mem := by
  unfold State.sendKnown; simp

@[simp] theorem State.switchFlow_mem (s : State) (d : Nat) (vc : Nat) (f : SendFlow) :
    (@State.switchFlow s d vc f).mem = s.mem := by
  unfold State.switchFlow; simp

@[simp] theorem State.rerouteFlow_memWf (s : State) (d : Nat) (vc : Nat) (hm : Memory.wf s.mem = true) :
    Memory.wf (@State.rerouteFlow s d vc).mem = true := by
  unfold State.rerouteFlow; try dsimp only []
  repeat' (first | (simp +contextual (maxDischargeDepth := 30) [*]; done) | split | intro _)

@[simp] theorem State.switchRoute_memWf (s : State) (d : Nat) (vc : Nat) (hm : Memory.wf s.mem = true) :
    Memory.wf (@State.switchRoute s d vc).mem = true := by
  unfold State.switchRoute; try dsimp only []
  repeat' (first | (simp +contextual (maxDischargeDepth := 30) [*]; done) | split | intro _)

@[simp] theorem execFlowRouteSwitch_memWf (dst : ModId) (vc : BitVec 4) (s : State) (hm : Memory.wf s.mem = true) :
    Memory.wf (outState (@execFlowRouteSwitch dst vc s) s).mem = true := by
  unfold execFlowRouteSwitch; simp +contextual (maxDischargeDepth := 30) [*]

@[simp] theorem State.rerouteAll_memWf (s : State) (hm : Memory.wf s.mem = true) :
    Memory.wf (@State.rerouteAll s).mem = true := by
  unfold State.rerouteAll; simp +contextual (maxDischargeDepth := 30) [*]

@[simp] theorem State.recordRetired_mem (s : State) (m : Nat) (p : Nat) :
    (@State.recordRetired s m p).mem = s.mem := by
  unfold State.recordRetired; simp

@[simp] theorem State.forgetRetired_mem (s : State) (m : Nat) (p : Nat) :
    (@State.forgetRetired s m p).mem = s.mem := by
  unfold State.forgetRetired; simp

@[simp] theorem State.dropQueue_mem (s : State) (p : Nat) :
    (@State.dropQueue s p).mem = s.mem := by
  unfold State.dropQueue; simp

@[simp] theorem State.retirePort_memWf (s : State) (p : Nat) (hm : Memory.wf s.mem = true) :
    Memory.wf (@State.retirePort s p).mem = true := by
  unfold State.retirePort; simp +contextual (maxDischargeDepth := 30) [*]

@[simp] theorem State.takeLanes_memWf (s : State) (p : Nat) (hm : Memory.wf s.mem = true) :
    Memory.wf ((@State.takeLanes s p).1).mem = true := by
  unfold State.takeLanes; try dsimp only []
  repeat' (first | (simp +contextual (maxDischargeDepth := 30) [*]; done) | split | intro _)

@[simp] theorem State.portUpNow_mem (s : State) (p : Nat) :
    (@State.portUpNow s p).mem = s.mem := by
  unfold State.portUpNow; simp

@[simp] theorem State.showGateways_mem (s : State) :
    (@State.showGateways s).mem = s.mem := by
  unfold State.showGateways; simp

@[simp] theorem State.showLanes_mem (s : State) (p : Nat) :
    (@State.showLanes s p).mem = s.mem := by
  unfold State.showLanes; simp

@[simp] theorem State.learnLanes_mem (s : State) (p : Nat) (lanes : BitVec 32) :
    (@State.learnLanes s p lanes).mem = s.mem := by
  unfold State.learnLanes; simp

@[simp] theorem State.revivedUp_mem (s : State) (p : Nat) :
    (@State.revivedUp s p).mem = s.mem := by
  unfold State.revivedUp; simp

@[simp] theorem State.retrainFailed_memWf (s : State) (p : Nat) (hm : Memory.wf s.mem = true) :
    Memory.wf (@State.retrainFailed s p).mem = true := by
  unfold State.retrainFailed; simp +contextual (maxDischargeDepth := 30) [*]

@[simp] theorem execPortTrainingDone_memWf (p : Port) (info : TrainInfo) (s : State) (hm : Memory.wf s.mem = true) :
    Memory.wf (outState (@execPortTrainingDone p info s) s).mem = true := by
  unfold execPortTrainingDone; simp +contextual (maxDischargeDepth := 30) [*]

@[simp] theorem State.beginRetrain_mem (s : State) (p : Nat) :
    (@State.beginRetrain s p).mem = s.mem := by
  unfold State.beginRetrain; simp

@[simp] theorem execLaneLossOfLock_mem (p : Port) (lane : Fin 32) (ms : Nat) (s : State) :
    (outState (@execLaneLossOfLock p lane ms s) s).mem = s.mem := by
  unfold execLaneLossOfLock; simp

@[simp] theorem execLaneThresholdReached_memWf (p : Port) (lanes : BitVec 32) (s : State) (hm : Memory.wf s.mem = true) :
    Memory.wf (outState (execLaneThresholdReached p lanes s) s).mem = true := by
  unfold execLaneThresholdReached
  dsimp only []
  split
  · exact hm
  · rw [outState_next]
    have h : ∀ (l : List Nat) (s : State), Memory.wf s.mem = true →
        Memory.wf (l.foldl (fun s _ => s.logRec 0x0606 4 p.val) s).mem = true :=
      fun l s hs => foldl_memWf _ _ _ (fun s _ hs => by rw [State.logRec_mem]; exact hs) hs
    split
    · refine State.retirePort_memWf _ _ (h _ _ ?_)
      simp [hm]
    · split
      · rw [State.setFld_mem]; refine h _ _ ?_; simp [hm]
      · refine h _ _ ?_; simp [hm]

@[simp] theorem execPortDrainDone_mem (p : Port) (s : State) :
    (outState (@execPortDrainDone p s) s).mem = s.mem := by
  unfold execPortDrainDone; simp

@[simp] theorem execPortRetrainDone_memWf (p : Port) (ok : Bool) (peerRetired : BitVec 32) (s : State) (hm : Memory.wf s.mem = true) :
    Memory.wf (outState (@execPortRetrainDone p ok peerRetired s) s).mem = true := by
  unfold execPortRetrainDone; simp +contextual (maxDischargeDepth := 30) [*]

@[simp] theorem execPortDisable_memWf (p : Port) (s : State) (hm : Memory.wf s.mem = true) :
    Memory.wf (outState (@execPortDisable p s) s).mem = true := by
  unfold execPortDisable; simp +contextual (maxDischargeDepth := 30) [*]

@[simp] theorem State.beginTraining_mem (s : State) (p : Nat) :
    (@State.beginTraining s p).mem = s.mem := by
  unfold State.beginTraining; simp

@[simp] theorem State.revivePort_mem (s : State) (p : Nat) :
    (@State.revivePort s p).mem = s.mem := by
  unfold State.revivePort; simp

@[simp] theorem execPortRevive_mem (p : Port) (s : State) :
    (outState (@execPortRevive p s) s).mem = s.mem := by
  unfold execPortRevive; simp

@[simp] theorem State.sealTorus_mem (s : State) :
    (@State.sealTorus s).mem = s.mem := by
  unfold State.sealTorus; simp

@[simp] theorem execTorusSeal_mem (s : State) :
    (outState (@execTorusSeal s) s).mem = s.mem := by
  unfold execTorusSeal; simp

@[simp] theorem State.renamed_mem (s : State) (old : Nat) :
    (@State.renamed s old).mem = s.mem := by
  unfold State.renamed; simp

@[simp] theorem State.takeNotice_memWf (s : State) (p : Nat) (m : Nat) (q : Nat) (ev : Nat) (hm : Memory.wf s.mem = true) :
    Memory.wf (@State.takeNotice s p m q ev).mem = true := by
  unfold State.takeNotice; simp +contextual (maxDischargeDepth := 30) [*]

@[simp] theorem State.countStatus_mem (s : State) (fault : Nat) :
    (@State.countStatus s fault).mem = s.mem := by
  unfold State.countStatus; simp

@[simp] theorem State.sendStatus_mem (s : State) (src : Nat) (image : Nat) (fault : Nat) :
    (@State.sendStatus s src image fault).mem = s.mem := by
  unfold State.sendStatus; simp

@[simp] theorem State.loadCore_memWf (s : State) (dst : Nat) (bs : List Byte) (hm : Memory.wf s.mem = true) :
    Memory.wf (@State.loadCore s dst bs).mem = true := by
  unfold State.loadCore; simp +contextual (maxDischargeDepth := 30) [*]

@[simp] theorem State.imageWhole_memWf (s : State) (x : FwImg) (bs : List Byte) (hm : Memory.wf s.mem = true) :
    Memory.wf ((@State.imageWhole s x bs).2).mem = true := by
  unfold State.imageWhole; simp +contextual (maxDischargeDepth := 30) [*]

@[simp] theorem State.takeChunk_memWf (s : State) (src : Nat) (k : FwImg) (chunk : Nat) (bs : List Byte) (hm : Memory.wf s.mem = true) :
    Memory.wf (@State.takeChunk s src k chunk bs).mem = true := by
  unfold State.takeChunk; simp +contextual (maxDischargeDepth := 30) [*]

@[simp] theorem State.chunkArrives_memWf (s : State) (p : Nat) (from0 : Nat) (body : List Byte) (hm : Memory.wf s.mem = true) :
    Memory.wf (@State.chunkArrives s p from0 body).mem = true := by
  unfold State.chunkArrives; simp +contextual (maxDischargeDepth := 30) [*]

@[simp] theorem State.takeMgmt_memWf (s : State) (p : Nat) (src : Nat) (body : List Byte) (hm : Memory.wf s.mem = true) :
    Memory.wf (@State.takeMgmt s p src body).mem = true := by
  unfold State.takeMgmt; try dsimp only []
  repeat' (first | (simp +contextual (maxDischargeDepth := 30) [*]; done) | split | intro _)

end Sys2Proof.Machine
end

