-- ==== Sys2Proof/Laws/Canon4.lean ====
section
/-! SUPPORT. Every operation of the machine keeps memory in canonical form; most leave memory as it was (part 4): PowerOps, Power, Carrier, Copies, Resync, Spdm, Cxl, DramRows, AtomOps, PacketOps, FlitOps. -/

namespace Sys2Proof.Machine

set_option maxRecDepth 4000

@[simp] theorem State.setBoot_mem (s : State) (b : Boot) :
    (@State.setBoot s b).mem = s.mem := by
  unfold State.setBoot; simp

@[simp] theorem State.stageEnds_mem (s : State) :
    (@State.stageEnds s).mem = s.mem := by
  unfold State.stageEnds; simp

@[simp] theorem State.episode_mem (s : State) (n : Nat) (holds : Bool) (code : Nat) :
    (@State.episode s n holds code).mem = s.mem := by
  unfold State.episode; simp

@[simp] theorem State.stopDomain_mem (s : State) (d : Nat) :
    (@State.stopDomain s d).mem = s.mem := by
  unfold State.stopDomain; simp

@[simp] theorem State.aim_mem (s : State) (d : Nat) (g : Nat × Nat × Bool) :
    (@State.aim s d g).mem = s.mem := by
  unfold State.aim; simp

@[simp] theorem State.startDomain_mem (s : State) (d : Nat) :
    (@State.startDomain s d).mem = s.mem := by
  unfold State.startDomain; simp

@[simp] theorem State.aimCore_mem (s : State) (num : Nat) (den : Nat) :
    (@State.aimCore s num den).mem = s.mem := by
  unfold State.aimCore; simp

@[simp] theorem State.takeLicence_mem (s : State) :
    (@State.takeLicence s).mem = s.mem := by
  unfold State.takeLicence; simp

@[simp] theorem State.noLicence_mem (s : State) :
    (@State.noLicence s).mem = s.mem := by
  unfold State.noLicence; simp

@[simp] theorem State.runFirmware_mem (s : State) (first : Bool) :
    (@State.runFirmware s first).mem = s.mem := by
  unfold State.runFirmware; simp

@[simp] theorem State.showPanel_mem (s : State) (excl : Nat) :
    (@State.showPanel s excl).mem = s.mem := by
  unfold State.showPanel; simp

@[simp] theorem State.refuseStage3_mem (s : State) (code : Nat) :
    (@State.refuseStage3 s code).mem = s.mem := by
  unfold State.refuseStage3; simp

@[simp] theorem State.takeClass_mem (s : State) (first : Bool) :
    (@State.takeClass s first).mem = s.mem := by
  unfold State.takeClass; try dsimp only []
  repeat' (first | (simp [*]; done) | split | intro _)

@[simp] theorem State.liftDone_mem (s : State) (k : Nat) :
    (@State.liftDone s k).mem = s.mem := by
  unfold State.liftDone; simp

@[simp] theorem State.nextLift_mem (n : Nat) (s : State) : (State.nextLift n s).mem = s.mem := by
  induction n generalizing s with
  | zero => unfold State.nextLift; simp
  | succ n ih =>
    unfold State.nextLift
    dsimp only []
    repeat' (first | (simp [ih]; done) | (simp; done) | split)

@[simp] theorem State.beginLifts_mem (s : State) :
    (@State.beginLifts s).mem = s.mem := by
  unfold State.beginLifts; simp

@[simp] theorem State.endWheelOp_memWf (s : State) (o : WheelOp) (hm : Memory.wf s.mem = true) :
    Memory.wf ((@State.endWheelOp s o).2).mem = true := by
  unfold State.endWheelOp; try dsimp only []
  repeat' (first | (simp +contextual (maxDischargeDepth := 30) [*]; done) | split | intro _)

@[simp] theorem State.dropWheelOps_memWf (s : State) (hm : Memory.wf s.mem = true) :
    Memory.wf (@State.dropWheelOps s).mem = true := by
  unfold State.dropWheelOps; simp +contextual (maxDischargeDepth := 30) [*]

@[simp] theorem State.relayLost_memWf (s : State) (h : Nat) (hm : Memory.wf s.mem = true) :
    Memory.wf (@State.relayLost s h).mem = true := by
  unfold State.relayLost; simp +contextual (maxDischargeDepth := 30) [*]

@[simp] theorem State.loseCompute_memWf (s : State) (hm : Memory.wf s.mem = true) :
    Memory.wf (@State.loseCompute s).mem = true := by
  unfold State.loseCompute; simp +contextual (maxDischargeDepth := 30) [*]

@[simp] theorem State.enterCpr_memWf (s : State) (hm : Memory.wf s.mem = true) :
    Memory.wf (@State.enterCpr s).mem = true := by
  unfold State.enterCpr; simp +contextual (maxDischargeDepth := 30) [*]

@[simp] theorem State.holdOrGo_mem (s : State) :
    (@State.holdOrGo s).mem = s.mem := by
  unfold State.holdOrGo; simp

@[simp] theorem State.raiseCpr_memWf (s : State) (cause : Nat) (hm : Memory.wf s.mem = true) :
    Memory.wf (@State.raiseCpr s cause).mem = true := by
  unfold State.raiseCpr; simp +contextual (maxDischargeDepth := 30) [*]

@[simp] theorem State.portsDown_mem (s : State) :
    (@State.portsDown s).mem = s.mem := by
  unfold State.portsDown; simp

@[simp] theorem State.recovered_mem (s : State) :
    (@State.recovered s).mem = s.mem := by
  unfold State.recovered; simp

@[simp] theorem State.loseCrystal_memWf (s : State) (hm : Memory.wf s.mem = true) :
    Memory.wf (@State.loseCrystal s).mem = true := by
  unfold State.loseCrystal; simp +contextual (maxDischargeDepth := 30) [*]

@[simp] theorem State.cleared_memWf (s : State) (hm : Memory.wf s.mem = true) : Memory.wf (State.cleared s).mem = true := rfl

@[simp] theorem State.powerOn_memWf (s : State) (slot : Nat) (hm : Memory.wf s.mem = true) :
    Memory.wf (@State.powerOn s slot).mem = true := by
  unfold State.powerOn; simp +contextual (maxDischargeDepth := 30) [*]

@[simp] theorem execPowerGoodRise_memWf (slotId : BitVec 3) (s : State) (hm : Memory.wf s.mem = true) :
    Memory.wf (outState (@execPowerGoodRise slotId s) s).mem = true := by
  unfold execPowerGoodRise; simp +contextual (maxDischargeDepth := 30) [*]

@[simp] theorem execPowerGoodFall_memWf (s : State) (hm : Memory.wf s.mem = true) :
    Memory.wf (outState (@execPowerGoodFall s) s).mem = true := by
  unfold execPowerGoodFall; try dsimp only []
  repeat' (first | (simp +contextual (maxDischargeDepth := 30) [*]; done) | split | intro _)

@[simp] theorem execInputVoltageLow_mem (mv : BitVec 16) (s : State) :
    (outState (@execInputVoltageLow mv s) s).mem = s.mem := by
  unfold execInputVoltageLow; simp

@[simp] theorem execSidebandReset_memWf (us : Nat) (s : State) (hm : Memory.wf s.mem = true) :
    Memory.wf (outState (@execSidebandReset us s) s).mem = true := by
  unfold execSidebandReset; simp +contextual (maxDischargeDepth := 30) [*]

@[simp] theorem State.loadFlash_mem (s : State) :
    (@State.loadFlash s).mem = s.mem := by
  unfold State.loadFlash; simp

@[simp] theorem execStage0Done_mem (flashOk : Bool) (s : State) :
    (outState (@execStage0Done flashOk s) s).mem = s.mem := by
  unfold execStage0Done; simp

@[simp] theorem execFirmwareSelect_mem (a : FwSlot) (b : FwSlot) (lic : Licence) (pend : Licence) (s : State) :
    (outState (@execFirmwareSelect a b lic pend s) s).mem = s.mem := by
  unfold execFirmwareSelect; simp

@[simp] theorem execFwSlotWrite_mem (slotB : Bool) (img : FwSlot) (s : State) :
    (outState (@execFwSlotWrite slotB img s) s).mem = s.mem := by
  unfold execFwSlotWrite; simp

@[simp] theorem State.quickBist_mem (s : State) (r : BistResult) :
    (@State.quickBist s r).mem = s.mem := by
  unfold State.quickBist; simp

@[simp] theorem execStage2Start_mem (dimms : List (Fin 24 × Dimm)) (tests : List BistResult) (s : State) :
    (outState (@execStage2Start dimms tests s) s).mem = s.mem := by
  unfold execStage2Start; simp

@[simp] theorem execDramTrainingDone_mem (tier : Tier) (unit : Fin 24) (ok : Bool) (c : UnitCond) (s : State) :
    (outState (@execDramTrainingDone tier unit ok c s) s).mem = s.mem := by
  unfold execDramTrainingDone; try dsimp only []
  repeat' (first | (simp [*]; done) | split | intro _)

@[simp] theorem State.mapIfNot_memWf (s : State) (k : Tier) (hm : Memory.wf s.mem = true) :
    Memory.wf (@State.mapIfNot s k).mem = true := by
  unfold State.mapIfNot; simp +contextual (maxDischargeDepth := 30) [*]

@[simp] theorem State.bringUpLifts_mem (s : State) :
    (@State.bringUpLifts s).mem = s.mem := by
  unfold State.bringUpLifts; simp

@[simp] theorem execStage2Done_memWf (s : State) (hm : Memory.wf s.mem = true) :
    Memory.wf (outState (@execStage2Done s) s).mem = true := by
  unfold execStage2Done; simp +contextual (maxDischargeDepth := 30) [*]

@[simp] theorem execLiftRailCheck_mem (bad : BitVec 36) (supply : BitVec 2) (s : State) :
    (outState (@execLiftRailCheck bad supply s) s).mem = s.mem := by
  unfold execLiftRailCheck; try dsimp only []
  repeat' (first | (simp [*]; done) | split | intro _)

@[simp] theorem execLiftBistEnd_mem (tests : List BistResult) (s : State) :
    (outState (@execLiftBistEnd tests s) s).mem = s.mem := by
  unfold execLiftBistEnd; try dsimp only []
  repeat' (first | (simp [*]; done) | split | intro _)

@[simp] theorem execXtalDelayExpiry_mem (s : State) :
    (outState (@execXtalDelayExpiry s) s).mem = s.mem := by
  unfold execXtalDelayExpiry; simp

@[simp] theorem execXtalQualWindowEnd_mem (edges : Bool) (count : BitVec 32) (s : State) :
    (outState (@execXtalQualWindowEnd edges count s) s).mem = s.mem := by
  unfold execXtalQualWindowEnd; simp

@[simp] theorem execXtalRetryTimer_mem (s : State) :
    (outState (@execXtalRetryTimer s) s).mem = s.mem := by
  unfold execXtalRetryTimer; simp

@[simp] theorem execXtalMonitorWindowEnd_memWf (count : BitVec 32) (s : State) (hm : Memory.wf s.mem = true) :
    Memory.wf (outState (@execXtalMonitorWindowEnd count s) s).mem = true := by
  unfold execXtalMonitorWindowEnd; simp +contextual (maxDischargeDepth := 30) [*]

@[simp] theorem execPllLock_mem (locked : Bool) (s : State) :
    (outState (@execPllLock locked s) s).mem = s.mem := by
  unfold execPllLock; simp

@[simp] theorem execDomainRampStep_mem (d : Fin 8) (s : State) :
    (outState (@execDomainRampStep d s) s).mem = s.mem := by
  unfold execDomainRampStep; simp

@[simp] theorem State.writeCoreRatio_mem (s : State) (num : Nat) (den : Nat) :
    (@State.writeCoreRatio s num den).mem = s.mem := by
  unfold State.writeCoreRatio; simp

@[simp] theorem execCoreRatioWrite_mem (num : BitVec 16) (den : BitVec 16) (s : State) :
    (outState (@execCoreRatioWrite num den s) s).mem = s.mem := by
  unfold execCoreRatioWrite; simp

@[simp] theorem execDroopDetect_mem (tile : Fin 36) (s : State) :
    (outState (@execDroopDetect tile s) s).mem = s.mem := by
  unfold execDroopDetect; simp

@[simp] theorem execDroopRecover_mem (tile : Fin 36) (s : State) :
    (outState (@execDroopRecover tile s) s).mem = s.mem := by
  unfold execDroopRecover; simp

@[simp] theorem execFreqCountGate_mem (d : Fin 8) (count : BitVec 32) (s : State) :
    (outState (@execFreqCountGate d count s) s).mem = s.mem := by
  unfold execFreqCountGate; simp

@[simp] theorem State.controlCore_mem (s : State) (r : Nat × Nat) :
    (@State.controlCore s r).mem = s.mem := by
  unfold State.controlCore; simp

@[simp] theorem execPowerControlTick_mem (panelW : BitVec 16) (dimmW : BitVec 16) (hottest : BitVec 8) (s : State) :
    (outState (@execPowerControlTick panelW dimmW hottest s) s).mem = s.mem := by
  unfold execPowerControlTick; simp

@[simp] theorem execTileTempTrip_memWf (tile : Fin 36) (temp : BitVec 8) (s : State) (hm : Memory.wf s.mem = true) :
    Memory.wf (outState (@execTileTempTrip tile temp s) s).mem = true := by
  unfold execTileTempTrip; simp +contextual (maxDischargeDepth := 30) [*]

@[simp] theorem execCoolantSample_mem (inlet : BitVec 8) (flow : BitVec 16) (s : State) :
    (outState (@execCoolantSample inlet flow s) s).mem = s.mem := by
  unfold execCoolantSample; simp

@[simp] theorem execCoolantTripTimer_memWf (s : State) (hm : Memory.wf s.mem = true) :
    Memory.wf (outState (@execCoolantTripTimer s) s).mem = true := by
  unfold execCoolantTripTimer; simp +contextual (maxDischargeDepth := 30) [*]

@[simp] theorem execIinLimitReached_mem (da : BitVec 16) (s : State) :
    (outState (@execIinLimitReached da s) s).mem = s.mem := by
  unfold execIinLimitReached; simp

@[simp] theorem execIinLimitClear_mem (da : BitVec 16) (s : State) :
    (outState (@execIinLimitClear da s) s).mem = s.mem := by
  unfold execIinLimitClear; simp

@[simp] theorem State.showMarked_mem (s : State) :
    (@State.showMarked s).mem = s.mem := by
  unfold State.showMarked; simp

@[simp] theorem execBgSettingCheck_mem (u : SettingUnit) (o : UnitCheck) (s : State) :
    (outState (@execBgSettingCheck u o s) s).mem = s.mem := by
  unfold execBgSettingCheck; simp

@[simp] theorem execQuietWindowRetrain_mem (s : State) :
    (outState (@execQuietWindowRetrain s) s).mem = s.mem := by
  unfold execQuietWindowRetrain; try dsimp only []
  repeat' (first | (simp [*]; done) | split | intro _)

@[simp] theorem State.retireUnit_memWf (s : State) (u : SettingUnit) (hm : Memory.wf s.mem = true) :
    Memory.wf (@State.retireUnit s u).mem = true := by
  unfold State.retireUnit; try dsimp only []
  repeat' (first | (simp +contextual (maxDischargeDepth := 30) [*]; done) | split | intro _)

@[simp] theorem State.remeasure_mem (s : State) (u : SettingUnit) (c : UnitCond) :
    (@State.remeasure s u c).mem = s.mem := by
  unfold State.remeasure; simp

@[simp] theorem execRetrainDone_memWf (ok : Bool) (c : UnitCond) (s : State) (hm : Memory.wf s.mem = true) :
    Memory.wf (outState (@execRetrainDone ok c s) s).mem = true := by
  unfold execRetrainDone; try dsimp only []
  repeat' (first | (simp +contextual (maxDischargeDepth := 30) [*]; done) | split | intro _)

@[simp] theorem State.requestCpr_memWf (s : State) (hm : Memory.wf s.mem = true) :
    Memory.wf (@State.requestCpr s).mem = true := by
  unfold State.requestCpr; simp +contextual (maxDischargeDepth := 30) [*]

@[simp] theorem execCprRequest_memWf (s : State) (hm : Memory.wf s.mem = true) :
    Memory.wf (outState (@execCprRequest s) s).mem = true := by
  unfold execCprRequest; simp +contextual (maxDischargeDepth := 30) [*]

@[simp] theorem execRailFault_memWf (s : State) (hm : Memory.wf s.mem = true) :
    Memory.wf (outState (@execRailFault s) s).mem = true := by
  unfold execRailFault; simp +contextual (maxDischargeDepth := 30) [*]

@[simp] theorem execCprRelease_mem (s : State) :
    (outState (@execCprRelease s) s).mem = s.mem := by
  unfold execCprRelease; simp

@[simp] theorem execComputeBringupStep_memWf (s : State) (hm : Memory.wf s.mem = true) :
    Memory.wf (outState (@execComputeBringupStep s) s).mem = true := by
  unfold execComputeBringupStep; simp +contextual (maxDischargeDepth := 30) [*]

@[simp] theorem State.loseWheels_memWf (s : State) (hm : Memory.wf s.mem = true) :
    Memory.wf (@State.loseWheels s).mem = true := by
  unfold State.loseWheels; simp +contextual (maxDischargeDepth := 30) [*]

@[simp] theorem execComputeBringupDone_memWf (s : State) (hm : Memory.wf s.mem = true) :
    Memory.wf (outState (@execComputeBringupDone s) s).mem = true := by
  unfold execComputeBringupDone; simp +contextual (maxDischargeDepth := 30) [*]

@[simp] theorem State.putBit_mem (s : State) (f : Fld) (i : Nat) (v : Bool) :
    (@State.putBit s f i v).mem = s.mem := by
  unfold State.putBit; simp

@[simp] theorem State.portDark_mem (s : State) (p : Nat) :
    (@State.portDark s p).mem = s.mem := by
  unfold State.portDark; simp

@[simp] theorem State.cutCable_mem (s : State) (p : Nat) :
    (@State.cutCable s p).mem = s.mem := by
  unfold State.cutCable; simp

@[simp] theorem execCableSeated_mem (p : Port) (watts : BitVec 8) (s : State) :
    (outState (@execCableSeated p watts s) s).mem = s.mem := by
  unfold execCableSeated; simp

@[simp] theorem execCableRemoved_mem (p : Port) (s : State) :
    (outState (@execCableRemoved p s) s).mem = s.mem := by
  unfold execCableRemoved; simp

@[simp] theorem execCableOverdraw_mem (p : Port) (s : State) :
    (outState (@execCableOverdraw p s) s).mem = s.mem := by
  unfold execCableOverdraw; simp

@[simp] theorem execDimmOverdraw_mem (unit : Fin 24) (s : State) :
    (outState (@execDimmOverdraw unit s) s).mem = s.mem := by
  unfold execDimmOverdraw; simp

@[simp] theorem execDimmOverdrawClear_mem (unit : Fin 24) (s : State) :
    (outState (@execDimmOverdrawClear unit s) s).mem = s.mem := by
  unfold execDimmOverdrawClear; simp

@[simp] theorem execDimmFuseOpen_mem (unit : Fin 24) (s : State) :
    (outState (@execDimmFuseOpen unit s) s).mem = s.mem := by
  unfold execDimmFuseOpen; simp

@[simp] theorem execLeakDetect_memWf (s : State) (hm : Memory.wf s.mem = true) :
    Memory.wf (outState (@execLeakDetect s) s).mem = true := by
  unfold execLeakDetect; simp +contextual (maxDischargeDepth := 30) [*]

@[simp] theorem execLeakClear_mem (s : State) :
    (outState (@execLeakClear s) s).mem = s.mem := by
  unfold execLeakClear; simp

@[simp] theorem execI3cAddressAssign_mem (addr : BitVec 7) (s : State) :
    (outState (@execI3cAddressAssign addr s) s).mem = s.mem := by
  unfold execI3cAddressAssign; simp

@[simp] theorem execMove_memWf (t : Tid) (w : IWord) (s : State) (hm : Memory.wf s.mem = true) :
    Memory.wf (outState (execMove t w s) s).mem = true := by
  unfold execMove
  try dsimp only []
  rw [outState_next]
  refine State.issue_memWf _ _ _ _ _ (fun _ => rfl) ?_ ?_
  · intro s x hs
    try dsimp only []
    repeat' (first | exact hs | (simp (maxDischargeDepth := 30) +contextual [hs]; done) | split)
  · exact hm

@[simp] theorem execMoveT_memWf (t : Tid) (w : IWord) (s : State) (hm : Memory.wf s.mem = true) :
    Memory.wf (outState (execMoveT t w s) s).mem = true := by
  unfold execMoveT
  try dsimp only []
  rw [outState_next]
  refine State.issue_memWf _ _ _ _ _ (fun _ => rfl) ?_ ?_
  · intro s x hs
    try dsimp only []
    repeat' (first | exact hs | (simp (maxDischargeDepth := 30) +contextual [hs]; done) | split)
  · exact hm

@[simp] theorem State.copyCmd_memWf (s : State) (k : CmdRef) (opc : Nat) (used : List (Nat × Nat)) (room : Cmd → State → Bool)
    (run : Cmd → State → State) (hrun : ∀ c s, Memory.wf s.mem = true → Memory.wf (run c s).mem = true)
    (hm : Memory.wf s.mem = true) : Memory.wf (s.copyCmd k opc used room run).mem = true := by
  unfold State.copyCmd
  split
  · exact hm
  · repeat' (first | (simp [hm]; done) | (apply hrun; simp [hm]; done) | split)

@[simp] theorem State.copyCmd_mem (s : State) (k : CmdRef) (opc : Nat) (used : List (Nat × Nat)) (room : Cmd → State → Bool)
    (run : Cmd → State → State) (hrun : ∀ c s, (run c s).mem = s.mem) : (s.copyCmd k opc used room run).mem = s.mem := by
  unfold State.copyCmd
  split
  · rfl
  · repeat' (first | (simp [hrun]; done) | split)

@[simp] theorem execCopy_memWf (k : CmdRef) (s : State) (hm : Memory.wf s.mem = true) : Memory.wf (outState (execCopy k s) s).mem = true := by
  unfold execCopy
  rw [outState_next]
  apply State.copyCmd_memWf
  · intro c s hs
    dsimp only []
    repeat' (first | exact hs | (simp (maxDischargeDepth := 30) [hs]; done) | split)
  · exact hm

@[simp] theorem execCopyT_memWf (k : CmdRef) (s : State) (hm : Memory.wf s.mem = true) : Memory.wf (outState (execCopyT k s) s).mem = true := by
  unfold execCopyT
  rw [outState_next]
  apply State.copyCmd_memWf
  · intro c s hs
    dsimp only []
    repeat' (first | exact hs | (simp (maxDischargeDepth := 30) [hs]; done) | split)
  · exact hm

@[simp] theorem execCave_memWf (k : CmdRef) (s : State) (hm : Memory.wf s.mem = true) : Memory.wf (outState (execCave k s) s).mem = true := by
  unfold execCave
  rw [outState_next]
  apply State.copyCmd_memWf
  · intro c s hs
    dsimp only []
    repeat' (first | exact hs | (simp (maxDischargeDepth := 30) [hs]; done) | split)
  · exact hm

@[simp] theorem State.assemble_mem (s : State) :
    ((@State.assemble s).2).mem = s.mem := by
  unfold State.assemble; simp

@[simp] theorem State.snapshot_mem (s : State) (rec0 : List Byte) :
    (@State.snapshot s rec0).mem = s.mem := by
  unfold State.snapshot; simp

@[simp] theorem execResync_memWf (k : CmdRef) (s : State) (hm : Memory.wf s.mem = true) :
    Memory.wf (outState (@execResync k s) s).mem = true := by
  unfold execResync; try dsimp only []
  repeat' (first | (simp +contextual (maxDischargeDepth := 30) [*]; done) | split | intro _)

@[simp] theorem execResyncSnapshotRefresh_mem (s : State) :
    (outState (@execResyncSnapshotRefresh s) s).mem = s.mem := by
  unfold execResyncSnapshotRefresh; simp

@[simp] theorem execMctpResyncPage_mem (page : BitVec 16) (s : State) :
    (outState (@execMctpResyncPage page s) s).mem = s.mem := by
  unfold execMctpResyncPage; simp

@[simp] theorem State.drawBytes_mem (s : State) (n : Nat) :
    ((@State.drawBytes s n).2).mem = s.mem := by
  unfold State.drawBytes; simp

@[simp] theorem State.answer_mem (s : State) (m : Spdm) (code : Nat) (p1 : Nat) (p2 : Nat) (body : List Byte) :
    (@State.answer s m code p1 p2 body).mem = s.mem := by
  unfold State.answer; simp

@[simp] theorem State.refuseSpdm_mem (s : State) (m : Spdm) (code : Nat) :
    (@State.refuseSpdm s m code).mem = s.mem := by
  unfold State.refuseSpdm; simp

@[simp] theorem State.setTrust_mem (s : State) (x : Trust) :
    (@State.setTrust s x).mem = s.mem := by
  unfold State.setTrust; simp

@[simp] theorem State.respond_mem (s : State) (m : Spdm) (go : State → State) (hgo : ∀ y0, (go y0).mem = y0.mem) :
    (@State.respond s m go).mem = s.mem := by
  unfold State.respond; try dsimp only []
  repeat' (first | (simp [*]; done) | split | intro _)

@[simp] theorem State.chainDigest_mem (s : State) :
    ((@State.chainDigest s).2).mem = s.mem := by
  unfold State.chainDigest; simp

@[simp] theorem State.answerChallenge_mem (s : State) (m : Spdm) :
    (@State.answerChallenge s m).mem = s.mem := by
  unfold State.answerChallenge; simp

@[simp] theorem State.answerMeasure_mem (s : State) (m : Spdm) :
    (@State.answerMeasure s m).mem = s.mem := by
  unfold State.answerMeasure; simp

@[simp] theorem State.answerExchange_mem (s : State) (m : Spdm) :
    (@State.answerExchange s m).mem = s.mem := by
  unfold State.answerExchange; try dsimp only []
  repeat' (first | (simp [*]; done) | split | intro _)

@[simp] theorem State.answerRandom_mem (s : State) (code : Nat) (m : Spdm) :
    (@State.answerRandom s code m).mem = s.mem := by
  unfold State.answerRandom; try dsimp only []
  repeat' (first | (simp [*]; done) | split | intro _)

@[simp] theorem State.respond_memWf (s : State) (m : Spdm) (go : State → State) (hgo : ∀ y0, Memory.wf y0.mem = true → Memory.wf (go y0).mem = true) (hm : Memory.wf s.mem = true) :
    Memory.wf (@State.respond s m go).mem = true := by
  unfold State.respond; simp +contextual (maxDischargeDepth := 30) [*]

@[simp] theorem State.needRandom_mem (s : State) (code : Nat) (m : Spdm) :
    (@State.needRandom s code m).mem = s.mem := by
  unfold State.needRandom; simp

@[simp] theorem State.answerStalled_mem (s : State) :
    (@State.answerStalled s).mem = s.mem := by
  unfold State.answerStalled; simp

@[simp] theorem execGetVersion_mem (m : Spdm) (s : State) :
    (outState (@execGetVersion m s) s).mem = s.mem := by
  unfold execGetVersion; simp

@[simp] theorem execGetCapabilities_mem (m : Spdm) (s : State) :
    (outState (@execGetCapabilities m s) s).mem = s.mem := by
  unfold execGetCapabilities; simp

@[simp] theorem execNegotiateAlgorithms_mem (m : Spdm) (s : State) :
    (outState (@execNegotiateAlgorithms m s) s).mem = s.mem := by
  unfold execNegotiateAlgorithms; simp

@[simp] theorem execGetDigests_mem (m : Spdm) (s : State) :
    (outState (@execGetDigests m s) s).mem = s.mem := by
  unfold execGetDigests; simp

@[simp] theorem execGetCertificate_mem (m : Spdm) (s : State) :
    (outState (@execGetCertificate m s) s).mem = s.mem := by
  unfold execGetCertificate; simp

@[simp] theorem execChallenge_mem (m : Spdm) (s : State) :
    (outState (@execChallenge m s) s).mem = s.mem := by
  unfold execChallenge; simp

@[simp] theorem execGetMeasurements_mem (m : Spdm) (s : State) :
    (outState (@execGetMeasurements m s) s).mem = s.mem := by
  unfold execGetMeasurements; simp

@[simp] theorem execKeyExchange_mem (m : Spdm) (s : State) :
    (outState (@execKeyExchange m s) s).mem = s.mem := by
  unfold execKeyExchange; simp

@[simp] theorem execFinish_mem (m : Spdm) (s : State) :
    (outState (@execFinish m s) s).mem = s.mem := by
  unfold execFinish; try dsimp only []
  repeat' (first | (simp [*]; done) | split | intro _)

@[simp] theorem State.inSession_memWf (s : State) (m : Spdm) (go : Nat → State → State)
    (hgo : ∀ n s, Memory.wf s.mem = true → Memory.wf (go n s).mem = true) (hm : Memory.wf s.mem = true) :
    Memory.wf (s.inSession m go).mem = true := by
  unfold State.inSession
  apply State.respond_memWf
  · intro s hs
    repeat' (first | exact hs | (apply hgo; simp [hs]; done) | (simp [hs]; done) | split)
  · exact hm

@[simp] theorem State.inSession_mem (s : State) (m : Spdm) (go : Nat → State → State)
    (hgo : ∀ n s, (go n s).mem = s.mem) : (s.inSession m go).mem = s.mem := by
  unfold State.inSession
  rw [State.respond_mem]
  intro s
  repeat' (first | rfl | (simp [hgo]; done) | split)

@[simp] theorem execHeartbeat_mem (m : Spdm) (s : State) :
    (outState (@execHeartbeat m s) s).mem = s.mem := by
  unfold execHeartbeat; simp

@[simp] theorem execKeyUpdate_mem (m : Spdm) (s : State) :
    (outState (@execKeyUpdate m s) s).mem = s.mem := by
  unfold execKeyUpdate; simp

@[simp] theorem execEndSession_mem (m : Spdm) (s : State) :
    (outState (@execEndSession m s) s).mem = s.mem := by
  unfold execEndSession; simp

@[simp] theorem State.sizeBars_mem (s : State) (q : Nat) :
    (@State.sizeBars s q).mem = s.mem := by
  unfold State.sizeBars; simp

@[simp] theorem State.setMsix_mem (s : State) (q : Nat) (c : MsixCtl) :
    (@State.setMsix s q c).mem = s.mem := by
  unfold State.setMsix; simp

@[simp] theorem execCxlPortTrain_mem (q : CxlPort) (mode : Fin 4) (speed : Fin 4) (width : Fin 4) (msix : MsixCtl) (s : State) :
    (outState (@execCxlPortTrain q mode speed width msix s) s).mem = s.mem := by
  unfold execCxlPortTrain; simp

@[simp] theorem State.cxlDown_mem (s : State) (q : Nat) :
    (@State.cxlDown s q).mem = s.mem := by
  unfold State.cxlDown; simp

@[simp] theorem execCxlPortDown_mem (q : CxlPort) (s : State) :
    (outState (@execCxlPortDown q s) s).mem = s.mem := by
  unfold execCxlPortDown; simp

@[simp] theorem execPortReset_mem (q : CxlPort) (s : State) :
    (outState (@execPortReset q s) s).mem = s.mem := by
  unfold execPortReset; simp

@[simp] theorem State.writeDvsec_mem (s : State) (q : Nat) (off : Nat) (mask : Nat) (v : Nat) :
    (@State.writeDvsec s q off mask v).mem = s.mem := by
  unfold State.writeDvsec; simp

@[simp] theorem execDvsecWrite_mem (q : CxlPort) (off : BitVec 12) (value : BitVec 64) (s : State) :
    (outState (@execDvsecWrite q off value s) s).mem = s.mem := by
  unfold execDvsecWrite; simp

@[simp] theorem execWindowLock_mem (q : CxlPort) (i : Fin 16) (s : State) :
    (outState (@execWindowLock q i s) s).mem = s.mem := by
  unfold execWindowLock; simp

@[simp] theorem execHostBar4Access_memWf (q : CxlPort) (a : Bar4Access) (s : State) (hm : Memory.wf s.mem = true) :
    Memory.wf (outState (@execHostBar4Access q a s) s).mem = true := by
  unfold execHostBar4Access; simp +contextual (maxDischargeDepth := 30) [*]

@[simp] theorem execDoeDiscovery_mem (q : CxlPort) (index : BitVec 8) (s : State) :
    (outState (@execDoeDiscovery q index s) s).mem = s.mem := by
  unfold execDoeDiscovery; simp

@[simp] theorem execCxlTableAccess_mem (q : CxlPort) (handle : BitVec 16) (s : State) :
    (outState (@execCxlTableAccess q handle s) s).mem = s.mem := by
  unfold execCxlTableAccess; simp

@[simp] theorem State.setIde_mem (s : State) (q : Nat) (m : IdeKm) (key : List Byte) (use : Bool) :
    (@State.setIde s q m key use).mem = s.mem := by
  unfold State.setIde; simp

@[simp] theorem State.ideReply_mem (s : State) (q : Nat) (m : IdeKm) (object : Nat) (status : Nat) :
    (@State.ideReply s q m object status).mem = s.mem := by
  unfold State.ideReply; simp

@[simp] theorem execIdeKm_mem (q : CxlPort) (m : IdeKm) (s : State) :
    (outState (@execIdeKm q m s) s).mem = s.mem := by
  unfold execIdeKm; try dsimp only []
  repeat' (first | (simp [*]; done) | split | intro _)

@[simp] theorem execMapEnable_memWf (tier : Tier) (s : State) (hm : Memory.wf s.mem = true) :
    Memory.wf (outState (@execMapEnable tier s) s).mem = true := by
  unfold execMapEnable; simp +contextual (maxDischargeDepth := 30) [*]

@[simp] theorem execMapDisable_memWf (tier : Tier) (s : State) (hm : Memory.wf s.mem = true) :
    Memory.wf (outState (@execMapDisable tier s) s).mem = true := by
  unfold execMapDisable; simp +contextual (maxDischargeDepth := 30) [*]

@[simp] theorem execHashKeyWrite_mem (tier : Tier) (key : BitVec 64) (s : State) :
    (outState (@execHashKeyWrite tier key s) s).mem = s.mem := by
  unfold execHashKeyWrite; simp

@[simp] theorem execRegionInitDone_mem (tier : Tier) (region : Nat) (s : State) :
    (outState (@execRegionInitDone tier region s) s).mem = s.mem := by
  unfold execRegionInitDone; simp

@[simp] theorem execQueueHotDetect_mem (tier : Tier) (unit : Fin 24) (depth : Fin 257) (s : State) :
    (outState (@execQueueHotDetect tier unit depth s) s).mem = s.mem := by
  unfold execQueueHotDetect; simp

@[simp] theorem execActLimitReached_mem (tier : Tier) (unit : Fin 24) (row : Nat) (s : State) :
    (outState (@execActLimitReached tier unit row s) s).mem = s.mem := by
  unfold execActLimitReached; simp

@[simp] theorem execDimmActAlert_mem (unit : Fin 24) (s : State) :
    (outState (@execDimmActAlert unit s) s).mem = s.mem := by
  unfold execDimmActAlert; simp

@[simp] theorem execRefreshWindowEnd_mem (tier : Tier) (unit : Fin 24) (s : State) :
    (outState (@execRefreshWindowEnd tier unit s) s).mem = s.mem := by
  unfold execRefreshWindowEnd; simp

@[simp] theorem execDramTempReport_mem (tier : Tier) (unit : Fin 24) (temp : BitVec 8) (s : State) :
    (outState (@execDramTempReport tier unit temp s) s).mem = s.mem := by
  unfold execDramTempReport; simp

@[simp] theorem State.findBad_mem (s : State) (line : Nat) (h : LineHome) :
    (@State.findBad s line h).mem = s.mem := by
  unfold State.findBad; simp

@[simp] theorem State.countInner_mem (s : State) (h : LineHome) (n : Nat) :
    (@State.countInner s h n).mem = s.mem := by
  unfold State.countInner; try dsimp only []
  repeat' (first | (simp [*]; done) | split | intro _)

@[simp] theorem execPatrolScrubRead_mem (line : Nat) (errs : CodeErrors) (inner : BitVec 8) (hours : Nat) (s : State) :
    (outState (@execPatrolScrubRead line errs inner hours s) s).mem = s.mem := by
  unfold execPatrolScrubRead; try dsimp only []
  repeat' (first | (simp [*]; done) | split | intro _)

@[simp] theorem execScrubWriteback_mem (line : Nat) (s : State) :
    (outState (@execScrubWriteback line s) s).mem = s.mem := by
  unfold execScrubWriteback; try dsimp only []
  repeat' (first | (simp [*]; done) | split | intro _)

@[simp] theorem execNearColumnRemapDone_mem (unit : Fin 24) (s : State) :
    (outState (@execNearColumnRemapDone unit s) s).mem = s.mem := by
  unfold execNearColumnRemapDone; try dsimp only []
  repeat' (first | (simp [*]; done) | split | intro _)

@[simp] theorem State.atomAt_memWf (s : State) (a : Nat) (op : Nat) (sz : Nat) (x : Nat) (cmp : Nat) (hm : Memory.wf s.mem = true) :
    Memory.wf ((@State.atomAt s a op sz x cmp).2).mem = true := by
  unfold State.atomAt; simp +contextual (maxDischargeDepth := 30) [*]

@[simp] theorem State.forward_mem (s : State) (p : Nat) (typ : Nat) (k : Packet) :
    (@State.forward s p typ k).mem = s.mem := by
  unfold State.forward; try dsimp only []
  repeat' (first | (simp [*]; done) | split | intro _)

@[simp] theorem State.sendAck_mem (s : State) (src : Nat) (vc : Nat) (rf : RecvFlow) :
    (@State.sendAck s src vc rf).mem = s.mem := by
  unfold State.sendAck; simp

@[simp] theorem State.commitRecv_mem (s : State) (src : Nat) (vc : Nat) (k : Packet) (rf : RecvFlow) :
    (@State.commitRecv s src vc k rf).mem = s.mem := by
  unfold State.commitRecv; simp

@[simp] theorem State.sendNack_mem (s : State) (src : Nat) (vc : Nat) (k : Packet) (reason : Nat) :
    (@State.sendNack s src vc k reason).mem = s.mem := by
  unfold State.sendNack; simp

@[simp] theorem State.dropLapEntry_memWf (s : State) (vc : Nat) (rf : RecvFlow) (hm : Memory.wf s.mem = true) :
    Memory.wf (@State.dropLapEntry s vc rf).mem = true := by
  unfold State.dropLapEntry; simp +contextual (maxDischargeDepth := 30) [*]

theorem State.serveLoad_mem (s : State) (src : Nat) (body : List Byte) (r0 : State) (h0 : @State.serveLoad s src body = some r0) :
    r0.mem = s.mem := by
  unfold State.serveLoad at h0; (try dsimp only [] at h0)
  repeat' split at h0
  all_goals first | (cases h0; done) | (cases h0; first | rfl | simp [*])

theorem State.serveStore_memWf (s : State) (src : Nat) (body : List Byte) (r0 : State) (h0 : @State.serveStore s src body = some r0) (hm : Memory.wf s.mem = true) :
    Memory.wf r0.mem = true := by
  unfold State.serveStore at h0; (try dsimp only [] at h0)
  repeat' split at h0
  all_goals first | (cases h0; done) | (cases h0; first | exact hm | simp (maxDischargeDepth := 30) [*])

theorem State.serveAtomic_memWf (s : State) (src : Nat) (body : List Byte) (r0 : State) (h0 : @State.serveAtomic s src body = some r0) (hm : Memory.wf s.mem = true) :
    Memory.wf r0.mem = true := by
  unfold State.serveAtomic at h0; (try dsimp only [] at h0)
  repeat' split at h0
  all_goals first | (cases h0; done) | (cases h0; first | exact hm | simp (maxDischargeDepth := 30) [*])

theorem State.serve_memWf (s : State) (q : PeerReq) (r0 : State) (h0 : @State.serve s q = some r0) (hm : Memory.wf s.mem = true) :
    Memory.wf r0.mem = true := by
  unfold State.serve at h0
  repeat' split at h0
  · cases h0
  · rw [State.serveLoad_mem _ _ _ _ h0]; exact hm
  · exact State.serveAtomic_memWf _ _ _ _ h0 hm
  · exact State.serveStore_memWf _ _ _ _ h0 hm

@[simp] theorem State.serveInbox_memWf (s : State) (hm : Memory.wf s.mem = true) :
    Memory.wf (@State.serveInbox s).mem = true := by
  unfold State.serveInbox
  split
  · exact hm
  · dsimp only []
    refine foldl_fst_memWf _ _ _ (fun a q ha => ?_) hm
    split
    · exact ha
    · split
      · exact ha
      · exact State.serve_memWf _ _ _ ‹_› ha

@[simp] theorem State.arriveReq_memWf (s : State) (q : PeerReq) (hm : Memory.wf s.mem = true) :
    Memory.wf (@State.arriveReq s q).mem = true := by
  have hi := State.serveInbox_memWf s hm
  unfold State.arriveReq
  dsimp only []
  split
  · exact hi
  · cases h : s.serveInbox.serve q with
    | none => exact hi
    | some r => exact State.serve_memWf _ _ _ h hi

@[simp] theorem State.takeReq_memWf (s : State) (rf : RecvFlow) (q : PeerReq) (hm : Memory.wf s.mem = true) :
    Memory.wf (@State.takeReq s rf q).st.mem = true := by
  unfold State.takeReq; simp +contextual (maxDischargeDepth := 30) [*]

@[simp] theorem State.takeAnswer_memWf (s : State) (rf : RecvFlow) (body : List Byte) (hm : Memory.wf s.mem = true) :
    Memory.wf (@State.takeAnswer s rf body).st.mem = true := by
  unfold State.takeAnswer; try dsimp only []
  repeat' (first | (simp +contextual (maxDischargeDepth := 30) [*]; done) | split | intro _)

@[simp] theorem State.takeLap_memWf (s : State) (src : Nat) (i : Nat) (rf : RecvFlow) (body : List Byte) (hm : Memory.wf s.mem = true) :
    Memory.wf (@State.takeLap s src i rf body).st.mem = true := by
  unfold State.takeLap; try dsimp only []
  repeat' (first | (simp +contextual (maxDischargeDepth := 30) [*]; done) | split | intro _)

@[simp] theorem State.takeRelay_memWf (s : State) (src vc : Nat) (rf : RecvFlow) (body : List Byte) (hm : Memory.wf s.mem = true) :
    Memory.wf (State.takeRelay s src vc rf body).st.mem = true := by
  unfold State.takeRelay
  split
  · exact hm
  · split
    · exact hm
    · exact State.relayPacket_memWf _ _ _ _ _ _ ‹_› hm

@[simp] theorem State.consume_memWf (s : State) (p : Nat) (typ : Nat) (src : Nat) (vc : Nat) (rf : RecvFlow) (body : List Byte) (hm : Memory.wf s.mem = true) :
    Memory.wf (@State.consume s p typ src vc rf body).st.mem = true := by
  unfold State.consume; try dsimp only []
  repeat' (first | (simp +contextual (maxDischargeDepth := 30) [*]; done) | split | intro _)

@[simp] theorem State.receive_memWf (s : State) (p typ : Nat) (k : Packet) (hm : Memory.wf s.mem = true) :
    Memory.wf (State.receive s p typ k).mem = true := by
  unfold State.receive
  dsimp only []
  split
  · exact hm
  · simp (maxDischargeDepth := 30) [hm]
  · simp (maxDischargeDepth := 30) [hm]
  · rename_i rf old _
    cases old
    all_goals
      dsimp only []
      split
      all_goals
        rename_i hq
        have h := congrArg (fun x => Memory.wf (Take.st x).mem) hq
        simp (maxDischargeDepth := 30) [hm] at h
        repeat' (first | (simp (maxDischargeDepth := 30) [← h]; done) | split)

@[simp] theorem State.takeNack_memWf (s : State) (k : Packet) (hm : Memory.wf s.mem = true) :
    Memory.wf (@State.takeNack s k).mem = true := by
  unfold State.takeNack; try dsimp only []
  repeat' (first | (simp +contextual (maxDischargeDepth := 30) [*]; done) | split | intro _)

@[simp] theorem State.noticeArrives_memWf (s : State) (p : Nat) (k : Packet) (hm : Memory.wf s.mem = true) :
    Memory.wf (@State.noticeArrives s p k).mem = true := by
  unfold State.noticeArrives; simp +contextual (maxDischargeDepth := 30) [*]

@[simp] theorem State.idle_memWf (s : State) (hm : Memory.wf s.mem = true) :
    Memory.wf (@State.idle s).mem = true := by
  unfold State.idle; simp +contextual (maxDischargeDepth := 30) [*]

@[simp] theorem State.atHome_memWf (s : State) (p : Nat) (typ : Nat) (k : Packet) (hm : Memory.wf s.mem = true) :
    Memory.wf (@State.atHome s p typ k).mem = true := by
  unfold State.atHome; simp +contextual (maxDischargeDepth := 30) [*]

@[simp] theorem State.arrive_memWf (s : State) (p : Nat) (typ : Nat) (k : Packet) (hm : Memory.wf s.mem = true) :
    Memory.wf (@State.arrive s p typ k).mem = true := by
  unfold State.arrive; simp +contextual (maxDischargeDepth := 30) [*]

@[simp] theorem State.beginForward_mem (s : State) (p : Nat) (k : InPkt) :
    (@State.beginForward s p k).mem = s.mem := by
  unfold State.beginForward; try dsimp only []
  repeat' (first | (simp [*]; done) | split | intro _)

@[simp] theorem State.fillHole_mem (s : State) (q : Nat) (o : OutPkt) (bs : List Byte) (short : Bool) :
    (@State.fillHole s q o bs short).mem = s.mem := by
  unfold State.fillHole; try dsimp only []
  repeat' (first | (simp [*]; done) | split | intro _)

@[simp] theorem State.growForward_mem (s : State) (p : Nat) (k : InPkt) (bs : List Byte) (short : Bool) : (s.growForward p k bs short).mem = s.mem := by
  unfold State.growForward
  rw [foldl_mem]
  intro s q
  dsimp only []
  repeat' (first | rfl | (simp; done) | split)

theorem State.landEntry_memWf (s : State) (k : Packet) (r0 : RecvFlow × State) (h0 : @State.landEntry s k = some r0) (hm : Memory.wf s.mem = true) :
    Memory.wf (r0.2).mem = true := by
  unfold State.landEntry at h0; (try dsimp only [] at h0)
  repeat' split at h0
  all_goals first | (cases h0; done) | (cases h0; first | exact hm | simp (maxDischargeDepth := 30) [*])

@[simp] theorem State.recordLanded_mem (s : State) (k : Packet) (n : Nat) :
    (@State.recordLanded s k n).mem = s.mem := by
  unfold State.recordLanded; simp

@[simp] theorem State.cameBy_mem (s : State) (p : Nat) (k : Packet) :
    (@State.cameBy s p k).mem = s.mem := by
  unfold State.cameBy; simp

@[simp] theorem State.flitLap_memWf (s : State) (k : Packet) (off : Nat) (bs : List Byte) (good : Bool)
    (hm : Memory.wf s.mem = true) : Memory.wf (State.flitLap s k off bs good).mem = true := by
  unfold State.flitLap
  dsimp only []
  split
  · exact hm
  · have h := State.landEntry_memWf _ _ _ ‹_› hm
    simp only [] at h
    split
    · exact hm
    · split
      · exact hm
      · have h2 := State.lapWindow_mem _ _ _ _ ‹_›
        simp only [] at h2
        repeat' (first | (simp (maxDischargeDepth := 30) [h, h2]; done) | split)

@[simp] theorem State.faultTxn_mem (s : State) (tag : Nat) (fault : Nat) :
    (@State.faultTxn s tag fault).mem = s.mem := by
  unfold State.faultTxn; try dsimp only []
  repeat' (first | (simp [*]; done) | split | intro _)

@[simp] theorem State.landPlain_memWf (s : State) (tag : Nat) (c : Landing) (a : Nat) (bs : List Byte) (hm : Memory.wf s.mem = true) :
    Memory.wf (@State.landPlain s tag c a bs).mem = true := by
  unfold State.landPlain; simp +contextual (maxDischargeDepth := 30) [*]

@[simp] theorem State.flitAnswer_memWf (s : State) (k : InPkt) (off : Nat) (bs : List Byte) (good : Bool)
    (hm : Memory.wf s.mem = true) : Memory.wf (State.flitAnswer s k off bs good).mem = true := by
  unfold State.flitAnswer
  dsimp only []
  split
  · exact hm
  · split
    · have h := State.landEntry_memWf _ _ _ ‹_› hm
      simp only [] at h
      split
      · exact hm
      · split
        · simp (maxDischargeDepth := 30) [h]
        · split
          · rename_i hw
            split at hw
            · have h2 := State.windowFor_mem _ _ _ _ hw
              simp only [] at h2
              split <;> simp (maxDischargeDepth := 30) [h2, h]
            · cases hw
          · split <;> simp (maxDischargeDepth := 30) [h, hm]
    · exact hm

@[simp] theorem State.flitBulk_memWf (s : State) (k : InPkt) (off : Nat) (bs : List Byte) (hm : Memory.wf s.mem = true) :
    Memory.wf (State.flitBulk s k off bs).mem = true := by
  unfold State.flitBulk
  dsimp only []
  repeat' (first
    | exact hm
    | (have h := State.landEntry_memWf _ _ _ ‹_› hm; simp at h; simp (maxDischargeDepth := 30) [h]; done)
    | split)

@[simp] theorem State.flitRelay_memWf (s : State) (k : InPkt) (off : Nat) (bs : List Byte) (hm : Memory.wf s.mem = true) :
    Memory.wf (State.flitRelay s k off bs).mem = true := by
  unfold State.flitRelay
  split
  · exact hm
  · have h := State.landEntry_memWf _ _ _ ‹_› hm
    dsimp only [] at h ⊢
    split
    · simp (maxDischargeDepth := 30) [h]
    · exact hm

@[simp] theorem State.flitLands_memWf (s : State) (k : InPkt) (bs : List Byte) (good : Bool) (hm : Memory.wf s.mem = true) :
    Memory.wf (@State.flitLands s k bs good).mem = true := by
  unfold State.flitLands; simp +contextual (maxDischargeDepth := 30) [*]

@[simp] theorem State.takeHeaders_memWf (s : State) (p : Nat) (ks : List InPkt) (hm : Memory.wf s.mem = true) :
    Memory.wf (@State.takeHeaders s p ks).mem = true := by
  unfold State.takeHeaders; simp +contextual (maxDischargeDepth := 30) [*]

@[simp] theorem State.dataLands_memWf (s : State) (p : Nat) (k : InPkt) (bs : List Byte) (short : Bool) (hm : Memory.wf s.mem = true) :
    Memory.wf (State.dataLands s p k bs short).mem = true := by
  unfold State.dataLands
  split
  · rw [State.growForward_mem]; exact hm
  · split
    · exact hm
    · rw [State.cameBy_mem]; exact State.flitLands_memWf _ _ _ _ hm

@[simp] theorem State.takeData_memWf (s : State) (p : Nat) (f : Flit) (hm : Memory.wf s.mem = true) :
    Memory.wf (State.takeData s p f).mem = true := by
  have h0 : ∀ x y k bs g, Memory.wf (((s.setLink p x).dataLands p k bs g).setLink p y).mem = true :=
    fun x y k bs g => by
      rw [State.setLink_mem]
      exact State.dataLands_memWf _ _ _ _ _ (by rw [State.setLink_mem]; exact hm)
  have pick : ∀ (c : Prop) [Decidable c] (a b : State), Memory.wf a.mem = true → Memory.wf b.mem = true →
      Memory.wf (if c then a else b).mem = true := fun c _ a b ha hb => by split <;> assumption
  unfold State.takeData
  dsimp only []
  split
  · rw [State.setLink_mem]; exact hm
  · exact pick _ _ _ (pick _ _ _ (h0 _ _ _ _ _) (State.arrive_memWf _ _ _ _ (h0 _ _ _ _ _))) (h0 _ _ _ _ _)

@[simp] theorem State.failForward_mem (s : State) (p : Nat) (k : InPkt) (bs : List Byte) : (s.failForward p k bs).mem = s.mem := by
  unfold State.failForward
  rw [foldl_mem]
  intro s q
  dsimp only []
  repeat' (first | rfl | (simp; done) | split)

@[simp] theorem State.flitFails_memWf (s : State) (p : Nat) (f : Flit) (r : FecReport) (hm : Memory.wf s.mem = true) :
    Memory.wf (@State.flitFails s p f r).mem = true := by
  unfold State.flitFails; try dsimp only []
  repeat' (first | (simp +contextual (maxDischargeDepth := 30) [*]; done) | split | intro _)

@[simp] theorem State.flitPasses_memWf (s : State) (p : Nat) (f : Flit) (hm : Memory.wf s.mem = true) :
    Memory.wf (@State.flitPasses s p f).mem = true := by
  unfold State.flitPasses; simp +contextual (maxDischargeDepth := 30) [*]

@[simp] theorem State.sendFlit_mem (s : State) (p : Nat) (f : Flit) :
    (@State.sendFlit s p f).mem = s.mem := by
  unfold State.sendFlit; simp

@[simp] theorem State.sendIdle_mem (s : State) (p : Nat) :
    (@State.sendIdle s p).mem = s.mem := by
  unfold State.sendIdle; simp

@[simp] theorem State.sendNew_mem (s : State) (p : Nat) (x : LinkPort) (f : Flit) :
    (@State.sendNew s p x f).mem = s.mem := by
  unfold State.sendNew; simp

@[simp] theorem State.sendHeaders_mem (s : State) (p : Nat) :
    (@State.sendHeaders s p).mem = s.mem := by
  unfold State.sendHeaders; simp

@[simp] theorem State.sendData_mem (s : State) (p : Nat) (key : Nat) (o : OutPkt) :
    (@State.sendData s p key o).mem = s.mem := by
  unfold State.sendData; simp

end Sys2Proof.Machine
end

