-- ==== Sys2Proof/Laws/Canon5.lean ====
section
/-! SUPPORT. Every operation of the machine keeps memory in canonical form; most leave memory as it was (part 5): Flits, Glide, Laps, Launches, Trust, Registers, Memory, Packets, Rows, Vector, Wupd, Dispatch, Step. -/

namespace Sys2Proof.Machine

set_option maxRecDepth 4000

@[simp] theorem execFlitReceive_memWf (p : Port) (f : Flit) (r : FecReport) (s : State) (hm : Memory.wf s.mem = true) :
    Memory.wf (outState (@execFlitReceive p f r s) s).mem = true := by
  unfold execFlitReceive; simp +contextual (maxDischargeDepth := 30) [*]

@[simp] theorem execFlitTransmit_mem (p : Port) (s : State) :
    (outState (@execFlitTransmit p s) s).mem = s.mem := by
  unfold execFlitTransmit; try dsimp only []
  repeat' (first | (simp [*]; done) | split | intro _)

@[simp] theorem State.discardLines_mem (s : State) (ls : List Nat) :
    (@State.discardLines s ls).mem = s.mem := by
  unfold State.discardLines; simp

@[simp] theorem execGlideWindowTimeout_memWf (c : Cid) (w : Fin 8) (s : State) (hm : Memory.wf s.mem = true) :
    Memory.wf (outState (@execGlideWindowTimeout c w s) s).mem = true := by
  unfold execGlideWindowTimeout; try dsimp only []
  repeat' (first | (simp +contextual (maxDischargeDepth := 30) [*]; done) | split | intro _)

@[simp] theorem execTileGlideCtlWrite_mem (tile : Fin 36) (value : BitVec 64) (s : State) :
    (outState (@execTileGlideCtlWrite tile value s) s).mem = s.mem := by
  unfold execTileGlideCtlWrite; simp

@[simp] theorem State.postLap_mem (s : State) (t : Nat) (i : Nat) (slice : Nat) (a : Nat) (bar : Nat) (discard : Bool) :
    (@State.postLap s t i slice a bar discard).st.mem = s.mem := by
  unfold State.postLap; simp

@[simp] theorem execLapPost_mem (t : Tid) (w : IWord) (s : State) :
    (outState (@execLapPost t w s) s).mem = s.mem := by
  unfold execLapPost; simp

@[simp] theorem execLapPostDiscard_mem (t : Tid) (w : IWord) (s : State) :
    (outState (@execLapPostDiscard t w s) s).mem = s.mem := by
  unfold execLapPostDiscard; simp

@[simp] theorem execLapSend_mem (t : Tid) (w : IWord) (s : State) :
    (outState (@execLapSend t w s) s).mem = s.mem := by
  unfold execLapSend; simp

@[simp] theorem State.runRanges_mem (s : State) (tile wn d token n : Nat) (sc : Bool) :
    (s.runRanges tile wn d token n sc).2.2.mem = s.mem := by
  unfold State.runRanges
  dsimp only []
  generalize (List.range _).map _ = l
  have h : ∀ (q : List (Nat × Nat) × Bool × State) (l : List Nat) (g : (List (Nat × Nat) × Bool × State) → Nat →
      (List (Nat × Nat) × Bool × State)), (∀ q i, (g q i).2.2.mem = q.2.2.mem) → (l.foldl g q).2.2.mem = q.2.2.mem := by
    intro q l g hg
    induction l generalizing q with
    | nil => rfl
    | cons a l ih => rw [List.foldl, ih, hg]
  rw [h]
  intro q i
  simp

@[simp] theorem execLapSendKv_mem (t : Tid) (w : IWord) (s : State) :
    (outState (@execLapSendKv t w s) s).mem = s.mem := by
  unfold execLapSendKv; simp

@[simp] theorem execLapArm_mem (i : Fin 2) (s : State) :
    (outState (@execLapArm i s) s).mem = s.mem := by
  unfold execLapArm; simp

@[simp] theorem execLapDisarm_mem (i : Fin 2) (s : State) :
    (outState (@execLapDisarm i s) s).mem = s.mem := by
  unfold execLapDisarm; simp

@[simp] theorem execTblLoad_mem (t : Tid) (w : IWord) (s : State) :
    (outState (@execTblLoad t w s) s).mem = s.mem := by
  unfold execTblLoad; simp

@[simp] theorem State.tblSwitch_mem (s : State) (tile : Nat) :
    (@State.tblSwitch s tile).mem = s.mem := by
  unfold State.tblSwitch; simp

@[simp] theorem execTblFence_mem (t : Tid) (w : IWord) (s : State) :
    (outState (@execTblFence t w s) s).mem = s.mem := by
  unfold execTblFence; simp

@[simp] theorem execTblLoadDone_mem (tile : Fin 36) (s : State) :
    (outState (@execTblLoadDone tile s) s).mem = s.mem := by
  unfold execTblLoadDone; try dsimp only []
  repeat' (first | (simp [*]; done) | split | intro _)

@[simp] theorem execTblGenSwitch_mem (tile : Fin 36) (s : State) :
    (outState (@execTblGenSwitch tile s) s).mem = s.mem := by
  unfold execTblGenSwitch; try dsimp only []
  repeat' (first | (simp [*]; done) | split | intro _)

@[simp] theorem State.startThread_mem (s : State) (k : CmdRef) (b : LaunchBody) (t : Nat) :
    (@State.startThread s k b t).mem = s.mem := by
  unfold State.startThread; simp

@[simp] theorem execLaunch_mem (k : CmdRef) (s : State) :
    (outState (@execLaunch k s) s).mem = s.mem := by
  unfold execLaunch; try dsimp only []
  repeat' (first | (simp [*]; done) | split | intro _)

@[simp] theorem execLaunchComplete_mem (k : CmdRef) (s : State) :
    (outState (@execLaunchComplete k s) s).mem = s.mem := by
  unfold execLaunchComplete; try dsimp only []
  repeat' (first | (simp [*]; done) | split | intro _)

@[simp] theorem execRngHealthTest_mem (pass : Bool) (s : State) :
    (outState (@execRngHealthTest pass s) s).mem = s.mem := by
  unfold execRngHealthTest; simp

@[simp] theorem State.commitSvn_mem (s : State) :
    (@State.commitSvn s).mem = s.mem := by
  unfold State.commitSvn; simp

@[simp] theorem execSvnCommit_mem (s : State) :
    (outState (@execSvnCommit s) s).mem = s.mem := by
  unfold execSvnCommit; simp

@[simp] theorem execSvnFuseDone_mem (s : State) :
    (outState (@execSvnFuseDone s) s).mem = s.mem := by
  unfold execSvnFuseDone; simp

@[simp] theorem execLicence_mem (k : CmdRef) (s : State) :
    (outState (@execLicence k s) s).mem = s.mem := by
  unfold execLicence; try dsimp only []
  repeat' (first | (simp [*]; done) | split | intro _)

@[simp] theorem State.resumeMgmt_mem (s : State) :
    (@State.resumeMgmt s).mem = s.mem := by
  unfold State.resumeMgmt; simp

@[simp] theorem State.kick_mem (s : State) :
    (@State.kick s).mem = s.mem := by
  unfold State.kick; simp

@[simp] theorem execWdtKick_mem (agent : Agent) (s : State) :
    (outState (@execWdtKick agent s) s).mem = s.mem := by
  unfold execWdtKick; try dsimp only []
  repeat' (first | (simp [*]; done) | split | intro _)

@[simp] theorem State.failLoad_mem (s : State) (fault : Nat) :
    (@State.failLoad s fault).mem = s.mem := by
  unfold State.failLoad; simp

@[simp] theorem execWdtExpiry_mem (s : State) :
    (outState (@execWdtExpiry s) s).mem = s.mem := by
  unfold execWdtExpiry; simp

@[simp] theorem State.sendChunks_mem (s : State) (d : Nat) (x : FwImg) (bs : List Byte) (bcast : Bool) :
    (@State.sendChunks s d x bs bcast).mem = s.mem := by
  unfold State.sendChunks; simp

@[simp] theorem State.loadHere_memWf (s : State) (x : FwImg) (bs : List Byte) (hm : Memory.wf s.mem = true) :
    Memory.wf (@State.loadHere s x bs).mem = true := by
  unfold State.loadHere; simp +contextual (maxDischargeDepth := 30) [*]

@[simp] theorem State.showLoad_mem (s : State) :
    (@State.showLoad s).mem = s.mem := by
  unfold State.showLoad; simp

@[simp] theorem State.placeLoad_memWf (s : State) (x : FwImg) (bs : List Byte) (hm : Memory.wf s.mem = true) :
    Memory.wf (@State.placeLoad s x bs).mem = true := by
  unfold State.placeLoad; simp +contextual (maxDischargeDepth := 30) [*]

@[simp] theorem State.startLoad_memWf (s : State) (hm : Memory.wf s.mem = true) :
    Memory.wf (@State.startLoad s).mem = true := by
  unfold State.startLoad; simp +contextual (maxDischargeDepth := 30) [*]

@[simp] theorem execFwLoadStart_memWf (s : State) (hm : Memory.wf s.mem = true) :
    Memory.wf (outState (@execFwLoadStart s) s).mem = true := by
  unfold execFwLoadStart; simp +contextual (maxDischargeDepth := 30) [*]

@[simp] theorem State.endBist_mem (s : State) (x : BistRun) :
    (@State.endBist s x).mem = s.mem := by
  unfold State.endBist; simp

@[simp] theorem execBist_mem (k : CmdRef) (s : State) :
    (outState (@execBist k s) s).mem = s.mem := by
  unfold execBist; try dsimp only []
  repeat' (first | (simp [*]; done) | split | intro _)

@[simp] theorem State.bistResult_memWf (s : State) (x : BistRun) (r : BistResult) (hm : Memory.wf s.mem = true) :
    Memory.wf ((@State.bistResult s x r).1).mem = true := by
  unfold State.bistResult; simp +contextual (maxDischargeDepth := 30) [*]

@[simp] theorem execBistGroupDone_memWf (rs : List BistResult) (s : State) (hm : Memory.wf s.mem = true) :
    Memory.wf (outState (@execBistGroupDone rs s) s).mem = true := by
  unfold execBistGroupDone; try dsimp only []
  repeat' (first | (simp +contextual (maxDischargeDepth := 30) [*]; done) | split | intro _)

@[simp] theorem State.writeClamped_mem (s : State) (r : Reg) (mask : Nat) (v : Nat) (cl : List (Fld × Nat × Nat)) :
    (@State.writeClamped s r mask v cl).mem = s.mem := by
  unfold State.writeClamped; simp

@[simp] theorem State.requestSwing_mem (s : State) (cxl : Bool) (mv : Nat) :
    (@State.requestSwing s cxl mv).mem = s.mem := by
  unfold State.requestSwing; simp

@[simp] theorem State.limit_mem (s : State) (f : Fld) (lo : Nat) (hi : Nat) :
    (@State.limit s f lo hi).mem = s.mem := by
  unfold State.limit; simp

@[simp] theorem State.writeLapCfg_mem (s : State) (i : Nat) (mask : Nat) (v : Nat) :
    (@State.writeLapCfg s i mask v).mem = s.mem := by
  unfold State.writeLapCfg; simp

@[simp] theorem State.writeKvCtl_mem (s : State) (mask : Nat) (v : Nat) :
    (@State.writeKvCtl s mask v).mem = s.mem := by
  unfold State.writeKvCtl; simp

@[simp] theorem State.writeKvCfg_mem (s : State) (r : Reg) (mask : Nat) (v : Nat) :
    (@State.writeKvCfg s r mask v).mem = s.mem := by
  unfold State.writeKvCfg; simp

@[simp] theorem State.writeCpr_memWf (s : State) (mask : Nat) (v : Nat) (hm : Memory.wf s.mem = true) :
    Memory.wf (@State.writeCpr s mask v).mem = true := by
  unfold State.writeCpr; simp +contextual (maxDischargeDepth := 30) [*]

@[simp] theorem State.writeWdt_mem (s : State) (ctl : Bool) (mask : Nat) (v : Nat) :
    (@State.writeWdt s ctl mask v).mem = s.mem := by
  unfold State.writeWdt; simp

@[simp] theorem State.writeFwb_memWf (s : State) (mask : Nat) (v : Nat) (hm : Memory.wf s.mem = true) :
    Memory.wf (@State.writeFwb s mask v).mem = true := by
  unfold State.writeFwb; simp +contextual (maxDischargeDepth := 30) [*]

@[simp] theorem State.writePortCtl_memWf (s : State) (p : Nat) (mask : Nat) (v : Nat) (hm : Memory.wf s.mem = true) :
    Memory.wf (@State.writePortCtl s p mask v).mem = true := by
  unfold State.writePortCtl; simp +contextual (maxDischargeDepth := 30) [*]

@[simp] theorem State.writeGuard_mem (s : State) (k : Tier) (mask : Nat) (v : Nat) :
    (@State.writeGuard s k mask v).mem = s.mem := by
  unfold State.writeGuard; simp

@[simp] theorem State.writeTherm_mem (s : State) (mask : Nat) (v : Nat) :
    (@State.writeTherm s mask v).mem = s.mem := by
  unfold State.writeTherm; simp

@[simp] theorem State.writeJrnl_mem (s : State) (mask : Nat) (v : Nat) :
    (@State.writeJrnl s mask v).mem = s.mem := by
  unfold State.writeJrnl; simp

@[simp] theorem State.writeReg_memWf (s : State) (ctl : Bool) (r : Reg) (mask : Nat) (v : Nat) (hm : Memory.wf s.mem = true) :
    Memory.wf (@State.writeReg s ctl r mask v).mem = true := by
  unfold State.writeReg; try dsimp only []
  repeat' (first | (simp +contextual (maxDischargeDepth := 30) [*]; done) | split | intro _)

@[simp] theorem State.writeWindow_mem (s : State) (b : Nat) (r : Nat) (mask : Nat) (v : Nat) :
    (@State.writeWindow s b r mask v).mem = s.mem := by
  unfold State.writeWindow; simp

@[simp] theorem State.csrPut_memWf (s : State) (ctl : Bool) (off : Nat) (size : AccessSize) (v : Nat) (hm : Memory.wf s.mem = true) :
    Memory.wf (@State.csrPut s ctl off size v).mem = true := by
  unfold State.csrPut; try dsimp only []
  repeat' (first | (simp +contextual (maxDischargeDepth := 30) [*]; done) | split | intro _)

@[simp] theorem State.csrWrite_memWf (s : State) (ctl : Bool) (off : Nat) (size : AccessSize) (v : Nat) (hm : Memory.wf s.mem = true) :
    Memory.wf (@State.csrWrite s ctl off size v).mem = true := by
  unfold State.csrWrite; simp +contextual (maxDischargeDepth := 30) [*]

@[simp] theorem State.csrRead_mem (s : State) (ctl : Bool) (off : Nat) (size : AccessSize) :
    ((@State.csrRead s ctl off size).1).mem = s.mem := by
  unfold State.csrRead; simp

@[simp] theorem State.threadCsr_memWf (s : State) (off : Nat) (size : AccessSize) (v : Nat) (hm : Memory.wf s.mem = true) :
    Memory.wf (@State.threadCsr s off size v).mem = true := by
  unfold State.threadCsr; simp +contextual (maxDischargeDepth := 30) [*]

@[simp] theorem execRegisterWrite_memWf (agent : Agent) (off : BitVec 26) (size : AccessSize) (value : BitVec 64) (s : State) (hm : Memory.wf s.mem = true) :
    Memory.wf (outState (@execRegisterWrite agent off size value s) s).mem = true := by
  unfold execRegisterWrite; try dsimp only []
  repeat' (first | (simp +contextual (maxDischargeDepth := 30) [*]; done) | split | intro _)

@[simp] theorem State.addLoad_mem (s : State) (t : Nat) (l : Load) :
    (@State.addLoad s t l).mem = s.mem := by
  unfold State.addLoad; simp

@[simp] theorem State.csrLoad_mem (s : State) (off : Nat) (size : Nat) (scalar : Bool) :
    ((@State.csrLoad s off size scalar).1).mem = s.mem := by
  unfold State.csrLoad; simp

@[simp] theorem State.loadRuns_mem (s : State) (t : Nat) (dev : Nat) (runs : List (Nat × Nat)) (dest : Dest) (size : Nat) (skip : Nat) (sext : Bool) (glide : Bool) (tag : BitVec 8) (r0 : TRegs) :
    (@State.loadRuns s t dev runs dest size skip sext glide tag r0).st.mem = s.mem := by
  unfold State.loadRuns; try dsimp only []
  repeat' (first | (simp [*]; done) | split | intro _)

@[simp] theorem scalarLoad_mem (t : Tid) (w : IWord) (glide : Bool) (s : State) :
    (@scalarLoad t w glide s).mem = s.mem := by
  unfold scalarLoad; simp

@[simp] theorem vectorLoad_mem (t : Tid) (w : IWord) (glide : Bool) (s : State) :
    (@vectorLoad t w glide s).mem = s.mem := by
  unfold vectorLoad; simp

@[simp] theorem execLd_mem (t : Tid) (w : IWord) (s : State) :
    (outState (@execLd t w s) s).mem = s.mem := by
  unfold execLd; simp

@[simp] theorem execLdGlide_mem (t : Tid) (w : IWord) (s : State) :
    (outState (@execLdGlide t w s) s).mem = s.mem := by
  unfold execLdGlide; simp

@[simp] theorem execVld_mem (t : Tid) (w : IWord) (s : State) :
    (outState (@execVld t w s) s).mem = s.mem := by
  unfold execVld; simp

@[simp] theorem execVldGlide_mem (t : Tid) (w : IWord) (s : State) :
    (outState (@execVldGlide t w s) s).mem = s.mem := by
  unfold execVldGlide; simp

@[simp] theorem execDscLd_mem (t : Tid) (w : IWord) (s : State) :
    (outState (@execDscLd t w s) s).mem = s.mem := by
  unfold execDscLd; simp

@[simp] theorem State.storeRuns_memWf (s : State) (t : Nat) (dev : Nat) (runs : List ((Nat × Nat) × List Byte)) (size : Option Nat) (tag : BitVec 8) (hm : Memory.wf s.mem = true) :
    Memory.wf (@State.storeRuns s t dev runs size tag).st.mem = true := by
  unfold State.storeRuns; try dsimp only []
  repeat' (first | (simp +contextual (maxDischargeDepth := 30) [*]; done) | split | intro _)

@[simp] theorem execSt_memWf (t : Tid) (w : IWord) (s : State) (hm : Memory.wf s.mem = true) :
    Memory.wf (outState (@execSt t w s) s).mem = true := by
  unfold execSt; simp +contextual (maxDischargeDepth := 30) [*]

@[simp] theorem execVst_memWf (t : Tid) (w : IWord) (s : State) (hm : Memory.wf s.mem = true) :
    Memory.wf (outState (@execVst t w s) s).mem = true := by
  unfold execVst; simp +contextual (maxDischargeDepth := 30) [*]

@[simp] theorem State.atomSend_mem (s : State) (t : Nat) (w : IWord) (x : Thread) (dev v cmp : Nat) (tag : BitVec 8) :
    (s.atomSend t w x dev v cmp tag).mem = s.mem := by
  unfold State.atomSend
  dsimp only []
  split
  · simp only [State.sendPkt_mem, State.addLoad_mem, State.newTag_mem]
  · simp only [State.sendPkt_mem, State.newTag_mem]

@[simp] theorem State.atomHere_memWf (s : State) (t : Nat) (w : IWord) (a v cmp : Nat) (tag : BitVec 8)
    (hm : Memory.wf s.mem = true) : Memory.wf (s.atomHere t w a v cmp tag).mem = true := by
  unfold State.atomHere
  dsimp only []
  split
  · rw [State.tagWritten_mem]
    exact State.atomAt_memWf _ _ _ _ _ _ ((congrArg Memory.wf (State.touch_mem _ _ _)).trans hm)
  · rw [State.modRegs_mem, State.tagWritten_mem]
    exact State.atomAt_memWf _ _ _ _ _ _ ((congrArg Memory.wf (State.touch_mem _ _ _)).trans hm)

@[simp] theorem execAtom_memWf (t : Tid) (w : IWord) (s : State) (hm : Memory.wf s.mem = true) :
    Memory.wf (outState (execAtom t w s) s).mem = true := by
  unfold execAtom
  rw [outState_next]
  refine State.issue_memWf _ _ _ _ _ (fun _ => rfl) (fun s x hs => ?_) hm
  try dsimp only []
  repeat' (first
    | exact hs
    | exact State.access_memWf _ _ _ _ _ (fun s y hs => State.atomHere_memWf s _ _ _ _ _ _ hs) hs
    | (simp only [Eff.st_retire, State.atomSend_mem]; exact hs)
    | split)

@[simp] theorem State.bfxSend_mem (s : State) (th : Nat) (dst : Nat) (x : Thread) (qs : List (Nat × Nat × Bool)) :
    (@State.bfxSend s th dst x qs).mem = s.mem := by
  unfold State.bfxSend; simp

@[simp] theorem bfxLane_memWf (th : Nat) (tag : BitVec 8) (s : State) (q : Nat × Nat × Bool) (hm : Memory.wf s.mem = true) :
    Memory.wf (bfxLane th tag s q).mem = true :=
  (congrArg Memory.wf (State.tagWritten_mem ((s.touch q.1 8).atomAt q.1 10 3 q.2.1 0).2 th
    ((cellsFrom q.1 (leBytes 8 0)).filter (fun c => lineInCore (coreOf th) (lineOf c.1))) tag)).trans
  (State.atomAt_memWf (s.touch q.1 8) q.1 10 3 q.2.1 0 ((congrArg Memory.wf (State.touch_mem s q.1 8)).trans hm))

@[simp] theorem State.bfxAdd_memWf (s : State) (th : Nat) (qs : List (Nat × Nat × Bool)) (tag : BitVec 8)
    (hm : Memory.wf s.mem = true) : Memory.wf (State.bfxAdd s th qs tag).mem = true :=
  foldl_memWf (bfxLane th tag) qs (s.flagFld Fd.REL_STAT_ATOM_OVF (qs.any (fun q => q.2.2))) (bfxLane_memWf th tag)
    ((congrArg Memory.wf (State.flagFld_mem s Fd.REL_STAT_ATOM_OVF (qs.any (fun q => q.2.2)))).trans hm)

@[simp] theorem execAtomAddBfx_memWf (t : Tid) (w : IWord) (s : State) (hm : Memory.wf s.mem = true) :
    Memory.wf (outState (execAtomAddBfx t w s) s).mem = true := by
  unfold execAtomAddBfx
  rw [outState_next]
  refine State.issue_memWf _ _ _ _ _ (fun _ => rfl) (fun s x hs => ?_) hm
  try dsimp only []
  repeat' (first
    | exact hs
    | exact State.access_memWf _ _ _ _ _ (fun s y hs => State.bfxAdd_memWf s _ _ _ hs) hs
    | (simp only [Eff.st_retire, State.bfxSend_mem]; exact hs)
    | split)

@[simp] theorem execLoadReq_memWf (p : Port) (k : Packet) (s : State) (hm : Memory.wf s.mem = true) :
    Memory.wf (outState (@execLoadReq p k s) s).mem = true := by
  unfold execLoadReq; simp +contextual (maxDischargeDepth := 30) [*]

@[simp] theorem execLoadResp_memWf (p : Port) (k : Packet) (s : State) (hm : Memory.wf s.mem = true) :
    Memory.wf (outState (@execLoadResp p k s) s).mem = true := by
  unfold execLoadResp; simp +contextual (maxDischargeDepth := 30) [*]

@[simp] theorem execStore_memWf (p : Port) (k : Packet) (s : State) (hm : Memory.wf s.mem = true) :
    Memory.wf (outState (@execStore p k s) s).mem = true := by
  unfold execStore; simp +contextual (maxDischargeDepth := 30) [*]

@[simp] theorem execAtomic_memWf (p : Port) (k : Packet) (s : State) (hm : Memory.wf s.mem = true) :
    Memory.wf (outState (@execAtomic p k s) s).mem = true := by
  unfold execAtomic; simp +contextual (maxDischargeDepth := 30) [*]

@[simp] theorem execAtomicResp_memWf (p : Port) (k : Packet) (s : State) (hm : Memory.wf s.mem = true) :
    Memory.wf (outState (@execAtomicResp p k s) s).mem = true := by
  unfold execAtomicResp; simp +contextual (maxDischargeDepth := 30) [*]

@[simp] theorem execStatus_memWf (p : Port) (k : Packet) (s : State) (hm : Memory.wf s.mem = true) :
    Memory.wf (outState (@execStatus p k s) s).mem = true := by
  unfold execStatus; simp +contextual (maxDischargeDepth := 30) [*]

@[simp] theorem execAck_memWf (p : Port) (k : Packet) (s : State) (hm : Memory.wf s.mem = true) :
    Memory.wf (outState (@execAck p k s) s).mem = true := by
  unfold execAck; simp +contextual (maxDischargeDepth := 30) [*]

@[simp] theorem execNack_memWf (p : Port) (k : Packet) (s : State) (hm : Memory.wf s.mem = true) :
    Memory.wf (outState (@execNack p k s) s).mem = true := by
  unfold execNack; simp +contextual (maxDischargeDepth := 30) [*]

@[simp] theorem execClose_memWf (p : Port) (k : Packet) (s : State) (hm : Memory.wf s.mem = true) :
    Memory.wf (outState (@execClose p k s) s).mem = true := by
  unfold execClose; simp +contextual (maxDischargeDepth := 30) [*]

@[simp] theorem execNotice_memWf (p : Port) (k : Packet) (s : State) (hm : Memory.wf s.mem = true) :
    Memory.wf (outState (@execNotice p k s) s).mem = true := by
  unfold execNotice; simp +contextual (maxDischargeDepth := 30) [*]

@[simp] theorem execBulk_memWf (p : Port) (k : Packet) (s : State) (hm : Memory.wf s.mem = true) :
    Memory.wf (outState (@execBulk p k s) s).mem = true := by
  unfold execBulk; simp +contextual (maxDischargeDepth := 30) [*]

@[simp] theorem execLap_memWf (p : Port) (k : Packet) (s : State) (hm : Memory.wf s.mem = true) :
    Memory.wf (outState (@execLap p k s) s).mem = true := by
  unfold execLap; simp +contextual (maxDischargeDepth := 30) [*]

@[simp] theorem State.mgmtRow_memWf (s : State) (p : Nat) (mtype : Nat) (k : Packet) (hm : Memory.wf s.mem = true) :
    Memory.wf (@State.mgmtRow s p mtype k).mem = true := by
  unfold State.mgmtRow; simp +contextual (maxDischargeDepth := 30) [*]

@[simp] theorem execLapgeo_memWf (p : Port) (k : Packet) (s : State) (hm : Memory.wf s.mem = true) :
    Memory.wf (outState (@execLapgeo p k s) s).mem = true := by
  unfold execLapgeo; simp +contextual (maxDischargeDepth := 30) [*]

@[simp] theorem execFwchunk_memWf (p : Port) (k : Packet) (s : State) (hm : Memory.wf s.mem = true) :
    Memory.wf (outState (@execFwchunk p k s) s).mem = true := by
  unfold execFwchunk; simp +contextual (maxDischargeDepth := 30) [*]

@[simp] theorem execFwstatus_memWf (p : Port) (k : Packet) (s : State) (hm : Memory.wf s.mem = true) :
    Memory.wf (outState (@execFwstatus p k s) s).mem = true := by
  unfold execFwstatus; simp +contextual (maxDischargeDepth := 30) [*]

@[simp] theorem State.relayRow_memWf (s : State) (p : Nat) (kind : Nat) (k : Packet) (hm : Memory.wf s.mem = true) :
    Memory.wf (@State.relayRow s p kind k).mem = true := by
  unfold State.relayRow; simp +contextual (maxDischargeDepth := 30) [*]

@[simp] theorem execContrib_memWf (p : Port) (k : Packet) (s : State) (hm : Memory.wf s.mem = true) :
    Memory.wf (outState (@execContrib p k s) s).mem = true := by
  unfold execContrib; simp +contextual (maxDischargeDepth := 30) [*]

@[simp] theorem execPartialSum_memWf (p : Port) (k : Packet) (s : State) (hm : Memory.wf s.mem = true) :
    Memory.wf (outState (@execPartialSum p k s) s).mem = true := by
  unfold execPartialSum; simp +contextual (maxDischargeDepth := 30) [*]

@[simp] theorem execResult_memWf (p : Port) (k : Packet) (s : State) (hm : Memory.wf s.mem = true) :
    Memory.wf (outState (@execResult p k s) s).mem = true := by
  unfold execResult; simp +contextual (maxDischargeDepth := 30) [*]

@[simp] theorem execExptab_memWf (p : Port) (k : Packet) (s : State) (hm : Memory.wf s.mem = true) :
    Memory.wf (outState (@execExptab p k s) s).mem = true := by
  unfold execExptab; simp +contextual (maxDischargeDepth := 30) [*]

@[simp] theorem execPrepass_memWf (p : Port) (k : Packet) (s : State) (hm : Memory.wf s.mem = true) :
    Memory.wf (outState (@execPrepass p k s) s).mem = true := by
  unfold execPrepass; simp +contextual (maxDischargeDepth := 30) [*]

@[simp] theorem execNorm_memWf (p : Port) (k : Packet) (s : State) (hm : Memory.wf s.mem = true) :
    Memory.wf (outState (@execNorm p k s) s).mem = true := by
  unfold execNorm; simp +contextual (maxDischargeDepth := 30) [*]

@[simp] theorem execNormres_memWf (p : Port) (k : Packet) (s : State) (hm : Memory.wf s.mem = true) :
    Memory.wf (outState (@execNormres p k s) s).mem = true := by
  unfold execNormres; simp +contextual (maxDischargeDepth := 30) [*]

@[simp] theorem execAckTimerExpiry_mem (src : ModId) (vc : BitVec 4) (s : State) :
    (outState (@execAckTimerExpiry src vc s) s).mem = s.mem := by
  unfold execAckTimerExpiry; try dsimp only []
  repeat' (first | (simp [*]; done) | split | intro _)

@[simp] theorem execE2eResendTimeout_memWf (dst : ModId) (vc : BitVec 4) (s : State) (hm : Memory.wf s.mem = true) :
    Memory.wf (outState (@execE2eResendTimeout dst vc s) s).mem = true := by
  unfold execE2eResendTimeout; simp +contextual (maxDischargeDepth := 30) [*]

@[simp] theorem execFlowFail_memWf (dst : ModId) (vc : BitVec 4) (s : State) (hm : Memory.wf s.mem = true) :
    Memory.wf (outState (@execFlowFail dst vc s) s).mem = true := by
  unfold execFlowFail; try dsimp only []
  repeat' (first | (simp +contextual (maxDischargeDepth := 30) [*]; done) | split | intro _)

@[simp] theorem execFlowReopenWaitEnd_mem (dst : ModId) (vc : BitVec 4) (s : State) :
    (outState (@execFlowReopenWaitEnd dst vc s) s).mem = s.mem := by
  unfold execFlowReopenWaitEnd; simp

@[simp] theorem execIdleFlowClose_mem (dst : ModId) (vc : BitVec 4) (s : State) :
    (outState (@execIdleFlowClose dst vc s) s).mem = s.mem := by
  unfold execIdleFlowClose; try dsimp only []
  repeat' (first | (simp [*]; done) | split | intro _)

@[simp] theorem execRecvEntryExpiry_memWf (src : ModId) (vc : BitVec 4) (s : State) (hm : Memory.wf s.mem = true) :
    Memory.wf (outState (@execRecvEntryExpiry src vc s) s).mem = true := by
  unfold execRecvEntryExpiry; try dsimp only []
  repeat' (first | (simp +contextual (maxDischargeDepth := 30) [*]; done) | split | intro _)

@[simp] theorem execFwImageTimeout_mem (src : ModId) (s : State) :
    (outState (@execFwImageTimeout src s) s).mem = s.mem := by
  unfold execFwImageTimeout; simp

@[simp] theorem State.lapStop_memWf (s : State) (i : Nat) (q : LapSend) (next : Option Nat) (fault : Nat) (hm : Memory.wf s.mem = true) :
    Memory.wf (@State.lapStop s i q next fault).mem = true := by
  unfold State.lapStop; try dsimp only []
  repeat' (first | (simp +contextual (maxDischargeDepth := 30) [*]; done) | split | intro _)

@[simp] theorem State.lapAsk_mem (s : State) (i : Nat) (q : LapSend) :
    (@State.lapAsk s i q).mem = s.mem := by
  unfold State.lapAsk; simp

@[simp] theorem State.lapLoop_memWf (s : State) (i : Nat) (bs : List Byte) (hm : Memory.wf s.mem = true) :
    Memory.wf (State.lapLoop s i bs).mem = true := by
  unfold State.lapLoop
  apply foldl_memWf
  · intro s x hs
    split
    · exact hs
    · simp (maxDischargeDepth := 30) [hs]
  · exact hm

@[simp] theorem State.lapLeave_memWf (s : State) (i : Nat) (q : LapSend) (next : Nat) (hm : Memory.wf s.mem = true) :
    Memory.wf (State.lapLeave s i q next).mem = true := by
  unfold State.lapLeave
  dsimp only []
  have h : Memory.wf (q.srcs.foldl (fun s r => if s.here r.1 then s.touch (devSplit r.1).2 r.2 else s) s).mem = true := by
    apply foldl_memWf
    · intro s x hs
      split
      · simp (maxDischargeDepth := 30) [hs]
      · exact hs
    · exact hm
  generalize q.srcs.foldl (fun s r => if s.here r.1 then s.touch (devSplit r.1).2 r.2 else s) s = s' at h
  split
  · simp (maxDischargeDepth := 30) [h]
  · apply foldl_memWf
    · intro s x hs
      simp (maxDischargeDepth := 30) [hs]
    · simp (maxDischargeDepth := 30) [h]

@[simp] theorem execLapSliceSend_memWf (i : Fin 2) (s : State) (hm : Memory.wf s.mem = true) :
    Memory.wf (outState (execLapSliceSend i s) s).mem = true := by
  have h1 : ∀ q n f, Memory.wf (s.lapStop i.val q n f).mem = true := fun q n f => State.lapStop_memWf s i.val q n f hm
  have h2 : ∀ q n, Memory.wf (s.lapLeave i.val q n).mem = true := fun q n => State.lapLeave_memWf s i.val q n hm
  unfold execLapSliceSend
  simp only []
  repeat' (first
    | exact hm
    | (rw [outState_next]; first | exact h1 _ _ _ | exact h2 _ _ | (rw [State.lapAsk_mem]; exact hm))
    | split)

@[simp] theorem execRowMax_mem (t : Tid) (w : IWord) (s : State) :
    (outState (@execRowMax t w s) s).mem = s.mem := by
  unfold execRowMax; simp

@[simp] theorem execRowSumexp_memWf (t : Tid) (w : IWord) (s : State) (hm : Memory.wf s.mem = true) :
    Memory.wf (outState (execRowSumexp t w s) s).mem = true := by
  unfold execRowSumexp
  rw [outState_next]
  refine State.issue_memWf _ _ _ _ _ (fun _ => rfl) (fun s x hs => ?_) hm
  dsimp only []
  repeat' (first
    | exact hs
    | (refine State.access_memWf _ _ _ _ _ (fun s x hs => ?_) hs
       try dsimp only []
       repeat' (first
         | (simp (maxDischargeDepth := 30) only [Eff.st_retire, State.modRegs_mem, State.convFlags_mem,
              State.putTagged_memWf, hs]; done)
         | split))
    | split)

@[simp] theorem execRowRescale_mem (t : Tid) (w : IWord) (s : State) :
    (outState (@execRowRescale t w s) s).mem = s.mem := by
  unfold execRowRescale; simp

@[simp] theorem execRowRescaleT_memWf (t : Tid) (w : IWord) (s : State) (hm : Memory.wf s.mem = true) :
    Memory.wf (outState (execRowRescaleT t w s) s).mem = true := by
  unfold execRowRescaleT
  rw [outState_next]
  refine State.issue_memWf _ _ _ _ _ (fun _ => rfl) (fun s x hs => ?_) hm
  dsimp only []
  repeat' (first
    | exact hs
    | (refine State.access_memWf _ _ _ _ _ (fun s x hs => ?_) hs
       try dsimp only []
       repeat' (first
         | (simp (maxDischargeDepth := 30) only [Eff.st_retire, 
              State.putTagged_memWf, hs]; done)
         | split))
    | split)

@[simp] theorem execRowRmsPart_mem (t : Tid) (w : IWord) (s : State) :
    (outState (@execRowRmsPart t w s) s).mem = s.mem := by
  unfold execRowRmsPart; simp

@[simp] theorem execRowRmsFin_mem (t : Tid) (w : IWord) (s : State) :
    (outState (@execRowRmsFin t w s) s).mem = s.mem := by
  unfold execRowRmsFin; simp

@[simp] theorem execAttBias_memWf (t : Tid) (w : IWord) (s : State) (hm : Memory.wf s.mem = true) :
    Memory.wf (outState (execAttBias t w s) s).mem = true := by
  unfold execAttBias
  rw [outState_next]
  refine State.issue_memWf _ _ _ _ _ (fun _ => rfl) (fun s x hs => ?_) hm
  dsimp only []
  repeat' (first
    | exact hs
    | (refine State.access_memWf _ _ _ _ _ (fun s x hs => ?_) hs
       try dsimp only []
       repeat' (first
         | (simp (maxDischargeDepth := 30) only [Eff.st_retire, 
              State.putTagged_memWf, hs]; done)
         | split))
    | split)

@[simp] theorem State.kcvtRows_memWf (s : State) (t tile core : Nat) (d k : Desc) (satm : Bool) (tag : BitVec 8)
    (l : List Nat) (hm : Memory.wf s.mem = true) : Memory.wf (s.kcvtRows t tile core d k satm tag l).1.mem = true := by
  induction l generalizing s with
  | nil => exact hm
  | cons i is ih =>
    unfold State.kcvtRows
    split
    · exact hm
    · apply ih; simp (maxDischargeDepth := 30) [hm]

@[simp] theorem execAttKcvt_memWf (t : Tid) (w : IWord) (s : State) (hm : Memory.wf s.mem = true) :
    Memory.wf (outState (execAttKcvt t w s) s).mem = true := by
  unfold execAttKcvt
  rw [outState_next]
  refine State.issue_memWf _ _ _ _ _ (fun _ => rfl) (fun s x hs => ?_) hm
  dsimp only []
  repeat' (first
    | exact hs
    | (refine State.access_memWf _ _ _ _ _ (fun s x hs => ?_) hs
       try dsimp only []
       repeat' (first
         | (simp (maxDischargeDepth := 30) only [Eff.st_retire, Eff.st_fault, 
              State.kcvtRows_memWf, hs]; done)
         | split))
    | split)

@[simp] theorem execVAdd_mem (t : Tid) (w : IWord) (s : State) :
    (outState (@execVAdd t w s) s).mem = s.mem := by
  unfold execVAdd; simp

@[simp] theorem execVSub_mem (t : Tid) (w : IWord) (s : State) :
    (outState (@execVSub t w s) s).mem = s.mem := by
  unfold execVSub; simp

@[simp] theorem execVMul_mem (t : Tid) (w : IWord) (s : State) :
    (outState (@execVMul t w s) s).mem = s.mem := by
  unfold execVMul; simp

@[simp] theorem execVFma_mem (t : Tid) (w : IWord) (s : State) :
    (outState (@execVFma t w s) s).mem = s.mem := by
  unfold execVFma; simp

@[simp] theorem execVMax_mem (t : Tid) (w : IWord) (s : State) :
    (outState (@execVMax t w s) s).mem = s.mem := by
  unfold execVMax; simp

@[simp] theorem execVMin_mem (t : Tid) (w : IWord) (s : State) :
    (outState (@execVMin t w s) s).mem = s.mem := by
  unfold execVMin; simp

@[simp] theorem execVAbs_mem (t : Tid) (w : IWord) (s : State) :
    (outState (@execVAbs t w s) s).mem = s.mem := by
  unfold execVAbs; simp

@[simp] theorem execVNeg_mem (t : Tid) (w : IWord) (s : State) :
    (outState (@execVNeg t w s) s).mem = s.mem := by
  unfold execVNeg; simp

@[simp] theorem execVCmp_mem (t : Tid) (w : IWord) (s : State) :
    (outState (@execVCmp t w s) s).mem = s.mem := by
  unfold execVCmp; simp

@[simp] theorem execVSel_mem (t : Tid) (w : IWord) (s : State) :
    (outState (@execVSel t w s) s).mem = s.mem := by
  unfold execVSel; simp

@[simp] theorem execVBcast_mem (t : Tid) (w : IWord) (s : State) :
    (outState (@execVBcast t w s) s).mem = s.mem := by
  unfold execVBcast; simp

@[simp] theorem execVExtr_mem (t : Tid) (w : IWord) (s : State) :
    (outState (@execVExtr t w s) s).mem = s.mem := by
  unfold execVExtr; simp

@[simp] theorem execVLaneid_mem (t : Tid) (w : IWord) (s : State) :
    (outState (@execVLaneid t w s) s).mem = s.mem := by
  unfold execVLaneid; simp

@[simp] theorem execVCvt_mem (t : Tid) (w : IWord) (s : State) :
    (outState (@execVCvt t w s) s).mem = s.mem := by
  unfold execVCvt; simp

@[simp] theorem execVIadd_mem (t : Tid) (w : IWord) (s : State) :
    (outState (@execVIadd t w s) s).mem = s.mem := by
  unfold execVIadd; simp

@[simp] theorem execVIsub_mem (t : Tid) (w : IWord) (s : State) :
    (outState (@execVIsub t w s) s).mem = s.mem := by
  unfold execVIsub; simp

@[simp] theorem execVImul_mem (t : Tid) (w : IWord) (s : State) :
    (outState (@execVImul t w s) s).mem = s.mem := by
  unfold execVImul; simp

@[simp] theorem execVAnd_mem (t : Tid) (w : IWord) (s : State) :
    (outState (@execVAnd t w s) s).mem = s.mem := by
  unfold execVAnd; simp

@[simp] theorem execVOr_mem (t : Tid) (w : IWord) (s : State) :
    (outState (@execVOr t w s) s).mem = s.mem := by
  unfold execVOr; simp

@[simp] theorem execVXor_mem (t : Tid) (w : IWord) (s : State) :
    (outState (@execVXor t w s) s).mem = s.mem := by
  unfold execVXor; simp

@[simp] theorem execVShl_mem (t : Tid) (w : IWord) (s : State) :
    (outState (@execVShl t w s) s).mem = s.mem := by
  unfold execVShl; simp

@[simp] theorem execVShr_mem (t : Tid) (w : IWord) (s : State) :
    (outState (@execVShr t w s) s).mem = s.mem := by
  unfold execVShr; simp

@[simp] theorem execVSar_mem (t : Tid) (w : IWord) (s : State) :
    (outState (@execVSar t w s) s).mem = s.mem := by
  unfold execVSar; simp

@[simp] theorem sfOp_mem (k : Nat) (t : Tid) (w : IWord) (s : State) :
    (@sfOp k t w s).mem = s.mem := by
  unfold sfOp; simp

@[simp] theorem execSfTanh_mem (t : Tid) (w : IWord) (s : State) :
    (outState (@execSfTanh t w s) s).mem = s.mem := by
  unfold execSfTanh; simp

@[simp] theorem execSfLogistic_mem (t : Tid) (w : IWord) (s : State) :
    (outState (@execSfLogistic t w s) s).mem = s.mem := by
  unfold execSfLogistic; simp

@[simp] theorem execSfExp2_mem (t : Tid) (w : IWord) (s : State) :
    (outState (@execSfExp2 t w s) s).mem = s.mem := by
  unfold execSfExp2; simp

@[simp] theorem execSfRcp_mem (t : Tid) (w : IWord) (s : State) :
    (outState (@execSfRcp t w s) s).mem = s.mem := by
  unfold execSfRcp; simp

@[simp] theorem execSfRsqrt_mem (t : Tid) (w : IWord) (s : State) :
    (outState (@execSfRsqrt t w s) s).mem = s.mem := by
  unfold execSfRsqrt; simp

@[simp] theorem State.putAt_memWf (s : State) (tile : Nat) (d : Desc) (i : Nat) (code : Nat) (hm : Memory.wf s.mem = true) :
    Memory.wf (@State.putAt s tile d i code).mem = true := by
  unfold State.putAt; simp +contextual (maxDischargeDepth := 30) [*]

@[simp] theorem State.wupdElem_memWf (s : State) (t : Nat) (tile : Nat) (wd : Desc) (sr : Bool) (i : Nat) (u : Upd) (open0 : Nat) (hm : Memory.wf s.mem = true) :
    Memory.wf (@State.wupdElem s t tile wd sr i u open0).mem = true := by
  unfold State.wupdElem; try dsimp only []
  repeat' (first | (simp +contextual (maxDischargeDepth := 30) [*]; done) | split | intro _)

@[simp] theorem State.sgdElem_memWf (s : State) (t : Nat) (tile : Nat) (l : Layer) (gc : Num) (sr : Bool) (wd : Desc) (ud : Desc) (i : Nat) (hm : Memory.wf s.mem = true) :
    Memory.wf (@State.sgdElem s t tile l gc sr wd ud i).mem = true := by
  unfold State.sgdElem; simp +contextual (maxDischargeDepth := 30) [*]

@[simp] theorem State.adamElem_memWf (s : State) (t : Nat) (tile : Nat) (l : Layer) (gc : Num) (sr : Bool) (wd : Desc) (gd : Desc) (md : Desc) (vd : Desc) (i : Nat) (hm : Memory.wf s.mem = true) :
    Memory.wf (@State.adamElem s t tile l gc sr wd gd md vd i).mem = true := by
  unfold State.adamElem; simp +contextual (maxDischargeDepth := 30) [*]

@[simp] theorem State.drawn_mem (s : State) (t : Nat) (n : Nat) (sr : Bool) :
    (@State.drawn s t n sr).mem = s.mem := by
  unfold State.drawn; simp

@[simp] theorem State.wupdRun_memWf (s : State) (t n : Nat) (f : State → Nat → State) (wrs : List (Nat × Nat)) (sr : Bool) (tag : BitVec 8)
    (hm : Memory.wf s.mem = true) : Memory.wf (s.wupdRun t n f wrs sr tag).mem = true := by
  unfold State.wupdRun
  dsimp only []
  rw [State.drawn_mem]
  exact State.putTagged_memWf _ _ _ _ hm

@[simp] theorem State.withLayer_memWf (s : State) (t : Tid) (off : Nat) (adam : Bool) (wfmt : Nat) (k : Layer → State → BitVec 8 → Eff) (hk : ∀ y0 y1 y2, Memory.wf y1.mem = true → Memory.wf ((k y0 y1 y2).st).mem = true) (hm : Memory.wf s.mem = true) :
    Memory.wf (@State.withLayer s t off adam wfmt k).st.mem = true := by
  unfold State.withLayer; simp +contextual (maxDischargeDepth := 30) [*]

@[simp] theorem State.withLayer_mem (s : State) (t : Tid) (off : Nat) (adam : Bool) (wfmt : Nat) (k : Layer → State → BitVec 8 → Eff) (hk : ∀ y0 y1 y2, ((k y0 y1 y2).st).mem = y1.mem) :
    (@State.withLayer s t off adam wfmt k).st.mem = s.mem := by
  unfold State.withLayer; try dsimp only []
  repeat' (first | (simp [*]; done) | split | intro _)

@[simp] theorem wupdBody_memWf (t : Tid) (s : State) (tag : BitVec 8) (adam sr : Bool) (off : Nat) (wd : Desc) (ins outs : List (Desc × List Nat))
    (f : Layer → State → Nat → State) (hm : Memory.wf s.mem = true) :
    Memory.wf (wupdBody t s tag adam sr off wd ins outs f).st.mem = true := by
  unfold wupdBody
  dsimp only []
  repeat' (first
    | exact hm
    | exact State.withLayer_memWf _ _ _ _ _ _ (fun l s lt hs => State.access_memWf _ _ _ _ _ (fun s x hs => State.wupdRun_memWf s _ _ _ _ _ _ hs) hs) hm
    | split)

@[simp] theorem State.wupdOff_mem (t : Nat) (w : IWord) (sr : Bool) (s : State) :
    (@State.wupdOff t w sr s).mem = s.mem := by
  unfold State.wupdOff; simp

@[simp] theorem wupdOp_memWf (t : Tid) (w : IWord) (sr : Bool) (s : State) (hm : Memory.wf s.mem = true) :
    Memory.wf (@wupdOp t w sr s).mem = true := by
  unfold wupdOp; simp +contextual (maxDischargeDepth := 30) [*]

@[simp] theorem adamOp_memWf (t : Tid) (w : IWord) (sr : Bool) (s : State) (hm : Memory.wf s.mem = true) :
    Memory.wf (@adamOp t w sr s).mem = true := by
  unfold adamOp; simp +contextual (maxDischargeDepth := 30) [*]

@[simp] theorem execWupd_memWf (t : Tid) (w : IWord) (s : State) (hm : Memory.wf s.mem = true) :
    Memory.wf (outState (@execWupd t w s) s).mem = true := by
  unfold execWupd; simp +contextual (maxDischargeDepth := 30) [*]

@[simp] theorem execWupdSr_memWf (t : Tid) (w : IWord) (s : State) (hm : Memory.wf s.mem = true) :
    Memory.wf (outState (@execWupdSr t w s) s).mem = true := by
  unfold execWupdSr; simp +contextual (maxDischargeDepth := 30) [*]

@[simp] theorem execWupdAdam_memWf (t : Tid) (w : IWord) (s : State) (hm : Memory.wf s.mem = true) :
    Memory.wf (outState (@execWupdAdam t w s) s).mem = true := by
  unfold execWupdAdam; simp +contextual (maxDischargeDepth := 30) [*]

@[simp] theorem execWupdAdamSr_memWf (t : Tid) (w : IWord) (s : State) (hm : Memory.wf s.mem = true) :
    Memory.wf (outState (@execWupdAdamSr t w s) s).mem = true := by
  unfold execWupdAdamSr; simp +contextual (maxDischargeDepth := 30) [*]

@[simp] theorem exec_memWf (i : Instr) (s : State) (hm : Memory.wf s.mem = true) :
    Memory.wf (outState (@exec i s) s).mem = true := by
  unfold exec; try dsimp only []
  repeat' (first | (simp +contextual (maxDischargeDepth := 30) [*]; done) | split | intro _)



@[simp] theorem State.withFetchWord_mem (s : State) (nbits : Nat) (w : Nat) :
    (@State.withFetchWord s nbits w).mem = s.mem := by
  unfold State.withFetchWord; try dsimp only []
  repeat' (first | (simp [*]; done) | split | intro _)

end Sys2Proof.Machine
end

