-- ==== Sys2Proof/Laws/Fuses.lean ====
section
/-! SUPPORT. The coefficients of the special functions have the properties that R243, R244 and R246 state. -/

namespace Sys2Proof.Machine

/-- The plain table has them. -/
theorem sfTableOk_plain : sfTableOk sfPlain = true := by decide +kernel

/-- R243, R244: so does the table that the module reads, whatever the fuses hold. -/
theorem sfTableOk_coef : sfTableOk sfCoef = true := by
  by_cases h : sfTableOk sfFuse = true
  · have e : sfCoef = sfFuse := by funext i; simp [sfCoef, h]
    rw [e, h]
  · have e : sfCoef = sfPlain := by funext i; simp [sfCoef, h]
    rw [e, sfTableOk_plain]

/-- R243: e0[0] is exactly 1. -/
theorem sfCoef_exp2_one : sfCoef 288 = 0x3F800000 := by
  have h := sfTableOk_coef
  simp only [sfTableOk, Bool.and_eq_true, decide_eq_true_eq] at h
  exact h.1.1.1.1.1.2

end Sys2Proof.Machine
end

