-- ==== Sys2Proof/Laws/State.lean ====
section
/-! SUPPORT. The small laws of the state: what reading gives after writing, one lemma per field and update. -/

namespace Sys2Proof.Machine

/-! Sparse maps -/

@[simp] theorem SMap.find_set_self {α : Type} (m : SMap α) (k : Nat) (v : α) : SMap.find (SMap.set m k v) k = some v := by
  induction m with
  | nil => simp [SMap.set, SMap.find]
  | cons e m ih =>
    obtain ⟨k', v'⟩ := e
    simp only [SMap.set]
    split
    · simp [SMap.find]
    · split
      · simp [SMap.find]
      · rename_i h _
        simp [SMap.find, h, ih]

theorem SMap.find_set_ne {α : Type} (m : SMap α) (k j : Nat) (v : α) (h : j ≠ k) :
    SMap.find (SMap.set m k v) j = SMap.find m j := by
  induction m with
  | nil => simp [SMap.set, SMap.find, Ne.symm h]
  | cons e m ih =>
    obtain ⟨k', v'⟩ := e
    simp only [SMap.set]
    split
    · rename_i hk
      subst hk
      simp [SMap.find, Ne.symm h]
    · split
      · simp [SMap.find, Ne.symm h]
      · simp only [SMap.find, ih]

@[simp] theorem SMap.getD_set_self {α : Type} (m : SMap α) (k : Nat) (v d : α) : SMap.getD (SMap.set m k v) k d = v := by
  simp [SMap.getD]

theorem SMap.getD_set_ne {α : Type} (m : SMap α) (k j : Nat) (v d : α) (h : j ≠ k) :
    SMap.getD (SMap.set m k v) j d = SMap.getD m j d := by
  simp [SMap.getD, SMap.find_set_ne m k j v h]

@[simp] theorem SMap.set_set {α : Type} (m : SMap α) (k : Nat) (v u : α) : SMap.set (SMap.set m k v) k u = SMap.set m k u := by
  induction m with
  | nil => simp [SMap.set]
  | cons e m ih =>
    obtain ⟨k', v'⟩ := e
    simp only [SMap.set]
    split
    · simp [SMap.set]
    · rename_i h
      split
      · simp [SMap.set]
      · rename_i h2
        simp [SMap.set, h, h2, ih]

@[simp] theorem SMap.find_erase_self {α : Type} (m : SMap α) (k : Nat) : SMap.find (SMap.erase m k) k = none := by
  induction m with
  | nil => rfl
  | cons e m ih =>
    obtain ⟨k', v'⟩ := e
    simp only [SMap.erase, List.filter] at ih ⊢
    split
    · rename_i h
      simp only [decide_eq_true_eq] at h
      simp only [SMap.find]
      rw [if_neg h]
      exact ih
    · exact ih

theorem SMap.find_erase_ne {α : Type} (m : SMap α) (k j : Nat) (h : j ≠ k) : SMap.find (SMap.erase m k) j = SMap.find m j := by
  induction m with
  | nil => rfl
  | cons e m ih =>
    obtain ⟨k', v'⟩ := e
    simp only [SMap.erase, List.filter] at ih ⊢
    split
    · simp only [SMap.find]
      rw [ih]
    · rename_i hk
      have hk : k' = k := by simpa using hk
      subst hk
      simp only [SMap.find]
      rw [if_neg (Ne.symm h)]
      exact ih

@[simp] theorem SMap.getD_erase_self {α : Type} (m : SMap α) (k : Nat) (d : α) : SMap.getD (SMap.erase m k) k d = d := by
  simp [SMap.getD]

theorem SMap.getD_erase_ne {α : Type} (m : SMap α) (k j : Nat) (d : α) (h : j ≠ k) :
    SMap.getD (SMap.erase m k) j d = SMap.getD m j d := by
  simp [SMap.getD, SMap.find_erase_ne m k j h]

/-! Memory -/

/-- A byte reads as it was written. -/
@[simp] theorem Memory.get_set_self (m : Memory) (a : Nat) (b : Byte) : (m.set a b).get a = b := by
  unfold Memory.get Memory.set
  split
  · rename_i h
    simp [h]
  · simp

/-- Writing a byte leaves every other as it was. -/
theorem Memory.get_set_ne (m : Memory) (a c : Nat) (b : Byte) (h : c ≠ a) : (m.set a b).get c = m.get c := by
  unfold Memory.get Memory.set
  split
  · exact SMap.getD_erase_ne m a c 0 h
  · exact SMap.getD_set_ne m a c b 0 h

/-! Register fields -/

@[simp] theorem State.fld_setFld_self (s : State) (f : Fld) (v : Nat) : (s.setFld f v).fld f = v % 2 ^ f.len := by
  unfold State.fld State.setFld
  simp

theorem State.fld_setFld_ne (s : State) (f g : Fld) (v : Nat) (h : g.key ≠ f.key) : (s.setFld f v).fld g = s.fld g := by
  unfold State.fld State.setFld
  rw [SMap.find_set_ne _ _ _ _ h]
  rfl

@[simp] theorem State.setFld_setFld (s : State) (f : Fld) (v u : Nat) : (s.setFld f v).setFld f u = s.setFld f u := by
  unfold State.setFld
  simp

/-! Threads and cores -/

@[simp] theorem State.thread_setThread_self (s : State) (t : Nat) (x : Thread) : (s.setThread t x).thread t = x := by
  unfold State.thread State.setThread
  simp

theorem State.thread_setThread_ne (s : State) (t u : Nat) (x : Thread) (h : u ≠ t) : (s.setThread t x).thread u = s.thread u := by
  unfold State.thread State.setThread
  exact SMap.getD_set_ne _ _ _ _ _ h

@[simp] theorem State.setThread_setThread (s : State) (t : Nat) (x y : Thread) : (s.setThread t x).setThread t y = s.setThread t y := by
  unfold State.setThread
  simp

@[simp] theorem State.regs_setThread_self (s : State) (t : Nat) (x : Thread) : (s.setThread t x).regs t = x.regs := by
  unfold State.regs
  simp

@[simp] theorem State.core_setCore_self (s : State) (c : Nat) (x : Core) : (s.setCore c x).core c = x := by
  unfold State.core State.setCore
  simp

theorem State.core_setCore_ne (s : State) (c d : Nat) (x : Core) (h : d ≠ c) : (s.setCore c x).core d = s.core d := by
  unfold State.core State.setCore
  exact SMap.getD_set_ne _ _ _ _ _ h

@[simp] theorem State.regs_modRegs_self (s : State) (t : Nat) (f : TRegs → TRegs) : (s.modRegs t f).regs t = f (s.regs t) := by
  unfold State.modRegs
  simp [State.regs]

@[simp] theorem State.thread_modRegs_self (s : State) (t : Nat) (f : TRegs → TRegs) :
    (s.modRegs t f).thread t = { s.thread t with regs := f (s.regs t) } := by
  unfold State.modRegs
  simp [State.regs]

@[simp] theorem State.modRegs_modRegs (s : State) (t : Nat) (f g : TRegs → TRegs) :
    (s.modRegs t f).modRegs t g = s.modRegs t (fun r => g (f r)) := by
  unfold State.modRegs
  simp


/-! One lemma per field and update -/

@[simp] theorem State.setFld_cycle (s : State) (f : Fld) (v : Nat) : (s.setFld f v).cycle = s.cycle := rfl

@[simp] theorem State.setFld_edges (s : State) (f : Fld) (v : Nat) : (s.setFld f v).edges = s.edges := rfl

@[simp] theorem State.setFld_lost (s : State) (f : Fld) (v : Nat) : (s.setFld f v).lost = s.lost := rfl

@[simp] theorem State.setFld_free (s : State) (f : Fld) (v : Nat) : (s.setFld f v).free = s.free := rfl

@[simp] theorem State.setFld_loaded (s : State) (f : Fld) (v : Nat) : (s.setFld f v).loaded = s.loaded := rfl

@[simp] theorem State.setFld_held (s : State) (f : Fld) (v : Nat) : (s.setFld f v).held = s.held := rfl

@[simp] theorem State.setFld_poison (s : State) (f : Fld) (v : Nat) : (s.setFld f v).poison = s.poison := rfl

@[simp] theorem State.setFld_ltags (s : State) (f : Fld) (v : Nat) : (s.setFld f v).ltags = s.ltags := rfl

@[simp] theorem State.setFld_host (s : State) (f : Fld) (v : Nat) : (s.setFld f v).host = s.host := rfl

@[simp] theorem State.setFld_threads (s : State) (f : Fld) (v : Nat) : (s.setFld f v).threads = s.threads := rfl

@[simp] theorem State.setFld_cores (s : State) (f : Fld) (v : Nat) : (s.setFld f v).cores = s.cores := rfl

@[simp] theorem State.setFld_bars (s : State) (f : Fld) (v : Nat) : (s.setFld f v).bars = s.bars := rfl

@[simp] theorem State.setFld_launches (s : State) (f : Fld) (v : Nat) : (s.setFld f v).launches = s.launches := rfl

@[simp] theorem State.setFld_tiles (s : State) (f : Fld) (v : Nat) : (s.setFld f v).tiles = s.tiles := rfl

@[simp] theorem State.setFld_cmds (s : State) (f : Fld) (v : Nat) : (s.setFld f v).cmds = s.cmds := rfl

@[simp] theorem State.setFld_streams (s : State) (f : Fld) (v : Nat) : (s.setFld f v).streams = s.streams := rfl

@[simp] theorem State.setFld_pins (s : State) (f : Fld) (v : Nat) : (s.setFld f v).pins = s.pins := rfl

@[simp] theorem State.setFld_wops (s : State) (f : Fld) (v : Nat) : (s.setFld f v).wops = s.wops := rfl

@[simp] theorem State.setFld_reclaim (s : State) (f : Fld) (v : Nat) : (s.setFld f v).reclaim = s.reclaim := rfl

@[simp] theorem State.setFld_tried (s : State) (f : Fld) (v : Nat) : (s.setFld f v).tried = s.tried := rfl

@[simp] theorem State.setFld_kvLine (s : State) (f : Fld) (v : Nat) : (s.setFld f v).kvLine = s.kvLine := rfl

@[simp] theorem State.setFld_kvSeq (s : State) (f : Fld) (v : Nat) : (s.setFld f v).kvSeq = s.kvSeq := rfl

@[simp] theorem State.setFld_inited (s : State) (f : Fld) (v : Nat) : (s.setFld f v).inited = s.inited := rfl

@[simp] theorem State.setFld_chks (s : State) (f : Fld) (v : Nat) : (s.setFld f v).chks = s.chks := rfl

@[simp] theorem State.setFld_jobRec (s : State) (f : Fld) (v : Nat) : (s.setFld f v).jobRec = s.jobRec := rfl

@[simp] theorem State.setFld_srSeq (s : State) (f : Fld) (v : Nat) : (s.setFld f v).srSeq = s.srSeq := rfl

@[simp] theorem State.setFld_ingest (s : State) (f : Fld) (v : Nat) : (s.setFld f v).ingest = s.ingest := rfl
@[simp] theorem State.setFld_ingLine (s : State) (f : Fld) (v : Nat) : (s.setFld f v).ingLine = s.ingLine := rfl
@[simp] theorem State.setFld_inbox (s : State) (f : Fld) (v : Nat) : (s.setFld f v).inbox = s.inbox := rfl
@[simp] theorem State.setFld_early (s : State) (f : Fld) (v : Nat) : (s.setFld f v).early = s.early := rfl
@[simp] theorem State.setFld_ownLanes (s : State) (f : Fld) (v : Nat) : (s.setFld f v).ownLanes = s.ownLanes := rfl
@[simp] theorem State.setFld_peerLanes (s : State) (f : Fld) (v : Nat) : (s.setFld f v).peerLanes = s.peerLanes := rfl
@[simp] theorem State.setFld_msixCtl (s : State) (f : Fld) (v : Nat) : (s.setFld f v).msixCtl = s.msixCtl := rfl

@[simp] theorem State.setFld_pipes (s : State) (f : Fld) (v : Nat) : (s.setFld f v).pipes = s.pipes := rfl

@[simp] theorem State.setFld_cpr (s : State) (f : Fld) (v : Nat) : (s.setFld f v).cpr = s.cpr := rfl

@[simp] theorem State.setFld_links (s : State) (f : Fld) (v : Nat) : (s.setFld f v).links = s.links := rfl

@[simp] theorem State.setFld_laps (s : State) (f : Fld) (v : Nat) : (s.setFld f v).laps = s.laps := rfl

@[simp] theorem State.setFld_relays (s : State) (f : Fld) (v : Nat) : (s.setFld f v).relays = s.relays := rfl

@[simp] theorem State.setFld_norms (s : State) (f : Fld) (v : Nat) : (s.setFld f v).norms = s.norms := rfl

@[simp] theorem State.setFld_sends (s : State) (f : Fld) (v : Nat) : (s.setFld f v).sends = s.sends := rfl

@[simp] theorem State.setFld_recvs (s : State) (f : Fld) (v : Nat) : (s.setFld f v).recvs = s.recvs := rfl

@[simp] theorem State.setFld_startId (s : State) (f : Fld) (v : Nat) : (s.setFld f v).startId = s.startId := rfl

@[simp] theorem State.setFld_fcount (s : State) (f : Fld) (v : Nat) : (s.setFld f v).fcount = s.fcount := rfl

@[simp] theorem State.setFld_failedEp (s : State) (f : Fld) (v : Nat) : (s.setFld f v).failedEp = s.failedEp := rfl

@[simp] theorem State.setFld_waiters (s : State) (f : Fld) (v : Nat) : (s.setFld f v).waiters = s.waiters := rfl

@[simp] theorem State.setFld_nextTag (s : State) (f : Fld) (v : Nat) : (s.setFld f v).nextTag = s.nextTag := rfl

@[simp] theorem State.setFld_mgmtStop (s : State) (f : Fld) (v : Nat) : (s.setFld f v).mgmtStop = s.mgmtStop := rfl

@[simp] theorem State.setFld_retired (s : State) (f : Fld) (v : Nat) : (s.setFld f v).retired = s.retired := rfl

@[simp] theorem State.setFld_bar4 (s : State) (f : Fld) (v : Nat) : (s.setFld f v).bar4 = s.bar4 := rfl

@[simp] theorem State.setFld_pistes (s : State) (f : Fld) (v : Nat) : (s.setFld f v).pistes = s.pistes := rfl

@[simp] theorem State.setFld_defects (s : State) (f : Fld) (v : Nat) : (s.setFld f v).defects = s.defects := rfl

@[simp] theorem State.setFld_unstored (s : State) (f : Fld) (v : Nat) : (s.setFld f v).unstored = s.unstored := rfl

@[simp] theorem State.setFld_fw (s : State) (f : Fld) (v : Nat) : (s.setFld f v).fw = s.fw := rfl

@[simp] theorem State.setFld_dram (s : State) (f : Fld) (v : Nat) : (s.setFld f v).dram = s.dram := rfl

@[simp] theorem State.setFld_settings (s : State) (f : Fld) (v : Nat) : (s.setFld f v).settings = s.settings := rfl

@[simp] theorem State.setFld_boot (s : State) (f : Fld) (v : Nat) : (s.setFld f v).boot = s.boot := rfl

@[simp] theorem State.setFld_trust (s : State) (f : Fld) (v : Nat) : (s.setFld f v).trust = s.trust := rfl

@[simp] theorem State.setFld_flog (s : State) (f : Fld) (v : Nat) : (s.setFld f v).flog = s.flog := rfl

@[simp] theorem State.setFld_flogCount (s : State) (f : Fld) (v : Nat) : (s.setFld f v).flogCount = s.flogCount := rfl

@[simp] theorem State.setFld_msix (s : State) (f : Fld) (v : Nat) : (s.setFld f v).msix = s.msix := rfl

@[simp] theorem State.setFld_msixPend (s : State) (f : Fld) (v : Nat) : (s.setFld f v).msixPend = s.msixPend := rfl

@[simp] theorem State.setFld_out (s : State) (f : Fld) (v : Nat) : (s.setFld f v).out = s.out := rfl

@[simp] theorem State.setFld_thread (s : State) (f : Fld) (v : Nat) (q : Nat) : (s.setFld f v).thread q = s.thread q := rfl

@[simp] theorem State.setFld_regs (s : State) (f : Fld) (v : Nat) (q : Nat) : (s.setFld f v).regs q = s.regs q := rfl

@[simp] theorem State.setFld_core (s : State) (f : Fld) (v : Nat) (q : Nat) : (s.setFld f v).core q = s.core q := rfl

@[simp] theorem State.setThread_cycle (s : State) (t : Nat) (x : Thread) : (s.setThread t x).cycle = s.cycle := rfl

@[simp] theorem State.setThread_edges (s : State) (t : Nat) (x : Thread) : (s.setThread t x).edges = s.edges := rfl

@[simp] theorem State.setThread_lost (s : State) (t : Nat) (x : Thread) : (s.setThread t x).lost = s.lost := rfl

@[simp] theorem State.setThread_free (s : State) (t : Nat) (x : Thread) : (s.setThread t x).free = s.free := rfl

@[simp] theorem State.setThread_loaded (s : State) (t : Nat) (x : Thread) : (s.setThread t x).loaded = s.loaded := rfl

@[simp] theorem State.setThread_held (s : State) (t : Nat) (x : Thread) : (s.setThread t x).held = s.held := rfl

@[simp] theorem State.setThread_flds (s : State) (t : Nat) (x : Thread) : (s.setThread t x).flds = s.flds := rfl

@[simp] theorem State.setThread_poison (s : State) (t : Nat) (x : Thread) : (s.setThread t x).poison = s.poison := rfl

@[simp] theorem State.setThread_ltags (s : State) (t : Nat) (x : Thread) : (s.setThread t x).ltags = s.ltags := rfl

@[simp] theorem State.setThread_host (s : State) (t : Nat) (x : Thread) : (s.setThread t x).host = s.host := rfl

@[simp] theorem State.setThread_cores (s : State) (t : Nat) (x : Thread) : (s.setThread t x).cores = s.cores := rfl

@[simp] theorem State.setThread_bars (s : State) (t : Nat) (x : Thread) : (s.setThread t x).bars = s.bars := rfl

@[simp] theorem State.setThread_launches (s : State) (t : Nat) (x : Thread) : (s.setThread t x).launches = s.launches := rfl

@[simp] theorem State.setThread_tiles (s : State) (t : Nat) (x : Thread) : (s.setThread t x).tiles = s.tiles := rfl

@[simp] theorem State.setThread_cmds (s : State) (t : Nat) (x : Thread) : (s.setThread t x).cmds = s.cmds := rfl

@[simp] theorem State.setThread_streams (s : State) (t : Nat) (x : Thread) : (s.setThread t x).streams = s.streams := rfl

@[simp] theorem State.setThread_pins (s : State) (t : Nat) (x : Thread) : (s.setThread t x).pins = s.pins := rfl

@[simp] theorem State.setThread_wops (s : State) (t : Nat) (x : Thread) : (s.setThread t x).wops = s.wops := rfl

@[simp] theorem State.setThread_reclaim (s : State) (t : Nat) (x : Thread) : (s.setThread t x).reclaim = s.reclaim := rfl

@[simp] theorem State.setThread_tried (s : State) (t : Nat) (x : Thread) : (s.setThread t x).tried = s.tried := rfl

@[simp] theorem State.setThread_kvLine (s : State) (t : Nat) (x : Thread) : (s.setThread t x).kvLine = s.kvLine := rfl

@[simp] theorem State.setThread_kvSeq (s : State) (t : Nat) (x : Thread) : (s.setThread t x).kvSeq = s.kvSeq := rfl

@[simp] theorem State.setThread_inited (s : State) (t : Nat) (x : Thread) : (s.setThread t x).inited = s.inited := rfl

@[simp] theorem State.setThread_chks (s : State) (t : Nat) (x : Thread) : (s.setThread t x).chks = s.chks := rfl

@[simp] theorem State.setThread_jobRec (s : State) (t : Nat) (x : Thread) : (s.setThread t x).jobRec = s.jobRec := rfl

@[simp] theorem State.setThread_srSeq (s : State) (t : Nat) (x : Thread) : (s.setThread t x).srSeq = s.srSeq := rfl

@[simp] theorem State.setThread_ingest (s : State) (t : Nat) (x : Thread) : (s.setThread t x).ingest = s.ingest := rfl
@[simp] theorem State.setThread_ingLine (s : State) (t : Nat) (x : Thread) : (s.setThread t x).ingLine = s.ingLine := rfl
@[simp] theorem State.setThread_inbox (s : State) (t : Nat) (x : Thread) : (s.setThread t x).inbox = s.inbox := rfl
@[simp] theorem State.setThread_early (s : State) (t : Nat) (x : Thread) : (s.setThread t x).early = s.early := rfl
@[simp] theorem State.setThread_ownLanes (s : State) (t : Nat) (x : Thread) : (s.setThread t x).ownLanes = s.ownLanes := rfl
@[simp] theorem State.setThread_peerLanes (s : State) (t : Nat) (x : Thread) : (s.setThread t x).peerLanes = s.peerLanes := rfl
@[simp] theorem State.setThread_msixCtl (s : State) (t : Nat) (x : Thread) : (s.setThread t x).msixCtl = s.msixCtl := rfl

@[simp] theorem State.setThread_pipes (s : State) (t : Nat) (x : Thread) : (s.setThread t x).pipes = s.pipes := rfl

@[simp] theorem State.setThread_cpr (s : State) (t : Nat) (x : Thread) : (s.setThread t x).cpr = s.cpr := rfl

@[simp] theorem State.setThread_links (s : State) (t : Nat) (x : Thread) : (s.setThread t x).links = s.links := rfl

@[simp] theorem State.setThread_laps (s : State) (t : Nat) (x : Thread) : (s.setThread t x).laps = s.laps := rfl

@[simp] theorem State.setThread_relays (s : State) (t : Nat) (x : Thread) : (s.setThread t x).relays = s.relays := rfl

@[simp] theorem State.setThread_norms (s : State) (t : Nat) (x : Thread) : (s.setThread t x).norms = s.norms := rfl

@[simp] theorem State.setThread_sends (s : State) (t : Nat) (x : Thread) : (s.setThread t x).sends = s.sends := rfl

@[simp] theorem State.setThread_recvs (s : State) (t : Nat) (x : Thread) : (s.setThread t x).recvs = s.recvs := rfl

@[simp] theorem State.setThread_startId (s : State) (t : Nat) (x : Thread) : (s.setThread t x).startId = s.startId := rfl

@[simp] theorem State.setThread_fcount (s : State) (t : Nat) (x : Thread) : (s.setThread t x).fcount = s.fcount := rfl

@[simp] theorem State.setThread_failedEp (s : State) (t : Nat) (x : Thread) : (s.setThread t x).failedEp = s.failedEp := rfl

@[simp] theorem State.setThread_waiters (s : State) (t : Nat) (x : Thread) : (s.setThread t x).waiters = s.waiters := rfl

@[simp] theorem State.setThread_nextTag (s : State) (t : Nat) (x : Thread) : (s.setThread t x).nextTag = s.nextTag := rfl

@[simp] theorem State.setThread_mgmtStop (s : State) (t : Nat) (x : Thread) : (s.setThread t x).mgmtStop = s.mgmtStop := rfl

@[simp] theorem State.setThread_retired (s : State) (t : Nat) (x : Thread) : (s.setThread t x).retired = s.retired := rfl

@[simp] theorem State.setThread_bar4 (s : State) (t : Nat) (x : Thread) : (s.setThread t x).bar4 = s.bar4 := rfl

@[simp] theorem State.setThread_pistes (s : State) (t : Nat) (x : Thread) : (s.setThread t x).pistes = s.pistes := rfl

@[simp] theorem State.setThread_defects (s : State) (t : Nat) (x : Thread) : (s.setThread t x).defects = s.defects := rfl

@[simp] theorem State.setThread_unstored (s : State) (t : Nat) (x : Thread) : (s.setThread t x).unstored = s.unstored := rfl

@[simp] theorem State.setThread_fw (s : State) (t : Nat) (x : Thread) : (s.setThread t x).fw = s.fw := rfl

@[simp] theorem State.setThread_dram (s : State) (t : Nat) (x : Thread) : (s.setThread t x).dram = s.dram := rfl

@[simp] theorem State.setThread_settings (s : State) (t : Nat) (x : Thread) : (s.setThread t x).settings = s.settings := rfl

@[simp] theorem State.setThread_boot (s : State) (t : Nat) (x : Thread) : (s.setThread t x).boot = s.boot := rfl

@[simp] theorem State.setThread_trust (s : State) (t : Nat) (x : Thread) : (s.setThread t x).trust = s.trust := rfl

@[simp] theorem State.setThread_flog (s : State) (t : Nat) (x : Thread) : (s.setThread t x).flog = s.flog := rfl

@[simp] theorem State.setThread_flogCount (s : State) (t : Nat) (x : Thread) : (s.setThread t x).flogCount = s.flogCount := rfl

@[simp] theorem State.setThread_msix (s : State) (t : Nat) (x : Thread) : (s.setThread t x).msix = s.msix := rfl

@[simp] theorem State.setThread_msixPend (s : State) (t : Nat) (x : Thread) : (s.setThread t x).msixPend = s.msixPend := rfl

@[simp] theorem State.setThread_out (s : State) (t : Nat) (x : Thread) : (s.setThread t x).out = s.out := rfl

@[simp] theorem State.setThread_fld (s : State) (t : Nat) (x : Thread) (q : Fld) : (s.setThread t x).fld q = s.fld q := rfl

@[simp] theorem State.setThread_isSet (s : State) (t : Nat) (x : Thread) (q : Fld) : (s.setThread t x).isSet q = s.isSet q := rfl

@[simp] theorem State.setThread_core (s : State) (t : Nat) (x : Thread) (q : Nat) : (s.setThread t x).core q = s.core q := rfl

@[simp] theorem State.setCore_cycle (s : State) (c : Nat) (x : Core) : (s.setCore c x).cycle = s.cycle := rfl

@[simp] theorem State.setCore_edges (s : State) (c : Nat) (x : Core) : (s.setCore c x).edges = s.edges := rfl

@[simp] theorem State.setCore_lost (s : State) (c : Nat) (x : Core) : (s.setCore c x).lost = s.lost := rfl

@[simp] theorem State.setCore_free (s : State) (c : Nat) (x : Core) : (s.setCore c x).free = s.free := rfl

@[simp] theorem State.setCore_loaded (s : State) (c : Nat) (x : Core) : (s.setCore c x).loaded = s.loaded := rfl

@[simp] theorem State.setCore_held (s : State) (c : Nat) (x : Core) : (s.setCore c x).held = s.held := rfl

@[simp] theorem State.setCore_flds (s : State) (c : Nat) (x : Core) : (s.setCore c x).flds = s.flds := rfl

@[simp] theorem State.setCore_poison (s : State) (c : Nat) (x : Core) : (s.setCore c x).poison = s.poison := rfl

@[simp] theorem State.setCore_ltags (s : State) (c : Nat) (x : Core) : (s.setCore c x).ltags = s.ltags := rfl

@[simp] theorem State.setCore_host (s : State) (c : Nat) (x : Core) : (s.setCore c x).host = s.host := rfl

@[simp] theorem State.setCore_threads (s : State) (c : Nat) (x : Core) : (s.setCore c x).threads = s.threads := rfl

@[simp] theorem State.setCore_bars (s : State) (c : Nat) (x : Core) : (s.setCore c x).bars = s.bars := rfl

@[simp] theorem State.setCore_launches (s : State) (c : Nat) (x : Core) : (s.setCore c x).launches = s.launches := rfl

@[simp] theorem State.setCore_tiles (s : State) (c : Nat) (x : Core) : (s.setCore c x).tiles = s.tiles := rfl

@[simp] theorem State.setCore_cmds (s : State) (c : Nat) (x : Core) : (s.setCore c x).cmds = s.cmds := rfl

@[simp] theorem State.setCore_streams (s : State) (c : Nat) (x : Core) : (s.setCore c x).streams = s.streams := rfl

@[simp] theorem State.setCore_pins (s : State) (c : Nat) (x : Core) : (s.setCore c x).pins = s.pins := rfl

@[simp] theorem State.setCore_wops (s : State) (c : Nat) (x : Core) : (s.setCore c x).wops = s.wops := rfl

@[simp] theorem State.setCore_reclaim (s : State) (c : Nat) (x : Core) : (s.setCore c x).reclaim = s.reclaim := rfl

@[simp] theorem State.setCore_tried (s : State) (c : Nat) (x : Core) : (s.setCore c x).tried = s.tried := rfl

@[simp] theorem State.setCore_kvLine (s : State) (c : Nat) (x : Core) : (s.setCore c x).kvLine = s.kvLine := rfl

@[simp] theorem State.setCore_kvSeq (s : State) (c : Nat) (x : Core) : (s.setCore c x).kvSeq = s.kvSeq := rfl

@[simp] theorem State.setCore_inited (s : State) (c : Nat) (x : Core) : (s.setCore c x).inited = s.inited := rfl

@[simp] theorem State.setCore_chks (s : State) (c : Nat) (x : Core) : (s.setCore c x).chks = s.chks := rfl

@[simp] theorem State.setCore_jobRec (s : State) (c : Nat) (x : Core) : (s.setCore c x).jobRec = s.jobRec := rfl

@[simp] theorem State.setCore_srSeq (s : State) (c : Nat) (x : Core) : (s.setCore c x).srSeq = s.srSeq := rfl

@[simp] theorem State.setCore_ingest (s : State) (c : Nat) (x : Core) : (s.setCore c x).ingest = s.ingest := rfl
@[simp] theorem State.setCore_ingLine (s : State) (c : Nat) (x : Core) : (s.setCore c x).ingLine = s.ingLine := rfl
@[simp] theorem State.setCore_inbox (s : State) (c : Nat) (x : Core) : (s.setCore c x).inbox = s.inbox := rfl
@[simp] theorem State.setCore_early (s : State) (c : Nat) (x : Core) : (s.setCore c x).early = s.early := rfl
@[simp] theorem State.setCore_ownLanes (s : State) (c : Nat) (x : Core) : (s.setCore c x).ownLanes = s.ownLanes := rfl
@[simp] theorem State.setCore_peerLanes (s : State) (c : Nat) (x : Core) : (s.setCore c x).peerLanes = s.peerLanes := rfl
@[simp] theorem State.setCore_msixCtl (s : State) (c : Nat) (x : Core) : (s.setCore c x).msixCtl = s.msixCtl := rfl

@[simp] theorem State.setCore_pipes (s : State) (c : Nat) (x : Core) : (s.setCore c x).pipes = s.pipes := rfl

@[simp] theorem State.setCore_cpr (s : State) (c : Nat) (x : Core) : (s.setCore c x).cpr = s.cpr := rfl

@[simp] theorem State.setCore_links (s : State) (c : Nat) (x : Core) : (s.setCore c x).links = s.links := rfl

@[simp] theorem State.setCore_laps (s : State) (c : Nat) (x : Core) : (s.setCore c x).laps = s.laps := rfl

@[simp] theorem State.setCore_relays (s : State) (c : Nat) (x : Core) : (s.setCore c x).relays = s.relays := rfl

@[simp] theorem State.setCore_norms (s : State) (c : Nat) (x : Core) : (s.setCore c x).norms = s.norms := rfl

@[simp] theorem State.setCore_sends (s : State) (c : Nat) (x : Core) : (s.setCore c x).sends = s.sends := rfl

@[simp] theorem State.setCore_recvs (s : State) (c : Nat) (x : Core) : (s.setCore c x).recvs = s.recvs := rfl

@[simp] theorem State.setCore_startId (s : State) (c : Nat) (x : Core) : (s.setCore c x).startId = s.startId := rfl

@[simp] theorem State.setCore_fcount (s : State) (c : Nat) (x : Core) : (s.setCore c x).fcount = s.fcount := rfl

@[simp] theorem State.setCore_failedEp (s : State) (c : Nat) (x : Core) : (s.setCore c x).failedEp = s.failedEp := rfl

@[simp] theorem State.setCore_waiters (s : State) (c : Nat) (x : Core) : (s.setCore c x).waiters = s.waiters := rfl

@[simp] theorem State.setCore_nextTag (s : State) (c : Nat) (x : Core) : (s.setCore c x).nextTag = s.nextTag := rfl

@[simp] theorem State.setCore_mgmtStop (s : State) (c : Nat) (x : Core) : (s.setCore c x).mgmtStop = s.mgmtStop := rfl

@[simp] theorem State.setCore_retired (s : State) (c : Nat) (x : Core) : (s.setCore c x).retired = s.retired := rfl

@[simp] theorem State.setCore_bar4 (s : State) (c : Nat) (x : Core) : (s.setCore c x).bar4 = s.bar4 := rfl

@[simp] theorem State.setCore_pistes (s : State) (c : Nat) (x : Core) : (s.setCore c x).pistes = s.pistes := rfl

@[simp] theorem State.setCore_defects (s : State) (c : Nat) (x : Core) : (s.setCore c x).defects = s.defects := rfl

@[simp] theorem State.setCore_unstored (s : State) (c : Nat) (x : Core) : (s.setCore c x).unstored = s.unstored := rfl

@[simp] theorem State.setCore_fw (s : State) (c : Nat) (x : Core) : (s.setCore c x).fw = s.fw := rfl

@[simp] theorem State.setCore_dram (s : State) (c : Nat) (x : Core) : (s.setCore c x).dram = s.dram := rfl

@[simp] theorem State.setCore_settings (s : State) (c : Nat) (x : Core) : (s.setCore c x).settings = s.settings := rfl

@[simp] theorem State.setCore_boot (s : State) (c : Nat) (x : Core) : (s.setCore c x).boot = s.boot := rfl

@[simp] theorem State.setCore_trust (s : State) (c : Nat) (x : Core) : (s.setCore c x).trust = s.trust := rfl

@[simp] theorem State.setCore_flog (s : State) (c : Nat) (x : Core) : (s.setCore c x).flog = s.flog := rfl

@[simp] theorem State.setCore_flogCount (s : State) (c : Nat) (x : Core) : (s.setCore c x).flogCount = s.flogCount := rfl

@[simp] theorem State.setCore_msix (s : State) (c : Nat) (x : Core) : (s.setCore c x).msix = s.msix := rfl

@[simp] theorem State.setCore_msixPend (s : State) (c : Nat) (x : Core) : (s.setCore c x).msixPend = s.msixPend := rfl

@[simp] theorem State.setCore_out (s : State) (c : Nat) (x : Core) : (s.setCore c x).out = s.out := rfl

@[simp] theorem State.setCore_fld (s : State) (c : Nat) (x : Core) (q : Fld) : (s.setCore c x).fld q = s.fld q := rfl

@[simp] theorem State.setCore_isSet (s : State) (c : Nat) (x : Core) (q : Fld) : (s.setCore c x).isSet q = s.isSet q := rfl

@[simp] theorem State.setCore_thread (s : State) (c : Nat) (x : Core) (q : Nat) : (s.setCore c x).thread q = s.thread q := rfl

@[simp] theorem State.setCore_regs (s : State) (c : Nat) (x : Core) (q : Nat) : (s.setCore c x).regs q = s.regs q := rfl

@[simp] theorem State.setStream_cycle (s : State) (i : Nat) (f : Stream → Stream) : (s.setStream i f).cycle = s.cycle := rfl

@[simp] theorem State.setStream_edges (s : State) (i : Nat) (f : Stream → Stream) : (s.setStream i f).edges = s.edges := rfl

@[simp] theorem State.setStream_lost (s : State) (i : Nat) (f : Stream → Stream) : (s.setStream i f).lost = s.lost := rfl

@[simp] theorem State.setStream_free (s : State) (i : Nat) (f : Stream → Stream) : (s.setStream i f).free = s.free := rfl

@[simp] theorem State.setStream_loaded (s : State) (i : Nat) (f : Stream → Stream) : (s.setStream i f).loaded = s.loaded := rfl

@[simp] theorem State.setStream_held (s : State) (i : Nat) (f : Stream → Stream) : (s.setStream i f).held = s.held := rfl

@[simp] theorem State.setStream_flds (s : State) (i : Nat) (f : Stream → Stream) : (s.setStream i f).flds = s.flds := rfl

@[simp] theorem State.setStream_poison (s : State) (i : Nat) (f : Stream → Stream) : (s.setStream i f).poison = s.poison := rfl

@[simp] theorem State.setStream_ltags (s : State) (i : Nat) (f : Stream → Stream) : (s.setStream i f).ltags = s.ltags := rfl

@[simp] theorem State.setStream_host (s : State) (i : Nat) (f : Stream → Stream) : (s.setStream i f).host = s.host := rfl

@[simp] theorem State.setStream_threads (s : State) (i : Nat) (f : Stream → Stream) : (s.setStream i f).threads = s.threads := rfl

@[simp] theorem State.setStream_cores (s : State) (i : Nat) (f : Stream → Stream) : (s.setStream i f).cores = s.cores := rfl

@[simp] theorem State.setStream_bars (s : State) (i : Nat) (f : Stream → Stream) : (s.setStream i f).bars = s.bars := rfl

@[simp] theorem State.setStream_launches (s : State) (i : Nat) (f : Stream → Stream) : (s.setStream i f).launches = s.launches := rfl

@[simp] theorem State.setStream_tiles (s : State) (i : Nat) (f : Stream → Stream) : (s.setStream i f).tiles = s.tiles := rfl

@[simp] theorem State.setStream_cmds (s : State) (i : Nat) (f : Stream → Stream) : (s.setStream i f).cmds = s.cmds := rfl

@[simp] theorem State.setStream_pins (s : State) (i : Nat) (f : Stream → Stream) : (s.setStream i f).pins = s.pins := rfl

@[simp] theorem State.setStream_wops (s : State) (i : Nat) (f : Stream → Stream) : (s.setStream i f).wops = s.wops := rfl

@[simp] theorem State.setStream_reclaim (s : State) (i : Nat) (f : Stream → Stream) : (s.setStream i f).reclaim = s.reclaim := rfl

@[simp] theorem State.setStream_tried (s : State) (i : Nat) (f : Stream → Stream) : (s.setStream i f).tried = s.tried := rfl

@[simp] theorem State.setStream_kvLine (s : State) (i : Nat) (f : Stream → Stream) : (s.setStream i f).kvLine = s.kvLine := rfl

@[simp] theorem State.setStream_kvSeq (s : State) (i : Nat) (f : Stream → Stream) : (s.setStream i f).kvSeq = s.kvSeq := rfl

@[simp] theorem State.setStream_inited (s : State) (i : Nat) (f : Stream → Stream) : (s.setStream i f).inited = s.inited := rfl

@[simp] theorem State.setStream_chks (s : State) (i : Nat) (f : Stream → Stream) : (s.setStream i f).chks = s.chks := rfl

@[simp] theorem State.setStream_jobRec (s : State) (i : Nat) (f : Stream → Stream) : (s.setStream i f).jobRec = s.jobRec := rfl

@[simp] theorem State.setStream_srSeq (s : State) (i : Nat) (f : Stream → Stream) : (s.setStream i f).srSeq = s.srSeq := rfl

@[simp] theorem State.setStream_ingest (s : State) (i : Nat) (f : Stream → Stream) : (s.setStream i f).ingest = s.ingest := rfl
@[simp] theorem State.setStream_ingLine (s : State) (i : Nat) (f : Stream → Stream) : (s.setStream i f).ingLine = s.ingLine := rfl
@[simp] theorem State.setStream_inbox (s : State) (i : Nat) (f : Stream → Stream) : (s.setStream i f).inbox = s.inbox := rfl
@[simp] theorem State.setStream_early (s : State) (i : Nat) (f : Stream → Stream) : (s.setStream i f).early = s.early := rfl
@[simp] theorem State.setStream_ownLanes (s : State) (i : Nat) (f : Stream → Stream) : (s.setStream i f).ownLanes = s.ownLanes := rfl
@[simp] theorem State.setStream_peerLanes (s : State) (i : Nat) (f : Stream → Stream) : (s.setStream i f).peerLanes = s.peerLanes := rfl
@[simp] theorem State.setStream_msixCtl (s : State) (i : Nat) (f : Stream → Stream) : (s.setStream i f).msixCtl = s.msixCtl := rfl

@[simp] theorem State.setStream_pipes (s : State) (i : Nat) (f : Stream → Stream) : (s.setStream i f).pipes = s.pipes := rfl

@[simp] theorem State.setStream_cpr (s : State) (i : Nat) (f : Stream → Stream) : (s.setStream i f).cpr = s.cpr := rfl

@[simp] theorem State.setStream_links (s : State) (i : Nat) (f : Stream → Stream) : (s.setStream i f).links = s.links := rfl

@[simp] theorem State.setStream_laps (s : State) (i : Nat) (f : Stream → Stream) : (s.setStream i f).laps = s.laps := rfl

@[simp] theorem State.setStream_relays (s : State) (i : Nat) (f : Stream → Stream) : (s.setStream i f).relays = s.relays := rfl

@[simp] theorem State.setStream_norms (s : State) (i : Nat) (f : Stream → Stream) : (s.setStream i f).norms = s.norms := rfl

@[simp] theorem State.setStream_sends (s : State) (i : Nat) (f : Stream → Stream) : (s.setStream i f).sends = s.sends := rfl

@[simp] theorem State.setStream_recvs (s : State) (i : Nat) (f : Stream → Stream) : (s.setStream i f).recvs = s.recvs := rfl

@[simp] theorem State.setStream_startId (s : State) (i : Nat) (f : Stream → Stream) : (s.setStream i f).startId = s.startId := rfl

@[simp] theorem State.setStream_fcount (s : State) (i : Nat) (f : Stream → Stream) : (s.setStream i f).fcount = s.fcount := rfl

@[simp] theorem State.setStream_failedEp (s : State) (i : Nat) (f : Stream → Stream) : (s.setStream i f).failedEp = s.failedEp := rfl

@[simp] theorem State.setStream_waiters (s : State) (i : Nat) (f : Stream → Stream) : (s.setStream i f).waiters = s.waiters := rfl

@[simp] theorem State.setStream_nextTag (s : State) (i : Nat) (f : Stream → Stream) : (s.setStream i f).nextTag = s.nextTag := rfl

@[simp] theorem State.setStream_mgmtStop (s : State) (i : Nat) (f : Stream → Stream) : (s.setStream i f).mgmtStop = s.mgmtStop := rfl

@[simp] theorem State.setStream_retired (s : State) (i : Nat) (f : Stream → Stream) : (s.setStream i f).retired = s.retired := rfl

@[simp] theorem State.setStream_bar4 (s : State) (i : Nat) (f : Stream → Stream) : (s.setStream i f).bar4 = s.bar4 := rfl

@[simp] theorem State.setStream_pistes (s : State) (i : Nat) (f : Stream → Stream) : (s.setStream i f).pistes = s.pistes := rfl

@[simp] theorem State.setStream_defects (s : State) (i : Nat) (f : Stream → Stream) : (s.setStream i f).defects = s.defects := rfl

@[simp] theorem State.setStream_unstored (s : State) (i : Nat) (f : Stream → Stream) : (s.setStream i f).unstored = s.unstored := rfl

@[simp] theorem State.setStream_fw (s : State) (i : Nat) (f : Stream → Stream) : (s.setStream i f).fw = s.fw := rfl

@[simp] theorem State.setStream_dram (s : State) (i : Nat) (f : Stream → Stream) : (s.setStream i f).dram = s.dram := rfl

@[simp] theorem State.setStream_settings (s : State) (i : Nat) (f : Stream → Stream) : (s.setStream i f).settings = s.settings := rfl

@[simp] theorem State.setStream_boot (s : State) (i : Nat) (f : Stream → Stream) : (s.setStream i f).boot = s.boot := rfl

@[simp] theorem State.setStream_trust (s : State) (i : Nat) (f : Stream → Stream) : (s.setStream i f).trust = s.trust := rfl

@[simp] theorem State.setStream_flog (s : State) (i : Nat) (f : Stream → Stream) : (s.setStream i f).flog = s.flog := rfl

@[simp] theorem State.setStream_flogCount (s : State) (i : Nat) (f : Stream → Stream) : (s.setStream i f).flogCount = s.flogCount := rfl

@[simp] theorem State.setStream_msix (s : State) (i : Nat) (f : Stream → Stream) : (s.setStream i f).msix = s.msix := rfl

@[simp] theorem State.setStream_msixPend (s : State) (i : Nat) (f : Stream → Stream) : (s.setStream i f).msixPend = s.msixPend := rfl

@[simp] theorem State.setStream_out (s : State) (i : Nat) (f : Stream → Stream) : (s.setStream i f).out = s.out := rfl

@[simp] theorem State.setStream_fld (s : State) (i : Nat) (f : Stream → Stream) (q : Fld) : (s.setStream i f).fld q = s.fld q := rfl

@[simp] theorem State.setStream_isSet (s : State) (i : Nat) (f : Stream → Stream) (q : Fld) : (s.setStream i f).isSet q = s.isSet q := rfl

@[simp] theorem State.setStream_thread (s : State) (i : Nat) (f : Stream → Stream) (q : Nat) : (s.setStream i f).thread q = s.thread q := rfl

@[simp] theorem State.setStream_regs (s : State) (i : Nat) (f : Stream → Stream) (q : Nat) : (s.setStream i f).regs q = s.regs q := rfl

@[simp] theorem State.setStream_core (s : State) (i : Nat) (f : Stream → Stream) (q : Nat) : (s.setStream i f).core q = s.core q := rfl

@[simp] theorem State.setTile_fld (s : State) (t : Nat) (x : Tile) (q : Fld) : (s.setTile t x).fld q = s.fld q := rfl

@[simp] theorem State.setTile_isSet (s : State) (t : Nat) (x : Tile) (q : Fld) : (s.setTile t x).isSet q = s.isSet q := rfl

@[simp] theorem State.setTile_thread (s : State) (t : Nat) (x : Tile) (q : Nat) : (s.setTile t x).thread q = s.thread q := rfl

@[simp] theorem State.setTile_regs (s : State) (t : Nat) (x : Tile) (q : Nat) : (s.setTile t x).regs q = s.regs q := rfl

@[simp] theorem State.setTile_core (s : State) (t : Nat) (x : Tile) (q : Nat) : (s.setTile t x).core q = s.core q := rfl

@[simp] theorem State.setLink_fld (s : State) (p : Nat) (x : LinkPort) (q : Fld) : (s.setLink p x).fld q = s.fld q := rfl

@[simp] theorem State.setLink_isSet (s : State) (p : Nat) (x : LinkPort) (q : Fld) : (s.setLink p x).isSet q = s.isSet q := rfl

@[simp] theorem State.setLink_thread (s : State) (p : Nat) (x : LinkPort) (q : Nat) : (s.setLink p x).thread q = s.thread q := rfl

@[simp] theorem State.setLink_regs (s : State) (p : Nat) (x : LinkPort) (q : Nat) : (s.setLink p x).regs q = s.regs q := rfl

@[simp] theorem State.setLink_core (s : State) (p : Nat) (x : LinkPort) (q : Nat) : (s.setLink p x).core q = s.core q := rfl

@[simp] theorem State.setLap_fld (s : State) (i : Nat) (x : LapVc) (q : Fld) : (s.setLap i x).fld q = s.fld q := rfl

@[simp] theorem State.setLap_isSet (s : State) (i : Nat) (x : LapVc) (q : Fld) : (s.setLap i x).isSet q = s.isSet q := rfl

@[simp] theorem State.setLap_thread (s : State) (i : Nat) (x : LapVc) (q : Nat) : (s.setLap i x).thread q = s.thread q := rfl

@[simp] theorem State.setLap_regs (s : State) (i : Nat) (x : LapVc) (q : Nat) : (s.setLap i x).regs q = s.regs q := rfl

@[simp] theorem State.setLap_core (s : State) (i : Nat) (x : LapVc) (q : Nat) : (s.setLap i x).core q = s.core q := rfl

@[simp] theorem State.setRelay_fld (s : State) (h : Nat) (x : Relay) (q : Fld) : (s.setRelay h x).fld q = s.fld q := rfl

@[simp] theorem State.setRelay_isSet (s : State) (h : Nat) (x : Relay) (q : Fld) : (s.setRelay h x).isSet q = s.isSet q := rfl

@[simp] theorem State.setRelay_thread (s : State) (h : Nat) (x : Relay) (q : Nat) : (s.setRelay h x).thread q = s.thread q := rfl

@[simp] theorem State.setRelay_regs (s : State) (h : Nat) (x : Relay) (q : Nat) : (s.setRelay h x).regs q = s.regs q := rfl

@[simp] theorem State.setRelay_core (s : State) (h : Nat) (x : Relay) (q : Nat) : (s.setRelay h x).core q = s.core q := rfl

@[simp] theorem State.setNorm_fld (s : State) (k : Nat) (x : NormSet) (q : Fld) : (s.setNorm k x).fld q = s.fld q := rfl

@[simp] theorem State.setNorm_isSet (s : State) (k : Nat) (x : NormSet) (q : Fld) : (s.setNorm k x).isSet q = s.isSet q := rfl

@[simp] theorem State.setNorm_thread (s : State) (k : Nat) (x : NormSet) (q : Nat) : (s.setNorm k x).thread q = s.thread q := rfl

@[simp] theorem State.setNorm_regs (s : State) (k : Nat) (x : NormSet) (q : Nat) : (s.setNorm k x).regs q = s.regs q := rfl

@[simp] theorem State.setNorm_core (s : State) (k : Nat) (x : NormSet) (q : Nat) : (s.setNorm k x).core q = s.core q := rfl

@[simp] theorem State.setBoot_thread (s : State) (b : Boot) (q : Nat) : (s.setBoot b).thread q = s.thread q := rfl

@[simp] theorem State.setBoot_regs (s : State) (b : Boot) (q : Nat) : (s.setBoot b).regs q = s.regs q := rfl

@[simp] theorem State.setBoot_core (s : State) (b : Boot) (q : Nat) : (s.setBoot b).core q = s.core q := rfl

@[simp] theorem State.setTrust_fld (s : State) (x : Trust) (q : Fld) : (s.setTrust x).fld q = s.fld q := rfl

@[simp] theorem State.setTrust_isSet (s : State) (x : Trust) (q : Fld) : (s.setTrust x).isSet q = s.isSet q := rfl

@[simp] theorem State.setTrust_thread (s : State) (x : Trust) (q : Nat) : (s.setTrust x).thread q = s.thread q := rfl

@[simp] theorem State.setTrust_regs (s : State) (x : Trust) (q : Nat) : (s.setTrust x).regs q = s.regs q := rfl

@[simp] theorem State.setTrust_core (s : State) (x : Trust) (q : Nat) : (s.setTrust x).core q = s.core q := rfl

@[simp] theorem State.setChk_fld (s : State) (k : CmdRef) (x : Chk) (q : Fld) : (s.setChk k x).fld q = s.fld q := rfl

@[simp] theorem State.setChk_isSet (s : State) (k : CmdRef) (x : Chk) (q : Fld) : (s.setChk k x).isSet q = s.isSet q := rfl

@[simp] theorem State.setChk_thread (s : State) (k : CmdRef) (x : Chk) (q : Nat) : (s.setChk k x).thread q = s.thread q := rfl

@[simp] theorem State.setChk_regs (s : State) (k : CmdRef) (x : Chk) (q : Nat) : (s.setChk k x).regs q = s.regs q := rfl

@[simp] theorem State.setChk_core (s : State) (k : CmdRef) (x : Chk) (q : Nat) : (s.setChk k x).core q = s.core q := rfl

@[simp] theorem State.modRegs_fld (s : State) (t : Nat) (g : TRegs → TRegs) (q : Fld) : (s.modRegs t g).fld q = s.fld q := rfl

@[simp] theorem State.modRegs_isSet (s : State) (t : Nat) (g : TRegs → TRegs) (q : Fld) : (s.modRegs t g).isSet q = s.isSet q := rfl

@[simp] theorem State.modRegs_core (s : State) (t : Nat) (g : TRegs → TRegs) (q : Nat) : (s.modRegs t g).core q = s.core q := rfl

end Sys2Proof.Machine
end

