-- ==== Sys2Proof/Laws/Issue.lean ====
section
/-! SUPPORT. What the issue of an instruction does, said once: a ready word comes to its own effect; an enabled guard lets it
act, and a guard that is false retires it. -/

namespace Sys2Proof.Machine

/-- The extension word of a ready word is decoded. -/
theorem State.Ready.extFault_none {s : State} {t : Tid} {w : IWord} {form gate : Bool} {regs : List Nat}
    (h : s.Ready t w form gate regs) : s.extFault t.code w = 0 := by
  unfold State.extFault
  cases hx : w.x with
  | false => rfl
  | true =>
    have h1 : ¬ 0x4000000 ≤ (s.regs t.code).pc + 8 := Nat.not_le.mpr (h.extIn hx)
    simp [h1, h.extClean hx]

@[simp] theorem Eff.unguard_retire (t : Nat) (g : BitVec 8) (s : State) : (Eff.retire s).unguard t g = .retire s := rfl
@[simp] theorem Eff.unguard_jump (t : Nat) (g : BitVec 8) (pc : Nat) (s : State) : (Eff.jump pc s).unguard t g = .jump pc s := rfl
@[simp] theorem Eff.unguard_done (t : Nat) (g : BitVec 8) (s : State) : (Eff.done s).unguard t g = .done s := rfl
@[simp] theorem Eff.unguard_fault (t : Nat) (g : BitVec 8) (c : Nat) (s : State) : (Eff.fault c s).unguard t g = .fault c s := rfl
@[simp] theorem Eff.unguard_wait (t : Nat) (g : BitVec 8) (x : TState) (s : State) :
    (Eff.wait x s).unguard t g = .wait x (s.unguard t g) := rfl
@[simp] theorem Eff.unguard_stop (t : Nat) (g : BitVec 8) (c : BitVec 16) (pc : Nat) (s : State) :
    (Eff.stop c pc s).unguard t g = .stop c pc s := rfl

/-- A ready word comes to its own effect. -/
theorem State.attempt_ready {s : State} {t : Tid} {w : IWord} {sp : Spec}
    (h : s.Ready t w sp.ok sp.gate (sp.reads ++ sp.writes)) (body : State → BitVec 8 → Eff) :
    s.attempt t.code w sp body = s.guarded t.code w sp body := by
  have hpc : ¬ 0x4000000 ≤ (s.thread t.code).regs.pc := Nat.not_le.mpr h.inVat
  have hcl : s.poisoned (tileBase (tileOf t.code) + (s.thread t.code).regs.pc) 8 = false := h.clean
  have hidle : (s.thread t.code).busy ((if w.pred = 0 then [] else [pR (w.pred.toNat - 1)]) ++ sp.reads ++ sp.writes) = false := by
    have := h.idle
    unfold guardRegs at this
    rw [List.append_assoc]
    exact this
  have hg : (if sp.gate = true then s.gated t.code (s.guarded t.code w sp body) else s.guarded t.code w sp body)
      = s.guarded t.code w sp body := by
    split
    · rename_i hgate
      have hs := h.solid hgate
      unfold State.gated
      simp [hs.1, show (s.thread t.code).regs.held = none from hs.2]
    · rfl
  have hx : s.extFault t.code w = 0 := h.extFault_none
  unfold State.attempt
  simp only [hpc, hcl, h.legal, hidle, hx, if_false, if_true, Bool.false_eq_true, Bool.not_true, Bool.true_or, ne_eq, not_true_eq_false,
    false_and, and_false]
  exact hg

/-- The issue of a ready word is its guarded effect. -/
theorem State.issue_ready {s : State} {t : Tid} {w : IWord} {sp : Spec}
    (h : s.Ready t w sp.ok sp.gate (sp.reads ++ sp.writes)) (body : State → BitVec 8 → Eff) :
    s.issue t w sp body = (s.guarded t.code w sp body).finish t.code w.size := by
  unfold State.issue
  simp only [h.live, h.due, if_true]
  rw [State.attempt_ready h]

/-- An enabled guard lets a word that is not lane-wise act; one that waits has not read its guard. -/
theorem State.guarded_enabled {s : State} {t : Tid} {w : IWord} {sp : Spec} (hl : sp.lane = false) (he : s.Enabled t w)
    (body : State → BitVec 8 → Eff) :
    s.guarded t.code w sp body =
      (body (s.pastGuard t w) ((s.regs t.code).resultTag w sp.reads)).unguard t.code (s.regs t.code).ctrl := by
  unfold State.guarded State.pastGuard TRegs.resultTag TRegs.past
  by_cases hp : w.pred = 0
  · simp [hp, hl]
  · have hb : ((s.regs t.code).guard w).getLsbD 0 = true := he.resolve_left hp
    have hg : ({ s.regs t.code with ctrl := (s.regs t.code).ctrl ||| (s.regs t.code).guardTag w } : TRegs).guard w
        = (s.regs t.code).guard w := rfl
    have hp' : ¬ w.pred = 0#5 := hp
    simp [hp', hl, hb, hg]

/-- A guard that is false retires a word that is not lane-wise. -/
theorem State.guarded_disabled {s : State} {t : Tid} {w : IWord} {sp : Spec} (hl : sp.lane = false) (he : ¬ s.Enabled t w)
    (body : State → BitVec 8 → Eff) : s.guarded t.code w sp body = .retire (sp.off (s.pastGuard t w)) := by
  unfold State.Enabled at he
  have hp : ¬ w.pred = 0 := fun h => he (Or.inl h)
  have hb : ¬ ((s.regs t.code).guard w).getLsbD 0 = true := fun h => he (Or.inr h)
  unfold State.guarded State.pastGuard TRegs.past
  have hg : ({ s.regs t.code with ctrl := (s.regs t.code).ctrl ||| (s.regs t.code).guardTag w } : TRegs).guard w
      = (s.regs t.code).guard w := rfl
  simp only [if_neg hp, hl, Bool.false_eq_true, if_false, State.regs_modRegs_self, hg, if_neg he]

/-- A lane-wise word acts whatever its guard. -/
theorem State.guarded_lane {s : State} {t : Tid} {w : IWord} {sp : Spec} (hl : sp.lane = true)
    (body : State → BitVec 8 → Eff) : s.guarded t.code w sp body = body s ((s.regs t.code).laneTag w sp.reads) := by
  unfold State.guarded TRegs.laneTag TRegs.guardTag
  by_cases hp : w.pred = 0#5 <;> simp [hp, hl]

@[simp] theorem State.regs_pastGuard (s : State) (t : Tid) (w : IWord) :
    (s.pastGuard t w).regs t.code = (s.regs t.code).past w := by
  unfold State.pastGuard TRegs.past
  split <;> simp

/-- A retirement behind the guard is the retirement of the word. -/
theorem Eff.finish_retire_pastGuard (s : State) (t : Tid) (w : IWord) (f : TRegs → TRegs) (hf : ∀ r, (f r).pc = r.pc) :
    (Eff.retire ((s.pastGuard t w).modRegs t.code f)).finish t.code w.size = s.retire t w f := by
  unfold Eff.finish State.goTo State.retire State.pastGuard State.modRegs TRegs.past
  have hp : ∀ r : TRegs, ({ r with ctrl := r.ctrl ||| r.guardTag w } : TRegs).pc = r.pc := fun _ => rfl
  by_cases h : w.pred = 0#5 <;> simp [h, State.regs, hf]

/-- A ready word whose effect changes the thread's registers alone retires so. -/
theorem State.issue_retire {s : State} {t : Tid} {w : IWord} {sp : Spec}
    (h : s.Ready t w sp.ok sp.gate (sp.reads ++ sp.writes)) (hl : sp.lane = false) (he : s.Enabled t w)
    {body : State → BitVec 8 → Eff} {f : TRegs → TRegs}
    (hb : body (s.pastGuard t w) ((s.regs t.code).resultTag w sp.reads) = .retire ((s.pastGuard t w).modRegs t.code f))
    (hf : ∀ r, (f r).pc = r.pc) : s.issue t w sp body = s.retire t w f := by
  rw [State.issue_ready h, State.guarded_enabled hl he, hb, Eff.unguard_retire, Eff.finish_retire_pastGuard _ _ _ _ hf]

/-- A lane-wise retirement. -/
theorem Eff.finish_retire_lane (s : State) (t : Tid) (w : IWord) (f : TRegs → TRegs) (hf : ∀ r, (f r).pc = r.pc) :
    (Eff.retire (s.modRegs t.code f)).finish t.code w.size = s.retireLane t w f := by
  unfold Eff.finish State.goTo State.retireLane State.modRegs
  simp [State.regs, hf]

/-- A ready lane-wise word whose effect changes the thread's registers alone retires so. -/
theorem State.issue_lane {s : State} {t : Tid} {w : IWord} {sp : Spec}
    (h : s.Ready t w sp.ok sp.gate (sp.reads ++ sp.writes)) (hl : sp.lane = true)
    {body : State → BitVec 8 → Eff} {f : TRegs → TRegs}
    (hb : body s ((s.regs t.code).laneTag w sp.reads) = .retire (s.modRegs t.code f))
    (hf : ∀ r, (f r).pc = r.pc) : s.issue t w sp body = s.retireLane t w f := by
  rw [State.issue_ready h, State.guarded_lane hl, hb, Eff.finish_retire_lane _ _ _ _ hf]

/-- A lane-wise retirement depends on what its change makes of the registers. -/
theorem State.retireLane_congr (s : State) (t : Tid) (w : IWord) (f g : TRegs → TRegs)
    (h : f (s.regs t.code) = g (s.regs t.code)) : s.retireLane t w f = s.retireLane t w g := by
  have h' : f (s.thread t.code).regs = g (s.thread t.code).regs := h
  unfold State.retireLane
  dsimp only []
  rw [h']

/-- A ready lane instruction writes its lanes. -/
theorem laneOp_ready {t : Tid} {w : IWord} {s : State} {ok : Bool} {reads : List Nat} {f : TRegs → Nat → Nat}
    (h : s.Ready t w ok false (reads ++ [vR w.a.toNat])) :
    laneOp t w s ok reads f = s.retireLane t w (fun q => q.setV w.a.toNat
      (vLanes ((s.regs t.code).getV w.a.toNat) ((s.regs t.code).guard w) (f (s.regs t.code)))
      ((s.regs t.code).laneTag w reads ||| (s.regs t.code).keepTag w (vR w.a.toNat))) := by
  unfold laneOp
  rw [State.issue_lane (f := fun r => r.setV w.a.toNat (vLanes (r.getV w.a.toNat) (r.guard w) (f r))
    ((s.regs t.code).laneTag w reads ||| r.keepTag w (vR w.a.toNat))) (by exact h) rfl rfl (fun _ => rfl)]
  exact State.retireLane_congr _ _ _ _ _ rfl

/-- A ready word whose guard is false retires without an effect of its own, where nothing is left to it then. -/
theorem State.issue_disabled {s : State} {t : Tid} {w : IWord} {sp : Spec}
    (h : s.Ready t w sp.ok sp.gate (sp.reads ++ sp.writes)) (hl : sp.lane = false) (he : ¬ s.Enabled t w) (ho : sp.off = id)
    (body : State → BitVec 8 → Eff) : s.issue t w sp body = s.retire t w id := by
  rw [State.issue_ready h, State.guarded_disabled hl he, ho]
  have := Eff.finish_retire_pastGuard s t w id (fun _ => rfl)
  rw [← this]
  unfold State.pastGuard
  split <;> simp [Eff.finish, State.goTo, State.regs, State.modRegs]

/-- A retirement depends on what its change makes of the registers behind the guard. -/
theorem State.retire_congr (s : State) (t : Tid) (w : IWord) (f g : TRegs → TRegs)
    (h : f ((s.regs t.code).past w) = g ((s.regs t.code).past w)) : s.retire t w f = s.retire t w g := by
  have h' : f ((s.thread t.code).regs.past w) = g ((s.thread t.code).regs.past w) := h
  unfold State.retire
  dsimp only []
  rw [h']

@[simp] theorem TRegs.getG_past (r : TRegs) (w : IWord) (i : Nat) : (r.past w).getG i = r.getG i := by
  unfold TRegs.past
  split <;> rfl

@[simp] theorem TRegs.getV_past (r : TRegs) (w : IWord) (i : Nat) : (r.past w).getV i = r.getV i := by
  unfold TRegs.past
  split <;> rfl

@[simp] theorem TRegs.getP_past (r : TRegs) (w : IWord) (i : Nat) : (r.past w).getP i = r.getP i := by
  unfold TRegs.past
  split <;> rfl

@[simp] theorem TRegs.getD'_past (r : TRegs) (w : IWord) (i : Nat) : (r.past w).getD' i = r.getD' i := by
  unfold TRegs.past
  split <;> rfl

@[simp] theorem TRegs.tag_past (r : TRegs) (w : IWord) (c : Nat) : (r.past w).tag c = r.tag c := by
  unfold TRegs.past
  split <;> rfl

@[simp] theorem TRegs.pc_past (r : TRegs) (w : IWord) : (r.past w).pc = r.pc := by
  unfold TRegs.past
  split <;> rfl

/-- An access that opens goes on. -/
theorem State.access_opens {s u : State} {t : Nat} {rd wr : List (Nat × Nat)} {tag : BitVec 8} (h : s.Opens t rd wr tag u)
    (k : State → BitVec 8 → Eff) : s.access t rd wr k = k u tag := by
  unfold State.access
  simp [h.owes, h.holds, h.rests, h.tags, h.clean, h.whole, h.room]

@[simp] theorem TRegs.pc_setTag (r : TRegs) (c : Nat) (g : BitVec 8) : (r.setTag c g).pc = r.pc := rfl
@[simp] theorem TRegs.pc_setG (r : TRegs) (i : Nat) (v : BitVec 64) (g : BitVec 8) : (r.setG i v g).pc = r.pc := rfl
@[simp] theorem TRegs.pc_setV (r : TRegs) (i : Nat) (v : BitVec 2048) (g : BitVec 8) : (r.setV i v g).pc = r.pc := rfl
@[simp] theorem TRegs.pc_setP (r : TRegs) (i : Nat) (v : BitVec 64) (g : BitVec 8) : (r.setP i v g).pc = r.pc := rfl
@[simp] theorem TRegs.pc_setD (r : TRegs) (i : Nat) (v : BitVec 128) (g : BitVec 8) : (r.setD i v g).pc = r.pc := rfl

/-! What stands beside the threads is not touched by a guard. -/

@[simp] theorem State.pastGuard_pending (s : State) (t : Tid) (w : IWord) : (s.pastGuard t w).pending = s.pending := by
  unfold State.pastGuard; split <;> rfl
@[simp] theorem State.pastGuard_cycle (s : State) (t : Tid) (w : IWord) : (s.pastGuard t w).cycle = s.cycle := by
  unfold State.pastGuard; split <;> rfl
@[simp] theorem State.pastGuard_edges (s : State) (t : Tid) (w : IWord) : (s.pastGuard t w).edges = s.edges := by
  unfold State.pastGuard; split <;> rfl
@[simp] theorem State.pastGuard_lost (s : State) (t : Tid) (w : IWord) : (s.pastGuard t w).lost = s.lost := by
  unfold State.pastGuard; split <;> rfl
@[simp] theorem State.pastGuard_kvLine (s : State) (t : Tid) (w : IWord) : (s.pastGuard t w).kvLine = s.kvLine := by
  unfold State.pastGuard; split <;> rfl
@[simp] theorem State.pastGuard_failedEp (s : State) (t : Tid) (w : IWord) : (s.pastGuard t w).failedEp = s.failedEp := by
  unfold State.pastGuard; split <;> rfl
@[simp] theorem State.pastGuard_bar4 (s : State) (t : Tid) (w : IWord) : (s.pastGuard t w).bar4 = s.bar4 := by
  unfold State.pastGuard; split <;> rfl
@[simp] theorem State.pastGuard_settings (s : State) (t : Tid) (w : IWord) : (s.pastGuard t w).settings = s.settings := by
  unfold State.pastGuard; split <;> rfl
@[simp] theorem State.pastGuard_free (s : State) (t : Tid) (w : IWord) : (s.pastGuard t w).free = s.free := by
  unfold State.pastGuard; split <;> rfl
@[simp] theorem State.pastGuard_loaded (s : State) (t : Tid) (w : IWord) : (s.pastGuard t w).loaded = s.loaded := by
  unfold State.pastGuard; split <;> rfl
@[simp] theorem State.pastGuard_held (s : State) (t : Tid) (w : IWord) : (s.pastGuard t w).held = s.held := by
  unfold State.pastGuard; split <;> rfl
@[simp] theorem State.pastGuard_flds (s : State) (t : Tid) (w : IWord) : (s.pastGuard t w).flds = s.flds := by
  unfold State.pastGuard; split <;> rfl
@[simp] theorem State.pastGuard_mem (s : State) (t : Tid) (w : IWord) : (s.pastGuard t w).mem = s.mem := by
  unfold State.pastGuard; split <;> rfl
@[simp] theorem State.pastGuard_poison (s : State) (t : Tid) (w : IWord) : (s.pastGuard t w).poison = s.poison := by
  unfold State.pastGuard; split <;> rfl
@[simp] theorem State.pastGuard_ltags (s : State) (t : Tid) (w : IWord) : (s.pastGuard t w).ltags = s.ltags := by
  unfold State.pastGuard; split <;> rfl
@[simp] theorem State.pastGuard_host (s : State) (t : Tid) (w : IWord) : (s.pastGuard t w).host = s.host := by
  unfold State.pastGuard; split <;> rfl
@[simp] theorem State.pastGuard_cores (s : State) (t : Tid) (w : IWord) : (s.pastGuard t w).cores = s.cores := by
  unfold State.pastGuard; split <;> rfl
@[simp] theorem State.pastGuard_bars (s : State) (t : Tid) (w : IWord) : (s.pastGuard t w).bars = s.bars := by
  unfold State.pastGuard; split <;> rfl
@[simp] theorem State.pastGuard_launches (s : State) (t : Tid) (w : IWord) : (s.pastGuard t w).launches = s.launches := by
  unfold State.pastGuard; split <;> rfl
@[simp] theorem State.pastGuard_tiles (s : State) (t : Tid) (w : IWord) : (s.pastGuard t w).tiles = s.tiles := by
  unfold State.pastGuard; split <;> rfl
@[simp] theorem State.pastGuard_cmds (s : State) (t : Tid) (w : IWord) : (s.pastGuard t w).cmds = s.cmds := by
  unfold State.pastGuard; split <;> rfl
@[simp] theorem State.pastGuard_streams (s : State) (t : Tid) (w : IWord) : (s.pastGuard t w).streams = s.streams := by
  unfold State.pastGuard; split <;> rfl
@[simp] theorem State.pastGuard_pins (s : State) (t : Tid) (w : IWord) : (s.pastGuard t w).pins = s.pins := by
  unfold State.pastGuard; split <;> rfl
@[simp] theorem State.pastGuard_wops (s : State) (t : Tid) (w : IWord) : (s.pastGuard t w).wops = s.wops := by
  unfold State.pastGuard; split <;> rfl
@[simp] theorem State.pastGuard_reclaim (s : State) (t : Tid) (w : IWord) : (s.pastGuard t w).reclaim = s.reclaim := by
  unfold State.pastGuard; split <;> rfl
@[simp] theorem State.pastGuard_tried (s : State) (t : Tid) (w : IWord) : (s.pastGuard t w).tried = s.tried := by
  unfold State.pastGuard; split <;> rfl
@[simp] theorem State.pastGuard_kvSeq (s : State) (t : Tid) (w : IWord) : (s.pastGuard t w).kvSeq = s.kvSeq := by
  unfold State.pastGuard; split <;> rfl
@[simp] theorem State.pastGuard_inited (s : State) (t : Tid) (w : IWord) : (s.pastGuard t w).inited = s.inited := by
  unfold State.pastGuard; split <;> rfl
@[simp] theorem State.pastGuard_chks (s : State) (t : Tid) (w : IWord) : (s.pastGuard t w).chks = s.chks := by
  unfold State.pastGuard; split <;> rfl
@[simp] theorem State.pastGuard_jobRec (s : State) (t : Tid) (w : IWord) : (s.pastGuard t w).jobRec = s.jobRec := by
  unfold State.pastGuard; split <;> rfl
@[simp] theorem State.pastGuard_srSeq (s : State) (t : Tid) (w : IWord) : (s.pastGuard t w).srSeq = s.srSeq := by
  unfold State.pastGuard; split <;> rfl
@[simp] theorem State.pastGuard_ingest (s : State) (t : Tid) (w : IWord) : (s.pastGuard t w).ingest = s.ingest := by
  unfold State.pastGuard; split <;> rfl
@[simp] theorem State.pastGuard_pipes (s : State) (t : Tid) (w : IWord) : (s.pastGuard t w).pipes = s.pipes := by
  unfold State.pastGuard; split <;> rfl
@[simp] theorem State.pastGuard_cpr (s : State) (t : Tid) (w : IWord) : (s.pastGuard t w).cpr = s.cpr := by
  unfold State.pastGuard; split <;> rfl
@[simp] theorem State.pastGuard_links (s : State) (t : Tid) (w : IWord) : (s.pastGuard t w).links = s.links := by
  unfold State.pastGuard; split <;> rfl
@[simp] theorem State.pastGuard_laps (s : State) (t : Tid) (w : IWord) : (s.pastGuard t w).laps = s.laps := by
  unfold State.pastGuard; split <;> rfl
@[simp] theorem State.pastGuard_relays (s : State) (t : Tid) (w : IWord) : (s.pastGuard t w).relays = s.relays := by
  unfold State.pastGuard; split <;> rfl
@[simp] theorem State.pastGuard_norms (s : State) (t : Tid) (w : IWord) : (s.pastGuard t w).norms = s.norms := by
  unfold State.pastGuard; split <;> rfl
@[simp] theorem State.pastGuard_sends (s : State) (t : Tid) (w : IWord) : (s.pastGuard t w).sends = s.sends := by
  unfold State.pastGuard; split <;> rfl
@[simp] theorem State.pastGuard_recvs (s : State) (t : Tid) (w : IWord) : (s.pastGuard t w).recvs = s.recvs := by
  unfold State.pastGuard; split <;> rfl
@[simp] theorem State.pastGuard_startId (s : State) (t : Tid) (w : IWord) : (s.pastGuard t w).startId = s.startId := by
  unfold State.pastGuard; split <;> rfl
@[simp] theorem State.pastGuard_fcount (s : State) (t : Tid) (w : IWord) : (s.pastGuard t w).fcount = s.fcount := by
  unfold State.pastGuard; split <;> rfl
@[simp] theorem State.pastGuard_waiters (s : State) (t : Tid) (w : IWord) : (s.pastGuard t w).waiters = s.waiters := by
  unfold State.pastGuard; split <;> rfl
@[simp] theorem State.pastGuard_nextTag (s : State) (t : Tid) (w : IWord) : (s.pastGuard t w).nextTag = s.nextTag := by
  unfold State.pastGuard; split <;> rfl
@[simp] theorem State.pastGuard_mgmtStop (s : State) (t : Tid) (w : IWord) : (s.pastGuard t w).mgmtStop = s.mgmtStop := by
  unfold State.pastGuard; split <;> rfl
@[simp] theorem State.pastGuard_retired (s : State) (t : Tid) (w : IWord) : (s.pastGuard t w).retired = s.retired := by
  unfold State.pastGuard; split <;> rfl
@[simp] theorem State.pastGuard_pistes (s : State) (t : Tid) (w : IWord) : (s.pastGuard t w).pistes = s.pistes := by
  unfold State.pastGuard; split <;> rfl
@[simp] theorem State.pastGuard_defects (s : State) (t : Tid) (w : IWord) : (s.pastGuard t w).defects = s.defects := by
  unfold State.pastGuard; split <;> rfl
@[simp] theorem State.pastGuard_unstored (s : State) (t : Tid) (w : IWord) : (s.pastGuard t w).unstored = s.unstored := by
  unfold State.pastGuard; split <;> rfl
@[simp] theorem State.pastGuard_fw (s : State) (t : Tid) (w : IWord) : (s.pastGuard t w).fw = s.fw := by
  unfold State.pastGuard; split <;> rfl
@[simp] theorem State.pastGuard_dram (s : State) (t : Tid) (w : IWord) : (s.pastGuard t w).dram = s.dram := by
  unfold State.pastGuard; split <;> rfl
@[simp] theorem State.pastGuard_boot (s : State) (t : Tid) (w : IWord) : (s.pastGuard t w).boot = s.boot := by
  unfold State.pastGuard; split <;> rfl
@[simp] theorem State.pastGuard_trust (s : State) (t : Tid) (w : IWord) : (s.pastGuard t w).trust = s.trust := by
  unfold State.pastGuard; split <;> rfl
@[simp] theorem State.pastGuard_flog (s : State) (t : Tid) (w : IWord) : (s.pastGuard t w).flog = s.flog := by
  unfold State.pastGuard; split <;> rfl
@[simp] theorem State.pastGuard_flogCount (s : State) (t : Tid) (w : IWord) : (s.pastGuard t w).flogCount = s.flogCount := by
  unfold State.pastGuard; split <;> rfl
@[simp] theorem State.pastGuard_msix (s : State) (t : Tid) (w : IWord) : (s.pastGuard t w).msix = s.msix := by
  unfold State.pastGuard; split <;> rfl
@[simp] theorem State.pastGuard_msixPend (s : State) (t : Tid) (w : IWord) : (s.pastGuard t w).msixPend = s.msixPend := by
  unfold State.pastGuard; split <;> rfl
@[simp] theorem State.pastGuard_out (s : State) (t : Tid) (w : IWord) : (s.pastGuard t w).out = s.out := by
  unfold State.pastGuard; split <;> rfl
@[simp] theorem State.pastGuard_ingLine (s : State) (t : Tid) (w : IWord) : (s.pastGuard t w).ingLine = s.ingLine := by
  unfold State.pastGuard; split <;> rfl
@[simp] theorem State.pastGuard_inbox (s : State) (t : Tid) (w : IWord) : (s.pastGuard t w).inbox = s.inbox := by
  unfold State.pastGuard; split <;> rfl
@[simp] theorem State.pastGuard_early (s : State) (t : Tid) (w : IWord) : (s.pastGuard t w).early = s.early := by
  unfold State.pastGuard; split <;> rfl
@[simp] theorem State.pastGuard_ownLanes (s : State) (t : Tid) (w : IWord) : (s.pastGuard t w).ownLanes = s.ownLanes := by
  unfold State.pastGuard; split <;> rfl
@[simp] theorem State.pastGuard_peerLanes (s : State) (t : Tid) (w : IWord) : (s.pastGuard t w).peerLanes = s.peerLanes := by
  unfold State.pastGuard; split <;> rfl
@[simp] theorem State.pastGuard_msixCtl (s : State) (t : Tid) (w : IWord) : (s.pastGuard t w).msixCtl = s.msixCtl := by
  unfold State.pastGuard; split <;> rfl

@[simp] theorem State.pastGuard_core (s : State) (t : Tid) (w : IWord) (c : Nat) : (s.pastGuard t w).core c = s.core c := by
  unfold State.core
  rw [State.pastGuard_cores]

@[simp] theorem State.pastGuard_loads (s : State) (t : Tid) (w : IWord) :
    ((s.pastGuard t w).thread t.code).loads = (s.thread t.code).loads := by
  unfold State.pastGuard State.modRegs
  split <;> simp

@[simp] theorem State.pastGuard_owner (s : State) (t : Tid) (w : IWord) :
    ((s.pastGuard t w).thread t.code).owner = (s.thread t.code).owner := by
  unfold State.pastGuard State.modRegs
  split <;> simp

@[simp] theorem State.pastGuard_ckpts (s : State) (t : Tid) (w : IWord) :
    ((s.pastGuard t w).thread t.code).ckpts = (s.thread t.code).ckpts := by
  unfold State.pastGuard State.modRegs
  split <;> simp

/-- R99: a word that waits behind its guard changes the state it waits in alone. -/
theorem State.waitIn_unguard_pastGuard (s : State) (t : Tid) (w : IWord) (st : TState) :
    ((s.pastGuard t w).unguard t.code (s.regs t.code).ctrl).waitIn t.code st = s.waitIn t.code st := by
  unfold State.waitIn State.unguard State.pastGuard State.modRegs TRegs.past
  split <;> simp [State.regs]

/-- A ready word whose guard lets it act ends as its own effect behind the guard ends. -/
theorem State.issue_enabled {s : State} {t : Tid} {w : IWord} {sp : Spec}
    (h : s.Ready t w sp.ok sp.gate (sp.reads ++ sp.writes)) (hl : sp.lane = false) (he : s.Enabled t w)
    (body : State → BitVec 8 → Eff) :
    s.issue t w sp body =
      ((body (s.pastGuard t w) ((s.regs t.code).resultTag w sp.reads)).unguard t.code (s.regs t.code).ctrl).finish t.code w.size := by
  rw [State.issue_ready h, State.guarded_enabled hl he]

/-- A ready lane-wise word ends as its own effect ends. -/
theorem State.issue_lanes {s : State} {t : Tid} {w : IWord} {sp : Spec}
    (h : s.Ready t w sp.ok sp.gate (sp.reads ++ sp.writes)) (hl : sp.lane = true) (body : State → BitVec 8 → Eff) :
    s.issue t w sp body = (body s ((s.regs t.code).laneTag w sp.reads)).finish t.code w.size := by
  rw [State.issue_ready h, State.guarded_lane hl]

@[simp] theorem Eff.finish_retire (s : State) (t : Tid) (w : IWord) : (Eff.retire s).finish t.code w.size = s.advance t w := rfl
@[simp] theorem Eff.finish_fault (s : State) (t n c : Nat) : (Eff.fault c s).finish t n = s.raise t c n := rfl
@[simp] theorem Eff.finish_wait (s : State) (t n : Nat) (x : TState) : (Eff.wait x s).finish t n = s.waitIn t x := rfl
@[simp] theorem Eff.finish_done (s : State) (t n : Nat) : (Eff.done s).finish t n = s := rfl

/-- A retirement that changes nothing else. -/
theorem State.advance_pastGuard (s : State) (t : Tid) (w : IWord) : (s.pastGuard t w).advance t w = s.retire t w id := by
  have := Eff.finish_retire_pastGuard s t w id (fun _ => rfl)
  rw [← this, ← Eff.finish_retire]
  unfold State.pastGuard
  split <;> simp [Eff.finish, State.goTo, State.regs, State.modRegs]

/-- Keeping lines in the shadow store changes a thread's checkpoints alone. -/
theorem State.shadowLines_eq {s u : State} {t : Nat} {ls : List Nat} (h : s.shadowLines t ls = some u) :
    ∃ ck, u = s.setThread t { s.thread t with ckpts := ck } := by
  unfold State.shadowLines State.shadowBefore at h
  dsimp only at h
  split at h
  · cases h
  · exact ⟨_, (Option.some.inj h).symm⟩

/-- An access that opens leaves the registers as they are. -/
theorem State.Opens.regs {s u : State} {t : Nat} {rd wr : List (Nat × Nat)} {tag : BitVec 8} (h : s.Opens t rd wr tag u) :
    u.regs t = s.regs t := by
  obtain ⟨ck, rfl⟩ := State.shadowLines_eq h.room
  simp [State.regs]

/-- An access that opens leaves memory as it is. -/
theorem State.Opens.mem {s u : State} {t : Nat} {rd wr : List (Nat × Nat)} {tag : BitVec 8} (h : s.Opens t rd wr tag u) :
    u.mem = s.mem := by
  obtain ⟨ck, rfl⟩ := State.shadowLines_eq h.room
  rfl

/-- An access that opens leaves the thread's loads as they are. -/
theorem State.Opens.loads {s u : State} {t : Nat} {rd wr : List (Nat × Nat)} {tag : BitVec 8} (h : s.Opens t rd wr tag u) :
    (u.thread t).loads = (s.thread t).loads := by
  obtain ⟨ck, rfl⟩ := State.shadowLines_eq h.room
  simp

end Sys2Proof.Machine
end

