-- ==== Sys2Proof/Laws/Queue1.lean ====
section
/-! SUPPORT. No operation of the machine changes the queue of commands (part 1): Ops, Operands, GlideOps, Flags, ArrayOps, Issue, FlowOps, CmdOps, Engine, Array, RegOps, JobOps, RelayOps. -/

namespace Sys2Proof.Machine

set_option maxRecDepth 4000

@[simp] theorem State.setFld_pending (s : State) (f : Fld) (v : Nat) :
    (@State.setFld s f v).pending = s.pending := by
  unfold State.setFld; simp

@[simp] theorem State.setHeld_pending (s : State) (f : Fld) (v : Nat) :
    (@State.setHeld s f v).pending = s.pending := by
  unfold State.setHeld; simp

@[simp] theorem State.incFld_pending (s : State) (f : Fld) (n : Nat) :
    (@State.incFld s f n).pending = s.pending := by
  unfold State.incFld; simp

@[simp] theorem State.satFld_pending (s : State) (f : Fld) (n : Nat) :
    (@State.satFld s f n).pending = s.pending := by
  unfold State.satFld; simp

@[simp] theorem State.flagFld_pending (s : State) (f : Fld) (c : Bool) :
    (@State.flagFld s f c).pending = s.pending := by
  unfold State.flagFld; simp

@[simp] theorem State.resetBlocks_pending (s : State) (lo : Nat) (hi : Nat) :
    (@State.resetBlocks s lo hi).pending = s.pending := by
  unfold State.resetBlocks; simp

@[simp] theorem State.useFree_pending (s : State) :
    (@State.useFree s).pending = s.pending := by
  unfold State.useFree; simp

@[simp] theorem State.raiseVec_pending (s : State) (port : Nat) (vec : Nat) :
    (@State.raiseVec s port vec).pending = s.pending := by
  unfold State.raiseVec; simp

@[simp] theorem State.flushVecs_pending (s : State) (port : Nat) :
    (@State.flushVecs s port).pending = s.pending := by
  unfold State.flushVecs; simp

@[simp] theorem State.logRec_pending (s : State) (code : Nat) (source : Nat) (detail : Nat) :
    (@State.logRec s code source detail).pending = s.pending := by
  unfold State.logRec; simp

@[simp] theorem State.log_pending (s : State) (code : Nat) (detail : Nat) :
    (@State.log s code detail).pending = s.pending := by
  unfold State.log; simp

@[simp] theorem State.tick_pending (s : State) :
    (@State.tick s).pending = s.pending := by
  unfold State.tick; simp

@[simp] theorem State.initRegion_pending (s : State) (k : Tier) (r : Nat) :
    (@State.initRegion s k r).pending = s.pending := by
  unfold State.initRegion; simp

@[simp] theorem State.touch1_pending (s : State) (a : Nat) :
    (@State.touch1 s a).pending = s.pending := by
  unfold State.touch1; try dsimp only []
  repeat' (first | (simp [*]; done) | split | intro _)

@[simp] theorem State.touch_pending (s : State) (a : Nat) (n : Nat) :
    (@State.touch s a n).pending = s.pending := by
  unfold State.touch; simp

@[simp] theorem State.poisonLines_pending (s : State) (ls : List Nat) :
    (@State.poisonLines s ls).pending = s.pending := by
  unfold State.poisonLines; simp

@[simp] theorem State.putByte_pending (s : State) (a : Nat) (b : Byte) :
    (@State.putByte s a b).pending = s.pending := by
  unfold State.putByte; try dsimp only []
  repeat' (first | (simp [*]; done) | split | intro _)

@[simp] theorem State.putCells_pending (s : State) (cells : List (Nat × Byte)) :
    (@State.putCells s cells).pending = s.pending := by
  unfold State.putCells; simp

@[simp] theorem State.storeLine_pending (s : State) (cells : List (Nat × Byte)) (acc : State × Bool) (l : Nat) :
    (s.storeLine cells acc l).1.pending = acc.1.pending := by
  unfold State.storeLine
  dsimp only []
  repeat' (first | exact State.putCells_pending _ _ | split)
  all_goals rfl

@[simp] theorem State.touchCells_pending (s : State) (cells : List (Nat × Byte)) :
    (@State.touchCells s cells).pending = s.pending := by
  unfold State.touchCells; simp

@[simp] theorem State.voidScrubs_pending (s : State) (ls : List Nat) :
    (@State.voidScrubs s ls).pending = s.pending := by
  unfold State.voidScrubs; simp

@[simp] theorem State.write_pending (s : State) (cells : List (Nat × Byte)) :
    ((@State.write s cells).1).pending = s.pending := by
  unfold State.write; simp

@[simp] theorem State.setThread_pending (s : State) (t : Nat) (x : Thread) :
    (@State.setThread s t x).pending = s.pending := by
  unfold State.setThread; simp

@[simp] theorem State.setCore_pending (s : State) (c : Nat) (x : Core) :
    (@State.setCore s c x).pending = s.pending := by
  unfold State.setCore; simp

@[simp] theorem State.setArray_pending (s : State) (c : Nat) (x : MatArray) :
    (@State.setArray s c x).pending = s.pending := by
  unfold State.setArray; simp

@[simp] theorem State.alterLaunch_pending (s : State) (k : CmdRef) (f : Launch → Launch) :
    (@State.alterLaunch s k f).pending = s.pending := by
  unfold State.alterLaunch; simp

@[simp] theorem State.haltThread_pending (s : State) (t : Nat) (code : BitVec 16) (pc : Nat) :
    (@State.haltThread s t code pc).pending = s.pending := by
  unfold State.haltThread; try dsimp only []
  repeat' (first | (simp [*]; done) | split | intro _)

@[simp] theorem State.endPeer_pending (s : State) (t : Nat) :
    (@State.endPeer s t).pending = s.pending := by
  unfold State.endPeer; try dsimp only []
  repeat' (first | (simp [*]; done) | split | intro _)

@[simp] theorem State.endLaunch_pending (s : State) (owner : Option CmdRef) (code : BitVec 16) :
    (@State.endLaunch s owner code).pending = s.pending := by
  unfold State.endLaunch; try dsimp only []
  repeat' (first | (simp [*]; done) | split | intro _)

@[simp] theorem State.stopThread_pending (s : State) (t : Nat) (code : BitVec 16) (pc : Nat) :
    (@State.stopThread s t code pc).pending = s.pending := by
  unfold State.stopThread; try dsimp only []
  repeat' (first | (simp [*]; done) | split | intro _)

@[simp] theorem State.failLater_pending (s : State) (t : Nat) (code : BitVec 16) (pc : Nat) (owner : Option CmdRef) :
    (@State.failLater s t code pc owner).pending = s.pending := by
  unfold State.failLater; try dsimp only []
  repeat' (first | (simp [*]; done) | split | intro _)

@[simp] theorem State.report_pending (s : State) (t : Nat) (fault : Nat) (pc : Nat) (owner : Option CmdRef) :
    (@State.report s t fault pc owner).pending = s.pending := by
  unfold State.report; simp

@[simp] theorem State.raise_pending (s : State) (t : Nat) (code : Nat) (n : Nat) :
    (@State.raise s t code n).pending = s.pending := by
  unfold State.raise; simp

@[simp] theorem State.knowBar_pending (s : State) (a : Nat) :
    (@State.knowBar s a).pending = s.pending := by
  unfold State.knowBar; simp

@[simp] theorem State.setBar_pending (s : State) (a : Nat) (b : Bar) :
    (@State.setBar s a b).pending = s.pending := by
  unfold State.setBar; simp

@[simp] theorem State.breakBar_pending (s : State) (a : Nat) (b : Bar) :
    (@State.breakBar s a b).pending = s.pending := by
  unfold State.breakBar; simp

@[simp] theorem State.putBar_pending (s : State) (a : Nat) (b : Bar) :
    (@State.putBar s a b).pending = s.pending := by
  unfold State.putBar; simp

@[simp] theorem State.barCount_pending (s : State) (a : Nat) (ep : Nat) (dp : Int) (du : Int) :
    ((@State.barCount s a ep dp du).1).pending = s.pending := by
  unfold State.barCount; simp

@[simp] theorem State.barLand_pending (s : State) (a : Nat) (ep : Nat) (n : Nat) :
    ((@State.barLand s a ep n).1).pending = s.pending := by
  unfold State.barLand; simp

@[simp] theorem State.storeOverBars_pending (s before : State) (cells : List (Nat × Byte)) :
    (s.storeOverBars before cells).pending = s.pending := by
  unfold State.storeOverBars
  rw [foldl_pending]
  intro s e
  dsimp only []
  repeat' (first | rfl | (simp; done) | split)

@[simp] theorem State.store_pending (s : State) (cells : List (Nat × Byte)) :
    ((@State.store s cells).1).pending = s.pending := by
  unfold State.store; simp

@[simp] theorem State.ringPut_pending (s : State) (a : Nat) (bs : List Byte) :
    (@State.ringPut s a bs).pending = s.pending := by
  unfold State.ringPut; simp

@[simp] theorem State.portPut_pending (s : State) (q : Nat) (a : Nat) (bs : List Byte) :
    (@State.portPut s q a bs).pending = s.pending := by
  unfold State.portPut; simp

@[simp] theorem State.modRegs_pending (s : State) (t : Nat) (f : TRegs → TRegs) :
    (@State.modRegs s t f).pending = s.pending := by
  unfold State.modRegs; simp

@[simp] theorem State.join_pending (s : State) (t : Nat) (ws : List Nat) (r : TRegs) :
    (@State.join s t ws r).pending = s.pending := by
  unfold State.join; simp

theorem State.openWindow_pending (s : State) (core : Nat) (k : WKind) (r0 : Nat × State) (h0 : @State.openWindow s core k = some r0) :
    (r0.2).pending = s.pending := by
  unfold State.openWindow at h0; (try dsimp only [] at h0)
  repeat' split at h0
  all_goals first | (cases h0; done) | (cases h0; first | rfl | simp [*])

theorem State.windowFor_pending (s : State) (core : Nat) (k : WKind) (r0 : Nat × State) (h0 : s.windowFor core k = some r0) :
    r0.2.pending = s.pending := by
  unfold State.windowFor at h0
  split at h0
  · cases h0; rfl
  · exact State.openWindow_pending _ _ _ _ h0

@[simp] theorem State.setLineTag_pending (s : State) (l : Nat) (tag : BitVec 8) (owner : Nat) :
    (@State.setLineTag s l tag owner).pending = s.pending := by
  unfold State.setLineTag; simp

@[simp] theorem State.addLineTag_pending (s : State) (l : Nat) (tag : BitVec 8) (owner : Nat) :
    (@State.addLineTag s l tag owner).pending = s.pending := by
  unfold State.addLineTag; try dsimp only []
  repeat' (first | (simp [*]; done) | split | intro _)

@[simp] theorem State.clearLines_pending (s : State) (core : Nat) (w : Nat) :
    (@State.clearLines s core w).pending = s.pending := by
  unfold State.clearLines; simp

@[simp] theorem State.clearThread_pending (s : State) (t : Nat) (w : Nat) :
    (@State.clearThread s t w).pending = s.pending := by
  unfold State.clearThread; try dsimp only []
  repeat' (first | (simp [*]; done) | split | intro _)

@[simp] theorem State.closeWindow_pending (s : State) (core : Nat) (w : Nat) :
    (@State.closeWindow s core w).pending = s.pending := by
  unfold State.closeWindow; simp

@[simp] theorem State.restoreLines_pending (s : State) (ls : List ShadowLine) :
    (@State.restoreLines s ls).pending = s.pending := by
  unfold State.restoreLines; simp

@[simp] theorem State.rewind_pending (s : State) (t : Nat) (w : Nat) :
    ((@State.rewind s t w).1).pending = s.pending := by
  unfold State.rewind; try dsimp only []
  repeat' (first | (simp [*]; done) | split | intro _)

@[simp] theorem State.refuseChain_pending (n : Nat) (s : State) (core : Nat) (ws : List Nat) :
    (State.refuseChain n s core ws).pending = s.pending := by
  induction n generalizing s ws with
  | zero => rfl
  | succ n ih =>
    cases ws with
    | nil => rfl
    | cons w ws =>
      unfold State.refuseChain
      simp [ih]

@[simp] theorem State.refuseWindow_pending (s : State) (core : Nat) (w : Nat) :
    (@State.refuseWindow s core w).pending = s.pending := by
  unfold State.refuseWindow; simp

@[simp] theorem State.closeIfSettled_pending (s : State) (core : Nat) (w : Nat) :
    (@State.closeIfSettled s core w).pending = s.pending := by
  unfold State.closeIfSettled; try dsimp only []
  repeat' (first | (simp [*]; done) | split | intro _)

@[simp] theorem State.modWindow_pending (s : State) (core : Nat) (w : Nat) (f : Window → Window) :
    (@State.modWindow s core w f).pending = s.pending := by
  unfold State.modWindow; simp

@[simp] theorem State.confirmPiece_pending (s : State) (core : Nat) (w : Nat) (p : Piece) :
    (@State.confirmPiece s core w p).pending = s.pending := by
  unfold State.confirmPiece; simp

@[simp] theorem State.refusePiece_pending (s : State) (core : Nat) (w : Nat) (p : Piece) :
    (@State.refusePiece s core w p).pending = s.pending := by
  unfold State.refusePiece; simp

@[simp] theorem State.joinTag_pending (s : State) (t : Nat) (tag : BitVec 8) (r : TRegs) :
    (@State.joinTag s t tag r).pending = s.pending := by
  unfold State.joinTag; simp

theorem State.shadowBefore_pending (s u : State) (t ord : Nat) (ls : List Nat) (h : s.shadowBefore t ord ls = some u) :
    u.pending = s.pending := by
  unfold State.shadowBefore at h
  dsimp only [] at h
  split at h
  · cases h
  · cases h; rfl

theorem State.shadowLines_pending (s u : State) (t : Nat) (ls : List Nat) (h : s.shadowLines t ls = some u) :
    u.pending = s.pending := State.shadowBefore_pending s u t _ ls h

@[simp] theorem State.tagWritten_pending (s : State) (t : Nat) (cells : List (Nat × Byte)) (tag : BitVec 8) :
    (@State.tagWritten s t cells tag).pending = s.pending := by
  unfold State.tagWritten; simp

@[simp] theorem State.numFlag_pending (s : State) (core : Nat) (f : Nat → Nat → Fld) (c : Bool) :
    (@State.numFlag s core f c).pending = s.pending := by
  unfold State.numFlag; simp

@[simp] theorem State.convFlags_pending (s : State) (core : Nat) (cs : List Conv) :
    (@State.convFlags s core cs).pending = s.pending := by
  unfold State.convFlags; simp

@[simp] theorem State.noteRetry_pending (s : State) (core : Nat) :
    (@State.noteRetry s core).pending = s.pending := by
  unfold State.noteRetry; simp

@[simp] theorem State.noteSkip_pending (s : State) (core : Nat) :
    (@State.noteSkip s core).pending = s.pending := by
  unfold State.noteSkip; simp

@[simp] theorem State.rampDown_pending (s : State) (core : Nat) :
    (@State.rampDown s core).pending = s.pending := by
  unfold State.rampDown; simp

@[simp] theorem State.settleRamp_pending (s : State) (core : Nat) :
    (@State.settleRamp s core).pending = s.pending := by
  unfold State.settleRamp; try dsimp only []
  repeat' (first | (simp [*]; done) | split | intro _)

@[simp] theorem State.rampUp_pending (s : State) (core : Nat) :
    (@State.rampUp s core).pending = s.pending := by
  unfold State.rampUp; simp

@[simp] theorem State.pushArr_pending (s : State) (t : Nat) (k : ArrKind) (pc : Nat) (bar : Nat) :
    (@State.pushArr s t k pc bar).pending = s.pending := by
  unfold State.pushArr; simp

@[simp] theorem State.alterArr_pending (s : State) (core : Nat) (id : Nat) (f : ArrOp → ArrOp) :
    (@State.alterArr s core id f).pending = s.pending := by
  unfold State.alterArr; simp

@[simp] theorem State.dropArr_pending (s : State) (core : Nat) (id : Nat) :
    (@State.dropArr s core id).pending = s.pending := by
  unfold State.dropArr; simp

@[simp] theorem State.passRow_pending (s : State) (core : Nat) (a : Desc) (c : Desc) (g : Nat) (zacc : Bool) (mask : BitVec 128) (op : Operand) (m : Nat) :
    (@State.passRow s core a c g zacc mask op m).pending = s.pending := by
  unfold State.passRow; simp

theorem State.drainStore_pending (s : State) (core : Nat) (o : ArrOp) (r : DrainRun) (cells : List (Nat × Byte)) (extra : BitVec 8)
    (r0 : State) (h0 : State.drainStore s core o r cells extra = some r0) : r0.pending = s.pending := by
  unfold State.drainStore at h0
  dsimp only [] at h0
  split at h0
  · cases h0
  · have h := State.shadowBefore_pending _ _ _ _ _ ‹_›
    cases h0
    simp [h]

@[simp] theorem State.clearRowLine_pending (w : Nat) (rest : List Piece) (s : State) (l : Nat) :
    (@State.clearRowLine w rest s l).pending = s.pending := by
  unfold State.clearRowLine; try dsimp only []
  repeat' (first | (simp [*]; done) | split | intro _)

@[simp] theorem State.confirmRow_pending (s : State) (core : Nat) (w : Nat) (sp : DrainSpec) (refused : Bool) (m : Nat) :
    (@State.confirmRow s core w sp refused m).pending = s.pending := by
  unfold State.confirmRow; simp

theorem State.drainRow_pending (s : State) (core : Nat) (o : ArrOp) (sp : DrainSpec) (r : DrainRun) (m : Nat) (e : Option Int)
    (satm glide : Bool) (codes : List Nat) (r0 : State) (h0 : State.drainRow s core o sp r m e satm glide codes = some r0) :
    r0.pending = s.pending := by
  unfold State.drainRow at h0
  dsimp only [] at h0
  split at h0
  · cases h0
  · have h := State.drainStore_pending _ _ _ _ _ _ _ ‹_›
    repeat' split at h0
    all_goals (cases h0; simp [h])

@[simp] theorem State.setRun_pending (s : State) (core : Nat) (id : Nat) (sp : DrainSpec) (r : DrainRun) :
    (@State.setRun s core id sp r).pending = s.pending := by
  unfold State.setRun; simp

theorem State.finishTile_pending (s : State) (core : Nat) (o : ArrOp) (sp : DrainSpec) (r : DrainRun) (i : Nat) (forced : Bool)
    (r0 : State × DrainRun) (h0 : State.finishTile s core o sp r i forced = some r0) : r0.1.pending = s.pending := by
  unfold State.finishTile at h0
  dsimp only [] at h0
  have hs : ∀ c x, s.drainStore core o r c 0 = some x → x.pending = s.pending := fun c x h =>
    State.drainStore_pending _ _ _ _ _ _ _ h
  have hf : ∀ (l : List Nat) (f : Nat → List Nat) (e : Option Int) (b : Bool) (a : Option State), (∀ x, a = some x → x.pending = s.pending) →
      ∀ x, l.foldl (fun (acc : Option State) m => match acc with
        | none => none
        | some s => s.drainRow core o sp r m e b false (f m)) a = some x → x.pending = s.pending := by
    intro l f e b
    induction l with
    | nil => intro a ha x hx; exact ha x hx
    | cons m l ih =>
      intro a ha x hx
      refine ih _ ?_ x hx
      intro y hy
      cases a with
      | none => cases hy
      | some z => exact (State.drainRow_pending _ _ _ _ _ _ _ _ _ _ _ hy).trans (ha z rfl)
  split at h0
  · cases h0
  · rename_i y hy
    cases h0
    split at hy
    · exact hs _ _ hy
    · exact hf _ _ _ _ _ (fun x hx => hs _ _ hx) _ hy

@[simp] theorem State.drainPoison_pending (s : State) (core : Nat) (o : ArrOp) (sp : DrainSpec) (r : DrainRun) :
    (@State.drainPoison s core o sp r).pending = s.pending := by
  unfold State.drainPoison; try dsimp only []
  repeat' (first | (simp [*]; done) | split | intro _)

@[simp] theorem State.waitIn_pending (s : State) (t : Nat) (st : TState) :
    (@State.waitIn s t st).pending = s.pending := by
  unfold State.waitIn; simp

@[simp] theorem State.goTo_pending (s : State) (t : Nat) (pc : Nat) :
    (@State.goTo s t pc).pending = s.pending := by
  unfold State.goTo; simp

@[simp] theorem Eff.finish_pending (t n : Nat) (e : Eff) : (e.finish t n).pending = e.st.pending := by
  cases e <;> simp [Eff.finish]

@[simp] theorem State.gated_pending (s : State) (t : Nat) (k : Eff) (hk : k.st.pending = s.pending) :
    (s.gated t k).st.pending = s.pending := by
  unfold State.gated
  dsimp only []
  split
  · rfl
  · split
    · rfl
    · exact hk

@[simp] theorem State.unguard_pending (s : State) (t : Nat) (ctrl : BitVec 8) :
    (@State.unguard s t ctrl).pending = s.pending := by
  unfold State.unguard; simp

@[simp] theorem Eff.unguard_pending (t : Nat) (ctrl : BitVec 8) (y0 : Eff) :
    (@Eff.unguard t ctrl y0).st.pending = y0.st.pending := by
  unfold Eff.unguard; try dsimp only []
  repeat' (first | (simp [*]; done) | split | intro _)

@[simp] theorem State.guarded_pending (s : State) (t : Nat) (w : IWord) (sp : Spec) (body : State → BitVec 8 → Eff)
    (hoff : ∀ s, (sp.off s).pending = s.pending) (hbody : ∀ y0 y1, ((body y0 y1).st).pending = y0.pending) :
    (@State.guarded s t w sp body).st.pending = s.pending := by
  unfold State.guarded; try dsimp only []
  repeat' (first | (simp [*]; done) | split | intro _)

@[simp] theorem State.attempt_pending (s : State) (t : Nat) (w : IWord) (sp : Spec) (body : State → BitVec 8 → Eff)
    (hoff : ∀ s, (sp.off s).pending = s.pending) (hbody : ∀ y0 y1, ((body y0 y1).st).pending = y0.pending) :
    (@State.attempt s t w sp body).st.pending = s.pending := by
  unfold State.attempt; try dsimp only []
  repeat' (first | (simp [*]; done) | split | intro _)

@[simp] theorem State.behindGate_pending (s : State) (t : Nat) (go : State → State) (hgo : ∀ y0, (go y0).pending = y0.pending) :
    (@State.behindGate s t go).pending = s.pending := by
  unfold State.behindGate; try dsimp only []
  repeat' (first | (simp [*]; done) | split | intro _)

@[simp] theorem State.issue_pending (s : State) (tid : Tid) (w : IWord) (sp : Spec) (body : State → BitVec 8 → Eff)
    (hoff : ∀ s, (sp.off s).pending = s.pending) (hbody : ∀ y0 y1, ((body y0 y1).st).pending = y0.pending) :
    (@State.issue s tid w sp body).pending = s.pending := by
  unfold State.issue; try dsimp only []
  repeat' (first | (simp [*]; done) | split | intro _)

@[simp] theorem State.setPisteBits_pending (s : State) (i : Nat) (v : Nat) :
    (@State.setPisteBits s i v).pending = s.pending := by
  unfold State.setPisteBits; simp

@[simp] theorem State.setLink_pending (s : State) (p : Nat) (x : LinkPort) :
    (@State.setLink s p x).pending = s.pending := by
  unfold State.setLink; simp

@[simp] theorem State.enqueue_pending (s : State) (p : Nat) (typ : Nat) (k : Packet) (whence : Nat) :
    (@State.enqueue s p typ k whence).pending = s.pending := by
  unfold State.enqueue; simp

@[simp] theorem State.emit_pending (s : State) (typ : Nat) (k : Packet) :
    (@State.emit s typ k).pending = s.pending := by
  unfold State.emit; try dsimp only []
  repeat' (first | (simp [*]; done) | split | intro _)

@[simp] theorem State.sendCtl_pending (s : State) (d : Nat) (vc : Nat) (typ : Nat) (seq : BitVec 32) (ep : BitVec 16) (body : List Byte) :
    (@State.sendCtl s d vc typ seq ep body).pending = s.pending := by
  unfold State.sendCtl; simp

@[simp] theorem State.passFailed_pending (s : State) (key : Nat) :
    (@State.passFailed s key).pending = s.pending := by
  unfold State.passFailed; simp

@[simp] theorem State.openFlow_pending (s : State) (d : Nat) (vc : Nat) (waiting : List WaitPkt) :
    (@State.openFlow s d vc waiting).pending = s.pending := by
  unfold State.openFlow; simp

@[simp] theorem State.dropWaiting_pending (s : State) (q : Origin → Bool) :
    (@State.dropWaiting s q).pending = s.pending := by
  unfold State.dropWaiting; simp

@[simp] theorem State.pumpFlow_pending (s : State) (d vc n : Nat) : (s.pumpFlow d vc n).pending = s.pending := by
  induction n generalizing s with
  | zero => rfl
  | succ n ih =>
    unfold State.pumpFlow
    dsimp only []
    repeat' (first | (simp [ih]; done) | rfl | split)

@[simp] theorem State.sendPkt_pending (s : State) (d : Nat) (vc : Nat) (typ : Nat) (body : List Byte) (org : Origin) (cls : Bool) :
    (@State.sendPkt s d vc typ body org cls).pending = s.pending := by
  unfold State.sendPkt; try dsimp only []
  repeat' (first | (simp [*]; done) | split | intro _)

@[simp] theorem State.newTag_pending (s : State) (w : Waiter) :
    ((@State.newTag s w).2).pending = s.pending := by
  unfold State.newTag; simp

@[simp] theorem State.setPiste_pending (s : State) (i : Nat) :
    (@State.setPiste s i).pending = s.pending := by
  unfold State.setPiste; simp

@[simp] theorem State.selectPiste_pending (s : State) (i : Nat) :
    (@State.selectPiste s i).pending = s.pending := by
  unfold State.selectPiste; simp

@[simp] theorem State.setStream_pending (s : State) (i : Nat) (f : Stream → Stream) :
    (@State.setStream s i f).pending = s.pending := by
  unfold State.setStream; simp

@[simp] theorem State.showStream_pending (s : State) (i : Nat) :
    (@State.showStream s i).pending = s.pending := by
  unfold State.showStream; simp

@[simp] theorem State.alterCmd_pending (s : State) (k : CmdRef) (f : Cmd → Cmd) :
    (@State.alterCmd s k f).pending = s.pending := by
  unfold State.alterCmd; simp

@[simp] theorem State.startCmd_pending (s : State) (k : CmdRef) :
    (@State.startCmd s k).pending = s.pending := by
  unfold State.startCmd; simp

@[simp] theorem State.fillDone_pending (s : State) (fault : Nat) :
    (@State.fillDone s fault).pending = s.pending := by
  unfold State.fillDone; simp

@[simp] theorem State.finishCmd_pending (s : State) (k : CmdRef) (fault : Nat) (result : Nat) (poison : Bool) :
    (@State.finishCmd s k fault result poison).pending = s.pending := by
  unfold State.finishCmd; try dsimp only []
  repeat' (first | (simp [*]; done) | split | intro _)

@[simp] theorem State.takePin_pending (s : State) (h : Nat) :
    ((@State.takePin s h).2).pending = s.pending := by
  unfold State.takePin; simp

@[simp] theorem State.dropPin_pending (s : State) (h : Nat) (slot : Nat) :
    (@State.dropPin s h slot).pending = s.pending := by
  unfold State.dropPin; simp

@[simp] theorem State.setTile_pending (s : State) (t : Nat) (x : Tile) :
    (@State.setTile s t x).pending = s.pending := by
  unfold State.setTile; simp

@[simp] theorem State.alterCopy_pending (s : State) (t : Nat) (c : Nat) (f : Copy → Copy) :
    (@State.alterCopy s t c f).pending = s.pending := by
  unfold State.alterCopy; simp

@[simp] theorem State.issueOne_pending (s : State) (t : Nat) (cid : Nat) (c : Copy) (op : TxnOp) (rest : List TxnOp) :
    (@State.issueOne s t cid c op rest).pending = s.pending := by
  unfold State.issueOne; try dsimp only []
  repeat' (first | (simp [*]; done) | split | intro _)

@[simp] theorem State.issueTxns_pending (s : State) (t n : Nat) : (s.issueTxns t n).pending = s.pending := by
  induction n generalizing s with
  | zero => rfl
  | succ n ih =>
    unfold State.issueTxns
    dsimp only []
    repeat' (first | (simp [ih]; done) | rfl | split)

@[simp] theorem State.endCopy_pending (s : State) (t : Nat) (cid : Nat) (c : Copy) :
    (@State.endCopy s t cid c).pending = s.pending := by
  unfold State.endCopy; try dsimp only []
  repeat' (first | (simp [*]; done) | split | intro _)

@[simp] theorem State.settleCopy_pending (s : State) (t : Nat) (cid : Nat) :
    (@State.settleCopy s t cid).pending = s.pending := by
  unfold State.settleCopy; try dsimp only []
  repeat' (first | (simp [*]; done) | split | intro _)

@[simp] theorem State.acceptCopy_pending (s : State) (t : Nat) (c : Copy) :
    (@State.acceptCopy s t c).pending = s.pending := by
  unfold State.acceptCopy; simp

@[simp] theorem State.endTxn_pending (s : State) (t : Nat) (id : Nat) (cid : Nat) :
    (@State.endTxn s t id cid).pending = s.pending := by
  unfold State.endTxn; simp

@[simp] theorem State.landBytes_pending (s : State) (a : Nat) (bs : List (Byte × Bool)) :
    (@State.landBytes s a bs).1.pending = s.pending := by
  unfold State.landBytes; simp

@[simp] theorem State.landTxn_pending (s : State) (t : Nat) (x : Txn) (dst : Nat) (bs : List (Byte × Bool)) :
    (@State.landTxn s t x dst bs).pending = s.pending := by
  unfold State.landTxn; simp

@[simp] theorem State.sendTxn_pending (s : State) (t : Nat) (id : Nat) (x : Txn) (dst : Nat) (bs : List Byte) :
    (@State.sendTxn s t id x dst bs).pending = s.pending := by
  unfold State.sendTxn; simp

@[simp] theorem State.stopTxn_pending (s : State) (t : Nat) (id : Nat) (x : Txn) (dst : Nat) (bs : List (Byte × Bool)) :
    (@State.stopTxn s t id x dst bs).pending = s.pending := by
  unfold State.stopTxn; simp

@[simp] theorem State.readAhead_pending (s : State) (t : Nat) (x : Txn) (dev : Nat) (n : Nat) :
    (@State.readAhead s t x dev n).pending = s.pending := by
  unfold State.readAhead; simp

@[simp] theorem State.failTxn_pending (s : State) (t : Nat) (id : Nat) (fault : Nat) :
    (@State.failTxn s t id fault).pending = s.pending := by
  unfold State.failTxn; try dsimp only []
  repeat' (first | (simp [*]; done) | split | intro _)

@[simp] theorem State.moveTxn_pending (s : State) (t : Nat) (id : Nat) (c : Copy) (x : Txn) :
    (@State.moveTxn s t id c x).pending = s.pending := by
  unfold State.moveTxn; try dsimp only []
  repeat' (first | (simp [*]; done) | split | intro _)

@[simp] theorem State.ackTxn_pending (s : State) (t : Nat) (id : Nat) :
    (@State.ackTxn s t id).pending = s.pending := by
  unfold State.ackTxn; try dsimp only []
  repeat' (first | (simp [*]; done) | split | intro _)

@[simp] theorem State.answerTxn_pending (s : State) (t : Nat) (id : Nat) (status : Nat) (bs : List Byte) :
    (@State.answerTxn s t id status bs).pending = s.pending := by
  unfold State.answerTxn; simp

@[simp] theorem execEngineTransactionComplete_pending (tile : Fin 36) (id : Nat) (s : State) :
    (outState (@execEngineTransactionComplete tile id s) s).pending = s.pending := by
  unfold execEngineTransactionComplete; try dsimp only []
  repeat' (first | (simp [*]; done) | split | intro _)

@[simp] theorem holding_pending (s : State) (t : Nat) (k : Eff) (hk : k.st.pending = s.pending) :
    (holding s t k).st.pending = s.pending := by
  unfold holding
  split
  · exact hk
  · rfl

@[simp] theorem execMmaOpen_pending (t : Tid) (w : IWord) (s : State) : (outState (execMmaOpen t w s) s).pending = s.pending := by
  unfold execMmaOpen
  try dsimp only []
  rw [outState_next]
  refine State.issue_pending _ _ _ _ _ (fun _ => rfl) ?_
  intro s x
  repeat' (first | rfl | (simp; done) | split)

@[simp] theorem execMmaClose_pending (t : Tid) (w : IWord) (s : State) :
    (outState (@execMmaClose t w s) s).pending = s.pending := by
  unfold execMmaClose; simp

@[simp] theorem loadwBody_pending (t : Nat) (tr : Bool) (v : BitVec 128) (s : State) :
    (@loadwBody t tr v s).st.pending = s.pending := by
  unfold loadwBody; simp

@[simp] theorem execMmaLoadw_pending (t : Tid) (w : IWord) (s : State) :
    (outState (@execMmaLoadw t w s) s).pending = s.pending := by
  unfold execMmaLoadw; simp

@[simp] theorem execMmaLoadwT_pending (t : Tid) (w : IWord) (s : State) :
    (outState (@execMmaLoadwT t w s) s).pending = s.pending := by
  unfold execMmaLoadwT; simp

@[simp] theorem streamBody_pending (t : Nat) (w : IWord) (s : State) :
    (@streamBody t w s).st.pending = s.pending := by
  unfold streamBody; try dsimp only []
  repeat' (first | (simp [*]; done) | split | intro _)

@[simp] theorem execMmaStream_pending (t : Tid) (w : IWord) (s : State) :
    (outState (@execMmaStream t w s) s).pending = s.pending := by
  unfold execMmaStream; simp

@[simp] theorem State.openScale_pending (s : State) (t n : Nat) (sp : DrainSpec) (r : DrainRun) :
    (s.openScale t n sp r).pending = s.pending := by
  unfold State.openScale
  dsimp only []
  split
  · split
    · rfl
    · have h := State.openWindow_pending _ _ _ _ ‹_›
      simp only [] at h
      simp [h]
  · rfl

@[simp] theorem drainBody_pending (t : Nat) (w : IWord) (s : State) :
    (@drainBody t w s).st.pending = s.pending := by
  unfold drainBody; simp

@[simp] theorem execMmaDrain_pending (t : Tid) (w : IWord) (s : State) :
    (outState (@execMmaDrain t w s) s).pending = s.pending := by
  unfold execMmaDrain; simp

@[simp] theorem execMmaDrainT_pending (t : Tid) (w : IWord) (s : State) :
    (outState (@execMmaDrainT t w s) s).pending = s.pending := by
  unfold execMmaDrainT; simp

@[simp] theorem execRampStep_pending (c : Cid) (s : State) :
    (outState (@execRampStep c s) s).pending = s.pending := by
  unfold execRampStep; simp

@[simp] theorem execArrayHoldExpiry_pending (c : Cid) (s : State) :
    (outState (@execArrayHoldExpiry c s) s).pending = s.pending := by
  unfold execArrayHoldExpiry; simp

@[simp] theorem execShadowBankFull_pending (c : Cid) (s : State) :
    (outState (@execShadowBankFull c s) s).pending = s.pending := by
  unfold execShadowBankFull; try dsimp only []
  repeat' (first | (simp [*]; done) | split | intro _)

@[simp] theorem execSwapTokenEnter_pending (c : Cid) (s : State) :
    (outState (@execSwapTokenEnter c s) s).pending = s.pending := by
  unfold execSwapTokenEnter; try dsimp only []
  repeat' (first | (simp [*]; done) | split | intro _)

@[simp] theorem execSwapComplete_pending (c : Cid) (s : State) :
    (outState (@execSwapComplete c s) s).pending = s.pending := by
  unfold execSwapComplete; try dsimp only []
  repeat' (first | (simp [*]; done) | split | intro _)

@[simp] theorem execArrayRowEnter_pending (c : Cid) (s : State) :
    (outState (@execArrayRowEnter c s) s).pending = s.pending := by
  unfold execArrayRowEnter; try dsimp only []
  repeat' (first | (simp [*]; done) | split | intro _)

@[simp] theorem execPassComplete_pending (c : Cid) (s : State) :
    (outState (@execPassComplete c s) s).pending = s.pending := by
  unfold execPassComplete; try dsimp only []
  repeat' (first | (simp [*]; done) | split | intro _)

theorem State.spredRow_pending (s : State) (core : Nat) (o : ArrOp) (sp : DrainSpec) (r : DrainRun) (m kind : Nat) (codes : List Nat)
    (e : Option Int) (r0 : State × DrainRun) (h0 : State.spredRow s core o sp r m kind codes e = some r0) : r0.1.pending = s.pending := by
  unfold State.spredRow at h0
  dsimp only [] at h0
  split at h0
  · cases h0
  · rename_i s' r' hw
    have hs : s'.pending = s.pending := by
      repeat' split at hw
      all_goals first
        | (cases hw; done)
        | (have h := State.drainRow_pending _ _ _ _ _ _ _ _ _ _ _ ‹_›; cases hw; exact h)
        | (cases hw; rfl)
    repeat' split at h0
    all_goals first
      | exact (State.finishTile_pending _ _ _ _ _ _ _ _ h0).trans hs
      | (cases h0; exact hs)

theorem State.drainAny_pending (s : State) (core : Nat) (o : ArrOp) (sp : DrainSpec) (r : DrainRun) (m kind : Nat) (codes : List Nat)
    (e : Option Int) (r0 : State × DrainRun) (h0 : State.drainAny s core o sp r m kind codes e = some r0) : r0.1.pending = s.pending := by
  unfold State.drainAny at h0
  repeat' split at h0
  · simp only [Option.map_eq_some_iff] at h0
    obtain ⟨a, ha, rfl⟩ := h0
    exact State.drainRow_pending _ _ _ _ _ _ _ _ _ _ _ ha
  · simp only [Option.map_eq_some_iff] at h0
    obtain ⟨a, ha, rfl⟩ := h0
    exact State.drainRow_pending _ _ _ _ _ _ _ _ _ _ _ ha
  · exact State.spredRow_pending _ _ _ _ _ _ _ _ _ _ h0

@[simp] theorem execDrainRowBegin_pending (c : Cid) (s : State) : (outState (execDrainRowBegin c s) s).pending = s.pending := by
  unfold execDrainRowBegin
  dsimp only []
  rw [outState_next]
  repeat' (first
    | rfl
    | (simp; done)
    | (have h := State.drainAny_pending _ _ _ _ _ _ _ _ _ _ ‹_›; simp only [] at h; simp [h]; done)
    | split)

@[simp] theorem State.refuseDrain_pending (s : State) (core : Nat) (sp : DrainSpec) (r : DrainRun) :
    ((@State.refuseDrain s core sp r).1).pending = s.pending := by
  unfold State.refuseDrain; try dsimp only []
  repeat' (first | (simp [*]; done) | split | intro _)

@[simp] theorem execDrainTileCheck_pending (c : Cid) (s : State) : (outState (execDrainTileCheck c s) s).pending = s.pending := by
  unfold execDrainTileCheck
  rw [outState_next]
  split
  · rfl
  · dsimp only []
    split
    · rfl
    · split
      · rfl
      · split
        · rfl
        · split
          · split
            · rfl
            · have h := State.finishTile_pending _ _ _ _ _ _ _ _ ‹_›
              simp only [] at h
              simp [h]
          · split
            · split
              · simp
              · have h := State.finishTile_pending _ _ _ _ _ _ _ _ ‹_›
                simp only [] at h
                simp [h]
            · simp

@[simp] theorem execDrainComplete_pending (c : Cid) (s : State) :
    (outState (@execDrainComplete c s) s).pending = s.pending := by
  unfold execDrainComplete; try dsimp only []
  repeat' (first | (simp [*]; done) | split | intro _)

@[simp] theorem State.storeFld_pending (s : State) (f : Fld) (mask : Nat) (v : Nat) :
    (@State.storeFld s f mask v).pending = s.pending := by
  unfold State.storeFld; try dsimp only []
  repeat' (first | (simp [*]; done) | split | intro _)

@[simp] theorem State.writeFields_pending (s : State) (r : Reg) (mask : Nat) (v : Nat) :
    (@State.writeFields s r mask v).pending = s.pending := by
  unfold State.writeFields; simp

@[simp] theorem State.logBar_pending (s : State) (code : Nat) :
    (@State.logBar s code).pending = s.pending := by
  unfold State.logBar; simp

@[simp] theorem State.hostWrite_pending (s : State) (go : State → State) (hgo : ∀ y0, (go y0).pending = y0.pending) :
    (@State.hostWrite s go).pending = s.pending := by
  unfold State.hostWrite; try dsimp only []
  repeat' (first | (simp [*]; done) | split | intro _)

@[simp] theorem State.hostWriteIn_pending (s : State) (b : Nat) (go : State → State) (hgo : ∀ y0, (go y0).pending = y0.pending) :
    (@State.hostWriteIn s b go).pending = s.pending := by
  unfold State.hostWriteIn; try dsimp only []
  repeat' (first | (simp [*]; done) | split | intro _)

@[simp] theorem State.clampFld_pending (s : State) (f : Fld) (lo : Nat) (hi : Nat) :
    (@State.clampFld s f lo hi).pending = s.pending := by
  unfold State.clampFld; simp

@[simp] theorem State.failStep_pending (s : State) (code : Nat) :
    (@State.failStep s code).pending = s.pending := by
  unfold State.failStep; simp

@[simp] theorem State.suspectStep_pending (s : State) :
    (@State.suspectStep s).pending = s.pending := by
  unfold State.suspectStep; simp

@[simp] theorem State.launchFault_pending (s : State) (job : Nat) (code : Nat) :
    (@State.launchFault s job code).pending = s.pending := by
  unfold State.launchFault; simp

@[simp] theorem State.takePhase_pending (s : State) (n : Nat) :
    (@State.takePhase s n).pending = s.pending := by
  unfold State.takePhase; simp

@[simp] theorem State.phaseCheck_pending (s : State) :
    (@State.phaseCheck s).pending = s.pending := by
  unfold State.phaseCheck; try dsimp only []
  repeat' (first | (simp [*]; done) | split | intro _)

@[simp] theorem State.setRelay_pending (s : State) (h : Nat) (x : Relay) :
    (@State.setRelay s h x).pending = s.pending := by
  unfold State.setRelay; simp

@[simp] theorem State.modRelay_pending (s : State) (h : Nat) (f : Relay → Relay) :
    (@State.modRelay s h f).pending = s.pending := by
  unfold State.modRelay; simp

@[simp] theorem State.overrange_pending (s : State) (h : Nat) (c : Bool) :
    (@State.overrange s h c).pending = s.pending := by
  unfold State.overrange; simp

@[simp] theorem State.touchExp_pending (s : State) (h : Nat) (b : Nat) :
    (@State.touchExp s h b).pending = s.pending := by
  unfold State.touchExp; simp

@[simp] theorem State.sendBatch_pending (s : State) (h : Nat) (dst : Nat) (kind : Nat) (slot : Nat) (twin : Bool) (b0 : Nat) (n : Nat) (tail : List Byte) (data : List Byte) (send : Nat) :
    ((@State.sendBatch s h dst kind slot twin b0 n tail data send).2).pending = s.pending := by
  unfold State.sendBatch; simp

@[simp] theorem State.setNorm_pending (s : State) (k : Nat) (x : NormSet) :
    (@State.setNorm s k x).pending = s.pending := by
  unfold State.setNorm; simp

@[simp] theorem State.relayPut_pending (s : State) (cells : List (Nat × Byte)) :
    (@State.relayPut s cells).pending = s.pending := by
  unfold State.relayPut; simp

@[simp] theorem State.landNorm_pending (s : State) (k : Nat) (bs : List Byte) :
    (@State.landNorm s k bs).pending = s.pending := by
  unfold State.landNorm; try dsimp only []
  repeat' (first | (simp [*]; done) | split | intro _)

@[simp] theorem State.closeNorm_pending (s : State) (k : Nat) :
    (@State.closeNorm s k).pending = s.pending := by
  unfold State.closeNorm
  dsimp only []
  rw [State.setNorm_pending, foldl_pending]
  · repeat' (first | (simp; done) | split)
  · intro s m
    repeat' (first | rfl | (simp; done) | split)

@[simp] theorem State.settleNorm_pending (s : State) (k : Nat) :
    (@State.settleNorm s k).pending = s.pending := by
  unfold State.settleNorm; simp

@[simp] theorem State.countNorms_pending (s : State) (k : Nat) (y0 : List NormBatch) :
    (@State.countNorms s k y0).pending = s.pending := by
  induction y0 generalizing s with
  | nil => rfl
  | cons a l ih =>
    unfold State.countNorms
    try dsimp only []
    repeat' (first | (simp [ih]; done) | rfl | split)

@[simp] theorem State.countNorm_pending (s : State) (k : Nat) (b : NormBatch) :
    (@State.countNorm s k b).pending = s.pending := by
  unfold State.countNorm; simp

@[simp] theorem State.finishNorm_pending (s : State) (k : Nat) :
    (@State.finishNorm s k).pending = s.pending := by
  unfold State.finishNorm; simp

@[simp] theorem State.endOffer_pending (s : State) (fault : Nat) (o : Offer) :
    (@State.endOffer s fault o).pending = s.pending := by
  unfold State.endOffer; simp

@[simp] theorem State.endOffers_pending (s : State) (h : Nat) (fault : Nat) :
    (@State.endOffers s h fault).pending = s.pending := by
  unfold State.endOffers; simp

@[simp] theorem State.failPost_pending (s : State) (h : Nat) (code : Nat) (x : Relay) :
    (@State.failPost s h code x).pending = s.pending := by
  unfold State.failPost; try dsimp only []
  repeat' (first | (simp [*]; done) | split | intro _)

@[simp] theorem State.failNorm_pending (s : State) (h : Nat) (code : Nat) (x : Relay) :
    (@State.failNorm s h code x).pending = s.pending := by
  unfold State.failNorm; simp [*]

@[simp] theorem State.relayFail_pending (s : State) (h : Nat) (code : Nat) :
    (@State.relayFail s h code).pending = s.pending := by
  unfold State.relayFail; simp

@[simp] theorem State.relayStore_pending (s : State) (h : Nat) (cells : List (Nat × Byte)) :
    (@State.relayStore s h cells).pending = s.pending := by
  unfold State.relayStore; simp

@[simp] theorem State.putExp_pending (s : State) (h : Nat) (b : Nat) (other : Bool) (e : Int) :
    (@State.putExp s h b other e).pending = s.pending := by
  unfold State.putExp; simp

@[simp] theorem State.putAcc_pending (s : State) (h : Nat) (b : Nat) (ws : List Nat) :
    (@State.putAcc s h b ws).pending = s.pending := by
  unfold State.putAcc; simp

@[simp] theorem State.setAccepted_pending (s : State) (h : Nat) (slot : Nat) (b : Nat) :
    (@State.setAccepted s h slot b).pending = s.pending := by
  unfold State.setAccepted; simp

@[simp] theorem State.relaySend_pending (s : State) (h : Nat) (dst : Nat) (kind : Nat) (slot : Nat) (twin : Bool) (b0 : Nat) (n : Nat) (tail : List Byte) (data : List Byte) (send : Nat) :
    (@State.relaySend s h dst kind slot twin b0 n tail data send).pending = s.pending := by
  unfold State.relaySend; simp

@[simp] theorem State.landResult_pending (s : State) (h : Nat) (b : Nat) (codes : List Nat) :
    (@State.landResult s h b codes).pending = s.pending := by
  unfold State.landResult; try dsimp only []
  repeat' (first | (simp [*]; done) | split | intro _)

@[simp] theorem State.settleOffers_pending (s : State) (h : Nat) :
    (@State.settleOffers s h).pending = s.pending := by
  unfold State.settleOffers; simp

@[simp] theorem State.sendNorm_pending (s : State) (h : Nat) :
    (@State.sendNorm s h).pending = s.pending := by
  unfold State.sendNorm; simp

@[simp] theorem State.settleRelay_pending (s : State) (h : Nat) :
    (@State.settleRelay s h).pending = s.pending := by
  unfold State.settleRelay; simp

@[simp] theorem State.finalise_pending (s : State) (h : Nat) (b : Nat) :
    (@State.finalise s h b).pending = s.pending := by
  unfold State.finalise; simp

@[simp] theorem State.outResult_pending (s : State) (h : Nat) (b : Nat) (codes : List Nat) :
    (@State.outResult s h b codes).pending = s.pending := by
  unfold State.outResult; simp

@[simp] theorem State.withAcc_pending (s : State) (h : Nat) (b : Nat) (go : State → State) (hgo : ∀ y0, (go y0).pending = y0.pending) :
    (@State.withAcc s h b go).pending = s.pending := by
  unfold State.withAcc; try dsimp only []
  repeat' (first | (simp [*]; done) | split | intro _)

@[simp] theorem State.relayAdvance_pending (s : State) (h : Nat) : (State.relayAdvance s h).pending = s.pending := by
  unfold State.relayAdvance
  split
  · simp
  split
  · rfl
  · simp only [ite_pending, State.settleRelay_pending, State.settleOffers_pending, State.sendNorm_pending, ite_self]
    rw [foldl_pending, foldl_pending]
    · intro s x
      split <;> simp
    · intro s x
      try dsimp only []
      repeat' (first | rfl | (simp; done) | split)

@[simp] theorem State.compareTwin_pending (s : State) (h : Nat) (slot : Nat) (b : Nat) (codes : List Nat) :
    (@State.compareTwin s h slot b codes).pending = s.pending := by
  unfold State.compareTwin; try dsimp only []
  repeat' (first | (simp [*]; done) | split | intro _)

@[simp] theorem State.contribute_pending (s : State) (h : Nat) (slot : Nat) (twin : Bool) (b : Nat) (codes : List Nat) :
    (@State.contribute s h slot twin b codes).pending = s.pending := by
  unfold State.contribute; simp

@[simp] theorem State.agreeExp_pending (s : State) (h : Nat) (b : Nat) (e : Int) :
    (@State.agreeExp s h b e).pending = s.pending := by
  unfold State.agreeExp; simp

@[simp] theorem State.takeMagnitude_pending (s : State) (h : Nat) (slot : Nat) (b : Nat) (m : Nat) :
    (@State.takeMagnitude s h slot b m).pending = s.pending := by
  unfold State.takeMagnitude; simp

@[simp] theorem State.reportMagnitude_pending (s : State) (h : Nat) (slot : Nat) (twin : Bool) (b : Nat) (m : Nat) (send : Nat) :
    (@State.reportMagnitude s h slot twin b m send).pending = s.pending := by
  unfold State.reportMagnitude; simp

end Sys2Proof.Machine
end

