-- ==== Sys2Proof/Laws/Queue2.lean ====
section
/-! SUPPORT. No operation of the machine changes the queue of commands (part 2): WheelOps, Relay, Streams, Ingest, LapOps, Jobs, Wheels, DramOps, Ckpt. -/

namespace Sys2Proof.Machine

set_option maxRecDepth 4000

@[simp] theorem State.kvWrite_pending (s : State) (a : Nat) (n : Nat) (v : Nat) :
    (@State.kvWrite s a n v).pending = s.pending := by
  unfold State.kvWrite; simp

@[simp] theorem State.setWheel_pending (s : State) (w : Nat) (lo : Nat) (len : Nat) (v : Nat) :
    (@State.setWheel s w lo len v).pending = s.pending := by
  unfold State.setWheel; simp

@[simp] theorem State.setWheelState_pending (s : State) (w : Nat) (v : Nat) :
    (@State.setWheelState s w v).pending = s.pending := by
  unfold State.setWheelState; simp

@[simp] theorem State.touchAll_pending (s : State) (l : List (Nat × Nat)) :
    (@State.touchAll s l).pending = s.pending := by
  unfold State.touchAll; simp

@[simp] theorem State.forget_pending (s : State) (w : Nat) :
    (@State.forget s w).pending = s.pending := by
  unfold State.forget; simp

@[simp] theorem State.setEntry_pending (s : State) (wn : Nat) (d : Nat) (i : Nat) (e : Entry) :
    (@State.setEntry s wn d i e).pending = s.pending := by
  unfold State.setEntry; try dsimp only []
  repeat' (first | (simp [*]; done) | split | intro _)

@[simp] theorem State.setRec_pending (s : State) (r : Nat) (lo : Nat) (len : Nat) (v : Nat) :
    (@State.setRec s r lo len v).pending = s.pending := by
  unfold State.setRec; simp

theorem State.allocRec_pending (s : State) (pool : Nat) (r0 : Nat × State) (h0 : @State.allocRec s pool = some r0) :
    (r0.2).pending = s.pending := by
  unfold State.allocRec at h0; (try dsimp only [] at h0)
  repeat' split at h0
  all_goals first | (cases h0; done) | (cases h0; first | rfl | simp [*])

@[simp] theorem State.freeRec_pending (s : State) (r : Nat) :
    (@State.freeRec s r).pending = s.pending := by
  unfold State.freeRec; simp

@[simp] theorem State.dropRec_pending (s : State) (r : Nat) :
    (@State.dropRec s r).pending = s.pending := by
  unfold State.dropRec; simp

@[simp] theorem State.swing_pending (s : State) (wn : Nat) (d : Nat) (i : Nat) (e : Entry) :
    (@State.swing s wn d i e).pending = s.pending := by
  unfold State.swing; simp

@[simp] theorem State.clearRange_pending (s : State) (a : Nat) (n : Nat) :
    (@State.clearRange s a n).pending = s.pending := by
  unfold State.clearRange; simp

@[simp] theorem State.zeroRange_pending (s : State) (dev : Nat) (n : Nat) :
    (@State.zeroRange s dev n).pending = s.pending := by
  unfold State.zeroRange; simp

@[simp] theorem State.reclaimRec_pending (s : State) (r : Nat) :
    (@State.reclaimRec s r).pending = s.pending := by
  unfold State.reclaimRec; simp

@[simp] theorem State.giveBack_pending (s : State) (r : Nat) :
    (@State.giveBack s r).pending = s.pending := by
  unfold State.giveBack; simp

@[simp] theorem State.freeTaken_pending (s : State) (got : List (Nat × Nat × Nat)) : (State.freeTaken s got).pending = s.pending := by
  unfold State.freeTaken
  apply foldl_pending
  intro s x
  simp

@[simp] theorem State.fetchPeer_pending (s : State) (dev : Nat) (n : Nat) :
    ((@State.fetchPeer s dev n).2).pending = s.pending := by
  unfold State.fetchPeer; simp

@[simp] theorem State.beginPage_pending (s : State) (holder : Nat) (pieces : List (Nat × Nat × Nat)) :
    ((@State.beginPage s holder pieces).2).pending = s.pending := by
  unfold State.beginPage; simp

@[simp] theorem State.writePiece_pending (s : State) (cp : PageCopy) (x : Nat × Nat × Nat) :
    (@State.writePiece s cp x).1.pending = s.pending := by
  unfold State.writePiece; simp

@[simp] theorem State.writePage_pending (s : State) (cp : PageCopy) :
    ((@State.writePage s cp).1).pending = s.pending := by
  unfold State.writePage; simp

@[simp] theorem State.parkNext_pending (s : State) (wn : Nat) (todo : List (Nat × Nat)) (slots : Nat) (cause : Nat) (k : Option CmdRef) (fault : Nat) :
    ((@State.parkNext s wn todo slots cause k fault).2).pending = s.pending := by
  unfold State.parkNext; try dsimp only []
  repeat' (first | (simp [*]; done) | split | intro _)

@[simp] theorem State.startPark_pending (s : State) (wn : Nat) (cause : Nat) (k : Option CmdRef) :
    (@State.startPark s wn cause k).pending = s.pending := by
  unfold State.startPark; simp

@[simp] theorem State.newTry_pending (s : State) (who : Nat) :
    (@State.newTry s who).pending = s.pending := by
  unfold State.newTry; simp

@[simp] theorem State.preempt_pending (s : State) (pool : Nat) (prio : Nat) (requester : Nat) (who : Nat) :
    ((@State.preempt s pool prio requester who).1).pending = s.pending := by
  unfold State.preempt; try dsimp only []
  repeat' (first | (simp [*]; done) | split | intro _)

@[simp] theorem State.joinLine_pending (s : State) (t : Nat) :
    (@State.joinLine s t).pending = s.pending := by
  unfold State.joinLine; simp

@[simp] theorem State.leaveLine_pending (s : State) (t : Nat) :
    (@State.leaveLine s t).pending = s.pending := by
  unfold State.leaveLine; simp

@[simp] theorem State.alterPage_pending (s : State) (f : PageCopy → PageCopy) :
    (@State.alterPage s f).pending = s.pending := by
  unfold State.alterPage; try dsimp only []
  repeat' (first | (simp [*]; done) | split | intro _)

@[simp] theorem State.wheelAnswer_pending (s : State) (src : Nat) (status : Nat) (bs : List Byte) :
    (@State.wheelAnswer s src status bs).pending = s.pending := by
  unfold State.wheelAnswer; simp

@[simp] theorem State.wheelFail_pending (s : State) (fault : Nat) :
    (@State.wheelFail s fault).pending = s.pending := by
  unfold State.wheelFail; simp

@[simp] theorem State.startCow_pending (s : State) (wn : Nat) (d : Nat) (i : Nat) (rec : Nat) (holder : Nat) :
    (@State.startCow s wn d i rec holder).pending = s.pending := by
  unfold State.startCow; simp

@[simp] theorem State.cowStep_pending (n : Nat) (s : State) : (State.cowStep n s).pending = s.pending := by
  induction n generalizing s with
  | zero => rfl
  | succ n ih =>
    unfold State.cowStep
    dsimp only []
    repeat' (first | (simp [ih]; done) | (have h := State.allocRec_pending _ _ _ ‹_›; simp at h; simp [h]; done) | rfl | split)

@[simp] theorem State.wheelProceed_pending (s : State) :
    (@State.wheelProceed s).pending = s.pending := by
  unfold State.wheelProceed; try dsimp only []
  repeat' (first | (simp [*]; done) | split | intro _)

@[simp] theorem State.cachePut_pending (s : State) (t : Nat) (wn : Nat) (d : Nat) (i : Nat) (e : BitVec 128) :
    (@State.cachePut s t wn d i e).pending = s.pending := by
  unfold State.cachePut; simp

@[simp] theorem State.translate_pending (n : Nat) (s : State) (t id : Nat) (e : Option (BitVec 128)) :
    (State.translate n s t id e).pending = s.pending := by
  induction n generalizing s e with
  | zero => rfl
  | succ n ih =>
    unfold State.translate
    dsimp only []
    repeat' (first | (simp [ih]; done) | rfl | (simp; done) | split)

@[simp] theorem State.armEntry_pending (s : State) (h : Nat) (launch : Option CmdRef) :
    (@State.armEntry s h launch).pending = s.pending := by
  unfold State.armEntry; try dsimp only []
  repeat' (first | (simp [*]; done) | split | intro _)

@[simp] theorem execRelArm_pending (t : Tid) (w : IWord) (s : State) :
    (outState (@execRelArm t w s) s).pending = s.pending := by
  unfold execRelArm; simp

@[simp] theorem execRelSend_pending (t : Tid) (w : IWord) (s : State) :
    (outState (@execRelSend t w s) s).pending = s.pending := by
  unfold execRelSend; simp

@[simp] theorem execRelPost_pending (t : Tid) (w : IWord) (s : State) : (outState (execRelPost t w s) s).pending = s.pending := by
  unfold execRelPost
  rw [outState_next]
  refine State.issue_pending _ _ _ _ _ (fun _ => rfl) ?_
  intro s x
  dsimp only []
  split
  · rfl
  · split
    · rfl
    · split
      · rfl
      · simp only [Eff.st_retire, State.relayAdvance_pending]
        rw [foldl_pending]
        · simp
        · intro s y
          repeat' (first | rfl | (simp; done) | split)

@[simp] theorem State.alterOffer_pending (s : State) (h : Nat) (id : Nat) (f : Offer → Offer) :
    (@State.alterOffer s h id f).pending = s.pending := by
  unfold State.alterOffer; simp

@[simp] theorem State.poisonedOffer_pending (s : State) (h : Nat) (o : Offer) (b : Nat) :
    (@State.poisonedOffer s h o b).pending = s.pending := by
  unfold State.poisonedOffer; simp

@[simp] theorem State.reportOffer_pending (s : State) (h : Nat) (o : Offer) (b : Nat) :
    (@State.reportOffer s h o b).pending = s.pending := by
  unfold State.reportOffer; simp

@[simp] theorem State.lateCopies_pending (s : State) (h : Nat) (slot : Nat) (b0 : Nat) (n : Nat) :
    (@State.lateCopies s h slot b0 n).pending = s.pending := by
  unfold State.lateCopies; simp

@[simp] theorem State.localCopy_pending (s : State) (h : Nat) (o : Offer) (b : Nat) :
    (@State.localCopy s h o b).pending = s.pending := by
  unfold State.localCopy; simp

@[simp] theorem execRelayLocalAccept_pending (h : Fin 1024) (slot : Fin 1024) (block : Nat) (s : State) :
    (outState (@execRelayLocalAccept h slot block s) s).pending = s.pending := by
  unfold execRelayLocalAccept; try dsimp only []
  repeat' (first | (simp [*]; done) | split | intro _)

@[simp] theorem State.sendPartial_pending (s : State) (h : Nat) (b : Nat) :
    (@State.sendPartial s h b).pending = s.pending := by
  unfold State.sendPartial; simp

@[simp] theorem execRelayBlockSend_pending (h : Fin 1024) (block : Nat) (s : State) :
    (outState (@execRelayBlockSend h block s) s).pending = s.pending := by
  unfold execRelayBlockSend; try dsimp only []
  repeat' (first | (simp [*]; done) | split | intro _)

@[simp] theorem execRelayTimeout_pending (h : Fin 1024) (s : State) :
    (outState (@execRelayTimeout h s) s).pending = s.pending := by
  unfold execRelayTimeout; simp

@[simp] theorem execTwinGraceExpiry_pending (h : Fin 1024) (s : State) :
    (outState (@execTwinGraceExpiry h s) s).pending = s.pending := by
  unfold execTwinGraceExpiry; simp

@[simp] theorem State.writeRel_pending (s : State) (h : Nat) (i : Nat) (mask : Nat) (v : Nat) :
    (@State.writeRel s h i mask v).pending = s.pending := by
  unfold State.writeRel; simp

@[simp] theorem execRelayEntryWrite_pending (h : Fin 1024) (reg : Fin 10) (value : BitVec 64) (s : State) :
    (outState (@execRelayEntryWrite h reg value s) s).pending = s.pending := by
  unfold execRelayEntryWrite; simp

@[simp] theorem State.writeNorm_pending (s : State) (k : Nat) (i : Nat) (mask : Nat) (v : Nat) :
    (@State.writeNorm s k i mask v).pending = s.pending := by
  unfold State.writeNorm; simp

@[simp] theorem execNormSetWrite_pending (set : Fin 16) (reg : Fin 4) (value : BitVec 64) (s : State) :
    (outState (@execNormSetWrite set reg value s) s).pending = s.pending := by
  unfold execNormSetWrite; simp

@[simp] theorem execNoiseTailWrite_pending (tail : BitVec 20) (s : State) :
    (outState (@execNoiseTailWrite tail s) s).pending = s.pending := by
  unfold execNoiseTailWrite; simp

@[simp] theorem execNoiseRecordWrite_pending (set : Fin 16) (s : State) :
    (outState (@execNoiseRecordWrite set s) s).pending = s.pending := by
  unfold execNoiseRecordWrite; simp

@[simp] theorem State.dropStale_pending (s : State) (h : Nat) (d : RelHdr) :
    (@State.dropStale s h d).pending = s.pending := by
  unfold State.dropStale; simp

theorem State.relClassify_pending (s : State) (src : Nat) (d : RelHdr) (x : State) (h0 : State.relClassify s src d = .drop x) :
    x.pending = s.pending := by
  unfold State.relClassify at h0; (try dsimp only [] at h0)
  repeat' split at h0
  all_goals first | (cases h0; done) | (cases h0; first | rfl | simp)

@[simp] theorem State.takePartial_pending (s : State) (h : Nat) (b : Nat) (exp : Nat) (esc : Bool) (bs : List Byte) :
    (@State.takePartial s h b exp esc bs).pending = s.pending := by
  unfold State.takePartial; simp

@[simp] theorem State.takeBlock_pending (s : State) (h : Nat) (d : RelHdr) (i : Nat) (bs : List Byte) :
    (@State.takeBlock s h d i bs).pending = s.pending := by
  unfold State.takeBlock; try dsimp only []
  repeat' (first | (simp [*]; done) | split | intro _)

@[simp] theorem State.takeBatch_pending (s : State) (h : Nat) (vc : Nat) (src : Nat) (d : RelHdr) (bs : List Byte) :
    (@State.takeBatch s h vc src d bs).pending = s.pending := by
  unfold State.takeBatch; simp

theorem State.relayPacket_pending (s : State) (rf : RecvFlow) (vc src : Nat) (body : List Byte) (r0 : RecvFlow × State)
    (h0 : State.relayPacket s rf vc src body = some r0) : r0.2.pending = s.pending := by
  have hc : ∀ d x, s.relClassify src d = .drop x → x.pending = s.pending := fun d x h => State.relClassify_pending _ _ _ _ h
  unfold State.relayPacket at h0
  dsimp only [] at h0
  split at h0
  · split at h0
    · cases h0
    · cases h0; exact hc _ _ ‹_›
    · cases h0; split <;> simp
  · split at h0
    · cases h0; rfl
    · split at h0
      · cases h0; rfl
      · split at h0 <;> (cases h0; simp)

@[simp] theorem State.streamFault_pending (s : State) (i : Nat) (code : Nat) :
    (@State.streamFault s i code).pending = s.pending := by
  unfold State.streamFault; simp

@[simp] theorem State.jWrite_pending (s : State) (i : Nat) (kind : Nat) (seq : Nat) (opc : Nat) (crc : Nat) :
    (@State.jWrite s i kind seq opc crc).pending = s.pending := by
  unfold State.jWrite; simp

@[simp] theorem State.writeStreamCtl_pending (s : State) (i : Nat) (mask : Nat) (v : Nat) :
    (@State.writeStreamCtl s i mask v).pending = s.pending := by
  unfold State.writeStreamCtl; simp

@[simp] theorem execStreamEnable_pending (st : Fin 4096) (s : State) :
    (outState (@execStreamEnable st s) s).pending = s.pending := by
  unfold execStreamEnable; simp

@[simp] theorem execStreamDisable_pending (st : Fin 4096) (s : State) :
    (outState (@execStreamDisable st s) s).pending = s.pending := by
  unfold execStreamDisable; simp

@[simp] theorem execStreamStop_pending (st : Fin 4096) (s : State) :
    (outState (@execStreamStop st s) s).pending = s.pending := by
  unfold execStreamStop; simp

@[simp] theorem execStreamResume_pending (st : Fin 4096) (s : State) :
    (outState (@execStreamResume st s) s).pending = s.pending := by
  unfold execStreamResume; simp

@[simp] theorem State.learnTail_pending (s : State) (i : Nat) (v : BitVec 32) :
    (@State.learnTail s i v).pending = s.pending := by
  unfold State.learnTail; simp

@[simp] theorem execTailLineInvalidate_pending (st : Fin 4096) (tail : BitVec 32) (s : State) :
    (outState (@execTailLineInvalidate st tail s) s).pending = s.pending := by
  unfold execTailLineInvalidate; simp

@[simp] theorem execDoorbell_pending (st : Fin 4096) (tail : BitVec 32) (s : State) :
    (outState (@execDoorbell st tail s) s).pending = s.pending := by
  unfold execDoorbell; simp

@[simp] theorem State.screen_pending (s : State) (k : CmdRef) (opc : Nat) :
    (@State.screen s k opc).pending = s.pending := by
  unfold State.screen; simp

@[simp] theorem State.refetch_pending (s : State) (i : Nat) (n : BitVec 32) (entry : BitVec 1024) :
    (@State.refetch s i n entry).pending = s.pending := by
  unfold State.refetch; try dsimp only []
  repeat' (first | (simp [*]; done) | split | intro _)

@[simp] theorem State.haltStream_pending (s : State) (i : Nat) :
    (@State.haltStream s i).pending = s.pending := by
  unfold State.haltStream; simp

@[simp] theorem State.fetchNew_pending (s : State) (i : Nat) (entry : BitVec 1024) :
    (@State.fetchNew s i entry).pending = s.pending := by
  unfold State.fetchNew; simp

@[simp] theorem State.replayEntries_pending (s : State) (i : Nat) (y0 : List Nat) :
    (@State.replayEntries s i y0).pending = s.pending := by
  induction y0 generalizing s with
  | nil => rfl
  | cons a l ih =>
    unfold State.replayEntries
    try dsimp only []
    repeat' (first | (simp [ih]; done) | rfl | split)

@[simp] theorem State.replayEntry_pending (s : State) (i : Nat) :
    (@State.replayEntry s i).pending = s.pending := by
  unfold State.replayEntry; try dsimp only []
  repeat' (first | (simp [*]; done) | split | intro _)

@[simp] theorem execEntryFetch_pending (st : Fin 4096) (entry : BitVec 1024) (s : State) :
    (outState (@execEntryFetch st entry s) s).pending = s.pending := by
  unfold execEntryFetch; try dsimp only []
  repeat' (first | (simp [*]; done) | split | intro _)

@[simp] theorem State.acceptEntry_pending (s : State) (i : Nat) (k : CmdRef) (opc : Nat) (c : Cmd) (isFill : Bool) (idle : Bool) :
    (@State.acceptEntry s i k opc c isFill idle).pending = s.pending := by
  unfold State.acceptEntry; simp

@[simp] theorem execCommandAccept_pending (st : Fin 4096) (s : State) :
    (outState (@execCommandAccept st s) s).pending = s.pending := by
  unfold execCommandAccept; try dsimp only []
  repeat' (first | (simp [*]; done) | split | intro _)

@[simp] theorem execJtailWrite_pending (tail : BitVec 32) (s : State) :
    (outState (@execJtailWrite tail s) s).pending = s.pending := by
  unfold execJtailWrite; simp

@[simp] theorem execCplHeadWrite_pending (st : Fin 4096) (head : BitVec 32) (s : State) :
    (outState (@execCplHeadWrite st head s) s).pending = s.pending := by
  unfold execCplHeadWrite; simp

@[simp] theorem State.writeRecords_pending (s : State) (i : Nat) (l : List (Nat × Cmd)) :
    (s.writeRecords i l).1.pending = s.pending := by
  induction l generalizing s with
  | nil => rfl
  | cons a l ih =>
    obtain ⟨key, c⟩ := a
    unfold State.writeRecords
    dsimp only []
    repeat' (first | (simp [ih]; done) | rfl | split)

@[simp] theorem execCommitPoint_pending (st : Fin 4096) (s : State) :
    (outState (@execCommitPoint st s) s).pending = s.pending := by
  unfold execCommitPoint; try dsimp only []
  repeat' (first | (simp [*]; done) | split | intro _)

@[simp] theorem State.interruptStream_pending (s : State) (i : Nat) :
    (@State.interruptStream s i).pending = s.pending := by
  unfold State.interruptStream; simp

@[simp] theorem State.interruptStreams_pending (s : State) :
    (@State.interruptStreams s).pending = s.pending := by
  unfold State.interruptStreams; simp

@[simp] theorem State.beginReplay_pending (s : State) (i : Nat) :
    (@State.beginReplay s i).pending = s.pending := by
  unfold State.beginReplay; try dsimp only []
  repeat' (first | (simp [*]; done) | split | intro _)

@[simp] theorem State.beginReplays_pending (s : State) :
    (@State.beginReplays s).pending = s.pending := by
  unfold State.beginReplays; simp

@[simp] theorem execNopCommand_pending (k : CmdRef) (s : State) :
    (outState (@execNopCommand k s) s).pending = s.pending := by
  unfold execNopCommand; try dsimp only []
  repeat' (first | (simp [*]; done) | split | intro _)

@[simp] theorem execRelaySet_pending (k : CmdRef) (s : State) :
    (outState (@execRelaySet k s) s).pending = s.pending := by
  unfold execRelaySet; try dsimp only []
  repeat' (first | (simp [*]; done) | split | intro _)

@[simp] theorem State.loadPiste_pending (s : State) (i : Nat) (image : List Byte) :
    (@State.loadPiste s i image).pending = s.pending := by
  unfold State.loadPiste; simp

@[simp] theorem State.refusePiste_pending (s : State) (k : CmdRef) (f : Nat) :
    (@State.refusePiste s k f).pending = s.pending := by
  unfold State.refusePiste; simp

@[simp] theorem execPisteLoad_pending (k : CmdRef) (s : State) :
    (outState (@execPisteLoad k s) s).pending = s.pending := by
  unfold execPisteLoad; try dsimp only []
  repeat' (first | (simp [*]; done) | split | intro _)

@[simp] theorem State.answerPiste_pending (s : State) (k : CmdRef) (status : Nat) (bs : List Byte) :
    (@State.answerPiste s k status bs).pending = s.pending := by
  unfold State.answerPiste; try dsimp only []
  repeat' (first | (simp [*]; done) | split | intro _)

@[simp] theorem State.ingFinish_pending (s : State) (g : Ingest) :
    (@State.ingFinish s g).pending = s.pending := by
  unfold State.ingFinish; try dsimp only []
  repeat' (first | (simp [*]; done) | split | intro _)

@[simp] theorem State.ingLog_pending (s : State) :
    (@State.ingLog s).pending = s.pending := by
  unfold State.ingLog; try dsimp only []
  repeat' (first | (simp [*]; done) | split | intro _)

@[simp] theorem execIngest_pending (k : CmdRef) (s : State) :
    (outState (@execIngest k s) s).pending = s.pending := by
  unfold execIngest; try dsimp only []
  repeat' (first | (simp [*]; done) | split | intro _)

@[simp] theorem execIngestLogWrite_pending (s : State) :
    (outState (@execIngestLogWrite s) s).pending = s.pending := by
  unfold execIngestLogWrite; simp

@[simp] theorem execIngLogTailWrite_pending (tail : BitVec 20) (s : State) :
    (outState (@execIngLogTailWrite tail s) s).pending = s.pending := by
  unfold execIngLogTailWrite; simp

@[simp] theorem State.showPipe_pending (s : State) (i : Nat) :
    (@State.showPipe s i).pending = s.pending := by
  unfold State.showPipe; simp

@[simp] theorem State.writePipesEn_pending (s : State) (v : Nat) :
    (@State.writePipesEn s v).pending = s.pending := by
  unfold State.writePipesEn; simp

@[simp] theorem execIngPipesEnWrite_pending (en : BitVec 8) (s : State) :
    (outState (@execIngPipesEnWrite en s) s).pending = s.pending := by
  unfold execIngPipesEnWrite; simp

@[simp] theorem State.readEntry_pending (s : State) (b : IngestBody) (slot : Nat) :
    ((@State.readEntry s b slot).2).pending = s.pending := by
  unfold State.readEntry; simp

@[simp] theorem execSampleDispatch_pending (s : State) :
    (outState (@execSampleDispatch s) s).pending = s.pending := by
  unfold execSampleDispatch; try dsimp only []
  repeat' (first | (simp [*]; done) | split | intro _)

@[simp] theorem execSampleDone_pending (pipe : Fin 8) (s : State) :
    (outState (@execSampleDone pipe s) s).pending = s.pending := by
  unfold execSampleDone; try dsimp only []
  repeat' (first | (simp [*]; done) | split | intro _)

@[simp] theorem State.setLap_pending (s : State) (i : Nat) (x : LapVc) :
    (@State.setLap s i x).pending = s.pending := by
  unfold State.setLap; simp



@[simp] theorem State.geoCompare_pending (s : State) (i : Nat) (g : Nat × Nat) :
    (@State.geoCompare s i g).pending = s.pending := by
  unfold State.geoCompare; simp

@[simp] theorem State.geoArrive_pending (s : State) (i : Nat) (g : Nat × Nat) :
    (@State.geoArrive s i g).pending = s.pending := by
  unfold State.geoArrive; simp

@[simp] theorem State.lapArm_pending (s : State) (i : Nat) :
    (@State.lapArm s i).pending = s.pending := by
  unfold State.lapArm; try dsimp only []
  repeat' (first | (simp [*]; done) | split | intro _)

@[simp] theorem State.lapDisarm_pending (s : State) (i : Nat) :
    (@State.lapDisarm s i).pending = s.pending := by
  unfold State.lapDisarm; simp

@[simp] theorem State.alterPost_pending (s : State) (i : Nat) (id : Nat) (f : Posting → Posting) :
    (@State.alterPost s i id f).pending = s.pending := by
  unfold State.alterPost; simp

theorem State.lapWindow_pending (s : State) (i : Nat) (p : Posting) (r0 : Nat × Nat × State) (h0 : s.lapWindow i p = some r0) :
    r0.2.2.pending = s.pending := by
  unfold State.lapWindow at h0
  split at h0
  · cases h0
  · split at h0
    · cases h0
    · simp only [Option.map_eq_some_iff] at h0
      obtain ⟨a, ha, rfl⟩ := h0
      exact State.windowFor_pending _ _ _ _ ha

@[simp] theorem State.landGliding_pending (s : State) (core : Nat) (w : Nat) (a : Nat) (bs : List Byte) (bar : Nat) (ep : Nat) :
    ((@State.landGliding s core w a bs bar ep).1).pending = s.pending := by
  unfold State.landGliding; simp

@[simp] theorem State.countPieces_pending (s : State) (ps : List Piece) (f : Piece → Int × Int) (late : Nat) :
    ((@State.countPieces s ps f late).1).pending = s.pending := by
  unfold State.countPieces; simp

@[simp] theorem State.lapCount_pending (s : State) (i : Nat) (p : Posting) (off : Nat) (win : Option (Nat × Nat)) :
    (@State.lapCount s i p off win).pending = s.pending := by
  unfold State.lapCount; try dsimp only []
  repeat' (first | (simp [*]; done) | split | intro _)

@[simp] theorem State.lapAccept_pending (s : State) (i : Nat) (p : Posting) (off : Nat) (bs : List Byte) :
    (@State.lapAccept s i p off bs).pending = s.pending := by
  unfold State.lapAccept; try dsimp only []
  repeat' (first | (simp [*]; done) | split | intro _)

@[simp] theorem State.lapGiveBack_pending (s : State) (i : Nat) (p : Posting) :
    (@State.lapGiveBack s i p).pending = s.pending := by
  unfold State.lapGiveBack; try dsimp only []
  repeat' (first | (simp [*]; done) | split | intro _)

@[simp] theorem State.lapReplaced_pending (s : State) (i count : Nat) : (s.lapReplaced i count).pending = s.pending := by
  unfold State.lapReplaced
  split
  · rfl
  · rw [foldl_pending]
    intro s q
    split <;> simp

@[simp] theorem State.noPost_pending (s : State) (i : Nat) :
    (@State.noPost s i).pending = s.pending := by
  unfold State.noPost; simp

@[simp] theorem State.alterSend_pending (s : State) (i : Nat) (id : Nat) (f : LapSend → LapSend) :
    (@State.alterSend s i id f).pending = s.pending := by
  unfold State.alterSend; simp

@[simp] theorem State.lapSendEnd_pending (s : State) (i : Nat) (q : LapSend) (fault : Nat) :
    (@State.lapSendEnd s i q fault).pending = s.pending := by
  unfold State.lapSendEnd; try dsimp only []
  repeat' (first | (simp [*]; done) | split | intro _)

@[simp] theorem State.lapSent_pending (s : State) (i : Nat) (id : Nat) :
    (@State.lapSent s i id).pending = s.pending := by
  unfold State.lapSent; try dsimp only []
  repeat' (first | (simp [*]; done) | split | intro _)

@[simp] theorem State.lapSliceFailed_pending (s : State) (i : Nat) (id : Nat) (fault : Nat) :
    (@State.lapSliceFailed s i id fault).pending = s.pending := by
  unfold State.lapSliceFailed; try dsimp only []
  repeat' (first | (simp [*]; done) | split | intro _)

@[simp] theorem State.lapGiveUp_pending (s : State) (i : Nat) (fault : Nat) :
    (@State.lapGiveUp s i fault).pending = s.pending := by
  unfold State.lapGiveUp
  dsimp only []
  split
  · rfl
  · rw [State.setLap_pending, foldl_pending]
    intro s k
    split <;> simp

@[simp] theorem State.lapAnswer_pending (s : State) (i : Nat) (id : Nat) (src : Nat) (status : Nat) (bs : List Byte) :
    (@State.lapAnswer s i id src status bs).pending = s.pending := by
  unfold State.lapAnswer; simp

@[simp] theorem State.lapEnqueue_pending (s : State) (i : Nat) (q : LapSend) :
    (@State.lapEnqueue s i q).pending = s.pending := by
  unfold State.lapEnqueue; simp

@[simp] theorem State.writeJobCtl_pending (s : State) (mask : Nat) (v : Nat) :
    (@State.writeJobCtl s mask v).pending = s.pending := by
  unfold State.writeJobCtl; simp

@[simp] theorem execJobEnable_pending (s : State) :
    (outState (@execJobEnable s) s).pending = s.pending := by
  unfold execJobEnable; simp

@[simp] theorem execJobDisable_pending (s : State) :
    (outState (@execJobDisable s) s).pending = s.pending := by
  unfold execJobDisable; simp

@[simp] theorem State.beginStep_pending (s : State) (verify : Bool) (step : Nat) (mapGen : Nat) :
    (@State.beginStep s verify step mapGen).pending = s.pending := by
  unfold State.beginStep; simp

@[simp] theorem execStepBegin_pending (verify : Bool) (step : BitVec 32) (mapGen : BitVec 8) (s : State) :
    (outState (@execStepBegin verify step mapGen s) s).pending = s.pending := by
  unfold execStepBegin; simp

@[simp] theorem State.writeStepRecord_pending (s : State) :
    (@State.writeStepRecord s).pending = s.pending := by
  unfold State.writeStepRecord; try dsimp only []
  repeat' (first | (simp [*]; done) | split | intro _)

@[simp] theorem State.endStep_pending (s : State) :
    (@State.endStep s).pending = s.pending := by
  unfold State.endStep; simp

@[simp] theorem execStepEnd_pending (s : State) :
    (outState (@execStepEnd s) s).pending = s.pending := by
  unfold execStepEnd; simp

@[simp] theorem State.abortStep_pending (s : State) :
    (@State.abortStep s).pending = s.pending := by
  unfold State.abortStep; simp

@[simp] theorem execStepAbort_pending (s : State) :
    (outState (@execStepAbort s) s).pending = s.pending := by
  unfold execStepAbort; simp

@[simp] theorem State.writeStepCmd_pending (s : State) (v : Nat) :
    (@State.writeStepCmd s v).pending = s.pending := by
  unfold State.writeStepCmd; try dsimp only []
  repeat' (first | (simp [*]; done) | split | intro _)

@[simp] theorem execStepRecordWrite_pending (s : State) :
    (outState (@execStepRecordWrite s) s).pending = s.pending := by
  unfold execStepRecordWrite; simp

@[simp] theorem execSrecTailWrite_pending (tail : BitVec 20) (s : State) :
    (outState (@execSrecTailWrite tail s) s).pending = s.pending := by
  unfold execSrecTailWrite; simp

@[simp] theorem State.writeLoss_pending (s : State) (mask : Nat) (v : Nat) :
    (@State.writeLoss s mask v).pending = s.pending := by
  unfold State.writeLoss; simp

@[simp] theorem execJobLossWrite_pending (t : Tid) (loss : BitVec 64) (s : State) :
    (outState (@execJobLossWrite t loss s) s).pending = s.pending := by
  unfold execJobLossWrite; simp

@[simp] theorem State.writePlan_pending (s : State) (plan : Nat) :
    (@State.writePlan s plan).pending = s.pending := by
  unfold State.writePlan; simp

@[simp] theorem execFillPlanWrite_pending (plan : BitVec 16) (s : State) :
    (outState (@execFillPlanWrite plan s) s).pending = s.pending := by
  unfold execFillPlanWrite; simp

@[simp] theorem execKvGet_pending (t : Tid) (w : IWord) (s : State) : (outState (execKvGet t w s) s).pending = s.pending := by
  unfold execKvGet
  rw [outState_next]
  refine State.issue_pending _ _ _ _ _ (fun _ => rfl) ?_
  intro s x
  dsimp only []
  repeat' (first | rfl | (simp; done) | split)

@[simp] theorem State.walkFail_pending (s : State) (t : Nat) (cid : Nat) :
    (@State.walkFail s t cid).pending = s.pending := by
  unfold State.walkFail; simp

@[simp] theorem State.walkEnd_pending (s : State) (t : Nat) (cid : Nat) (q : KvRun) :
    (@State.walkEnd s t cid q).pending = s.pending := by
  unfold State.walkEnd; simp

@[simp] theorem execPageWalkDone_pending (tile : Fin 36) (s : State) :
    (outState (@execPageWalkDone tile s) s).pending = s.pending := by
  unfold execPageWalkDone; try dsimp only []
  repeat' (first | (simp [*]; done) | split | intro _)

@[simp] theorem State.putPages_pending (s : State) (t wn d : Nat) (l : List Nat) : ((State.putPages s t wn d l).st).pending = s.pending := by
  induction l generalizing s with
  | nil => rfl
  | cons i rest ih =>
    unfold State.putPages
    dsimp only []
    repeat' (first | (simp [ih]; done) | (have h := State.allocRec_pending _ _ _ ‹_›; simp at h; simp [h, ih]; done) | split)

@[simp] theorem State.putEntry_pending (s : State) (t : Nat) (wn : Nat) (d : Nat) (i : Nat) :
    ((@State.putEntry s t wn d i).2).pending = s.pending := by
  unfold State.putEntry; try dsimp only []
  repeat' (first | (simp [*]; done) | split | intro _)

@[simp] theorem State.putSegs_pending (s : State) (t : Nat) (wn : Nat) (d : Nat) (dsc : Desc) (token : Nat) (n : Nat) (is : List Nat) :
    ((@State.putSegs s t wn d dsc token n is).2).pending = s.pending := by
  unfold State.putSegs; simp

@[simp] theorem execKvPut_pending (t : Tid) (w : IWord) (s : State) : (outState (execKvPut t w s) s).pending = s.pending := by
  unfold execKvPut
  rw [outState_next]
  refine State.issue_pending _ _ _ _ _ (fun _ => rfl) ?_
  intro s x
  dsimp only []
  have hu : (if s.inLine t.code then s else s.newTry (t.code + 1)).pending = s.pending := by split <;> simp
  generalize (if s.inLine t.code then s else s.newTry (t.code + 1)) = u at hu ⊢
  split
  · rfl
  split
  · simp
  split
  · rfl
  split
  · exact hu
  split
  · simp [hu]
  · split
    all_goals
      rename_i s' h
      have hp := congrArg (fun p => (PutPrep.st p).pending) h
      simp [hu] at hp
      simp [← hp]

@[simp] theorem State.wheelCmd_pending (s : State) (k : CmdRef) (opc : Nat) (used : List (Nat × Nat)) (run : Cmd → State → State) (hrun : ∀ y0 y1, (run y0 y1).pending = y1.pending) :
    (@State.wheelCmd s k opc used run).pending = s.pending := by
  unfold State.wheelCmd; try dsimp only []
  repeat' (first | (simp [*]; done) | split | intro _)

@[simp] theorem execCreate_pending (k : CmdRef) (s : State) :
    (outState (@execCreate k s) s).pending = s.pending := by
  unfold execCreate; simp

@[simp] theorem execShare_pending (k : CmdRef) (s : State) :
    (outState (@execShare k s) s).pending = s.pending := by
  unfold execShare; simp

@[simp] theorem execWheelCopy_pending (k : CmdRef) (s : State) :
    (outState (@execWheelCopy k s) s).pending = s.pending := by
  unfold execWheelCopy; simp

@[simp] theorem execFree_pending (k : CmdRef) (s : State) :
    (outState (@execFree k s) s).pending = s.pending := by
  unfold execFree; simp

@[simp] theorem execPark_pending (k : CmdRef) (s : State) :
    (outState (@execPark k s) s).pending = s.pending := by
  unfold execPark; simp

@[simp] theorem State.resumeFail_pending (s : State) (wn : Nat) (got : List (Nat × Nat × Nat)) (k : CmdRef) (rest : List WheelOp) (fault : Nat) :
    (@State.resumeFail s wn got k rest fault).pending = s.pending := by
  unfold State.resumeFail; simp

@[simp] theorem State.resumeNext_pending (s : State) (wn : Nat) (todo : List (Nat × Nat)) (got : List (Nat × Nat × Nat)) (k : CmdRef)
    (rest : List WheelOp) : (State.resumeNext s wn todo got k rest).pending = s.pending := by
  unfold State.resumeNext
  dsimp only []
  split
  · simp
  · split
    · simp
    · have h := State.allocRec_pending _ _ _ ‹_›
      simp at h
      simp [h]

@[simp] theorem execResume_pending (k : CmdRef) (s : State) :
    (outState (@execResume k s) s).pending = s.pending := by
  unfold execResume; simp

@[simp] theorem execCaveSlotCopyDone_pending (s : State) :
    (outState (@execCaveSlotCopyDone s) s).pending = s.pending := by
  unfold execCaveSlotCopyDone; try dsimp only []
  repeat' (first | (simp [*]; done) | split | intro _)

@[simp] theorem State.cowFail_pending (s : State) (rec0 : Nat) (fault : Nat) (cp : PageCopy) (rest : List WheelOp) :
    (@State.cowFail s rec0 fault cp rest).pending = s.pending := by
  unfold State.cowFail; try dsimp only []
  repeat' (first | (simp [*]; done) | split | intro _)

@[simp] theorem execCowCopyDone_pending (s : State) :
    (outState (@execCowCopyDone s) s).pending = s.pending := by
  unfold execCowCopyDone; try dsimp only []
  repeat' (first | (simp [*]; done) | split | intro _)

@[simp] theorem State.parkRecord_pending (s : State) (wn : Nat) (cause : Nat) (fault : Nat) (slots : Nat) :
    (@State.parkRecord s wn cause fault slots).pending = s.pending := by
  unfold State.parkRecord; simp

@[simp] theorem execParkFinish_pending (s : State) :
    (outState (@execParkFinish s) s).pending = s.pending := by
  unfold execParkFinish; try dsimp only []
  repeat' (first | (simp [*]; done) | split | intro _)

@[simp] theorem execPoolLowPreempt_pending (pool : Fin 16) (s : State) :
    (outState (@execPoolLowPreempt pool s) s).pending = s.pending := by
  unfold execPoolLowPreempt; try dsimp only []
  repeat' (first | (simp [*]; done) | split | intro _)

@[simp] theorem execFrameReclaim_pending (rec : BitVec 24) (s : State) :
    (outState (@execFrameReclaim rec s) s).pending = s.pending := by
  unfold execFrameReclaim; simp

@[simp] theorem State.kvEnable_pending (s : State) :
    (@State.kvEnable s).pending = s.pending := by
  unfold State.kvEnable; simp

@[simp] theorem execKvEnable_pending (s : State) :
    (outState (@execKvEnable s) s).pending = s.pending := by
  unfold execKvEnable; simp

@[simp] theorem execKvCheckDone_pending (s : State) :
    (outState (@execKvCheckDone s) s).pending = s.pending := by
  unfold execKvCheckDone; try dsimp only []
  repeat' (first | (simp [*]; done) | split | intro _)

@[simp] theorem State.kvDisable_pending (s : State) :
    (@State.kvDisable s).pending = s.pending := by
  unfold State.kvDisable; simp

@[simp] theorem execKvDisable_pending (s : State) :
    (outState (@execKvDisable s) s).pending = s.pending := by
  unfold execKvDisable; simp

@[simp] theorem execKvEvtTailWrite_pending (tail : BitVec 20) (s : State) :
    (outState (@execKvEvtTailWrite tail s) s).pending = s.pending := by
  unfold execKvEvtTailWrite; simp

@[simp] theorem State.addDefect_pending (s : State) (e : Nat) :
    (@State.addDefect s e).pending = s.pending := by
  unfold State.addDefect; simp

@[simp] theorem State.clearTier_pending (s : State) (k : Tier) :
    (@State.clearTier s k).pending = s.pending := by
  unfold State.clearTier; simp

@[simp] theorem State.setMap_pending (s : State) (k : Tier) (v : Nat) :
    (@State.setMap s k v).pending = s.pending := by
  unfold State.setMap; simp

@[simp] theorem State.mapTier_pending (s : State) (k : Tier) :
    (@State.mapTier s k).pending = s.pending := by
  unfold State.mapTier; simp

@[simp] theorem State.writeHashKey_pending (s : State) (k : Tier) (v : Nat) :
    (@State.writeHashKey s k v).pending = s.pending := by
  unfold State.writeHashKey; simp

@[simp] theorem State.showSpares_pending (s : State) (u : Nat) :
    (@State.showSpares s u).pending = s.pending := by
  unfold State.showSpares; simp

@[simp] theorem State.retireDevice_pending (s : State) (u : Nat) (dev : Nat) (pass : Option Nat) :
    (@State.retireDevice s u dev pass).pending = s.pending := by
  unfold State.retireDevice; simp

@[simp] theorem State.retireColumn_pending (s : State) (u : Nat) (index : Nat) :
    (@State.retireColumn s u index).pending = s.pending := by
  unfold State.retireColumn; simp

@[simp] theorem State.foundBad_pending (s : State) (src : Nat) (e : Nat) :
    (@State.foundBad s src e).pending = s.pending := by
  unfold State.foundBad; try dsimp only []
  repeat' (first | (simp [*]; done) | split | intro _)

@[simp] theorem State.countCe_pending (s : State) (x1 : LineHome) :
    (@State.countCe s x1).pending = s.pending := by
  unfold State.countCe; try dsimp only []
  repeat' (first | (simp [*]; done) | split | intro _)

@[simp] theorem State.countUe_pending (s : State) (x1 : LineHome) :
    (@State.countUe s x1).pending = s.pending := by
  unfold State.countUe; try dsimp only []
  repeat' (first | (simp [*]; done) | split | intro _)

@[simp] theorem State.markPermanent_pending (s : State) (h : LineHome) (index : Nat) (hour : Nat) :
    (@State.markPermanent s h index hour).pending = s.pending := by
  unfold State.markPermanent; try dsimp only []
  repeat' (first | (simp [*]; done) | split | intro _)

@[simp] theorem State.correctedUnit_pending (s : State) (h : LineHome) (again : Bool) (hour : Nat) (index : Nat) :
    (@State.correctedUnit s h again hour index).pending = s.pending := by
  unfold State.correctedUnit; simp

@[simp] theorem State.corrected_pending (s : State) (l : Nat) (h : LineHome) (errs : CodeErrors) (hour : Nat) :
    (@State.corrected s l h errs hour).pending = s.pending := by
  unfold State.corrected; simp

@[simp] theorem State.measure_pending (s : State) (kind : Nat) (unit : Nat) (c : UnitCond) (act : Nat) :
    (@State.measure s kind unit c act).pending = s.pending := by
  unfold State.measure; simp

@[simp] theorem State.heavySetting_pending (s : State) (kind : Nat) (unit : Nat) :
    (@State.heavySetting s kind unit).pending = s.pending := by
  unfold State.heavySetting; simp

@[simp] theorem State.useSetting_pending (s : State) (kind : Nat) (unit : Nat) (c : UnitCond) :
    (@State.useSetting s kind unit c).pending = s.pending := by
  unfold State.useSetting; simp

@[simp] theorem State.trainFar_pending (s : State) (u : Nat) (ok : Bool) (c : UnitCond) :
    (@State.trainFar s u ok c).pending = s.pending := by
  unfold State.trainFar; try dsimp only []
  repeat' (first | (simp [*]; done) | split | intro _)

@[simp] theorem State.remapListed_pending (s : State) (u : Nat) :
    (@State.remapListed s u).pending = s.pending := by
  unfold State.remapListed; simp

@[simp] theorem State.showStacks_pending (s : State) :
    (@State.showStacks s).pending = s.pending := by
  unfold State.showStacks; simp

@[simp] theorem State.trainNear_pending (s : State) (u : Nat) (first : Bool) (ok : Bool) (c : UnitCond) :
    (@State.trainNear s u first ok c).pending = s.pending := by
  unfold State.trainNear; simp

@[simp] theorem State.setChk_pending (s : State) (k : CmdRef) (x : Chk) :
    (@State.setChk s k x).pending = s.pending := by
  unfold State.setChk; simp

@[simp] theorem State.storeHeader_pending (s : State) (x : Chk) (valid : Bool) (tag : Nat) (org : Origin) :
    (@State.storeHeader s x valid tag org).pending = s.pending := by
  unfold State.storeHeader; simp

@[simp] theorem State.voidHeader_pending (s : State) (x : Chk) :
    (@State.voidHeader s x).pending = s.pending := by
  unfold State.voidHeader; simp

@[simp] theorem State.endChk_pending (s : State) (k : CmdRef) (x : Chk) (fault : Nat) :
    (@State.endChk s k x fault).pending = s.pending := by
  unfold State.endChk; simp

@[simp] theorem State.sendHeader_pending (s : State) (k : CmdRef) (x : Chk) (valid : Bool) :
    (@State.sendHeader s k x valid).pending = s.pending := by
  unfold State.sendHeader; simp

@[simp] theorem State.saveNext_pending (s : State) (k : CmdRef) (x : Chk) :
    (@State.saveNext s k x).pending = s.pending := by
  unfold State.saveNext; try dsimp only []
  repeat' (first | (simp [*]; done) | split | intro _)

@[simp] theorem State.ackChk_pending (s : State) (k : CmdRef) :
    (@State.ackChk s k).pending = s.pending := by
  unfold State.ackChk; try dsimp only []
  repeat' (first | (simp [*]; done) | split | intro _)

@[simp] theorem State.failChk_pending (s : State) (k : CmdRef) (fault : Nat) :
    (@State.failChk s k fault).pending = s.pending := by
  unfold State.failChk; try dsimp only []
  repeat' (first | (simp [*]; done) | split | intro _)

@[simp] theorem State.fillNext_pending (s : State) (k : CmdRef) (x : Chk) :
    (@State.fillNext s k x).pending = s.pending := by
  unfold State.fillNext; try dsimp only []
  repeat' (first | (simp [*]; done) | split | intro _)

@[simp] theorem State.landChk_pending (s : State) (k : CmdRef) (x : Chk) (bs : List Byte) (landed : Nat) :
    (@State.landChk s k x bs landed).pending = s.pending := by
  unfold State.landChk; try dsimp only []
  repeat' (first | (simp [*]; done) | split | intro _)

@[simp] theorem State.answerChk_pending (s : State) (k : CmdRef) (status : Nat) (bs : List Byte) (landed : Nat) :
    (@State.answerChk s k status bs landed).pending = s.pending := by
  unfold State.answerChk; try dsimp only []
  repeat' (first | (simp [*]; done) | split | intro _)

@[simp] theorem State.resumeChk_pending (s : State) (k : CmdRef) (x : Chk) :
    (@State.resumeChk s k x).pending = s.pending := by
  unfold State.resumeChk; try dsimp only []
  repeat' (first | (simp [*]; done) | split | intro _)

@[simp] theorem State.startChk_pending (s : State) (k : CmdRef) (fill : Bool) :
    (@State.startChk s k fill).pending = s.pending := by
  unfold State.startChk; try dsimp only []
  repeat' (first | (simp [*]; done) | split | intro _)

@[simp] theorem State.runChk_pending (s : State) (k : CmdRef) (fill : Bool) :
    (@State.runChk s k fill).pending = s.pending := by
  unfold State.runChk; try dsimp only []
  repeat' (first | (simp [*]; done) | split | intro _)

@[simp] theorem execCheckpointSave_pending (k : CmdRef) (s : State) :
    (outState (@execCheckpointSave k s) s).pending = s.pending := by
  unfold execCheckpointSave; simp

@[simp] theorem execCheckpointFill_pending (k : CmdRef) (s : State) :
    (outState (@execCheckpointFill k s) s).pending = s.pending := by
  unfold execCheckpointFill; simp

end Sys2Proof.Machine
end

