-- ==== Sys2Proof/Laws/Queue3.lean ====
section
/-! SUPPORT. No operation of the machine changes the queue of commands (part 3): Control, VecOps, Sync, LoadOps, Ports, FwOps, PowerOps, Power, Carrier, Copies, Resync, Spdm. -/

namespace Sys2Proof.Machine

set_option maxRecDepth 4000

@[simp] theorem jumpTo_pending (s : State) (target : Int) :
    (@jumpTo s target).st.pending = s.pending := by
  unfold jumpTo; simp

@[simp] theorem execNop_pending (t : Tid) (w : IWord) (s : State) :
    (outState (@execNop t w s) s).pending = s.pending := by
  unfold execNop; simp

@[simp] theorem execBr_pending (t : Tid) (w : IWord) (s : State) :
    (outState (@execBr t w s) s).pending = s.pending := by
  unfold execBr; simp

@[simp] theorem testTag_pending (s : State) (t : Tid) (reg : Nat) :
    (@testTag s t reg).pending = s.pending := by
  unfold testTag; simp

@[simp] theorem branchIf_pending (t : Tid) (w : IWord) (s : State) (reg : Nat) (taken : Bool) :
    (@branchIf t w s reg taken).st.pending = s.pending := by
  unfold branchIf; simp

@[simp] theorem execBrz_pending (t : Tid) (w : IWord) (s : State) :
    (outState (@execBrz t w s) s).pending = s.pending := by
  unfold execBrz; simp

@[simp] theorem execBrnz_pending (t : Tid) (w : IWord) (s : State) :
    (outState (@execBrnz t w s) s).pending = s.pending := by
  unfold execBrnz; simp

@[simp] theorem execBrp_pending (t : Tid) (w : IWord) (s : State) :
    (outState (@execBrp t w s) s).pending = s.pending := by
  unfold execBrp; simp

@[simp] theorem execBrnp_pending (t : Tid) (w : IWord) (s : State) :
    (outState (@execBrnp t w s) s).pending = s.pending := by
  unfold execBrnp; simp

@[simp] theorem execCall_pending (t : Tid) (w : IWord) (s : State) : (outState (execCall t w s) s).pending = s.pending := by
  unfold execCall
  try dsimp only []
  rw [outState_next]
  refine State.issue_pending _ _ _ _ _ (fun _ => rfl) ?_
  intro s x
  split
  · rename_i pc s' h
    have hp := congrArg (fun e => (Eff.st e).pending) h
    simp only [jumpTo_pending, Eff.st_jump] at hp
    simp [hp]
  · simp

@[simp] theorem execRet_pending (t : Tid) (w : IWord) (s : State) :
    (outState (@execRet t w s) s).pending = s.pending := by
  unfold execRet; simp

@[simp] theorem execMovi_pending (t : Tid) (w : IWord) (s : State) :
    (outState (@execMovi t w s) s).pending = s.pending := by
  unfold execMovi; simp

@[simp] theorem scalarOp_pending (t : Tid) (w : IWord) (s : State) (mods : Nat) (ok : Bool) (f : BitVec 64 → BitVec 64 → BitVec 64) :
    (@scalarOp t w s mods ok f).pending = s.pending := by
  unfold scalarOp; simp

@[simp] theorem execAdd_pending (t : Tid) (w : IWord) (s : State) :
    (outState (@execAdd t w s) s).pending = s.pending := by
  unfold execAdd; simp

@[simp] theorem execSub_pending (t : Tid) (w : IWord) (s : State) :
    (outState (@execSub t w s) s).pending = s.pending := by
  unfold execSub; simp

@[simp] theorem execMul_pending (t : Tid) (w : IWord) (s : State) :
    (outState (@execMul t w s) s).pending = s.pending := by
  unfold execMul; simp

@[simp] theorem execAnd_pending (t : Tid) (w : IWord) (s : State) :
    (outState (@execAnd t w s) s).pending = s.pending := by
  unfold execAnd; simp

@[simp] theorem execOr_pending (t : Tid) (w : IWord) (s : State) :
    (outState (@execOr t w s) s).pending = s.pending := by
  unfold execOr; simp

@[simp] theorem execXor_pending (t : Tid) (w : IWord) (s : State) :
    (outState (@execXor t w s) s).pending = s.pending := by
  unfold execXor; simp

@[simp] theorem execShl_pending (t : Tid) (w : IWord) (s : State) :
    (outState (@execShl t w s) s).pending = s.pending := by
  unfold execShl; simp

@[simp] theorem execShr_pending (t : Tid) (w : IWord) (s : State) :
    (outState (@execShr t w s) s).pending = s.pending := by
  unfold execShr; simp

@[simp] theorem execSar_pending (t : Tid) (w : IWord) (s : State) :
    (outState (@execSar t w s) s).pending = s.pending := by
  unfold execSar; simp

@[simp] theorem execSmin_pending (t : Tid) (w : IWord) (s : State) :
    (outState (@execSmin t w s) s).pending = s.pending := by
  unfold execSmin; simp

@[simp] theorem execSmax_pending (t : Tid) (w : IWord) (s : State) :
    (outState (@execSmax t w s) s).pending = s.pending := by
  unfold execSmax; simp

@[simp] theorem execUmin_pending (t : Tid) (w : IWord) (s : State) :
    (outState (@execUmin t w s) s).pending = s.pending := by
  unfold execUmin; simp

@[simp] theorem execUmax_pending (t : Tid) (w : IWord) (s : State) :
    (outState (@execUmax t w s) s).pending = s.pending := by
  unfold execUmax; simp

@[simp] theorem execCmp_pending (t : Tid) (w : IWord) (s : State) :
    (outState (@execCmp t w s) s).pending = s.pending := by
  unfold execCmp; simp

@[simp] theorem execSel_pending (t : Tid) (w : IWord) (s : State) :
    (outState (@execSel t w s) s).pending = s.pending := by
  unfold execSel; simp

@[simp] theorem execPset_pending (t : Tid) (w : IWord) (s : State) :
    (outState (@execPset t w s) s).pending = s.pending := by
  unfold execPset; simp

@[simp] theorem execPget_pending (t : Tid) (w : IWord) (s : State) :
    (outState (@execPget t w s) s).pending = s.pending := by
  unfold execPget; simp

@[simp] theorem execDscSet_pending (t : Tid) (w : IWord) (s : State) :
    (outState (@execDscSet t w s) s).pending = s.pending := by
  unfold execDscSet; simp

@[simp] theorem execDscGet_pending (t : Tid) (w : IWord) (s : State) :
    (outState (@execDscGet t w s) s).pending = s.pending := by
  unfold execDscGet; simp

@[simp] theorem execDscOfs_pending (t : Tid) (w : IWord) (s : State) :
    (outState (@execDscOfs t w s) s).pending = s.pending := by
  unfold execDscOfs; simp

@[simp] theorem execGate_pending (t : Tid) (w : IWord) (s : State) :
    (outState (@execGate t w s) s).pending = s.pending := by
  unfold execGate; simp

@[simp] theorem execCycRead_pending (t : Tid) (w : IWord) (s : State) :
    (outState (@execCycRead t w s) s).pending = s.pending := by
  unfold execCycRead; simp

@[simp] theorem execStRead_pending (t : Tid) (w : IWord) (s : State) :
    (outState (@execStRead t w s) s).pending = s.pending := by
  unfold execStRead; simp

@[simp] theorem execRngSeek_pending (t : Tid) (w : IWord) (s : State) :
    (outState (@execRngSeek t w s) s).pending = s.pending := by
  unfold execRngSeek; simp

@[simp] theorem execRngSeekPos_pending (t : Tid) (w : IWord) (s : State) :
    (outState (@execRngSeekPos t w s) s).pending = s.pending := by
  unfold execRngSeekPos; simp

@[simp] theorem laneOp_pending (t : Tid) (w : IWord) (s : State) (ok : Bool) (reads : List Nat) (f : TRegs → Nat → Nat) :
    (@laneOp t w s ok reads f).pending = s.pending := by
  unfold laneOp; simp

@[simp] theorem laneOp2_pending (t : Tid) (w : IWord) (s : State) (f : Nat → Nat → Nat) :
    (@laneOp2 t w s f).pending = s.pending := by
  unfold laneOp2; simp

@[simp] theorem laneOp1_pending (t : Tid) (w : IWord) (s : State) (f : Nat → Nat) :
    (@laneOp1 t w s f).pending = s.pending := by
  unfold laneOp1; simp

@[simp] theorem State.access_pending (s : State) (t : Nat) (rd wr : List (Nat × Nat)) (k : State → BitVec 8 → Eff)
    (hk : ∀ s b, (k s b).st.pending = s.pending) : (s.access t rd wr k).st.pending = s.pending := by
  unfold State.access
  split
  · rfl
  · split
    · rfl
    · split
      · rfl
      · split
        · rfl
        · rw [hk]; exact State.shadowLines_pending _ _ _ _ ‹_›

@[simp] theorem State.putTagged_pending (s : State) (t : Nat) (cells : List (Nat × Byte)) (tag : BitVec 8) :
    (@State.putTagged s t cells tag).pending = s.pending := by
  unfold State.putTagged; simp

@[simp] theorem State.putElem_pending (s : State) (tile : Nat) (d : Desc) (i : Nat) (j : Nat) (code : Nat) :
    (@State.putElem s tile d i j code).pending = s.pending := by
  unfold State.putElem; simp

@[simp] theorem execExit_pending (t : Tid) (w : IWord) (s : State) : (outState (execExit t w s) s).pending = s.pending := by
  unfold execExit
  dsimp only []
  rw [outState_next]
  refine State.issue_pending _ _ _ _ _ (fun _ => rfl) ?_
  intro s x
  repeat' (first | rfl | (simp; done) | split)

@[simp] theorem execFenceRel_pending (t : Tid) (w : IWord) (s : State) :
    (outState (@execFenceRel t w s) s).pending = s.pending := by
  unfold execFenceRel; simp

@[simp] theorem execFenceAcq_pending (t : Tid) (w : IWord) (s : State) :
    (outState (@execFenceAcq t w s) s).pending = s.pending := by
  unfold execFenceAcq; simp

@[simp] theorem State.changePhase_pending (s : State) (core : Nat) (n : Nat) :
    (@State.changePhase s core n).pending = s.pending := by
  unfold State.changePhase; simp

@[simp] theorem execPhase_pending (t : Tid) (w : IWord) (s : State) :
    (outState (@execPhase t w s) s).pending = s.pending := by
  unfold execPhase; simp

@[simp] theorem State.onBar_pending (s : State) (t : Tid) (w : IWord) (writes : Bool) (k : State → Nat → Eff) (hk : ∀ y0 y1, ((k y0 y1).st).pending = y0.pending) :
    (@State.onBar s t w writes k).st.pending = s.pending := by
  unfold State.onBar; try dsimp only []
  repeat' (first | (simp [*]; done) | split | intro _)

@[simp] theorem execBarInit_pending (t : Tid) (w : IWord) (s : State) :
    (outState (@execBarInit t w s) s).pending = s.pending := by
  unfold execBarInit; simp

@[simp] theorem arriveBody_pending (t : Tid) (w : IWord) (bytes : Nat) (s : State) :
    (@arriveBody t w bytes s).st.pending = s.pending := by
  unfold arriveBody; simp

@[simp] theorem execBarArrive_pending (t : Tid) (w : IWord) (s : State) :
    (outState (@execBarArrive t w s) s).pending = s.pending := by
  unfold execBarArrive; simp

@[simp] theorem execBarArriveTx_pending (t : Tid) (w : IWord) (s : State) :
    (outState (@execBarArriveTx t w s) s).pending = s.pending := by
  unfold execBarArriveTx; simp

@[simp] theorem State.waitOn_pending (s : State) (t : Nat) (a : Nat) :
    (@State.waitOn s t a).st.pending = s.pending := by
  unfold State.waitOn; simp

@[simp] theorem execBarWait_pending (t : Tid) (w : IWord) (s : State) :
    (outState (@execBarWait t w s) s).pending = s.pending := by
  unfold execBarWait; simp

@[simp] theorem execBarWaitGlide_pending (t : Tid) (w : IWord) (s : State) : (outState (execBarWaitGlide t w s) s).pending = s.pending := by
  unfold execBarWaitGlide
  try dsimp only []
  rw [outState_next]
  refine State.issue_pending _ _ _ _ _ (fun _ => rfl) ?_
  intro s x
  repeat' (first | rfl | (simp; done) | split)

@[simp] theorem State.deliver_pending (s : State) (t : Nat) (l : Load) (v : Nat) :
    (@State.deliver s t l v).pending = s.pending := by
  unfold State.deliver; simp

@[simp] theorem execLocalLoadReturn_pending (t : Tid) (s : State) :
    (outState (@execLocalLoadReturn t s) s).pending = s.pending := by
  unfold execLocalLoadReturn; try dsimp only []
  repeat' (first | (simp [*]; done) | split | intro _)

@[simp] theorem State.answerThread_pending (s : State) (t : Nat) (pc : Nat) (owner : Option CmdRef) (tag : Nat) (status : Nat) (bs : List Byte) :
    (@State.answerThread s t pc owner tag status bs).pending = s.pending := by
  unfold State.answerThread; try dsimp only []
  repeat' (first | (simp [*]; done) | split | intro _)

@[simp] theorem State.answerLanded_pending (s : State) (tile : Nat) (id : Nat) (landed : Nat) (bs : List Byte) :
    (@State.answerLanded s tile id landed bs).pending = s.pending := by
  unfold State.answerLanded; try dsimp only []
  repeat' (first | (simp [*]; done) | split | intro _)

@[simp] theorem State.answerTag_pending (s : State) (tag : Nat) (status : Nat) (bs : List Byte) (landed : Nat) :
    (@State.answerTag s tag status bs landed).pending = s.pending := by
  unfold State.answerTag; try dsimp only []
  repeat' (first | (simp [*]; done) | split | intro _)

@[simp] theorem State.answerArrives_pending (s : State) (tag : Nat) (status : Nat) (bs : List Byte) (landed : Nat) :
    (@State.answerArrives s tag status bs landed).pending = s.pending := by
  unfold State.answerArrives; try dsimp only []
  repeat' (first | (simp [*]; done) | split | intro _)

@[simp] theorem State.requestAcked_pending (s : State) (tag : Nat) :
    (@State.requestAcked s tag).pending = s.pending := by
  unfold State.requestAcked; try dsimp only []
  repeat' (first | (simp [*]; done) | split | intro _)

@[simp] theorem State.statusTag_pending (s : State) (tag : Nat) (status : Nat) :
    (@State.statusTag s tag status).pending = s.pending := by
  unfold State.statusTag; try dsimp only []
  repeat' (first | (simp [*]; done) | split | intro _)

@[simp] theorem State.packetAcked_pending (s : State) (k : SentPkt) :
    (@State.packetAcked s k).pending = s.pending := by
  unfold State.packetAcked; try dsimp only []
  repeat' (first | (simp [*]; done) | split | intro _)

@[simp] theorem State.originFailed_pending (s : State) (o : Origin) (fault : Nat) :
    (@State.originFailed s o fault).pending = s.pending := by
  unfold State.originFailed; try dsimp only []
  repeat' (first | (simp [*]; done) | split | intro _)

@[simp] theorem State.admitFlow_pending (s : State) :
    (@State.admitFlow s).pending = s.pending := by
  unfold State.admitFlow; try dsimp only []
  repeat' (first | (simp [*]; done) | split | intro _)

@[simp] theorem State.lapFlowFailed_pending (s : State) (d : Nat) (vc : Nat) (fault : Nat) :
    (@State.lapFlowFailed s d vc fault).pending = s.pending := by
  unfold State.lapFlowFailed; simp

@[simp] theorem State.failFlow_pending (s : State) (d : Nat) (vc : Nat) (fault : Nat) :
    (@State.failFlow s d vc fault).pending = s.pending := by
  unfold State.failFlow; try dsimp only []
  repeat' (first | (simp [*]; done) | split | intro _)

@[simp] theorem State.reopenFlow_pending (s : State) (d : Nat) (vc : Nat) :
    (@State.reopenFlow s d vc).pending = s.pending := by
  unfold State.reopenFlow; try dsimp only []
  repeat' (first | (simp [*]; done) | split | intro _)

@[simp] theorem State.flowLeft_pending (s : State) (d : Nat) (vc : Nat) (f : SendFlow) (left : List SentPkt) :
    (@State.flowLeft s d vc f left).pending = s.pending := by
  unfold State.flowLeft; simp

@[simp] theorem State.pumpLeft_pending (s : State) (d : Nat) (vc : Nat) :
    (@State.pumpLeft s d vc).pending = s.pending := by
  unfold State.pumpLeft; try dsimp only []
  repeat' (first | (simp [*]; done) | split | intro _)

@[simp] theorem State.ackFlow_pending (s : State) (d : Nat) (vc : Nat) (epoch : BitVec 16) (seq : BitVec 32) :
    (@State.ackFlow s d vc epoch seq).pending = s.pending := by
  unfold State.ackFlow; try dsimp only []
  repeat' (first | (simp [*]; done) | split | intro _)

@[simp] theorem State.resendFlow_pending (s : State) (d : Nat) (vc : Nat) (f : SendFlow) :
    (@State.resendFlow s d vc f).pending = s.pending := by
  unfold State.resendFlow; simp

@[simp] theorem State.endWait_pending (s : State) (d : Nat) (vc : Nat) :
    (@State.endWait s d vc).pending = s.pending := by
  unfold State.endWait; try dsimp only []
  repeat' (first | (simp [*]; done) | split | intro _)

@[simp] theorem State.sendNotice_pending (s : State) (q : Nat) (m : Nat) (p : Nat) (ev : Nat) :
    (@State.sendNotice s q m p ev).pending = s.pending := by
  unfold State.sendNotice; simp

@[simp] theorem State.sendNotices_pending (s : State) (but : Nat) (m : Nat) (p : Nat) (ev : Nat) :
    (@State.sendNotices s but m p ev).pending = s.pending := by
  unfold State.sendNotices; simp

@[simp] theorem State.sendKnown_pending (s : State) (q : Nat) :
    (@State.sendKnown s q).pending = s.pending := by
  unfold State.sendKnown; simp

@[simp] theorem State.switchFlow_pending (s : State) (d : Nat) (vc : Nat) (f : SendFlow) :
    (@State.switchFlow s d vc f).pending = s.pending := by
  unfold State.switchFlow; simp

@[simp] theorem State.rerouteFlow_pending (s : State) (d : Nat) (vc : Nat) :
    (@State.rerouteFlow s d vc).pending = s.pending := by
  unfold State.rerouteFlow; try dsimp only []
  repeat' (first | (simp [*]; done) | split | intro _)

@[simp] theorem State.switchRoute_pending (s : State) (d : Nat) (vc : Nat) :
    (@State.switchRoute s d vc).pending = s.pending := by
  unfold State.switchRoute; try dsimp only []
  repeat' (first | (simp [*]; done) | split | intro _)

@[simp] theorem execFlowRouteSwitch_pending (dst : ModId) (vc : BitVec 4) (s : State) :
    (outState (@execFlowRouteSwitch dst vc s) s).pending = s.pending := by
  unfold execFlowRouteSwitch; simp

@[simp] theorem State.rerouteAll_pending (s : State) :
    (@State.rerouteAll s).pending = s.pending := by
  unfold State.rerouteAll; simp

@[simp] theorem State.recordRetired_pending (s : State) (m : Nat) (p : Nat) :
    (@State.recordRetired s m p).pending = s.pending := by
  unfold State.recordRetired; simp

@[simp] theorem State.forgetRetired_pending (s : State) (m : Nat) (p : Nat) :
    (@State.forgetRetired s m p).pending = s.pending := by
  unfold State.forgetRetired; simp

@[simp] theorem State.dropQueue_pending (s : State) (p : Nat) :
    (@State.dropQueue s p).pending = s.pending := by
  unfold State.dropQueue; simp

@[simp] theorem State.retirePort_pending (s : State) (p : Nat) :
    (@State.retirePort s p).pending = s.pending := by
  unfold State.retirePort; simp

@[simp] theorem State.takeLanes_pending (s : State) (p : Nat) :
    ((@State.takeLanes s p).1).pending = s.pending := by
  unfold State.takeLanes; try dsimp only []
  repeat' (first | (simp [*]; done) | split | intro _)

@[simp] theorem State.portUpNow_pending (s : State) (p : Nat) :
    (@State.portUpNow s p).pending = s.pending := by
  unfold State.portUpNow; simp

@[simp] theorem State.showGateways_pending (s : State) :
    (@State.showGateways s).pending = s.pending := by
  unfold State.showGateways; simp

@[simp] theorem State.showLanes_pending (s : State) (p : Nat) :
    (@State.showLanes s p).pending = s.pending := by
  unfold State.showLanes; simp

@[simp] theorem State.learnLanes_pending (s : State) (p : Nat) (lanes : BitVec 32) :
    (@State.learnLanes s p lanes).pending = s.pending := by
  unfold State.learnLanes; simp

@[simp] theorem State.revivedUp_pending (s : State) (p : Nat) :
    (@State.revivedUp s p).pending = s.pending := by
  unfold State.revivedUp; simp

@[simp] theorem State.retrainFailed_pending (s : State) (p : Nat) :
    (@State.retrainFailed s p).pending = s.pending := by
  unfold State.retrainFailed; simp

@[simp] theorem execPortTrainingDone_pending (p : Port) (info : TrainInfo) (s : State) :
    (outState (@execPortTrainingDone p info s) s).pending = s.pending := by
  unfold execPortTrainingDone; simp

@[simp] theorem State.beginRetrain_pending (s : State) (p : Nat) :
    (@State.beginRetrain s p).pending = s.pending := by
  unfold State.beginRetrain; simp

@[simp] theorem execLaneLossOfLock_pending (p : Port) (lane : Fin 32) (ms : Nat) (s : State) :
    (outState (@execLaneLossOfLock p lane ms s) s).pending = s.pending := by
  unfold execLaneLossOfLock; simp

@[simp] theorem execLaneThresholdReached_pending (p : Port) (lanes : BitVec 32) (s : State) :
    (outState (@execLaneThresholdReached p lanes s) s).pending = s.pending := by
  unfold execLaneThresholdReached; try dsimp only []
  repeat' (first | (simp [*]; done) | split | intro _)

@[simp] theorem execPortDrainDone_pending (p : Port) (s : State) :
    (outState (@execPortDrainDone p s) s).pending = s.pending := by
  unfold execPortDrainDone; simp

@[simp] theorem execPortRetrainDone_pending (p : Port) (ok : Bool) (peerRetired : BitVec 32) (s : State) :
    (outState (@execPortRetrainDone p ok peerRetired s) s).pending = s.pending := by
  unfold execPortRetrainDone; simp

@[simp] theorem execPortDisable_pending (p : Port) (s : State) :
    (outState (@execPortDisable p s) s).pending = s.pending := by
  unfold execPortDisable; simp

@[simp] theorem State.beginTraining_pending (s : State) (p : Nat) :
    (@State.beginTraining s p).pending = s.pending := by
  unfold State.beginTraining; simp

@[simp] theorem State.revivePort_pending (s : State) (p : Nat) :
    (@State.revivePort s p).pending = s.pending := by
  unfold State.revivePort; simp

@[simp] theorem execPortRevive_pending (p : Port) (s : State) :
    (outState (@execPortRevive p s) s).pending = s.pending := by
  unfold execPortRevive; simp

@[simp] theorem State.sealTorus_pending (s : State) :
    (@State.sealTorus s).pending = s.pending := by
  unfold State.sealTorus; simp

@[simp] theorem execTorusSeal_pending (s : State) :
    (outState (@execTorusSeal s) s).pending = s.pending := by
  unfold execTorusSeal; simp

@[simp] theorem State.renamed_pending (s : State) (old : Nat) :
    (@State.renamed s old).pending = s.pending := by
  unfold State.renamed; simp

@[simp] theorem State.takeNotice_pending (s : State) (p : Nat) (m : Nat) (q : Nat) (ev : Nat) :
    (@State.takeNotice s p m q ev).pending = s.pending := by
  unfold State.takeNotice; simp

@[simp] theorem State.countStatus_pending (s : State) (fault : Nat) :
    (@State.countStatus s fault).pending = s.pending := by
  unfold State.countStatus; simp

@[simp] theorem State.sendStatus_pending (s : State) (src : Nat) (image : Nat) (fault : Nat) :
    (@State.sendStatus s src image fault).pending = s.pending := by
  unfold State.sendStatus; simp

@[simp] theorem State.loadCore_pending (s : State) (dst : Nat) (bs : List Byte) :
    (@State.loadCore s dst bs).pending = s.pending := by
  unfold State.loadCore; simp

@[simp] theorem State.imageWhole_pending (s : State) (x : FwImg) (bs : List Byte) :
    ((@State.imageWhole s x bs).2).pending = s.pending := by
  unfold State.imageWhole; simp

@[simp] theorem State.takeChunk_pending (s : State) (src : Nat) (k : FwImg) (chunk : Nat) (bs : List Byte) :
    (@State.takeChunk s src k chunk bs).pending = s.pending := by
  unfold State.takeChunk; simp

@[simp] theorem State.chunkArrives_pending (s : State) (p : Nat) (from0 : Nat) (body : List Byte) :
    (@State.chunkArrives s p from0 body).pending = s.pending := by
  unfold State.chunkArrives; simp

@[simp] theorem State.takeMgmt_pending (s : State) (p : Nat) (src : Nat) (body : List Byte) :
    (@State.takeMgmt s p src body).pending = s.pending := by
  unfold State.takeMgmt; try dsimp only []
  repeat' (first | (simp [*]; done) | split | intro _)

@[simp] theorem State.setBoot_pending (s : State) (b : Boot) :
    (@State.setBoot s b).pending = s.pending := by
  unfold State.setBoot; simp

@[simp] theorem State.stageEnds_pending (s : State) :
    (@State.stageEnds s).pending = s.pending := by
  unfold State.stageEnds; simp

@[simp] theorem State.episode_pending (s : State) (n : Nat) (holds : Bool) (code : Nat) :
    (@State.episode s n holds code).pending = s.pending := by
  unfold State.episode; simp

@[simp] theorem State.stopDomain_pending (s : State) (d : Nat) :
    (@State.stopDomain s d).pending = s.pending := by
  unfold State.stopDomain; simp

@[simp] theorem State.aim_pending (s : State) (d : Nat) (g : Nat × Nat × Bool) :
    (@State.aim s d g).pending = s.pending := by
  unfold State.aim; simp

@[simp] theorem State.startDomain_pending (s : State) (d : Nat) :
    (@State.startDomain s d).pending = s.pending := by
  unfold State.startDomain; simp

@[simp] theorem State.aimCore_pending (s : State) (num : Nat) (den : Nat) :
    (@State.aimCore s num den).pending = s.pending := by
  unfold State.aimCore; simp

@[simp] theorem State.takeLicence_pending (s : State) :
    (@State.takeLicence s).pending = s.pending := by
  unfold State.takeLicence; simp

@[simp] theorem State.noLicence_pending (s : State) :
    (@State.noLicence s).pending = s.pending := by
  unfold State.noLicence; simp

@[simp] theorem State.runFirmware_pending (s : State) (first : Bool) :
    (@State.runFirmware s first).pending = s.pending := by
  unfold State.runFirmware; simp

@[simp] theorem State.showPanel_pending (s : State) (excl : Nat) :
    (@State.showPanel s excl).pending = s.pending := by
  unfold State.showPanel; simp

@[simp] theorem State.refuseStage3_pending (s : State) (code : Nat) :
    (@State.refuseStage3 s code).pending = s.pending := by
  unfold State.refuseStage3; simp

@[simp] theorem State.takeClass_pending (s : State) (first : Bool) :
    (@State.takeClass s first).pending = s.pending := by
  unfold State.takeClass; try dsimp only []
  repeat' (first | (simp [*]; done) | split | intro _)

@[simp] theorem State.liftDone_pending (s : State) (k : Nat) :
    (@State.liftDone s k).pending = s.pending := by
  unfold State.liftDone; simp

@[simp] theorem State.nextLift_pending (n : Nat) (s : State) : (State.nextLift n s).pending = s.pending := by
  induction n generalizing s with
  | zero => unfold State.nextLift; simp
  | succ n ih =>
    unfold State.nextLift
    dsimp only []
    repeat' (first | (simp [ih]; done) | (simp; done) | split)

@[simp] theorem State.beginLifts_pending (s : State) :
    (@State.beginLifts s).pending = s.pending := by
  unfold State.beginLifts; simp

@[simp] theorem State.endWheelOp_pending (s : State) (o : WheelOp) : (State.endWheelOp s o).2.pending = s.pending := by
  unfold State.endWheelOp
  dsimp only []
  repeat' (first | rfl | (simp; done) | split)

@[simp] theorem State.dropWheelOps_pending (s : State) :
    (@State.dropWheelOps s).pending = s.pending := by
  unfold State.dropWheelOps; simp

@[simp] theorem State.relayLost_pending (s : State) (h : Nat) :
    (@State.relayLost s h).pending = s.pending := by
  unfold State.relayLost; simp

@[simp] theorem State.loseCompute_pending (s : State) :
    (@State.loseCompute s).pending = s.pending := by
  unfold State.loseCompute; simp

@[simp] theorem State.enterCpr_pending (s : State) :
    (@State.enterCpr s).pending = s.pending := by
  unfold State.enterCpr; simp

@[simp] theorem State.holdOrGo_pending (s : State) :
    (@State.holdOrGo s).pending = s.pending := by
  unfold State.holdOrGo; simp

@[simp] theorem State.raiseCpr_pending (s : State) (cause : Nat) :
    (@State.raiseCpr s cause).pending = s.pending := by
  unfold State.raiseCpr
  simp only [ite_pending, State.holdOrGo_pending, State.incFld_pending, State.setFld_pending, State.enterCpr_pending, ite_self]

@[simp] theorem State.portsDown_pending (s : State) :
    (@State.portsDown s).pending = s.pending := by
  unfold State.portsDown; simp

@[simp] theorem State.recovered_pending (s : State) :
    (@State.recovered s).pending = s.pending := by
  unfold State.recovered; simp

@[simp] theorem State.loseCrystal_pending (s : State) :
    (@State.loseCrystal s).pending = s.pending := by
  unfold State.loseCrystal; simp

@[simp] theorem State.cleared_pending (s : State) :
    (@State.cleared s).pending = s.pending := by
  unfold State.cleared; simp

@[simp] theorem State.powerOn_pending (s : State) (slot : Nat) :
    (@State.powerOn s slot).pending = s.pending := by
  unfold State.powerOn; simp

@[simp] theorem execPowerGoodRise_pending (slotId : BitVec 3) (s : State) :
    (outState (@execPowerGoodRise slotId s) s).pending = s.pending := by
  unfold execPowerGoodRise; simp

@[simp] theorem execPowerGoodFall_pending (s : State) :
    (outState (@execPowerGoodFall s) s).pending = s.pending := by
  unfold execPowerGoodFall; simp

@[simp] theorem execInputVoltageLow_pending (mv : BitVec 16) (s : State) :
    (outState (@execInputVoltageLow mv s) s).pending = s.pending := by
  unfold execInputVoltageLow; simp

@[simp] theorem execSidebandReset_pending (us : Nat) (s : State) :
    (outState (@execSidebandReset us s) s).pending = s.pending := by
  unfold execSidebandReset; simp

@[simp] theorem State.loadFlash_pending (s : State) :
    (@State.loadFlash s).pending = s.pending := by
  unfold State.loadFlash; simp

@[simp] theorem execStage0Done_pending (flashOk : Bool) (s : State) :
    (outState (@execStage0Done flashOk s) s).pending = s.pending := by
  unfold execStage0Done; simp

@[simp] theorem execFirmwareSelect_pending (a : FwSlot) (b : FwSlot) (lic : Licence) (pend : Licence) (s : State) :
    (outState (@execFirmwareSelect a b lic pend s) s).pending = s.pending := by
  unfold execFirmwareSelect; simp

@[simp] theorem execFwSlotWrite_pending (slotB : Bool) (img : FwSlot) (s : State) :
    (outState (@execFwSlotWrite slotB img s) s).pending = s.pending := by
  unfold execFwSlotWrite; simp

@[simp] theorem State.quickBist_pending (s : State) (r : BistResult) :
    (@State.quickBist s r).pending = s.pending := by
  unfold State.quickBist; simp

@[simp] theorem execStage2Start_pending (dimms : List (Fin 24 × Dimm)) (tests : List BistResult) (s : State) :
    (outState (@execStage2Start dimms tests s) s).pending = s.pending := by
  unfold execStage2Start; simp

@[simp] theorem execDramTrainingDone_pending (tier : Tier) (unit : Fin 24) (ok : Bool) (c : UnitCond) (s : State) :
    (outState (@execDramTrainingDone tier unit ok c s) s).pending = s.pending := by
  unfold execDramTrainingDone; try dsimp only []
  repeat' (first | (simp [*]; done) | split | intro _)

@[simp] theorem State.mapIfNot_pending (s : State) (k : Tier) :
    (@State.mapIfNot s k).pending = s.pending := by
  unfold State.mapIfNot; simp

@[simp] theorem State.bringUpLifts_pending (s : State) :
    (@State.bringUpLifts s).pending = s.pending := by
  unfold State.bringUpLifts; simp

@[simp] theorem execStage2Done_pending (s : State) :
    (outState (@execStage2Done s) s).pending = s.pending := by
  unfold execStage2Done; simp

@[simp] theorem execLiftRailCheck_pending (bad : BitVec 36) (supply : BitVec 2) (s : State) :
    (outState (@execLiftRailCheck bad supply s) s).pending = s.pending := by
  unfold execLiftRailCheck; try dsimp only []
  repeat' (first | (simp [*]; done) | split | intro _)

@[simp] theorem execLiftBistEnd_pending (tests : List BistResult) (s : State) :
    (outState (@execLiftBistEnd tests s) s).pending = s.pending := by
  unfold execLiftBistEnd; try dsimp only []
  repeat' (first | (simp [*]; done) | split | intro _)

@[simp] theorem execXtalDelayExpiry_pending (s : State) :
    (outState (@execXtalDelayExpiry s) s).pending = s.pending := by
  unfold execXtalDelayExpiry; simp

@[simp] theorem execXtalQualWindowEnd_pending (edges : Bool) (count : BitVec 32) (s : State) :
    (outState (@execXtalQualWindowEnd edges count s) s).pending = s.pending := by
  unfold execXtalQualWindowEnd; simp

@[simp] theorem execXtalRetryTimer_pending (s : State) :
    (outState (@execXtalRetryTimer s) s).pending = s.pending := by
  unfold execXtalRetryTimer; simp

@[simp] theorem execXtalMonitorWindowEnd_pending (count : BitVec 32) (s : State) :
    (outState (@execXtalMonitorWindowEnd count s) s).pending = s.pending := by
  unfold execXtalMonitorWindowEnd; simp

@[simp] theorem execPllLock_pending (locked : Bool) (s : State) :
    (outState (@execPllLock locked s) s).pending = s.pending := by
  unfold execPllLock; simp

@[simp] theorem execDomainRampStep_pending (d : Fin 8) (s : State) :
    (outState (@execDomainRampStep d s) s).pending = s.pending := by
  unfold execDomainRampStep; simp

@[simp] theorem State.writeCoreRatio_pending (s : State) (num : Nat) (den : Nat) :
    (@State.writeCoreRatio s num den).pending = s.pending := by
  unfold State.writeCoreRatio; simp

@[simp] theorem execCoreRatioWrite_pending (num : BitVec 16) (den : BitVec 16) (s : State) :
    (outState (@execCoreRatioWrite num den s) s).pending = s.pending := by
  unfold execCoreRatioWrite; simp

@[simp] theorem execDroopDetect_pending (tile : Fin 36) (s : State) :
    (outState (@execDroopDetect tile s) s).pending = s.pending := by
  unfold execDroopDetect; simp

@[simp] theorem execDroopRecover_pending (tile : Fin 36) (s : State) :
    (outState (@execDroopRecover tile s) s).pending = s.pending := by
  unfold execDroopRecover; simp

@[simp] theorem execFreqCountGate_pending (d : Fin 8) (count : BitVec 32) (s : State) :
    (outState (@execFreqCountGate d count s) s).pending = s.pending := by
  unfold execFreqCountGate; simp

@[simp] theorem State.controlCore_pending (s : State) (r : Nat × Nat) :
    (@State.controlCore s r).pending = s.pending := by
  unfold State.controlCore; simp

@[simp] theorem execPowerControlTick_pending (panelW : BitVec 16) (dimmW : BitVec 16) (hottest : BitVec 8) (s : State) :
    (outState (@execPowerControlTick panelW dimmW hottest s) s).pending = s.pending := by
  unfold execPowerControlTick; simp

@[simp] theorem execTileTempTrip_pending (tile : Fin 36) (temp : BitVec 8) (s : State) :
    (outState (@execTileTempTrip tile temp s) s).pending = s.pending := by
  unfold execTileTempTrip; simp

@[simp] theorem execCoolantSample_pending (inlet : BitVec 8) (flow : BitVec 16) (s : State) :
    (outState (@execCoolantSample inlet flow s) s).pending = s.pending := by
  unfold execCoolantSample; simp

@[simp] theorem execCoolantTripTimer_pending (s : State) :
    (outState (@execCoolantTripTimer s) s).pending = s.pending := by
  unfold execCoolantTripTimer; simp

@[simp] theorem execIinLimitReached_pending (da : BitVec 16) (s : State) :
    (outState (@execIinLimitReached da s) s).pending = s.pending := by
  unfold execIinLimitReached
  simp only [Bool.not_eq_eq_eq_not, Bool.not_true, ne_eq, outState_next, ite_pending, State.log_pending, State.setFld_pending,
    State.setBoot_pending, ite_self]

@[simp] theorem execIinLimitClear_pending (da : BitVec 16) (s : State) :
    (outState (@execIinLimitClear da s) s).pending = s.pending := by
  unfold execIinLimitClear; simp

@[simp] theorem State.showMarked_pending (s : State) :
    (@State.showMarked s).pending = s.pending := by
  unfold State.showMarked; simp

@[simp] theorem execBgSettingCheck_pending (u : SettingUnit) (o : UnitCheck) (s : State) :
    (outState (@execBgSettingCheck u o s) s).pending = s.pending := by
  unfold execBgSettingCheck; simp

@[simp] theorem execQuietWindowRetrain_pending (s : State) :
    (outState (@execQuietWindowRetrain s) s).pending = s.pending := by
  unfold execQuietWindowRetrain; try dsimp only []
  repeat' (first | (simp [*]; done) | split | intro _)

@[simp] theorem State.retireUnit_pending (s : State) (u : SettingUnit) :
    (@State.retireUnit s u).pending = s.pending := by
  unfold State.retireUnit; try dsimp only []
  repeat' (first | (simp [*]; done) | split | intro _)

@[simp] theorem State.remeasure_pending (s : State) (u : SettingUnit) (c : UnitCond) :
    (@State.remeasure s u c).pending = s.pending := by
  unfold State.remeasure; simp

@[simp] theorem execRetrainDone_pending (ok : Bool) (c : UnitCond) (s : State) :
    (outState (@execRetrainDone ok c s) s).pending = s.pending := by
  unfold execRetrainDone; try dsimp only []
  repeat' (first | (simp [*]; done) | split | intro _)

@[simp] theorem State.requestCpr_pending (s : State) :
    (@State.requestCpr s).pending = s.pending := by
  unfold State.requestCpr; simp

@[simp] theorem execCprRequest_pending (s : State) :
    (outState (@execCprRequest s) s).pending = s.pending := by
  unfold execCprRequest; simp

@[simp] theorem execRailFault_pending (s : State) :
    (outState (@execRailFault s) s).pending = s.pending := by
  unfold execRailFault; simp

@[simp] theorem execCprRelease_pending (s : State) :
    (outState (@execCprRelease s) s).pending = s.pending := by
  unfold execCprRelease; simp

@[simp] theorem execComputeBringupStep_pending (s : State) :
    (outState (@execComputeBringupStep s) s).pending = s.pending := by
  unfold execComputeBringupStep; simp

@[simp] theorem State.loseWheels_pending (s : State) :
    (@State.loseWheels s).pending = s.pending := by
  unfold State.loseWheels; simp

@[simp] theorem execComputeBringupDone_pending (s : State) :
    (outState (@execComputeBringupDone s) s).pending = s.pending := by
  unfold execComputeBringupDone; simp

@[simp] theorem State.putBit_pending (s : State) (f : Fld) (i : Nat) (v : Bool) :
    (@State.putBit s f i v).pending = s.pending := by
  unfold State.putBit; simp

@[simp] theorem State.portDark_pending (s : State) (p : Nat) :
    (@State.portDark s p).pending = s.pending := by
  unfold State.portDark; simp

@[simp] theorem State.cutCable_pending (s : State) (p : Nat) :
    (@State.cutCable s p).pending = s.pending := by
  unfold State.cutCable; simp

@[simp] theorem execCableSeated_pending (p : Port) (watts : BitVec 8) (s : State) :
    (outState (@execCableSeated p watts s) s).pending = s.pending := by
  unfold execCableSeated; simp

@[simp] theorem execCableRemoved_pending (p : Port) (s : State) :
    (outState (@execCableRemoved p s) s).pending = s.pending := by
  unfold execCableRemoved; simp

@[simp] theorem execCableOverdraw_pending (p : Port) (s : State) :
    (outState (@execCableOverdraw p s) s).pending = s.pending := by
  unfold execCableOverdraw; simp

@[simp] theorem execDimmOverdraw_pending (unit : Fin 24) (s : State) :
    (outState (@execDimmOverdraw unit s) s).pending = s.pending := by
  unfold execDimmOverdraw; simp

@[simp] theorem execDimmOverdrawClear_pending (unit : Fin 24) (s : State) :
    (outState (@execDimmOverdrawClear unit s) s).pending = s.pending := by
  unfold execDimmOverdrawClear; simp

@[simp] theorem execDimmFuseOpen_pending (unit : Fin 24) (s : State) :
    (outState (@execDimmFuseOpen unit s) s).pending = s.pending := by
  unfold execDimmFuseOpen; simp

@[simp] theorem execLeakDetect_pending (s : State) :
    (outState (@execLeakDetect s) s).pending = s.pending := by
  unfold execLeakDetect; simp

@[simp] theorem execLeakClear_pending (s : State) :
    (outState (@execLeakClear s) s).pending = s.pending := by
  unfold execLeakClear; simp

@[simp] theorem execI3cAddressAssign_pending (addr : BitVec 7) (s : State) :
    (outState (@execI3cAddressAssign addr s) s).pending = s.pending := by
  unfold execI3cAddressAssign; simp

@[simp] theorem execMove_pending (t : Tid) (w : IWord) (s : State) :
    (outState (@execMove t w s) s).pending = s.pending := by
  unfold execMove; simp

@[simp] theorem execMoveT_pending (t : Tid) (w : IWord) (s : State) :
    (outState (@execMoveT t w s) s).pending = s.pending := by
  unfold execMoveT; simp

@[simp] theorem State.copyCmd_pending (s : State) (k : CmdRef) (opc : Nat) (used : List (Nat × Nat)) (room : Cmd → State → Bool)
    (run : Cmd → State → State) (hrun : ∀ c s, (run c s).pending = s.pending) : (s.copyCmd k opc used room run).pending = s.pending := by
  unfold State.copyCmd
  split
  · rfl
  · repeat' (first | (simp [hrun]; done) | split)

@[simp] theorem execCopy_pending (k : CmdRef) (s : State) : (outState (execCopy k s) s).pending = s.pending := by
  unfold execCopy
  rw [outState_next]
  apply State.copyCmd_pending
  intro c s
  dsimp only []
  repeat' (first | (simp; done) | split)

@[simp] theorem execCopyT_pending (k : CmdRef) (s : State) : (outState (execCopyT k s) s).pending = s.pending := by
  unfold execCopyT
  rw [outState_next]
  apply State.copyCmd_pending
  intro c s
  dsimp only []
  repeat' (first | (simp; done) | split)

@[simp] theorem execCave_pending (k : CmdRef) (s : State) : (outState (execCave k s) s).pending = s.pending := by
  unfold execCave
  rw [outState_next]
  apply State.copyCmd_pending
  intro c s
  dsimp only []
  repeat' (first | (simp; done) | split)

@[simp] theorem State.assemble_pending (s : State) :
    ((@State.assemble s).2).pending = s.pending := by
  unfold State.assemble; simp

@[simp] theorem State.snapshot_pending (s : State) (rec0 : List Byte) :
    (@State.snapshot s rec0).pending = s.pending := by
  unfold State.snapshot; simp

@[simp] theorem execResync_pending (k : CmdRef) (s : State) :
    (outState (@execResync k s) s).pending = s.pending := by
  unfold execResync; try dsimp only []
  repeat' (first | (simp [*]; done) | split | intro _)

@[simp] theorem execResyncSnapshotRefresh_pending (s : State) :
    (outState (@execResyncSnapshotRefresh s) s).pending = s.pending := by
  unfold execResyncSnapshotRefresh; simp

@[simp] theorem execMctpResyncPage_pending (page : BitVec 16) (s : State) :
    (outState (@execMctpResyncPage page s) s).pending = s.pending := by
  unfold execMctpResyncPage; simp

@[simp] theorem State.drawBytes_pending (s : State) (n : Nat) :
    ((@State.drawBytes s n).2).pending = s.pending := by
  unfold State.drawBytes; simp

@[simp] theorem State.answer_pending (s : State) (m : Spdm) (code : Nat) (p1 : Nat) (p2 : Nat) (body : List Byte) :
    (@State.answer s m code p1 p2 body).pending = s.pending := by
  unfold State.answer; simp

@[simp] theorem State.refuseSpdm_pending (s : State) (m : Spdm) (code : Nat) :
    (@State.refuseSpdm s m code).pending = s.pending := by
  unfold State.refuseSpdm; simp

@[simp] theorem State.setTrust_pending (s : State) (x : Trust) :
    (@State.setTrust s x).pending = s.pending := by
  unfold State.setTrust; simp

@[simp] theorem State.respond_pending (s : State) (m : Spdm) (go : State → State) (hgo : ∀ y0, (go y0).pending = y0.pending) :
    (@State.respond s m go).pending = s.pending := by
  unfold State.respond; try dsimp only []
  repeat' (first | (simp [*]; done) | split | intro _)

@[simp] theorem State.chainDigest_pending (s : State) :
    ((@State.chainDigest s).2).pending = s.pending := by
  unfold State.chainDigest; simp

@[simp] theorem State.answerChallenge_pending (s : State) (m : Spdm) :
    (@State.answerChallenge s m).pending = s.pending := by
  unfold State.answerChallenge; simp

@[simp] theorem State.answerMeasure_pending (s : State) (m : Spdm) :
    (@State.answerMeasure s m).pending = s.pending := by
  unfold State.answerMeasure; simp

@[simp] theorem State.answerExchange_pending (s : State) (m : Spdm) :
    (@State.answerExchange s m).pending = s.pending := by
  unfold State.answerExchange; try dsimp only []
  repeat' (first | (simp [*]; done) | split | intro _)

@[simp] theorem State.answerRandom_pending (s : State) (code : Nat) (m : Spdm) :
    (@State.answerRandom s code m).pending = s.pending := by
  unfold State.answerRandom; try dsimp only []
  repeat' (first | (simp [*]; done) | split | intro _)

@[simp] theorem State.needRandom_pending (s : State) (code : Nat) (m : Spdm) :
    (@State.needRandom s code m).pending = s.pending := by
  unfold State.needRandom; simp

@[simp] theorem State.answerStalled_pending (s : State) :
    (@State.answerStalled s).pending = s.pending := by
  unfold State.answerStalled; simp

@[simp] theorem execGetVersion_pending (m : Spdm) (s : State) :
    (outState (@execGetVersion m s) s).pending = s.pending := by
  unfold execGetVersion; simp

@[simp] theorem execGetCapabilities_pending (m : Spdm) (s : State) :
    (outState (@execGetCapabilities m s) s).pending = s.pending := by
  unfold execGetCapabilities; simp

@[simp] theorem execNegotiateAlgorithms_pending (m : Spdm) (s : State) :
    (outState (@execNegotiateAlgorithms m s) s).pending = s.pending := by
  unfold execNegotiateAlgorithms; simp

@[simp] theorem execGetDigests_pending (m : Spdm) (s : State) :
    (outState (@execGetDigests m s) s).pending = s.pending := by
  unfold execGetDigests; simp

@[simp] theorem execGetCertificate_pending (m : Spdm) (s : State) :
    (outState (@execGetCertificate m s) s).pending = s.pending := by
  unfold execGetCertificate; simp

@[simp] theorem execChallenge_pending (m : Spdm) (s : State) :
    (outState (@execChallenge m s) s).pending = s.pending := by
  unfold execChallenge; simp

@[simp] theorem execGetMeasurements_pending (m : Spdm) (s : State) :
    (outState (@execGetMeasurements m s) s).pending = s.pending := by
  unfold execGetMeasurements; simp

@[simp] theorem execKeyExchange_pending (m : Spdm) (s : State) :
    (outState (@execKeyExchange m s) s).pending = s.pending := by
  unfold execKeyExchange; simp

@[simp] theorem execFinish_pending (m : Spdm) (s : State) :
    (outState (@execFinish m s) s).pending = s.pending := by
  unfold execFinish; try dsimp only []
  repeat' (first | (simp [*]; done) | split | intro _)

@[simp] theorem State.inSession_pending (s : State) (m : Spdm) (go : Nat → State → State)
    (hgo : ∀ n s, (go n s).pending = s.pending) : (s.inSession m go).pending = s.pending := by
  unfold State.inSession
  rw [State.respond_pending]
  intro s
  repeat' (first | rfl | (simp [hgo]; done) | split)

@[simp] theorem execHeartbeat_pending (m : Spdm) (s : State) :
    (outState (@execHeartbeat m s) s).pending = s.pending := by
  unfold execHeartbeat; simp

@[simp] theorem execKeyUpdate_pending (m : Spdm) (s : State) :
    (outState (@execKeyUpdate m s) s).pending = s.pending := by
  unfold execKeyUpdate; simp

@[simp] theorem execEndSession_pending (m : Spdm) (s : State) :
    (outState (@execEndSession m s) s).pending = s.pending := by
  unfold execEndSession; simp

end Sys2Proof.Machine
end

