-- ==== Sys2Proof/Laws/Queue4.lean ====
section
/-! SUPPORT. No operation of the machine changes the queue of commands (part 4): Cxl, DramRows, AtomOps, PacketOps, FlitOps, Flits, Glide, Laps, Launches, Trust, Registers, Memory, Packets, Rows. -/

namespace Sys2Proof.Machine

set_option maxRecDepth 4000

@[simp] theorem State.sizeBars_pending (s : State) (q : Nat) :
    (@State.sizeBars s q).pending = s.pending := by
  unfold State.sizeBars; simp

@[simp] theorem State.setMsix_pending (s : State) (q : Nat) (c : MsixCtl) :
    (@State.setMsix s q c).pending = s.pending := by
  unfold State.setMsix; simp

@[simp] theorem execCxlPortTrain_pending (q : CxlPort) (mode : Fin 4) (speed : Fin 4) (width : Fin 4) (msix : MsixCtl) (s : State) :
    (outState (@execCxlPortTrain q mode speed width msix s) s).pending = s.pending := by
  unfold execCxlPortTrain; simp

@[simp] theorem State.cxlDown_pending (s : State) (q : Nat) :
    (@State.cxlDown s q).pending = s.pending := by
  unfold State.cxlDown; simp

@[simp] theorem execCxlPortDown_pending (q : CxlPort) (s : State) :
    (outState (@execCxlPortDown q s) s).pending = s.pending := by
  unfold execCxlPortDown; simp

@[simp] theorem execPortReset_pending (q : CxlPort) (s : State) :
    (outState (@execPortReset q s) s).pending = s.pending := by
  unfold execPortReset; simp

@[simp] theorem State.writeDvsec_pending (s : State) (q : Nat) (off : Nat) (mask : Nat) (v : Nat) :
    (@State.writeDvsec s q off mask v).pending = s.pending := by
  unfold State.writeDvsec; simp

@[simp] theorem execDvsecWrite_pending (q : CxlPort) (off : BitVec 12) (value : BitVec 64) (s : State) :
    (outState (@execDvsecWrite q off value s) s).pending = s.pending := by
  unfold execDvsecWrite; simp

@[simp] theorem execWindowLock_pending (q : CxlPort) (i : Fin 16) (s : State) :
    (outState (@execWindowLock q i s) s).pending = s.pending := by
  unfold execWindowLock; simp

@[simp] theorem execHostBar4Access_pending (q : CxlPort) (a : Bar4Access) (s : State) :
    (outState (@execHostBar4Access q a s) s).pending = s.pending := by
  unfold execHostBar4Access; simp

@[simp] theorem execDoeDiscovery_pending (q : CxlPort) (index : BitVec 8) (s : State) :
    (outState (@execDoeDiscovery q index s) s).pending = s.pending := by
  unfold execDoeDiscovery; simp

@[simp] theorem execCxlTableAccess_pending (q : CxlPort) (handle : BitVec 16) (s : State) :
    (outState (@execCxlTableAccess q handle s) s).pending = s.pending := by
  unfold execCxlTableAccess; simp

@[simp] theorem State.setIde_pending (s : State) (q : Nat) (m : IdeKm) (key : List Byte) (use : Bool) :
    (@State.setIde s q m key use).pending = s.pending := by
  unfold State.setIde; simp

@[simp] theorem State.ideReply_pending (s : State) (q : Nat) (m : IdeKm) (object : Nat) (status : Nat) :
    (@State.ideReply s q m object status).pending = s.pending := by
  unfold State.ideReply; simp

@[simp] theorem execIdeKm_pending (q : CxlPort) (m : IdeKm) (s : State) :
    (outState (@execIdeKm q m s) s).pending = s.pending := by
  unfold execIdeKm; try dsimp only []
  repeat' (first | (simp [*]; done) | split | intro _)

@[simp] theorem execMapEnable_pending (tier : Tier) (s : State) :
    (outState (@execMapEnable tier s) s).pending = s.pending := by
  unfold execMapEnable; simp

@[simp] theorem execMapDisable_pending (tier : Tier) (s : State) :
    (outState (@execMapDisable tier s) s).pending = s.pending := by
  unfold execMapDisable; simp

@[simp] theorem execHashKeyWrite_pending (tier : Tier) (key : BitVec 64) (s : State) :
    (outState (@execHashKeyWrite tier key s) s).pending = s.pending := by
  unfold execHashKeyWrite; simp

@[simp] theorem execRegionInitDone_pending (tier : Tier) (region : Nat) (s : State) :
    (outState (@execRegionInitDone tier region s) s).pending = s.pending := by
  unfold execRegionInitDone; simp

@[simp] theorem execQueueHotDetect_pending (tier : Tier) (unit : Fin 24) (depth : Fin 257) (s : State) :
    (outState (@execQueueHotDetect tier unit depth s) s).pending = s.pending := by
  unfold execQueueHotDetect; simp

@[simp] theorem execActLimitReached_pending (tier : Tier) (unit : Fin 24) (row : Nat) (s : State) :
    (outState (@execActLimitReached tier unit row s) s).pending = s.pending := by
  unfold execActLimitReached; simp

@[simp] theorem execDimmActAlert_pending (unit : Fin 24) (s : State) :
    (outState (@execDimmActAlert unit s) s).pending = s.pending := by
  unfold execDimmActAlert; simp

@[simp] theorem execRefreshWindowEnd_pending (tier : Tier) (unit : Fin 24) (s : State) :
    (outState (@execRefreshWindowEnd tier unit s) s).pending = s.pending := by
  unfold execRefreshWindowEnd; simp

@[simp] theorem execDramTempReport_pending (tier : Tier) (unit : Fin 24) (temp : BitVec 8) (s : State) :
    (outState (@execDramTempReport tier unit temp s) s).pending = s.pending := by
  unfold execDramTempReport; simp

@[simp] theorem State.findBad_pending (s : State) (line : Nat) (h : LineHome) :
    (@State.findBad s line h).pending = s.pending := by
  unfold State.findBad; simp

@[simp] theorem State.countInner_pending (s : State) (h : LineHome) (n : Nat) :
    (@State.countInner s h n).pending = s.pending := by
  unfold State.countInner; try dsimp only []
  repeat' (first | (simp [*]; done) | split | intro _)

@[simp] theorem execPatrolScrubRead_pending (line : Nat) (errs : CodeErrors) (inner : BitVec 8) (hours : Nat) (s : State) :
    (outState (@execPatrolScrubRead line errs inner hours s) s).pending = s.pending := by
  unfold execPatrolScrubRead; try dsimp only []
  repeat' (first | (simp [*]; done) | split | intro _)

@[simp] theorem execScrubWriteback_pending (line : Nat) (s : State) :
    (outState (@execScrubWriteback line s) s).pending = s.pending := by
  unfold execScrubWriteback; try dsimp only []
  repeat' (first | (simp [*]; done) | split | intro _)

@[simp] theorem execNearColumnRemapDone_pending (unit : Fin 24) (s : State) :
    (outState (@execNearColumnRemapDone unit s) s).pending = s.pending := by
  unfold execNearColumnRemapDone; try dsimp only []
  repeat' (first | (simp [*]; done) | split | intro _)

@[simp] theorem State.atomAt_pending (s : State) (a : Nat) (op : Nat) (sz : Nat) (x : Nat) (cmp : Nat) :
    ((@State.atomAt s a op sz x cmp).2).pending = s.pending := by
  unfold State.atomAt; simp

@[simp] theorem State.forward_pending (s : State) (p : Nat) (typ : Nat) (k : Packet) :
    (@State.forward s p typ k).pending = s.pending := by
  unfold State.forward; try dsimp only []
  repeat' (first | (simp [*]; done) | split | intro _)

@[simp] theorem State.sendAck_pending (s : State) (src : Nat) (vc : Nat) (rf : RecvFlow) :
    (@State.sendAck s src vc rf).pending = s.pending := by
  unfold State.sendAck; simp

@[simp] theorem State.commitRecv_pending (s : State) (src : Nat) (vc : Nat) (k : Packet) (rf : RecvFlow) :
    (@State.commitRecv s src vc k rf).pending = s.pending := by
  unfold State.commitRecv; simp

@[simp] theorem State.sendNack_pending (s : State) (src : Nat) (vc : Nat) (k : Packet) (reason : Nat) :
    (@State.sendNack s src vc k reason).pending = s.pending := by
  unfold State.sendNack; simp

@[simp] theorem State.dropLapEntry_pending (s : State) (vc : Nat) (rf : RecvFlow) :
    (@State.dropLapEntry s vc rf).pending = s.pending := by
  unfold State.dropLapEntry; simp

theorem State.serveLoad_pending (s : State) (src : Nat) (body : List Byte) (r0 : State) (h0 : @State.serveLoad s src body = some r0) :
    r0.pending = s.pending := by
  unfold State.serveLoad at h0; (try dsimp only [] at h0)
  repeat' split at h0
  all_goals first | (cases h0; done) | (cases h0; first | rfl | simp [*])

theorem State.serveStore_pending (s : State) (src : Nat) (body : List Byte) (r0 : State) (h0 : @State.serveStore s src body = some r0) :
    r0.pending = s.pending := by
  unfold State.serveStore at h0; (try dsimp only [] at h0)
  repeat' split at h0
  all_goals first | (cases h0; done) | (cases h0; first | rfl | simp [*])

theorem State.serveAtomic_pending (s : State) (src : Nat) (body : List Byte) (r0 : State) (h0 : @State.serveAtomic s src body = some r0) :
    r0.pending = s.pending := by
  unfold State.serveAtomic at h0; (try dsimp only [] at h0)
  repeat' split at h0
  all_goals first | (cases h0; done) | (cases h0; first | rfl | simp [*])

theorem State.serve_pending (s : State) (q : PeerReq) (r0 : State) (h0 : @State.serve s q = some r0) :
    r0.pending = s.pending := by
  unfold State.serve at h0
  repeat' split at h0
  · cases h0
  · exact State.serveLoad_pending _ _ _ _ h0
  · exact State.serveAtomic_pending _ _ _ _ h0
  · exact State.serveStore_pending _ _ _ _ h0

@[simp] theorem State.serveInbox_pending (s : State) :
    (@State.serveInbox s).pending = s.pending := by
  unfold State.serveInbox
  split
  · rfl
  · dsimp only []
    rw [foldl_fst_pending]
    intro a q
    split
    · rfl
    · split
      · rfl
      · exact State.serve_pending _ _ _ ‹_›

@[simp] theorem State.arriveReq_pending (s : State) (q : PeerReq) :
    (@State.arriveReq s q).pending = s.pending := by
  unfold State.arriveReq
  dsimp only []
  split
  · simp
  · cases h : s.serveInbox.serve q with
    | none => simp
    | some r => simp [State.serve_pending _ _ _ h]

@[simp] theorem State.takeReq_pending (s : State) (rf : RecvFlow) (q : PeerReq) :
    (@State.takeReq s rf q).st.pending = s.pending := by
  unfold State.takeReq; simp

@[simp] theorem State.takeAnswer_pending (s : State) (rf : RecvFlow) (body : List Byte) :
    (@State.takeAnswer s rf body).st.pending = s.pending := by
  unfold State.takeAnswer; try dsimp only []
  repeat' (first | (simp [*]; done) | split | intro _)

@[simp] theorem State.takeLap_pending (s : State) (src : Nat) (i : Nat) (rf : RecvFlow) (body : List Byte) :
    (@State.takeLap s src i rf body).st.pending = s.pending := by
  unfold State.takeLap; try dsimp only []
  repeat' (first | (simp [*]; done) | split | intro _)

@[simp] theorem State.takeRelay_pending (s : State) (src vc : Nat) (rf : RecvFlow) (body : List Byte) :
    (State.takeRelay s src vc rf body).st.pending = s.pending := by
  unfold State.takeRelay
  split
  · rfl
  · split
    · rfl
    · exact State.relayPacket_pending _ _ _ _ _ _ ‹_›

@[simp] theorem State.consume_pending (s : State) (p : Nat) (typ : Nat) (src : Nat) (vc : Nat) (rf : RecvFlow) (body : List Byte) :
    (@State.consume s p typ src vc rf body).st.pending = s.pending := by
  unfold State.consume; try dsimp only []
  repeat' (first | (simp [*]; done) | split | intro _)

@[simp] theorem State.receive_pending (s : State) (p typ : Nat) (k : Packet) : (State.receive s p typ k).pending = s.pending := by
  unfold State.receive
  dsimp only []
  split
  · rfl
  · simp
  · simp
  · rename_i rf old _
    cases old
    all_goals
      dsimp only []
      split
      all_goals
        rename_i hq
        have h := congrArg (fun x => (Take.st x).pending) hq
        simp at h
        repeat' (first | (simp [← h]; done) | split)

@[simp] theorem State.takeNack_pending (s : State) (k : Packet) :
    (@State.takeNack s k).pending = s.pending := by
  unfold State.takeNack; try dsimp only []
  repeat' (first | (simp [*]; done) | split | intro _)

@[simp] theorem State.noticeArrives_pending (s : State) (p : Nat) (k : Packet) :
    (@State.noticeArrives s p k).pending = s.pending := by
  unfold State.noticeArrives; simp

@[simp] theorem State.idle_pending (s : State) :
    (@State.idle s).pending = s.pending := by
  unfold State.idle; simp

@[simp] theorem State.atHome_pending (s : State) (p : Nat) (typ : Nat) (k : Packet) :
    (@State.atHome s p typ k).pending = s.pending := by
  unfold State.atHome; simp

@[simp] theorem State.arrive_pending (s : State) (p : Nat) (typ : Nat) (k : Packet) :
    (@State.arrive s p typ k).pending = s.pending := by
  unfold State.arrive; simp

@[simp] theorem State.beginForward_pending (s : State) (p : Nat) (k : InPkt) :
    (@State.beginForward s p k).pending = s.pending := by
  unfold State.beginForward; try dsimp only []
  repeat' (first | (simp [*]; done) | split | intro _)

@[simp] theorem State.fillHole_pending (s : State) (q : Nat) (o : OutPkt) (bs : List Byte) (short : Bool) :
    (@State.fillHole s q o bs short).pending = s.pending := by
  unfold State.fillHole; try dsimp only []
  repeat' (first | (simp [*]; done) | split | intro _)

@[simp] theorem State.growForward_pending (s : State) (p : Nat) (k : InPkt) (bs : List Byte) (short : Bool) : (s.growForward p k bs short).pending = s.pending := by
  unfold State.growForward
  rw [foldl_pending]
  intro s q
  dsimp only []
  repeat' (first | rfl | (simp; done) | split)

theorem State.landEntry_pending (s : State) (k : Packet) (r0 : RecvFlow × State) (h0 : @State.landEntry s k = some r0) :
    (r0.2).pending = s.pending := by
  unfold State.landEntry at h0; (try dsimp only [] at h0)
  repeat' split at h0
  all_goals first | (cases h0; done) | (cases h0; first | rfl | simp [*])

@[simp] theorem State.recordLanded_pending (s : State) (k : Packet) (n : Nat) :
    (@State.recordLanded s k n).pending = s.pending := by
  unfold State.recordLanded; simp

@[simp] theorem State.cameBy_pending (s : State) (p : Nat) (k : Packet) :
    (@State.cameBy s p k).pending = s.pending := by
  unfold State.cameBy; simp

@[simp] theorem State.flitLap_pending (s : State) (k : Packet) (off : Nat) (bs : List Byte) (good : Bool) :
    (State.flitLap s k off bs good).pending = s.pending := by
  unfold State.flitLap
  dsimp only []
  split
  · rfl
  · have h := State.landEntry_pending _ _ _ ‹_›
    simp only [] at h
    split
    · rfl
    · split
      · rfl
      · have h2 := State.lapWindow_pending _ _ _ _ ‹_›
        simp only [] at h2
        repeat' (first | (simp [h, h2]; done) | split)

@[simp] theorem State.faultTxn_pending (s : State) (tag : Nat) (fault : Nat) :
    (@State.faultTxn s tag fault).pending = s.pending := by
  unfold State.faultTxn; try dsimp only []
  repeat' (first | (simp [*]; done) | split | intro _)

@[simp] theorem State.landPlain_pending (s : State) (tag : Nat) (c : Landing) (a : Nat) (bs : List Byte) :
    (@State.landPlain s tag c a bs).pending = s.pending := by
  unfold State.landPlain; simp

@[simp] theorem State.flitAnswer_pending (s : State) (k : InPkt) (off : Nat) (bs : List Byte) (good : Bool) :
    (State.flitAnswer s k off bs good).pending = s.pending := by
  unfold State.flitAnswer
  dsimp only []
  split
  · rfl
  split
  · have h := State.landEntry_pending _ _ _ ‹_›
    simp only [] at h
    split
    · rfl
    split
    · simp [h]
    split
    · rename_i hw
      split at hw
      · have h2 := State.windowFor_pending _ _ _ _ hw
        simp at h2
        split <;> simp [h, h2]
      · cases hw
    · split <;> simp [h]
  · rfl

@[simp] theorem State.flitBulk_pending (s : State) (k : InPkt) (off : Nat) (bs : List Byte) :
    (State.flitBulk s k off bs).pending = s.pending := by
  unfold State.flitBulk
  dsimp only []
  repeat' (first | rfl | (have h := State.landEntry_pending _ _ _ ‹_›; simp at h; simp [h]; done) | split)

@[simp] theorem State.flitRelay_pending (s : State) (k : InPkt) (off : Nat) (bs : List Byte) :
    (State.flitRelay s k off bs).pending = s.pending := by
  unfold State.flitRelay
  split
  · rfl
  · have h := State.landEntry_pending _ _ _ ‹_›
    dsimp only [] at h ⊢
    split <;> simp [h]

@[simp] theorem State.flitLands_pending (s : State) (k : InPkt) (bs : List Byte) (good : Bool) :
    (@State.flitLands s k bs good).pending = s.pending := by
  unfold State.flitLands; simp

@[simp] theorem State.takeHeaders_pending (s : State) (p : Nat) (ks : List InPkt) :
    (@State.takeHeaders s p ks).pending = s.pending := by
  unfold State.takeHeaders; simp

@[simp] theorem State.dataLands_pending (s : State) (p : Nat) (k : InPkt) (bs : List Byte) (short : Bool) :
    (@State.dataLands s p k bs short).pending = s.pending := by
  unfold State.dataLands; simp

@[simp] theorem State.takeData_pending (s : State) (p : Nat) (f : Flit) :
    (@State.takeData s p f).pending = s.pending := by
  unfold State.takeData; try dsimp only []
  repeat' (first | (simp [*]; done) | split | intro _)

@[simp] theorem State.failForward_pending (s : State) (p : Nat) (k : InPkt) (bs : List Byte) : (s.failForward p k bs).pending = s.pending := by
  unfold State.failForward
  rw [foldl_pending]
  intro s q
  dsimp only []
  repeat' (first | rfl | (simp; done) | split)

@[simp] theorem State.flitFails_pending (s : State) (p : Nat) (f : Flit) (r : FecReport) :
    (@State.flitFails s p f r).pending = s.pending := by
  unfold State.flitFails; try dsimp only []
  repeat' (first | (simp [*]; done) | split | intro _)

@[simp] theorem State.flitPasses_pending (s : State) (p : Nat) (f : Flit) :
    (@State.flitPasses s p f).pending = s.pending := by
  unfold State.flitPasses; simp

@[simp] theorem State.sendFlit_pending (s : State) (p : Nat) (f : Flit) :
    (@State.sendFlit s p f).pending = s.pending := by
  unfold State.sendFlit; simp

@[simp] theorem State.sendIdle_pending (s : State) (p : Nat) :
    (@State.sendIdle s p).pending = s.pending := by
  unfold State.sendIdle; simp

@[simp] theorem State.sendNew_pending (s : State) (p : Nat) (x : LinkPort) (f : Flit) :
    (@State.sendNew s p x f).pending = s.pending := by
  unfold State.sendNew; simp

@[simp] theorem State.sendHeaders_pending (s : State) (p : Nat) :
    (@State.sendHeaders s p).pending = s.pending := by
  unfold State.sendHeaders; simp

@[simp] theorem State.sendData_pending (s : State) (p : Nat) (key : Nat) (o : OutPkt) :
    (@State.sendData s p key o).pending = s.pending := by
  unfold State.sendData; simp

@[simp] theorem execFlitReceive_pending (p : Port) (f : Flit) (r : FecReport) (s : State) :
    (outState (@execFlitReceive p f r s) s).pending = s.pending := by
  unfold execFlitReceive; simp

@[simp] theorem execFlitTransmit_pending (p : Port) (s : State) :
    (outState (@execFlitTransmit p s) s).pending = s.pending := by
  unfold execFlitTransmit; try dsimp only []
  repeat' (first | (simp [*]; done) | split | intro _)

@[simp] theorem State.discardLines_pending (s : State) (ls : List Nat) :
    (@State.discardLines s ls).pending = s.pending := by
  unfold State.discardLines; simp

@[simp] theorem execGlideWindowTimeout_pending (c : Cid) (w : Fin 8) (s : State) :
    (outState (@execGlideWindowTimeout c w s) s).pending = s.pending := by
  unfold execGlideWindowTimeout; try dsimp only []
  repeat' (first | (simp [*]; done) | split | intro _)

@[simp] theorem execTileGlideCtlWrite_pending (tile : Fin 36) (value : BitVec 64) (s : State) :
    (outState (@execTileGlideCtlWrite tile value s) s).pending = s.pending := by
  unfold execTileGlideCtlWrite; simp

@[simp] theorem State.postLap_pending (s : State) (t : Nat) (i : Nat) (slice : Nat) (a : Nat) (bar : Nat) (discard : Bool) :
    (@State.postLap s t i slice a bar discard).st.pending = s.pending := by
  unfold State.postLap; simp

@[simp] theorem execLapPost_pending (t : Tid) (w : IWord) (s : State) :
    (outState (@execLapPost t w s) s).pending = s.pending := by
  unfold execLapPost; simp

@[simp] theorem execLapPostDiscard_pending (t : Tid) (w : IWord) (s : State) :
    (outState (@execLapPostDiscard t w s) s).pending = s.pending := by
  unfold execLapPostDiscard; simp

@[simp] theorem execLapSend_pending (t : Tid) (w : IWord) (s : State) :
    (outState (@execLapSend t w s) s).pending = s.pending := by
  unfold execLapSend; simp

@[simp] theorem State.runRanges_pending (s : State) (tile wn d token n : Nat) (sc : Bool) :
    (s.runRanges tile wn d token n sc).2.2.pending = s.pending := by
  unfold State.runRanges
  dsimp only []
  generalize (List.range _).map _ = l
  have h : ∀ (q : List (Nat × Nat) × Bool × State) (l : List Nat) (g : (List (Nat × Nat) × Bool × State) → Nat →
      (List (Nat × Nat) × Bool × State)), (∀ q i, (g q i).2.2.pending = q.2.2.pending) → (l.foldl g q).2.2.pending = q.2.2.pending := by
    intro q l g hg
    induction l generalizing q with
    | nil => rfl
    | cons a l ih => rw [List.foldl, ih, hg]
  rw [h]
  intro q i
  simp

@[simp] theorem execLapSendKv_pending (t : Tid) (w : IWord) (s : State) :
    (outState (@execLapSendKv t w s) s).pending = s.pending := by
  unfold execLapSendKv; simp

@[simp] theorem execLapArm_pending (i : Fin 2) (s : State) :
    (outState (@execLapArm i s) s).pending = s.pending := by
  unfold execLapArm; simp

@[simp] theorem execLapDisarm_pending (i : Fin 2) (s : State) :
    (outState (@execLapDisarm i s) s).pending = s.pending := by
  unfold execLapDisarm; simp

@[simp] theorem execTblLoad_pending (t : Tid) (w : IWord) (s : State) :
    (outState (@execTblLoad t w s) s).pending = s.pending := by
  unfold execTblLoad; simp

@[simp] theorem State.tblSwitch_pending (s : State) (tile : Nat) :
    (@State.tblSwitch s tile).pending = s.pending := by
  unfold State.tblSwitch; simp

@[simp] theorem execTblFence_pending (t : Tid) (w : IWord) (s : State) :
    (outState (@execTblFence t w s) s).pending = s.pending := by
  unfold execTblFence; simp

@[simp] theorem execTblLoadDone_pending (tile : Fin 36) (s : State) :
    (outState (@execTblLoadDone tile s) s).pending = s.pending := by
  unfold execTblLoadDone; try dsimp only []
  repeat' (first | (simp [*]; done) | split | intro _)

@[simp] theorem execTblGenSwitch_pending (tile : Fin 36) (s : State) :
    (outState (@execTblGenSwitch tile s) s).pending = s.pending := by
  unfold execTblGenSwitch; try dsimp only []
  repeat' (first | (simp [*]; done) | split | intro _)

@[simp] theorem State.startThread_pending (s : State) (k : CmdRef) (b : LaunchBody) (t : Nat) :
    (@State.startThread s k b t).pending = s.pending := by
  unfold State.startThread; simp

@[simp] theorem execLaunch_pending (k : CmdRef) (s : State) :
    (outState (@execLaunch k s) s).pending = s.pending := by
  unfold execLaunch; try dsimp only []
  repeat' (first | (simp [*]; done) | split | intro _)

@[simp] theorem execLaunchComplete_pending (k : CmdRef) (s : State) :
    (outState (@execLaunchComplete k s) s).pending = s.pending := by
  unfold execLaunchComplete; try dsimp only []
  repeat' (first | (simp [*]; done) | split | intro _)

@[simp] theorem execRngHealthTest_pending (pass : Bool) (s : State) :
    (outState (@execRngHealthTest pass s) s).pending = s.pending := by
  unfold execRngHealthTest; simp

@[simp] theorem State.commitSvn_pending (s : State) :
    (@State.commitSvn s).pending = s.pending := by
  unfold State.commitSvn; simp

@[simp] theorem execSvnCommit_pending (s : State) :
    (outState (@execSvnCommit s) s).pending = s.pending := by
  unfold execSvnCommit; simp

@[simp] theorem execSvnFuseDone_pending (s : State) :
    (outState (@execSvnFuseDone s) s).pending = s.pending := by
  unfold execSvnFuseDone; simp

@[simp] theorem execLicence_pending (k : CmdRef) (s : State) :
    (outState (@execLicence k s) s).pending = s.pending := by
  unfold execLicence; try dsimp only []
  repeat' (first | (simp [*]; done) | split | intro _)

@[simp] theorem State.resumeMgmt_pending (s : State) :
    (@State.resumeMgmt s).pending = s.pending := by
  unfold State.resumeMgmt; simp

@[simp] theorem State.kick_pending (s : State) :
    (@State.kick s).pending = s.pending := by
  unfold State.kick; simp

@[simp] theorem execWdtKick_pending (agent : Agent) (s : State) :
    (outState (@execWdtKick agent s) s).pending = s.pending := by
  unfold execWdtKick; try dsimp only []
  repeat' (first | (simp [*]; done) | split | intro _)

@[simp] theorem State.failLoad_pending (s : State) (fault : Nat) :
    (@State.failLoad s fault).pending = s.pending := by
  unfold State.failLoad; simp

@[simp] theorem execWdtExpiry_pending (s : State) :
    (outState (@execWdtExpiry s) s).pending = s.pending := by
  unfold execWdtExpiry; simp

@[simp] theorem State.sendChunks_pending (s : State) (d : Nat) (x : FwImg) (bs : List Byte) (bcast : Bool) :
    (@State.sendChunks s d x bs bcast).pending = s.pending := by
  unfold State.sendChunks; simp

@[simp] theorem State.loadHere_pending (s : State) (x : FwImg) (bs : List Byte) :
    (@State.loadHere s x bs).pending = s.pending := by
  unfold State.loadHere; simp

@[simp] theorem State.showLoad_pending (s : State) :
    (@State.showLoad s).pending = s.pending := by
  unfold State.showLoad; simp

@[simp] theorem State.placeLoad_pending (s : State) (x : FwImg) (bs : List Byte) :
    (@State.placeLoad s x bs).pending = s.pending := by
  unfold State.placeLoad; simp

@[simp] theorem State.startLoad_pending (s : State) :
    (@State.startLoad s).pending = s.pending := by
  unfold State.startLoad; simp

@[simp] theorem execFwLoadStart_pending (s : State) :
    (outState (@execFwLoadStart s) s).pending = s.pending := by
  unfold execFwLoadStart; simp

@[simp] theorem State.endBist_pending (s : State) (x : BistRun) :
    (@State.endBist s x).pending = s.pending := by
  unfold State.endBist; simp

@[simp] theorem execBist_pending (k : CmdRef) (s : State) :
    (outState (@execBist k s) s).pending = s.pending := by
  unfold execBist; try dsimp only []
  repeat' (first | (simp [*]; done) | split | intro _)

@[simp] theorem State.bistResult_pending (s : State) (x : BistRun) (r : BistResult) :
    ((@State.bistResult s x r).1).pending = s.pending := by
  unfold State.bistResult; simp

@[simp] theorem execBistGroupDone_pending (rs : List BistResult) (s : State) :
    (outState (@execBistGroupDone rs s) s).pending = s.pending := by
  unfold execBistGroupDone; try dsimp only []
  repeat' (first | (simp [*]; done) | split | intro _)

@[simp] theorem State.writeClamped_pending (s : State) (r : Reg) (mask : Nat) (v : Nat) (cl : List (Fld × Nat × Nat)) :
    (@State.writeClamped s r mask v cl).pending = s.pending := by
  unfold State.writeClamped; simp

@[simp] theorem State.requestSwing_pending (s : State) (cxl : Bool) (mv : Nat) :
    (@State.requestSwing s cxl mv).pending = s.pending := by
  unfold State.requestSwing; simp

@[simp] theorem State.limit_pending (s : State) (f : Fld) (lo : Nat) (hi : Nat) :
    (@State.limit s f lo hi).pending = s.pending := by
  unfold State.limit; simp

@[simp] theorem State.writeLapCfg_pending (s : State) (i : Nat) (mask : Nat) (v : Nat) :
    (@State.writeLapCfg s i mask v).pending = s.pending := by
  unfold State.writeLapCfg; simp

@[simp] theorem State.writeKvCtl_pending (s : State) (mask : Nat) (v : Nat) :
    (@State.writeKvCtl s mask v).pending = s.pending := by
  unfold State.writeKvCtl; simp

@[simp] theorem State.writeKvCfg_pending (s : State) (r : Reg) (mask : Nat) (v : Nat) :
    (@State.writeKvCfg s r mask v).pending = s.pending := by
  unfold State.writeKvCfg; simp

@[simp] theorem State.writeCpr_pending (s : State) (mask : Nat) (v : Nat) :
    (@State.writeCpr s mask v).pending = s.pending := by
  unfold State.writeCpr; simp

@[simp] theorem State.writeWdt_pending (s : State) (ctl : Bool) (mask : Nat) (v : Nat) :
    (@State.writeWdt s ctl mask v).pending = s.pending := by
  unfold State.writeWdt; simp

@[simp] theorem State.writeFwb_pending (s : State) (mask : Nat) (v : Nat) :
    (@State.writeFwb s mask v).pending = s.pending := by
  unfold State.writeFwb; simp

@[simp] theorem State.writePortCtl_pending (s : State) (p : Nat) (mask : Nat) (v : Nat) :
    (@State.writePortCtl s p mask v).pending = s.pending := by
  unfold State.writePortCtl; simp

@[simp] theorem State.writeGuard_pending (s : State) (k : Tier) (mask : Nat) (v : Nat) :
    (@State.writeGuard s k mask v).pending = s.pending := by
  unfold State.writeGuard; simp

@[simp] theorem State.writeTherm_pending (s : State) (mask : Nat) (v : Nat) :
    (@State.writeTherm s mask v).pending = s.pending := by
  unfold State.writeTherm; simp

@[simp] theorem State.writeJrnl_pending (s : State) (mask : Nat) (v : Nat) :
    (@State.writeJrnl s mask v).pending = s.pending := by
  unfold State.writeJrnl; simp

@[simp] theorem State.writeReg_pending (s : State) (ctl : Bool) (r : Reg) (mask : Nat) (v : Nat) :
    (@State.writeReg s ctl r mask v).pending = s.pending := by
  unfold State.writeReg; try dsimp only []
  repeat' (first | (simp [*]; done) | split | intro _)

@[simp] theorem State.writeWindow_pending (s : State) (b : Nat) (r : Nat) (mask : Nat) (v : Nat) :
    (@State.writeWindow s b r mask v).pending = s.pending := by
  unfold State.writeWindow; simp

@[simp] theorem State.csrPut_pending (s : State) (ctl : Bool) (off : Nat) (size : AccessSize) (v : Nat) :
    (@State.csrPut s ctl off size v).pending = s.pending := by
  unfold State.csrPut; try dsimp only []
  repeat' (first | (simp [*]; done) | split | intro _)

@[simp] theorem State.csrWrite_pending (s : State) (ctl : Bool) (off : Nat) (size : AccessSize) (v : Nat) :
    (@State.csrWrite s ctl off size v).pending = s.pending := by
  unfold State.csrWrite; simp

@[simp] theorem State.csrRead_pending (s : State) (ctl : Bool) (off : Nat) (size : AccessSize) :
    ((@State.csrRead s ctl off size).1).pending = s.pending := by
  unfold State.csrRead; simp

@[simp] theorem State.threadCsr_pending (s : State) (off : Nat) (size : AccessSize) (v : Nat) :
    (@State.threadCsr s off size v).pending = s.pending := by
  unfold State.threadCsr; simp

@[simp] theorem execRegisterWrite_pending (agent : Agent) (off : BitVec 26) (size : AccessSize) (value : BitVec 64) (s : State) :
    (outState (@execRegisterWrite agent off size value s) s).pending = s.pending := by
  unfold execRegisterWrite; try dsimp only []
  repeat' (first | (simp [*]; done) | split | intro _)

@[simp] theorem State.addLoad_pending (s : State) (t : Nat) (l : Load) :
    (@State.addLoad s t l).pending = s.pending := by
  unfold State.addLoad; simp

@[simp] theorem State.csrLoad_pending (s : State) (off : Nat) (size : Nat) (scalar : Bool) :
    ((@State.csrLoad s off size scalar).1).pending = s.pending := by
  unfold State.csrLoad; simp

@[simp] theorem State.loadRuns_pending (s : State) (t : Nat) (dev : Nat) (runs : List (Nat × Nat)) (dest : Dest) (size : Nat) (skip : Nat) (sext : Bool) (glide : Bool) (tag : BitVec 8) (r0 : TRegs) :
    (@State.loadRuns s t dev runs dest size skip sext glide tag r0).st.pending = s.pending := by
  unfold State.loadRuns; try dsimp only []
  repeat' (first | (simp [*]; done) | split | intro _)

@[simp] theorem scalarLoad_pending (t : Tid) (w : IWord) (glide : Bool) (s : State) :
    (@scalarLoad t w glide s).pending = s.pending := by
  unfold scalarLoad; simp

@[simp] theorem vectorLoad_pending (t : Tid) (w : IWord) (glide : Bool) (s : State) :
    (@vectorLoad t w glide s).pending = s.pending := by
  unfold vectorLoad; simp

@[simp] theorem execLd_pending (t : Tid) (w : IWord) (s : State) :
    (outState (@execLd t w s) s).pending = s.pending := by
  unfold execLd; simp

@[simp] theorem execLdGlide_pending (t : Tid) (w : IWord) (s : State) :
    (outState (@execLdGlide t w s) s).pending = s.pending := by
  unfold execLdGlide; simp

@[simp] theorem execVld_pending (t : Tid) (w : IWord) (s : State) :
    (outState (@execVld t w s) s).pending = s.pending := by
  unfold execVld; simp

@[simp] theorem execVldGlide_pending (t : Tid) (w : IWord) (s : State) :
    (outState (@execVldGlide t w s) s).pending = s.pending := by
  unfold execVldGlide; simp

@[simp] theorem execDscLd_pending (t : Tid) (w : IWord) (s : State) :
    (outState (@execDscLd t w s) s).pending = s.pending := by
  unfold execDscLd; simp

@[simp] theorem State.storeRuns_pending (s : State) (t : Nat) (dev : Nat) (runs : List ((Nat × Nat) × List Byte)) (size : Option Nat) (tag : BitVec 8) :
    (@State.storeRuns s t dev runs size tag).st.pending = s.pending := by
  unfold State.storeRuns; try dsimp only []
  repeat' (first | (simp [*]; done) | split | intro _)

@[simp] theorem execSt_pending (t : Tid) (w : IWord) (s : State) :
    (outState (@execSt t w s) s).pending = s.pending := by
  unfold execSt; simp

@[simp] theorem execVst_pending (t : Tid) (w : IWord) (s : State) :
    (outState (@execVst t w s) s).pending = s.pending := by
  unfold execVst; simp

@[simp] theorem State.atomSend_pending (s : State) (t : Nat) (w : IWord) (x : Thread) (dev : Nat) (v : Nat) (cmp : Nat) (tag : BitVec 8) :
    (@State.atomSend s t w x dev v cmp tag).pending = s.pending := by
  unfold State.atomSend; simp

@[simp] theorem State.atomHere_pending (s : State) (t : Nat) (w : IWord) (a : Nat) (v : Nat) (cmp : Nat) (tag : BitVec 8) :
    (@State.atomHere s t w a v cmp tag).pending = s.pending := by
  unfold State.atomHere; simp

@[simp] theorem execAtom_pending (t : Tid) (w : IWord) (s : State) :
    (outState (@execAtom t w s) s).pending = s.pending := by
  unfold execAtom; simp

@[simp] theorem State.bfxSend_pending (s : State) (th : Nat) (dst : Nat) (x : Thread) (qs : List (Nat × Nat × Bool)) :
    (@State.bfxSend s th dst x qs).pending = s.pending := by
  unfold State.bfxSend; simp

@[simp] theorem bfxLane_pending (th : Nat) (tag : BitVec 8) (s : State) (q : Nat × Nat × Bool) :
    (bfxLane th tag s q).pending = s.pending :=
  (State.tagWritten_pending ((s.touch q.1 8).atomAt q.1 10 3 q.2.1 0).2 th
    ((cellsFrom q.1 (leBytes 8 0)).filter (fun c => lineInCore (coreOf th) (lineOf c.1))) tag).trans
  ((State.atomAt_pending (s.touch q.1 8) q.1 10 3 q.2.1 0).trans (State.touch_pending s q.1 8))

@[simp] theorem State.bfxAdd_pending (s : State) (th : Nat) (qs : List (Nat × Nat × Bool)) (tag : BitVec 8) :
    (State.bfxAdd s th qs tag).pending = s.pending :=
  (foldl_pending (bfxLane th tag) qs (s.flagFld Fd.REL_STAT_ATOM_OVF (qs.any (fun q => q.2.2)))
    (bfxLane_pending th tag)).trans
    (State.flagFld_pending s Fd.REL_STAT_ATOM_OVF (qs.any (fun q => q.2.2)))

@[simp] theorem execAtomAddBfx_pending (t : Tid) (w : IWord) (s : State) :
    (outState (@execAtomAddBfx t w s) s).pending = s.pending := by
  unfold execAtomAddBfx; simp

@[simp] theorem execLoadReq_pending (p : Port) (k : Packet) (s : State) :
    (outState (@execLoadReq p k s) s).pending = s.pending := by
  unfold execLoadReq; simp

@[simp] theorem execLoadResp_pending (p : Port) (k : Packet) (s : State) :
    (outState (@execLoadResp p k s) s).pending = s.pending := by
  unfold execLoadResp; simp

@[simp] theorem execStore_pending (p : Port) (k : Packet) (s : State) :
    (outState (@execStore p k s) s).pending = s.pending := by
  unfold execStore; simp

@[simp] theorem execAtomic_pending (p : Port) (k : Packet) (s : State) :
    (outState (@execAtomic p k s) s).pending = s.pending := by
  unfold execAtomic; simp

@[simp] theorem execAtomicResp_pending (p : Port) (k : Packet) (s : State) :
    (outState (@execAtomicResp p k s) s).pending = s.pending := by
  unfold execAtomicResp; simp

@[simp] theorem execStatus_pending (p : Port) (k : Packet) (s : State) :
    (outState (@execStatus p k s) s).pending = s.pending := by
  unfold execStatus; simp

@[simp] theorem execAck_pending (p : Port) (k : Packet) (s : State) :
    (outState (@execAck p k s) s).pending = s.pending := by
  unfold execAck; simp

@[simp] theorem execNack_pending (p : Port) (k : Packet) (s : State) :
    (outState (@execNack p k s) s).pending = s.pending := by
  unfold execNack; simp

@[simp] theorem execClose_pending (p : Port) (k : Packet) (s : State) :
    (outState (@execClose p k s) s).pending = s.pending := by
  unfold execClose; simp

@[simp] theorem execNotice_pending (p : Port) (k : Packet) (s : State) :
    (outState (@execNotice p k s) s).pending = s.pending := by
  unfold execNotice; simp

@[simp] theorem execBulk_pending (p : Port) (k : Packet) (s : State) :
    (outState (@execBulk p k s) s).pending = s.pending := by
  unfold execBulk; simp

@[simp] theorem execLap_pending (p : Port) (k : Packet) (s : State) :
    (outState (@execLap p k s) s).pending = s.pending := by
  unfold execLap; simp

@[simp] theorem State.mgmtRow_pending (s : State) (p : Nat) (mtype : Nat) (k : Packet) :
    (@State.mgmtRow s p mtype k).pending = s.pending := by
  unfold State.mgmtRow; simp

@[simp] theorem execLapgeo_pending (p : Port) (k : Packet) (s : State) :
    (outState (@execLapgeo p k s) s).pending = s.pending := by
  unfold execLapgeo; simp

@[simp] theorem execFwchunk_pending (p : Port) (k : Packet) (s : State) :
    (outState (@execFwchunk p k s) s).pending = s.pending := by
  unfold execFwchunk; simp

@[simp] theorem execFwstatus_pending (p : Port) (k : Packet) (s : State) :
    (outState (@execFwstatus p k s) s).pending = s.pending := by
  unfold execFwstatus; simp

@[simp] theorem State.relayRow_pending (s : State) (p : Nat) (kind : Nat) (k : Packet) :
    (@State.relayRow s p kind k).pending = s.pending := by
  unfold State.relayRow; simp

@[simp] theorem execContrib_pending (p : Port) (k : Packet) (s : State) :
    (outState (@execContrib p k s) s).pending = s.pending := by
  unfold execContrib; simp

@[simp] theorem execPartialSum_pending (p : Port) (k : Packet) (s : State) :
    (outState (@execPartialSum p k s) s).pending = s.pending := by
  unfold execPartialSum; simp

@[simp] theorem execResult_pending (p : Port) (k : Packet) (s : State) :
    (outState (@execResult p k s) s).pending = s.pending := by
  unfold execResult; simp

@[simp] theorem execExptab_pending (p : Port) (k : Packet) (s : State) :
    (outState (@execExptab p k s) s).pending = s.pending := by
  unfold execExptab; simp

@[simp] theorem execPrepass_pending (p : Port) (k : Packet) (s : State) :
    (outState (@execPrepass p k s) s).pending = s.pending := by
  unfold execPrepass; simp

@[simp] theorem execNorm_pending (p : Port) (k : Packet) (s : State) :
    (outState (@execNorm p k s) s).pending = s.pending := by
  unfold execNorm; simp

@[simp] theorem execNormres_pending (p : Port) (k : Packet) (s : State) :
    (outState (@execNormres p k s) s).pending = s.pending := by
  unfold execNormres; simp

@[simp] theorem execAckTimerExpiry_pending (src : ModId) (vc : BitVec 4) (s : State) :
    (outState (@execAckTimerExpiry src vc s) s).pending = s.pending := by
  unfold execAckTimerExpiry; try dsimp only []
  repeat' (first | (simp [*]; done) | split | intro _)

@[simp] theorem execE2eResendTimeout_pending (dst : ModId) (vc : BitVec 4) (s : State) :
    (outState (@execE2eResendTimeout dst vc s) s).pending = s.pending := by
  unfold execE2eResendTimeout; simp

@[simp] theorem execFlowFail_pending (dst : ModId) (vc : BitVec 4) (s : State) :
    (outState (@execFlowFail dst vc s) s).pending = s.pending := by
  unfold execFlowFail; try dsimp only []
  repeat' (first | (simp [*]; done) | split | intro _)

@[simp] theorem execFlowReopenWaitEnd_pending (dst : ModId) (vc : BitVec 4) (s : State) :
    (outState (@execFlowReopenWaitEnd dst vc s) s).pending = s.pending := by
  unfold execFlowReopenWaitEnd; simp

@[simp] theorem execIdleFlowClose_pending (dst : ModId) (vc : BitVec 4) (s : State) :
    (outState (@execIdleFlowClose dst vc s) s).pending = s.pending := by
  unfold execIdleFlowClose; try dsimp only []
  repeat' (first | (simp [*]; done) | split | intro _)

@[simp] theorem execRecvEntryExpiry_pending (src : ModId) (vc : BitVec 4) (s : State) :
    (outState (@execRecvEntryExpiry src vc s) s).pending = s.pending := by
  unfold execRecvEntryExpiry; try dsimp only []
  repeat' (first | (simp [*]; done) | split | intro _)

@[simp] theorem execFwImageTimeout_pending (src : ModId) (s : State) :
    (outState (@execFwImageTimeout src s) s).pending = s.pending := by
  unfold execFwImageTimeout; simp

@[simp] theorem State.lapStop_pending (s : State) (i : Nat) (q : LapSend) (next : Option Nat) (fault : Nat) :
    (@State.lapStop s i q next fault).pending = s.pending := by
  unfold State.lapStop; try dsimp only []
  repeat' (first | (simp [*]; done) | split | intro _)

@[simp] theorem State.lapAsk_pending (s : State) (i : Nat) (q : LapSend) :
    (@State.lapAsk s i q).pending = s.pending := by
  unfold State.lapAsk; simp

@[simp] theorem State.lapLoop_pending (s : State) (i : Nat) (bs : List Byte) : (State.lapLoop s i bs).pending = s.pending := by
  unfold State.lapLoop
  apply foldl_pending
  intro s x
  split
  · rfl
  · simp

@[simp] theorem State.lapLeave_pending (s : State) (i : Nat) (q : LapSend) (next : Nat) :
    (@State.lapLeave s i q next).pending = s.pending := by
  unfold State.lapLeave; simp

@[simp] theorem execLapSliceSend_pending (i : Fin 2) (s : State) :
    (outState (@execLapSliceSend i s) s).pending = s.pending := by
  unfold execLapSliceSend; try dsimp only []
  repeat' (first | (simp [*]; done) | split | intro _)

@[simp] theorem execRowMax_pending (t : Tid) (w : IWord) (s : State) :
    (outState (@execRowMax t w s) s).pending = s.pending := by
  unfold execRowMax; simp

@[simp] theorem execRowSumexp_pending (t : Tid) (w : IWord) (s : State) :
    (outState (@execRowSumexp t w s) s).pending = s.pending := by
  unfold execRowSumexp; simp

@[simp] theorem execRowRescale_pending (t : Tid) (w : IWord) (s : State) :
    (outState (@execRowRescale t w s) s).pending = s.pending := by
  unfold execRowRescale; simp

@[simp] theorem execRowRescaleT_pending (t : Tid) (w : IWord) (s : State) :
    (outState (@execRowRescaleT t w s) s).pending = s.pending := by
  unfold execRowRescaleT; simp

@[simp] theorem execRowRmsPart_pending (t : Tid) (w : IWord) (s : State) :
    (outState (@execRowRmsPart t w s) s).pending = s.pending := by
  unfold execRowRmsPart; simp

@[simp] theorem execRowRmsFin_pending (t : Tid) (w : IWord) (s : State) :
    (outState (@execRowRmsFin t w s) s).pending = s.pending := by
  unfold execRowRmsFin; simp

@[simp] theorem execAttBias_pending (t : Tid) (w : IWord) (s : State) :
    (outState (@execAttBias t w s) s).pending = s.pending := by
  unfold execAttBias; simp

@[simp] theorem State.kcvtRows_pending (s : State) (t tile core : Nat) (d k : Desc) (satm : Bool) (tag : BitVec 8)
    (l : List Nat) : (s.kcvtRows t tile core d k satm tag l).1.pending = s.pending := by
  induction l generalizing s with
  | nil => rfl
  | cons i is ih =>
    unfold State.kcvtRows
    split
    · rfl
    · simp [ih]

@[simp] theorem execAttKcvt_pending (t : Tid) (w : IWord) (s : State) :
    (outState (@execAttKcvt t w s) s).pending = s.pending := by
  unfold execAttKcvt; simp

end Sys2Proof.Machine
end

