-- ==== Sys2Proof/Laws/Queue5.lean ====
section
/-! SUPPORT. No operation of the machine changes the queue of commands (part 5): Vector, Wupd, Dispatch. -/

namespace Sys2Proof.Machine

set_option maxRecDepth 4000

@[simp] theorem execVAdd_pending (t : Tid) (w : IWord) (s : State) :
    (outState (@execVAdd t w s) s).pending = s.pending := by
  unfold execVAdd; simp

@[simp] theorem execVSub_pending (t : Tid) (w : IWord) (s : State) :
    (outState (@execVSub t w s) s).pending = s.pending := by
  unfold execVSub; simp

@[simp] theorem execVMul_pending (t : Tid) (w : IWord) (s : State) :
    (outState (@execVMul t w s) s).pending = s.pending := by
  unfold execVMul; simp

@[simp] theorem execVFma_pending (t : Tid) (w : IWord) (s : State) :
    (outState (@execVFma t w s) s).pending = s.pending := by
  unfold execVFma; simp

@[simp] theorem execVMax_pending (t : Tid) (w : IWord) (s : State) :
    (outState (@execVMax t w s) s).pending = s.pending := by
  unfold execVMax; simp

@[simp] theorem execVMin_pending (t : Tid) (w : IWord) (s : State) :
    (outState (@execVMin t w s) s).pending = s.pending := by
  unfold execVMin; simp

@[simp] theorem execVAbs_pending (t : Tid) (w : IWord) (s : State) :
    (outState (@execVAbs t w s) s).pending = s.pending := by
  unfold execVAbs; simp

@[simp] theorem execVNeg_pending (t : Tid) (w : IWord) (s : State) :
    (outState (@execVNeg t w s) s).pending = s.pending := by
  unfold execVNeg; simp

@[simp] theorem execVCmp_pending (t : Tid) (w : IWord) (s : State) :
    (outState (@execVCmp t w s) s).pending = s.pending := by
  unfold execVCmp; simp

@[simp] theorem execVSel_pending (t : Tid) (w : IWord) (s : State) :
    (outState (@execVSel t w s) s).pending = s.pending := by
  unfold execVSel; simp

@[simp] theorem execVBcast_pending (t : Tid) (w : IWord) (s : State) :
    (outState (@execVBcast t w s) s).pending = s.pending := by
  unfold execVBcast; simp

@[simp] theorem execVExtr_pending (t : Tid) (w : IWord) (s : State) :
    (outState (@execVExtr t w s) s).pending = s.pending := by
  unfold execVExtr; simp

@[simp] theorem execVLaneid_pending (t : Tid) (w : IWord) (s : State) :
    (outState (@execVLaneid t w s) s).pending = s.pending := by
  unfold execVLaneid; simp

@[simp] theorem execVCvt_pending (t : Tid) (w : IWord) (s : State) :
    (outState (@execVCvt t w s) s).pending = s.pending := by
  unfold execVCvt; simp

@[simp] theorem execVIadd_pending (t : Tid) (w : IWord) (s : State) :
    (outState (@execVIadd t w s) s).pending = s.pending := by
  unfold execVIadd; simp

@[simp] theorem execVIsub_pending (t : Tid) (w : IWord) (s : State) :
    (outState (@execVIsub t w s) s).pending = s.pending := by
  unfold execVIsub; simp

@[simp] theorem execVImul_pending (t : Tid) (w : IWord) (s : State) :
    (outState (@execVImul t w s) s).pending = s.pending := by
  unfold execVImul; simp

@[simp] theorem execVAnd_pending (t : Tid) (w : IWord) (s : State) :
    (outState (@execVAnd t w s) s).pending = s.pending := by
  unfold execVAnd; simp

@[simp] theorem execVOr_pending (t : Tid) (w : IWord) (s : State) :
    (outState (@execVOr t w s) s).pending = s.pending := by
  unfold execVOr; simp

@[simp] theorem execVXor_pending (t : Tid) (w : IWord) (s : State) :
    (outState (@execVXor t w s) s).pending = s.pending := by
  unfold execVXor; simp

@[simp] theorem execVShl_pending (t : Tid) (w : IWord) (s : State) :
    (outState (@execVShl t w s) s).pending = s.pending := by
  unfold execVShl; simp

@[simp] theorem execVShr_pending (t : Tid) (w : IWord) (s : State) :
    (outState (@execVShr t w s) s).pending = s.pending := by
  unfold execVShr; simp

@[simp] theorem execVSar_pending (t : Tid) (w : IWord) (s : State) :
    (outState (@execVSar t w s) s).pending = s.pending := by
  unfold execVSar; simp

@[simp] theorem sfOp_pending (k : Nat) (t : Tid) (w : IWord) (s : State) :
    (@sfOp k t w s).pending = s.pending := by
  unfold sfOp; simp

@[simp] theorem execSfTanh_pending (t : Tid) (w : IWord) (s : State) :
    (outState (@execSfTanh t w s) s).pending = s.pending := by
  unfold execSfTanh; simp

@[simp] theorem execSfLogistic_pending (t : Tid) (w : IWord) (s : State) :
    (outState (@execSfLogistic t w s) s).pending = s.pending := by
  unfold execSfLogistic; simp

@[simp] theorem execSfExp2_pending (t : Tid) (w : IWord) (s : State) :
    (outState (@execSfExp2 t w s) s).pending = s.pending := by
  unfold execSfExp2; simp

@[simp] theorem execSfRcp_pending (t : Tid) (w : IWord) (s : State) :
    (outState (@execSfRcp t w s) s).pending = s.pending := by
  unfold execSfRcp; simp

@[simp] theorem execSfRsqrt_pending (t : Tid) (w : IWord) (s : State) :
    (outState (@execSfRsqrt t w s) s).pending = s.pending := by
  unfold execSfRsqrt; simp

@[simp] theorem State.putAt_pending (s : State) (tile : Nat) (d : Desc) (i : Nat) (code : Nat) :
    (@State.putAt s tile d i code).pending = s.pending := by
  unfold State.putAt; simp

@[simp] theorem State.wupdElem_pending (s : State) (t : Nat) (tile : Nat) (wd : Desc) (sr : Bool) (i : Nat) (u : Upd) (open0 : Nat) :
    (@State.wupdElem s t tile wd sr i u open0).pending = s.pending := by
  unfold State.wupdElem; try dsimp only []
  repeat' (first | (simp [*]; done) | split | intro _)

@[simp] theorem State.sgdElem_pending (s : State) (t : Nat) (tile : Nat) (l : Layer) (gc : Num) (sr : Bool) (wd : Desc) (ud : Desc) (i : Nat) :
    (@State.sgdElem s t tile l gc sr wd ud i).pending = s.pending := by
  unfold State.sgdElem; simp

@[simp] theorem State.adamElem_pending (s : State) (t : Nat) (tile : Nat) (l : Layer) (gc : Num) (sr : Bool) (wd : Desc) (gd : Desc) (md : Desc) (vd : Desc) (i : Nat) :
    (@State.adamElem s t tile l gc sr wd gd md vd i).pending = s.pending := by
  unfold State.adamElem; simp

@[simp] theorem State.drawn_pending (s : State) (t : Nat) (n : Nat) (sr : Bool) :
    (@State.drawn s t n sr).pending = s.pending := by
  unfold State.drawn; simp

@[simp] theorem State.wupdRun_pending (s : State) (t : Nat) (n : Nat) (f : State → Nat → State) (wrs : List (Nat × Nat)) (sr : Bool) (tag : BitVec 8) (hf : ∀ y0 y1, (f y0 y1).pending = y0.pending) :
    (@State.wupdRun s t n f wrs sr tag).pending = s.pending := by
  unfold State.wupdRun; try dsimp only []
  repeat' (first | (simp [*]; done) | split | intro _)

@[simp] theorem State.withLayer_pending (s : State) (t : Tid) (off : Nat) (adam : Bool) (wfmt : Nat) (k : Layer → State → BitVec 8 → Eff) (hk : ∀ y0 y1 y2, ((k y0 y1 y2).st).pending = y1.pending) :
    (@State.withLayer s t off adam wfmt k).st.pending = s.pending := by
  unfold State.withLayer; try dsimp only []
  repeat' (first | (simp [*]; done) | split | intro _)

@[simp] theorem wupdBody_pending (t : Tid) (s : State) (tag : BitVec 8) (adam sr : Bool) (off : Nat) (wd : Desc)
    (ins outs : List (Desc × List Nat)) (f : Layer → State → Nat → State) (hf : ∀ y0 y1 y2, (f y0 y1 y2).pending = y1.pending) :
    (wupdBody t s tag adam sr off wd ins outs f).st.pending = s.pending := by
  unfold wupdBody
  dsimp only []
  repeat' split
  all_goals first
    | rfl
    | (rw [State.withLayer_pending]; intro l s lt; rw [State.access_pending]; intro s mt; simp [hf])

@[simp] theorem State.wupdOff_pending (t : Nat) (w : IWord) (sr : Bool) (s : State) :
    (@State.wupdOff t w sr s).pending = s.pending := by
  unfold State.wupdOff; simp

@[simp] theorem wupdOp_pending (t : Tid) (w : IWord) (sr : Bool) (s : State) :
    (@wupdOp t w sr s).pending = s.pending := by
  unfold wupdOp; simp

@[simp] theorem adamOp_pending (t : Tid) (w : IWord) (sr : Bool) (s : State) :
    (@adamOp t w sr s).pending = s.pending := by
  unfold adamOp; simp

@[simp] theorem execWupd_pending (t : Tid) (w : IWord) (s : State) :
    (outState (@execWupd t w s) s).pending = s.pending := by
  unfold execWupd; simp

@[simp] theorem execWupdSr_pending (t : Tid) (w : IWord) (s : State) :
    (outState (@execWupdSr t w s) s).pending = s.pending := by
  unfold execWupdSr; simp

@[simp] theorem execWupdAdam_pending (t : Tid) (w : IWord) (s : State) :
    (outState (@execWupdAdam t w s) s).pending = s.pending := by
  unfold execWupdAdam; simp

@[simp] theorem execWupdAdamSr_pending (t : Tid) (w : IWord) (s : State) :
    (outState (@execWupdAdamSr t w s) s).pending = s.pending := by
  unfold execWupdAdamSr; simp

@[simp] theorem exec_pending (i : Instr) (s : State) :
    (outState (@exec i s) s).pending = s.pending := by
  unfold exec; try dsimp only []
  repeat' (first | (simp [*]; done) | split | intro _)

end Sys2Proof.Machine
end

