-- ==== Sys2Proof/Machine/Fetch.lean ====
section
/-! DEFINITION. What a thread fetches at its program counter (R59, R65, R466): the rows of the table give instructions as commands, each
with its fields; here is the command that the bytes in the vat stand for. -/

namespace Sys2Proof.Machine

/-- R65: the word at a vat offset of a thread's tile; past the vat's end there is none to read. -/
def State.wordAt (s : State) (t : Tid) (pc : Nat) : BitVec 64 :=
  if pc + 8 ≤ 0x4000000 then BitVec.ofNat 64 (s.readNat (tileBase t.tile.val + pc) 8) else 0

/-- R466, R468: the instruction at a thread's program counter, with the word after it. -/
def State.fetched (s : State) (t : Tid) : Option Instr :=
  let pc := (s.regs t.code).pc
  decodeWord t (s.wordAt t pc) (s.wordAt t (pc + 8))

/-- R66, R480, R484, R492, R495: a thread issues what stands at its program counter; a reserved opcode raises 0x0101. -/
def runFetched (t : Tid) (s : State) : Host.Outcome State Fault Refusal :=
  match s.fetched t with
  | some i => exec i s
  | none => .next (s.issue t (IWord.ofWord (s.wordAt t (s.regs t.code).pc) 0) { ok := false } (fun s _ => .retire s))

end Sys2Proof.Machine
end

