-- ==== Sys2Proof/Tests/Slice0.lean ====
section
/-! SUPPORT. The model's own tests: what the checks of WellFormed refuse, single steps on small states, and for each statement
that has hypotheses a state and operands that meet them. -/

namespace Sys2Proof.Tests

open Sys2Proof.Machine

set_option Elab.async false

/-! Helpers -/

/-- The first thread of the module. -/
def t0 : Tid := ⟨0, 0, 0⟩

/-- A word with every field zero. -/
def w0 : IWord := { x := false, pred := 0, mod := 0, a := 0, b := 0, c := 0, d := 0, imm := 0, ext := 0 }

/-- A module whose compute part is up with every tile in service, with one thread. -/
def up (x : Thread) : State :=
  ((State.reset.setFld Fd.PWR_STAGE_COMPUTE_UP 1).setFld Fd.MC_PANEL_TILES_TILE_EN (2 ^ 36 - 1)).setThread 0 x

/-- The first thread is ready with registers. -/
def ready (r : TRegs) : State := up { st := .ready, regs := r }

/-- The conditions of State.Ready, as a Bool. -/
def readyB (s : State) (t : Tid) (w : IWord) (form gate : Bool) (regs : List Nat) : Bool :=
  s.live t.code && (s.thread t.code).due.isNone && decide ((s.regs t.code).pc < 0x4000000)
    && !(s.poisoned (tileBase (tileOf t.code) + (s.regs t.code).pc) 8) && form
    && (!w.x || (decide ((s.regs t.code).pc + 8 < 0x4000000) && !(s.poisoned (tileBase (tileOf t.code) + (s.regs t.code).pc + 8) 8)))
    && !((s.thread t.code).busy (guardRegs w ++ regs))
    && (!gate || (decide ((s.thread t.code).ckpts = []) && decide ((s.regs t.code).held = none)))

theorem ready_of {s : State} {t : Tid} {w : IWord} {form gate : Bool} {regs : List Nat}
    (h : readyB s t w form gate regs = true) : s.Ready t w form gate regs := by
  simp only [readyB, Bool.and_eq_true, decide_eq_true_eq, Bool.not_eq_true', Bool.or_eq_true] at h
  obtain ⟨⟨⟨⟨⟨⟨⟨h1, h2⟩, h3⟩, h4⟩, h5⟩, h6⟩, h7⟩, h8⟩ := h
  exact {
    live := h1, due := by simpa using h2, inVat := h3, clean := h4, legal := h5
    extIn := fun hx => (h6.resolve_left (by simp [hx])).1
    extClean := fun hx => (h6.resolve_left (by simp [hx])).2
    idle := h7
    solid := fun hg => by have := h8.resolve_left (by simp [hg]); simpa using this }

/-- The conditions of State.Opens, as a Bool. -/
def opensB (s : State) (t : Nat) (rd wr : List (Nat × Nat)) : Bool :=
  !(s.arrayOwes t rd) && !(s.arrayHolds t wr) && !(s.anyHeld (rd ++ wr)) && (s.readTag t (rangeLines rd)).isSome && !(s.rangesPoisoned rd)
    && !(s.partPoison wr) && (s.shadowLines t ((rangeLines wr).filter (lineInCore (coreOf t)))).isSome

theorem opens_of {s : State} {t : Nat} {rd wr : List (Nat × Nat)} (h : opensB s t rd wr = true) :
    ∃ g u, s.Opens t rd wr g u := by
  simp only [opensB, Bool.and_eq_true, Bool.not_eq_true'] at h
  obtain ⟨⟨⟨⟨⟨⟨h1, h2⟩, hr⟩, h3⟩, h4⟩, h5⟩, h6⟩ := h
  obtain ⟨g, hg⟩ := Option.isSome_iff_exists.mp h3
  obtain ⟨u, hu⟩ := Option.isSome_iff_exists.mp h6
  exact ⟨g, u, { owes := h1, holds := h2, rests := hr, tags := hg, clean := h4, whole := h5, room := hu }⟩

theorem opens_self {s : State} {t : Nat} {rd wr : List (Nat × Nat)} {g : BitVec 8}
    (h : (opensB s t rd wr && decide (s.readTag t (rangeLines rd) = some g) &&
      decide (s.shadowLines t ((rangeLines wr).filter (lineInCore (coreOf t))) = some s)) = true) : s.Opens t rd wr g s := by
  simp only [opensB, Bool.and_eq_true, Bool.not_eq_true', decide_eq_true_eq] at h
  obtain ⟨⟨⟨⟨⟨⟨⟨⟨h1, h2⟩, hr⟩, h3⟩, h4⟩, h5⟩, h6⟩, hg⟩, hu⟩ := h
  exact { owes := h1, holds := h2, rests := hr, tags := hg, clean := h4, whole := h5, room := hu }


/-- Behind a guard that is always true an access meets what it meets before it. -/
theorem opens_guard {s : State} {t : Tid} {w : IWord} {rd wr : List (Nat × Nat)} {g : BitVec 8} (hp : w.pred = 0)
    (h : (opensB s t.code rd wr && decide (s.readTag t.code (rangeLines rd) = some g) &&
      decide (s.shadowLines t.code ((rangeLines wr).filter (lineInCore (coreOf t.code))) = some s)) = true) :
    (s.pastGuard t w).Opens t.code rd wr g s := by
  have e : s.pastGuard t w = s := by unfold State.pastGuard; simp [hp]
  rw [e]
  exact opens_self h

/-- A descriptor without a scale region. -/
def dsc (base fmt rows cols stride : Nat) : BitVec 128 :=
  BitVec.ofNat 128 (base + fmt * 2 ^ 28 + rows * 2 ^ 32 + cols * 2 ^ 48 + stride * 2 ^ 64)

/-- An array instruction that waits in the queue. -/
def op0 : ArrOp := { id := 1, kind := .load 0 false 0, th := 0, pc := 0, owner := none, bar := 0, ep := 0 }

/-- A load under way. -/
def ld0 : Load := { dest := .scalar 5, size := 8, sext := false, value := 7, tag := 0, remote := none, pc := 0, ord := 0 }

/-- A packet of a flow. -/
def pk0 : Packet := { dst := 1, src := 0, vc := 1, dclass := false, order := 0, dir := 0, opn := false, cls := false, seq := 0, epoch := 1, body := [] }

/-- A sealed torus of two modules, with a valid piste. -/
def link (s : State) : State := { ((s.setFld Fd.JL_SEAL_SEAL 1).setFld Fd.JL_TORUS_DIM_X 2) with pistes := [(0, 8)] }

/-- The device address of a place in this module. -/
def here (a : Nat) : Nat := 0x3FFFF * 2 ^ 46 + a

/-- The scratchpad of the first core. -/
def sp0 : Nat := 0x110008000000

/-- The first command of the first stream. -/
def k0 : CmdRef := ⟨0, 0⟩

/-- An entry with an opcode and values at body offsets. -/
def ent (opc : Nat) (body : List (Nat × Nat)) : BitVec 1024 :=
  BitVec.ofNat 1024 (opc + (body.map (fun x => x.2 * 2 ^ (128 + 8 * x.1))).sum)

/-- A state in which the first command is the entry, accepted. -/
def withCmd (s : State) (e : BitVec 1024) : State := { s with cmds := [(0, { entry := e })] }

theorem starts_of {s : State} {k : CmdRef} {opc : Nat} {used : List (Nat × Nat)} {c : Cmd}
    (h : (decide (s.cmd k = some c) && s.mayStart k [opc] && c.clean used) = true) : s.Starts k opc used c := by
  simp only [Bool.and_eq_true, decide_eq_true_eq] at h
  exact { held := h.1.1, may := h.1.2, clean := h.2 }

/-- A module whose first stage has completed. -/
def begun : State := { up {} with boot := { powered := true, done0 := true, flash := true, done1 := true } }

theorem hears_of {s : State} {b : Nat} (h : (s.boot.done1 && decide (s.blockRefusal b = 0)) = true) : s.Hears b := by
  simp only [Bool.and_eq_true, decide_eq_true_eq] at h
  exact h

/-- Far memory backed and the wheels enabled, with descriptors of four wheels at its start and the pool of the first. -/
def wheels (s : State) (v : Nat) : State :=
  let s := ((s.setFld (Fd.MAP_CTL_MAP_EN .far) 1).setFld (Fd.MAP_CTL_UNITS .far) 1).setFld (Fd.MAP_CTL_UNIT_GIB .far) 64
  let s := ((s.setFld Fd.KV_CTL_EN 1).setFld Fd.KV_TABLE_WHEELS 4).setFld Fd.KV_PROT_SIZE_MIB 1024
  let s := (s.setFld (Fd.KV_POOL_CFG_PEN 0) 1).setFld (Fd.KV_POOL_CFG_LOW 0) 1
  s.kvWrite 0 64 v

/-- A wheel's descriptor: pages of 64 KiB and rows of 128 bytes, one layer, one group, 1,024 tokens, its tables in far memory. -/
def wv (state : Nat) : Nat := state + 2 ^ 21 + 1024 * 2 ^ 160 + 0x100000 * 2 ^ 192 + 0x200000 * 2 ^ 256
/-! Scalar instructions -/

theorem witness_ScalarResults :
    let s := ready { g := [(1, 5), (2, 0xFFFFFFFFFFFFFFFF)] }
    let w : IWord := { w0 with a := 3, b := 1, c := 2 }
    let v : IWord := { w0 with a := 1, b := 1, imm := 0x200, mod := 1, pred := 1 }
    let u := ready { p := [(0, 1)] }
    s.Enabled t0 w ∧ u.Enabled t0 v ∧
    s.Ready t0 w ((scalarForm w 1).ok w) false [gR 1, gR 2, gR 3] ∧
    u.Ready t0 v ((scalarForm v 1).ok v) false [gR 1, gR 1] ∧
    (∀ k : Fin 6, let x : IWord := { w with mod := BitVec.ofNat 16 (2 * k.val) }
      x.ms 1 3 = k.val ∧ s.Ready t0 x ((scalarForm x 0xF).ok x) false [gR 1, gR 2, gR 3]) := by
  refine ⟨.inl rfl, .inr (by decide +kernel), ready_of (by decide +kernel), ready_of (by decide +kernel), fun k => ⟨?_, ready_of ?_⟩⟩
  · revert k; decide +kernel
  · revert k; decide +kernel

theorem witness_RegisterMoves :
    let s := ready { g := [(1, 5)] }
    let w : IWord := { w0 with a := 3, b := 1, c := 2, d := 4 }
    let m : IWord := { w0 with x := true, a := 63, ext := 7 }
    let v : IWord := { w0 with a := 15, b := 1, c := 2 }
    let u : IWord := { w0 with a := 3, b := 15 }
    let g : IWord := { w0 with a := 3, b := 4, c := 15 }
    let h : IWord := { w0 with a := 63 }
    s.Enabled t0 w ∧ s.Enabled t0 m ∧ s.Enabled t0 v ∧ s.Enabled t0 u ∧ s.Enabled t0 g ∧ s.Enabled t0 h ∧
    (m.mod = 0 ∧ m.pred.toNat ≤ 16 ∧ m.b = 0 ∧ m.c = 0 ∧ m.d = 0 ∧ m.imm = 0 ∧ s.Ready t0 m true false [gR 63]) ∧
    s.Ready t0 w (({ a := .g, b := .g, c := .g, d := .p } : Form).ok w) false [gR 1, gR 2, pR 4, gR 3] ∧
    s.Ready t0 { v with c := 0 } (({ a := .p, b := .g } : Form).ok { v with c := 0 }) false [gR 1, pR 15] ∧
    s.Ready t0 u (({ a := .g, b := .p } : Form).ok u) false [pR 15, gR 3] ∧
    s.Ready t0 v (({ a := .d, b := .g, c := .g } : Form).ok v) false [gR 1, gR 2, dR 15] ∧
    s.Ready t0 g (({ a := .g, b := .g, c := .d } : Form).ok g) false [dR 15, gR 3, gR 4] ∧
    s.Ready t0 v (({ a := .d, b := .g, c := .g } : Form).ok v) false [dR 15, gR 1, gR 2, dR 15] ∧
    s.Ready t0 h (({ a := .g } : Form).ok h) false [gR 63] := by
  refine ⟨.inl rfl, .inl rfl, .inl rfl, .inl rfl, .inl rfl, .inl rfl, ⟨rfl, by decide +kernel, rfl, rfl, rfl, rfl, ready_of (by decide +kernel)⟩, ?_⟩
  refine ⟨ready_of ?_, ready_of ?_, ready_of ?_, ready_of ?_, ready_of ?_, ready_of ?_, ready_of ?_⟩ <;> decide +kernel

theorem witness_DescriptorFields :
    let s := ready {}
    let v : IWord := { w0 with a := 15, b := 63, c := 2 }
    let g : IWord := { w0 with a := 3, b := 4, c := 15 }
    s.Enabled t0 v ∧ s.Enabled t0 g ∧ g.a ≠ g.b ∧
    s.Ready t0 v (({ a := .d, b := .g, c := .g } : Form).ok v) false [gR 63, gR 2, dR 15] ∧
    s.Ready t0 g (({ a := .g, b := .g, c := .d } : Form).ok g) false [dR 15, gR 3, gR 4] ∧
    s.Ready t0 v (({ a := .d, b := .g, c := .g } : Form).ok v) false [dR 15, gR 63, gR 2, dR 15] :=
  ⟨.inl rfl, .inl rfl, by decide +kernel, ready_of (by decide +kernel), ready_of (by decide +kernel), ready_of (by decide +kernel)⟩

theorem witness_NopGateSeek :
    let s := ready {}
    let a : IWord := { w0 with a := 63 }
    let p : IWord := { w0 with a := 63, b := 1, mod := 1 }
    s.Enabled t0 w0 ∧ s.Enabled t0 a ∧ s.Enabled t0 p ∧
    s.Ready t0 w0 (({} : Form).ok w0) false [] ∧ s.Ready t0 w0 (({} : Form).ok w0) true [] ∧
    (a.mod = 0 ∧ s.Ready t0 a (({ a := .g } : Form).ok a) false [gR 63]) ∧
    (p.mod = 1 ∧ s.Ready t0 p (({ a := .g, b := .g, mods := 1 } : Form).ok p) false [gR 63, gR 1]) :=
  ⟨.inl rfl, .inl rfl, .inl rfl, ready_of (by decide +kernel), ready_of (by decide +kernel), ⟨rfl, ready_of (by decide +kernel)⟩, rfl, ready_of (by decide +kernel)⟩

/-- A branch at offset 8 to the first word, one at offset 0 to the last; a test that holds and one that does not. -/
theorem witness_BranchTargets :
    let s := ready { g := [(5, 0x3FFFFF8)], p := [(0, 1)], pc := 8 }
    let br : IWord := { w0 with b := 0x3F, c := 0x3F, d := 0x3F, imm := 0x3FF }
    let far : IWord := { w0 with b := 0x3F, c := 0x3F, d := 0x3F, imm := 0x1FF }
    let z : IWord := { br with a := 4 }
    let nz : IWord := { br with a := 5 }
    let ret : IWord := { w0 with a := 5 }
    s.Enabled t0 br ∧ s.Enabled t0 z ∧ s.Enabled t0 nz ∧ s.Enabled t0 ret ∧
    branchTarget s t0 br = 0 ∧ branchTarget s t0 far = 2 ^ 30 ∧
    s.Ready t0 br (formIOk .none br) false [] ∧
    (s.Ready t0 z (formIOk .g z) false [gR 4] ∧ (s.regs t0.code).getG 4 = 0) ∧
    (s.Ready t0 nz (formIOk .g nz) false [gR 5] ∧ (s.regs t0.code).getG 5 ≠ 0) ∧
    (s.Ready t0 br (formIOk .p br) false [pR 0] ∧ ((s.regs t0.code).getP 0).getLsbD 0 = true) ∧
    (s.Ready t0 z (formIOk .p z) false [pR 4] ∧ ((s.regs t0.code).getP 4).getLsbD 0 = false) ∧
    (((s.regs t0.code).getG 5).toNat = 0x3FFFFF8 ∧ s.Ready t0 ret (({ a := .g } : Form).ok ret) false [gR 5]) :=
  ⟨.inl rfl, .inl rfl, .inl rfl, .inl rfl, by decide +kernel, by decide +kernel, ready_of (by decide +kernel), ⟨ready_of (by decide +kernel), by decide +kernel⟩,
    ⟨ready_of (by decide +kernel), by decide +kernel⟩, ⟨ready_of (by decide +kernel), by decide +kernel⟩, ⟨ready_of (by decide +kernel), by decide +kernel⟩, by decide +kernel,
    ready_of (by decide +kernel)⟩

/-! Vector instructions -/

theorem witness_LaneMask : (2 : BitVec 64).getLsbD 1 = true ∧ (2 : BitVec 64).getLsbD 63 = false ∧ (63 + 1) * 32 ≤ 2048 ∧
    (319 + 1) * 6 ≤ 2048 := by decide +kernel

theorem witness_FloatLanes :
    let s := ready {}
    let w : IWord := { w0 with a := 31, b := 1, c := 2, pred := 16 }
    let p : IWord := { w with d := 15 }
    s.Ready t0 w (({ a := .v, b := .v, c := .v } : Form).ok w) false [vR 1, vR 2, vR 31] ∧
    s.Ready t0 p (({ a := .v, b := .v, c := .v, d := .v } : Form).ok p) false [vR 1, vR 2, vR 15, vR 31] ∧
    s.Ready t0 { w with c := 0 } (({ a := .v, b := .v } : Form).ok { w with c := 0 }) false [vR 1, vR 31] ∧
    s.Ready t0 p (({ a := .v, b := .v, c := .v, d := .p } : Form).ok p) false [vR 1, vR 2, pR 15, vR 31] ∧
    s.Ready t0 { w with c := 0 } (({ a := .v, b := .g } : Form).ok { w with c := 0 }) false [gR 1, vR 31] ∧
    s.Ready t0 { w with b := 0, c := 0 } (({ a := .v } : Form).ok { w with b := 0, c := 0 }) false [vR 31] :=
  ⟨ready_of (by decide +kernel), ready_of (by decide +kernel), ready_of (by decide +kernel), ready_of (by decide +kernel), ready_of (by decide +kernel), ready_of (by decide +kernel)⟩

theorem witness_IntegerLanes :
    let w : IWord := { w0 with a := 31, b := 1, c := 2 }
    (ready {}).Ready t0 w (({ a := .v, b := .v, c := .v } : Form).ok w) false [vR 1, vR 2, vR 31] := ready_of (by decide +kernel)

theorem witness_CompareExtractConvert :
    let s := ready {}
    let cmp : IWord := { w0 with a := 15, b := 1, c := 2, mod := 0xD }
    let ex : IWord := { w0 with a := 3, b := 1, c := 2 }
    let bfx : IWord := { w0 with a := 31, b := 1, c := 2, mod := 0x9 }
    let cvt : IWord := { w0 with a := 31, b := 1, mod := 0x10 }
    let sf : IWord := { w0 with a := 31, b := 1 }
    s.Ready t0 cmp (({ a := .p, b := .v, c := .v, mods := 0xF } : Form).ok cmp && decide (cmp.ms 0 3 ≤ 5)) false
      [vR 1, vR 2, pR 15] ∧
    (s.Enabled t0 ex ∧ s.Ready t0 ex (({ a := .g, b := .v, c := .g } : Form).ok ex) false [vR 1, gR 2, gR 3]) ∧
    (bfx.ms 0 4 = 9 ∧ fmtBad 9 = false ∧ fmtBad (bfx.ms 4 4) = false ∧ bfx.ms 8 3 < fmtGroups 9 ∧
      bfx.ms 11 3 < fmtGroups (bfx.ms 4 4) ∧
      s.Ready t0 bfx (({ a := .v, b := .v, c := .g, mods := 0x7FFF } : Form).ok bfx) false [vR 1, gR 2, vR 31]) ∧
    (cvt.ms 0 4 = 0 ∧ cvt.ms 4 4 = 1 ∧ fmtBad 0 = false ∧ fmtBad 1 = false ∧ cvt.ms 8 3 < fmtGroups 0 ∧ cvt.ms 11 3 < fmtGroups 1 ∧
      s.Ready t0 cvt (({ a := .v, b := .v, c := .none, mods := 0x7FFF } : Form).ok cvt) false [vR 1, vR 31]) ∧
    (s.Ready t0 sf (({ a := .v, b := .v, mods := 3 } : Form).ok sf && (sf.m 0 || !sf.m 1)) false [vR 1, vR 31] ∧
      sf.m 0 = false) ∧
    (let hi : IWord := { sf with mod := 3 }
     s.Ready t0 hi (({ a := .v, b := .v, mods := 3 } : Form).ok hi && (hi.m 0 || !hi.m 1)) false [vR 1, vR 31] ∧ hi.m 0 = true) :=
  ⟨ready_of (by decide +kernel), ⟨.inl rfl, ready_of (by decide +kernel)⟩,
    ⟨by decide +kernel, by decide +kernel, by decide +kernel, by decide +kernel, by decide +kernel, ready_of (by decide +kernel)⟩,
    ⟨by decide +kernel, by decide +kernel, by decide +kernel, by decide +kernel, by decide +kernel, by decide +kernel, ready_of (by decide +kernel)⟩,
    ⟨ready_of (by decide +kernel), by decide +kernel⟩, ready_of (by decide +kernel), by decide +kernel⟩

/-! Threads, fences, phases and barriers -/

theorem witness_ExitFencePhase :
    let s := ready {}
    let busy := s.setCore 0 { array := { q := [op0] } }
    let f : IWord := { w0 with mod := 2 }
    let ph : IWord := { w0 with imm := 255 }
    let far := up { st := .ready, loads := [{ ld0 with remote := some 1 }] }
    let sent : State := { s with sends := [(17, { epoch := 1, unacked := [⟨3, pk0, .store 0 0 none, 0⟩] })] }
    let full := (s.setFld (Fd.TILE_PHASE_HEAD_HEAD 0 0) 255).setFld (Fd.TILE_PHASE_HEAD_TILE_TAIL 0 0) 0
    s.Enabled t0 w0 ∧ s.Enabled t0 f ∧ s.Enabled t0 ph ∧
    (s.Ready t0 w0 (({} : Form).ok w0) true [] ∧ (s.core 0).array.q.any (fun o => decide (o.th = 0)) = false) ∧
    (busy.Ready t0 w0 (({} : Form).ok w0) true [] ∧ (busy.core 0).array.q.any (fun o => decide (o.th = 0)) = true) ∧
    (s.Ready t0 f (({ mods := 3 } : Form).ok f) false [] ∧ (s.thread 0).loads = [] ∧ s.unacked 0 = false) ∧
    (sent.Ready t0 f (({ mods := 3 } : Form).ok f) false [] ∧ 2 ≤ f.ms 0 2 ∧ sent.unacked 0 = true) ∧
    (far.Ready t0 f (({ mods := 3 } : Form).ok f) false [] ∧ (far.thread 0).loads.any (fun l => l.remote.isSome) = true) ∧
    (ph.imm.toNat < 256 ∧ s.Ready t0 ph (({ imm := true } : Form).ok ph) true [] ∧ (s.core 0).phase ≠ 255 ∧
      ((s.setCore 0 { phase := 255 }).core 0).phase = ph.imm.toNat) ∧
    (s.fld (Fd.TILE_PHASE_HEAD_HEAD 0 0) + 1) % 256 ≠ s.fld (Fd.TILE_PHASE_HEAD_TILE_TAIL 0 0) ∧
    (full.fld (Fd.TILE_PHASE_HEAD_HEAD 0 0) + 1) % 256 = full.fld (Fd.TILE_PHASE_HEAD_TILE_TAIL 0 0) := by
  dsimp only
  repeat' apply And.intro
  all_goals first | exact .inl rfl | exact ready_of (by decide +kernel) | decide +kernel

/-- A state with a barrier object at the start of the first scratchpad. -/
def barred (r : TRegs) (b : Bar) : State := (ready r).setBar sp0 b

/-- An idle barrier object. -/
def bar0 : Bar := { pend := 0, left := 1, count := 1, unconf := 0, phase := false, broken := false, epoch := 255, rest := 0 }

theorem witness_BarrierInit :
    let w : IWord := { w0 with a := 1, b := 2 }
    let r : TRegs := { g := [(1, 0x8000000), (2, 0xFFFF)] }
    (∀ b ∈ [bar0, { bar0 with broken := true }, { bar0 with left := 0, pend := 16 }],
      let s := barred r b
      s.Enabled t0 w ∧ s.Ready t0 w (({ a := .g, b := .g } : Form).ok w) true [gR 1, gR 2] ∧
      s.barOperand t0 w = 0x8000000 ∧ barFault 0x8000000 = 0 ∧ barAddr 0 0x8000000 = sp0 ∧
      (s.pastGuard t0 w).Opens 0 [(sp0, 16)] [(sp0, 16)] 0 s ∧ s.bar sp0 = b) ∧ ((0xFFFF : BitVec 64).toNat < 2 ^ 16) := by
  refine ⟨?_, by decide +kernel⟩
  intro b hb
  simp only [List.mem_cons, List.not_mem_nil, or_false] at hb
  rcases hb with rfl | rfl | rfl
  all_goals
    repeat' apply And.intro
    all_goals first | exact .inl rfl | exact ready_of (by decide +kernel) | exact opens_guard (t := t0) rfl (by decide +kernel) | decide +kernel

theorem witness_BarrierUse :
    let w : IWord := { w0 with a := 1 }
    let x : IWord := { w0 with a := 1, b := 2, mod := 1 }
    let r : TRegs := { g := [(1, 0x8000000), (2, 0x7FFFFFFF)] }
    let s := barred r bar0
    let late := barred r { bar0 with left := 0, pend := 16 }
    let bad := barred r { bar0 with broken := true }
    let due := (barred r { bar0 with left := 0, unconf := 64 }).setCore 0 { windows := [(0, ⟨.cut sp0, [⟨sp0 + 64, 64, sp0, 255, 0, false⟩]⟩)] }
    let fence := due.setThread 1 { st := .waitSync, fence := true }
    let far := s.setThread 0 { st := .ready, regs := r, loads := [{ ld0 with remote := some 1 }] }
    (∀ q ∈ [s, late, bad, due, fence, far], q.Enabled t0 w ∧ q.Ready t0 w (({ a := .g } : Form).ok w) true [gR 1] ∧
      q.Ready t0 x (({ a := .g, b := .g, mods := 1 } : Form).ok x) true [gR 1, gR 2] ∧
      q.Ready t0 w (({ a := .g, mods := 1 } : Form).ok w) false [gR 1] ∧ q.barOperand t0 w = 0x8000000 ∧
      (q.pastGuard t0 w).Opens 0 [(sp0, 16)] [(sp0, 16)] 0 q ∧ (q.pastGuard t0 w).Opens 0 [(sp0, 16)] [] 0 q) ∧
    w.m 0 = false ∧ x.m 0 = true ∧ barFault 0x8000000 = 0 ∧ barFault 0 = 0 ∧ barFault 0x8000008 = 0x0105 ∧
    ((s.bar sp0).arrive 0).broken = false ∧ ((late.bar sp0).arrive 0).broken = true ∧ (bad.bar sp0).broken = true ∧
    (s.bar sp0).phase = w.m 0 ∧ (s.bar sp0).phase ≠ x.m 0 ∧ (s.thread 0).loads = [] ∧
    (far.bar sp0).broken = false ∧ (far.thread 0).loads.any (fun l => l.remote.isSome) = true ∧
    (due.bar sp0).left = 0 ∧ (due.bar sp0).pend = 0 ∧ (due.bar sp0).unconf ≠ 0 ∧ due.barWindows 0 sp0 = [(0, 0)] ∧
    (due.participants 0 0).length < 16 ∧ due.fencePend 0 = false ∧ fence.fencePend 0 = true := by
  dsimp only
  refine ⟨?_, ?_⟩
  · intro q hq
    simp only [List.mem_cons, List.not_mem_nil, or_false] at hq
    rcases hq with rfl | rfl | rfl | rfl | rfl | rfl
    all_goals
      repeat' apply And.intro
      all_goals first | exact .inl rfl | exact ready_of (by decide +kernel) | exact opens_guard (t := t0) rfl (by decide +kernel) | decide +kernel
  · decide +kernel

theorem witness_BarrierCounts :
    let b : Bar := { pend := -(2 ^ 31), left := 2 ^ 16 - 1, count := 2 ^ 16 - 1, unconf := 2 ^ 32 - 1, phase := true, broken := false, epoch := 255, rest := 2 ^ 22 - 1 }
    (-(2 ^ 31) ≤ b.pend ∧ b.pend < 2 ^ 31 ∧ b.left < 2 ^ 16 ∧ b.count < 2 ^ 16 ∧ b.unconf < 2 ^ 32 ∧ b.epoch < 2 ^ 8 ∧ b.rest < 2 ^ 22) ∧
    (b.left ≠ 0 ∧ b.pend + (2 ^ 32 - 1 : Nat) < 2 ^ 31) ∧ (2 : Int) ^ 31 ≤ b.pend + (2 ^ 32 : Nat) ∧
    -(2 ^ 31) ≤ bar0.pend - (2 ^ 31 : Nat) ∧ bar0.unconf + 2 ^ 31 < 2 ^ 32 := by decide +kernel

/-! Memory -/

theorem witness_LoadsIssue :
    let w : IWord := { w0 with a := 5, b := 1, mod := 7 }
    let r : TRegs := { g := [(1, BitVec.ofNat 64 (here sp0))] }
    let rc : TRegs := { g := [(1, BitVec.ofNat 64 (here 0x120001000000))] }
    let rp : TRegs := { g := [(1, BitVec.ofNat 64 (2 ^ 46 + sp0))] }
    let s := ready r
    let c := ready rc
    let p := link (ready rp)
    let d : IWord := { w0 with a := 15, b := 1 }
    let v : IWord := { w0 with a := 31, b := 1, pred := 1 }
    let sv := ready { r with p := [(0, 0x8000000000000001)] }
    let run := [(sp0, 8)]
    let om : OperandMeta := { fmt := 3, k := 4, n := 4, scaled := false }
    let rows : ArrKind := .pass (dsc 0x8010000 3 1 4 16) (dsc 0x8000000 0 1 4 16) 0 true (BitVec.allOnes 128) om 0
    let owed := s.setArray 0 { q := [{ op0 with kind := rows }] }
    let slow := s.setBoot { s.boot with retraining := some (.channel 0) }
    s.Enabled t0 w ∧ s.Enabled t0 d ∧ s.Ready t0 w (({ a := .g, b := .g, mods := 7, imm := true } : Form).ok w) false [gR 1, gR 5] ∧
    s.Ready t0 d (({ a := .d, b := .g, imm := true } : Form).ok d) false [gR 1, dR 15] ∧
    sv.Ready t0 v (({ a := .v, b := .g, imm := true } : Form).ok v) false [gR 1, vR 31] ∧
    memAddr r w 8 = here sp0 ∧ here sp0 % 16 = 0 ∧ memAddr { g := [(1, 1)] } w 8 % 8 ≠ 0 ∧
    (s.pastGuard t0 w).rangesFault (here sp0) run = 0 ∧ s.isSelf (devSplit (here sp0)).1 = true ∧ csrOffset sp0 = none ∧
    s.arrayOwes 0 run = false ∧ s.anyHeld run = false ∧ owed.arrayOwes 0 run = true ∧ slow.anyHeld [(0, 8)] = true ∧
    slow.arrayOwes 0 run = false ∧ s.rangesPoisoned run = false ∧ s.loadTag 0 false (rangeLines run) = some 0 ∧
    s.loadTag 0 true (rangeLines run) = some 0 ∧
    (c.rangesFault (here 0x120001000000) [(0x120001000000, 8)] = 0 ∧ csrOffset 0x120001000000 = some 0x1000000) ∧
    (p.rangesFault (2 ^ 46 + sp0) run = 0 ∧ p.isSelf (devSplit (2 ^ 46 + sp0)).1 = false ∧ p.linkFault 1 1 = 0 ∧
      p.Ready t0 w (({ a := .g, b := .g, mods := 7, imm := true } : Form).ok w) false [gR 1, gR 5]) ∧
    laneRuns ((sv.regs 0).guard v) = [(0, 1), (63, 1)] ∧ laneRuns ((s.regs 0).guard v) = [] := by
  dsimp only
  repeat' apply And.intro
  all_goals first | exact .inl rfl | exact ready_of (by decide +kernel) | decide +kernel

theorem witness_LoadsReturn :
    let s := up { st := .ready, loads := [{ ld0 with remote := some 1 }, ld0] }
    let u := up { st := .ready, loads := [{ ld0 with remote := some 1 }] }
    (s.thread t0.code).loads.find? (fun l => l.remote.isNone) = some ld0 ∧
    (∀ l ∈ (u.thread t0.code).loads, l.remote.isSome = true) ∧ 0 < ld0.size ∧ ld0.size ≤ 8 ∧
    ({ ld0 with dest := .vector 31 1 } : Load).dest = .vector 31 1 ∧ ({ ld0 with dest := .desc 15 } : Load).dest = .desc 15 := by
  decide +kernel

theorem witness_StoresIssue :
    let w : IWord := { w0 with a := 5, b := 1, mod := 3 }
    let v : IWord := { w0 with a := 31, b := 1, pred := 1 }
    let r : TRegs := { g := [(1, BitVec.ofNat 64 (here sp0))], p := [(0, 0x8000000000000001)] }
    let s := ready r
    let vat := ready { r with g := [(1, BitVec.ofNat 64 (here 0x110000000000))] }
    let c := ready { r with g := [(1, BitVec.ofNat 64 (here 0x120001000000))] }
    let p := link (ready { r with g := [(1, BitVec.ofNat 64 (2 ^ 46 + sp0))] })
    s.Enabled t0 w ∧
    (s.ownScratch 0 (here sp0) [(sp0, 8)] = true ∧ s.Ready t0 w (({ a := .g, b := .g, mods := 3, imm := true } : Form).ok w) false [gR 5, gR 1] ∧
      s.rangesFault (here sp0) [(sp0, 8)] = 0 ∧ s.Opens 0 [] [(sp0, 8)] 0 s) ∧
    (vat.ownScratch 0 (here 0x110000000000) [(0x110000000000, 8)] = false ∧
      vat.Ready t0 w (({ a := .g, b := .g, mods := 3, imm := true } : Form).ok w) true [gR 5, gR 1]) ∧
    (c.rangesFault (here 0x120001000000) [(0x120001000000, 8)] = 0 ∧ csrOffset 0x120001000000 = some 0x1000000 ∧
      threadCsrFault 0x1000000 .eight = 0) ∧
    (p.rangesFault (2 ^ 46 + sp0) [(sp0, 8)] = 0 ∧ p.isSelf 1 = false ∧ p.linkFault 1 1 = 0) ∧
    (s.Ready t0 v (({ a := .v, b := .g, imm := true } : Form).ok v) false [vR 31, gR 1] ∧
      laneRuns ((s.regs 0).guard v) = [(0, 1), (63, 1)] ∧ s.Opens 0 [] [(sp0, 4), (sp0 + 252, 4)] 0 s) := by
  dsimp only
  repeat' apply And.intro
  all_goals first | exact .inl rfl | exact ready_of (by decide +kernel) | exact opens_self (by decide +kernel) | decide +kernel

theorem witness_WritesReachTheirBytesAlone :
    let s := ready {}
    let cells : List (Nat × Byte) := [(sp0, 1), (sp0 + 1, 2)]
    (cells.map (·.1)).Nodup ∧ regionOf (sp0 + 2) ≠ .host ∧ (∀ c ∈ cells, c.1 ≠ sp0 + 2) ∧ s.bars = [] ∧
    (sp0, (1 : Byte)) ∈ cells ∧ (∀ c ∈ cells, regionOf c.1 ≠ .host) ∧ s.badLine (lineOf sp0) = false := by decide +kernel

theorem witness_AtomicResults :
    let w : IWord := { w0 with a := 5, b := 1, c := 2, d := 3, mod := 0x39 }
    let v : IWord := { w0 with a := 1, b := 31, c := 2, pred := 1 }
    let r : TRegs := { g := [(1, BitVec.ofNat 64 (here sp0))], p := [(0, 1)] }
    let s := ready r
    let p := link (ready { r with g := [(1, BitVec.ofNat 64 (2 ^ 46 + sp0))] })
    s.Enabled t0 w ∧
    (s.ownScratch 0 (here sp0) [(sp0, 8)] = true ∧ s.Ready t0 w (atomForm w) false [gR 1, gR 2, gR 3, gR 5] ∧
      s.atomFault (here sp0) [(sp0, 8)] = 0 ∧ s.isSelf (devSplit (here sp0)).1 = true ∧ s.Opens 0 [(sp0, 8)] [(sp0, 8)] 0 s) ∧
    (p.Ready t0 w (atomForm w) true [gR 1, gR 2, gR 3, gR 5] ∧ p.atomFault (2 ^ 46 + sp0) [(sp0, 8)] = 0 ∧ p.isSelf 1 = false) ∧
    (here sp0 % 512 = 0 ∧ s.Ready t0 v (({ a := .g, b := .v, c := .g } : Form).ok v) false [gR 1, vR 31, gR 2] ∧
      (List.range 64).filter (fun i => ((s.regs 0).guard v).getLsbD i) = [0]) ∧
    (List.range 64).filter (fun i => (({} : TRegs).guard v).getLsbD i) = [] ∧
    p.Ready t0 v (({ a := .g, b := .v, c := .g } : Form).ok v) true [gR 1, vR 31, gR 2] := by
  dsimp only
  repeat' apply And.intro
  all_goals first | exact .inl rfl | exact ready_of (by decide +kernel) | exact opens_self (by decide +kernel) | decide +kernel

/-! Regions and the array -/

/-- Registers with descriptors of 2 by 4 regions in the first scratchpad, of formats 0, 3, 0, and an empty one. -/
def rg : TRegs :=
  { g := [(3, 16), (4, 0x3F800000), (5, 0x8020000)],
    d := [(0, dsc 0x8000000 0 2 4 16), (1, dsc 0x8010000 3 2 4 16), (2, dsc 0x8030000 0 2 4 16), (3, dsc 0 0 0 4 0)] }

theorem witness_RowStatistics :
    let s := ready rg
    let mx : IWord := { w0 with a := 31, b := 1, c := 0 }
    let sm : IWord := { w0 with a := 31, b := 1, c := 0, d := 1, mod := 1 }
    let rs : IWord := { w0 with a := 31, b := 1, c := 2, imm := 64 }
    let rt : IWord := { w0 with a := 0, b := 1, c := 2 }
    let rp : IWord := { w0 with a := 31, b := 0 }
    let rf : IWord := { w0 with a := 31, b := 1, c := 3, d := 4, imm := 64 }
    let dI := Desc.dec (dsc 0x8000000 0 2 4 16)
    let dO := Desc.dec (dsc 0x8010000 3 2 4 16)
    let dE := Desc.dec (dsc 0 0 0 4 0)
    s.Enabled t0 mx ∧ s.Enabled t0 sm ∧ s.Enabled t0 rs ∧
    (dI.fault 0 false false = 0 ∧ dI.rowInput = true ∧ dI.rows ≤ 64 ∧ dI.some = true ∧ dE.fault 0 false false = 0 ∧ dE.some = false) ∧
    (s.Ready t0 mx (({ a := .v, b := .v, c := .d } : Form).ok mx) false [vR 1, dR 0, vR 31] ∧
      (s.pastGuard t0 mx).Opens 0 (dI.rowRanges 0) [] 0 s) ∧
    (s.Ready t0 sm (({ a := .v, b := .v, c := .d, d := .d, mods := 1 } : Form).ok sm) false [vR 1, dR 0, dR 1, vR 31] ∧ dO.inVat = false ∧
      dO.fault 0 true false = 0 ∧ dO.rowProb = true ∧ dO.rows = dI.rows ∧ dO.cols = dI.cols ∧ rowsClash 0 dI dO = false ∧
      (s.pastGuard t0 sm).Opens 0 (dI.rowRanges 0) (dO.readRanges 0 false) 0 s) ∧
    (s.Ready t0 rs (({ a := .v, b := .v, c := .v, imm := true } : Form).ok rs && decide (0 ≤ rs.simm)) false [vR 1, vR 2, vR 31] ∧
      rowImm rs ≤ 64) ∧
    (s.Ready t0 rt (({ a := .d, b := .v, c := .v } : Form).ok rt) dI.inVat [dR 0, vR 1, vR 2] ∧ dI.fault 0 true false = 0 ∧ dI.fmt = 0 ∧
      dI.scaleEn = false ∧ (s.pastGuard t0 rt).Opens 0 (dI.rowRanges 0) (dI.rowRanges 0) 0 s) ∧
    s.Ready t0 rp (({ a := .v, b := .d } : Form).ok rp) false [dR 0, vR 31] ∧
    (s.Ready t0 rf (({ a := .v, b := .v, c := .g, d := .g, imm := true } : Form).ok rf && decide (0 ≤ rf.simm)) false
        [vR 1, gR 3, gR 4, vR 31] ∧ rowImm rf ≤ 64 ∧ ((s.regs 0).getG 3).toNat % 2 ^ 32 ≠ 0 ∧ (fp32.dec 0x3F800000).isFin = true ∧
      (fp32.dec 0x3F800000).neg = false ∧ (fp32.dec 0x7F800000).isFin = false ∧ (fp32.dec 0xBF800000).neg = true ∧
      (fp32.dec 0xBF800000).dy.m ≠ 0) := by
  dsimp only
  repeat' apply And.intro
  all_goals first | exact .inl rfl | exact ready_of (by decide +kernel) | exact opens_guard (t := t0) rfl (by decide +kernel) | decide +kernel

theorem witness_AttentionRegions :
    let s := ready { rg with g := [(1, 0), (2, 1), (3, 63), (5, 0x8020000), (6, 0x8020040)] }
    let w : IWord := { w0 with a := 0, b := 1, c := 2, d := 3, mod := 1 }
    let x : IWord := { w with x := true, mod := 3, ext := 5 + 6 * 64 }
    let k : IWord := { w0 with a := 2, b := 0 }
    let n : IWord := { w0 with a := 1, b := 0, mod := 1 }
    let d := Desc.dec (dsc 0x8000000 0 2 4 16)
    let o := Desc.dec (dsc 0x8010000 3 2 4 16)
    let e := Desc.dec (dsc 0x8030000 0 2 4 16)
    s.Enabled t0 w ∧ s.Enabled t0 x ∧ s.Enabled t0 k ∧
    (s.Ready t0 w (({ a := .d, b := .g, c := .g, d := .g, mods := 3, x := .never } : Form).ok w) d.inVat [dR 0, gR 1, gR 2, gR 3] ∧
      d.fault 0 true false = 0 ∧ ((s.regs 0).getG 3).toNat ≤ 63 ∧ d.fmt = 0 ∧ d.some = true) ∧
    (s.Ready t0 x (({ a := .d, b := .g, c := .g, d := .g, mods := 3, x := .fields [0, 1] } : Form).ok x) d.inVat
        [dR 0, gR 1, gR 2, gR 3, gR 5, gR 6] ∧ segOk 0 0x8020000 2 = true ∧ segOk 0 0x8020040 4 = true ∧
      (s.pastGuard t0 x).Opens 0 (d.rowRanges 0 ++ [(tileBase 0 + 0x8020000, 8), (tileBase 0 + 0x8020040, 16)]) (d.rowRanges 0) 0 s) ∧
    (s.Ready t0 k (({ a := .d, b := .d, mods := 3 } : Form).ok k) false [dR 2, dR 0] ∧ kcvtBad e d = false ∧
      (s.pastGuard t0 k).Opens 0 (d.readRanges 0 false) (e.readRanges 0 false) 0 s) ∧
    (s.Ready t0 n (({ a := .d, b := .d, mods := 3 } : Form).ok n) false [dR 1, dR 0] ∧ kcvtBad o d = false ∧ o.fmt ≠ d.fmt ∧
      kcvtWidens d.fmt o.fmt = false ∧ n.m 0 = true) ∧
    (Desc.dec (dsc 0 0 0 4 0)).some = false := by
  dsimp only
  repeat' apply And.intro
  all_goals first | exact .inl rfl | exact ready_of (by decide +kernel) | exact opens_guard (t := t0) rfl (by decide +kernel) | decide +kernel

theorem witness_WeightUpdates :
    let s := (ready { rg with g := [(4, 0x3F800000), (5, 0x8020000)], d := [(0, dsc 0x8000000 0 2 4 16), (1, dsc 0x8010000 1 2 4 16), (2, dsc 0x8030000 1 2 4 16), (3, dsc 0x8040000 1 2 4 16)] }).putCells
      (cellsFrom (tileBase 0 + 0x8020000) (leBytes 48 (0x3F800000 * 2 ^ 192)))
    let w : IWord := { w0 with a := 0, b := 1, c := 4, d := 5 }
    let ws : IWord := { w with mod := 0x8000 }
    let x : IWord := { w0 with x := true, a := 0, b := 1, c := 2, d := 3, ext := 4 + 5 * 64 }
    let xs : IWord := { x with mod := 0x8000 }
    let d := Desc.dec (dsc 0x8000000 0 2 4 16)
    let b := Desc.dec (dsc 0x8010000 1 2 4 16)
    let c := Desc.dec (dsc 0x8030000 1 2 4 16)
    let e := Desc.dec (dsc 0x8040000 1 2 4 16)
    let l := Layer.dec (s.readNat (tileBase 0 + 0x8020000) 48)
    let rds := d.rowRanges 0 ++ b.rowRanges 0
    let off := s.setThread 0 { s.thread 0 with regs := { s.regs 0 with p := [(1, 0)] } }
    let ns : IWord := { ws with pred := 2 }
    let nx : IWord := { xs with pred := 2 }
    s.Enabled t0 w ∧ s.Enabled t0 ws ∧ s.Enabled t0 x ∧ s.Enabled t0 xs ∧
    s.Ready t0 w (({ a := .d, b := .d, c := .g, d := .g } : Form).ok w) d.inVat [dR 0, dR 1, gR 4, gR 5] ∧
    s.Ready t0 ws (({ a := .d, b := .d, c := .g, d := .g, mods := 0x8000 } : Form).ok ws) d.inVat [dR 0, dR 1, gR 4, gR 5] ∧
    s.Ready t0 x (({ a := .d, b := .d, c := .d, d := .d, x := .fields [0, 1] } : Form).ok x) (d.inVat || c.inVat || e.inVat)
      [dR 0, dR 1, dR 2, dR 3, gR 4, gR 5] ∧
    s.Ready t0 xs (({ a := .d, b := .d, c := .d, d := .d, mods := 0x8000, x := .fields [0, 1] } : Form).ok xs)
      (d.inVat || c.inVat || e.inVat) [dR 0, dR 1, dR 2, dR 3, gR 4, gR 5] ∧
    w.m 15 = false ∧ ws.m 15 = true ∧ x.m 15 = false ∧ xs.m 15 = true ∧
    (d.fault 0 true false = 0 ∧ b.fault 0 false false = 0 ∧ c.fault 0 true false = 0 ∧ e.fault 0 true false = 0 ∧ d.rows ≠ 0 ∧ d.cols ≠ 0 ∧
      inVatOrOwn 0 0x8020000 48 = true ∧ wupdBad d [(b, [1])] = false ∧ wupdBad d [(b, [0, 1]), (c, [1]), (e, [1])] = false ∧
      d.fmt = l.wfmt ∧ l.bad false = false ∧ l.bad true = false) ∧
    (s.pastGuard t0 w).Opens 0 [(tileBase 0 + 0x8020000, 48)] [] 0 s ∧
    (s.pastGuard t0 w).Opens 0 rds (d.rowRanges 0) 0 s ∧
    (let z := Desc.dec (dsc 0 0 0 4 0); z.rows = 0 ∧ wupdBad z [(Desc.dec (dsc 0 1 0 4 0), [1])] = false) ∧
    ns.m 15 = true ∧ nx.m 15 = true ∧ ¬ off.Enabled t0 ns ∧ ¬ off.Enabled t0 nx ∧
    off.Ready t0 ns (({ a := .d, b := .d, c := .g, d := .g, mods := 0x8000 } : Form).ok ns) d.inVat [dR 0, dR 1, gR 4, gR 5] ∧
    off.Ready t0 nx (({ a := .d, b := .d, c := .d, d := .d, mods := 0x8000, x := .fields [0, 1] } : Form).ok nx)
      (d.inVat || c.inVat || e.inVat) [dR 0, dR 1, dR 2, dR 3, gR 4, gR 5] := by
  dsimp only
  repeat' apply And.intro
  all_goals first | exact .inl rfl | exact fun h => absurd h (by unfold State.Enabled; decide +kernel) | exact ready_of (by decide +kernel) | exact opens_guard (t := t0) rfl (by decide +kernel) | decide +kernel

theorem witness_ArrayInstructions :
    let r : TRegs := { g := [(7, 0x8000100)], d := [(0, dsc 0x8000000 3 2 4 16), (1, dsc 0x8010000 3 3 2 16), (2, dsc 0x8020000 0 3 4 16),
      (3, dsc 0x8030000 0 3 4 16)] }
    let meta2 : OperandMeta := { fmt := 3, k := 2, n := 4, scaled := false }
    let s := (ready r).setArray 0 { lease := some 0, latest := some meta2 }
    let ld : IWord := { w0 with a := 0 }
    let lt : IWord := { w0 with a := 0, mod := 1 }
    let st : IWord := { w0 with a := 1, b := 2, d := 7, mod := 4 }
    let mk : IWord := { st with c := 14, mod := 8 }
    let dr : IWord := { w0 with a := 2, b := 3 }
    let dt : IWord := { w0 with a := 2, b := 4, c := 7, mod := 1 }
    let d := Desc.dec (dsc 0x8000000 3 2 4 16)
    let a := Desc.dec (dsc 0x8010000 3 3 2 16)
    let c := Desc.dec (dsc 0x8020000 0 3 4 16)
    let o := Desc.dec (dsc 0x8030000 0 3 4 16)
    s.Enabled t0 ld ∧ s.Enabled t0 st ∧ s.Enabled t0 dr ∧ s.Enabled t0 w0 ∧
    (s.Ready t0 w0 (({} : Form).ok w0) true [] ∧ (s.core 0).array.lease = some 0 ∧ ((ready r).core 0).array.lease = none ∧
      (((ready r).setArray 0 { lease := some 127 }).core 0).array.lease = some 127) ∧
    (s.Ready t0 ld (({ a := .d } : Form).ok ld) true [dR 0] ∧ d.fault 0 false true = 0 ∧ d.rows ≤ 256 ∧ d.cols ≤ 128 ∧ d.fmt ≤ 7 ∧
      d.scaleEn = false ∧ (s.core 0).array.full = false ∧ (s.core 0).array.loading = false ∧ d.fmt ≠ 0 ∧
      s.arrayOwes 0 (d.readRanges 0 true) = false) ∧
    (s.Ready t0 lt (({ a := .d, mods := 1 } : Form).ok lt) true [dR 0] ∧ lt.m 0 = true ∧ d.fault 0 false false = 0 ∧ d.fmt ≠ 5 ∧
      s.engineRoom 0 (spanCount (d.readRanges 0 false)) = true ∧
      s.arrayOwes 0 (d.readRanges 0 false) = false) ∧
    (s.Ready t0 st (({ a := .d, b := .d, c := .none, d := .g, mods := 0xF } : Form).ok st && decide (st.ms 0 2 ≠ 3) && true) true
        [dR 1, dR 2, gR 7] ∧ st.m 3 = false ∧ (s.core 0).array.latest = some meta2 ∧ streamFault 0 a c (some meta2) 0x8000100 = 0 ∧
      a.rows ≠ 0 ∧ passCols 4 (passMask r st) ≠ [] ∧ s.arrayOwes 0 (a.readRanges 0 false) = false) ∧
    (s.Ready t0 mk (({ a := .d, b := .d, c := .p, d := .g, mods := 0xF } : Form).ok mk && decide (mk.ms 0 2 ≠ 3) &&
        decide (mk.c.toNat % 2 = 0)) true [dR 1, dR 2, gR 7, pR 14, pR 15] ∧ passCols 4 (passMask r mk) = []) ∧
    (s.Ready t0 dr (drainOk dr) (drainGate r dr) (drainReads dr) ∧ c.fault 0 false false = 0 ∧ o.fault 0 true false = 0 ∧
      drainBad c o dr = false ∧ barFault 0 = 0 ∧ inOwn 0 c.base c.span = true ∧ s.arrayOwes 0 [] = false ∧
      s.arrayHolds 0 ((List.range 3).flatMap (drainOut (s.drainSpec 0 dr true) 0)) = false ∧ (s.drainSpec 0 dr true).smode = 0 ∧
      drainAddrs dr 3 4 = [] ∧ s.rangesTag [] &&& ~~~(BitVec.ofNat 8 (s.thread 0).glide) = 0) ∧
    (s.Ready t0 dt (drainOk dt) true (drainReads dt) ∧ dt.m 0 = true ∧ s.engineRoom 0 (spanCount (o.rowRanges 0)) = true) := by
  dsimp only
  repeat' apply And.intro
  all_goals first | exact .inl rfl | exact ready_of (by decide +kernel) | decide +kernel

theorem witness_LeaseRotates :
    let a : MatArray := { lease := some 127, wait := [127, 3] }
    a.lease = some 127 ∧ (∀ n ∈ a.wait, n < 128) ∧ a.wait ≠ [] ∧ a.lease ≠ some 0 ∧ ({ lease := some 127 } : MatArray).wait = [] := by
  decide +kernel

/-- The first core. -/
def c0 : Cid := ⟨0, 0⟩

/-- The first core with an array in a state. -/
def arr (a : MatArray) : State := (ready rg).setArray 0 a

theorem witness_ArrayEvents :
    let ld (ph : Nat) : ArrOp := { op0 with kind := .load (dsc 0x8010000 3 2 4 16) false ph }
    let f32 : ArrOp := { op0 with kind := .load (dsc 0x8000000 0 2 4 16) false 0 }
    let m : OperandMeta := { fmt := 3, k := 4, n := 4, scaled := false }
    let ps (n : Nat) : ArrOp := { op0 with kind := .pass (dsc 0x8010000 3 2 4 16) (dsc 0x8000000 0 2 4 16) 0 true (BitVec.allOnes 128) m n }
    let isL (k : Nat) (o : ArrOp) : Bool := match o.kind with | .load _ _ p => decide (p = k) | _ => false
    ((arr { ramp := 1, cols := 127 }).core 0).array.ramp = 1 ∧ ((arr { ramp := 3, cols := 1 }).core 0).array.ramp = 3 ∧
    ((arr { ramp := 2, hold := some 0 }).core 0).array.hold.isSome = true ∧
    ((arr { q := [ld 0] }).core 0).array.q.find? (isL 0) = some (ld 0) ∧
    (arr { q := [ld 0] }).rangesTag ((Desc.dec (dsc 0x8010000 3 2 4 16)).readRanges 0 true) = 0 ∧
    ((arr { q := [f32] }).core 0).array.q.find? (isL 0) = some f32 ∧
    (arr { q := [f32] }).rangesTag ((Desc.dec (dsc 0x8000000 0 2 4 16)).readRanges 0 true) = 0 ∧
    (((arr { q := [ld 1], ramp := 2 }).core 0).array.q.find? (isL 1) = some (ld 1) ∧
      (∀ x ∈ ((arr { q := [ld 1], ramp := 2 }).core 0).array.before 1, x.entering = false)) ∧
    ((arr { q := [ld 2] }).core 0).array.q.find? (isL 2) = some (ld 2) ∧
    (let o : Operand := { fmt := 3, k := 4, n := 4, codes := [], scales := [], poisoned := false }
     let s := arr { q := [ps 1], ramp := 2, front := some o }
     (s.core 0).array.q.find? ArrOp.entering = some (ps 1) ∧ (s.core 0).array.front = some o ∧
      s.rangesTag ((Desc.dec (dsc 0x8010000 3 2 4 16)).rowReads 0 1 ++ []) = 0 ∧ (s.core 0).array.before 1 = []) ∧
    (((arr { q := [ps 2] }).core 0).array.q.find? (fun o => match o.kind with | .pass _ _ _ _ _ _ _ => true | _ => false) = some (ps 2) ∧
      (Desc.dec (dsc 0x8010000 3 2 4 16)).rows ≤ 2) := by
  decide +kernel

theorem witness_EpilogueEvents :
    let sp : DrainSpec := { tC := dsc 0x8000000 0 2 4 16, tD := dsc 0x8030000 0 2 4 16, trans := false, act := 0, smode := 0, satm := false, scale := none, bias := none, table := [], amax := 0, margin := 0 }
    let sq : DrainSpec := { sp with smode := 2, tD := dsc 0x8030000 3 2 4 16, amax := 0x8050000 }
    let run : DrainRun := { todo := [(0, 0), (1, 0)] }
    let dn (sp : DrainSpec) (r : DrainRun) : ArrOp := { op0 with kind := .drain sp r }
    let s := arr { q := [dn sp run] }
    let chk (e : Int) (k : Nat) : DrainRun := { todo := [], tiles := [(0, { e := some e, k := k })], vals := [(0, [0x3F800000]), (1, [0x3F800000])] }
    let ovf (e : Int) (r : DrainRun) : Bool :=
      (((tileRows 2 0).flatMap (fun m => r.vals.getD m [])).map sq.num).any (fun x => fmtOverflows 3 (x.scale (-e)))
    ((s.core 0).array.drain = some (dn sp run, sp, run) ∧ (s.core 0).array.before 1 = [] ∧
      s.rangesTag [(Desc.dec sp.tC).rowRange 0 0] &&& ~~~run.tag = 0 ∧ s.rangesPoisoned [(Desc.dec sp.tC).rowRange 0 0] = false ∧
      (s.drainAny 0 (dn sp run) sp { run with todo := [(1, 0)] } 0 0
        ((s.accRow 0 (Desc.dec sp.tC) 0).zipIdx.map (fun x => s.epilogue sp x.2 x.1)) none).isSome = true) ∧
    (let u := arr { q := [dn sq (chk 0 0)] }
     (u.core 0).array.drain = some (dn sq (chk 0 0), sq, chk 0 0) ∧
      (chk 0 0).tiles.find? (fun x => !x.2.final) = some (0, { e := some 0, k := 0 }) ∧ ovf 0 (chk 0 0) = false ∧
      (u.finishTile 0 (dn sq (chk 0 0)) sq (chk 0 0) 0 false).isSome = true ∧
      (∀ m ∈ tileRows 2 0, (SMap.find (chk 0 0).vals m).isSome = true)) ∧
    ovf (-127) (chk (-127) 0) = true ∧
    (let u := arr { q := [dn sq (chk (-127) 2)] }
     let q := u.refuseDrain 0 sq (chk (-127) 2)
     (q.1.finishTile 0 (dn sq (chk (-127) 2)) sq q.2 0 true).isSome = true) ∧
    (let fin : DrainRun := { todo := [] }
     drainBegun sp fin = true ∧
      ((arr { q := [dn sp fin] }).core 0).array.q.find? (fun o => match o.kind with | .drain _ _ => true | _ => false) = some (dn sp fin)) := by
  decide +kernel

/-! Copies and wheels -/

theorem witness_CopiesAccepted :
    let w : IWord := { w0 with a := 1, b := 2, c := 3, d := 4 }
    let x : IWord := { w0 with x := true, a := 1, b := 2, c := 4, ext := 5 + 5 * 64 + 6 * 2 ^ 12 + 6 * 2 ^ 18 }
    let r : TRegs := { g := [(1, BitVec.ofNat 64 (here sp0)), (2, BitVec.ofNat 64 (here 0x110000000000)), (3, 256), (4, 0x8000100), (5, 4), (6, 16)] }
    let s := ready r
    let y : Transp := { g := { fmt := 0, src := here 0x110000000000, dst := here sp0, sstride := 16, dstride := 16, rows := 4, cols := 4 }, sc := x.m 4, col := x.m 5, ssrc := ((s.regs 0).getG (x.f 4)).toNat, sdst := ((s.regs 0).getG (x.f 5)).toNat }
    let kv : IWord := { w0 with x := true, a := 0, b := 1, c := 2, d := 4, ext := 5 + 5 * 64 + 6 * 2 ^ 12 }
    let u := wheels (ready { g := [(1, 0), (2, 0), (4, 0x8000100), (5, 0), (6, 1)], d := [(0, dsc 0x8000000 0 1 32 128)] }) (wv 1)
    let z := wheels (ready { g := [(1, 0), (2, 0), (4, 0), (5, 0), (6, 0)], d := [(0, 0)] }) (wv 1)
    let off := wheels (ready { g := [(1, 5)], d := [(0, 0)] }) (wv 1)
    s.Enabled t0 w ∧ s.Enabled t0 x ∧ u.Enabled t0 kv ∧
    (s.Ready t0 w (({ a := .g, b := .g, c := .g, d := .g } : Form).ok w) true [gR 1, gR 2, gR 3, gR 4] ∧
      s.moveFault (here sp0) (here 0x110000000000) 256 = 0 ∧ barFault 0x8000100 = 0 ∧ s.engineRoom 0 2 = true ∧
      s.moveFault (here sp0) (here sp0 + 1) 256 ≠ 0) ∧
    (s.Ready t0 x (({ a := .g, b := .g, c := .g, mods := 0x1F, x := .fields [0, 1, 2, 3] } : Form).ok x) true
      [gR 1, gR 2, gR 4, gR 5, gR 5, gR 6, gR 6] ∧ s.transpFault y = 0) ∧
    (u.Ready t0 kv (kvSpec kv).ok true (kvSpec kv).reads ∧ u.kvFault 0 (kvArgs (u.regs 0) kv) true = 0 ∧ u.engineRoom 0 2 = true) ∧
    (off.kvFault 0 (kvArgs (off.regs 0) kv) true ≠ 0) ∧
    (z.Ready t0 kv (kvSpec kv).ok true (kvSpec kv).reads ∧ z.kvFault 0 (kvArgs (z.regs 0) kv) false = 0 ∧
      (∃ q, z.putPages 0 0 0 [] = .ready q)) ∧
    (z.putFault 0 (kvArgs (z.regs 0) kv) = 0 ∧ u.putFault 0 (kvArgs (u.regs 0) kv) = 0 ∧ off.putFault 0 (kvArgs (off.regs 0) kv) ≠ 0 ∧
      (match u.putPages 0 0 0 [0] with | .fail _ => true | _ => false) = true ∧
      (match ({ u with wops := [.cow 0 0 0 0 {}] } : State).putPages 0 0 0 [0] with | .wait _ => true | _ => false) = true) := by
  dsimp only
  repeat' apply And.intro
  all_goals first | exact .inl rfl | exact ready_of (by decide +kernel) | exact ⟨_, rfl⟩ | decide +kernel

theorem witness_CopyCommands :
    let s := up {}
    let mk (opc : Nat) (b : List (Nat × Nat)) : Cmd := { entry := ent opc b }
    let copy (n : Nat) := mk 0x02 [(0, here sp0), (8, here 0x110000000000), (16, n), (24, 0xFF)]
    let tr (fmt rows : Nat) := mk 0x03 [(0, here sp0), (8, here 0x110000000000), (24, 35), (25, fmt), (32, rows), (36, 4), (40, 16), (48, 16)]
    let cave (n : Nat) := mk 0x18 [(0, here 0x110000000000), (8, n)]
    let bad := { withCmd s (cave 1).entry with poison := [(0x110000000000 / 64, true)] }
    (∀ n ∈ [0, 64, 2 ^ 40, 2 ^ 40 + 1], (withCmd s (copy n).entry).Starts k0 0x02 [(0, 25)] (copy n) ∧ (copy n).body 16 8 = n) ∧
    s.copyTile 0xFF = some 0 ∧ s.copyTile 35 = some 35 ∧ s.engineRoom 0 8192 = true ∧
    s.moveFault (here sp0) (here 0x110000000000) 64 = 0 ∧ s.moveFault (here sp0) (here 0x110000000000) (2 ^ 40) ≠ 0 ∧
    (∀ p ∈ [(0, 4), (0, 0), (5, 4)], (withCmd s (tr p.1 p.2).entry).Starts k0 0x03 [(0, 26), (32, 40)] (tr p.1 p.2) ∧
      (tr p.1 p.2).body 25 1 < 64) ∧
    s.transpFault (transpOf (tr 0 4)) = 0 ∧ s.transpFault (transpOf (tr 0 0)) = 0 ∧ s.transpFault (transpOf (tr 5 4)) ≠ 0 ∧
    (∀ n ∈ [0, 1, 2 ^ 20], (withCmd s (cave n).entry).Starts k0 0x18 [(0, 13)] (cave n) ∧ (cave n).body 8 4 = n ∧ (cave n).body 12 1 ≤ 1) ∧
    s.tilesOn.head? = some 0 ∧ s.addrFault .engine 0x110000000000 24 = 0 ∧ s.poisoned 0x110000000000 24 = false ∧
    (bad.Starts k0 0x18 [(0, 13)] (cave 1) ∧ bad.poisoned 0x110000000000 24 = true) := by
  dsimp only
  refine ⟨?_, by decide +kernel, by decide +kernel, by decide +kernel, by decide +kernel, by decide +kernel, ?_, by decide +kernel,
    by decide +kernel, by decide +kernel, ?_, by decide +kernel, by decide +kernel, by decide +kernel, starts_of (by decide +kernel), by decide +kernel⟩
  · intro n hn
    simp only [List.mem_cons, List.not_mem_nil, or_false] at hn
    rcases hn with rfl | rfl | rfl | rfl <;> exact ⟨starts_of (by decide +kernel), by decide +kernel⟩
  · intro n hn
    simp only [List.mem_cons, List.not_mem_nil, or_false] at hn
    rcases hn with rfl | rfl | rfl <;> exact ⟨starts_of (by decide +kernel), by decide +kernel⟩
  · intro n hn
    simp only [List.mem_cons, List.not_mem_nil, or_false] at hn
    rcases hn with rfl | rfl | rfl <;> exact ⟨starts_of (by decide +kernel), by decide +kernel⟩

theorem witness_TransactionsMove :
    let c : Copy := { org := .cmd k0, bar := 0, ep := 0, segs := [], out := 1 }
    let mv (b : Nat) : Txn := { copy := 1, op := .mv (here 0x110000000000) b 256 true }
    let st (x : Txn) : State := (up {}).setTile 0 { copies := [(1, c)], txns := [(2, x)] }
    let near := st (mv (here sp0))
    let far := link (st (mv (2 ^ 46 + sp0)))
    let bad := { far with poison := [(0x110000000000 / 64, true)] }
    let half := { far with poison := [(0x110000000000 / 64 + 1, true)] }
    let glide := { near with ltags := [(0x110000000000 / 64, ⟨1, 128⟩)] }
    (SMap.find (near.tile 0).txns 2 = some (mv (here sp0)) ∧ SMap.find (near.tile 0).copies 1 = some c ∧ near.computeUp = true ∧
      near.txnReady 0 2 c (mv (here sp0)) = true ∧ c.blocked = false ∧ near.pastEdge (here sp0) = false ∧ near.here (here sp0) = true) ∧
    (far.txnReady 0 2 c (mv (2 ^ 46 + sp0)) = true ∧ far.here (2 ^ 46 + sp0) = false ∧
      (far.txnBytes c (mv (2 ^ 46 + sp0))).any (·.2) = false) ∧
    ((half.txnBytes c (mv (2 ^ 46 + sp0))).any (·.2) = true ∧
      (cleanPrefix (2 ^ 46 + sp0) (half.txnBytes c (mv (2 ^ 46 + sp0)))).length = 64) ∧
    (bad.pastEdge (2 ^ 46 + sp0) = true ∧ (bad.txnBytes c (mv (2 ^ 46 + sp0))).any (·.2) = true) ∧
    glide.txnReady 0 2 c (mv (here sp0)) = false ∧ SMap.find (near.tile 0).txns 3 = none := by decide +kernel

theorem witness_WheelCommands :
    let mk (opc : Nat) (b : List (Nat × Nat)) : Cmd := { entry := ent opc b }
    let cr := mk 0x10 [(0, 3), (16, wv 0)]
    let cb := mk 0x10 [(0, 3), (16, wv 1)]
    let sh (i1 : Nat) := mk 0x11 [(2, 1), (12, i1)]
    let s (e : Cmd) (st : Nat) : State := withCmd (wheels (up {}) (wv st + wv 1 * 2 ^ 512)) e.entry
    let two (e : Cmd) : State := withCmd (((wheels (up {}) (wv 1)).kvWrite 64 64 (wv 1))) e.entry
    (∀ e ∈ [cr, cb], (s e 1).Starts k0 0x10 [(0, 2), (16, 64)] e ∧ (s e 1).wops = [] ∧ (s e 1).kvWaiting = [] ∧ ((s e 1).startCmd k0).stateFault 3 [0] = 0) ∧
    (s cr 1).createOk (Wheel.dec (wv 0)) = true ∧ (s cr 1).createOk (Wheel.dec (wv 1)) = false ∧
    (∀ n ∈ [0, 1], (two (sh n)).Starts k0 0x11 [(0, 4), (8, 8)] (sh n) ∧ (sh n).body 12 4 = n ∧ (two (sh n)).stateFault 0 [1] = 0 ∧
      (two (sh n)).stateFault 1 [1] = 0) ∧
    (let t := two (sh 1)
     1 ≤ (t.wheel 0).indices ∧ (t.wheel 0).streams = 2 ∧ (t.entry (t.wheel 1) 0 0).valid = false ∧ (t.entry (t.wheel 1) 1 0).valid = false) ∧
    ((s (mk 0x12 [(12, 4)]) 1).Starts k0 0x12 [(0, 2), (8, 8)] (mk 0x12 [(12, 4)]) ∧ (s (mk 0x12 [(12, 4)]) 1).stateFault 0 [1] = 0) ∧
    ((s (mk 0x13 []) 5).Starts k0 0x13 [(0, 2)] (mk 0x13 []) ∧ (s (mk 0x13 []) 5).stateFault 0 [1, 3, 5] = 0 ∧
      (s (mk 0x13 []) 5).epochRoom ((s (mk 0x13 []) 5).wheel 0).pages = true) ∧
    ((s (mk 0x14 []) 1).Starts k0 0x14 [(0, 2)] (mk 0x14 []) ∧ (s (mk 0x14 []) 1).stateFault 0 [1] = 0) ∧
    ((s (mk 0x15 []) 3).Starts k0 0x15 [(0, 2)] (mk 0x15 []) ∧ (s (mk 0x15 []) 3).stateFault 0 [3] = 0) ∧
    (s (mk 0x15 [(0, 4)]) 3).stateFault 4 [3] ≠ 0 ∧ (s cr 1).stateFault 0 [0] ≠ 0 := by
  dsimp only
  refine ⟨?_, by decide +kernel, by decide +kernel, ?_, by decide +kernel, ⟨starts_of (by decide +kernel), by decide +kernel⟩,
    ⟨starts_of (by decide +kernel), by decide +kernel⟩, ⟨starts_of (by decide +kernel), by decide +kernel⟩,
    ⟨starts_of (by decide +kernel), by decide +kernel⟩, by decide +kernel⟩
  · intro n hn
    simp only [List.mem_cons, List.not_mem_nil, or_false] at hn
    rcases hn with rfl | rfl <;> exact ⟨starts_of (by decide +kernel), by decide +kernel⟩
  · intro n hn
    simp only [List.mem_cons, List.not_mem_nil, or_false] at hn
    rcases hn with rfl | rfl <;> exact ⟨starts_of (by decide +kernel), by decide +kernel⟩

theorem witness_WheelUnitSteps :
    let s (v : Nat) (o : List WheelOp) : State := { wheels (up {}) v with wops := o }
    let a := s (wv 1) [.cow 0 0 0 0 {}]
    let p := s (wv 2) [.park 0 [(0, 0)] 0 0 none 0 (some {}) false]
    let r := s (wv 4) [.resume 0 [(0, 0)] [] k0 (some {})]
    let f := s (wv 2) [.park 0 [] 1 0 none 0 none true]
    let g := s (wv 3) [.park 0 [] 1 0 none 0 none true]
    let full := f.setFld Fd.KV_EVT_PTR_HEAD 16
    let q : KvRun := { wheel := 0, d := 0, desc := 0, token := 0, left := 1, row := 0 }
    let c : Copy := { org := .cmd k0, bar := 0, ep := 0, segs := [], walk := some q }
    let w := (wheels (up {}) (wv 1)).setTile 0 { copies := [(1, c)] }
    a.epochRoom 1 = true ∧ (a.writePage {}).2 = 0 ∧ (a.writePage {}).1.wheelWrites = false ∧ a.wops = [.cow 0 0 0 0 {}] ∧
    p.wops = [.park 0 [(0, 0)] 0 0 none 0 (some {}) false] ∧ r.wops = [.resume 0 [(0, 0)] [] k0 (some {})] ∧ (p.writePage {}).2 = 0 ∧
    f.kvRingRoom = true ∧ (f.wheel 0).state = 2 ∧ g.kvRingRoom = true ∧ (g.wheel 0).state = 3 ∧ full.kvRingRoom = false ∧
    (a.isSet Fd.KV_CTL_EN = true ∧ a.fld (Fd.KV_POOL_STAT_FREE 0) < a.fld (Fd.KV_POOL_CFG_LOW 0) ∧ a.victim 0 15 65536 [] = some 0 ∧
      ({ a with wops := [] } : State).kvWaiting = []) ∧
    (({ a with reclaim := [0] } : State).reclaim.contains 0 = true ∧ a.busyEpochs = []) ∧
    ((w.tile 0).copies.find? (fun e => e.2.walk.isSome) = some (1, c) ∧ c.walk = some q) := by decide +kernel

theorem witness_WheelTables :
    let e : Entry := { valid := true, cow := true, loc := 7, frame := 2 ^ 64 - 65536, record := 2 ^ 24 - 1, scale := 2 ^ 64 - 2 ^ 46 + 2048 }
    (e.loc < 8 ∧ e.record < 2 ^ 24 ∧ (Wheel.dec (wv 1)).fmt < 16 ∧ e.frame < 2 ^ 64 ∧ e.frame % 65536 = 0 ∧ e.scale % 2048 = 0 ∧
      e.scale / 2 ^ 46 = e.frame / 2 ^ 46) ∧ 488 + 24 ≤ 512 ∧
    (∀ i, i < 32 → regionOf ((up {}).recAddr 5 + i) = .far ∧ (up {}).badLine (lineOf ((up {}).recAddr 5 + i)) = false) ∧
    (up {}).bars = [] ∧ (up {}).fld (Fd.KV_POOL_STAT_FREE 0) + 1 < 2 ^ 24 := by decide +kernel

theorem witness_KvEnabling :
    let on := begun.setFld Fd.KV_CTL_EN 1
    let chk := begun.setFld Fd.KV_CTL_CHECKING 1
    let bad := chk.setFld (Fd.KV_POOL_CFG_PEN 0) 1
    begun.boot.done1 = true ∧ begun.isSet Fd.KV_CTL_EN = false ∧ on.isSet Fd.KV_CTL_EN = true ∧ on.boot.done1 = true ∧
    on.fld Fd.KV_TABLE_WHEELS = 0 ∧ (let s := wheels begun (wv 1); 0 < s.fld Fd.KV_TABLE_WHEELS ∧ (s.wheel 0).state ≠ 0) ∧
    chk.isSet Fd.KV_CTL_CHECKING = true ∧ (chk.setFld Fd.KV_CTL_CHECKING 0).poolCheck = none ∧
    ((bad.setFld (Fd.KV_POOL_CFG_HEAD 0) 7).setFld Fd.KV_CTL_CHECKING 0).poolCheck.isSome = true ∧ begun.Hears 11 := by
  dsimp only
  repeat' apply And.intro
  all_goals first | exact hears_of (by decide +kernel) | decide +kernel

/-! Laps and the relay -/

/-- A state with a piste that has one ring: p members, this one's place, its neighbours. -/
def ringed (s : State) (p pos nxt prv : Nat) : State :=
  { ((s.setFld Fd.JL_SEAL_SEAL 1).setFld Fd.JL_TORUS_DIM_X 2) with
    pistes := [(0, 8 + 2 ^ 16 + p * 2 ^ 128 + pos * 2 ^ 144 + nxt * 2 ^ 160 + prv * 2 ^ 192)] }

/-- Arm the first lap VC, with two slices. -/
def armed (s : State) : State := (s.setFld (Fd.JOB_LAP_CFG_ARM 0) 1).setFld (Fd.JOB_LAP_CFG_SLICES_M1 0) 1

/-- A posting of the first slice. -/
def post0 : Posting := { t := 0, pc := 0, owner := none, id := 1, slice := 0, addr := sp0, bar := 0, ep := 0, discard := false }

/-- A slice to send. -/
def send0 : LapSend := { id := 1, slice := 0, t := 0, pc := 0, owner := none, bar := 0, ep := 0, srcs := [(here sp0, 4096)] }

theorem witness_LapInstructions :
    let w : IWord := { w0 with a := 1, b := 2, c := 3 }
    let d : IWord := { w0 with a := 1, c := 3, mod := 2 }
    let kv : IWord := { w0 with x := true, a := 1, b := 4, c := 3, ext := 5 + 5 * 64 + 5 * 2 ^ 12 + 6 * 2 ^ 18 }
    let r (slice a n : Nat) : TRegs := { g := [(1, BitVec.ofNat 64 slice), (2, BitVec.ofNat 64 a), (3, 0x8000100), (6, BitVec.ofNat 64 n)] }
    let s (slice a : Nat) : State := armed (ready (r slice a 0))
    let ring (slice : Nat) : State := ringed (armed (wheels (ready (r slice sp0 32)) (wv 1))) 2 0 1 1
    let full (x : State) : State := x.setLap 0 { posts := List.replicate 4 post0, sends := List.replicate 4 send0 }
    let off := ready (r 0 0x8000000 0)
    (∀ x ∈ [s 0 0x8000000, s 1 0, full (s 0 0x8000000), off], x.Enabled t0 w ∧ x.Ready t0 w (({ a := .g, b := .g, c := .g, mods := 1 } : Form).ok w) true [gR 1, gR 2, gR 3] ∧
      x.Ready t0 d (({ a := .g, c := .g, mods := 3 } : Form).ok d) true [gR 1, gR 3]) ∧ w.m 1 = false ∧ d.m 1 = true ∧
    off.lapArmed 0 = false ∧ (s 0 0).lapArmed 0 = true ∧ (s 2 0).lapSlices 0 ≤ 2 ∧ 1 < (s 1 0).lapSlices 0 ∧
    lapRegionOk 0x8000000 ((s 0 0).sliceBytes 0) = true ∧ barFault 0x8000100 = 0 ∧
    4 ≤ (((full (s 0 0)).lap 0).posts.filter (fun q => q.slice = 0)).length ∧ (((s 0 0).lap 0).posts.filter (fun q => q.slice = 0)).length < 4 ∧
    ((ring 0).lapSourceBad 0 (sp0 % 2 ^ 46) 4096 = false ∧ (ring 0).lapSourceBad 0 (2 ^ 46 - 1) 4096 = true ∧ (s 0 0).lapLinkFault 0 ≠ 0 ∧ (ring 0).lapLinkFault 0 = 0 ∧ (ring 0).addrFault .thread sp0 4096 = 0 ∧
      (ring 0).lapRoom 0 0 = true ∧ (full (ring 0)).lapRoom 0 0 = false ∧
      (ring 1).Ready t0 w (({ a := .g, b := .g, c := .g, mods := 1 } : Form).ok w) true [gR 1, gR 2, gR 3]) ∧
    ((ring 0).Ready t0 kv (({ a := .g, b := .g, c := .g, mods := 7, x := .fields [0, 1, 2, 3] } : Form).ok kv) true
        [gR 1, gR 4, gR 3, gR 5, gR 5, gR 5, gR 6] ∧ (32 * ((ring 0).wheel 0).rowb = (ring 0).sliceBytes 0) ∧ (ring 0).wheelFault 0 = 0 ∧
      (ring 0).wheelFault 7 ≠ 0 ∧ ((ring 0).wheel 0).runBad 0 0 0 32 = false) := by
  dsimp only
  refine ⟨?_, ?_⟩
  · intro x hx
    simp only [List.mem_cons, List.not_mem_nil, or_false] at hx
    rcases hx with rfl | rfl | rfl | rfl <;> exact ⟨.inl rfl, ready_of (by decide +kernel), ready_of (by decide +kernel)⟩
  · repeat' apply And.intro
    all_goals first | exact ready_of (by decide +kernel) | decide +kernel

theorem witness_LapsAndTables :
    let b := begun
    let v (s : State) : State := (s.setFld (Fd.JOB_LAP_CFG_ARM 0) 1).setLap 0 { s.lap 0 with geom := none }
    let far := ringed b 2 0 1 1
    let own := ringed b 1 0 0 0
    let sq (q : LapSend) : State := (ringed (up {}) 2 0 1 1).setLap 0 { sends := [q] }
    let pois := { sq send0 with poison := [(sp0 / 64, true)] }
    let away : LapSend := { send0 with srcs := [(2 ^ 46 + sp0, 4096)] }
    let self := (ringed ((up {}).setFld (Fd.JOB_LAP_CFG_PEER_OK 0) 1) 1 0 0 0).setLap 0 { sends := [send0], posts := [post0] }
    b.Hears 13 ∧ (armed b).lapArmed 0 = true ∧ b.lapArmed 0 = false ∧ (v b).lapRing 0 = none ∧ (armed b).Hears 13 ∧
    ((v far).lapRing 0 = some ⟨2, 0, 1, 1⟩ ∧ 1 ≠ (v far).moduleId ∧ (v far).linkFault 1 0 = 0 ∧ far.lapArmed 0 = false ∧ far.Hears 13) ∧
    ((v own).lapRing 0 = some ⟨1, 0, 0, 0⟩ ∧ 0 = (v own).moduleId ∧ own.lapArmed 0 = false) ∧
    (((sq send0).lap 0).sends.find? (fun q => !q.sent && q.slice = ((sq send0).lap 0).cur) = some send0 ∧ (sq send0).computeUp = true ∧
      (sq send0).lapPoisoned send0 = false ∧ (sq send0).lapNext 0 = some 1 ∧ (sq send0).lapSettled send0 = true ∧
      1 ≠ (sq send0).moduleId ∧ (sq send0).engineRoom 0 ((sq send0).sliceBytes 0 / 256) = true ∧ (∀ a ∈ send0.srcs, (sq send0).here a.1 = true)) ∧
    pois.lapPoisoned send0 = true ∧
    ((sq away).lapPoisoned away = false ∧ (sq away).lapSettled away = true ∧ (∃ a ∈ away.srcs, (sq away).here a.1 = false)) ∧
    (self.lapNext 0 = some self.moduleId ∧ (self.lapTarget 0 self.moduleId (self.lap 0).loop).isSome = true) := by
  dsimp only
  repeat' apply And.intro
  all_goals first | exact hears_of (by decide +kernel) | decide +kernel

theorem witness_Tables :
    let w : IWord := { w0 with a := 1, b := 2, c := 3 }
    let s (h n : Nat) : State := ready { g := [(1, 0x8000000), (2, BitVec.ofNat 64 h), (3, BitVec.ofNat 64 n)] }
    let l : TblLoad := { t := 0, pc := 0, owner := none, src := 0x8000000, h0 := 0, n := 1 }
    let held := (s 0 0).setTile 0 { loads := [l] }
    let bad := { held with poison := [(sp0 / 64, true)] }
    let open0 := { held with ltags := [(sp0 / 64, ⟨1, 128⟩)] }
    let fence := up { st := .waitSync, fence := true }
    (∀ x ∈ [s 64 0, s 63 1, s 64 1, held], x.Enabled t0 w ∧ x.Ready t0 w (({ a := .g, b := .g, c := .g } : Form).ok w) true [gR 1, gR 2, gR 3] ∧
      x.Ready t0 w0 (({} : Form).ok w0) true []) ∧ inVatOrOwn (coreIdx (coreOf 0)) 0x8000000 512 = true ∧
    ((s 0 0).pastGuard t0 w0).tblFree 0 = true ∧ (held.pastGuard t0 w0).tblFree 0 = false ∧
    ((held.tile 0).loads = [l] ∧ held.computeUp = true ∧ held.poisoned sp0 512 = false ∧
      (∃ x ∈ linesOf sp0 512, (SMap.find open0.ltags x).isSome = true) ∧
      (¬ ∃ x ∈ linesOf sp0 512, (SMap.find held.ltags x).isSome = true) ∧ bad.poisoned sp0 512 = true) ∧
    (fence.threads.find? (fun e => decide (tileOf e.1 = 0) && e.2.fence) = some (0, { st := .waitSync, fence := true }) ∧
      fence.tblFree 0 = true ∧ fence.computeUp = true) ∧
    fence.isSet (Fd.TILE_ATT_TBL_SHADOW_READY 0) = false ∧
    (fence.setFld (Fd.TILE_ATT_TBL_SHADOW_READY 0) 1).isSet (Fd.TILE_ATT_TBL_SHADOW_READY 0) = true := by
  dsimp only
  refine ⟨?_, ?_⟩
  · intro x hx
    simp only [List.mem_cons, List.not_mem_nil, or_false] at hx
    rcases hx with rfl | rfl | rfl | rfl <;> exact ⟨.inl rfl, ready_of (by decide +kernel), ready_of (by decide +kernel)⟩
  · repeat' apply And.intro
    all_goals decide +kernel

/-- Far memory backed. -/
def farUp (s : State) : State :=
  ((s.setFld (Fd.MAP_CTL_MAP_EN .far) 1).setFld (Fd.MAP_CTL_UNITS .far) 1).setFld (Fd.MAP_CTL_UNIT_GIB .far) 64

/-- The first entry in a state: 256 elements, a shared exponent, its areas in far memory, this module its owner. -/
def entry (s : State) (st : Nat) : State :=
  let s := ((farUp s).setFld (Fd.REL_RED_CTL_STATE 0) st).setFld (Fd.REL_RED_ID_E 0) 256
  ((s.setFld (Fd.REL_RED_SLOTS_SLOT_MAP 0) 0x10000).setFld (Fd.REL_RED_EXP_EXP_ADDR 0) 0x20000).setFld (Fd.REL_RED_ACC_ACC_ADDR 0) 0x40000

/-- An offer of one block in far memory. -/
def offer0 : Offer := { id := 1, t := 0, pc := 0, owner := none, slot := 0, twin := false, b0 := 0, next := 0, pre := 1, stop := 1, addr := 0x60000, bytes := 1024, bar := 0, ep := 0, host := 0 }

theorem witness_RelayInstructions :
    let w : IWord := { w0 with x := true, a := 1, b := 1, c := 1, d := 2, ext := 3 + 4 * 64 }
    let a : IWord := { w0 with a := 1 }
    let po : IWord := { w0 with a := 1, b := 3, c := 4 }
    let r (h nb ad : Nat) : TRegs := { g := [(1, BitVec.ofNat 64 h), (2, BitVec.ofNat 64 nb), (3, BitVec.ofNat 64 ad), (4, 0x8000100)] }
    let s (st nb ad : Nat) : State := (entry (ready (r 0 nb ad)) st).setRelay 0 { map := [0] }
    let ring := (s 1 0 0).setFld (Fd.REL_RED_CTL_VC 0) 3
    let posted := (s 2 0 0).setRelay 0 { map := [0], post := some { t := 0, pc := 0, owner := none, addr := 0, bar := 0, ep := 0 } }
    (∀ x ∈ [s 0 0 0, s 1 0 0, s 2 1 0x60000, s 3 0 0, ring, posted], x.Enabled t0 a ∧ x.Ready t0 a (({ a := .g } : Form).ok a) true [gR 1] ∧
      x.Ready t0 w (({ a := .g, b := .g, c := .g, d := .g, x := .fields [0, 1] } : Form).ok w) true [gR 1, gR 1, gR 1, gR 2, gR 3, gR 4] ∧
      x.Ready t0 po (({ a := .g, b := .g, c := .g } : Form).ok po) true [gR 1, gR 3, gR 4]) ∧
    ((s 0 0 0).relState 0 = 0 ∧ (s 2 0 0).relState 0 = 2 ∧ (s 1 0 0).relState 0 = 1 ∧ (s 1 0 0).armOk 0 = true ∧ ring.armOk 0 = false ∧
      (s 1 0 0).poisoned ((s 1 0 0).fld (Fd.REL_RED_SLOTS_SLOT_MAP 0)) (8 * (s 1 0 0).relK 0) = false ∧
      ({ s 1 0 0 with poison := [(0x10000 / 64, true)] } : State).poisoned ((s 1 0 0).fld (Fd.REL_RED_SLOTS_SLOT_MAP 0)) (8 * (s 1 0 0).relK 0) = true ∧
      ring.relState 0 = 1) ∧
    ((s 2 1 0x60000).offerBad 0 0 0 0 1 0x60000 = false ∧ (s 2 2 0x60000).offerBad 0 0 0 0 2 0x60000 = true ∧
      (s 2 0 0).offerBad 0 0 0 0 0 0 = false ∧ barFault 0x8000100 = 0) ∧
    ((posted.relay 0).post.isSome = true ∧ ((s 2 0 0x60000).relay 0).post = none ∧ tierOf 0x60000 ≠ 0 ∧
      (s 2 0 0x60000).relBytes 0 ((s 2 0 0x60000).due 0) = 1024 ∧ tierOf 0x60000 = tierOf (0x60000 + 1024 - 1) ∧
      foreignScratch 0 0x60000 = false ∧ (s 2 0 0x60000).addrFault .thread 0x60000 1024 = 0) := by
  dsimp only
  refine ⟨?_, ?_⟩
  · intro x hx
    simp only [List.mem_cons, List.not_mem_nil, or_false] at hx
    rcases hx with rfl | rfl | rfl | rfl | rfl | rfl <;>
      exact ⟨.inl rfl, ready_of (by decide +kernel), ready_of (by decide +kernel), ready_of (by decide +kernel)⟩
  · repeat' apply And.intro
    all_goals decide +kernel

theorem witness_RelaySteps :
    let s (o : Offer) : State := (entry (up {}) 2).setRelay 0 { map := [0], offers := [o], known := [(0, true)] }
    let here0 (x : State) (o : Offer) : Prop := (x.relay 0).offers.find? (fun o => o.slot = 0 && o.next = 0 && decide (o.next < o.stop)
      && o.host = x.moduleId) = some o ∧ x.offerSettled 0 o 0 = true
    let pre := { offer0 with pre := 0 }
    let away := { offer0 with host := 1 }
    let bad (o : Offer) : State := { s o with poison := [(0x60000 / 64, true)] }
    let reports (x : State) := (x.relay 0).offers.find? (fun o => o.pre = 0 && decide (o.pre < o.stop) && x.offerSettled 0 o 0)
    let leaves (x : State) := (x.relay 0).offers.find? (fun o => o.next = 0 && decide (o.next < o.stop) && o.pre = o.stop
      && o.host ≠ x.moduleId && x.offerSettled 0 o 0)
    let idle := (entry (up {}) 2).setFld (Fd.REL_RED_CTL_JOB 0) 5
    let norm : State := { begun with norms := [(0, { closing := true, count := 1 })] }
    let done := (entry (up {}) 3).setRelay 0 { window := true }
    let late := (entry (up {}) 3).setRelay 0 { map := [0], offers := [offer0], known := [(0, true)] }
    ((s offer0).relState 0 = 2 ∧ (s offer0).computeUp = true ∧ here0 (s offer0) offer0 ∧ here0 (s pre) pre ∧ pre.pre ≤ 0 ∧
      0 < offer0.pre ∧ (s offer0).poisoned (offer0.at0 0) (4 * (s offer0).relLen 0 0) = false ∧ (s offer0).expKnown 0 0 = true ∧
      here0 (bad offer0) offer0 ∧ (bad offer0).poisoned (offer0.at0 0) (4 * (s offer0).relLen 0 0) = true) ∧
    (reports (s pre) = some pre ∧ reports (s away) = none ∧ leaves (s away) = some away ∧ leaves (s offer0) = none ∧ reports (s offer0) = none ∧
      leaves (bad away) = some away ∧ (bad away).poisoned (away.at0 0) (4 * (bad away).relLen 0 0) = true ∧
      (s away).poisoned (away.at0 0) (4 * (s away).relLen 0 0) = false) ∧
    ((norm.norm 0).closing = true ∧ (norm.fld Fd.REL_NOISE_PTR_HEAD + 2 ^ 20 - norm.fld Fd.REL_NOISE_PTR_TAIL) % 2 ^ 20
      < 2 ^ (norm.fld Fd.REL_NOISE_ENTRIES_LOG + 4) ∧ norm.isSet Fd.REL_NOISE_VEC_EN = false ∧ (norm.norm 0).count ≠ 0 ∧
      (norm.setFld Fd.REL_NOISE_VEC_EN 1).isSet Fd.REL_NOISE_VEC_EN = true ∧ (norm.norm 1).count = 0) ∧
    (idle.relState 0 = 2 ∧ (idle.relay 0).offers = [] ∧ (idle.relay 0).post = none ∧ idle.isSet (Fd.REL_RED_CTL_NORM_EN 0) = false ∧
      idle.ofJob (idle.fld (Fd.REL_RED_CTL_JOB 0)) = false) ∧
    (late.relState 0 = 3 ∧ (late.relay 0).window = false ∧ here0 late offer0 ∧ late.expKnown 0 0 = true ∧
      late.poisoned (offer0.at0 0) (4 * late.relLen 0 0) = false) ∧
    (done.relState 0 = 3 ∧ (done.relay 0).window = true ∧ begun.relState 0 ≠ 2) ∧
    (begun.Hears 12 ∧ norm.Hears 12 ∧ (entry begun 2).Hears 12 ∧ (entry begun 2).relState 0 = 2) := by
  dsimp only
  repeat' apply And.intro
  all_goals first | exact hears_of (by decide +kernel) | decide +kernel

theorem witness_RelaySums :
    let ws : List Nat := [1, 2 ^ 64 - 3, 2 ^ 62]
    let s := ((entry (up {}) 2).setFld (Fd.REL_RED_ID_E 0) 1).setRelay 0 { map := [0] }
    let a := s.contribute 0 0 false 0 [0x3F800000]
    (∀ x ∈ ws, x < 2 ^ 64 ∧ x ≠ bfxNan) ∧ (ws.map (fun x => (signed 64 x).natAbs)).sum < 2 ^ 63 ∧ ws.Perm [2 ^ 62, 1, 2 ^ 64 - 3] ∧
    bfxNan ∈ [1, bfxNan] ∧ a.accepted 0 0 0 = true ∧ SMap.find (a.relay 0).kept (0 * 2 ^ 20 + 0) = none := by
  dsimp only
  repeat' apply And.intro
  all_goals decide +kernel

/-! Packets, links and memory -/

/-- The first port up in a sealed torus of two modules. -/
def net (s : State) : State := (link s).setFld (Fd.JL_P_STAT_STATE 0) 2

/-- The first packet of a flow from module 1 to this module. -/
def pkOf (vc : Nat) (body : List Byte) : Packet := { pk0 with dst := 0, src := 1, vc := BitVec.ofNat 4 vc, opn := true, body := body }

/-- The receive entry that a first packet makes. -/
def rf0 : RecvFlow := { epoch := 1, expected := 0 }

theorem witness_PacketsOfMemory :
    let s := net (up {})
    let b (a n : Nat) : List Byte := leBytes 16 (a + n * 2 ^ 64)
    let st (a n : Nat) : List Byte := leBytes 16 a ++ List.replicate n 1
    let sh : State := { s with recvs := [(1 * 16 + 1, { rf0 with landed := 20 })], waiters := [(0, .wheel 0)] }
    let bad := { s with poison := [(sp0 / 64, true)] }
    let at0 : Nat := sp0 + 0 * 2 ^ 46 + 3 * 2 ^ 50
    s.portCarries 0 = true ∧ s.isSealed = true ∧ (pkOf 1 []).dst.toNat = s.moduleId ∧
    (∀ q ∈ [b sp0 8, b 0 8, st sp0 8, leBytes 16 at0], ∀ u ∈ [s, bad], u.verdict 1 1 (pkOf 1 q) = .take rf0 none) ∧
    (∀ q ∈ [[], st sp0 8, st 0 8], s.verdict 1 12 (pkOf 12 q) = .take rf0 none) ∧
    (bodyAddr (b sp0 8) = sp0 ∧ numAt (b sp0 8) 8 2 % 2 ^ 13 = 8 ∧ s.computeUp = true ∧ s.addrFault .peer sp0 8 = 0 ∧ s.addrFault .peer 0 8 ≠ 0 ∧
      (∀ l ∈ linesOf sp0 8, SMap.find s.ltags l = none) ∧ s.banksHeld sp0 8 = false ∧ (s.touch sp0 8).poisoned sp0 8 = false ∧ (bad.touch sp0 8).poisoned sp0 8 = true) ∧
    ((b sp0 8).drop 16 = [] ∧ (st sp0 8).drop 16 ≠ [] ∧ bodyAddr (st sp0 8) = sp0 ∧ bodyAddr (st 0 8) = 0 ∧
      (s.store (cellsFrom sp0 (List.replicate 8 1))).2 = false ∧ (bad.store (cellsFrom sp0 (List.replicate 8 1))).2 = true) ∧
    (atomOk (bits at0 46 4) (bits at0 50 3) = true ∧ bits at0 0 46 % 8 = 0 ∧ bitAt at0 53 = false ∧ bitAt (at0 + 2 ^ 53) 53 = true) ∧
    (s.answerable 0 = true ∧ rf0.landed ≤ 16 ∧ sh.answerable 0 = true) := by decide +kernel

theorem witness_PacketsOfRoles :
    let s := net (up {})
    let hd (kind bytes : Nat) : List Byte := relHdrBytes 0 0 kind 0 0 false 0 1 bytes []
    let geo (vc : Nat) : List Byte := leBytes 16 (1 + vc * 2 ^ 8 + 1 * 2 ^ 16 + 1 * 2 ^ 32)
    let lapOn (s : State) : State := (({ s with pistes := [(0, 8 + 2 ^ 16 + 2 * 2 ^ 128 + 2 ^ 160 + 2 ^ 192)] } : State).setFld (Fd.JOB_LAP_CFG_PEER_OK 0) 1).setLap 0 { posts := [post0] }
    let e := ((entry s 2).setFld (Fd.REL_RED_ID_E 0) 2).setRelay 0 { map := [0], known := [(0, true)], post := some { t := 0, pc := 0, owner := none, addr := 0x60000, bar := 0, ep := 0 } }
    let len (kind : Nat) : Nat := if kind = 3 ∨ kind = 4 then 1 else 8
    let r := (e.setFld (Fd.REL_RED_CTL_MODE 0) 1).setFld (Fd.REL_RED_RING_PREV 0) 1
    let mid (kind : Nat) : State := { r with recvs := [(1 * 16 + 4, { rf0 with hdr := hd kind (len kind) })] }
    let late (k : Packet) : Packet := { k with opn := false }
    s.portCarries 0 = true ∧ s.isSealed = true ∧ (pkOf 0 []).dst.toNat = s.moduleId ∧
    (({ s with sends := [(1 * 16 + 1, { epoch := 1 })] } : State).sends = [(17, { epoch := 1 })] ∧ numAt (leBytes 16 2) 0 1 = 2) ∧
    (∀ q ∈ [geo 2, geo 3, leBytes 16 2, leBytes 16 3, []], s.verdict 1 0 (pkOf 0 q) = .take rf0 none) ∧
    (numAt (geo 3) 0 1 = 1 ∧ bits (numAt (geo 3) 0 16) 8 8 = 2 + 1 ∧ numAt (leBytes 16 3) 0 1 = 3) ∧
    (s.verdict 1 2 (pkOf 2 (List.replicate 4096 0)) = .take rf0 none ∧ (List.replicate 4096 (0 : Byte)).length = 4096 ∧
      s.lapTarget 0 1 0 = none ∧ (lapOn s).lapTarget 0 1 0 = some (post0, 0)) ∧
    (∀ kind ∈ [0, 1, 2, 3, 4, 5, 6], (RelHdr.dec (r.batchHdr (pkOf 4 (hd kind (len kind))))).kind = kind ∧
      r.verdict 1 4 (pkOf 4 (hd kind (len kind))) = .take rf0 none ∧ r.relClassify 1 (RelHdr.dec (hd kind (len kind))) = .take 0 ∧
      (RelHdr.dec (hd kind (len kind))).bytes ≠ 0 ∧ s.relClassify 1 (RelHdr.dec (hd kind 8)) = .refuse ∧
      (∀ n ∈ [0, 8], (mid kind).verdict 1 4 (late (pkOf 4 (List.replicate n 0))) = .take { rf0 with hdr := hd kind (len kind) } none ∧
        (RelHdr.dec ((mid kind).batchHdr (late (pkOf 4 (List.replicate n 0))))).kind = kind) ∧
      (mid kind).relClassify 1 (RelHdr.dec (hd kind (len kind))) = .take 0 ∧ 0 < (RelHdr.dec (hd kind (len kind))).bytes ∧
      (RelHdr.dec (hd kind (len kind))).bytes ≤ 8) ∧
    (∀ kind ∈ [5, 6], e.relClassify 1 (RelHdr.dec (hd kind 0)) = .take 0 ∧ (RelHdr.dec (hd kind 0)).bytes = 0 ∧
      e.verdict 1 4 (pkOf 4 (hd kind 0)) = .take rf0 none) ∧
    (∀ kind ∈ [0, 2, 4], e.relClassify 1 (RelHdr.dec (hd kind (len kind))) = .take 0) ∧ r.computeUp = true ∧ r.portCarries 0 = true := by decide +kernel

theorem witness_ReceiveFlows :
    let s := net (up {})
    let k := pkOf 1 []
    let q : RecvFlow := { epoch := 1, expected := 5 }
    let u : State := { s with recvs := [(17, q)] }
    s.verdict 1 1 k = .take rf0 none ∧ ({ k with cls := true } : Packet).cls = true ∧ s.verdict 1 1 { k with cls := true } = .take rf0 none ∧
    s.verdict 1 1 { k with opn := false } = .discard ∧ u.verdict 1 1 k = .duplicate q ∧
    SMap.find u.recvs 17 = some q ∧ q.epoch = k.epoch ∧ u.verdict 1 1 { k with seq := 5 } = .take q none ∧
    (q.expected - (3 : BitVec 32)).toNat ≤ 2 ^ 31 ∧ 2 ^ 31 < (q.expected - (6 : BitVec 32)).toNat ∧
    u.verdict 1 1 { k with epoch := 2 } = .take { rf0 with epoch := 2 } (some q) := by decide +kernel

theorem witness_TableFull (l : SMap RecvFlow) (h : SMap.find l 17 = none) (n : 32768 ≤ l.length) :
    ({ State.reset with recvs := l } : State).verdict 1 1 (pkOf 1 []) = .full := by
  have hn : ¬ l.length < 32768 := Nat.not_lt.mpr n
  simp [State.verdict, h, hn, pkOf, pk0]

theorem witness_FlowTimers :
    let s := net (up {})
    let rv (n : Nat) : State := { s with recvs := [(17, { rf0 with since := n, expected := 3 }), (18, { rf0 with count := 1 })] }
    let k : SentPkt := { typ := 3, pkt := pk0, org := .none, port := 0 }
    let f : SendFlow := { epoch := 1, unacked := [k] }
    let wt : WaitPkt := { typ := 3, body := [], org := .none, cls := false }
    let sd (f : SendFlow) : State := { s with sends := [(17, f)] }
    SMap.find (rv 2).recvs 17 = some { rf0 with since := 2, expected := 3 } ∧ SMap.find (rv 0).recvs 17 = some { rf0 with since := 0, expected := 3 } ∧
    SMap.find (rv 0).recvs 18 = some { rf0 with count := 1 } ∧ SMap.find s.recvs 17 = none ∧
    (SMap.find (sd f).sends 17 = some f ∧ f.reopen = false ∧ f.unacked ≠ []) ∧
    (SMap.find (sd { epoch := 1 }).sends 17 = some { epoch := 1 } ∧ ({ epoch := 1 } : SendFlow).waiting = []) ∧
    (SMap.find (sd { epoch := 1, reopen := true }).sends 17 = some { epoch := 1, reopen := true }) ∧
    (SMap.find (sd { epoch := 1, reopen := true, waiting := [wt] }).sends 17 = some { epoch := 1, reopen := true, waiting := [wt] }) ∧
    ((sd f).newEpoch ≠ 1 ∧ (sd { epoch := 0, reopen := true, waiting := [wt] }).newEpoch = 0) ∧ (s.lap 0).cur = 0 ∧
    (sd { epoch := 1, reopen := true, waiting := [wt] }).openFlows < 32768 ∧ SMap.find s.failedEp 17 = none ∧
    SMap.find ({ s with failedEp := [(17, 0)] } : State).failedEp 17 = some s.newEpoch := by decide +kernel

theorem witness_SendTableFull (l : SMap SendFlow) (h : ∀ e ∈ l, e.2.reopen = false ∧ e.2.held = false) (n : 32768 ≤ l.length) :
    32768 ≤ ({ State.reset with sends := l } : State).openFlows := by
  have e : (l.filter (fun e => !e.2.reopen && !e.2.held)) = l := List.filter_eq_self.mpr (fun x hx => by simp [h x hx])
  simpa [State.openFlows, e] using n

/-- An idle flit with the right check. -/
def flit0 : Flit := { kind := 0, lseq := 0, ack := 0xFFF, nak := false, vc := 0, dclass := false, crVc := 0, crClass := false, crCount := 0, fill := 0, last := false, body := List.replicate 256 0, crc := 0 }

theorem witness_LinkSlots :
    let s := net (up {})
    let o (sent : Bool) (vc : Nat) : OutPkt := { typ := 3, pkt := { pk0 with vc := BitVec.ofNat 4 vc, body := [1, 2] }, len := 2, hdrSent := sent }
    let q (x : LinkPort) : State := s.setLink 0 x
    let ok (k : BitVec 2) (n : BitVec 12) : Flit := { flit0 with kind := k, lseq := n, crc := flitCrc { flit0 with kind := k, lseq := n } }
    s.portCarries 0 = true ∧
    ((q { outq := [o false 1] }).portState 0 = 2 ∧ (∃ p ∈ ((q { outq := [o false 1] }).link 0).outq, p.hdrSent = false) ∧
      ((q {}).link 0).resend = [] ∧ ((q {}).link 0).room = true ∧ (∀ p ∈ ((q { outq := [o true 1] }).link 0).outq, p.hdrSent = true)) ∧
    (((q { outq := [o true 1], credits := [(2, 1)] }).link 0).dataKey = some (2, o true 1) ∧ ((q { outq := [o true 1] }).link 0).dataKey = none) ∧
    (({ replay := [⟨flit0, false⟩, ⟨{ flit0 with lseq := 1 }, false⟩] } : LinkPort).replay.findIdx? (fun r => r.flit.lseq = 1) = some 1) ∧
    ((ok 0 0).body.length = 256 ∧ (ok 1 0).lseq = ((s.link 0).acked 0xFFF false).expL ∧ ((0 : BitVec 12) - 0xFFF).toNat ≤ 2048 ∧
      2048 < ((0 : BitVec 12) - 5).toNat ∧ ¬ (({ flit0 with body := [] } : Flit).body.length = 256)) := by
  decide +kernel

theorem witness_FlitChecks (f : Flit) : ({ f with crc := flitCrc f } : Flit).crc = flitCrc { f with crc := flitCrc f } := rfl

theorem witness_LinkFull (l : List ReplaySlot) (h : 3072 ≤ l.length) : ({ replay := l } : LinkPort).resend = [] ∧ ({ replay := l } : LinkPort).room = false :=
  ⟨rfl, decide_eq_false (Nat.not_lt.mpr h)⟩

theorem witness_GlideEvents :
    let w : Window := { kind := .cut 0, pieces := [{ addr := sp0, len := 64, bar := 0, ep := 0 }] }
    let s : State := { begun with cores := [(0, { windows := [(0, w)] })] }
    let up1 := begun.setFld Fd.PWR_STAGE_COMPUTE_UP 1
    SMap.find (s.core 0).windows 3 = none ∧ SMap.find (s.core 0).windows 0 = some w ∧ (∀ p ∈ w.pieces, p.refused = false) ∧
    up1.boot.done1 = true ∧ up1.blockRefusal (0x10 + 35) = 0 := by decide +kernel

theorem witness_PortEvents :
    let s (st : Nat) : State := (begun.setFld (Fd.JL_P_STAT_STATE 0) st).setFld Fd.PWR_STAGE_STAGE 2
    let i : TrainInfo := { ok := true, gen := 2, peerId := 1, peerPort := 1, peerRetired := 1, oftan := false, cond := { temp := 25, supply := 0 } }
    let u (r : Nat) : State := { s 1 with ownLanes := [(0, r)] }
    let lanes := (((s 2).setFld (Fd.JL_P_LANES_LOCKED 0) 2).setFld (Fd.JL_P_THRESH_RETRY_LIMIT 0) 1).setLink 0
      { charges := [(0, 7), (31, 7), (0, 7), (31, 8)] }
    let rev (st : Nat) : State := (s st).setLink 0 { (s st).link 0 with revived := true }
    let sealing (x : Nat) : State := ((s 0).setFld Fd.JL_TORUS_DIM_X x)
    (s 1).portState 0 = 1 ∧ (s 1).fld (Fd.JL_P_STAT_GEN 0) = 0 ∧ i.ok = true ∧ ((s 1).link 0).revived = false ∧ ((rev 1).link 0).revived = true ∧
    (rev 1).portState 0 = 1 ∧ (rev 1).fld (Fd.JL_P_STAT_GEN 0) = 0 ∧ laneSet (((s 1).learnLanes 0 1).fld (Fd.JL_P_LANES_RETIRED 0)) = some (2, 1, 0xFFFF0000) ∧
    laneSet (((s 1).learnLanes 0 0x01010101).fld (Fd.JL_P_LANES_RETIRED 0)) = none ∧ laneSet 0x01010101 = none ∧ laneSet 1 = some (2, 1, 0xFFFF0000) ∧
    laneSet (((u 0x01010101).showLanes 0).fld (Fd.JL_P_LANES_RETIRED 0)) = none ∧
    ({ s 1 with retired := [0] } : State).retired.contains ((s 1).moduleId * 8 + 0) = true ∧ (s 1).retired.contains ((s 1).moduleId * 8 + 0) = false ∧
    (bitAt (lanes.fld (Fd.JL_P_LANES_LOCKED 0)) 1 = true ∧ lanes.portState 0 = 2 ∧ ((s 1).setFld (Fd.JL_P_LANES_LOCKED 0) 2).portState 0 = 1) ∧
    ((List.range 32).filter (fun l => (0x80000001 : BitVec 32).getLsbD l && lanes.laneWorn 0 l && !bitAt (lanes.fld (Fd.JL_P_LANES_RETIRED 0)) l) = [0, 31] ∧
      laneSet 0x80000001 = some (1, 1, 0xFF00) ∧ (1, 1) ≠ (lanes.fld (Fd.JL_P_STAT_WIDTH 0), lanes.fld (Fd.JL_P_STAT_LANESET 0))) ∧
    ((s 3).portState 0 = 3 ∧ ((s 3).link 0).replay = [] ∧ (∀ o ∈ ((s 3).link 0).outq, o.hdrSent = false)) ∧
    (((s 1).setFld (Fd.JL_P_STAT_GEN 0) 1).fld (Fd.JL_P_STAT_GEN 0) ≠ 0 ∧
      ((((s 1).setFld (Fd.JL_P_STAT_RETRAIN_FAILS 0) 0).learnLanes 0 1).takeLanes 0).2 = true ∧
      ((((u 0x01010101).setFld (Fd.JL_P_STAT_RETRAIN_FAILS 0) 0).learnLanes 0 0).takeLanes 0).2 = false ∧
      (let v := ((s 1).setFld (Fd.JL_P_THRESH_RETRAIN_LIMIT 0) 1).incFld (Fd.JL_P_STAT_RETRAIN_FAILS 0)
       v.fld (Fd.JL_P_THRESH_RETRAIN_LIMIT 0) ≤ v.fld (Fd.JL_P_STAT_RETRAIN_FAILS 0)) ∧
      (let v := ((s 1).setFld (Fd.JL_P_THRESH_RETRAIN_LIMIT 0) 2).incFld (Fd.JL_P_STAT_RETRAIN_FAILS 0)
       v.fld (Fd.JL_P_STAT_RETRAIN_FAILS 0) < v.fld (Fd.JL_P_THRESH_RETRAIN_LIMIT 0))) ∧
    (let v : State := { (s 4).setFld (Fd.JL_P_CTL_ENABLE 0) 1 with boot := { powered := true, done0 := true, done1 := true } }
     v.boot.done1 = true ∧ v.blockRefusal 8 = 0 ∧ v.portState 0 = 4 ∧ v.unitRetired 12 (portDie 0) 0 0 = false ∧ v.isSet (Fd.JL_P_CTL_ENABLE 0) = true ∧
       v.linkPower = true ∧ (v.setFld (Fd.JL_P_STAT_STATE 0) 2).portState 0 = 2) ∧
    ((sealing 2).isSealed = false ∧ (sealing 2).sealOk = true ∧ (sealing 65).sealOk = false ∧ (net begun).isSealed = true) := by
  dsimp only
  repeat' apply And.intro
  all_goals decide +kernel

theorem witness_DramEvents :
    let s := begun
    let v0 := 0x110000000000 / 64
    let mapped := s.setFld (Fd.MAP_CTL_MAP_EN .near) 1
    let hot := { s with dram := { hot := [unitKey .far 0], rows := [(unitKey .near 15, 7)], remaps := [(3, 9)], scrubs := [(v0, [(4, 1)])] } }
    let crit (k : Tier) := ((s.setFld (Fd.GUARD_CRIT k) 200).setFld (Fd.GUARD_THR1 k) 150).setFld (Fd.GUARD_THR2 k) 180
    let bad := { s with poison := [(v0, true)] }
    (s.boot.done1 = true ∧ s.blockRefusal (tierBlk .far / 0x100000) = 0 ∧ mapped.blockRefusal (tierBlk .near / 0x100000) = 0) ∧
    (s.fld (Fd.MAP_CTL_MAP_EN .far) ≠ 1 ∧ mapped.fld (Fd.MAP_CTL_MAP_EN .near) ≠ 0 ∧ mapped.isSet (Fd.MAP_CTL_MAP_EN .near) = true ∧
      s.isSet (Fd.MAP_CTL_MAP_EN .far) = false) ∧ s.fld (Fd.MEM_INIT_NEXT .far) ≠ 1 ∧
    (unitExists .far 23 = true ∧ unitExists .near 15 = true ∧ max 1 (s.fld (Fd.ERR_CTL_HOT_DEPTH .far)) * 8 ≤ 256 ∧
      0 < max 1 (s.fld (Fd.ERR_CTL_HOT_DEPTH .near)) * 8 ∧ hot.dram.hot.contains (unitKey .far 0) = true ∧ s.dram.hot.contains (unitKey .far 0) = false) ∧
    (hot.dram.rows.contains (unitKey .near 15, 7) = true ∧ s.dram.rows.contains (unitKey .near 15, 7) = false) ∧
    ((crit .far).heatLevel .far 199 ≠ 3 ∧ (crit .far).heatLevel .far 200 = 3 ∧ (crit .far).fld (Fd.CH_STAT_THROTTLE .far 0) ≠ 3 ∧
      ((crit .far).setFld (Fd.CH_STAT_THROTTLE .far 0) 3).fld (Fd.CH_STAT_THROTTLE .far 0) = 3) ∧
    (hot.dram.remaps.find? (fun e => e.1 = 3) = some (3, 9) ∧ (hot.setFld (Fd.CH_STAT_STATE .near 3) 2).fld (Fd.CH_STAT_STATE .near 3) = 2 ∧
      (hot.setFld (Fd.CH_STAT_STATE .near 3) 3).fld (Fd.CH_STAT_STATE .near 3) ≠ 2) ∧
    (s.lineHome v0 = some (.sram 0 4 0) ∧ s.badLine v0 = false ∧ bad.badLine v0 = true ∧
      bad.lineHome v0 = some (.sram 0 4 0) ∧ SMap.find hot.dram.scrubs v0 = some [(4, 1)] ∧
      SMap.find s.dram.scrubs v0 = none) ∧
    (let p := (s.countInner (.sram 0 4 0) 1).touch (v0 * 64) 64
     p.badLine v0 = false ∧ p.seenErrors (.sram 0 4 0) [] = [] ∧ p.seenErrors (.sram 0 4 0) [(0, 3), (0, 3)] = [(0, 3)] ∧
      p.seenErrors (.sram 0 4 0) [(0, 3), (0, 4)] = [(0, 3), (0, 4)] ∧ p.correctable v0 (.sram 0 4 0) [(0, 3)] = true ∧
      p.correctable v0 (.sram 0 4 0) [(0, 3), (0, 4)] = false ∧ (bad.countInner (.sram 0 4 0) 1).badLine v0 = true) ∧
    (s.lineHome 0 = none ∧ (s.setFld (Fd.CH_STAT_SPARE_DEV .far 0) 0xFF).spareMode 0 0 = false ∧
      (s.setFld (Fd.CH_STAT_SPARE_DEV .far 0) 9).spareMode 0 0 = true) := by
  dsimp only
  repeat' apply And.intro
  all_goals decide +kernel

/-! Registers, the host and its streams -/

/-- A state with the first host port up. -/
def ported (s : State) (mode : Nat) : State := s.setFld (Fd.HST_PORT_STAT_MODE 0) mode

/-- The first window open over 1 GiB from the start of the host's addresses. -/
def windowed (s : State) : State :=
  (((s.setFld (Fd.DVSEC_WIN_LOCK 0) 1).setFld (Fd.DVSEC_WIN_PORT 0) 0).setFld (Fd.DVSEC_WIN_LOCAL 0) (0x200000000000 / 2 ^ 30)).setFld (Fd.DVSEC_WIN_SIZE_LOG 0) 0

/-- The first address of the window. -/
def win0 : Nat := 0x200000000000

theorem witness_RegisterWrites :
    let s := begun
    let run := { s with fw := { run := 1 } }
    let thr := { up { st := .ready } with boot := begun.boot }
    let off := s.setFld Fd.MC_PANEL_TILES_TILE_EN 0
    (s.boot.done1 = true ∧ s.csrFault 0x1000000 .eight = 0 ∧ 0x0A00 ≤ s.csrFault 0x1000001 .eight ∧ s.csrFault 0x3400000 .eight ≠ 0 ∧
      s.csrFault 0x3400000 .eight < 0x0A00) ∧ run.fw.run ≠ 0 ∧ run.csrFault 0x1000000 .eight = 0 ∧ run.csrFault 0xE00000 .eight ≠ 0 ∧
    (thr.live t0.code = true ∧ threadCsrFault 0x1000000 .eight = 0 ∧ thr.csrFault 0x1000000 .eight = 0 ∧ thr.csrFault 0x1000001 .eight ≠ 0 ∧
      threadCsrFault 0x1000001 .eight = 0 ∧ threadCsrFault 0 .eight ≠ 0) ∧
    (0x3400000 / 0x100000 = 0x34 ∧ 0x3300010 / 0x100000 < 0x34 ∧ csrListed 0x3300010 = true ∧ off.csrFault 0x3300010 .eight = off.blockRefusal 0x33 ∧
      off.blockRefusal 0x33 = 0x0A03 ∧ off.blockInReset 0x33 = false ∧ off.csrFault 0x3300000 .eight = 0 ∧ csrListed 0x3300000 = true ∧
      csrListed 0x3300008 = false ∧ off.csrFault 0x3300008 .eight = 0 ∧ off.csrFault 0x3300010 .two = 0x0A02) ∧
    (let cut := { thr with threads := [(t0.code, { (thr.thread t0.code) with ckpts := [⟨0, 0, {}, []⟩] })] }
     (cut.thread t0.code).ckpts ≠ [] ∧ (cut.thread t0.code).due = none ∧ cut.live t0.code = true ∧ (thr.thread t0.code).ckpts = [] ∧
      (thr.thread t0.code).due = none ∧ (thr.thread t0.code).regs.held = none ∧ begun.live t0.code = false) ∧ (∃ r, regAt (0x1000000 / 8 * 8) = some r) := by
  refine ⟨?_, ?_, ?_, ?_, ?_, ?_, ?_, Option.isSome_iff_exists.mp (by decide +kernel)⟩ <;> decide +kernel

theorem witness_FieldAccess :
    let s := begun.setFld Fd.JL_SEAL_SEAL 1
    Fd.PWR_STAGE_STAGE.acc = .ro ∧ Fd.TILE_GLIDE_CTL_CUT_EN 0 ≠ Fd.TILE_GLIDE_CTL_LAP_EN 0 ∧ (Fd.TILE_GLIDE_CTL_CUT_EN 0).acc = .rw ∧
    Fd.JL_SEAL_SEAL.acc = .w1s ∧ (Fd.CH_STAT_HOT .far 0).acc = .w1c ∧ Fd.JL_TORUS_DIM_X.acc = .lk ∧ s.fldSealed Fd.JL_TORUS_DIM_X = true ∧
    begun.fldSealed Fd.JL_TORUS_DIM_X = false ∧ 0 < Fd.JL_TORUS_DIM_X.len ∧
    (Fd.TILE_GLIDE_CTL_CUT_EN 0).key ≠ (Fd.TILE_GLIDE_CTL_LAP_EN 0).key := by decide +kernel

theorem witness_HostPorts :
    let s := ported begun 1
    let lock := s.setFld (Fd.DVSEC_WIN_LOCK 15) 1
    let far := farUp (s.setFld Fd.PWR_STAGE_STAGE 2)
    let a (w : Bool) (off n : Nat) : Bar4Access := { write := w, off := off, bytes := List.replicate n 7 }
    let m (o : BitVec 8) (n : Nat) : IdeKm := { kind := .selective, session := 0, object := o, streamId := 1, keySet := false, rxTx := false, subStream := 0, key := List.replicate n 1 }
    let x : Session := { transport := 0, live := true }
    let ide (k : List Byte) : State := { s with trust := { sessions := [(0, x)], ide := [(2 ^ 8, (k, false))] } }
    (begun.boot.done0 = true ∧ begun.fld (Fd.HST_PORT_STAT_MODE 0) = 0 ∧ s.fld (Fd.HST_PORT_STAT_MODE 0) ≠ 0) ∧
    (s.cxlOpen 0 = true ∧ lock.cxlOpen 0 = true ∧ lock.isSet (Fd.DVSEC_WIN_LOCK 15) = true ∧ s.isSet (Fd.DVSEC_WIN_LOCK 15) = false ∧
      (0x188 : BitVec 12).toNat = 0x20 + 0x18 * 15 ∧ (0x190 : BitVec 12).toNat = 0x28 + 0x18 * 15 ∧ ((s.cdat 0)[1]?).isSome = true) ∧
    (∀ n ∈ [1, 8], (a true 64 n).bytes ≠ [] ∧ (a true 64 n).off + (a true 64 n).bytes.length ≤ 2 ^ far.bar4Log 0) ∧
    far.bar4Fault true (far.fld (Fd.DVSEC_FAR_FAR_OFS 0) * 2 ^ 30 + 64) 8 = 0 ∧ s.bar4Fault false (s.fld (Fd.DVSEC_FAR_FAR_OFS 0) * 2 ^ 30 + 64) 8 ≠ 0 ∧
    far.banksHeld (far.fld (Fd.DVSEC_FAR_FAR_OFS 0) * 2 ^ 30 + 64) 8 = false ∧ (s.configIdentity 0).isSome = true ∧
    ((wheels far 0).isSet Fd.KV_CTL_EN = true ∧ regionOf 64 = .far ∧ regionOf (64 + 8 - 1) = .far ∧ (wheels far 0).addrFault .host 64 8 = 0 ∧
      (wheels far 0).meetsProt 64 8 = true) ∧
    (SMap.find (ide []).trust.sessions 0 = some x ∧ x.live = true ∧ (m 2 32).key.length = 32 ∧ (ide []).ideRoom 0 (m 2 32) = true ∧
      ideSlot 0 (m 4 0) = 2 ^ 8 ∧ (ide [1]).ideRoom 0 (m 4 0) = true ∧ SMap.find (ide [1]).trust.ide (2 ^ 8) = some ([1], false) ∧ (m 2 31).key.length ≠ 32 ∧
      (begun.ideRoom 0 (m 2 32) = false ∧ SMap.find s.trust.ideKinds 1 = none ∧ s.ideRoom 0 { m 2 32 with kind := .cachemem false } = true ∧
        s.ideRoom 0 { m 2 32 with kind := .link } = true)) := by decide +kernel

/-- The first stream enabled and running, its rings in the window. -/
def streamed (s : State) : State :=
  let s := windowed (ported s 1)
  let s := ((s.setFld (Fd.HST_S_CMD_CMD_BASE 0) (win0 / 128)).setFld (Fd.HST_S_CPL_CPL_BASE 0) (win0 / 32 + 4096)).setFld (Fd.HST_S_LINE_TAIL_LINE 0) (win0 / 64 + 8192)
  let s := ((s.setFld (Fd.HST_S_CTL_EN 0) 1).setFld (Fd.HST_S_STAT_STATE 0) 1).setFld (Fd.HST_S_SEQ_ACCEPTED 0) 0xFFFFFFFF
  (((s.setFld (Fd.HST_S_SEQ_COMMITTED 0) 0xFFFFFFFF).setFld (Fd.HST_S_CPLP_COMPLETED 0) 0xFFFFFFFF).setFld (Fd.HST_S_CPLP_CPL_HEAD 0) 0).setFld Fd.HST_JRNL_BASE_JBASE (win0 / 32 + 2 ^ 20)

theorem witness_StreamFrontEnd :
    let s := streamed begun
    let off := s.setFld (Fd.HST_S_CTL_EN 0) 0
    let stopped := s.setFld (Fd.HST_S_STAT_STATE 0) 4
    let tail (n : BitVec 32) : State := s.setStream 0 (fun x => { x with tail := n })
    let e (seq opc : Nat) : BitVec 1024 := BitVec.ofNat 1024 (opc + seq * 2 ^ 32)
    let got (x : BitVec 1024) : State := s.setStream 0 (fun y => { y with tail := 1, fetched := some x })
    let fin (c : Cmd) : State := { s with cmds := [(0, c)] }
    let done : Cmd := { entry := e 0 0x3F, st := 2, commit := true }
    let full := (fin done).setFld Fd.HST_JRNL_PTR_JHEAD 256
    s.Hears 6 ∧
    (off.isSet (Fd.HST_S_CTL_EN 0) = false ∧ (off.writeFields (.HST_S_CTL 0) 1 1).streamOk 0 = true ∧ begun.isSet (Fd.HST_S_CTL_EN 0) = false ∧
      (begun.writeFields (.HST_S_CTL 0) 1 1).streamOk 0 = false) ∧
    (stopped.isSet (Fd.HST_S_CTL_EN 0) = true ∧ stopped.fld (Fd.HST_S_STAT_STATE 0) = 4 ∧
      stopped.fld (Fd.HST_S_CPLP_COMPLETED 0) = stopped.fld (Fd.HST_S_SEQ_ACCEPTED 0) ∧ s.isSet (Fd.HST_S_CTL_EN 0) = true ∧
      ¬ (s.fld (Fd.HST_S_STAT_STATE 0) = 4 ∧ s.fld (Fd.HST_S_CPLP_COMPLETED 0) = s.fld (Fd.HST_S_SEQ_ACCEPTED 0))) ∧
    (s.fld (Fd.HST_PORT_STAT_MODE (s.fld (Fd.HST_S_CTL_PORT 0))) = 1 ∧ begun.fld (Fd.HST_PORT_STAT_MODE (begun.fld (Fd.HST_S_CTL_PORT 0))) = 0 ∧
      0 < ((5 : BitVec 32) - (s.stream 0).tail).toNat ∧ ((5 : BitVec 32) - (s.stream 0).tail).toNat < 2 ^ 31 ∧
      2 ^ 31 ≤ ((0xFFFFFFFF : BitVec 32) - (s.stream 0).tail).toNat) ∧
    (let u := tail 1
     u.isSet (Fd.HST_S_CTL_EN 0) = true ∧ (u.stream 0).halted = false ∧ u.streamUp 0 = true ∧ (u.stream 0).replay = none ∧
      u.fld (Fd.HST_S_STAT_STATE 0) = 1 ∧ (u.stream 0).fetched = none ∧
      (BitVec.ofNat 32 (u.fld (Fd.HST_S_SEQ_ACCEPTED 0) + 1)) = 0 ∧ ((u.stream 0).tail - 0).toNat = 1 ∧ bits (e 0 1).toNat 32 32 = 0 ∧
      bits (e 7 1).toNat 32 32 ≠ 0 ∧ ¬ (u.cmdEntries 0 < 1) ∧
      ((tail 17).cmdEntries 0 < (((tail 17).stream 0).tail - BitVec.ofNat 32 ((tail 17).fld (Fd.HST_S_SEQ_COMMITTED 0) + 1)).toNat)) ∧
    (((got (e 0 0x3F)).stream 0).fetched = some (e 0 0x3F) ∧ (got (e 0 0x3F)).fld (Fd.HST_S_STAT_STATE 0) = 1 ∧ (got (e 0 0x3F)).streamUp 0 = true ∧
      (got (e 0 0x3F)).jRoom = true ∧ (got (e 0 0x3F)).cpr = 0) ∧
    (firstInterval ((fin done).streamCmds 0) = some [(0, done)] ∧ (fin done).streamUp 0 = true ∧ done.st = 2 ∧ done.again = false ∧
      ((fin done).writeRecords 0 [(0, done)]).2 = true ∧ ((fin done).writeRecords 0 [(0, done)]).1.jRoom = true ∧ done.irq = false ∧
      (full.writeRecords 0 [(0, done)]).1.jRoom = false ∧ ({ done with entry := (e 0 0x3F) ||| (1 <<< 9) } : Cmd).irq = true) := by
  dsimp only
  refine ⟨hears_of (by decide +kernel), ?_⟩
  repeat' apply And.intro
  all_goals decide +kernel

/-! Commands of streams, ingest and jobs -/

theorem witness_StreamCommands :
    let mk (opc : Nat) (b : List (Nat × Nat)) : Cmd := { entry := ent opc b }
    let s (c : Cmd) : State := withCmd (windowed (farUp (up {}))) c.entry
    let stray := { entry := ent 0x3F [(100, 1)] : Cmd }
    let la (first : Nat) := mk 0x01 [(0, 1), (8, 1), (10, first)]
    let busy := withCmd (up { st := .ready }) (la 0).entry
    let ended : State := { up { owner := some k0, st := .stopped } with launches := [(0, { tids := [0], live := [], job := 0 })] }
    let lives : State := { up { st := .ready } with launches := [(0, { tids := [0], live := [0], job := 0 })] }
    let rs (h : Nat) := mk 0x20 [(0, h)]
    let pl (i a : Nat) := mk 0x21 [(0, i), (8, a)]
    let lic := mk 0x38 [(0, here win0)]
    let bi := mk 0x39 [(0, 2), (8, 3), (16, here win0)]
    let dark := ((s bi).setFld (Fd.JL_P_STAT_STATE 1) 4).setFld (Fd.JL_P_STAT_STATE 3) 4
    let rsy (a n : Nat) := mk 0x3A [(0, a), (8, n)]
    let ing := mk 0x30 [(8, 1)]
    (s stray).cmd k0 = some stray ∧ (s stray).mayStart k0 [0x3F] = true ∧ stray.clean [] = false ∧ (s stray).mayStart k0 [0x01] = false ∧
    (s (mk 0x3F [])).Starts k0 0x3F [] (mk 0x3F []) ∧
    ((∀ f ∈ [0, 128], (s (la f)).Starts k0 0x01 [(0, 14), (16, 4), (24, 64)] (la f) ∧ (launchBody (la f)).tiles < 2 ^ 36 ∧ (la f).body 12 1 ≤ 1) ∧
      (s (la 128)).launchBad (launchBody (la 128)) = true ∧ (s (la 0)).launchBad (launchBody (la 0)) = false ∧ (s (la 0)).ofJob (la 0).job = false ∧
      (s (la 0)).computeUp = true ∧ (launchBody (la 0)).tids = [0] ∧ ((s (la 0)).thread 0).st = .free ∧
      (busy.thread 0).st ≠ .free ∧ busy.Starts k0 0x01 [(0, 14), (16, 4), (24, 64)] (la 0) ∧ busy.launchBad (launchBody (la 0)) = false) ∧
    (SMap.find ended.launches 0 = some { tids := [0], live := [], job := 0 } ∧ SMap.find lives.launches 0 = some { tids := [0], live := [0], job := 0 } ∧
      (ended.thread 0).owner = some k0) ∧
    (∀ h ∈ [0, 1023, 1024], (s (rs h)).Starts k0 0x20 [(0, 2), (8, 64)] (rs h) ∧ (rs h).body 0 2 = h) ∧ ((s (rs 1023)).startCmd k0).relState 1023 ≠ 2 ∧
    (∀ p ∈ [(1, here 0), (16, here 0), (1, 2 ^ 46)], (s (pl p.1 p.2)).Starts k0 0x21 [(0, 1), (8, 8)] (pl p.1 p.2)) ∧
    (((s (pl 16 0)).startCmd k0).pisteFault 16 ≠ 0 ∧ ((s (pl 1 0)).startCmd k0).pisteFault 1 = 0 ∧ (s (pl 1 0)).here (here 0) = true ∧
      (s (pl 1 0)).addrFault .engine 0 144 = 0 ∧ (s (pl 1 0)).poisoned 0 144 = false ∧ (s (pl 1 0)).here (2 ^ 46) = false ∧
      (link (s (pl 1 (2 ^ 46)))).linkFault 1 1 = 0 ∧ (link (s (pl 1 (2 ^ 46)))).Starts k0 0x21 [(0, 1), (8, 8)] (pl 1 (2 ^ 46))) ∧
    (let u := (s ing).setFld Fd.ING_CTL_PIPES_EN 1
     u.Starts k0 0x30 [(0, 64)] ing ∧ u.ingest = none ∧ u.fld Fd.ING_CTL_PIPES_EN ≠ 0 ∧ u.ingestFault ing (ingestBody ing) (u.profile 0) ≠ 0) ∧
    ((s lic).Starts k0 0x38 [(0, 8)] lic ∧ lic.body 0 8 % 16 = 0 ∧ (s lic).inOpenWindow (lic.body 0 8) 128 = true) ∧
    ((s bi).Starts k0 0x39 [(0, 9), (16, 8)] bi ∧ (s bi).trust.bist = none ∧ bitAt (bi.body 0 8) 0 = false ∧ bi.body 8 1 < 8 ∧ bi.body 16 8 % 64 = 0 ∧
      (s bi).destFault (bi.body 16 8) 32 = 0 ∧ (s bi).dieHeld 1 = false ∧ (dark.setFld (Fd.JL_P_STAT_STATE 5) 4).dieHeld 1 = true ∧
      (dark.setFld (Fd.JL_P_STAT_STATE 5) 4).Starts k0 0x39 [(0, 9), (16, 8)] bi) ∧
    (∀ p ∈ [(here win0 + 4, 0), (here win0, 0), (here win0, 2 ^ 30)], (s (rsy p.1 p.2)).Starts k0 0x3A [(0, 16)] (rsy p.1 p.2)) := by
  dsimp only
  refine ⟨by decide +kernel, by decide +kernel, by decide +kernel, by decide +kernel, starts_of (by decide +kernel), ⟨?_, ?_⟩, by decide +kernel, ?_,
    by decide +kernel, ?_, ?_, ⟨starts_of (by decide +kernel), by decide +kernel⟩, ⟨starts_of (by decide +kernel), by decide +kernel⟩, ?_, ?_⟩
  · intro n hn
    simp only [List.mem_cons, List.not_mem_nil, or_false] at hn
    rcases hn with rfl | rfl <;> exact ⟨starts_of (by decide +kernel), by decide +kernel⟩
  · repeat' apply And.intro
    all_goals first | exact starts_of (by decide +kernel) | decide +kernel
  · intro n hn
    simp only [List.mem_cons, List.not_mem_nil, or_false] at hn
    rcases hn with rfl | rfl | rfl <;> exact ⟨starts_of (by decide +kernel), by decide +kernel⟩
  · intro n hn
    simp only [List.mem_cons, List.not_mem_nil, or_false] at hn
    rcases hn with rfl | rfl | rfl <;> exact starts_of (by decide +kernel)
  · repeat' apply And.intro
    all_goals first | exact starts_of (by decide +kernel) | decide +kernel
  · repeat' apply And.intro
    all_goals first | exact starts_of (by decide +kernel) | decide +kernel
  · intro n hn
    simp only [List.mem_cons, List.not_mem_nil, or_false] at hn
    rcases hn with rfl | rfl | rfl <;> exact starts_of (by decide +kernel)

theorem witness_Checkpoints :
    let src := here 0x1000
    let dst := 2 ^ 46 + 0x2000
    let c (dir : Nat) : Cmd := { entry := ent 0x28 [(0, 0x40), (8, 1), (12, dir), (13, if dir = 0 then 12 else 0), (16, 2 ^ 46 + 0x4000)] ||| BitVec.ofNat 1024 (5 * 2 ^ 16) }
    let s (dir : Nat) : State :=
      let u := link (((farUp (up {})).setFld Fd.JOB_CTL_JOB 5).setFld Fd.JOB_CTL_EN 1)
      let u := (u.store (cellsFrom 0x40 (leBytes 24 ((if dir = 0 then src else dst) + (if dir = 0 then dst else src) * 2 ^ 64 + 256 * 2 ^ 128)))).1
      withCmd u (c dir).entry
    ∀ dir ∈ [0, 1], (s dir).Starts k0 0x28 [(0, 14), (16, 14), (32, 4)] (c dir) ∧ ((s dir).startCmd k0).chkOk (c dir) = true ∧
      (s dir).addrFault .engine 0x40 24 = 0 ∧ (s dir).poisoned 0x40 24 = false ∧
      (s dir).extentOk dir (2 ^ 46 + 0x4000) ((s dir).chkExtent 0x40) = true ∧ ((s dir).touch 0x40 24).linkFault 1 1 = 0 ∧
      ((s dir).touch 0x40 24).linkFault 1 12 = 0 ∧ (c dir).body 28 2 = (s dir).fld Fd.JOB_FILL_PLAN := by
  intro src dst c s dir hd
  simp only [List.mem_cons, List.not_mem_nil, or_false] at hd
  rcases hd with rfl | rfl <;> exact ⟨starts_of (by decide +kernel), by decide +kernel⟩

theorem witness_IngestAndJobs :
    let prof : Profile := { x := 0, y := 0, w := 2, h := 2, wo := 0, ho := 0, patch := 8, ofmt := 0, frames := 1, fstep := 1, valid := true, m := [] }
    let c : Cmd := { entry := ent 0x30 [(8, 4), (28, 2)] }
    let g (l : Bool) : Ingest := { k := k0, prof := prof, logged := l }
    let x : Pipe := { slot := 0, reason := 0, detail := 0, codec := 2, user := 0, src := win0 + 2 ^ 20, len := 100, fskip := 0 }
    let s (l : Bool) : State := { withCmd (windowed begun) c.entry with ingest := some (g l), pipes := [(0, x)] }
    let pipesOn := (s true).setFld Fd.ING_CTL_PIPES_EN 3
    let log := (s false).setFld Fd.ING_LOG_BASE_BASE (win0 / 32)
    let full := log.setFld Fd.ING_LOG_PTR_HEAD 16
    let opened := begun.setFld Fd.JOB_STEP_STATE 1
    let en := begun.setFld Fd.JOB_CTL_EN 1
    let rec1 (n : Nat) : State := { windowed begun with jobRec := some (n, true) }
    let fl : SendFlow := { epoch := 1, toward := some 1 }
    let thr := up { st := .ready }
    let hd : Config.VideoHead := { at0 := 0, profile := .high, level := 10, highTier := false, beyond := false, depth := 8, chroma := .mono, width := 2, height := 2 }
    let dec (start : Bool) : Config.Decoded := { start := start, heads := [hd], frames := [⟨hd, [1, 2, 3, 4]⟩], error := none, used := 100, starved := false }
    ((s true).ingest = some (g true) ∧ (s true).cmd k0 = some c ∧
      (List.range 8).find? (fun i => bitAt (pipesOn.fld Fd.ING_CTL_PIPES_EN) i && (SMap.find pipesOn.pipes i).isNone) = some 1 ∧
      (g true).next < (ingestBody c).count ∧ SMap.find (s true).pipes 0 = some x ∧ (sampleReason prof x (dec true) none).1 = 0 ∧
      (sampleReason prof x (dec false) none).1 = 3 ∧ (s true).slotClear (g true) (ingestBody c) x = true ∧ (s true).sourceStop x = none) ∧
    ((g false).logged = false ∧ log.ingRoom = true ∧ full.ingRoom = false ∧ log.addrFault .engine win0 32 = 0 ∧ regionOf win0 = .host ∧
      log.fld Fd.ING_LOG_BASE_BASE * 32 = win0 ∧ (if regionOf 0 = .host then 0 else 0x0502) ≠ 0 ∧ (s false).ingRoom = true) ∧
    (let u := begun.setFld Fd.LIC_STAT_ING_EN 1
     u.boot.done1 = true ∧ u.blockRefusal 7 = 0) ∧
    (opened.boot.done1 = true ∧ opened.blockRefusal 13 = 0 ∧ opened.stepOpen = true ∧ begun.stepOpen = false ∧ bitAt (begun.regNat .JOB_CTL) 16 = false ∧
      bitAt (en.regNat .JOB_CTL) 16 = true) ∧
    ((rec1 0).jobRec.isSome = true ∧ en.jobRec = none ∧ en.isSet Fd.JOB_CTL_EN = true ∧ begun.isSet Fd.JOB_CTL_EN = false ∧
      (0 : BitVec 8).toNat = en.fld Fd.JOB_CTL_MAP_GEN ∧ (255 : BitVec 8).toNat ≠ en.fld Fd.JOB_CTL_MAP_GEN ∧
      (en.setFld Fd.JOB_FILL_PENDING 1).fld Fd.JOB_FILL_PENDING ≠ 0 ∧ en.fld Fd.JOB_FILL_PENDING = 0 ∧ en.isSet Fd.JOB_CTL_HOLD = false) ∧
    (thr.live t0.code = true ∧ (thr.thread t0.code).due = none ∧ (thr.thread t0.code).ckpts = [] ∧ (thr.thread t0.code).regs.held = none ∧
      ((thr.setThread 0 { thr.thread 0 with ckpts := [⟨0, 0, {}, []⟩] }).thread t0.code).ckpts ≠ [] ∧ thr.stepOpen = false ∧ (thr.setFld Fd.JOB_STEP_STATE 2).stepOpen = true) ∧
    ((rec1 0).srecRoom = true ∧ ((rec1 0).setFld Fd.JOB_SREC_PTR_HEAD 16).srecRoom = false) ∧
    (SMap.find ({ begun with sends := [(17, fl)] } : State).sends 17 = some fl ∧ fl.toward = some 1 ∧ fl.unacked = [] ∧ fl.reopen = false ∧ fl.held = false ∧
      (let u : State := { link begun with sends := [(17, fl)] }
       u.routeFault 1 1 (u.pisteFor 1 0) = 0 ∧ ({ u with retired := [0, 1, 2, 3, 4, 5] } : State).routeFault 1 1 (u.pisteFor 1 0) ≠ 0 ∧
         u.routeFault 1 1 (u.pisteFor 1 1) ≠ 0)) := by
  dsimp only
  repeat' apply And.intro
  all_goals decide +kernel

/-- R544: frame FSKIP + i * FSTEP is the i-th taken. -/
theorem test_frames_taken :
    let hd : Config.VideoHead := { at0 := 0, profile := .main, level := 10, highTier := false, beyond := false, depth := 8, chroma := .mono, width := 2, height := 2 }
    takenFrames { x := 0, y := 0, w := 2, h := 2, wo := 0, ho := 0, patch := 8, ofmt := 0, frames := 2, fstep := 2, valid := true, m := [] } 1
      { start := true, heads := [], frames := [⟨hd, [0]⟩, ⟨hd, [1]⟩, ⟨hd, [2]⟩, ⟨hd, [3]⟩], error := none, used := 0, starved := false } =
      [⟨hd, [1]⟩, ⟨hd, [3]⟩] := by decide

/-! The start, power, trust and the machine -/

/-- A module that is powered, with its stage. -/
def powered (b : Boot) (stage : Nat) : State := { State.reset.setFld Fd.PWR_STAGE_STAGE stage with boot := { b with powered := true } }

/-- A record of the first tile, for 0 to 100 degrees. -/
def rec0 : Setting :=
  let r : Setting := { tag := BitVec.ofNat 256 (4 + 100 * 2 ^ 40), payload := [] }
  { r with tag := BitVec.ofNat 256 (4 + 100 * 2 ^ 40 + r.crc * 2 ^ 96) }

theorem witness_StartAndClocks :
    let s0 := powered {} 0
    let s1 := powered { done0 := true, flash := true } 1
    let s2 := ((powered { done0 := true, done1 := true } 1).setFld Fd.CLK_ROOT_STATUS_XTAL_OK 1).setFld Fd.CLK_ROOT_STATUS_PLL_LOCK 1
    let s3 := (powered { done0 := true, done1 := true } 2).setFld Fd.ID_RNG_HEALTHY 1
    let lift (b : Bool) := (powered { done0 := true, done1 := true, done2 := true, lift := some (0, b) } 2).setFld Fd.MC_PANEL_TILES_TILE_EN 3
    let xt (n : Nat) (b : Bool) := (powered { xtal := n, badWindow := b } 0).setFld Fd.CLK_ROOT_STATUS_IOSC_CAL 100000
    let ramp (f : Nat) (p : Bool) := (powered { done1 := true, freq := [(0, f)], goal := [(0, (8, 1, p))] } 2).setFld (Fd.CLK_DOM_CTL_RAMPING 0) 1
    let live := powered { done1 := true, liveTiles := 1 } 2
    State.reset.boot.powered = false ∧ s0.boot.powered = true ∧ (46000 ≤ (46000 : BitVec 16).toNat ∧ (46000 : BitVec 16).toNat < 50000) ∧
    (45999 : BitVec 16).toNat < 46000 ∧ s0.boot.done0 = false ∧ s0.boot.xtal = 0 ∧ (s1.boot.flash = true ∧ s1.boot.done1 = false ∧ s1.fw.run = 0) ∧
    (s2.boot.done1 = true ∧ s2.boot.done2 = false ∧ s2.fld Fd.PWR_STAGE_STAGE = 1 ∧ s2.isSet Fd.CLK_ROOT_STATUS_XTAL_OK = true ∧
      s2.isSet Fd.CLK_ROOT_STATUS_PLL_LOCK = true) ∧
    (s3.fld Fd.PWR_STAGE_STAGE = 2 ∧ s3.boot.done2 = false ∧ s3.fld (Fd.CH_STAT_STATE .far 23) = 0 ∧ s3.fld (Fd.CH_STAT_STATE .near 0) = 0 ∧
      s3.isSet Fd.ID_RNG_HEALTHY = true ∧ s3.nearResolved = true ∧ s3.farResolved = true ∧ s3.cpr = 0 ∧ ({ s3 with cpr := 3 } : State).cpr = 3) ∧
    ((lift false).boot.lift = some (0, false) ∧ (lift true).boot.lift = some (0, true) ∧ (lift false).liftTiles 0 = [0, 1] ∧ (lift false).boot.again = 0 ∧
      [0, 1].filter (fun t => (2 : BitVec 36).getLsbD t) = [1] ∧ ((lift true).liftDone 0).routerBad = false) ∧
    ((xt 1 false).boot.xtal = 1 ∧ (xt 2 false).boot.xtal = 2 ∧ (xt 3 true).boot.xtal = 3 ∧ (xt 3 true).boot.badWindow = true ∧
      (let cal := (xt 3 false).fld Fd.CLK_ROOT_STATUS_IOSC_CAL
       (cal * 995 ≤ (100500 : BitVec 32).toNat * 1000 ∧ (100500 : BitVec 32).toNat * 1000 ≤ cal * 1005) ∧ ¬ ((100501 : BitVec 32).toNat * 1000 ≤ cal * 1005))) ∧
    ((s2.setFld Fd.CLK_ROOT_STATUS_PLL_LOCK 0).isSet Fd.CLK_ROOT_STATUS_PLL_LOCK = false ∧ s2.boot.pllTries < 4) ∧
    ((ramp 750000000 true).isSet (Fd.CLK_DOM_CTL_RAMPING 0) = true ∧ ((ramp 750000000 true).domGoal 0).2.2 = true ∧ ((ramp 0 false).domGoal 0).2.2 = false ∧
      s2.isSet (Fd.CLK_DOM_CTL_RAMPING 0) = false ∧ (ramp 0 false).domHz 0 * 15 ≤ goalHz ((ramp 0 false).domGoal 0) * 16) ∧
    (375000000 * 32 ≤ 12000000000 * 1 ∧ 12000000000 * 1 ≤ 1500000000 * 8 ∧ 1500000000 * 7 < 12000000000 * 1 ∧ 12000000000 * 1 < 375000000 * 33) ∧
    (bitAt live.boot.liveTiles 0 = true ∧ live.boot.droop.contains 0 = false) ∧
    ((rec0.valid 4 0 = true ∧ rec0.covers ⟨100, 0⟩ = true ∧ rec0.covers ⟨101, 0⟩ = false ∧ rec0.present 4 0 = true ∧ rec0.present 4 1 = false) ∧
      ({ s3 with settings := [(4, rec0)] } : State).setting 4 0 = rec0 ∧
      ({ s3 with settings := [(20, rec0)] } : State).setting 4 1 = rec0) ∧
    (s0.fw.pend = [] ∧ s0.fw.slotA = [] ∧ ({ slotA := [1] } : Firmware).slotA ≠ [] ∧
      ((lift true).takeClass false).boot.refused = false) := by
  dsimp only
  repeat' apply And.intro
  all_goals decide +kernel

theorem witness_PowerAndCarrier :
    let s := ((begun.setFld Fd.PWR_STAGE_STAGE 3).setFld Fd.MC_SET_CTL_BG_CHECK_EN 1).setFld Fd.PWR_CAP_CAP_W 10000
    let hot := { s with boot := { s.boot with coolTimer := true } }
    let port : SettingUnit := .port 0
    let up0 := s.setFld (Fd.JL_P_STAT_STATE 0) 2
    let mk (m : List SettingUnit) (r : Option SettingUnit) : State := { up0 with boot := { s.boot with marked := m, retraining := r } }
    let cpr (n : Nat) : State := { s.setFld Fd.ID_RNG_HEALTHY 1 with cpr := n, boot := {} }
    let down : State := { State.reset.setFld Fd.PWR_STAGE_STAGE 2 with boot := { liftsEnded := 6 } }
    s.boot.done0 = true ∧ s.boot.powered = true ∧ s.boot.done1 = true ∧
    (s.fld Fd.PWR_THERM_TJ_THROTTLE ≤ 255 ∧ 0 < s.fld Fd.PWR_THERM_TJ_THROTTLE ∧ s.fld Fd.PWR_CAP_CAP_W < 65535) ∧
    (s.dram.overdraw.contains 0 = false ∧ bitAt (s.fld Fd.PWR_CARRIER_DIMM_OFF) 0 = false ∧ s.isSet Fd.PWR_CARRIER_LEAK = false) ∧ hot.boot.coolTimer = true ∧
    (2150 ≤ (2150 : BitVec 16).toNat ∧ s.boot.dropped ≠ 4 ∧ (2049 : BitVec 16).toNat < 2050 ∧ 2050 ≤ (2050 : BitVec 16).toNat) ∧
    (bitAt (s.fld Fd.PWR_CARRIER_CAGE_PRES) 0 = false ∧ (s.putBit Fd.PWR_CARRIER_CAGE_PRES 0 true).fld Fd.PWR_CARRIER_CAGE_PRES = 1 ∧
      bitAt (s.fld Fd.PWR_CARRIER_CAGE_PWR_OFF) 0 = false) ∧
    (s.fld Fd.PWR_STAGE_STAGE = 3 ∧ s.isSet Fd.MC_SET_CTL_BG_CHECK_EN = true ∧ up0.unitInUse port = true ∧ s.unitInUse port = false ∧
      up0.boot.marked.contains port = false ∧ up0.boot.retraining ≠ some port ∧ (mk [port] none).boot.marked.contains port = true) ∧
    (let t : State := { s with settings := [(4, rec0)] }
     t.unitInUse (.tile 0) = true ∧ t.settingsOf (.tile 0) = (4, [0]) ∧ t.rateLimit (.tile 0) = none ∧ (t.setting 4 0).covers ⟨25, 0⟩ = true ∧
      (t.setting 4 0).covers ⟨101, 0⟩ = false ∧ bits (t.setting 4 0).tag.toNat 50 2 = 0 ∧ (t.rateLimit (.stack 0)).isSome = true) ∧
    ((mk [port] none).boot.marked = [port] ∧ (mk [port] none).quiet = true ∧ (mk [port] none).boot.retraining = none ∧ (mk [port] none).unitInUse port = true ∧
      ({ s with boot := { s.boot with marked := [port] } } : State).unitInUse port = false ∧ (mk [] (some port)).boot.retraining = some port) ∧
    begun.fld Fd.PWR_STAGE_STAGE ≠ 3 ∧ (cpr 2).cpr = 2 ∧ ((cpr 3).cpr = 3 ∧ (cpr 3).nearResolved = true ∧ (cpr 3).isSet Fd.ID_RNG_HEALTHY = true) ∧
    (cpr 5).cpr = 5 ∧ (down.cpr = 0 ∧ down.computeUp = false ∧ down.boot.liftsEnded = 6 ∧ down.boot.lift = none ∧ down.boot.refused = false) := by
  dsimp only
  repeat' apply And.intro
  all_goals decide +kernel

theorem witness_TrustEvents :
    let img (svn : BitVec 8) : List Byte := List.replicate 8 0 ++ [svn] ++ List.replicate 503 0
    let s (svn : BitVec 8) : State := { begun with fw := { slotA := img svn, run := 1 } }
    let ld (kind n : Nat) := ((windowed begun).setFld Fd.MC_FWB_CTL_KIND kind).setFld Fd.MC_FWB_STAT_LEN n
    let v (u : State) : State := ((({ u with fw := { u.fw with seq := u.fw.seq + 1 } } : State).setFld Fd.MC_FWB_COUNT_DONE 0).setFld Fd.MC_FWB_COUNT_FAILED 0).setFld Fd.MC_FWB_STAT_FAULT 0
    let src (u : State) := u.setFld Fd.MC_FWB_SRC_SRC win0
    let x (todo : List (List Nat)) : BistRun := { k := k0, dies := [9, 10], todo := todo, lbist := true, mbist := false, retire := false, res := 0 }
    let b (todo : List (List Nat)) : State := { begun with trust := { bist := some (x todo) } }
    let wd := (s 1).setFld Fd.MC_WDT_EN 1
    (begun.boot.done1 = true ∧ begun.isSet Fd.ID_SVN_COMMIT = false ∧ (s 1).fw.run ≠ 0 ∧ (s 1).fld Fd.ID_SVN_SVN < fwSvn (s 1).fw.running ∧
      fwSvn (s 0).fw.running ≤ (s 0).fld Fd.ID_SVN_SVN ∧ begun.fw.run = 0) ∧
    (begun.isSet Fd.MC_FWB_CTL_START = false ∧
      (∀ u ∈ [ld 0 (2 ^ 23 + 1), ld 1 256, src (ld 1 256)], (v u).fld Fd.MC_FWB_SRC_SRC = u.fld Fd.MC_FWB_SRC_SRC ∧ (v u).fld Fd.MC_FWB_STAT_LEN = u.fld Fd.MC_FWB_STAT_LEN ∧
        (v u).fld Fd.MC_FWB_CTL_KIND = u.fld Fd.MC_FWB_CTL_KIND ∧ (v u).fld Fd.MC_FWB_CTL_DST = u.fld Fd.MC_FWB_CTL_DST) ∧
      2 ^ 23 < (ld 0 (2 ^ 23 + 1)).fld Fd.MC_FWB_STAT_LEN ∧ (v (ld 1 256)).inOpenWindow (0x3FFFF * 2 ^ 46 + (ld 1 256).fld Fd.MC_FWB_SRC_SRC) 256 = false ∧
      (v (src (ld 1 256))).inOpenWindow (0x3FFFF * 2 ^ 46 + win0) 256 = true ∧ (src (ld 1 256)).fld Fd.MC_FWB_SRC_SRC = win0) ∧
    ((begun.setFld Fd.ID_SVN_COMMIT 1).isSet Fd.ID_SVN_COMMIT = true ∧ begun.boot.powered = true ∧ begun.boot.rngFails + 1 ≠ 3 ∧
      ({ begun with boot := { begun.boot with rngFails := 2 } } : State).boot.rngFails + 1 = 3) ∧
    (({ s 1 with mgmtStop := true } : State).mgmtStop = true ∧ (s 1).mgmtStop = false ∧ wd.isSet Fd.MC_WDT_EN = true ∧ wd.fw.run ≠ 0) ∧
    (begun.boot.done0 = true ∧ (1 : BitVec 8) ≠ 0) ∧
    ((b [[9], [10]]).trust.bist = some (x [[9], [10]]) ∧
      (let rs : List BistResult := [{ index := 9, lsig := 0, msig := 0, fails := [] }]
       ((x [[9], [10]]).todo.filter (fun g => g.all (9 ≤ ·))).head? = some (rs.map (fun r => r.index.val)) ∧ rs.map (fun r => r.index.val) ∉ [[1]] ∧
        ((x [[10], [9]]).todo.filter (fun g => g.all (9 ≤ ·))).head? ≠ some (rs.map (fun r => r.index.val)))) := by
  dsimp only
  repeat' apply And.intro
  all_goals decide +kernel

theorem witness_SpdmRequests :
    let m : Spdm := { transport := 2, session := none, version := 0x12, param1 := 0, param2 := 0, body := [], verified := false }
    let s (p : Nat) : State := { begun with trust := { phase := [(2, p)], vers := [(2, 0x12)] } }
    let ss (l : Bool) : State := { (s 3).setFld Fd.ID_RNG_HEALTHY 1 with trust := { phase := [(2, 3)], vers := [(2, 0x12)], sessions := [(0, { transport := 2, live := l })] } }
    let sm := { m with session := some 0, verified := true }
    let four : State := { ss true with trust := { (ss true).trust with sessions := (List.range 4).map (fun n => (n, { transport := 2, live := true })) } }
    begun.boot.done0 = true ∧ ({ m with version := 0x10 } : Spdm).version = 0x10 ∧ m.version ≠ 0x10 ∧ SMap.getD begun.trust.phase 2 0 = 0 ∧
    SMap.getD (s 1).trust.phase 2 0 ≠ 0 ∧ SMap.getD (s 1).trust.phase 2 0 < 2 ∧ SMap.getD (s 2).trust.phase 2 0 = 2 ∧
    SMap.find (s 2).trust.vers 2 = some m.version.toNat ∧ SMap.find (s 2).trust.vers 2 ≠ some ({ m with version := 0x11 } : Spdm).version.toNat ∧
    (s 3).spdmError m = 0 ∧ (s 3).isSet Fd.ID_RNG_HEALTHY = false ∧ (ss true).isSet Fd.ID_RNG_HEALTHY = true ∧ (ss true).spdmError sm = 0 ∧
    ({ m with param2 := 0xFF, param1 := 1 } : Spdm).param1.getLsbD 0 = true ∧ 1 ≤ ({ m with param2 := 6 } : Spdm).param2.toNat ∧
    (List.range 4).find? (fun n => (SMap.find (ss true).trust.sessions n).isNone) = some 1 ∧
    (List.range 4).find? (fun n => (SMap.find four.trust.sessions n).isNone) = none ∧
    (ss true).session sm = some (0, { transport := 2, live := true }) ∧ (ss false).session sm = some (0, { transport := 2, live := false }) ∧
    (ss true).session m = none ∧ sm.verified = true ∧ m.verified = false := by decide +kernel

theorem witness_IssueChecks :
    let w : IWord := { w0 with a := 1, b := 2, c := 3 }
    let r (pc : Nat) : TRegs := { pc := pc }
    let s := ready (r 0)
    let due := up { st := .ready, due := some (0x107, 8) }
    let out := ready (r 0x4000000)
    let bad := { s with poison := [(0x110000000000 / 64, true)] }
    let wx : IWord := { w with x := true }
    let edge := ready (r 0x3FFFFF8)
    let busy := up { st := .ready, loads := [{ ld0 with dest := .scalar 2 }] }
    let g : IWord := { w with pred := 1 }
    let reads := scalarReads w ++ [gR w.a.toNat]
    let log := (s.setFld Fd.HST_FLOG_PTR_FTAIL 1).setFld Fd.HST_IRQ_CTL_FLOG_VEC_EN 1
    let msg := { ported log 1 with msix := [(0, 0)], msixCtl := [(0, { enable := true })] }
    State.reset.live 0 = false ∧ due.live 0 = true ∧ (due.thread 0).due = some (0x107, 8) ∧ s.live 0 = true ∧ (s.thread 0).due = none ∧
    (0x4000000 ≤ (out.thread 0).regs.pc ∧ (out.thread 0).ckpts = []) ∧ bad.poisoned (tileBase (tileOf t0.code)) 8 = true ∧
    ((scalarForm w 1).ok w = true ∧ (scalarForm { w with imm := 1 } 1).ok { w with imm := 1 } = false ∧ 0x4000000 ≤ (edge.thread 0).regs.pc + 8 ∧
      (busy.thread 0).busy (guardRegs w ++ reads) = true ∧ busy.poisoned (tileBase 0) 8 = false) ∧ wx.x = true ∧
    (s.Ready t0 g ((scalarForm g 1).ok g) false (scalarReads g ++ [gR g.a.toNat]) ∧ ¬ s.Enabled t0 g) ∧
    ((s.fld Fd.HST_FLOG_PTR_FHEAD + 1) % 256 ≠ s.fld Fd.HST_FLOG_PTR_FTAIL ∧ (log.fld Fd.HST_FLOG_PTR_FHEAD + 1) % 256 = log.fld Fd.HST_FLOG_PTR_FTAIL ∧
      s.isSet Fd.HST_IRQ_CTL_FLOG_VEC_EN = false ∧ log.isSet Fd.HST_IRQ_CTL_FLOG_VEC_EN = true ∧ log.vecMasked 0 = true ∧ msg.vecMasked 0 = false ∧
      msg.fld (Fd.HST_PORT_STAT_MODE 0) ≠ 0 ∧ s.fld Fd.JOB_STEP_STEP < 2 ^ 32) := by
  dsimp only
  repeat' apply And.intro
  all_goals first | exact ready_of (by decide +kernel) | (intro h; rcases h with h | h <;> revert h <;> decide +kernel) | decide +kernel

theorem witness_MemoryCanonical :
    let s := { (begun.store (cellsFrom sp0 [1, 2, 0, 3])).1 with pending := [.wdtKick .controller] }
    s.mem.length = 3 ∧ s.MemWf ∧ (∃ u, step s = .next u ∧ u.pending = []) ∧ (∀ c ∈ s.pending, Instr.wf c = true) := by
  refine ⟨by decide +kernel, ?_, ⟨_, rfl, ?_⟩, ?_⟩
  · show Memory.wf _ = true; decide +kernel
  · decide +kernel
  · decide +kernel

/-! What the checks of WellFormed refuse -/

theorem test_wf_packet : Instr.wf (.bulk 0 { pk0 with body := List.replicate 4096 0 }) = true ∧ Instr.wf (.bulk 0 { pk0 with body := List.replicate 4097 0 }) = false := by decide +kernel

theorem test_wf_flit : Instr.wf (.flitReceive 0 { flit0 with body := List.replicate 255 0 } {}) = false := by decide +kernel

theorem test_wf_slot (l : List Byte) (h : l.length = 512 + 8 * 2 ^ 20 + 1) : Instr.wf (.fwSlotWrite true ⟨l⟩) = false := by simp [Instr.wf, FwSlot.wf, h]

theorem test_wf_licence : Instr.wf (.firmwareSelect ⟨[]⟩ ⟨[]⟩ ⟨List.replicate 127 0⟩ ⟨[]⟩) = false ∧ Instr.wf (.firmwareSelect ⟨[]⟩ ⟨[]⟩ ⟨[]⟩ ⟨List.replicate 128 0⟩) = true := by decide +kernel

theorem test_wf_access : Instr.wf (.hostBar4Access 0 { write := true, off := 0, bytes := [] }) = false := by decide +kernel

theorem test_wf_key : Instr.wf (.ideKm 0 { kind := .link, session := 0, object := 2, streamId := 0, keySet := false, rxTx := false, subStream := 0, key := [1] }) = false := by decide +kernel

theorem test_wf_unit : Instr.wf (.refreshWindowEnd .near 16) = false ∧ Instr.wf (.refreshWindowEnd .near 15) = true ∧ Instr.wf (.refreshWindowEnd .far 23) = true := by decide +kernel

theorem test_wf_region : Instr.wf (.regionInitDone .near 1024) = false ∧ Instr.wf (.regionInitDone .far 16383) = true := by decide +kernel

theorem test_wf_line : Instr.wf (.scrubWriteback (0x110240000000 / 64)) = false ∧ Instr.wf (.scrubWriteback (0x110240000000 / 64 - 1)) = true := by decide +kernel

/-! The machine -/

/-- The reset memory is canonical. -/
theorem test_reset_memory : State.reset.MemWf := by show Memory.wf _ = true; decide

/-- The table gives no bits: no word spells a command. -/
theorem test_no_words (n w : Nat) : decodeTableWord n w = none := rfl

/-- No two rows of the opcode tables read the same word: they differ in opcode or in the MOD bit that tells them apart. -/
theorem test_op_rows : (controlRows ++ memoryRows ++ vectorRows ++ matrixRows).Pairwise (fun a b =>
    a.op ≠ b.op ∨ (a.bit.map Prod.fst = b.bit.map Prod.fst ∧ a.bit ≠ b.bit)) := by decide +kernel

/-- The words that chapter 11 works out, decoded: each instruction with its fields. -/
theorem test_worked_words :
    decodeWord t0 0x0000000100000109 0x0200004039810000 = some (.movi t0 { IWord.ofWord 0 0x0200004039810000 with x := true, a := 4 }) ∧
    decodeWord t0 0x00001440C0000021 0 = some (.dscSet t0 { IWord.ofWord 0 0 with a := 3, b := 4, c := 5 }) ∧
    decodeWord t0 0x000001A580000060 0 = some (.barInit t0 { IWord.ofWord 0 0 with a := 22, b := 26 }) ∧
    decodeWord t0 0x000001B580004061 0 = some (.barArriveTx t0 { IWord.ofWord 0 0 with mod := 1, a := 22, b := 27 }) ∧
    decodeWord t0 0x00165540C0004152 0x19617 = some (.kvGet t0 { IWord.ofWord 0 0x19617 with x := true, mod := 1, a := 3, b := 20, c := 21, d := 22 }) ∧
    (fun w : IWord => [w.f 0, w.f 1, w.f 2]) { IWord.ofWord 0 0x19617 with x := true } = [23, 24, 25] ∧
    decodeWord t0 0x0000000580000062 0 = some (.barWait t0 { IWord.ofWord 0 0 with a := 22 }) ∧
    decodeWord t0 0x000C0050800180C4 0 = some (.mmaStream t0 { IWord.ofWord 0 0 with mod := 6, a := 2, b := 5, d := 12 }) := by decide +kernel

/-- R480, R484, R492, R495: reserved opcodes of each unit. -/
theorem test_reserved_opcodes : ∀ op ∈ [0x0A, 0x3F, 0x49, 0x7F, 0x8E, 0xBF, 0xC1 + 2, 0xFF],
    decodeWord t0 (BitVec.ofNat 64 op) 0 = none := by decide +kernel

/-- A thread whose program counter is at a reserved opcode stops with 0x0101. -/
theorem test_fetched_reserved :
    let s := (up { st := .ready }).mem.write (tileBase 0) [0xFF]
    let u := { up { st := .ready } with mem := s }
    u.live 0 = true ∧ (match runFetched t0 u with | .next v => (v.live 0, (v.thread 0).fault.toNat) | _ => (true, 0)) = (false, 0x0101) := by decide +kernel

/-- The state a command leads to. -/
def after (i : Instr) (s : State) : State :=
  match exec i s with
  | .next u => u
  | _ => s

/-- The state after one step. -/
def ran (s : State) : State :=
  match step s with
  | .next u => u
  | _ => s

/-- The command at the front runs first, the second waits: cable 1 goes before cable 2. -/
theorem test_front_first :
    let s : State := { begun.setFld Fd.PWR_CARRIER_CAGE_PRES 6 with pending := [.cableRemoved 1, .cableRemoved 2] }
    (ran s).pending = [.cableRemoved 2] ∧ (ran s).fld Fd.PWR_CARRIER_CAGE_PRES = 4 := by decide +kernel

/-- With nothing waiting a core cycle passes. -/
theorem test_idle_cycle : (ran (up {})).cycle = 1 := by decide +kernel

/-- R593: on the 16th edge a tile that stretches its clock counts no cycle; R607: on an edge that is dropped none does. -/
theorem witness_StepRunsFront :
    let s : State := { (up {}).setBoot { (up {}).boot with droop := [3] } with edges := 15 }
    let d : State := { (up {}).setBoot { (up {}).boot with dropped := 4 } with edges := 3 }
    (s.pending = [] ∧ s.computeUp = true ∧ s.boot.dropped = 0 ∧ s.boot.droop.Nodup ∧ 3 ∈ s.boot.droop ∧ s.edges % 16 = 15 ∧
      (ran s).cycle = 1 ∧ (ran s).lost.getD 3 0 = 1 ∧ (ran s).lost.getD 2 0 = 0) ∧
    (d.boot.dropped ≠ 0 ∧ d.edges % d.boot.dropped = d.boot.dropped - 1 ∧ (ran d).cycle = 0 ∧ (ran d).edges = 4) ∧
    ¬ State.reset.computeUp = true := by decide +kernel

/-! Threads (expected values worked out from R481, R482) -/

/-- g1 after an operation of g2 and g3. -/
def gOp (i : Tid → IWord → Instr) (mod : Nat) (b c : Nat) : Nat :=
  ((((after (i t0 { w0 with a := 1, b := 2, c := 3, mod := BitVec.ofNat 16 mod }) (ready { g := [(2, BitVec.ofNat 64 b), (3, BitVec.ofNat 64 c)] })).regs 0).getG 1)).toNat

theorem test_add_wraps : gOp .add 0 (2 ^ 64 - 1) 2 = 1 := by decide +kernel
theorem test_sub_wraps : gOp .sub 0 1 2 = 2 ^ 64 - 1 := by decide +kernel
theorem test_mul_low : gOp .mul 0 (2 ^ 32 + 1) (2 ^ 32 + 1) = 2 ^ 33 + 1 := by decide +kernel
theorem test_shl_count : gOp .shl 0 1 65 = 2 := by decide +kernel
theorem test_shr_zero_fill : gOp .shr 0 (2 ^ 63) 63 = 1 := by decide +kernel
theorem test_sar_sign : gOp .sar 0 (2 ^ 63) 63 = 2 ^ 64 - 1 := by decide +kernel
theorem test_smin_signed : gOp .smin 0 (2 ^ 64 - 1) 1 = 2 ^ 64 - 1 := by decide +kernel
theorem test_umin_unsigned : gOp .umin 0 (2 ^ 64 - 1) 1 = 1 := by decide +kernel
theorem test_cmp_lt_signed : gOp .cmp 4 (2 ^ 64 - 1) 0 = 1 := by decide +kernel
theorem test_cmp_lt_unsigned : gOp .cmp 8 (2 ^ 64 - 1) 0 = 0 := by decide +kernel
theorem test_add_imm10 :
    (((after (.add t0 { w0 with a := 2, b := 2, mod := 1, imm := 0x3FF }) (ready { g := [(2, 5)] })).regs 0).getG 2) = 4 := by decide +kernel

/-- R481: BR adds 8 × IMM28 to the address of its word. -/
theorem test_br_back : ((after (.br t0 { w0 with b := 0x3F, c := 0x3F, d := 0x3F, imm := 0x3FF }) (ready { pc := 64 })).regs 0).pc = 56 := by decide +kernel

/-- R481: CALL writes the address behind it. -/
theorem test_call_links :
    let r := (after (.call t0 { w0 with a := 7, b := 2 }) (ready { pc := 64 })).regs 0
    r.getG 7 = 72 ∧ r.pc = 80 := by decide +kernel

/-! The spec's worked examples -/

/-- The worked example of addressing a peer scratchpad (chapter 01). -/
theorem test_peer_scratchpad :
    scratchBase 14 9 = 0x1100EC800000 ∧ regionOf 0x1100EC800000 = .scratch 14 9 ∧ devSplit 0x0F045100EC800000 = (0x3C11, 0x1100EC800000) ∧
    State.reset.isSelf (devSplit 0xFFFFD100EC800000).1 = true := by decide +kernel

/-- The worked example of a barrier (chapter 02), step 2: thread 0 arrives with 32,768 bytes to come. -/
theorem test_barrier_arrive_tx :
    let s := after (.barInit t0 { w0 with a := 1, b := 2 }) (ready { g := [(1, 0x8000000), (2, 4), (3, 32768)] })
    let u := after (.barArriveTx t0 { w0 with a := 1, b := 3, mod := 1 }) s
    ((s.bar sp0).count = 4 ∧ (s.bar sp0).left = 4 ∧ (s.bar sp0).pend = 0) ∧ ((u.bar sp0).pend = 32768 ∧ (u.bar sp0).left = 3) := by decide +kernel

/-- Its steps 4 to 6: the bytes land gliding, then their checks pass and the phase completes. -/
theorem test_barrier_phase :
    let b : Bar := { pend := 32768, left := 0, count := 4, unconf := 0, phase := false, broken := false, epoch := 0, rest := 0 }
    let c := b.update (-32768) 32768
    (c.pend = 0 ∧ c.unconf = 32768 ∧ c.phase = false) ∧ (c.update 0 (-32768)).settle.phase = true ∧ (c.update 0 (-32768)).settle.left = 4 := by decide +kernel

/-- The worked example of G (chapter 03): the two groupings of one column of FP8-E5M2. -/
theorem test_group_order :
    let one (k : Nat) : Nat := if k = 0 then 0x6C else if k = 1 ∨ k = 4 then 0x3C else 0
    let acc (ga : Nat) := (accCell 4 4 8 ga false one (fun _ => 0x7F) one (fun _ => 0x7F) 0).1
    acc 4 = 0x4B800000 ∧ acc 8 = 0x4B800001 := by decide +kernel

/-- The worked example of a tile that overflows (chapter 04): 520 at exponent 1 is code 0x78 under scale code 0x80. -/
theorem test_spred_retry :
    clamp127 (floorLog2 ⟨300, 0⟩ - emaxOf 3) = 0 ∧ clamp127 (floorLog2 ⟨520, 0⟩ - emaxOf 3) = 1 ∧
    (spredBlock 3 1 false [.fin false 520 0]).1 = 0x80 ∧ (spredBlock 3 1 false [.fin false 520 0]).2.map (·.code) = [0x78] := by decide +kernel

/-- The worked example of stochastic rounding (chapter 04): x = 0.75 − 2^-12 in BF16. -/
theorem test_stochastic :
    let x : Dy := ⟨3071, -12⟩
    (finalRound 1 none x).1 = 0x3F40 ∧ (finalRound 1 (some 0x0C349A10) x).1 = 0x3F3F ∧ (finalRound 1 (some 0x10000000) x).1 = 0x3F40 := by decide +kernel

/-- The worked example of a wheel (chapter 08): the stream, page and row of token 500,000. -/
theorem test_wheel_token :
    let w := Wheel.dec (1 + 9 * 2 ^ 24 + 2 ^ 21)
    ({ w with groups := 1 } : Wheel).stream' 1 0 1 = 3 ∧ (500000 - 393216) / 2048 = 52 ∧ (500000 - 393216) % 2048 = 288 := by decide +kernel

/-- R407's example: a distance of 100,000. -/
theorem test_bias_bucket : biasIndex 100000 = 78 ∧ biasIndex (-100000) = 206 ∧ biasIndex 31 = 31 := by decide +kernel

/-- The worked example of a reduction that escalates (chapter 10), steps 1, 2, 5, 7. -/
theorem test_relay_grid :
    (relQuant (-10) 0x3A200000).1 = 671088640 ∧ 12345 * 8 / 65536 = 1 ∧
    ((List.replicate 8 671088640).foldl (fun a x => (bfxAdd a x).1) 0) = 5368709120 ∧ nextExp (-10) 1 true [5368709120] = -7 := by decide +kernel

/-- The example of R589: 1.5 GHz lowered for four milliseconds. -/
theorem test_core_lowered :
    let g1 := lowerGoal (8, 1, true)
    let g2 := lowerGoal (g1.1, g1.2, true)
    let g3 := lowerGoal (g2.1, g2.2, true)
    let g4 := lowerGoal (g3.1, g3.2, true)
    goalHz (g4.1, g4.2, true) / 1000000 = 1158 ∧ (goalHz (g4.1, g4.2, true) + 500000) / 1000000 = 1159 := by decide +kernel

/-- The slot size of the ingest example (chapter 13), and the reach of its crop. -/
theorem test_ingest_slot :
    ({ x := 0, y := 60, w := 1920, h := 960, wo := 512, ho := 256, patch := 16, ofmt := 0, frames := 2048, fstep := 2, valid := true, m := [] } : Profile).slotSize = 1610612736 := by decide +kernel

/-- R466: the check value of CRC-32 over the nine digits. -/
theorem test_crc32 : crc32 [0x31, 0x32, 0x33, 0x34, 0x35, 0x36, 0x37, 0x38, 0x39] = 0xCBF43926 := by decide +kernel

/-! Other units -/

/-- R430: a sum that leaves the range is the BFX NaN, which is sticky. -/
theorem test_bfx_range : bfxAdd (2 ^ 63 - 1) 1 = (bfxNan, true) ∧ bfxAdd bfxNan 5 = (bfxNan, false) ∧ bfxAdd (2 ^ 64 - 1) 1 = (0, false) := by decide +kernel

/-- R84: BAR.INIT with a count of zero is an operand fault; R82: the object lies on 16 bytes. -/
theorem test_barrier_align : barFault 0x8000008 = 0x0105 ∧ barFault 0x8000010 = 0 := by decide +kernel

/-- R671: a record of the fault log and its head. -/
theorem test_fault_log :
    let u := begun.logRec 0x0606 4 3
    SMap.find u.flog 0 = some (BitVec.ofNat 128 (0x0606 + 4 * 2 ^ 16 + 3 * 2 ^ 24 + 2 ^ 96)) ∧ u.fld Fd.HST_FLOG_PTR_FHEAD = 1 := by decide +kernel

/-- R13: a 32-bit write at offset 4 of a register leaves its low half. -/
theorem test_half_write :
    let s := begun.setFld Fd.JL_SEAL_SEAL 0
    (after (.registerWrite .host (BitVec.ofNat 26 ((Reg.JOB_SREC).addr + 4)) .four 1) (s.setFld Fd.JOB_SREC_BASE 0x1000)).fld Fd.JOB_SREC_BASE
      = (0x8001000 : Nat) := by decide +kernel

/-- R334: a retired port is written down as module and port. -/
theorem test_notice_records : (after (.notice 0 (pkOf 0 (leBytes 16 (5 + 3 * 2 ^ 18 + 2 ^ 21)))) (net begun)).retired = [43] := by decide +kernel

/-- R320, R322: the second copy of a first packet is a duplicate and stores nothing. -/
theorem test_store_once :
    let st (v : Byte) := pkOf 1 (leBytes 16 sp0 ++ [v])
    let s := after (.store 0 (st 1)) (net (up {}))
    (s.byteAt sp0 = 1) ∧ (after (.store 0 (st 2)) s).byteAt sp0 = 1 := by decide +kernel

/-- R392: a fifth posting of a slice waits. -/
theorem test_lap_fifth_waits :
    let w : IWord := { w0 with a := 1, b := 2, c := 3 }
    let s := armed (ready { g := [(2, 0x8000000)] })
    let four := s.setLap 0 { posts := List.replicate 4 post0 }
    ((after (.lapPost t0 w) four).thread 0).st = .waitData ∧ (((after (.lapPost t0 w) s).lap 0).posts.map (·.addr)) = [sp0] := by decide +kernel

/-! Premises of statements about waits and poison -/

/-- The unit of the first far line retrains, so accesses to it wait. -/
def held0 (s : State) : State := s.setBoot { s.boot with retraining := some (.channel 0) }

/-- The far line at an address is poisoned. -/
def poisonAt (s : State) (a : Nat) : State := { s with poison := [(a / 64, true)] }

theorem witness_HeldTables :
    let s := wheels (up {}) (wv 1)
    let q : PageCopy := {}
    let c : Cmd := { entry := ent 0x10 [] }
    (s.descHeld 0 = false ∧ (held0 s).descHeld 0 = true) ∧
    ((s.runWalks 0 0 0 1 ≠ []) ∧ (∀ x ∈ s.runWalks 0 0 0 1, s.anyHeld x = false) ∧ s.rangesPoisoned (s.runWalks 0 0 0 1).flatten = false ∧
      (poisonAt s 0x100000).rangesPoisoned ((poisonAt s 0x100000).runWalks 0 0 0 1).flatten = true) ∧
    ((∀ i ∈ (s.wheel 0).pagesOf 0 1, s.walkBad 0 0 i = false) ∧ (∃ i ∈ (s.wheel 0).pagesOf 0 1, (poisonAt s 0x100000).walkBad 0 0 i = true) ∧
      s.anyHeld (s.walkRanges 0 0 0) = false) ∧
    (s.tablesHeld [] = false ∧ s.tablesHeld (s.cmdTables 0x10 c) = false ∧ (held0 s).tablesHeld [(0x100000, 8)] = true ∧
      s.tablesHeld (s.walkRanges 0 0 0 ++ s.pageRanges q) = false) := by
  dsimp only
  refine ⟨by decide +kernel, by decide +kernel, by decide +kernel, by decide +kernel⟩

theorem witness_CopiesThatWaitOrFail :
    let s := wheels (up {}) (wv 1)
    let c : Copy := { org := .cmd k0, bar := 0, ep := 0, segs := [] }
    let x : Txn := { copy := 1, op := .mv (here 0x10000) (here 0x20000) 256 true }
    let off : State := s.setFld (Fd.MAP_CTL_MAP_EN .far) 0
    let cave := withCmd s (ent 0x18 [(0, 0x50000000), (8, 1)])
    s.txnFault c x = 0 ∧ off.txnFault c x = 0x0502 ∧ s.caveHeld { entry := ent 0x18 [(0, 0x50000000), (8, 1)] } = false ∧
    (held0 cave).caveHeld { entry := ent 0x18 [(0, 0x50000000), (8, 1)] } = true ∧
    (s.pastEdge (here 0x20000) = false) := by
  dsimp only
  refine ⟨by decide +kernel, by decide +kernel, by decide +kernel, by decide +kernel, by decide +kernel⟩

theorem witness_RequestsThatWait :
    let q : PeerReq := { src := 1, vc := 1, typ := 1, body := [] }
    let s : State := { farUp (up {}) with inbox := [q] }
    (farUp (up {})).flowWaits 1 1 = false ∧ s.flowWaits 1 1 = true ∧ (held0 (farUp (up {}))).banksHeld 0 64 = true ∧
    (SMap.find ({ up {} with ltags := [(0, ⟨1, 0⟩)] } : State).ltags 0).isSome = true ∧ (farUp (up {})).serveInbox.flowWaits 1 1 = false := by
  decide +kernel

theorem witness_StartAndTrust :
    let s : State := { begun with boot := { begun.boot with flash := true, selected := true } }
    let m : Spdm := { transport := 0, session := none, version := 0x12, param1 := 0, param2 := 0, body := List.replicate 4096 0, verified := false }
    (s.boot.flash = true ∧ s.fw.run = 0 ∧ s.boot.selected = true ∧ ({ s with boot := { s.boot with selected := false } } : State).boot.selected = false) ∧
    (begun.hears m = false ∧ 12 + ({ m with body := [] } : Spdm).body.length ≤ 4096 ∧ begun.boot.done0 = true) := by
  dsimp only
  refine ⟨by decide +kernel, by decide +kernel⟩

end Sys2Proof.Tests
end

section
/-! How the bits of a masked write read back, and how one field of a register takes a write by its access code (R12, R13). -/

namespace Sys2Proof.Machine

/-- The model's test of a bit is the library's. -/
theorem bitAt_eq_testBit (v i : Nat) : bitAt v i = v.testBit i := Nat.testBit_eq_decide_div_mod_eq.symm

/-- Taking the common bits away clears them and no others: no bit borrows from the next. -/
theorem testBit_sub_and (a b i : Nat) : (a - (a &&& b)).testBit i = (a.testBit i && !b.testBit i) := by
  have low (a b : Nat) : (a &&& b) % 2 = 1 ↔ a % 2 = 1 ∧ b % 2 = 1 := Nat.and_mod_two_eq_one
  induction i generalizing a b with
  | zero =>
    have hle : a &&& b ≤ a := Nat.and_le_left
    have hlow := low a b
    rw [Bool.eq_iff_iff]
    simp only [Nat.testBit_zero, Bool.and_eq_true, Bool.not_eq_true', decide_eq_true_eq, decide_eq_false_iff_not]
    omega
  | succ i ih =>
    have halves : (a - (a &&& b)) / 2 = a / 2 - (a / 2 &&& b / 2) := by
      have hdiv : (a &&& b) / 2 = a / 2 &&& b / 2 := Nat.and_div_two
      have hlow := low a b
      omega
    simp only [Nat.testBit_succ, halves, ih]

@[simp] theorem bitAt_zero (i : Nat) : bitAt 0 i = false := by
  simp [bitAt_eq_testBit]

theorem bitAt_and (a b i : Nat) : bitAt (a &&& b) i = (bitAt a i && bitAt b i) := by
  simp only [bitAt_eq_testBit, Nat.testBit_and]

theorem bitAt_or (a b i : Nat) : bitAt (a ||| b) i = (bitAt a i || bitAt b i) := by
  simp only [bitAt_eq_testBit, Nat.testBit_or]

theorem bitAt_sub_and (a b i : Nat) : bitAt (a - (a &&& b)) i = (bitAt a i && !bitAt b i) := by
  simp only [bitAt_eq_testBit, testBit_sub_and]

/-- R13: a bit that the mask names comes from the value written, any other stays. -/
theorem bitAt_maskMix (old v mask i : Nat) :
    bitAt (maskMix old v mask) i = if bitAt mask i then bitAt v i else bitAt old i := by
  rw [maskMix, bitAt_or, bitAt_sub_and, bitAt_and]
  cases bitAt mask i <;> simp

/-- Bits of a field's width read as they were put. -/
theorem State.bitAt_fld_setFld {f : Fld} {i : Nat} (hi : i < f.len) (s : State) (n : Nat) :
    bitAt ((s.setFld f n).fld f) i = bitAt n i := by
  simp [bitAt_eq_testBit, hi]

/-! One equation per access code -/

section
variable {f : Fld} (s : State) (mask v : Nat)

theorem State.storeFld_discards (h : f.acc = .ro ∨ f.acc = .wo) : s.storeFld f mask v = s := by
  rcases h with h | h <;> simp [State.storeFld, h]

theorem State.storeFld_rw (h : f.acc = .rw) : s.storeFld f mask v =
    if bits mask f.lo f.len = 0 then s else s.setFld f (maskMix (s.fld f) (bits v f.lo f.len) (bits mask f.lo f.len)) := by
  simp only [State.storeFld, h]

theorem State.storeFld_w1c (h : f.acc = .w1c) :
    let y := bits v f.lo f.len &&& bits mask f.lo f.len
    s.storeFld f mask v = if y = 0 then s else s.setFld f (s.fld f - (s.fld f &&& y)) := by
  simp only [State.storeFld, h]

theorem State.storeFld_w1s (h : f.acc = .w1s) :
    let y := bits v f.lo f.len &&& bits mask f.lo f.len
    s.storeFld f mask v = if y = 0 then s else s.setFld f (s.fld f ||| y) := by
  simp only [State.storeFld, h]

theorem State.storeFld_lk (h : f.acc = .lk) : s.storeFld f mask v =
    if bits mask f.lo f.len = 0 then s
    else if s.fldSealed f then s
    else s.setFld f (maskMix (s.fld f) (bits v f.lo f.len) (bits mask f.lo f.len)) := by
  simp only [State.storeFld, h]

variable (f) in
/-- A store that a condition may leave out. -/
theorem State.ite_setFld_cases (c : Prop) [Decidable c] (n : Nat) :
    (if c then s else s.setFld f n) = s ∨ ∃ k, (if c then s else s.setFld f n) = s.setFld f k := by
  split
  case isTrue => exact .inl rfl
  case isFalse => exact .inr ⟨n, rfl⟩

variable (f) in
/-- Whatever the access code, a write leaves the state or gives this one field a value. -/
theorem State.storeFld_cases : s.storeFld f mask v = s ∨ ∃ n, s.storeFld f mask v = s.setFld f n := by
  cases h : f.acc with
  | ro => exact .inl (s.storeFld_discards mask v (.inl h))
  | wo => exact .inl (s.storeFld_discards mask v (.inr h))
  | rw => rw [s.storeFld_rw mask v h]; exact s.ite_setFld_cases f _ _
  | w1c => rw [s.storeFld_w1c mask v h]; exact s.ite_setFld_cases f _ _
  | w1s => rw [s.storeFld_w1s mask v h]; exact s.ite_setFld_cases f _ _
  | lk =>
    rw [s.storeFld_lk mask v h]
    split
    case isTrue => exact .inl rfl
    case isFalse => exact s.ite_setFld_cases f _ _

end

/-! What the bits of a field are after a write -/

section
variable {f : Fld} {i : Nat} (hi : i < f.len) (s : State)
include hi

/-- A masked store that is left out where the mask names no bit of the field stores bit for bit all the same. -/
theorem State.bitAt_fld_maskedStore (m x : Nat) :
    bitAt ((if m = 0 then s else s.setFld f (maskMix (s.fld f) x m)).fld f) i =
      if bitAt m i then bitAt x i else bitAt (s.fld f) i := by
  split
  case isTrue h => simp [h]
  case isFalse => rw [State.bitAt_fld_setFld hi, bitAt_maskMix]

variable (mask v : Nat)

theorem State.bitAt_fld_storeFld_rw (h : f.acc = .rw) :
    bitAt ((s.storeFld f mask v).fld f) i =
      if bitAt (bits mask f.lo f.len) i then bitAt (bits v f.lo f.len) i else bitAt (s.fld f) i := by
  rw [s.storeFld_rw mask v h, State.bitAt_fld_maskedStore hi]

theorem State.bitAt_fld_storeFld_w1c (h : f.acc = .w1c) :
    bitAt ((s.storeFld f mask v).fld f) i =
      (bitAt (s.fld f) i && !(bitAt (bits mask f.lo f.len) i && bitAt (bits v f.lo f.len) i)) := by
  rw [Bool.and_comm (bitAt (bits mask _ _) i), ← bitAt_and, s.storeFld_w1c mask v h]
  split
  case isTrue hy => simp [hy]
  case isFalse => rw [State.bitAt_fld_setFld hi, bitAt_sub_and]

theorem State.bitAt_fld_storeFld_w1s (h : f.acc = .w1s) :
    bitAt ((s.storeFld f mask v).fld f) i =
      (bitAt (s.fld f) i || (bitAt (bits mask f.lo f.len) i && bitAt (bits v f.lo f.len) i)) := by
  rw [Bool.and_comm (bitAt (bits mask _ _) i), ← bitAt_and, s.storeFld_w1s mask v h]
  split
  case isTrue hy => simp [hy]
  case isFalse => rw [State.bitAt_fld_setFld hi, bitAt_or]

theorem State.bitAt_fld_storeFld_lk (h : f.acc = .lk) :
    bitAt ((s.storeFld f mask v).fld f) i =
      if s.fldSealed f then bitAt (s.fld f) i
      else if bitAt (bits mask f.lo f.len) i then bitAt (bits v f.lo f.len) i else bitAt (s.fld f) i := by
  rw [s.storeFld_lk mask v h]
  cases s.fldSealed f
  case true => simp
  case false => simpa using State.bitAt_fld_maskedStore hi s (bits mask f.lo f.len) (bits v f.lo f.len)

end

/-! What a write of one field leaves -/

theorem State.fld_storeFld_ne (s : State) {f g : Fld} (mask v : Nat) (h : g.key ≠ f.key) :
    (s.storeFld f mask v).fld g = s.fld g := by
  rcases s.storeFld_cases f mask v with hu | ⟨n, hu⟩ <;> rw [hu]
  exact s.fld_setFld_ne f g n h

theorem State.storeFld_frame (s : State) (f : Fld) (mask v : Nat) : { s.storeFld f mask v with flds := s.flds } = s := by
  rcases s.storeFld_cases f mask v with hu | ⟨n, hu⟩ <;> rw [hu]
  rfl

/-- Settles O48: the equation of each access code, read bit by bit, and the frame of a write of one field. -/
theorem fieldAccess : Obligations.FieldAccess := by
  intro s f mask v
  exact ⟨s.storeFld_discards mask v,
    fun i hi => ⟨State.bitAt_fld_storeFld_rw hi s mask v, State.bitAt_fld_storeFld_w1c hi s mask v,
      State.bitAt_fld_storeFld_w1s hi s mask v, State.bitAt_fld_storeFld_lk hi s mask v⟩,
    fun g hg => s.fld_storeFld_ne mask v hg, s.storeFld_frame f mask v⟩

end Sys2Proof.Machine
end

section
/-! Which writes to control space land, which are discarded with a fault, and what a thread's write waits for (R11, R25, R46, R47,
R51, R52, R103 to R105). -/

namespace Sys2Proof.Machine

/-! The fault of an offset -/

/-- R11: an access of 32 or 64 bits, aligned, names bits of its register; no other does. -/
theorem accessMask_isNone_iff (o : Nat) (size : AccessSize) :
    (accessMask o size).isNone = true ↔ ¬ (size = .four ∧ o % 4 = 0 ∨ size = .eight ∧ o % 8 = 0) := by
  cases size with
  | one | two => simp [accessMask]
  | eight => by_cases h0 : o % 8 = 0 <;> simp [accessMask, h0]
  | four =>
    have aligned : o % 4 = 0 ↔ o % 8 = 0 ∨ o % 8 = 4 := by omega
    by_cases h0 : o % 8 = 0
    · simp [accessMask, aligned, h0]
    · by_cases h4 : o % 8 = 4 <;> simp [accessMask, aligned, h0, h4]

section
variable (s : State) {o : Nat} (size : AccessSize)

/-- R46: beyond the last block. -/
theorem State.csrFault_beyond (h : 0x34 ≤ o / 0x100000) : s.csrFault o size = 0x0501 := by
  simp [State.csrFault, h]

/-- R46: the blocks that hold nothing. -/
theorem State.csrFault_reserved (h : o / 0x100000 = 0xE ∨ o / 0x100000 = 0xF) : s.csrFault o size = 0x0502 := by
  rcases h with h | h <;> simp [State.csrFault, h]

section
variable (h1 : o / 0x100000 < 0x34) (h2 : o / 0x100000 ≠ 0xE) (h3 : o / 0x100000 ≠ 0xF)
include h1 h2 h3

/-- What is left of the fault of an offset in a block that holds registers. -/
theorem State.csrFault_block : s.csrFault o size =
    if !csrListed (o / 8 * 8) then 0
    else if (accessMask o size).isNone then 0x0A02
    else if o / 8 * 8 % 0x100000 = 0 ∧ 0x10 ≤ o / 0x100000 ∧ !s.blockInReset (o / 0x100000) then 0
    else s.blockRefusal (o / 0x100000) := by
  unfold State.csrFault
  rw [if_neg (by omega), if_neg (by omega)]

/-- R51: an offset that no chapter lists. -/
theorem State.csrFault_unlisted (hn : csrListed (o / 8 * 8) = false) : s.csrFault o size = 0 := by
  simp [s.csrFault_block size h1 h2 h3, hn]

variable (hy : csrListed (o / 8 * 8) = true)
include hy

/-- R11: an access that names no bits of a listed register. -/
theorem State.csrFault_badAccess (ha : ¬ (size = .four ∧ o % 4 = 0 ∨ size = .eight ∧ o % 8 = 0)) :
    s.csrFault o size = 0x0A02 := by
  simp [s.csrFault_block size h1 h2 h3, hy, (accessMask_isNone_iff o size).mpr ha]

variable (ha : size = .four ∧ o % 4 = 0 ∨ size = .eight ∧ o % 8 = 0)
include ha

/-- R11: what is left for an access that names bits of a listed register. -/
theorem State.csrFault_access : s.csrFault o size =
    if o / 8 * 8 % 0x100000 = 0 ∧ 0x10 ≤ o / 0x100000 ∧ !s.blockInReset (o / 0x100000) then 0
    else s.blockRefusal (o / 0x100000) := by
  have hm : (accessMask o size).isNone ≠ true := fun hm => (accessMask_isNone_iff o size).mp hm ha
  rw [s.csrFault_block size h1 h2 h3, hy, if_neg (by simp), if_neg hm]

/-- R52, R627: the block refuses. -/
theorem State.csrFault_refusal
    (hb : o / 8 * 8 % 0x100000 ≠ 0 ∨ o / 0x100000 < 0x10 ∨ s.blockInReset (o / 0x100000) = true) :
    s.csrFault o size = s.blockRefusal (o / 0x100000) := by
  rw [s.csrFault_access size h1 h2 h3 hy ha, if_neg]
  rintro ⟨hz, ht, hr⟩
  rcases hb with hb | hb | hb
  · exact hb hz
  · omega
  · simp [hb] at hr

/-- R12, R25: TILE_CORE_MAP out of reset, whether its tile is in service or not. -/
theorem State.csrFault_coreMap (hz : o / 8 * 8 % 0x100000 = 0) (ht : 0x10 ≤ o / 0x100000)
    (hr : s.blockInReset (o / 0x100000) = false) : s.csrFault o size = 0 := by
  rw [s.csrFault_access size h1 h2 h3 hy ha, if_pos ⟨hz, ht, by simp [hr]⟩]

end

end

/-! Writes by the host and the management controller -/

theorem State.csrWrite_host (s : State) (o : Nat) (size : AccessSize) (v : Nat) :
    s.csrWrite false o size v =
      if s.csrFault o size = 0 then s.csrPut false o size v
      else if s.csrFault o size < 0x0A00 then s.log (s.csrFault o size) else s.logBar (s.csrFault o size) := by
  simp [State.csrWrite]

theorem State.csrWrite_controller (s : State) (o : Nat) (size : AccessSize) (v : Nat) :
    s.csrWrite true o size v =
      if s.csrFault o size = 0 then s.csrPut true o size v else s.log (s.csrFault o size) := by
  simp [State.csrWrite]

/-! Behind the gate -/

section
variable {s : State} {t : Nat} (go : State → State)

/-- A thread that may not issue writes nothing. -/
theorem State.behindGate_dead (h : s.live t = false) : s.behindGate t go = s := by
  simp [State.behindGate, h]

variable (hl : s.live t = true)
include hl

/-- R478: a failure that is due stops the thread first. -/
theorem State.behindGate_due {code : BitVec 16} {pc : Nat} (h : (s.thread t).due = some (code, pc)) :
    s.behindGate t go = s.stopThread t code pc := by
  simp [State.behindGate, hl, h]

/-- R103: a thread that takes part in a window waits. -/
theorem State.behindGate_window (hd : (s.thread t).due = none) (h : (s.thread t).ckpts ≠ []) :
    s.behindGate t go = s.waitIn t .waitGate := by
  simp [State.behindGate, hl, hd, h]

/-- R105: a held fault is raised as the gate opens. -/
theorem State.behindGate_held {code : BitVec 16} {pc : Nat} (hd : (s.thread t).due = none) (hc : (s.thread t).ckpts = [])
    (h : (s.thread t).regs.held = some (code, pc)) : s.behindGate t go = s.stopThread t code pc := by
  simp [State.behindGate, hl, hd, hc, h]

/-- With nothing due, held or open the write is made. -/
theorem State.behindGate_open (hd : (s.thread t).due = none) (hc : (s.thread t).ckpts = [])
    (h : (s.thread t).regs.held = none) : s.behindGate t go = go s := by
  simp [State.behindGate, hl, hd, hc, h]

end

/-! REGISTER_WRITE by the agent that writes -/

section
variable {s : State} (off : BitVec 26) (size : AccessSize) (value : BitVec 64)

theorem exec_registerWrite (agent : Agent) :
    exec (.registerWrite agent off size value) s = execRegisterWrite agent off size value s := rfl

/-- R52, R503: after stage 1 a write by the host comes to its offset. -/
theorem exec_registerWrite_host (h : s.boot.done1 = true) :
    exec (.registerWrite .host off size value) s = .next (s.csrWrite false off.toNat size value.toNat) := by
  simp [exec_registerWrite, execRegisterWrite, State.hostWrite, h]

/-- R48: so does one by the management controller while firmware runs. -/
theorem exec_registerWrite_controller (h : s.fw.run ≠ 0) :
    exec (.registerWrite .controller off size value) s = .next (s.csrWrite true off.toNat size value.toNat) := by
  simp [exec_registerWrite, execRegisterWrite, h]

theorem exec_registerWrite_thread (t : Tid) :
    exec (.registerWrite (.thread t) off size value) s = .next (s.behindGate t.code (fun u =>
      if threadCsrFault off.toNat size = 0 then u.threadCsr off.toNat size value.toNat
      else u.stopThread t.code (BitVec.ofNat 16 (threadCsrFault off.toNat size)) (u.regs t.code).pc)) := rfl

theorem exec_registerWrite_peer : exec (.registerWrite .peer off size value) s = .next s := rfl

end

/-- A write to an offset where a register lies is that register's write. -/
theorem State.csrPut_register {o : Nat} {r : Reg} (h : regAt (o / 8 * 8) = some r) (s : State) (ctl : Bool) (size : AccessSize)
    (v : Nat) : s.csrPut ctl o size v = s.writeReg ctl r ((accessMask o size).getD 0) (accessValue o v) := by
  simp only [State.csrPut, h]

/-- Settles O47: the rule of each agent, and of each kind of offset. -/
theorem registerWrites : Obligations.RegisterWrites := by
  intro off size value s o v f
  refine ⟨fun h1 => ?host, fun hfw => ?controller, fun t => ⟨fun hl => ?dead, fun hl => ⟨fun code pc hd => ?due, fun hd =>
    ⟨fun hc => ?window, fun code pc hc hh => ?held, fun hc hh => ?opened⟩⟩⟩, exec_registerWrite_peer off size value,
    ⟨fun hb => s.csrFault_beyond size hb, fun hb => s.csrFault_reserved size hb,
      fun h1 h2 h3 hn => s.csrFault_unlisted size h1 h2 h3 hn, fun h1 h2 h3 hy => ?listed⟩,
    fun r hr => s.csrPut_register hr false size v⟩
  case host =>
    rw [exec_registerWrite_host off size value h1, s.csrWrite_host]
    exact ⟨fun hf => by rw [if_pos hf],
      fun hf => by rw [if_neg (by omega : f ≠ 0), if_neg (by omega : ¬ f < 0x0A00)],
      fun hf hlt => by rw [if_neg hf, if_pos hlt]⟩
  case controller =>
    rw [exec_registerWrite_controller off size value hfw, s.csrWrite_controller]
    exact ⟨fun hf => by rw [if_pos hf], fun hf => by rw [if_neg hf]⟩
  case dead => rw [exec_registerWrite_thread, State.behindGate_dead _ hl]
  case due => rw [exec_registerWrite_thread, State.behindGate_due _ hl hd]
  case window => rw [exec_registerWrite_thread, State.behindGate_window _ hl hd hc]
  case held => rw [exec_registerWrite_thread, State.behindGate_held _ hl hd hc hh]
  case opened =>
    rw [exec_registerWrite_thread, State.behindGate_open _ hl hd hc hh]
    refine ⟨fun hg hf => ?_, fun hg hf => ?_, fun hg => by rw [if_neg hg]⟩
    · rw [if_pos hg, State.threadCsr, if_pos hf]
    · rw [if_pos hg, State.threadCsr, if_neg hf]
  case listed =>
    have bad := s.csrFault_badAccess size h1 h2 h3 hy
    refine ⟨fun h4 h8 => bad (by simp [h4, h8]), fun h4 ho => bad ?_, fun h8 ho => bad ?_, fun ha =>
      ⟨s.csrFault_refusal size h1 h2 h3 hy ha, s.csrFault_coreMap size h1 h2 h3 hy ha⟩⟩
    · simpa [h4] using ho
    · simpa [h8] using ho

end Sys2Proof.Machine
end

section
/-! The state after reset (R14, R59, R667). -/

namespace Sys2Proof.Machine

theorem State.reset_queueWf : State.reset.QueueWf := by
  intro c hc
  cases hc

/-- No field has been written, so each reads its reset value. -/
theorem State.fld_reset (f : Fld) : State.reset.fld f = State.reset.resetVal f := rfl

theorem State.resetVal_num (s : State) {f : Fld} {n : Nat} (h : f.rst = .num n) : s.resetVal f = n := by
  simp [State.resetVal, h]

/-- R667: fuses and flash have not been read when the module comes up. -/
theorem State.resetVal_unloaded {s : State} {f : Fld} (hs : s.loaded = false) (hb : s.boot.flash = false)
    (h : f.rst = .fuse ∨ f.rst = .flash) : s.resetVal f = 0 := by
  rcases h with h | h <;> simp [State.resetVal, h, hs, hb]

/-- R59: a thread without a program has nothing to issue. -/
theorem State.live_free {s : State} {t : Nat} (h : (s.thread t).st = .free) : s.live t = false := by
  simp [State.live, h]

/-- Settles O58: nothing is stored, waits or runs, and no field has been written. -/
theorem resetMeets : Obligations.ResetMeets := by
  refine ⟨rfl, State.reset_queueWf, rfl, fun f => ⟨fun n h => ?number, fun h => ?unloaded⟩, fun t => State.live_free rfl⟩
  case number => rw [State.fld_reset, State.resetVal_num _ h]
  case unloaded => rw [State.fld_reset, State.resetVal_unloaded rfl rfl h]

end Sys2Proof.Machine
end

section
/-! What a packet does that reads or writes this module's memory, and what an answer does (R40, R48, R282, R285, R286, R316, R318,
R319, R321, R322, R326, R488). -/

namespace Sys2Proof.Machine

/-! From the command to the consumer of the packet -/

section
variable (p : Port) (k : Packet) (s : State)

theorem exec_loadReq : exec (.loadReq p k) s = .next (s.arrive p.val 0x01 k) := rfl
theorem exec_loadResp : exec (.loadResp p k) s = .next (s.arrive p.val 0x02 k) := rfl
theorem exec_store : exec (.store p k) s = .next (s.arrive p.val 0x03 k) := rfl
theorem exec_atomic : exec (.atomic p k) s = .next (s.arrive p.val 0x04 k) := rfl
theorem exec_atomicResp : exec (.atomicResp p k) s = .next (s.arrive p.val 0x05 k) := rfl
theorem exec_status : exec (.status p k) s = .next (s.arrive p.val 0x06 k) := rfl
theorem exec_bulk : exec (.bulk p k) s = .next (s.arrive p.val 0x28 k) := rfl

end

/-- R312, R322: a packet that came whole by a port that carries flits is for this module, and the next of its flow. -/
structure State.Takes (s : State) (p : Nat) (k : Packet) (rf : RecvFlow) (old : Option RecvFlow) : Prop where
  carries : s.portCarries p = true
  sealedTorus : s.isSealed = true
  home : k.dst.toNat = s.moduleId
  next : s.verdict k.src.toNat k.vc.toNat k = .take rf old

/-- R400: only a lap VC has an incomplete lap to discard. -/
theorem State.dropLapEntry_of_not_lap {vc : Nat} (h2 : vc ≠ 2) (h3 : vc ≠ 3) (s : State) (rf : RecvFlow) :
    s.dropLapEntry vc rf = s := by
  rw [State.dropLapEntry, if_neg]
  rintro (h | h)
  · exact h2 h
  · exact h3 h

/-- R322: a packet of a VC without laps, taken by its flow and by its consumer, is counted in its flow. -/
theorem State.Takes.arrive {s u : State} {p typ : Nat} {k : Packet} {rf x : RecvFlow} {old : Option RecvFlow}
    (h : s.Takes p k rf old) (hvc : typeOnVc typ k.vc.toNat = true) (h2 : k.vc.toNat ≠ 2) (h3 : k.vc.toNat ≠ 3)
    (hack : typ ≠ 0x08) (hnack : typ ≠ 0x09) (hnote : typ ≠ 0x11)
    (hc : s.consume p typ k.src.toNat k.vc.toNat { rf with port := p } k.body = .yes x u) :
    s.arrive p typ k = u.commitRecv k.src.toNat k.vc.toNat k x := by
  have gate : ¬ (!(s.portCarries p) ∨ !(typeOnVc typ k.vc.toNat) ∨ (!s.isSealed ∧ k.vc ≠ 0)) := by
    simp [h.carries, hvc, h.sealedTorus]
  rw [State.arrive, if_neg gate, if_neg hnote, if_pos h.home, State.atHome, if_neg hack, if_neg hnack]
  simp only [State.receive, h.next]
  cases old with
  | none => simp only [hc]
  | some o => simp only [s.dropLapEntry_of_not_lap h2 h3, hc]

/-! A request: performed, or kept until it may be -/

/-- R312, R318, R319, R488: a packet that asks this module to read or write its memory, on a VC that allows it. -/
def isRequest (typ vc : Nat) : Prop := vc = 1 ∧ (typ = 0x01 ∨ typ = 0x03 ∨ typ = 0x04) ∨ 12 ≤ vc ∧ typ = 0x28

theorem typeOnVc_request {typ vc : Nat} (h : isRequest typ vc) : typeOnVc typ vc = true := by
  rcases h with ⟨rfl, rfl | rfl | rfl⟩ | ⟨hvc, rfl⟩
  case inr =>
    simp [typeOnVc]
    omega
  all_goals rfl

theorem State.consume_request {typ vc : Nat} (h : isRequest typ vc) (s : State) (p src : Nat) (rf : RecvFlow) (body : List Byte) :
    s.consume p typ src vc rf body = s.takeReq rf { src := src, vc := vc, typ := typ, body := body } := by
  rcases h with ⟨-, rfl | rfl | rfl⟩ | ⟨-, rfl⟩ <;> rfl

/-- R40: a request whose home is up, or lies outside the compute part, is accepted. -/
theorem State.takeReq_up {s : State} {q : PeerReq} (h : s.computeUp = true ∨ inCompute (bodyAddr q.body) = false) (rf : RecvFlow) :
    s.takeReq rf q = .yes rf (s.arriveReq q) := by
  rw [State.takeReq, if_neg]
  rcases h with h | h <;> simp [h]

/-- R40, R322: a request that its flow takes is accepted, and counted in the flow. -/
theorem State.Takes.arrive_request {s : State} {p typ : Nat} {k : Packet} {rf : RecvFlow} {old : Option RecvFlow}
    (h : s.Takes p k rf old) (hr : isRequest typ k.vc.toNat) (up : s.computeUp = true ∨ inCompute (bodyAddr k.body) = false) :
    s.arrive p typ k = (s.arriveReq { src := k.src.toNat, vc := k.vc.toNat, typ := typ, body := k.body }).commitRecv
      k.src.toNat k.vc.toNat k { rf with port := p } := by
  have hc := (s.consume_request hr p k.src.toNat { rf with port := p } k.body).trans (State.takeReq_up up _)
  have hvc := typeOnVc_request hr
  unfold isRequest at hr
  exact h.arrive hvc (by omega) (by omega) (by omega) (by omega) (by omega) hc

section
variable {s : State} {q : PeerReq}

/-- R326: a request whose flow has one waiting waits behind it. -/
theorem State.arriveReq_behind (h : s.serveInbox.flowWaits q.src q.vc = true) :
    s.arriveReq q = { s.serveInbox with inbox := s.serveInbox.inbox ++ [q] } := by
  rw [State.arriveReq, if_pos h]

variable (h : s.serveInbox.flowWaits q.src q.vc = false)
include h

/-- R282: one that meets a held bank or a gliding line waits. -/
theorem State.arriveReq_held (hq : s.serveInbox.serve q = none) :
    s.arriveReq q = { s.serveInbox with inbox := s.serveInbox.inbox ++ [q] } := by
  simp only [State.arriveReq, h, hq, Option.getD_none, ite_self]

theorem State.arriveReq_served {u : State} (hq : s.serveInbox.serve q = some u) : s.arriveReq q = u := by
  simp [State.arriveReq, h, hq]

end

/-! What a request does by its type -/

section
variable {s : State} {q : PeerReq} (up : s.computeUp = true ∨ inCompute (bodyAddr q.body) = false)
include up

/-- R40: the compute part is up, or the request does not need it. -/
theorem State.serve_up : s.serve q =
    if q.typ = 1 then s.serveLoad q.src q.body
    else if q.typ = 4 then s.serveAtomic q.src q.body else s.serveStore q.src q.body := by
  rw [State.serve, if_neg]
  rcases up with h | h <;> simp [h]

theorem State.serve_load (h : q.typ = 1) : s.serve q = s.serveLoad q.src q.body := by
  rw [State.serve_up up, if_pos h]

theorem State.serve_atomic (h : q.typ = 4) : s.serve q = s.serveAtomic q.src q.body := by
  rw [State.serve_up up, if_neg (by omega), if_pos h]

/-- R319: a BULK packet writes as a STORE does. -/
theorem State.serve_store (h1 : q.typ ≠ 1) (h4 : q.typ ≠ 4) : s.serve q = s.serveStore q.src q.body := by
  rw [State.serve_up up, if_neg h1, if_neg h4]

end

/-! A peer reads -/

/-- R282, R488: some line of an access is still gliding, so that a read of it must wait. -/
def State.Glides (s : State) (a n : Nat) : Prop := ∃ l ∈ linesOf a n, (SMap.find s.ltags l).isSome = true

/-- R282, R488: what keeps a read or an atomic waiting. -/
theorem State.keptWaiting_iff (s : State) (a n : Nat) :
    ((linesOf a n).any (fun l => (SMap.find s.ltags l).isSome) = true ∨ s.banksHeld a n = true) ↔
      s.Glides a n ∨ s.banksHeld a n = true := or_congr_left List.any_eq_true

theorem State.not_keptWaiting {s : State} {a n : Nat} (hg : ¬ s.Glides a n) (hb : s.banksHeld a n = false) :
    ¬ ((linesOf a n).any (fun l => (SMap.find s.ltags l).isSome) = true ∨ s.banksHeld a n = true) :=
  mt (s.keptWaiting_iff a n).mp (not_or.mpr ⟨hg, Bool.eq_false_iff.mp hb⟩)

section
variable {s : State} {src : Nat} {body : List Byte} {a n tag : Nat}
variable (ha : bodyAddr body = a) (hn : numAt body 8 2 % 2 ^ 13 = n) (ht : numAt body 12 4 = tag)
include ha hn

include ht in
/-- R48: a bad address is answered with its fault. -/
theorem State.serveLoad_fault (hf : s.addrFault .peer a n ≠ 0) :
    s.serveLoad src body = some (s.sendPkt src 1 0x02 (respBody tag (s.addrFault .peer a n) []) .none) := by
  subst ha hn ht
  rw [State.serveLoad, if_pos hf]

variable (hf : s.addrFault .peer a n = 0)
include hf

theorem State.serveLoad_held (hw : s.Glides a n ∨ s.banksHeld a n = true) : s.serveLoad src body = none := by
  subst ha hn
  rw [State.serveLoad, if_neg (Decidable.not_not.mpr hf), if_pos ((s.keptWaiting_iff _ _).mpr hw)]

variable (hg : ¬ s.Glides a n) (hb : s.banksHeld a n = false)
include hg hb

include ht in
/-- R285: a poisoned line is answered with 0x0511. -/
theorem State.serveLoad_poisoned (hp : (s.touch a n).poisoned a n = true) :
    s.serveLoad src body = some ((s.touch a n).sendPkt src 1 0x02 (respBody tag 0x0511 []) .none) := by
  subst ha hn ht
  rw [State.serveLoad, if_neg (Decidable.not_not.mpr hf), if_neg (State.not_keptWaiting hg hb)]
  exact if_pos hp

include ht in
/-- R318: a good one with the bytes read. -/
theorem State.serveLoad_read (hp : (s.touch a n).poisoned a n = false) :
    s.serveLoad src body =
      some ((s.touch a n).sendPkt src 1 0x02 (respBody tag 0 ((s.touch a n).readBytes a n)) .none) := by
  subst ha hn ht
  rw [State.serveLoad, if_neg (Decidable.not_not.mpr hf), if_neg (State.not_keptWaiting hg hb)]
  exact if_neg (Bool.eq_false_iff.mp hp)

end

/-! A peer writes -/

section
variable {s : State} {src : Nat} {body : List Byte}

theorem State.serveStore_empty (h : body.drop 16 = []) : s.serveStore src body = some s := by
  rw [State.serveStore, if_pos h]

variable {a : Nat} {bs : List Byte} (ha : bodyAddr body = a) (hbs : body.drop 16 = bs) (hne : bs ≠ [])
include ha hbs hne

/-- R48: a bad address is answered with its fault. -/
theorem State.serveStore_fault (hf : s.addrFault .peer a bs.length ≠ 0) : s.serveStore src body =
    some (s.sendPkt src 1 0x06 (respBody (bodyTag body) (s.addrFault .peer a bs.length) []) .none) := by
  subst ha hbs
  rw [State.serveStore, if_neg hne, if_pos hf]

variable (hf : s.addrFault .peer a bs.length = 0)
include hf

theorem State.serveStore_held (hb : s.banksHeld a bs.length = true) : s.serveStore src body = none := by
  subst ha hbs
  rw [State.serveStore, if_neg hne, if_neg (Decidable.not_not.mpr hf), if_pos hb]

/-- R286: a good one writes, and one that met poison is answered with 0x0511. -/
theorem State.serveStore_written (hb : s.banksHeld a bs.length = false) : s.serveStore src body =
    some (if (s.store (cellsFrom a bs)).2 then
      (s.store (cellsFrom a bs)).1.sendPkt src 1 0x06 (respBody (bodyTag body) 0x0511 []) .none
    else (s.store (cellsFrom a bs)).1) := by
  subst ha hbs
  rw [State.serveStore, if_neg hne, if_neg (Decidable.not_not.mpr hf), if_neg (Bool.eq_false_iff.mp hb)]

end

/-! A peer's atomic -/

section
variable {s : State} {src : Nat} {body : List Byte} {h a op sz : Nat}
variable (hh : numAt body 0 16 = h) (ha : bits h 0 46 = a) (ho : bits h 46 4 = op) (hz : bits h 50 3 = sz)
  (hok : atomOk op sz = true) (hal : a % 2 ^ sz = 0) (hf : s.addrFault .peer a (2 ^ sz) = 0)
include hh ha ho hz hok hal hf

theorem State.serveAtomic_held (hw : s.Glides a (2 ^ sz) ∨ s.banksHeld a (2 ^ sz) = true) : s.serveAtomic src body = none := by
  subst hz ho ha hh
  simp only [State.serveAtomic, hok, hal, hf]
  simp only [Bool.not_true, Bool.false_eq_true, if_false, ne_eq, not_true, if_pos ((s.keptWaiting_iff _ _).mpr hw)]

/-- R81, R488: an atomic that its home may do changes the word, and returns the old one when asked. -/
theorem State.serveAtomic_done (hg : ¬ s.Glides a (2 ^ sz)) (hb : s.banksHeld a (2 ^ sz) = false)
    (hp : (s.touch a (2 ^ sz)).poisoned a (2 ^ sz) = false) :
    let r := (s.touch a (2 ^ sz)).atomAt a op sz (numAt body 16 (2 ^ sz)) (numAt body (16 + 2 ^ sz) (2 ^ sz))
    s.serveAtomic src body = some (if bitAt h 53 then
      r.2.sendPkt src 1 0x05 (respBody (bits h 96 32) 0 (leBytes (2 ^ sz) r.1)) .none else r.2) := by
  subst hz ho ha hh
  simp only [State.serveAtomic, hok, hal, hf]
  simp only [Bool.not_true, Bool.false_eq_true, if_false, ne_eq, not_true, if_neg (State.not_keptWaiting hg hb), hp, if_true]

end

/-! An answer -/

/-- R316: a tag for which someone may wait is answered. -/
theorem State.takeAnswer_answerable {s : State} {body : List Byte} (h : s.answerable (numAt body 0 4) = true) (rf : RecvFlow) :
    s.takeAnswer rf body =
      .yes rf (s.answerArrives (numAt body 0 4) (numAt body 4 2) (body.drop 16) (rf.landed - 16)) := by
  simp [State.takeAnswer, h]

/-- R312, R318: a packet that answers a request of this module, on the VC of answers. -/
def isAnswer (typ vc : Nat) : Prop := vc = 1 ∧ (typ = 0x02 ∨ typ = 0x05 ∨ typ = 0x06)

/-- R322: an answer that its flow and its consumer take is counted in the flow. -/
theorem State.Takes.arrive_answer {s u : State} {p typ : Nat} {k : Packet} {rf x : RecvFlow} {old : Option RecvFlow}
    (h : s.Takes p k rf old) (ha : isAnswer typ k.vc.toNat)
    (hc : s.consume p typ k.src.toNat k.vc.toNat { rf with port := p } k.body = .yes x u) :
    s.arrive p typ k = u.commitRecv k.src.toNat k.vc.toNat k x := by
  obtain ⟨h1, ht⟩ := ha
  have hvc : typeOnVc typ k.vc.toNat = true := by rcases ht with rfl | rfl | rfl <;> simp [h1, typeOnVc]
  exact h.arrive hvc (by omega) (by omega) (by omega) (by omega) (by omega) hc

/-- R318: a STATUS for a tag for which someone may wait reaches it. -/
theorem State.consume_status {s : State} {body : List Byte} (h : s.answerable (numAt body 0 4) = true) (p src vc : Nat)
    (rf : RecvFlow) : s.consume p 0x06 src vc rf body = .yes rf (s.statusTag (numAt body 0 4) (numAt body 4 2)) := by
  simp [State.consume, h]

/-- Settles O39: a request comes to what its home does of it once the waiting ones are served, an answer to the one who waits, and each is
counted in its flow. -/
theorem packetsOfMemory : Obligations.PacketsOfMemory := by
  intro p k s rf old vc src x a bs done b up waits stores hp hs hd hv
  have takes : s.Takes p.val k rf old := ⟨hp, hs, hd, hv⟩
  have upNow (h : up) : s.computeUp = true ∨ inCompute a = false := h.imp_left And.left
  have upThen (h : up) : b.computeUp = true ∨ inCompute a = false := h.imp_left And.right
  have arrives {typ : Nat} (hr : isRequest typ vc) (h : up) :
      s.arrive p.val typ k = done (s.arriveReq { src := src, vc := vc, typ := typ, body := k.body }) :=
    takes.arrive_request hr (upNow h)
  have stored {j : Instr} {typ : Nat} (h : up) (h1 : typ ≠ 1) (h4 : typ ≠ 4)
      (hj : exec j s = .next (done (s.arriveReq { src := src, vc := vc, typ := typ, body := k.body }))) : stores j typ := by
    have serves := State.serve_store (q := { src := src, vc := vc, typ := typ, body := k.body }) (upThen h) h1 h4
    refine ⟨fun hw => ?behind, fun hw => ⟨fun he => ?empty, fun hne hf => ?fault, fun hne hf hb => ?held,
      fun hne hf hb hr => ?written, fun hne hf hb hr => ?poisoned⟩⟩
    case behind => rw [hj, State.arriveReq_behind hw]
    case empty => rw [hj, State.arriveReq_served hw (serves.trans (State.serveStore_empty he))]
    case fault => rw [hj, State.arriveReq_served hw (serves.trans (State.serveStore_fault rfl rfl hne hf))]
    case held => rw [hj, State.arriveReq_held hw (serves.trans (State.serveStore_held rfl rfl hne hf hb))]
    case written =>
      rw [hj, State.arriveReq_served hw (serves.trans (State.serveStore_written rfl rfl hne hf hb)), if_neg (Bool.eq_false_iff.mp hr)]
    case poisoned => rw [hj, State.arriveReq_served hw (serves.trans (State.serveStore_written rfl rfl hne hf hb)), if_pos hr]
  refine ⟨fun h1 => ⟨fun h => ?store, ?load, ?atomic, ?answer⟩, fun h12 h => ?bulk⟩
  case store =>
    exact stored h (by decide) (by decide) (by rw [exec_store, arrives (.inl ⟨h1, by simp⟩) h])
  case bulk =>
    exact stored h (by decide) (by decide) (by rw [exec_bulk, arrives (.inr ⟨h12, rfl⟩) h])
  case load =>
    intro n tag glides h
    have serves := State.serve_load (q := { src := src, vc := vc, typ := 0x01, body := k.body }) (upThen h) rfl
    refine ⟨fun hw => ?behind, fun hw => ⟨fun hf => ?fault, fun hf hg => ?held, fun hf hg hb =>
      ⟨fun hq => ?poisoned, fun hq => ?read⟩⟩⟩ <;>
      rw [exec_loadReq, arrives (.inl ⟨h1, by simp⟩) h]
    case behind => rw [State.arriveReq_behind hw]
    case fault => rw [State.arriveReq_served hw (serves.trans (State.serveLoad_fault rfl rfl rfl hf))]
    case held => rw [State.arriveReq_held hw (serves.trans (State.serveLoad_held rfl rfl hf hg))]
    case poisoned => rw [State.arriveReq_served hw (serves.trans (State.serveLoad_poisoned rfl rfl rfl hf hg hb hq))]
    case read => rw [State.arriveReq_served hw (serves.trans (State.serveLoad_read rfl rfl rfl hf hg hb hq))]
  case atomic =>
    intro h at0 op sz n glides hup hw hok hal hf
    have serves := State.serve_atomic (q := { src := src, vc := vc, typ := 0x04, body := k.body }) (upThen hup) rfl
    refine ⟨fun hg => ?held, fun hg hb hq => ⟨fun hret => ?returned, fun hret => ?changed⟩⟩ <;>
      rw [exec_atomic, arrives (.inl ⟨h1, by simp⟩) hup]
    case held => rw [State.arriveReq_held hw (serves.trans (State.serveAtomic_held rfl rfl rfl rfl hok hal hf hg))]
    case returned =>
      rw [State.arriveReq_served hw (serves.trans (State.serveAtomic_done rfl rfl rfl rfl hok hal hf hg hb hq)), if_pos hret]
    case changed =>
      rw [State.arriveReq_served hw (serves.trans (State.serveAtomic_done rfl rfl rfl rfl hok hal hf hg hb hq)),
        if_neg (Bool.eq_false_iff.mp hret)]
  case answer =>
    intro tag status got hans
    have taken := State.takeAnswer_answerable hans x
    have arrived : s.answerArrives tag status bs (x.landed - 16) = got := rfl
    refine ⟨?load, ?atomic, ?status⟩
    case load => rw [exec_loadResp, takes.arrive_answer (typ := 0x02) ⟨h1, by simp⟩ taken, arrived]
    case atomic => rw [exec_atomicResp, takes.arrive_answer (typ := 0x05) ⟨h1, by simp⟩ taken, arrived]
    case status => rw [exec_status, takes.arrive_answer ⟨h1, by simp⟩ (State.consume_status hans p.val src vc x)]

end Sys2Proof.Machine
end

section
/-! The CXL ports and what reaches the module through them beside streams and BAR2 (R46, R48, R285, R350, R498 to R506, R527, R528,
R583). -/

namespace Sys2Proof.Machine

/-! The link of a port -/

/-- R505: BAR4 has the size that BAR4_LOG named at the sizing. -/
@[simp] theorem State.bar4Log_sizeBars (s : State) (q : Nat) : (s.sizeBars q).bar4Log q = s.fld (Fd.DVSEC_BAR4_BAR4_LOG q) :=
  SMap.getD_set_self _ _ _ _

@[simp] theorem State.msixOf_setMsix (s : State) (q : Nat) (c : MsixCtl) : (s.setMsix q c).msixOf q = c :=
  SMap.getD_set_self _ _ _ _

/-- R498: a port that is down comes up, from stage 0, in a mode, speed and width. -/
theorem exec_cxlPortTrain {q : CxlPort} {mode speed width : Fin 4} {s : State} (msix : MsixCtl) (h0 : s.boot.done0 = true)
    (hd : s.fld (Fd.HST_PORT_STAT_MODE q.val) = 0) (hm : mode ≠ 0) (hs : speed ≠ 0) (hw : width ≠ 0) :
    let u := ((s.setFld (Fd.HST_PORT_STAT_MODE q.val) mode.val).setFld (Fd.HST_PORT_STAT_SPEED q.val) speed.val).setFld
      (Fd.HST_PORT_STAT_WIDTH q.val) width.val
    exec (.cxlPortTrain q mode speed width msix) s = .next ((((u.setFld Fd.PWR_CARRIER_CXL_PRES
      (setBits (u.fld Fd.PWR_CARRIER_CXL_PRES) q.val 1 1)).sizeBars q.val).setMsix q.val msix).flushVecs q.val) := by
  have ready : ¬ (!s.boot.done0 ∨ s.fld (Fd.HST_PORT_STAT_MODE q.val) ≠ 0 ∨ mode = 0 ∨ speed = 0 ∨ width = 0) := by
    simp [h0, hd, hm, hs, hw]
  exact congrArg Host.Outcome.next (if_neg ready)

theorem exec_cxlPortDown (q : CxlPort) (s : State) : exec (.cxlPortDown q) s = .next (s.cxlDown q.val) := rfl

/-- R583: what a port reset clears once the link is down. -/
theorem exec_portReset (q : CxlPort) (s : State) :
    let d := s.cxlDown q.val
    exec (.portReset q) s = .next { d with
      msix := d.msix.filter (fun e => e.1 / 2048 ≠ q.val), msixPend := d.msixPend.filter (fun e => e.1 / 2048 ≠ q.val),
      msixCtl := SMap.erase d.msixCtl q.val,
      trust := { d.trust with
        vers := SMap.erase d.trust.vers q.val, phase := SMap.erase d.trust.phase q.val,
        sessions := d.trust.sessions.filter (fun e => e.2.transport ≠ q.val),
        stalled := d.trust.stalled.filter (fun e => e.2.transport.val ≠ q.val) } } := rfl

/-! The DVSEC and its windows -/

section
variable {q off : Nat} {i : Fin 16} (s : State) (mask v : Nat)

/-- R505, R506: both registers of a window take a write unless their window is locked. -/
theorem State.writeDvsec_window {r : Nat} (hr : r = 0 ∨ r = 8) (h : off = 0x20 + 0x18 * i.val + r) : s.writeDvsec q off mask v =
    if s.isSet (Fd.DVSEC_WIN_LOCK i.val) then s.logRec 0x0A14 1 q
    else s.writeFields (if r = 0 then .DVSEC_WIN i.val else .DVSEC_WIN_HPA i.val) mask v := by
  have hi := i.isLt
  have index : (off - 0x20) / 0x18 = i.val := by omega
  have place : (off - 0x20) % 0x18 = r := by omega
  rw [State.writeDvsec, if_neg (by omega), if_neg (by omega), if_neg (by omega), if_pos (by omega)]
  simp only [index, place]
  rw [if_neg (by omega)]

theorem State.writeDvsec_win (h : off = 0x20 + 0x18 * i.val) : s.writeDvsec q off mask v =
    if s.isSet (Fd.DVSEC_WIN_LOCK i.val) then s.logRec 0x0A14 1 q else s.writeFields (.DVSEC_WIN i.val) mask v :=
  s.writeDvsec_window mask v (.inl rfl) h

theorem State.writeDvsec_hpa (h : off = 0x28 + 0x18 * i.val) : s.writeDvsec q off mask v =
    if s.isSet (Fd.DVSEC_WIN_LOCK i.val) then s.logRec 0x0A14 1 q else s.writeFields (.DVSEC_WIN_HPA i.val) mask v :=
  s.writeDvsec_window mask v (.inr rfl) (by omega)

end

/-- A single bit lies in no field below it. -/
theorem bits_two_pow_above {k lo len : Nat} (h : lo + len ≤ k) : bits (2 ^ k) lo len = 0 := by
  rw [bits, Nat.pow_div (by omega) (by decide)]
  exact Nat.mod_eq_zero_of_dvd (Nat.pow_dvd_pow 2 (by omega))

theorem bits_two_pow_self (k : Nat) : bits (2 ^ k) k 1 = 1 := by
  simp [bits, Nat.div_self (Nat.two_pow_pos k)]

/-- R13: a field that the mask does not name stays. -/
theorem State.storeFld_unnamed {f : Fld} {mask : Nat} (h : f.acc = .rw) (hb : bits mask f.lo f.len = 0) (s : State) (v : Nat) :
    s.storeFld f mask v = s := by
  rw [s.storeFld_rw mask v h, if_pos hb]

/-- R12: a one-bit W1S field that is written 1 is set. -/
theorem State.storeFld_sets {f : Fld} {mask v : Nat} (h : f.acc = .w1s) (hl : f.len = 1)
    (hb : bits v f.lo f.len &&& bits mask f.lo f.len = 1) (s : State) : s.storeFld f mask v = s.setFld f 1 := by
  have odd : (s.fld f ||| 1) % 2 = 1 := by simp [Nat.or_mod_two_eq_one]
  rw [s.storeFld_w1s mask v h, hb, if_neg (by decide), State.setFld, hl, Nat.pow_one, odd]
  simp [State.setFld, hl]

/-- R12: where a register has no LK field, a write stores field by field and records nothing. -/
theorem State.writeFields_noLk {r : Reg} (h : ∀ f ∈ r.fields, f.acc ≠ .lk) (s : State) (mask v : Nat) :
    s.writeFields r mask v = r.fields.foldl (fun st f => st.storeFld f mask v) s := by
  rw [State.writeFields, if_neg]
  rw [List.any_eq_true]
  rintro ⟨f, hf, hlk⟩
  simp [h f hf] at hlk

/-- R505: a write of bit 63 alone reaches LOCK alone. -/
theorem State.writeFields_lock (s : State) (i : Nat) :
    s.writeFields (.DVSEC_WIN i) (2 ^ 63) (2 ^ 63) = s.setFld (Fd.DVSEC_WIN_LOCK i) 1 := by
  have noLk : ∀ f ∈ (Reg.DVSEC_WIN i).fields, f.acc ≠ .lk := by
    simp [Reg.fields, Fd.DVSEC_WIN_LOCAL, Fd.DVSEC_WIN_SIZE_LOG, Fd.DVSEC_WIN_PORT, Fd.DVSEC_WIN_RO, Fd.DVSEC_WIN_LOCK]
  have below {f : Fld} (hf : f.acc = .rw) (hb : f.lo + f.len ≤ 63) : s.storeFld f (2 ^ 63) (2 ^ 63) = s :=
    State.storeFld_unnamed hf (bits_two_pow_above hb) s _
  have bit : bits (2 ^ 63) (Fd.DVSEC_WIN_LOCK i).lo (Fd.DVSEC_WIN_LOCK i).len = 1 := bits_two_pow_self 63
  rw [State.writeFields_noLk noLk]
  simp only [Reg.fields, List.foldl_cons, List.foldl_nil]
  rw [below (f := Fd.DVSEC_WIN_LOCAL i) rfl (by simp [Fd.DVSEC_WIN_LOCAL]),
    below (f := Fd.DVSEC_WIN_SIZE_LOG i) rfl (by simp [Fd.DVSEC_WIN_SIZE_LOG]),
    below (f := Fd.DVSEC_WIN_PORT i) rfl (by simp [Fd.DVSEC_WIN_PORT]),
    below (f := Fd.DVSEC_WIN_RO i) rfl (by simp [Fd.DVSEC_WIN_RO]),
    State.storeFld_sets rfl rfl (by rw [bit]; rfl)]

section
variable {q : CxlPort} {s : State} (ho : s.cxlOpen q.val = true)
include ho

theorem State.not_cxlClosed : ¬ (!s.cxlOpen q.val) = true := by
  simp [ho]

theorem exec_windowLock (i : Fin 16) :
    exec (.windowLock q i) s = .next (s.writeDvsec q.val (0x20 + 0x18 * i.val) (2 ^ 63) (2 ^ 63)) :=
  congrArg Host.Outcome.next (if_pos ho)

/-- R505: a write at a multiple of 8 is one of a whole register. -/
theorem exec_dvsecWrite {off : BitVec 12} (h8 : off.toNat % 8 = 0) (value : BitVec 64) :
    exec (.dvsecWrite q off value) s = .next (s.writeDvsec q.val off.toNat fullMask value.toNat) :=
  congrArg Host.Outcome.next ((if_neg (State.not_cxlClosed ho)).trans (if_pos h8))

/-! The mailbox -/

/-- R528: Discovery names a protocol and the index of the next, 0 after the last. -/
theorem exec_doeDiscovery_listed {index : BitVec 8} {p : Nat × Nat} (hp : doeProtocols[index.toNat]? = some p) :
    exec (.doeDiscovery q index) s = .next { s with out := s.out ++ [.reply q.val (doeObject 1 0 (leBytes 4
      (p.1 + p.2 * 2 ^ 16 + (if index = 3 then 0 else index.toNat + 1) * 2 ^ 24)))] } := by
  have last : index.toNat = 3 ↔ index = 3 := BitVec.toNat_inj (y := 3)
  refine congrArg Host.Outcome.next ((if_neg (State.not_cxlClosed ho)).trans ?_)
  simp only [hp, last]

theorem exec_doeDiscovery_unlisted {index : BitVec 8} (hp : doeProtocols[index.toNat]? = none) :
    exec (.doeDiscovery q index) s =
      .next { s with out := s.out ++ [.reply q.val (doeObject 1 0 (leBytes 4 0xFFFF))] } := by
  refine congrArg Host.Outcome.next ((if_neg (State.not_cxlClosed ho)).trans ?_)
  simp only [hp]

/-- R528: CXL Table Access gives the entry of a handle behind the handle of the next. -/
theorem exec_cxlTableAccess (handle : BitVec 16) : ∃ b,
    exec (.cxlTableAccess q handle) s = .next { s with out := s.out ++ [.reply q.val (doeObject 0x1E98 2 b)] } ∧
    ∀ e, (s.cdat q.val)[handle.toNat]? = some e →
      b = leBytes 4 ((if handle = 1 then 0xFFFF else handle.toNat + 1) * 2 ^ 16) ++ e := by
  have last : handle.toNat = 1 ↔ handle = 1 := BitVec.toNat_inj (y := 1)
  refine ⟨_, congrArg Host.Outcome.next (if_neg (State.not_cxlClosed ho)), fun e he => ?_⟩
  simp only [he, last]

end

/-! BAR4 -/

section
variable {q : CxlPort} {a : Bar4Access} {s : State} {l : Nat}
variable (hup : s.fld (Fd.HST_PORT_STAT_MODE q.val) ≠ 0) (hne : a.bytes ≠ [])
  (hin : a.off + a.bytes.length ≤ 2 ^ s.bar4Log q.val) (hl : s.fld (Fd.DVSEC_FAR_FAR_OFS q.val) * 2 ^ 30 + a.off = l)
include hup hne hin hl

/-- R501: an access within BAR4's size, through a port that is up. -/
theorem exec_hostBar4Access : exec (.hostBar4Access q a) s = .next (
    let f := s.bar4Fault a.write l a.bytes.length
    if f ≠ 0 then
      if a.write then s.log f
      else { s.log f with out := (s.log f).out ++ [.hostData q.val (List.replicate a.bytes.length 0xFF) false] }
    else if s.banksHeld l a.bytes.length then s
    else if a.write then
      if (s.store (cellsFrom l a.bytes)).2 then (s.store (cellsFrom l a.bytes)).1.log 0x0511 else (s.store (cellsFrom l a.bytes)).1
    else
      let t := s.touch l a.bytes.length
      { t with out := t.out ++ [.hostData q.val (t.readBytes l a.bytes.length) (t.poisoned l a.bytes.length)] }) := by
  subst hl
  have within : ¬ (s.fld (Fd.HST_PORT_STAT_MODE q.val) = 0 ∨ a.bytes.length = 0 ∨
      2 ^ s.bar4Log q.val < a.off + a.bytes.length) := by
    simp only [List.length_eq_zero_iff, not_or, Nat.not_lt]
    exact ⟨hup, hne, hin⟩
  exact congrArg Host.Outcome.next (if_neg within)

section
variable (hf : s.bar4Fault a.write l a.bytes.length ≠ 0)
include hf

/-- R48: a write that faults is discarded, and recorded. -/
theorem exec_hostBar4Access_writeFault (hw : a.write = true) :
    exec (.hostBar4Access q a) s = .next (s.log (s.bar4Fault a.write l a.bytes.length)) := by
  rw [exec_hostBar4Access hup hne hin hl]
  simp only [if_pos hf, if_pos hw]

/-- R48: a read that faults returns all ones, and is recorded. -/
theorem exec_hostBar4Access_readFault (hw : a.write = false) :
    let u := s.log (s.bar4Fault a.write l a.bytes.length)
    exec (.hostBar4Access q a) s =
      .next { u with out := u.out ++ [.hostData q.val (List.replicate a.bytes.length 0xFF) false] } := by
  rw [exec_hostBar4Access hup hne hin hl]
  simp only [if_pos hf, if_neg (Bool.eq_false_iff.mp hw)]

end

variable (hf : s.bar4Fault a.write l a.bytes.length = 0) (hb : s.banksHeld l a.bytes.length = false)
include hf hb

/-- R286, R501: a good write reaches far memory, or is discarded over poison. -/
theorem exec_hostBar4Access_write (hw : a.write = true) :
    let r := s.store (cellsFrom l a.bytes)
    exec (.hostBar4Access q a) s = .next (if r.2 then r.1.log 0x0511 else r.1) := by
  rw [exec_hostBar4Access hup hne hin hl]
  simp only [if_neg (Decidable.not_not.mpr hf), if_neg (Bool.eq_false_iff.mp hb), if_pos hw]

/-- R285, R501: a good read brings the bytes, and whether they are poisoned. -/
theorem exec_hostBar4Access_read (hw : a.write = false) :
    let t := s.touch l a.bytes.length
    exec (.hostBar4Access q a) s = .next { t with
      out := t.out ++ [.hostData q.val (t.readBytes l a.bytes.length) (t.poisoned l a.bytes.length)] } := by
  rw [exec_hostBar4Access hup hne hin hl]
  simp only [if_neg (Decidable.not_not.mpr hf), if_neg (Bool.eq_false_iff.mp hb), if_neg (Bool.eq_false_iff.mp hw)]

end

/-- R350: a write to the protected range, while wheels are enabled. -/
theorem State.bar4Fault_protected {s : State} {a n : Nat} (hk : s.isSet Fd.KV_CTL_EN = true) (hst : 2 ≤ s.fld Fd.PWR_STAGE_STAGE)
    (h0 : regionOf a = .far) (h1 : regionOf (a + n - 1) = .far) (hf : s.addrFault .host a n = 0) (hm : s.meetsProt a n = true) :
    s.bar4Fault true a n = 0x0709 := by
  have far : ¬ (s.fld Fd.PWR_STAGE_STAGE < 2 ∨ regionOf a ≠ .far ∨ regionOf (a + n - 1) ≠ .far) := by
    simp only [h0, h1, ne_eq, not_true, or_false]
    omega
  rw [State.bar4Fault, if_neg far]
  simp [hf, hk, hm]

/-! Configuration space -/

/-- R502: what function 0 shows, where it shows anything. -/
theorem State.configIdentity_shows {s : State} {q : Nat} {c : ConfigIdentity} (h : s.configIdentity q = some c) :
    c.device = 0x3624 ∧ c.classCode = 0x120000 ∧ c.subsystem = s.subsystemId := by
  rw [State.configIdentity] at h
  split at h
  case isTrue =>
    cases h
    exact ⟨rfl, rfl, rfl⟩
  case isFalse => cases h

/-! IDE keys -/

section
variable {q : CxlPort} {m : IdeKm} {s : State} {x : Session}
variable (hup : s.fld (Fd.HST_PORT_STAT_MODE q.val) ≠ 0) (hx : SMap.find s.trust.sessions m.session.val = some x)
  (hl : x.live = true)
include hup hx hl

theorem exec_ideKm_query (h : m.object = 0) : exec (.ideKm q m) s = .next (s.ideReply q.val m 1 0) := by
  refine congrArg Host.Outcome.next ((if_neg ?_).trans ?_)
  · simp [hup, hx, hl]
  · rw [h]; rfl

/-- R527: a key is programmed where it is one of 256 bits and a stream of its kind may be. -/
theorem exec_ideKm_program (h : m.object = 2) : exec (.ideKm q m) s = .next (
    if m.key.length = 32 ∧ s.ideRoom q.val m = true then (s.setIde q.val m m.key false).ideReply q.val m 3 0
    else s.ideReply q.val m 3 4) := by
  refine congrArg Host.Outcome.next ((if_neg ?_).trans ?_)
  · simp [hup, hx, hl]
  · rw [h]; rfl

section
variable {y : List Byte × Bool} (hy : SMap.find s.trust.ide (ideSlot q.val m) = some y) (hr : s.ideRoom q.val m = true)
include hy hr

/-- R527: a key set starts. -/
theorem exec_ideKm_go (h : m.object = 4) :
    exec (.ideKm q m) s = .next ((s.setIde q.val m y.1 true).ideReply q.val m 6 0) := by
  refine congrArg Host.Outcome.next ((if_neg ?_).trans ?_)
  · simp [hup, hx, hl]
  · rw [h]
    simp [hy, hr]

/-- R527: a key set stops. -/
theorem exec_ideKm_stop (h : m.object = 5) :
    exec (.ideKm q m) s = .next ((s.setIde q.val m y.1 false).ideReply q.val m 6 0) := by
  refine congrArg Host.Outcome.next ((if_neg ?_).trans ?_)
  · simp [hup, hx, hl]
  · rw [h]
    simp [hy, hr]

end

end

/-- R527: how many streams of its kind a new stream joins. -/
theorem State.ideRoom_new {s : State} {q : Nat} {m : IdeKm} (h : SMap.find s.trust.ideKinds (q * 2 ^ 8 + m.streamId.toNat) = none) :
    s.ideRoom q m = true ↔ (s.trust.ideKinds.filter (fun e => decide (e.1 / 2 ^ 8 = q) && sameIde e.2 m.kind)).length
      < ideLimit (s.fld (Fd.HST_PORT_STAT_MODE q)) m.kind := by
  simp only [State.ideRoom, h, decide_eq_true_eq]

theorem ideLimit_link {mode : Nat} (h : mode ≠ 0) : ideLimit mode .link = 1 := if_neg h

theorem ideLimit_selective {mode : Nat} (h : mode ≠ 0) : ideLimit mode .selective = 4 := if_neg h

/-- R527: one stream of CXL.cachemem, in mode 1 alone. -/
theorem lt_ideLimit_cachemem {n mode : Nat} (md : Bool) : n < ideLimit mode (.cachemem md) ↔ mode = 1 ∧ n < 1 := by
  rw [ideLimit]
  split
  case isTrue h => simp [h]
  case isFalse h => simp [h]

/-- Settles O49: one lemma for each command of a port, with the rule of each case of it. -/
theorem hostPorts : Obligations.HostPorts := by
  refine ⟨fun q s => ⟨fun mode speed width msix h0 hd hm hs hw => ?train, ⟨exec_cxlPortDown q s, exec_portReset q s⟩,
    fun ho => ⟨fun i => ?windows, fun value => ⟨?bar0, ?bar4, ?far⟩, fun index => ?discovery, fun handle =>
      exec_cxlTableAccess ho handle⟩, fun a hup hne hin => ?access, fun c hc => ?identity⟩, fun q m s x => ?ide⟩
  case train =>
    exact ⟨exec_cxlPortTrain msix h0 hd hm hs hw, fun v => ⟨v.bar4Log_sizeBars _, v.msixOf_setMsix _ _⟩⟩
  case windows =>
    refine ⟨fun hk => ?lockedLock, fun hk => ?openLock, fun off value => ?write⟩
    case lockedLock => rw [exec_windowLock ho, s.writeDvsec_win _ _ rfl, if_pos hk]
    case openLock => rw [exec_windowLock ho, s.writeDvsec_win _ _ rfl, if_neg (Bool.eq_false_iff.mp hk), s.writeFields_lock]
    case write =>
      have hi := i.isLt
      refine ⟨fun hw hk => ?locked, fun hw hk => ?win, fun hw hk => ?hpa⟩
      case locked =>
        rw [exec_dvsecWrite ho (by omega)]
        rcases hw with hw | hw
        · rw [s.writeDvsec_win _ _ hw, if_pos hk]
        · rw [s.writeDvsec_hpa _ _ hw, if_pos hk]
      case win => rw [exec_dvsecWrite ho (by omega), s.writeDvsec_win _ _ hw, if_neg (Bool.eq_false_iff.mp hk)]
      case hpa => rw [exec_dvsecWrite ho (by omega), s.writeDvsec_hpa _ _ hw, if_neg (Bool.eq_false_iff.mp hk)]
  case bar0 => exact exec_dvsecWrite ho (off := 0x08) rfl value
  case bar4 => exact exec_dvsecWrite ho (off := 0x10) rfl value
  case far => exact exec_dvsecWrite ho (off := 0x18) rfl value
  case discovery =>
    cases hp : doeProtocols[index.toNat]? with
    | some p => exact exec_doeDiscovery_listed ho hp
    | none => exact exec_doeDiscovery_unlisted ho hp
  case access =>
    refine ⟨exec_hostBar4Access_writeFault hup hne hin rfl, exec_hostBar4Access_readFault hup hne hin rfl,
      exec_hostBar4Access_write hup hne hin rfl, exec_hostBar4Access_read hup hne hin rfl, fun hk hw hst h0 h1 hf hm => ?_⟩
    rw [hw]
    exact State.bar4Fault_protected hk hst h0 h1 hf hm
  case identity =>
    obtain ⟨device, classCode, subsystem⟩ := State.configIdentity_shows hc
    refine ⟨device, classCode, fun hv => ?_, fun hv => ?_, fun hv => ?_⟩ <;>
      simp only [subsystem, State.subsystemId, hv]
  case ide =>
    intro n hup hx hl
    refine ⟨exec_ideKm_query hup hx hl, fun ho hk hr => ?programmed, fun ho hk => ?refused, fun y hy hr =>
      ⟨exec_ideKm_go hup hx hl hy hr, exec_ideKm_stop hup hx hl hy hr⟩, ?room⟩
    case programmed => rw [exec_ideKm_program hup hx hl ho, if_pos ⟨hk, hr⟩]
    case refused =>
      rw [exec_ideKm_program hup hx hl ho, if_neg]
      rintro ⟨hlen, hr⟩
      exact hk.elim (fun h => h hlen) (fun h => Bool.eq_false_iff.mp h hr)
    case room =>
      intro mine hn
      have room : s.ideRoom n m = true ↔ mine.length < ideLimit (s.fld (Fd.HST_PORT_STAT_MODE n)) m.kind :=
        State.ideRoom_new hn
      refine ⟨fun hk => ?link, fun hk => ?selective, fun md hk => ?cachemem⟩ <;> rw [room, hk]
      case link => rw [ideLimit_link hup]
      case selective => rw [ideLimit_selective hup]
      case cachemem => exact lt_ideLimit_cachemem md

end Sys2Proof.Machine
end

section
/-! Who holds the lease of the array next (R136, R138). -/

namespace Sys2Proof.Machine

/-- R138: how many threads come between a thread and another after it, counting modulo 128. -/
def turnsAfter (th n : Nat) : Nat := (n + 127 - th) % 128

theorem turnsAfter_turn {th i : Nat} (ht : th < 128) (hi : i < 128) : turnsAfter th ((th + 1 + i) % 128) = i := by
  unfold turnsAfter
  omega

theorem turn_turnsAfter {th n : Nat} (ht : th < 128) (hn : n < 128) : (th + 1 + turnsAfter th n) % 128 = n := by
  unfold turnsAfter
  omega

theorem turnsAfter_lt (th n : Nat) : turnsAfter th n < 128 := Nat.mod_lt _ (by decide)

namespace MatArray

variable {a : MatArray} {th : Nat}

/-- Giving up the lease moves the lease and the list of the waiting alone. -/
theorem release_frame (a : MatArray) (th : Nat) :
    ∃ l k ws, a.release th = { a with lease := l, last := k, wait := ws } := by
  unfold release
  split
  case isFalse => exact ⟨_, _, _, rfl⟩
  case isTrue => split <;> exact ⟨_, _, _, rfl⟩

/-- A thread that does not hold the lease waits for it no longer. -/
theorem release_waiter (h : a.lease ≠ some th) : a.release th = { a with wait := a.wait.filter (· ≠ th) } := if_neg h

theorem release_unwanted (h : a.lease = some th) (hw : a.wait = []) : a.release th = { a with lease := none, last := th } := by
  have hf : (List.range 128).find? (fun i => a.wait.contains ((th + 1 + i) % 128)) = none := by simp [hw]
  simp only [release, h, hf, if_true]

/-- R138: the search that starts after the holder finds the waiting thread that comes soonest. -/
theorem release_wanted (ht : th < 128) (h : a.lease = some th) (hw : ∀ n ∈ a.wait, n < 128) (hne : a.wait ≠ []) :
    ∃ n ∈ a.wait, (∀ k ∈ a.wait, turnsAfter th n ≤ turnsAfter th k) ∧
      a.release th = { a with lease := some n, last := th, wait := a.wait.filter (· ≠ n) } := by
  have turn : ∀ k ∈ a.wait, a.wait.contains ((th + 1 + turnsAfter th k) % 128) = true := fun k hk => by
    rwa [turn_turnsAfter ht (hw k hk), List.contains_iff_mem]
  cases hf : (List.range 128).find? (fun i => a.wait.contains ((th + 1 + i) % 128)) with
  | none =>
    obtain ⟨k, hk⟩ := List.exists_mem_of_ne_nil _ hne
    rw [List.find?_eq_none] at hf
    exact absurd (turn k hk) (hf _ (List.mem_range.mpr (turnsAfter_lt th k)))
  | some i =>
    obtain ⟨hin, hi, hleast⟩ := List.find?_range_eq_some.mp hf
    refine ⟨(th + 1 + i) % 128, List.contains_iff_mem.mp hin, fun k hk => ?soonest, by simp only [release, h, hf, if_true]⟩
    rw [turnsAfter_turn ht (List.mem_range.mp hi)]
    refine Nat.not_lt.mp fun hlt => ?_
    have passed := hleast _ hlt
    rw [turn k hk] at passed
    cases passed

end MatArray

/-- Settles O24: the frame of a release, and who holds the lease after it in each case. -/
theorem leaseRotates : Obligations.LeaseRotates := by
  intro a th ht u far
  have frame : u.q = a.q ∧ u.front = a.front ∧ u.shadow = a.shadow ∧ u.latest = a.latest ∧ u.ramp = a.ramp ∧ u.cols = a.cols ∧
      u.hold = a.hold := by
    obtain ⟨l, k, ws, hu⟩ := a.release_frame th
    simp [u, hu]
  obtain ⟨q, front, shadow, latest, ramp, cols, hold⟩ := frame
  refine ⟨q, front, shadow, latest, ramp, cols, hold, fun h => ?waiter, fun h hw => ⟨fun hnone => ?unwanted, fun hne => ?wanted⟩⟩
  case waiter => simp [u, MatArray.release_waiter h]
  case unwanted => simp [u, MatArray.release_unwanted h hnone]
  case wanted =>
    obtain ⟨n, hn, hleast, hu⟩ := MatArray.release_wanted ht h hw hne
    exact ⟨n, by simp [u, hu], hn, hleast, by simp [u, hu]⟩

end Sys2Proof.Machine
end

section
/-! The tail of a phase-time ring as a core changes its phase (R121). -/

namespace Sys2Proof.Machine

/-- Two fields of one register lie at different bits. -/
theorem Fld.key_ne_of_lo {f g : Fld} (ha : f.addr = g.addr) (hl : f.lo ≠ g.lo) : f.key ≠ g.key := by
  intro h
  rw [Fld.key, Fld.key, ha] at h
  exact hl (Nat.add_left_cancel h)

/-- R121: where the ring has room for one more record, a change of phase leaves the tail. -/
theorem State.fld_tail_changePhase (s : State) (c n : Nat)
    (h : (s.fld (Fd.TILE_PHASE_HEAD_HEAD (c / 16) (coreIdx c)) + 1) % 256 ≠ s.fld (Fd.TILE_PHASE_HEAD_TILE_TAIL (c / 16) (coreIdx c))) :
    (s.changePhase c n).fld (Fd.TILE_PHASE_HEAD_TILE_TAIL (c / 16) (coreIdx c)) =
      s.fld (Fd.TILE_PHASE_HEAD_TILE_TAIL (c / 16) (coreIdx c)) := by
  have besideHead (t i : Nat) : (Fd.TILE_PHASE_HEAD_TILE_TAIL t i).key ≠ (Fd.TILE_PHASE_HEAD_HEAD t i).key :=
    Fld.key_ne_of_lo rfl (show 8 ≠ 0 by decide)
  have besidePhase (t i : Nat) : (Fd.TILE_PHASE_HEAD_TILE_TAIL t i).key ≠ (Fd.TILE_PHASE_HEAD_CUR_PHASE t i).key :=
    Fld.key_ne_of_lo rfl (show 8 ≠ 16 by decide)
  simp only [State.changePhase, if_neg h, State.incFld]
  rw [State.fld_setFld_ne _ _ _ _ (besideHead _ _), State.fld_setFld_ne _ _ _ _ (besidePhase _ _), State.setCore_fld]

/-- The state after reset, but that TILE_TAIL of the first core holds 300, more than its eight bits. -/
def wideTail : State := { State.reset with flds := [((Fd.TILE_PHASE_HEAD_TILE_TAIL 0 0).key, 300)] }

/-- Refutes O11: the clause for a ring that is not full says, of every state, that TILE_TAIL then reads as before modulo 256. A
change of phase does not write it there, and the plain data of a state may hold any number: in `wideTail` it reads 300 before and
after, not 44. `State.setFld` keeps a value within the width of its field, so the clause fails of such data alone. -/
theorem not_exitFencePhase : ¬ Obligations.ExitFencePhase := by
  rintro ⟨-, phases⟩
  obtain ⟨-, -, -, tail, -⟩ := phases wideTail 0 1 (by decide) (by decide)
  have head0 : wideTail.fld (Fd.TILE_PHASE_HEAD_HEAD 0 0) = 0 := by decide +kernel
  have tail300 : wideTail.fld (Fd.TILE_PHASE_HEAD_TILE_TAIL 0 0) = 300 := by decide +kernel
  have room : (wideTail.fld (Fd.TILE_PHASE_HEAD_HEAD 0 0) + 1) % 256 ≠ wideTail.fld (Fd.TILE_PHASE_HEAD_TILE_TAIL 0 0) := by
    rw [head0, tail300]
    decide
  have kept : (wideTail.changePhase 0 1).fld (Fd.TILE_PHASE_HEAD_TILE_TAIL 0 0) = 300 :=
    (wideTail.fld_tail_changePhase 0 1 room).trans tail300
  have reduced : (wideTail.changePhase 0 1).fld (Fd.TILE_PHASE_HEAD_TILE_TAIL 0 0) = 300 % 256 :=
    tail.trans ((if_neg room).trans (congrArg (· % 256) tail300))
  rw [kept] at reduced
  exact absurd reduced (by decide)

end Sys2Proof.Machine
end

section
/-! How the instructions of the array issue: the lease, and what joins the queue (R136 to R147, R166, R167, R174, R177 to R184). -/

namespace Sys2Proof.Machine

/-! The end of a word that acts -/

section
variable {s u : State} {t : Tid} {w : IWord} {sp : Spec}
variable (h : s.Ready t w sp.ok sp.gate (sp.reads ++ sp.writes)) (hl : sp.lane = false) (he : s.Enabled t w)
variable {body : State → BitVec 8 → Eff}
include h hl he

/-- A ready word whose effect behind the guard retires moves past itself. -/
theorem State.issue_retires (hb : body (s.pastGuard t w) ((s.regs t.code).resultTag w sp.reads) = .retire u) :
    s.issue t w sp body = u.advance t w := by
  rw [State.issue_enabled h hl he, hb, Eff.unguard_retire, Eff.finish_retire]

/-- A ready word whose effect behind the guard faults raises its fault. -/
theorem State.issue_faults {code : Nat} (hb : body (s.pastGuard t w) ((s.regs t.code).resultTag w sp.reads) = .fault code u) :
    s.issue t w sp body = u.raise t.code code w.size := by
  rw [State.issue_enabled h hl he, hb, Eff.unguard_fault, Eff.finish_fault]

/-- A ready word whose effect behind the guard waits gives the guard back. -/
theorem State.issue_waits {st : TState} (hb : body (s.pastGuard t w) ((s.regs t.code).resultTag w sp.reads) = .wait st u) :
    s.issue t w sp body = (u.unguard t.code (s.regs t.code).ctrl).waitIn t.code st := by
  rw [State.issue_enabled h hl he, hb, Eff.unguard_wait, Eff.finish_wait]

end

/-- A change of a core's array stands beside the wait of a thread. -/
theorem State.waitIn_setArray (s : State) (c t : Nat) (x : MatArray) (st : TState) :
    (s.setArray c x).waitIn t st = (s.waitIn t st).setArray c x := rfl

theorem State.unguard_setArray (s : State) (c t : Nat) (x : MatArray) (g : BitVec 8) :
    (s.setArray c x).unguard t g = (s.unguard t g).setArray c x := rfl

theorem thOf_code (t : Tid) : thOf t.code = t.th.val := by
  have := t.th.isLt
  unfold thOf Tid.code
  omega

/-! The lease -/

section
variable {s : State} {t : Tid} {w : IWord} (he : s.Enabled t w)
include he

section
variable (hr : s.Ready t w (({} : Form).ok w) true [])
include hr

/-- R136: MMA.OPEN takes a free lease. -/
theorem exec_mmaOpen_free (h : (s.core (coreOf t.code)).array.lease = none) :
    exec (.mmaOpen t w) s = .next (((s.pastGuard t w).setArray (coreOf t.code)
      { (s.core (coreOf t.code)).array with lease := some t.th.val }).advance t w) := by
  refine congrArg Host.Outcome.next (State.issue_retires hr rfl he ?_)
  simp only [State.pastGuard_core, h]

theorem exec_mmaOpen_held (h : (s.core (coreOf t.code)).array.lease = some t.th.val) :
    exec (.mmaOpen t w) s = .next (s.retire t w id) := by
  rw [← State.advance_pastGuard]
  refine congrArg Host.Outcome.next (State.issue_retires hr rfl he ?_)
  simp only [State.pastGuard_core, h, if_true]

/-- R136: MMA.OPEN waits while another thread holds the lease. -/
theorem exec_mmaOpen_taken {k : Nat} (h : (s.core (coreOf t.code)).array.lease = some k) (hk : k ≠ t.th.val) :
    let a := (s.core (coreOf t.code)).array
    exec (.mmaOpen t w) s = .next ((s.setArray (coreOf t.code)
      { a with wait := t.th.val :: a.wait.filter (· ≠ t.th.val) }).waitIn t.code .waitData) := by
  intro a
  rw [State.waitIn_setArray, ← State.waitIn_unguard_pastGuard s t w, ← State.waitIn_setArray, ← State.unguard_setArray]
  refine congrArg Host.Outcome.next (State.issue_waits hr rfl he ?_)
  simp only [State.pastGuard_core, h, if_neg hk, a]

/-- R138: MMA.CLOSE of the holder releases the lease. -/
theorem exec_mmaClose_holder (h : (s.core (coreOf t.code)).array.lease = some t.th.val) :
    exec (.mmaClose t w) s = .next (((s.pastGuard t w).setArray (coreOf t.code)
      ((s.core (coreOf t.code)).array.release t.th.val)).advance t w) := by
  refine congrArg Host.Outcome.next (State.issue_retires hr rfl he ?_)
  simp only [holding, State.pastGuard_core, thOf_code, h, if_true]

/-- R137: MMA.CLOSE of any other thread faults. -/
theorem exec_mmaClose_other (h : (s.core (coreOf t.code)).array.lease ≠ some t.th.val) :
    exec (.mmaClose t w) s = .next ((s.pastGuard t w).raise t.code 0x0207 w.size) := by
  refine congrArg Host.Outcome.next (State.issue_faults hr rfl he ?_)
  simp only [holding, State.pastGuard_core, thOf_code, if_neg h]

end

end

/-! The encodings that MOD[0] tells apart -/

/-- Where bit 0 is zero already, clearing it changes nothing. -/
theorem and_not_one_of_even {v : BitVec 16} (h : v.getLsbD 0 = false) : v &&& ~~~1 = v := by
  ext i hi
  cases i with
  | zero => simpa using h.symm
  | succ i =>
    rw [BitVec.getElem_and, BitVec.getElem_not, BitVec.ofNat_eq_ofNat, BitVec.getElem_one]
    simp

theorem or_one_of_odd {v : BitVec 16} (h : v.getLsbD 0 = true) : v ||| 1 = v := by
  ext i hi
  cases i with
  | zero => simpa using h
  | succ i => simp [BitVec.getElem_one]

/-! Loads -/

/-- R144, R166 to R169, R175, R177: the operand of a load breaks no rule of a descriptor, of the array's size or of its formats. -/
structure LoadAllowed (c : Nat) (tr : Bool) (d : Desc) : Prop where
  sound : d.fault c false (!tr) = 0
  rows : (if tr then d.cols else d.rows) ≤ 256
  cols : (if tr then d.rows else d.cols) ≤ 128
  fmt : d.fmt ≤ 7
  scaled : d.scaleEn = true → 3 ≤ d.fmt
  turned : tr = true → d.fmt ≠ 5

section
variable {c : Nat} {tr : Bool} {d : Desc} (h : LoadAllowed c tr d)
include h

theorem LoadAllowed.size : ¬ (256 < (if tr then d.cols else d.rows) ∨ 128 < (if tr then d.rows else d.cols)) := by
  rw [not_or, Nat.not_lt, Nat.not_lt]
  exact ⟨h.rows, h.cols⟩

theorem LoadAllowed.format : ¬ (!([0, 1, 2, 3, 4, 5, 6, 7].contains d.fmt) || (d.scaleEn && decide (d.fmt ≤ 2))) = true := by
  have listed : ∀ f ≤ 7, [0, 1, 2, 3, 4, 5, 6, 7].contains f = true := by decide
  rw [listed _ h.fmt]
  cases he : d.scaleEn with
  | false => simp
  | true => simpa using Nat.lt_of_succ_le (h.scaled he)

end

section
variable {t : Nat} {tr : Bool} {v : BitVec 128} {s : State}
variable (ha : LoadAllowed (coreIdx (coreOf t)) tr (Desc.dec v)) (hq : (s.core (coreOf t)).array.full = false)
include ha hq

/-- R139: a load of zero size retires alone. -/
theorem loadwBody_empty
    (h0 : (if tr then (Desc.dec v).cols else (Desc.dec v).rows) = 0 ∨ (if tr then (Desc.dec v).rows else (Desc.dec v).cols) = 0) :
    loadwBody t tr v s = .retire s := by
  unfold loadwBody
  dsimp only
  rw [if_neg (not_not_intro ha.sound), if_neg ha.size, if_neg ha.format, if_neg (fun h => ha.turned h.1 h.2),
    if_neg (Bool.eq_false_iff.mp hq), if_pos h0]

/-- R166, R167: a load joins the queue once nothing holds it back, and names the latest operand. -/
theorem loadwBody_joins (hk : (if tr then (Desc.dec v).cols else (Desc.dec v).rows) ≠ 0)
    (hn : (if tr then (Desc.dec v).rows else (Desc.dec v).cols) ≠ 0) (hload : (s.core (coreOf t)).array.loading = false)
    (hpass : ((Desc.dec v).fmt = 0 ∨ ∃ o, (s.core (coreOf t)).array.latest = some o ∧ o.fmt = 0) →
      (s.core (coreOf t)).array.passing = false)
    (howes : s.arrayOwes t ((Desc.dec v).readRanges (tileOf t) (!tr)) = false)
    (hroom : tr = true → s.engineRoom (tileOf t) (spanCount ((Desc.dec v).readRanges (tileOf t) false)) = true) :
    let c := coreOf t
    let d := Desc.dec v
    let q := s.pushArr t (.load v tr 0) (s.regs t).pc 0
    let k := if tr then d.cols else d.rows
    let n := if tr then d.rows else d.cols
    loadwBody t tr v s = .retire ((q.setArray c { (q.core c).array with
      latest := some { fmt := d.fmt, k := k, n := n, scaled := d.scaleEn } }).rampUp c) := by
  unfold loadwBody
  dsimp only
  rw [if_neg (not_not_intro ha.sound), if_neg ha.size, if_neg ha.format, if_neg (fun h => ha.turned h.1 h.2),
    if_neg (Bool.eq_false_iff.mp hq), if_neg (fun h => h.elim hk hn), if_neg ?waits, if_neg (Bool.eq_false_iff.mp howes),
    if_neg ?room]
  case waits =>
    rw [hload, Bool.false_or, Bool.and_eq_true, Bool.or_eq_true, decide_eq_true_eq]
    rintro ⟨hfmt, hp⟩
    refine Bool.eq_false_iff.mp (hpass ?_) hp
    cases hl : (s.core (coreOf t)).array.latest with
    | none => simpa [hl] using hfmt
    | some o => simpa [hl] using hfmt
  case room =>
    rintro ⟨htr, hno⟩
    simp [hroom htr] at hno

end

section
variable {s : State} {t : Tid} {w : IWord} (he : s.Enabled t w) (hl : (s.core (coreOf t.code)).array.lease = some (thOf t.code))
include hl

/-- R137: the holder's instruction comes to its own effect. -/
theorem holding_pastGuard (k : Eff) : holding (s.pastGuard t w) t.code k = k := by
  rw [holding, State.pastGuard_core, if_pos hl]

include he

/-- MMA.LOADW of the holder retires as its load does. -/
theorem exec_mmaLoadw_retires (hm : w.m 0 = false) (hr : s.Ready t w (({ a := .d } : Form).ok w) true [dR w.a.toNat]) {u : State}
    (hb : loadwBody t.code false ((s.regs t.code).getD' w.a.toNat) (s.pastGuard t w) = .retire u) :
    exec (.mmaLoadw t w) s = .next (u.advance t w) := by
  show execMmaLoadw t w s = _
  simp only [execMmaLoadw, and_not_one_of_even hm]
  refine congrArg Host.Outcome.next (State.issue_retires hr rfl he ?_)
  rw [holding_pastGuard hl, State.regs_pastGuard, TRegs.getD'_past, hb]

theorem exec_mmaLoadwT_retires (hm : w.m 0 = true) (hr : s.Ready t w (({ a := .d, mods := 1 } : Form).ok w) true [dR w.a.toNat])
    {u : State} (hb : loadwBody t.code true ((s.regs t.code).getD' w.a.toNat) (s.pastGuard t w) = .retire u) :
    exec (.mmaLoadwT t w) s = .next (u.advance t w) := by
  show execMmaLoadwT t w s = _
  simp only [execMmaLoadwT, or_one_of_odd hm]
  refine congrArg Host.Outcome.next (State.issue_retires hr rfl he ?_)
  rw [holding_pastGuard hl, State.regs_pastGuard, TRegs.getD'_past, hb]

end

/-! Passes -/

section
variable {s : State} {t : Tid} {w : IWord} {op : OperandMeta} {va vc : BitVec 128} {b : Nat} {mask : BitVec 128}
variable (hva : (s.regs t.code).getD' w.a.toNat = va) (hvc : (s.regs t.code).getD' w.b.toNat = vc)
variable (hb : ((s.regs t.code).getG w.d.toNat).toNat = b) (hmask : passMask (s.regs t.code) w = mask)
variable (hq : (s.core (coreOf t.code)).array.full = false) (hop : (s.core (coreOf t.code)).array.latest = some op)
variable (hf : streamFault (coreOf t.code) (Desc.dec va) (Desc.dec vc) (some op) b = 0)
include hva hvc hb hmask hq hop hf

/-- What is left behind the guard for a pass that breaks no rule, where the queue has room. -/
theorem streamBody_sound :
    let p := s.pastGuard t w
    let idle : Bool := (Desc.dec va).rows = 0 || passCols op.n mask = []
    let q := p.pushArr t.code (.pass va vc (w.ms 0 2) (w.m 2) mask op (if idle then (Desc.dec va).rows else 0))
      (s.regs t.code).pc (barAddr t.code b)
    streamBody t.code w p =
      if !idle && p.arrayOwes t.code ((Desc.dec va).readRanges (tileOf t.code) false) then .wait .waitData p
      else .retire (if idle then q.settleRamp (coreOf t.code) else q.rampUp (coreOf t.code)) := by
  have past : passMask ((s.regs t.code).past w) w = mask := by
    rw [← hmask]
    simp only [passMask, TRegs.getP_past]
  simp only [streamBody, State.regs_pastGuard, TRegs.getD'_past, TRegs.getG_past, TRegs.pc_past, State.pastGuard_core, hva, hvc, hb,
    past, hop, hf, hq, ne_eq, not_true_eq_false, if_false, Bool.false_eq_true]

/-- R162: a pass without a row or a column has entered whole. -/
theorem streamBody_idle (h0 : (Desc.dec va).rows = 0 ∨ passCols op.n mask = []) :
    streamBody t.code w (s.pastGuard t w) =
      .retire (((s.pastGuard t w).pushArr t.code (.pass va vc (w.ms 0 2) (w.m 2) mask op (Desc.dec va).rows) (s.regs t.code).pc
        (barAddr t.code b)).settleRamp (coreOf t.code)) := by
  have idle : (decide ((Desc.dec va).rows = 0) || decide (passCols op.n mask = [])) = true := by simpa using h0
  rw [streamBody_sound hva hvc hb hmask hq hop hf]
  simp only [idle, Bool.not_true, Bool.false_and, Bool.false_eq_true, if_false, if_true]

/-- R139, R147: any other pass joins the queue, once what it reads is no longer owed. -/
theorem streamBody_joins (hm : (Desc.dec va).rows ≠ 0) (hn : passCols op.n mask ≠ [])
    (howes : (s.pastGuard t w).arrayOwes t.code ((Desc.dec va).readRanges (tileOf t.code) false) = false) :
    streamBody t.code w (s.pastGuard t w) =
      .retire (((s.pastGuard t w).pushArr t.code (.pass va vc (w.ms 0 2) (w.m 2) mask op 0) (s.regs t.code).pc
        (barAddr t.code b)).rampUp (coreOf t.code)) := by
  have busy : (decide ((Desc.dec va).rows = 0) || decide (passCols op.n mask = [])) = false := by simp [hm, hn]
  rw [streamBody_sound hva hvc hb hmask hq hop hf]
  simp only [busy, howes, Bool.and_false, Bool.false_eq_true, if_false]

end

/-! Drains -/

/-- The bytes whose addresses a drain's extension word names. -/
def drainNamed (r : TRegs) (w : IWord) (dc : Desc) : List (Nat × Nat) :=
  (drainAddrs w dc.rows dc.cols).map (fun x => ((r.getG (w.f x.1)).toNat, x.2))

/-- R179: those of them that a drain copies as it issues. -/
def drainCopied (tile : Nat) (r : TRegs) (w : IWord) (dc : Desc) : List (Nat × Nat) :=
  ((drainAddrs w dc.rows dc.cols).filter (fun y => y.1 ≠ 3)).map (fun y => (tileBase tile + (r.getG (w.f y.1)).toNat, y.2))

/-- The bytes a drain may write: its rows and its amax table. -/
def drainWritten (sp : DrainSpec) (tile rows : Nat) : List (Nat × Nat) :=
  (List.range rows).flatMap (drainOut sp tile) ++
    (if sp.smode = 2 then [(tileBase tile + sp.amax, tileCount rows * 8)] else [])

/-- A drain that has begun no row. -/
def Thread.freshRun (x : Thread) (dc : Desc) : DrainRun :=
  { todo := if dc.some then (List.range dc.rows).map (fun m => (m, 0)) else [], tag := BitVec.ofNat 8 x.glide, ord := x.joined }

/-- R177, R181, R182, R474: the operands of a drain break no rule, and the memory engine has room for one that transposes. -/
structure DrainAllowed (s : State) (tile i : Nat) (w : IWord) (dc dd : Desc) (bar : Nat) : Prop where
  source : dc.fault i false false = 0
  dest : dd.fault i true (w.m 0) = 0
  sums : dc.fmt = 0 ∨ dc.fmt = 8
  shape : drainBad dc dd w = false
  turned : w.m 0 = true → dd.fmt ≠ 5
  bar : barFault bar = 0
  room : w.m 0 = true → s.engineRoom tile (spanCount (dd.rowRanges tile)) = true

/-- R63, R122, R180, R217, R668: what a drain that has elements reads and writes lies where it may, and nothing keeps it from them. -/
structure DrainReaches (s : State) (t : Nat) (w : IWord) (r : TRegs) (dc : Desc) (sp : DrainSpec) (glide : BitVec 8) : Prop where
  aligned : ∀ y ∈ drainNamed r w dc, y.1 % 16 = 0 ∧ y.1 < 2 ^ 28
  own : inOwn (coreIdx (coreOf t)) dc.base dc.span = true
  inside : ∀ y ∈ drainNamed r w dc, inVatOrOwn (coreIdx (coreOf t)) y.1 y.2 = true
  table : w.ms 3 2 = 3 → sp.bad = false → pwlOk sp.table = true
  owes : s.arrayOwes t (drainCopied (tileOf t) r w dc) = false
  holds : s.arrayHolds t (drainWritten sp (tileOf t) dc.rows) = false
  fence : s.opensScale t sp = true → s.fencePend (tileOf t) = false
  tags : s.rangesTag (drainCopied (tileOf t) r w dc) &&& ~~~glide = 0

@[simp] theorem State.pastGuard_joined (s : State) (t : Tid) (w : IWord) :
    ((s.pastGuard t w).thread t.code).joined = (s.thread t.code).joined := by
  unfold State.pastGuard State.modRegs
  split <;> simp

@[simp] theorem State.pastGuard_glide (s : State) (t : Tid) (w : IWord) :
    ((s.pastGuard t w).thread t.code).glide = (s.thread t.code).glide := by
  simp only [Thread.glide, State.pastGuard_ckpts]

/-- R178 to R184: behind the guard, a drain that breaks no rule joins the queue with its operands copied, and may open a window. -/
theorem drainBody_joins {s : State} {t : Tid} {w : IWord} {r : TRegs} {dc dd : Desc} {b : Nat} (hr : s.regs t.code = r)
    (hdc : Desc.dec (r.getD' w.a.toNat) = dc) (hdd : Desc.dec (r.getD' w.b.toNat) = dd) (hbar : (r.getG w.c.toNat).toNat = b)
    (hq : (s.core (coreOf t.code)).array.full = false)
    (ha : DrainAllowed (s.pastGuard t w) (tileOf t.code) (coreIdx (coreOf t.code)) w dc dd b)
    (hb : dc.some = true → DrainReaches (s.pastGuard t w) t.code w r dc ((s.pastGuard t w).drainSpec t.code w dc.some)
      (BitVec.ofNat 8 (s.thread t.code).glide)) :
    let p := s.pastGuard t w
    let sp := p.drainSpec t.code w dc.some
    let run := (s.thread t.code).freshRun dc
    drainBody t.code w p = .retire ((p.pushArr t.code (.drain sp run) r.pc (barAddr t.code b)).openScale t.code w.size sp run) := by
  obtain ⟨source, dest, sums, shape, turned, bar, room⟩ := ha
  unfold drainBody
  simp only [State.regs_pastGuard, TRegs.getD'_past, TRegs.getG_past, TRegs.pc_past, State.pastGuard_core, State.pastGuard_glide,
    State.pastGuard_joined, hr, hdc, hdd, hbar]
  rw [if_neg ?faults, if_neg ?sums, if_neg (Bool.eq_false_iff.mp shape), if_neg (fun h => turned h.1 h.2), if_neg ?aligned,
    if_neg ?inside, if_neg ?reads, if_neg ?table, if_neg (not_not_intro bar), if_neg (Bool.eq_false_iff.mp hq), if_neg ?writes,
    if_neg ?fence, if_neg ?room]
  · rfl
  case faults => simp [source, dest, descFaults]
  case sums =>
    rintro (⟨h0, h8⟩ | ⟨hnz, hno⟩)
    · exact sums.elim h0 h8
    · simp [(hb hnz).own] at hno
  case aligned =>
    rintro ⟨hnz, hany⟩
    obtain ⟨y, hy, hbad⟩ := List.any_eq_true.mp hany
    have ok := (hb hnz).aligned y hy
    have : y.1 % 16 ≠ 0 ∨ 2 ^ 28 ≤ y.1 := of_decide_eq_true hbad
    omega
  case inside =>
    rintro ⟨hnz, hany⟩
    obtain ⟨y, hy, hbad⟩ := List.any_eq_true.mp hany
    simp [(hb hnz).inside y hy] at hbad
  case reads =>
    rintro ⟨hnz, hheld⟩
    rcases Bool.or_eq_true _ _ ▸ hheld with howes | htag
    · exact Bool.eq_false_iff.mp (hb hnz).owes howes
    · exact of_decide_eq_true htag (hb hnz).tags
  case table =>
    rintro ⟨hnz, hpwl, hgood, hbad⟩
    have ok := (hb hnz).table hpwl ((Bool.not_eq_true' _).mp hgood)
    exact Bool.eq_false_iff.mp ((Bool.not_eq_true' _).mp hbad) ok
  case writes => exact fun ⟨hnz, hheld⟩ => Bool.eq_false_iff.mp (hb hnz).holds hheld
  case fence => exact fun ⟨hnz, hopens, hpend⟩ => Bool.eq_false_iff.mp ((hb hnz).fence hopens) hpend
  case room =>
    rintro ⟨htr, hno⟩
    simp [room htr] at hno

section
variable {s : State} {t : Tid} {w : IWord} (he : s.Enabled t w) (hl : (s.core (coreOf t.code)).array.lease = some (thOf t.code))
include he hl

/-- MMA.STREAM of the holder retires as its pass does. -/
theorem exec_mmaStream_retires (hr : s.Ready t w
      (({ a := .d, b := .d, c := if w.m 3 then .p else .none, d := .g, mods := 0xF } : Form).ok w
        && decide (w.ms 0 2 ≠ 3) && (!w.m 3 || decide (w.c.toNat % 2 = 0))) true
      ([dR w.a.toNat, dR w.b.toNat, gR w.d.toNat] ++ if w.m 3 then [pR w.c.toNat, pR (w.c.toNat + 1)] else []))
    {u : State} (hb : streamBody t.code w (s.pastGuard t w) = .retire u) : exec (.mmaStream t w) s = .next (u.advance t w) := by
  refine congrArg Host.Outcome.next (State.issue_retires ?_ rfl he ?_)
  · simpa only [List.append_nil] using hr
  · rw [holding_pastGuard hl, hb]

/-- MMA.DRAIN of the holder retires as its drain does. -/
theorem exec_mmaDrain_retires (hm : w.m 0 = false)
    (hr : s.Ready t w (drainOk w) (drainGate (s.regs t.code) w) (drainReads w))
    {u : State} (hb : drainBody t.code w (s.pastGuard t w) = .retire u) : exec (.mmaDrain t w) s = .next (u.advance t w) := by
  show execMmaDrain t w s = _
  simp only [execMmaDrain, and_not_one_of_even hm]
  refine congrArg Host.Outcome.next (State.issue_retires ?_ rfl he ?_)
  · simpa only [List.append_nil] using hr
  · rw [holding_pastGuard hl, hb]

theorem exec_mmaDrainT_retires (hm : w.m 0 = true) (hr : s.Ready t w (drainOk w) true (drainReads w))
    {u : State} (hb : drainBody t.code w (s.pastGuard t w) = .retire u) : exec (.mmaDrainT t w) s = .next (u.advance t w) := by
  show execMmaDrainT t w s = _
  simp only [execMmaDrainT, or_one_of_odd hm]
  refine congrArg Host.Outcome.next (State.issue_retires ?_ rfl he ?_)
  · simpa only [List.append_nil] using hr
  · rw [holding_pastGuard hl, hb]

end

/-- Settles O23: the lease by its holder, and each instruction of the holder by what its body accepts. -/
theorem arrayInstructions : Obligations.ArrayInstructions := by
  intro t w s he th tile c i r p a
  refine ⟨fun hr => ?lease, ?loads, ?passes, ?drains⟩
  case lease =>
    exact ⟨exec_mmaOpen_free he hr, exec_mmaOpen_held he hr, fun k => exec_mmaOpen_taken he hr, exec_mmaClose_holder he hr,
      exec_mmaClose_other he hr⟩
  case loads =>
    intro v d loads
    have accepts {j : Instr} {tr : Bool} (hj : a.lease = some (thOf th) → ∀ u, loadwBody th tr v p = .retire u →
        exec j s = .next (u.advance t w)) : loads j tr := by
      intro hl sound rows cols fmt scaled turned hq
      have allowed : LoadAllowed i tr d := ⟨sound, rows, cols, fmt, scaled, turned⟩
      have room : (p.core c).array.full = false := by rwa [State.pastGuard_core]
      refine ⟨fun h0 => ?_, fun hk hn hload hpass howes hroom => hj hl _ ?_⟩
      · rw [hj hl p (loadwBody_empty allowed room h0), State.advance_pastGuard]
      · rw [loadwBody_joins allowed room hk hn (by rwa [State.pastGuard_core]) (by rwa [State.pastGuard_core]) howes hroom]
        simp only [p, th, State.regs_pastGuard, TRegs.pc_past]
        rfl
    exact ⟨fun hm hr => accepts fun hl _ => exec_mmaLoadw_retires he hl hm hr,
      fun hm hr => accepts fun hl _ => exec_mmaLoadwT_retires he hl hm hr⟩
  case passes =>
    intro va vc d b pm hr hl hq op hop hf mask pass
    exact ⟨fun h0 => exec_mmaStream_retires he hl hr (streamBody_idle rfl rfl rfl rfl hq hop hf h0),
      fun hm hn howes => exec_mmaStream_retires he hl hr (streamBody_joins rfl rfl rfl rfl hq hop hf hm hn howes)⟩
  case drains =>
    intro dc dd b glide nz named copied drains
    have accepts {j : Instr} (hj : a.lease = some (thOf th) → ∀ u, drainBody th w p = .retire u → exec j s = .next (u.advance t w)) :
        drains j := by
      intro hl hq source dest sums shape turned bar room reaches
      have allowed : DrainAllowed p tile i w dc dd b := ⟨source, dest, sums, shape, turned, bar, room⟩
      refine hj hl _ (drainBody_joins rfl rfl rfl rfl hq allowed fun hnz => ?_)
      obtain ⟨aligned, own, inside, table, owes, holds, fence, tags⟩ := reaches hnz
      exact ⟨aligned, own, inside, table, owes, holds, fence, tags⟩
    exact ⟨fun hm hr => accepts fun hl _ => exec_mmaDrain_retires he hl hm hr,
      fun hm hr => accepts fun hl _ => exec_mmaDrainT_retires he hl hm hr⟩

end Sys2Proof.Machine
end

section
/-! The events of the array: the ramp, the banks, the swap and the rows of a pass (R139, R149, R163 to R173, R185, R668). -/

namespace Sys2Proof.Machine

section
variable {s : State} {c : Cid}

/-! The ramp -/

/-- The columns that one step of a ramp switches. -/
def MatArray.rampStep (a : MatArray) : Nat := if a.rampLen = 0 then 4 else if a.rampLen = 1 then 2 else 1

/-- R170: a step of RAMP_UP, which reaches RUN with the last column. -/
theorem exec_rampStep_up (h : (s.core c.code).array.ramp = 1) :
    let a := (s.core c.code).array
    exec (.rampStep c) s = .next ((s.setArray c.code { a with
      cols := min 128 (a.cols + a.rampStep), ramp := if 128 ≤ a.cols + a.rampStep then 2 else 1 }).settleRamp c.code) := by
  have last (n : Nat) : min 128 n = 128 ↔ 128 ≤ n := by omega
  refine (congrArg Host.Outcome.next (if_pos h)).trans ?_
  simp only [last]
  rfl

/-- R173: a step of RAMP_DOWN, which reaches OFF without a column. -/
theorem exec_rampStep_down (h : (s.core c.code).array.ramp = 3) :
    let a := (s.core c.code).array
    exec (.rampStep c) s = .next (s.setArray c.code { a with
      cols := a.cols - a.rampStep, ramp := if a.cols ≤ a.rampStep then 0 else 3 }) := by
  have notUp : ¬ (s.core c.code).array.ramp = 1 := by omega
  exact congrArg Host.Outcome.next ((if_neg notUp).trans (if_pos h))

/-- R171: the HOLD wait ends. -/
theorem exec_arrayHoldExpiry (h : (s.core c.code).array.hold.isSome = true) :
    exec (.arrayHoldExpiry c) s = .next (s.rampDown c.code) :=
  congrArg Host.Outcome.next (if_pos h)

/-! The banks -/

section
variable {o : ArrOp} {v : BitVec 128} {tr : Bool}
variable (ho : (s.core c.code).array.q.find? (fun o => match o.kind with | .load _ _ 0 => true | _ => false) = some o)
variable (hk : o.kind = .load v tr 0) (hg : s.rangesTag ((Desc.dec v).readRanges c.tile.val (!tr)) = 0)
include ho hk hg

/-- R163, R185: the load under way, no line of its region gliding, has read its operand. -/
theorem exec_shadowBankFull :
    let a := (s.core c.code).array
    let op := s.readOperand c.tile.val (Desc.dec v) tr
    exec (.shadowBankFull c) s = .next (
      if (Desc.dec v).fmt = 0 then
        ((s.setArray c.code { a with front := some op, shadow := some op }).dropArr c.code o.id).settleRamp c.code
      else (s.setArray c.code { a with shadow := some op }).alterArr c.code o.id (fun o => { o with kind := .load v tr 1 })) := by
  refine congrArg Host.Outcome.next ?_
  split
  case h_2 none => cases none.symm.trans ho
  case h_1 o' found =>
    obtain rfl : o' = o := Option.some.inj (found.symm.trans ho)
    rw [hk]
    exact if_neg (not_not_intro hg)

end

section
variable {o : ArrOp}

/-- The token of a load is inside the array. -/
def ArrOp.tokenIn (o : ArrOp) : ArrOp :=
  match o.kind with
  | .load v tr _ => { o with kind := .load v tr 2 }
  | _ => o

/-- R164, R165: in RUN the token enters behind the last row before it, and the banks exchange. -/
theorem exec_swapTokenEnter
    (ho : (s.core c.code).array.q.find? (fun o => match o.kind with | .load _ _ 1 => true | _ => false) = some o)
    (hr : (s.core c.code).array.ramp = 2) (hb : ∀ x ∈ (s.core c.code).array.before o.id, x.entering = false) :
    let a := (s.core c.code).array
    exec (.swapTokenEnter c) s =
      .next ((s.setArray c.code { a with front := a.shadow, shadow := a.front }).alterArr c.code o.id ArrOp.tokenIn) := by
  refine congrArg Host.Outcome.next ?_
  split
  case h_2 none => cases none.symm.trans ho
  case h_1 o' found =>
    obtain rfl : o' = o := Option.some.inj (found.symm.trans ho)
    exact if_pos ⟨hr, List.all_eq_true.mpr fun x hx => by simp [hb x hx]⟩

/-- R166: the swap is no longer pending. -/
theorem exec_swapComplete
    (ho : (s.core c.code).array.q.find? (fun o => match o.kind with | .load _ _ 2 => true | _ => false) = some o) :
    exec (.swapComplete c) s = .next ((s.dropArr c.code o.id).settleRamp c.code) := by
  refine congrArg Host.Outcome.next ?_
  split
  case h_2 none => cases none.symm.trans ho
  case h_1 o' found => rw [Option.some.inj (found.symm.trans ho)]

/-! The rows of a pass -/

section
variable {ta tc : BitVec 128} {g : Nat} {z : Bool} {mask : BitVec 128} {m : OperandMeta} {next : Nat}
variable (hk : o.kind = .pass ta tc g z mask m next)
include hk

/-- R151 to R155: the next row of the earliest pass with rows left enters where nothing of R164 and R668 is in its way. -/
theorem exec_arrayRowEnter {op : Operand} (ho : (s.core c.code).array.q.find? ArrOp.entering = some o)
    (hf : (s.core c.code).array.front = some op) (hr : (s.core c.code).array.ramp = 2)
    (hg : s.rangesTag ((Desc.dec ta).rowReads c.tile.val next ++
      (if z then [] else [(Desc.dec tc).rowRange c.tile.val next])) = 0)
    (hb : ∀ x ∈ (s.core c.code).array.before o.id, (∀ v tr ph, x.kind = .load v tr ph → ph = 2) ∧
      (∀ sp r, x.kind = .drain sp r → rangesCross (x.readsLeft c.tile.val) [(Desc.dec tc).rowRange c.tile.val next] = false)) :
    exec (.arrayRowEnter c) s = .next ((s.passRow c.code (Desc.dec ta) (Desc.dec tc) g z mask op next).alterArr c.code o.id
      (fun x => { x with kind := .pass ta tc g z mask m (next + 1) })) := by
  refine congrArg Host.Outcome.next ?_
  rw [ho]
  dsimp only
  rw [hk, hf]
  refine if_pos (Bool.and_eq_true_iff.mpr ⟨Bool.and_eq_true_iff.mpr ⟨decide_eq_true hr, List.all_eq_true.mpr fun x hx => ?_⟩,
    decide_eq_true hg⟩)
  obtain ⟨loads, drains⟩ := hb x hx
  cases hx : x.kind with
  | load v tr ph => exact decide_eq_true (loads v tr ph hx)
  | pass => rfl
  | drain sp r => simp only [drains sp r hx, Bool.not_false]

/-- A pass that has entered whole enters no more. -/
theorem ArrOp.entering_pass : o.entering = decide (next < (Desc.dec ta).rows) := by
  simp only [ArrOp.entering, hk]

/-- R139, R149: the earliest pass, entered whole, is counted and lands its bytes, or what keeps them from landing is reported. -/
theorem exec_passComplete
    (ho : (s.core c.code).array.q.find? (fun o => match o.kind with | .pass _ _ _ _ _ _ _ => true | _ => false) = some o)
    (hn : (Desc.dec ta).rows ≤ next) :
    let q := ((s.dropArr c.code o.id).incFld (Fd.TILE_ARRAY_COUNT_PASSES c.tile.val c.core.val)).barLand o.bar o.ep
      ((Desc.dec ta).rows * m.n * 4)
    exec (.passComplete c) s = .next ((q.1.settleRamp c.code).report (c.code * 128 + o.th) q.2 o.pc o.owner) := by
  have whole : ¬ o.entering = true := by simpa [ArrOp.entering_pass hk] using hn
  refine congrArg Host.Outcome.next ?_
  split
  case h_2 none => cases none.symm.trans ho
  case h_1 o' found =>
    obtain rfl : o' = o := Option.some.inj (found.symm.trans ho)
    rw [if_neg whole, hk]

end
end
end

/-- Settles O25: one lemma for each event, with the case of it that the statement names. -/
theorem arrayEvents : Obligations.ArrayEvents := by
  intro c s k tile a n
  refine ⟨exec_rampStep_up, exec_rampStep_down, exec_arrayHoldExpiry, fun o v tr ho hk => ?full, fun o ho hr hb =>
    ⟨_, exec_swapTokenEnter ho hr hb, fun x v tr ph hx => ?token⟩, fun o => exec_swapComplete, fun o ta tc g z mask m next op ho hk hf =>
    ?row, fun o ta tc g z mask m next ho hk hn => ?complete⟩
  case full =>
    intro d op hg
    refine ⟨fun h0 => ?_, fun h0 => ?_⟩
    · exact (exec_shadowBankFull ho hk hg).trans (congrArg Host.Outcome.next (if_pos h0))
    · exact (exec_shadowBankFull ho hk hg).trans (congrArg Host.Outcome.next (if_neg h0))
  case token => simp only [ArrOp.tokenIn, hx]
  case row => exact fun hr hg hb => exec_arrayRowEnter hk ho hf hr hg hb
  case complete => exact exec_passComplete hk ho hn

end Sys2Proof.Machine
end

section
/-! The events of the epilogue: the rows, the tiles and the end of a drain (R183, R186, R211, R214 to R217, R668). -/

namespace Sys2Proof.Machine

section
variable {s : State} {c : Cid} {o : ArrOp} {sp : DrainSpec} {r : DrainRun}

/-! A row -/

/-- R211: the row is the first of a tile that has no value yet, whose prediction is due. -/
def DrainSpec.predicts (sp : DrainSpec) (m kind : Nat) : Bool := sp.smode = 2 && kind = 0 && m % 32 = 0

/-- The entry of a row's tile in the amax table. -/
def DrainSpec.entry (sp : DrainSpec) (tile m : Nat) : Nat × Nat := (tileBase tile + sp.amax + 8 * (m / 32), 8)

/-- What the epilogue reads for a row: its accumulators, and the entry of its tile. -/
def DrainSpec.rowReads (sp : DrainSpec) (tile m kind : Nat) : List (Nat × Nat) :=
  (Desc.dec sp.tC).rowRange tile m :: (if sp.predicts m kind then [sp.entry tile m] else [])

section
variable {m kind : Nat} {rest : List (Nat × Nat)}
variable (hd : (s.core c.code).array.drain = some (o, sp, r)) (ht : r.todo = (m, kind) :: rest)
variable (hb : ∀ x ∈ (s.core c.code).array.before o.id, ∀ ta tc g z mk op n, x.kind = .pass ta tc g z mk op n →
  rangesCross (x.writesLeft c.tile.val) [(Desc.dec sp.tC).rowRange c.tile.val m] = false)
variable (hg : s.rangesTag (sp.rowReads c.tile.val m kind) &&& ~~~r.tag = 0)
include hd ht hb hg

/-- R183, R668: what is left for the next row, where no earlier pass owes its accumulators and no line of it glides elsewhere. -/
theorem exec_drainRowBegin :
    exec (.drainRowBegin c) s = .next (
      if (sp.bad || s.rangesPoisoned (sp.rowReads c.tile.val m kind)) then s.drainPoison c.code o sp r
      else
        match s.drainAny c.code o sp { r with todo := rest } m kind
          ((s.accRow c.tile.val (Desc.dec sp.tC) m).zipIdx.map (fun x => s.epilogue sp x.2 x.1))
          (if sp.predicts m kind then predict sp (s.readNat (sp.entry c.tile.val m).1 4) else none) with
        | none => s
        | some (u, r') => u.setRun c.code o.id sp r') := by
  refine congrArg Host.Outcome.next ?_
  rw [hd]
  dsimp only
  rw [ht]
  refine (if_neg ?owed).trans ((if_neg (not_not_intro hg)).trans ?left)
  case left => rfl
  case owed =>
    intro howes
    obtain ⟨x, hx, hcross⟩ := List.any_eq_true.mp howes
    cases hk : x.kind with
    | load v tr ph =>
      rw [hk] at hcross
      exact Bool.false_ne_true hcross
    | drain =>
      rw [hk] at hcross
      exact Bool.false_ne_true hcross
    | pass ta tc g z mk op n =>
      rw [hk] at hcross
      exact Bool.eq_false_iff.mp (hb x hx ta tc g z mk op n hk) hcross

/-- R186: a drain that reads poison. -/
theorem exec_drainRowBegin_poison (hp : sp.bad = true ∨ s.rangesPoisoned (sp.rowReads c.tile.val m kind) = true) :
    exec (.drainRowBegin c) s = .next (s.drainPoison c.code o sp r) := by
  rw [exec_drainRowBegin hd ht hb hg, if_pos (Bool.or_eq_true_iff.mpr hp)]

/-- R183: a row is converted and written. -/
theorem exec_drainRowBegin_row (hgood : sp.bad = false) (hclean : s.rangesPoisoned (sp.rowReads c.tile.val m kind) = false)
    {u : State} {r' : DrainRun} (hu : s.drainAny c.code o sp { r with todo := rest } m kind
      ((s.accRow c.tile.val (Desc.dec sp.tC) m).zipIdx.map (fun x => s.epilogue sp x.2 x.1))
      (if sp.predicts m kind then predict sp (s.readNat (sp.entry c.tile.val m).1 4) else none) = some (u, r')) :
    exec (.drainRowBegin c) s = .next (u.setRun c.code o.id sp r') := by
  rw [exec_drainRowBegin hd ht hb hg, hgood, hclean, hu]
  rfl

end

/-! The check of a tile -/

/-- The values after step 3 of the rows of a tile. -/
def DrainSpec.tileValues (sp : DrainSpec) (r : DrainRun) (i : Nat) : List Num :=
  ((tileRows (Desc.dec sp.tC).rows i).flatMap (fun m => r.vals.getD m [])).map sp.num

/-- R214: a value of the tile overflows the output's format at an exponent. -/
def DrainSpec.tileFails (sp : DrainSpec) (r : DrainRun) (i : Nat) (e : Int) : Bool :=
  (sp.tileValues r i).any (fun x => fmtOverflows (Desc.dec sp.tD).fmt (x.scale (-e)))

/-- R215: the exponent at which a failed tile is tried again. -/
def DrainSpec.retryAt (sp : DrainSpec) (r : DrainRun) (i : Nat) (tl : DTile) (e : Int) : Int :=
  if tl.k = 0 then max (floorLog2 (amaxOf (sp.tileValues r i)) - emaxOf (Desc.dec sp.tD).fmt) (e + 1) else e + 1

/-- R215: the run of a drain whose tile is to be computed again. -/
def DrainRun.retry (r : DrainRun) (rows : List Nat) (i : Nat) (tl : DTile) (e : Int) : DrainRun :=
  { r with
    tiles := r.tiles.set i { tl with e := some (min e 127), k := tl.k + 1 }
    vals := r.vals.filter (fun x => !(rows.contains x.1))
    todo := r.todo.filter (fun x => x.2 = 2) ++ rows.map (fun m => (m, 1)) ++ r.todo.filter (fun x => x.2 ≠ 2) }

section
variable {i : Nat} {tl : DTile} {e : Int}
variable (hd : (s.core c.code).array.drain = some (o, sp, r)) (ht : r.tiles.find? (fun x => !x.2.final) = some (i, tl))
variable (he : tl.e = some e) (hv : ∀ m ∈ tileRows (Desc.dec sp.tC).rows i, (SMap.find r.vals m).isSome = true)
include hd ht he hv

/-- R214: what is left for the check of the earliest tile that is not final, every row of it computed. -/
theorem exec_drainTileCheck :
    let q := s.refuseDrain c.code sp r
    exec (.drainTileCheck c) s = .next (
      if !sp.tileFails r i e then
        match s.finishTile c.code o sp r i false with
        | none => s
        | some (u, r') => u.setRun c.code o.id sp r'
      else if tl.k = 2 then
        match q.1.finishTile c.code o sp q.2 i true with
        | none => q.1.setRun c.code o.id sp q.2
        | some (u, r') => (u.numFlag c.code Fd.TILE_NUM_STAT_SPRED_SAT true).setRun c.code o.id sp r'
      else (q.1.noteRetry c.code).setRun c.code o.id sp
        (q.2.retry (tileRows (Desc.dec sp.tC).rows i) i tl (sp.retryAt r i tl e))) := by
  have computed : ¬ (!(tileRows (Desc.dec sp.tC).rows i).all (fun x => (SMap.find r.vals x).isSome)) = true := by
    simp [List.all_eq_true.mpr hv]
  refine congrArg Host.Outcome.next ?_
  rw [hd]
  dsimp only
  rw [ht]
  dsimp only
  rw [he]
  exact (if_neg computed).trans rfl

/-- R214: a tile passes. -/
theorem exec_drainTileCheck_passes (hf : sp.tileFails r i e = false) {u : State} {r' : DrainRun}
    (hu : s.finishTile c.code o sp r i false = some (u, r')) :
    exec (.drainTileCheck c) s = .next (u.setRun c.code o.id sp r') := by
  rw [exec_drainTileCheck hd ht he hv, hf, hu]
  rfl

variable (hf : sp.tileFails r i e = true)
include hf

/-- R216: a tile that fails a third time is saturated. -/
theorem exec_drainTileCheck_saturates (hk : tl.k = 2) {u : State} {r' : DrainRun}
    (hu : (s.refuseDrain c.code sp r).1.finishTile c.code o sp (s.refuseDrain c.code sp r).2 i true = some (u, r')) :
    exec (.drainTileCheck c) s =
      .next ((u.numFlag c.code Fd.TILE_NUM_STAT_SPRED_SAT true).setRun c.code o.id sp r') := by
  rw [exec_drainTileCheck hd ht he hv, hf, if_pos hk, hu]
  rfl

/-- R215: a tile that fails before that is computed again. -/
theorem exec_drainTileCheck_retries (hk : tl.k ≠ 2) :
    let q := s.refuseDrain c.code sp r
    exec (.drainTileCheck c) s = .next ((q.1.noteRetry c.code).setRun c.code o.id sp
      (q.2.retry (tileRows (Desc.dec sp.tC).rows i) i tl (sp.retryAt r i tl e))) := by
  rw [exec_drainTileCheck hd ht he hv, hf, if_neg hk]
  rfl

end

/-! The end of a drain -/

/-- R216, R286, R478: a drain reports the saturation of a tile before a write discarded, and either before its barrier's answer. -/
theorem State.report_drain (s : State) (t pc f : Nat) (k : Option CmdRef) (fail lost : Bool) :
    s.report t (if fail then 0x0301 else if lost then 0x0511 else f) pc k =
      if fail then s.failLater t 0x0301 pc k
      else if lost then s.failLater t 0x0511 pc k
      else if f = 0 then s else s.failLater t (BitVec.ofNat 16 f) pc k := by
  cases fail with
  | true => rfl
  | false => cases lost <;> rfl

/-- R183: the earliest drain, every row begun, leaves the queue, its window closes and its bytes land. -/
theorem exec_drainComplete
    (ho : (s.core c.code).array.q.find? (fun o => match o.kind with | .drain _ _ => true | _ => false) = some o)
    (hk : o.kind = .drain sp r) (hb : drainBegun sp r = true) :
    let u := s.dropArr c.code o.id
    let closed := match r.window with | some w => u.closeWindow c.code w | none => u
    let q := closed.barLand o.bar o.ep ((Desc.dec sp.tD).rows * (Desc.dec sp.tD).rowBytes)
    exec (.drainComplete c) s = .next (q.1.report (c.code * 128 + o.th)
      (if r.fail then 0x0301 else if o.lost then 0x0511 else q.2) o.pc o.owner) := by
  refine congrArg Host.Outcome.next ?_
  split
  case h_1 none => cases none.symm.trans ho
  case h_2 o' found =>
    obtain rfl : o' = o := Option.some.inj (found.symm.trans ho)
    rw [hk]
    exact if_pos hb

end

/-- Settles O26: one lemma for each event, with each case of it. -/
theorem epilogueEvents : Obligations.EpilogueEvents := by
  intro c s k tile a
  refine ⟨fun o sp r m kind rest hd ht => ?row, fun o sp r i tl e hd ht he => ?check, fun o sp r ho hk hb => ?complete⟩
  case row =>
    intro dc src first entry reads hb hg
    exact ⟨exec_drainRowBegin_poison hd ht hb hg, fun hgood hclean u r' => exec_drainRowBegin_row hd ht hb hg hgood hclean⟩
  case check =>
    intro dc fmt rows vs fails q hv
    exact ⟨fun hf u r' => exec_drainTileCheck_passes hd ht he hv hf, fun hf hk u r' => exec_drainTileCheck_saturates hd ht he hv hf hk,
      exec_drainTileCheck_retries hd ht he hv⟩
  case complete =>
    exact (exec_drainComplete ho hk hb).trans (congrArg Host.Outcome.next (State.report_drain _ _ _ _ _ _ _))

end Sys2Proof.Machine
end

section
/-! How a weight update issues, and the arithmetic of one element (R219 to R229). -/

namespace Sys2Proof.Machine

/-! The encodings that MOD[15] tells apart -/

/-- Where bit 15 is zero already, clearing it changes nothing. -/
theorem and_low15_of_not_high {v : BitVec 16} (h : v.getLsbD 15 = false) : v &&& 0x7FFF = v := by
  have kept : ∀ i < 16, i ≠ 15 → (0x7FFF : BitVec 16).getLsbD i = true := by decide
  refine BitVec.eq_of_getLsbD_eq fun i hi => ?_
  rw [BitVec.getLsbD_and]
  by_cases h15 : i = 15
  · rw [h15, h, Bool.false_and]
  · rw [kept i hi h15, Bool.and_true]

theorem or_high_of_high {v : BitVec 16} (h : v.getLsbD 15 = true) : v ||| 0x8000 = v := by
  have clear : ∀ i < 16, i ≠ 15 → (0x8000 : BitVec 16).getLsbD i = false := by decide
  refine BitVec.eq_of_getLsbD_eq fun i hi => ?_
  rw [BitVec.getLsbD_or]
  by_cases h15 : i = 15
  · rw [h15, h, Bool.true_or]
  · rw [clear i hi h15, Bool.or_false]

section
variable {t : Tid} {w : IWord} {s : State}

theorem exec_wupd (hm : w.m 15 = false) : exec (.wupd t w) s = .next (wupdOp t w false s) := by
  show execWupd t w s = _
  simp only [execWupd, and_low15_of_not_high hm]

theorem exec_wupdSr (hm : w.m 15 = true) : exec (.wupdSr t w) s = .next (wupdOp t w true s) := by
  show execWupdSr t w s = _
  simp only [execWupdSr, or_high_of_high hm]

theorem exec_wupdAdam (hm : w.m 15 = false) : exec (.wupdAdam t w) s = .next (adamOp t w false s) := by
  show execWupdAdam t w s = _
  simp only [execWupdAdam, and_low15_of_not_high hm]

theorem exec_wupdAdamSr (hm : w.m 15 = true) : exec (.wupdAdamSr t w) s = .next (adamOp t w true s) := by
  show execWupdAdamSr t w s = _
  simp only [execWupdAdamSr, or_high_of_high hm]

end

/-! The checks of an update, and its run -/

/-- Descriptors that raise no fault raise none together. -/
theorem descFaults_eq_zero {l : List Nat} (h : ∀ x ∈ l, x = 0) : descFaults l = 0 := by
  have none {code : Nat} (hc : code ≠ 0) : ¬ l.contains code = true := fun hl => hc (h code (List.contains_iff_mem.mp hl))
  rw [descFaults, if_neg (none (by decide)), if_neg (none (by decide)), if_neg (none (by decide))]

/-- R223, R484: the regions of an update raise no fault, and their shapes and formats agree. -/
structure UpdateAllowed (c : Nat) (wd : Desc) (ins outs : List (Desc × List Nat)) : Prop where
  weights : wd.fault c true false = 0
  inputs : ∀ x ∈ ins, x.1.fault c false false = 0
  moments : ∀ x ∈ outs, x.1.fault c true false = 0
  shapes : wupdBad wd (ins ++ outs) = false

theorem UpdateAllowed.descFaults {c : Nat} {wd : Desc} {ins outs : List (Desc × List Nat)} (h : UpdateAllowed c wd ins outs) :
    descFaults (wd.fault c true false :: (ins.map (fun x => x.1.fault c false false) ++ outs.map (fun x => x.1.fault c true false)))
      = 0 := by
  refine descFaults_eq_zero fun x hx => ?_
  rcases List.mem_cons.mp hx with rfl | hx
  · exact h.weights
  rcases List.mem_append.mp hx with hin | hout
  · obtain ⟨y, hy, rfl⟩ := List.mem_map.mp hin
    exact h.inputs y hy
  · obtain ⟨y, hy, rfl⟩ := List.mem_map.mp hout
    exact h.moments y hy

/-- An access that opens leaves what a local address reads. -/
theorem State.Opens.readNat {s u : State} {t : Nat} {rd wr : List (Nat × Nat)} {tag : BitVec 8} (h : s.Opens t rd wr tag u)
    (a n : Nat) : u.readNat a n = s.readNat a n := by
  obtain ⟨ck, rfl⟩ := State.shadowLines_eq h.room
  rfl

/-- R219, R223: an update goes on with an entry that opens for reading and keeps the conditions. -/
theorem State.withLayer_opens {s v : State} {t : Tid} {off wfmt : Nat} {adam : Bool} {lt : BitVec 8} {l : Layer}
    (ho : s.Opens t.code [(tileBase t.tile.val + off, 48)] [] lt v) (hl : Layer.dec (s.readNat (tileBase t.tile.val + off) 48) = l)
    (hf : wfmt = l.wfmt) (hb : l.bad adam = false) (k : Layer → State → BitVec 8 → Eff) :
    s.withLayer t off adam wfmt k = k l v lt := by
  unfold State.withLayer
  dsimp only
  rw [State.access_opens ho, ho.readNat, hl, if_neg (not_not_intro hf), if_neg (Bool.eq_false_iff.mp hb)]

section
variable {t : Tid} {s : State} {tag : BitVec 8} {adam sr : Bool} {off : Nat} {wd : Desc} {ins outs : List (Desc × List Nat)}
variable (f : Layer → State → Nat → State) (ha : UpdateAllowed t.core.val wd ins outs)
include ha

/-- An update of no element retires alone. -/
theorem wupdBody_empty (h0 : wd.rows = 0 ∨ wd.cols = 0) : wupdBody t s tag adam sr off wd ins outs f = .retire s := by
  have empty : (decide (wd.rows ≠ 0) && decide (wd.cols ≠ 0)) = false := by
    rcases h0 with h | h <;> simp [h]
  unfold wupdBody
  simp only [ha.descFaults, ha.shapes, empty, ne_eq, not_true_eq_false, Bool.false_eq_true, false_and, if_false, Bool.not_false, if_true]

/-- R221: an update that nothing stops runs over every element. -/
theorem wupdBody_runs (hr : wd.rows ≠ 0) (hc : wd.cols ≠ 0) (hal : off % 16 = 0) (hlt : off < 2 ^ 28)
    (hin : inVatOrOwn t.core.val off 48 = true) {u v : State} {lt mt : BitVec 8} {l : Layer}
    (ho : s.Opens t.code [(tileBase t.tile.val + off, 48)] [] lt v) (hl : Layer.dec (s.readNat (tileBase t.tile.val + off) 48) = l)
    (hf : wd.fmt = l.wfmt) (hb : l.bad adam = false)
    (hv : v.Opens t.code ((wd :: (ins ++ outs).map (·.1)).flatMap (fun d => d.rowRanges t.tile.val))
      ((wd :: outs.map (·.1)).flatMap (fun d => d.rowRanges t.tile.val)) mt u) :
    wupdBody t s tag adam sr off wd ins outs f = .retire (u.wupdRun t.code (wd.rows * wd.cols) (f l)
      ((wd :: outs.map (·.1)).flatMap (fun d => d.rowRanges t.tile.val)) sr (tag ||| lt ||| mt)) := by
  have filled : (decide (wd.rows ≠ 0) && decide (wd.cols ≠ 0)) = true := by simp [hr, hc]
  have aligned : ¬ (off % 16 ≠ 0 ∨ 2 ^ 28 ≤ off) := by omega
  unfold wupdBody
  dsimp only
  rw [if_neg (not_not_intro ha.descFaults), if_neg (fun h => aligned h.2), if_neg (fun h => by simp [hin] at h),
    if_neg (Bool.eq_false_iff.mp ha.shapes), if_neg (by rw [filled]; decide), State.withLayer_opens ho hl hf hb, State.access_opens hv]

end

/-! The four instructions -/

/-- WUPD's own effect behind the guard, with the registers r. -/
def sgdBody (t : Tid) (w : IWord) (sr : Bool) (r : TRegs) (s : State) (tag : BitVec 8) : Eff :=
  let wd := Desc.dec (r.getD' w.a.toNat)
  let ud := Desc.dec (r.getD' w.b.toNat)
  let gc := fp32.dec ((r.getG w.c.toNat).toNat % 2 ^ 32)
  wupdBody t s tag false sr (r.getG w.d.toNat).toNat wd [(ud, [1])] []
    (fun l s i => s.sgdElem t.code t.tile.val l gc sr wd ud i)

/-- WUPD.ADAM's own effect behind the guard, with the registers r. -/
def adamBody (t : Tid) (w : IWord) (sr : Bool) (r : TRegs) (s : State) (tag : BitVec 8) : Eff :=
  let wd := Desc.dec (r.getD' w.a.toNat)
  let gd := Desc.dec (r.getD' w.b.toNat)
  let md := Desc.dec (r.getD' w.c.toNat)
  let vd := Desc.dec (r.getD' w.d.toNat)
  let gc := fp32.dec ((r.getG (w.f 0)).toNat % 2 ^ 32)
  wupdBody t s tag true sr (r.getG (w.f 1)).toNat wd [(gd, [0, 1])] [(md, [1]), (vd, [1])]
    (fun l s i => s.adamElem t.code t.tile.val l gc sr wd gd md vd i)

/-- The registers that WUPD reads. -/
def sgdReads (w : IWord) : List Nat := [dR w.a.toNat, dR w.b.toNat, gR w.c.toNat, gR w.d.toNat]

/-- The registers that WUPD.ADAM reads. -/
def adamReads (w : IWord) : List Nat := [dR w.a.toNat, dR w.b.toNat, dR w.c.toNat, dR w.d.toNat, gR (w.f 0), gR (w.f 1)]

/-- R229: a word whose guard is 0 and that leaves the draws behind retires with COUNTER moved on alone. -/
theorem State.issue_draws {s : State} {t : Tid} {w : IWord} {sp : Spec}
    (h : s.Ready t w sp.ok sp.gate (sp.reads ++ sp.writes)) (hl : sp.lane = false) (he : ¬ s.Enabled t w)
    (ho : sp.off = State.wupdOff t.code w true) (body : State → BitVec 8 → Eff) :
    let d := Desc.dec ((s.regs t.code).getD' w.a.toNat)
    s.issue t w sp body = s.retire t w (fun q => { q with ctr := q.ctr + BitVec.ofNat 58 ((d.rows * d.cols + 63) / 64) }) := by
  intro d
  have drawn : State.wupdOff t.code w true (s.pastGuard t w) = (s.pastGuard t w).modRegs t.code
      (fun q => { q with ctr := q.ctr + BitVec.ofNat 58 ((d.rows * d.cols + 63) / 64) }) := by
    simp only [State.wupdOff, State.drawn, State.regs_pastGuard, TRegs.getD'_past, if_true, d]
  rw [State.issue_ready h, State.guarded_disabled hl he, ho, drawn]
  exact Eff.finish_retire_pastGuard s t w _ (fun _ => rfl)

/-- What WUPD asks of a word that is ready. -/
def SgdReady (s : State) (t : Tid) (w : IWord) (sr : Bool) : Prop :=
  s.Ready t w (({ a := .d, b := .d, c := .g, d := .g, mods := if sr then 0x8000 else 0 } : Form).ok w)
    (Desc.dec ((s.regs t.code).getD' w.a.toNat)).inVat (sgdReads w)

/-- What WUPD.ADAM asks of a word that is ready. -/
def AdamReady (s : State) (t : Tid) (w : IWord) (sr : Bool) : Prop :=
  s.Ready t w
    (({ a := .d, b := .d, c := .d, d := .d, mods := if sr then 0x8000 else 0, x := .fields [0, 1] } : Form).ok w)
    ((Desc.dec ((s.regs t.code).getD' w.a.toNat)).inVat || (Desc.dec ((s.regs t.code).getD' w.c.toNat)).inVat
      || (Desc.dec ((s.regs t.code).getD' w.d.toNat)).inVat) (adamReads w)

section
variable {s : State} {t : Tid} {w : IWord} {sr : Bool}

theorem SgdReady.spec (h : SgdReady s t w sr) :
    s.Ready t w (({ a := .d, b := .d, c := .g, d := .g, mods := if sr then 0x8000 else 0 } : Form).ok w)
      (wupdGate (s.regs t.code) [w.a.toNat]) (sgdReads w ++ []) := by
  simp only [wupdGate, List.any_cons, List.any_nil, Bool.or_false, List.append_nil]
  exact h

theorem AdamReady.spec (h : AdamReady s t w sr) :
    s.Ready t w
      (({ a := .d, b := .d, c := .d, d := .d, mods := if sr then 0x8000 else 0, x := .fields [0, 1] } : Form).ok w)
      (wupdGate (s.regs t.code) [w.a.toNat, w.c.toNat, w.d.toNat]) (adamReads w ++ []) := by
  simp only [wupdGate, List.any_cons, List.any_nil, Bool.or_false, List.append_nil, ← Bool.or_assoc]
  exact h

theorem wupdOp_retires (he : s.Enabled t w) (hr : SgdReady s t w sr) {u : State}
    (hb : sgdBody t w sr (s.regs t.code) (s.pastGuard t w) ((s.regs t.code).resultTag w (sgdReads w)) = .retire u) :
    wupdOp t w sr s = u.advance t w := by
  refine State.issue_retires hr.spec rfl he ?_
  simp only [State.regs_pastGuard, TRegs.getD'_past, TRegs.getG_past]
  exact hb

theorem adamOp_retires (he : s.Enabled t w) (hr : AdamReady s t w sr) {u : State}
    (hb : adamBody t w sr (s.regs t.code) (s.pastGuard t w) ((s.regs t.code).resultTag w (adamReads w)) = .retire u) :
    adamOp t w sr s = u.advance t w := by
  refine State.issue_retires hr.spec rfl he ?_
  simp only [State.regs_pastGuard, TRegs.getD'_past, TRegs.getG_past]
  exact hb

end

/-! One element -/

/-- An exact value is finite. -/
theorem Dy.isFin_num (a : Dy) (z : Bool) : (a.num z).isFin = true := by
  unfold Dy.num
  split <;> rfl

/-- R221: the weight of an update by the gradient, with a clip factor that is finite. -/
theorem Layer.sgd_finite (l : Layer) {gc : Num} (wv u : Dy) (h : gc.isFin = true) :
    (l.sgd gc wv u).x = some ((wv.add (wx (((dy32 l.lr).mul (dy32 l.wd)).mul wv)).neg).add
      (wx (((dy32 l.lr).mul gc.dy).mul (u.shift (-l.bu)))).neg) := by
  unfold Layer.sgd
  simp only [h, Bool.not_true, Bool.false_eq_true, if_false]

section
variable (l : Layer) (gc : Num) (wv g m v : Dy)

/-- R222: the first moment before it is stored. -/
theorem Layer.adam_m1 : (l.adam gc wv g m v).m1 =
    wx (((dy32 l.b1).mul (m.shift (-l.bm))).add ((dy32 l.ob1).mul (wx (gc.dy.mul g)))) := by
  unfold Layer.adam
  dsimp only
  split <;> rfl

/-- R222: the second moment before it is stored. -/
theorem Layer.adam_v1 : (l.adam gc wv g m v).v1 =
    wx (((dy32 l.b2).mul (v.shift (-l.bv))).add (((dy32 l.ob2).mul (wx (gc.dy.mul g))).mul (wx (gc.dy.mul g)))) := by
  unfold Layer.adam
  dsimp only
  split <;> rfl

/-- R222: the weight, where the radicand has a root and the numerator is not zero. -/
theorem Layer.adam_x (hrad : 0 < (wx ((dy32 l.bc2).mul (l.adam gc wv g m v).v1)).m)
    (hnum : (wx ((dy32 l.bc1).mul (l.adam gc wv g m v).m1)).m ≠ 0) :
    let den := wx ((wx (sqrtDy (wx ((dy32 l.bc2).mul (l.adam gc wv g m v).v1)))).add (dy32 l.eps))
    (l.adam gc wv g m v).x = some ((wv.add (wx (((dy32 l.lr).mul (dy32 l.wd)).mul wv)).neg).add
      (wx ((dy32 l.lr).mul (wx (quot (wx ((dy32 l.bc1).mul (l.adam gc wv g m v).m1)) den)))).neg) := by
  rw [Layer.adam_v1] at hrad ⊢
  rw [Layer.adam_m1] at hnum ⊢
  unfold Layer.adam
  dsimp only
  rw [if_neg (Int.not_lt.mpr (Int.le_of_lt hrad)), if_neg (Int.ne_of_gt hrad), if_neg hnum]

end

section
variable (s : State) (t tile : Nat) (l : Layer) (gc : Num) (sr : Bool)

/-- An element of a region is not finite. -/
def State.notFinAt (s : State) (tile : Nat) (d : Desc) (i : Nat) : Bool := !(decFmt d.fmt 0 (s.elemAt tile d i)).isFin

/-- R225: an element with an input that is not finite is kept. -/
theorem State.sgdElem_skips {wd ud : Desc} {i : Nat} (h : (s.notFinAt tile wd i || s.notFinAt tile ud i) = true) :
    s.sgdElem t tile l gc sr wd ud i = s.noteSkip (coreOf t) := by
  unfold State.sgdElem
  exact if_pos (by rw [Bool.not_and]; exact h)

theorem State.adamElem_skips {wd gd md vd : Desc} {i : Nat}
    (h : (s.notFinAt tile wd i || s.notFinAt tile gd i || s.notFinAt tile md i || s.notFinAt tile vd i) = true) :
    s.adamElem t tile l gc sr wd gd md vd i = s.noteSkip (coreOf t) := by
  unfold State.adamElem
  exact if_pos (by rw [Bool.not_and, Bool.not_and, Bool.not_and]; exact h)

end

/-- Settles O22: each instruction by its run or, with its guard 0, by its draws; the counter; and the arithmetic of one element. -/
theorem weightUpdates : Obligations.WeightUpdates := by
  refine ⟨fun t w s u mt he => ?acts, fun t w s hoff hm => ?guardZero, fun s t n f wrs tag => rfl, fun l gc wv g m v => ?element,
    fun s t tile l gc sr wd ud gd md vd i => ?skips⟩
  case acts =>
    intro th tile c r p dA dB dC dD updates
    have runs (i : Instr) (sr adam : Bool) (off : Nat) (ins outs : List (Desc × List Nat)) (tag : BitVec 8)
        (f : Layer → State → Nat → State)
        (hi : ∀ x, wupdBody t p tag adam sr off dA ins outs f = .retire x → exec i s = .next (x.advance t w)) :
        updates i sr adam off ins outs tag f := by
      intro weights inputs moments shapes
      have allowed : UpdateAllowed c dA ins outs := ⟨weights, inputs, moments, shapes⟩
      refine ⟨fun h0 => ?_, fun hr hc hal hlt hin v lt ho hf hb hv => hi _ (wupdBody_runs f allowed hr hc hal hlt hin ho rfl hf hb hv)⟩
      rw [hi p (wupdBody_empty f allowed h0), State.advance_pastGuard]
    refine ⟨?sgd, ?adam⟩
    case sgd =>
      intro reads gc off go
      have acts {i : Instr} {sr : Bool} (hi : exec i s = .next (wupdOp t w sr s)) (hr : SgdReady s t w sr) : go i sr :=
        runs i sr false off [(dB, [1])] [] (r.resultTag w reads) (fun l q i => q.sgdElem th tile l gc sr dA dB i)
          fun x hx => hi.trans (congrArg _ (wupdOp_retires he hr hx))
      exact ⟨fun hm hr => acts (exec_wupd hm) hr, fun hm hr => acts (exec_wupdSr hm) hr⟩
    case adam =>
      intro reads gc off gate go
      have acts {i : Instr} {sr : Bool} (hi : exec i s = .next (adamOp t w sr s)) (hr : AdamReady s t w sr) : go i sr :=
        runs i sr true off [(dB, [0, 1])] [(dC, [1]), (dD, [1])] (r.resultTag w reads)
          (fun l q i => q.adamElem th tile l gc sr dA dB dC dD i) fun x hx => hi.trans (congrArg _ (adamOp_retires he hr hx))
      exact ⟨fun hm hr => acts (exec_wupdAdam hm) hr, fun hm hr => acts (exec_wupdAdamSr hm) hr⟩
  case guardZero =>
    refine ⟨fun hr => ?_, fun hr => ?_⟩
    · have ready : SgdReady s t w true := hr
      rw [exec_wupdSr hm, wupdOp, State.issue_draws ready.spec rfl hoff rfl]
    · have ready : AdamReady s t w true := hr
      rw [exec_wupdAdamSr hm, adamOp, State.issue_draws ready.spec rfl hoff rfl]
  case element =>
    intro lr decay n u
    refine ⟨l.sgd_finite wv g (gc.isFin_num false), l.adam_m1 n wv g m v, l.adam_v1 n wv g m v, fun hrad hnum => ?_⟩
    rw [← l.adam_v1 n wv g m v] at hrad
    rw [← l.adam_m1 n wv g m v] at hnum
    rw [l.adam_x n wv g m v hrad hnum, Layer.adam_v1, Layer.adam_m1]
  case skips =>
    exact ⟨fun h => by rw [s.sgdElem_skips t tile l gc sr h, State.noteSkip_mem],
      fun h => by rw [s.adamElem_skips t tile l gc sr h, State.noteSkip_mem]⟩

end Sys2Proof.Machine
end

section
/-! The row statistics: what a write leaves of the registers, and what each instruction writes (R250 to R254). -/

namespace Sys2Proof.Machine

/-! A write of memory leaves every vector register as it is: a barrier object that it breaks may stop threads, and does no more to them. -/

/-- What every step of a fold leaves as it is, the fold leaves so. -/
theorem foldl_leaves {α β σ : Type} (view : σ → β) (g : σ → α → σ) (h : ∀ s x, view (g s x) = view s) (l : List α) (s : σ) :
    view (l.foldl g s) = view s :=
  List.foldlRecOn (motive := fun u => view u = view s) l g rfl fun u hu x _ => (h u x).trans hu

section
variable (s : State)

theorem State.flagFld_threads (f : Fld) (c : Bool) : (s.flagFld f c).threads = s.threads := by
  unfold State.flagFld
  split <;> rfl

theorem State.putByte_threads (a : Nat) (b : Byte) : (s.putByte a b).threads = s.threads := by
  unfold State.putByte
  repeat' split
  all_goals rfl

theorem State.putCells_threads (cells : List (Nat × Byte)) : (s.putCells cells).threads = s.threads := by
  refine foldl_leaves State.threads _ (fun s c => ?_) cells s
  exact s.putByte_threads c.1 c.2

theorem State.storeLine_threads (cells : List (Nat × Byte)) (acc : State × Bool) (l : Nat) :
    (s.storeLine cells acc l).1.threads = acc.1.threads := by
  unfold State.storeLine
  dsimp only
  split
  · rfl
  split
  · exact acc.1.putCells_threads _
  split
  · rfl
  · exact acc.1.putCells_threads _

theorem State.initRegion_threads (k : Tier) (r : Nat) : (s.initRegion k r).threads = s.threads := by
  unfold State.initRegion
  extract_lets key n s1 s2 s3
  split
  · exact s3.flagFld_threads _ _
  · rfl

theorem State.touch1_threads (a : Nat) : (s.touch1 a).threads = s.threads := by
  unfold State.touch1
  split
  case h_3 => rfl
  all_goals exact s.initRegion_threads _ _

theorem State.voidScrubs_threads (ls : List Nat) : (s.voidScrubs ls).threads = s.threads := by
  unfold State.voidScrubs
  split <;> rfl

/-- Bytes that reach their cells change no thread. -/
theorem State.write_threads (cells : List (Nat × Byte)) : (s.write cells).1.threads = s.threads := by
  unfold State.write State.touchCells
  dsimp only
  rw [State.voidScrubs_threads, foldl_leaves State.threads _ State.touch1_threads,
    foldl_leaves (fun a : State × Bool => a.1.threads) _ (s.storeLine_threads cells)]

theorem State.knowBar_threads (a : Nat) : (s.knowBar a).threads = s.threads := rfl

theorem State.setBar_threads (a : Nat) (b : Bar) : (s.setBar a b).threads = s.threads := by
  rw [State.setBar, State.knowBar_threads, State.write_threads]

theorem State.log_threads (code detail : Nat) : (s.log code detail).threads = s.threads := by
  unfold State.log State.logRec State.raiseVec
  dsimp only
  repeat' split
  all_goals rfl

theorem State.addLineTag_threads (l : Nat) (tag : BitVec 8) (owner : Nat) : (s.addLineTag l tag owner).threads = s.threads := by
  unfold State.addLineTag
  repeat' split
  all_goals rfl

theorem State.tagWritten_threads (t : Nat) (cells : List (Nat × Byte)) (tag : BitVec 8) :
    (s.tagWritten t cells tag).threads = s.threads := by
  refine foldl_leaves State.threads _ (fun s l => ?_) _ s
  split
  · rfl
  · exact s.addLineTag_threads _ _ _

theorem State.convFlags_threads (c : Nat) (cs : List Conv) : (s.convFlags c cs).threads = s.threads := by
  unfold State.convFlags State.numFlag
  dsimp only
  rw [State.flagFld_threads, State.flagFld_threads, State.flagFld_threads]

end

/-- The vector registers of a thread. -/
def State.vectors (s : State) (t : Nat) : SMap (BitVec 2048) := (s.regs t).v

section
variable (s : State) (q t : Nat)

theorem State.vectors_of_threads {s u : State} (h : u.threads = s.threads) : u.vectors q = s.vectors q := by
  unfold State.vectors State.regs State.thread
  rw [h]

/-- A thread put back with its vector registers changes no vector register of any thread. -/
theorem State.setThread_vectors {x : Thread} (hx : x.regs.v = (s.thread t).regs.v) : (s.setThread t x).vectors q = s.vectors q := by
  unfold State.vectors State.regs
  by_cases h : q = t
  · rw [h, State.thread_setThread_self, hx]
  · rw [State.thread_setThread_ne s t q x h]

theorem State.haltThread_vectors (code : BitVec 16) (pc : Nat) : (s.haltThread t code pc).vectors q = s.vectors q := by
  unfold State.haltThread
  dsimp only
  split <;> exact s.setThread_vectors q t rfl

theorem State.endPeer_vectors : (s.endPeer t).vectors q = s.vectors q := by
  unfold State.endPeer
  dsimp only
  split
  case h_3 => exact s.setThread_vectors q t rfl
  case h_4 => exact s.haltThread_vectors q t _ _
  all_goals rfl

theorem State.endLaunch_vectors (owner : Option CmdRef) (code : BitVec 16) : (s.endLaunch owner code).vectors q = s.vectors q := by
  unfold State.endLaunch
  split
  · rfl
  split
  · rfl
  split
  · rfl
  · exact foldl_leaves (State.vectors · q) _ (fun s t => s.endPeer_vectors q t) _ _

/-- R105, R133: a fault at issue leaves the vector registers of every thread. -/
theorem State.raise_vectors (code n : Nat) : (s.raise t code n).vectors q = s.vectors q := by
  unfold State.raise State.stopThread
  dsimp only
  split
  · exact s.setThread_vectors q t rfl
  · rw [State.endLaunch_vectors, State.haltThread_vectors]

/-- R88: a barrier that breaks leaves the vector registers of every thread. -/
theorem State.breakBar_vectors (a : Nat) (b : Bar) : (s.breakBar a b).vectors q = s.vectors q := by
  unfold State.breakBar
  refine (foldl_leaves (State.vectors · q) _ (fun s t => s.raise_vectors q t 0x0107 8) _ _).trans ?_
  exact State.vectors_of_threads q (s.setBar_threads a _)

/-- R83: what a write does to barrier objects leaves the vector registers of every thread. -/
theorem State.storeOverBars_vectors (u : State) (cells : List (Nat × Byte)) :
    (s.storeOverBars u cells).vectors q = s.vectors q := by
  refine foldl_leaves (State.vectors · q) _ (fun s e => ?_) _ s
  dsimp only
  repeat' split
  case isTrue.isFalse => exact s.breakBar_vectors q _ _
  all_goals rfl

theorem State.store_vectors (cells : List (Nat × Byte)) : (s.store cells).1.vectors q = s.vectors q := by
  have stored : ((s.write cells).1.storeOverBars s cells).vectors q = s.vectors q := by
    rw [State.storeOverBars_vectors, State.vectors_of_threads q (s.write_threads cells)]
  unfold State.store
  dsimp only
  split
  · exact (State.vectors_of_threads q (State.log_threads _ _ _)).trans stored
  · exact stored

/-- A tagged write and the flags of its conversions leave the vector registers of every thread. -/
theorem State.convFlags_putTagged_vectors (c : Nat) (cs : List Conv) (cells : List (Nat × Byte)) (tag : BitVec 8) :
    ((s.putTagged t cells tag).convFlags c cs).vectors q = s.vectors q := by
  rw [State.vectors_of_threads q (State.convFlags_threads _ c cs), State.putTagged,
    State.vectors_of_threads q (State.tagWritten_threads _ t _ tag), State.store_vectors]

theorem State.getV_convFlags_putTagged (c i : Nat) (cs : List Conv) (cells : List (Nat × Byte)) (tag : BitVec 8) :
    (((s.putTagged t cells tag).convFlags c cs).regs q).getV i = (s.regs q).getV i :=
  congrArg (SMap.getD · i 0) (s.convFlags_putTagged_vectors q t c cs cells tag)

end

/-! What the six instructions share -/

theorem coreIdx_coreOf_code (t : Tid) : coreIdx (coreOf t.code) = t.core.val := by
  have hc := t.core.isLt
  have ht := t.th.isLt
  unfold coreIdx coreOf Tid.code
  omega

/-- A change of a thread's registers depends on what it makes of the registers that stand. -/
theorem State.modRegs_congr {s : State} {t : Nat} {f g : TRegs → TRegs} (h : f (s.regs t) = g (s.regs t)) :
    s.modRegs t f = s.modRegs t g := by
  unfold State.regs at h
  unfold State.modRegs
  rw [h]

/-- A ready word whose effect changes nothing behind the guard retires alone. -/
theorem State.issue_idles {s : State} {t : Tid} {w : IWord} {sp : Spec} (h : s.Ready t w sp.ok sp.gate (sp.reads ++ sp.writes))
    (hl : sp.lane = false) (he : s.Enabled t w) {body : State → BitVec 8 → Eff}
    (hb : body (s.pastGuard t w) ((s.regs t.code).resultTag w sp.reads) = .retire (s.pastGuard t w)) :
    s.issue t w sp body = s.retire t w id := by
  rw [State.issue_retires h hl he hb, State.advance_pastGuard]

/-- An access that opens behind the guard has the registers behind the guard. -/
theorem State.Opens.regs_past {s u : State} {t : Tid} {w : IWord} {rd wr : List (Nat × Nat)} {tag : BitVec 8}
    (h : (s.pastGuard t w).Opens t.code rd wr tag u) : u.regs t.code = (s.regs t.code).past w := by
  rw [h.regs, State.regs_pastGuard]

/-- R69, R252: a region that a row statistic may read: it raises no fault, is of an input format and has at most 64 rows. -/
structure RowReadable (c : Nat) (d : Desc) : Prop where
  sound : d.fault c false false = 0
  format : d.rowInput = true
  rows : d.rows ≤ 64

/-- An input region that may be read passes the checks before its use. -/
theorem RowReadable.passes {c : Nat} {d : Desc} (h : RowReadable c d) (s : State) (k : Eff) :
    (if d.fault c false false ≠ 0 then .fault (d.fault c false false) s
      else if !d.rowInput then .fault 0x0401 s else if 64 < d.rows then .fault 0x0402 s else k) = k := by
  rw [if_neg (not_not_intro h.sound), if_neg (by rw [h.format]; decide), if_neg (Nat.not_lt.mpr h.rows)]

/-- R69, R252, R253: the scores d and the exponentials p of a ROW.SUMEXP, whose shapes agree and which share no byte but in the coincidence that is allowed. -/
structure RowPair (c tile : Nat) (d p : Desc) : Prop where
  scores : RowReadable c d
  sound : p.fault c true false = 0
  format : p.rowProb = true
  rows : p.rows = d.rows
  cols : p.cols = d.cols
  apart : d.some = true → rowsClash tile d p = false

theorem RowPair.passes {c tile : Nat} {d p : Desc} (h : RowPair c tile d p) (s : State) (k : Eff) :
    (if descFaults [d.fault c false false, p.fault c true false] ≠ 0 then
        .fault (descFaults [d.fault c false false, p.fault c true false]) s
      else if !d.rowInput || !p.rowProb then .fault 0x0401 s
      else if 64 < d.rows ∨ p.rows ≠ d.rows ∨ p.cols ≠ d.cols ∨ (d.some ∧ rowsClash tile d p) then .fault 0x0402 s else k) = k := by
  have sound : descFaults [d.fault c false false, p.fault c true false] = 0 :=
    descFaults_eq_zero (by simp [h.scores.sound, h.sound])
  have shapes : ¬ (64 < d.rows ∨ p.rows ≠ d.rows ∨ p.cols ≠ d.cols ∨ (d.some = true ∧ rowsClash tile d p = true)) := by
    rintro (hr | hr | hc | ⟨hsome, hclash⟩)
    · exact Nat.not_lt.mpr h.scores.rows hr
    · exact hr h.rows
    · exact hc h.cols
    · exact Bool.eq_false_iff.mp (h.apart hsome) hclash
  rw [if_neg (not_not_intro sound), if_neg (by rw [h.scores.format, h.format]; decide), if_neg shapes]

/-- R69, R252: a region that ROW.RESCALE.T may rescale: it raises no fault, is FP32 without scales and has at most 64 rows. -/
structure RowScalable (c : Nat) (d : Desc) : Prop where
  sound : d.fault c true false = 0
  format : d.fmt = 0
  plain : d.scaleEn = false
  rows : d.rows ≤ 64

theorem RowScalable.passes {c : Nat} {d : Desc} (h : RowScalable c d) (s : State) (k : Eff) :
    (if d.fault c true false ≠ 0 then .fault (d.fault c true false) s
      else if d.fmt ≠ 0 ∨ d.scaleEn then .fault 0x0401 s else if 64 < d.rows then .fault 0x0402 s else k) = k := by
  have format : ¬ (d.fmt ≠ 0 ∨ d.scaleEn = true) := by simp [h.format, h.plain]
  rw [if_neg (not_not_intro h.sound), if_neg format, if_neg (Nat.not_lt.mpr h.rows)]

/-- Settles O20: each instruction passes its checks and opens its regions, and writes what its rows give. -/
theorem rowStatistics : Obligations.RowStatistics := by
  intro t w s u mt he th tile r a p A B C dA dB dC dD vec keep input
  have readable {d : Desc} : input d → RowReadable t.core.val d := fun ⟨sound, format, rows⟩ => ⟨sound, format, rows⟩
  refine ⟨?max, ?sumexp, ?rescale, ?rescaleT, ?part, ?fin⟩
  case max =>
    intro tag hr hin ho
    refine congrArg Host.Outcome.next (State.issue_retires hr rfl he ?_)
    simp only [State.regs_pastGuard, TRegs.getD'_past, coreIdx_coreOf_code]
    rw [(readable hin).passes, State.access_opens ho]
    refine congrArg Eff.retire (State.modRegs_congr ?_)
    simp only [ho.regs_past, TRegs.getV_past, TRegs.tag_past]
    rfl
  case sumexp =>
    intro tag hr hin sound format rows cols
    have pair (apart : dC.some = true → rowsClash tile dC dD = false) : RowPair t.core.val tile dC dD :=
      ⟨readable hin, sound, format, rows, cols, apart⟩
    refine ⟨fun h0 => ?empty, fun hsome apart ho => ?filled⟩
    case empty =>
      refine congrArg Host.Outcome.next (State.issue_idles hr rfl he ?_)
      simp only [State.regs_pastGuard, TRegs.getD'_past, coreIdx_coreOf_code]
      rw [(pair fun hsome => absurd hsome (Bool.eq_false_iff.mp h0)).passes, h0]
      rfl
    case filled =>
      refine congrArg Host.Outcome.next (State.issue_retires hr rfl he ?_)
      simp only [State.regs_pastGuard, TRegs.getD'_past, TRegs.getV_past, TRegs.tag_past, coreIdx_coreOf_code]
      rw [(pair fun _ => apart).passes, hsome, State.access_opens ho]
      refine congrArg Eff.retire (State.modRegs_congr ?_)
      rw [State.getV_convFlags_putTagged, ho.regs_past, TRegs.getV_past]
  case rescale =>
    intro tag hr hn
    refine congrArg Host.Outcome.next (State.issue_retires hr rfl he ?_)
    simp only [if_neg (Nat.not_lt.mpr hn)]
    refine congrArg Eff.retire (State.modRegs_congr ?_)
    simp only [State.regs_pastGuard, TRegs.getV_past, TRegs.tag_past]
    rfl
  case rescaleT =>
    intro tag hr sound format plain rows
    have allowed : RowScalable t.core.val dA := ⟨sound, format, plain, rows⟩
    refine ⟨fun h0 => ?empty, fun hsome ho => ?filled⟩
    case empty =>
      refine congrArg Host.Outcome.next (State.issue_idles hr rfl he ?_)
      simp only [State.regs_pastGuard, TRegs.getD'_past]
      rw [allowed.passes, h0]
      rfl
    case filled =>
      refine congrArg Host.Outcome.next (State.issue_retires hr rfl he ?_)
      simp only [State.regs_pastGuard, TRegs.getD'_past, TRegs.getV_past]
      rw [allowed.passes, hsome, State.access_opens ho]
      rfl
  case part =>
    intro tag hr hin
    refine ⟨fun h0 => ?empty, fun hsome ho => ?filled⟩
    case empty =>
      refine congrArg Host.Outcome.next (State.issue_idles hr rfl he ?_)
      simp only [State.regs_pastGuard, TRegs.getD'_past]
      rw [(readable hin).passes, h0]
      rfl
    case filled =>
      refine congrArg Host.Outcome.next (State.issue_retires hr rfl he ?_)
      simp only [State.regs_pastGuard, TRegs.getD'_past]
      rw [(readable hin).passes, hsome, State.access_opens ho]
      refine congrArg Eff.retire (State.modRegs_congr ?_)
      simp only [ho.regs_past, TRegs.getV_past, TRegs.tag_past]
      rfl
  case fin =>
    intro tag n ge hr hn
    refine ⟨fun hbad => ?fault, fun hnz hfin hpos => ?root⟩
    case fault =>
      refine congrArg Host.Outcome.next (State.issue_faults hr rfl he ?_)
      simp only [State.regs_pastGuard, TRegs.getG_past, if_neg (Nat.not_lt.mpr hn)]
      exact if_pos (hbad.imp_right (Or.imp_left (congrArg (!·))))
    case root =>
      refine congrArg Host.Outcome.next (State.issue_retires hr rfl he ?_)
      simp only [State.regs_pastGuard, TRegs.getG_past, if_neg (Nat.not_lt.mpr hn)]
      rw [if_neg ?good]
      case good =>
        rintro (h0 | hinf | ⟨hneg, hm⟩)
        · exact hnz h0
        · exact Bool.eq_false_iff.mp ((Bool.not_eq_true' _).mp hinf) hfin
        · exact hpos.elim (fun h => Bool.eq_false_iff.mp h hneg) hm
      refine congrArg Eff.retire (State.modRegs_congr ?_)
      simp only [State.regs_pastGuard, TRegs.getV_past, TRegs.tag_past]
      rfl

end Sys2Proof.Machine
end

section
/-! The transactions of a tile's memory engine: when one moves, what it moves, and how a run is cut into pieces (R260, R269, R285,
R286, R490). -/

namespace Sys2Proof.Machine

/-! The pieces of a run -/

section
variable {src dst len : Nat}

theorem mvPiece_pos (h : 0 < len) : 0 < mvPiece src dst len := by
  unfold mvPiece
  omega

theorem mvPiece_le : mvPiece src dst len ≤ len := Nat.min_le_left ..

theorem mvPiece_le_source : mvPiece src dst len ≤ 256 - src % 256 :=
  Nat.le_trans (Nat.min_le_right ..) (Nat.min_le_left ..)

theorem mvPiece_le_destination : mvPiece src dst len ≤ 256 - dst % 256 :=
  Nat.le_trans (Nat.min_le_right ..) (Nat.min_le_right ..)

end

/-- Bytes that end before the next multiple of 256 lie in one aligned span. -/
theorem one_span {a k : Nat} (h0 : 0 < k) (h : k ≤ 256 - a % 256) : a / 256 = (a + k - 1) / 256 := by omega

theorem Copy.nextPiece_mv {c : Copy} {a b n : Nat} {cnt : Bool} {r : List TxnOp} (h : c.segs = .mv a b n cnt :: r) :
    let k := mvPiece a b n
    c.nextPiece = some (.mv a b k cnt, if n ≤ k then r else .mv (a + k) (b + k) (n - k) cnt :: r) := by
  simp only [Copy.nextPiece, h]

/-! From the command to the move -/

section
variable {tile : Fin 36} {id : Nat} {s : State}

theorem exec_engineTransactionComplete_absent (hx : SMap.find (s.tile tile.val).txns id = none) :
    exec (.engineTransactionComplete tile id) s = .next s := by
  change execEngineTransactionComplete tile id s = _
  rw [execEngineTransactionComplete, hx]

variable {x : Txn} {c : Copy} (hx : SMap.find (s.tile tile.val).txns id = some x)
  (hc : SMap.find (s.tile tile.val).copies x.copy = some c)
include hx hc

/-- A transaction of a copy moves when the compute part is up and it is ready. -/
theorem exec_engineTransactionComplete : exec (.engineTransactionComplete tile id) s =
    if s.computeUp ∧ s.txnReady tile.val id c x then .next (s.moveTxn tile.val id c x) else .next s := by
  change execEngineTransactionComplete tile id s = _
  simp only [execEngineTransactionComplete, hx, hc]

theorem exec_engineTransactionComplete_unready (hr : s.txnReady tile.val id c x = false) :
    exec (.engineTransactionComplete tile id) s = .next s := by
  rw [exec_engineTransactionComplete hx hc, if_neg (by simp [hr])]

theorem exec_engineTransactionComplete_ready (up : s.computeUp = true) (hr : s.txnReady tile.val id c x = true) :
    exec (.engineTransactionComplete tile id) s = .next (s.moveTxn tile.val id c x) := by
  rw [exec_engineTransactionComplete hx hc, if_pos ⟨up, hr⟩]

end

/-! What a transaction that may move does -/

/-- R270: the regions of this module that a transaction reads are initialised first. -/
def State.touchSources (s : State) (x : Txn) : State :=
  x.op.sources.foldl (fun s r => if s.here r.1 then s.touch (devSplit r.1).2 r.2 else s) s

/-- R285: a transaction would carry a poisoned byte past the edge of the module. -/
def State.PoisonLeaves (s : State) (c : Copy) (x : Txn) : Prop :=
  s.pastEdge (c.target x.op).1 = true ∧ (s.txnBytes c x).any (·.2) = true

section
variable {s : State} {c : Copy} {x : Txn} (t id : Nat)

/-- R269: its tier has been unmapped. -/
theorem State.moveTxn_fault (hf : s.txnFault c x ≠ 0) : s.moveTxn t id c x = s.failTxn t id (s.txnFault c x) := if_pos hf

variable (hf : s.txnFault c x = 0)
include hf

/-- R174, R260: a read ahead of a transposition is kept, and over. -/
theorem State.moveTxn_read {a n : Nat} (hop : x.op = .rd a n) :
    s.moveTxn t id c x = ((s.touchSources x).readAhead t x a n).endTxn t id x.copy := by
  unfold State.moveTxn
  rw [if_neg (not_not_intro hf)]
  split
  case h_1 a' n' h =>
    cases hop.symm.trans h
    rfl
  case h_2 h => exact absurd hop (h a n)

variable (hb : c.blocked = false) (hop : ∀ a n, x.op ≠ .rd a n)
include hb hop

/-- R260, R285: where the bytes of any other go. -/
theorem State.moveTxn_write : s.moveTxn t id c x =
    if s.pastEdge (c.target x.op).1 = true ∧ (s.txnBytes c x).any (·.2) = true then
      (s.touchSources x).stopTxn t id x (c.target x.op).1 (s.txnBytes c x)
    else if s.here (c.target x.op).1 then
      ((s.touchSources x).landTxn t x (c.target x.op).1 (s.txnBytes c x)).endTxn t id x.copy
    else (s.touchSources x).sendTxn t id x (c.target x.op).1 ((s.txnBytes c x).map (·.1)) := by
  unfold State.moveTxn
  rw [if_neg (not_not_intro hf), hb]
  split
  case h_1 a n h => exact absurd h (hop a n)
  case h_2 => rfl

theorem State.moveTxn_stops (he : s.PoisonLeaves c x) :
    s.moveTxn t id c x = (s.touchSources x).stopTxn t id x (c.target x.op).1 (s.txnBytes c x) :=
  (State.moveTxn_write t id hf hb hop).trans (if_pos he)

variable (he : ¬ s.PoisonLeaves c x)
include he

theorem State.moveTxn_lands (hh : s.here (c.target x.op).1 = true) : s.moveTxn t id c x =
    ((s.touchSources x).landTxn t x (c.target x.op).1 (s.txnBytes c x)).endTxn t id x.copy :=
  (State.moveTxn_write t id hf hb hop).trans ((if_neg he).trans (if_pos hh))

theorem State.moveTxn_sends (hh : s.here (c.target x.op).1 = false) : s.moveTxn t id c x =
    (s.touchSources x).sendTxn t id x (c.target x.op).1 ((s.txnBytes c x).map (·.1)) :=
  (State.moveTxn_write t id hf hb hop).trans ((if_neg he).trans (if_neg (Bool.eq_false_iff.mp hh)))

end

/-- Settles O29: each way a ready transaction moves, by its fault, its kind, the poison it carries and its destination; and the piece that is
split off a run. -/
theorem transactionsMove : Obligations.TransactionsMove := by
  refine ⟨fun tile id s x c => ?move, fun tile id s hx => exec_engineTransactionComplete_absent hx,
    fun c a b n cnt r hn hseg => ?piece⟩
  case move =>
    intro t hx hc target bs u
    refine ⟨exec_engineTransactionComplete_unready hx hc, fun up hr hf => ?fault, fun up hr hf a n hop => ?read,
      fun up hr hf hb hop => ⟨fun he hh => ?lands, fun he hh => ?sends, fun he => ?stops⟩⟩ <;>
      rw [exec_engineTransactionComplete_ready hx hc up hr]
    case fault => rw [State.moveTxn_fault t id hf]
    case read => rw [State.moveTxn_read t id hf hop]; rfl
    case lands => rw [State.moveTxn_lands t id hf hb hop he hh]; rfl
    case sends => rw [State.moveTxn_sends t id hf hb hop he hh]; rfl
    case stops => rw [State.moveTxn_stops t id hf hb hop he]; rfl
  case piece =>
    have pos : 0 < mvPiece a b n := mvPiece_pos hn
    exact ⟨mvPiece a b n, pos, mvPiece_le, one_span pos mvPiece_le_source, one_span pos mvPiece_le_destination,
      Copy.nextPiece_mv hseg⟩

end Sys2Proof.Machine
end

section
/-! The events of the DRAM tiers (R268 to R270, R274 to R284, R295, R297): what a change of the mapping leaves, what the units report, and
what the inner and outer codes find in a line. -/

namespace Sys2Proof.Machine

/-! Sparse maps and lists -/

/-- A filter that looks at keys alone keeps or drops each entry. -/
theorem SMap.find_filter_key {α : Type} (m : SMap α) (p : Nat → Bool) (k : Nat) :
    SMap.find (m.filter (fun e => p e.1)) k = if p k then SMap.find m k else none := by
  induction m with
  | nil => simp [SMap.find]
  | cons e m ih =>
    obtain ⟨j, v⟩ := e
    rw [List.filter_cons]
    by_cases hjk : j = k
    · subst hjk
      cases hp : p j <;> simp [SMap.find, ih, hp]
    · cases p j <;> simp [SMap.find, ih, hjk]

theorem SMap.getD_filter_key {α : Type} (m : SMap α) (p : Nat → Bool) (k : Nat) (d : α) :
    SMap.getD (m.filter (fun e => p e.1)) k d = if p k then SMap.getD m k d else d := by
  unfold SMap.getD
  rw [SMap.find_filter_key]
  split <;> rfl

theorem length_eraseDups_replicate (n d : Nat) : (List.replicate n d).eraseDups.length ≤ 1 := by
  cases n with
  | zero => simp
  | succ n => simp [List.replicate_succ, List.eraseDups_cons]

/-! A write of the host that is heard -/

theorem State.hostWriteIn_hears {s : State} {b : Nat} (h : s.Hears b) (go : State → State) : s.hostWriteIn b go = go s := by
  obtain ⟨h1, hb⟩ := h
  simp [State.hostWriteIn, State.hostWrite, h1, hb]

/-! What a change of the mapping leaves (R269, R270) -/

/-- R44: where a tier begins. -/
def tierStart (k : Tier) : Nat := if k = .far then 0 else 0x100000000000

/-- R44: the addresses of a tier. -/
def tierSpan (k : Tier) : Nat := if k = .far then 0x100000000000 else 0x10000000000

/-- R44: an address lies in a tier. -/
def inTier (k : Tier) (a : Nat) : Prop := tierStart k ≤ a ∧ a < tierStart k + tierSpan k

/-- A tier begins and ends with a line. -/
theorem inTier_line (k : Tier) (a : Nat) : inTier k (lineOf a * 64) ↔ inTier k a := by
  unfold inTier lineOf tierStart tierSpan
  cases k <;> simp <;> omega

theorem not_inTier {k : Tier} {a : Nat} (h : a < tierStart k ∨ tierStart k + tierSpan k ≤ a) : ¬ inTier k a := by
  unfold inTier
  omega

section
variable {k : Tier} {a : Nat} (s : State)

variable (k a) in
theorem State.mem_clearTier : (s.clearTier k).mem.get a =
    if decide (a < tierStart k ∨ tierStart k + tierSpan k ≤ a) then s.mem.get a else 0 :=
  SMap.getD_filter_key s.mem (fun x => decide (x < tierStart k ∨ tierStart k + tierSpan k ≤ x)) a 0

theorem State.mem_clearTier_in (h : inTier k a) : (s.clearTier k).mem.get a = 0 := by
  rw [s.mem_clearTier, if_neg fun hout => not_inTier (of_decide_eq_true hout) h]

theorem State.mem_clearTier_out (h : a < tierStart k ∨ tierStart k + tierSpan k ≤ a) :
    (s.clearTier k).mem.get a = s.mem.get a := by
  rw [s.mem_clearTier, if_pos (decide_eq_true h)]

variable (k a) in
theorem State.poison_clearTier : (s.clearTier k).poison.getD (lineOf a) false =
    if !(decide (tierStart k ≤ lineOf a * 64) && decide (lineOf a * 64 < tierStart k + tierSpan k)) then
      s.poison.getD (lineOf a) false else false :=
  SMap.getD_filter_key s.poison
    (fun l => !(decide (tierStart k ≤ l * 64) && decide (l * 64 < tierStart k + tierSpan k))) (lineOf a) false

theorem State.poison_clearTier_in (h : inTier k a) : (s.clearTier k).poison.getD (lineOf a) false = false := by
  obtain ⟨hlo, hhi⟩ := (inTier_line k a).mpr h
  simp [s.poison_clearTier, hlo, hhi]

theorem State.poison_clearTier_out (h : a < tierStart k ∨ tierStart k + tierSpan k ≤ a) :
    (s.clearTier k).poison.getD (lineOf a) false = s.poison.getD (lineOf a) false := by
  have outside : ¬ inTier k (lineOf a * 64) := mt (inTier_line k a).mp (not_inTier h)
  rw [s.poison_clearTier, if_pos]
  simpa only [Bool.not_eq_true', Bool.and_eq_false_iff, decide_eq_false_iff_not] using Decidable.not_and_iff_not_or_not.mp outside

end

/-- Two registers at different offsets share no field. -/
theorem Fld.key_ne_of_addr {f g : Fld} (hf : f.lo < 64) (hg : g.lo < 64) (ha : f.addr ≠ g.addr) : f.key ≠ g.key := by
  unfold Fld.key
  omega

theorem Reg.addr_mapCtl_ne_memInit (k : Tier) : (Reg.MAP_CTL k).addr ≠ (Reg.MEM_INIT k).addr := by
  simp [Reg.addr]

theorem State.setMap_same {s : State} {k : Tier} {v : Nat} (h : s.fld (Fd.MAP_CTL_MAP_EN k) = v % 2) : s.setMap k v = s :=
  if_pos h

section
variable {s : State} {k : Tier} {v : Nat} (h : s.fld (Fd.MAP_CTL_MAP_EN k) ≠ v % 2)
include h

theorem State.setMap_changes : s.setMap k v =
    ((((s.clearTier k).setFld (Fd.MAP_CTL_MAP_EN k) v).setFld (Fd.MAP_CTL_INIT_DONE k) 0).setFld (Fd.MEM_INIT_NEXT k) 0).setFld
      (Fd.MEM_INIT_DONE k) 0 := if_neg h

theorem State.mem_setMap : (s.setMap k v).mem = (s.clearTier k).mem := by
  rw [State.setMap_changes h]
  rfl

theorem State.poison_setMap : (s.setMap k v).poison = (s.clearTier k).poison := by
  rw [State.setMap_changes h]
  rfl

theorem State.threads_setMap : (s.setMap k v).threads = s.threads := by
  rw [State.setMap_changes h]
  rfl

/-- The initialisation that MEM_INIT shows begins anew. -/
theorem State.memInit_setMap : (s.setMap k v).fld (Fd.MEM_INIT_NEXT k) = 0 ∧ (s.setMap k v).fld (Fd.MEM_INIT_DONE k) = 0 := by
  have ne : (Fd.MEM_INIT_NEXT k).key ≠ (Fd.MEM_INIT_DONE k).key := Fld.key_ne_of_lo rfl (show 0 ≠ 16 by decide)
  rw [State.setMap_changes h, State.fld_setFld_ne _ _ _ _ ne]
  simp

/-- A field of MAP_CTL is left by what MEM_INIT takes. -/
theorem State.mapCtl_setMap {f : Fld} (ha : f.addr = (Reg.MAP_CTL k).addr) (hl : f.lo < 64) : (s.setMap k v).fld f =
    (((s.clearTier k).setFld (Fd.MAP_CTL_MAP_EN k) v).setFld (Fd.MAP_CTL_INIT_DONE k) 0).fld f := by
  have apart {g : Fld} (hg : g.addr = (Reg.MEM_INIT k).addr) (hgl : g.lo < 64) : f.key ≠ g.key :=
    Fld.key_ne_of_addr hl hgl (by rw [ha, hg]; exact Reg.addr_mapCtl_ne_memInit k)
  have done : f.key ≠ (Fd.MEM_INIT_DONE k).key := apart rfl (show 16 < 64 by decide)
  have next : f.key ≠ (Fd.MEM_INIT_NEXT k).key := apart rfl (show 0 < 64 by decide)
  rw [State.setMap_changes h, State.fld_setFld_ne _ _ _ _ done, State.fld_setFld_ne _ _ _ _ next]

theorem State.mapEn_setMap : (s.setMap k v).fld (Fd.MAP_CTL_MAP_EN k) = v % 2 := by
  have ne : (Fd.MAP_CTL_MAP_EN k).key ≠ (Fd.MAP_CTL_INIT_DONE k).key := Fld.key_ne_of_lo rfl (show 0 ≠ 1 by decide)
  rw [State.mapCtl_setMap h rfl (show 0 < 64 by decide), State.fld_setFld_ne _ _ _ _ ne, State.fld_setFld_self]
  rfl

theorem State.initDone_setMap : (s.setMap k v).fld (Fd.MAP_CTL_INIT_DONE k) = 0 := by
  rw [State.mapCtl_setMap h rfl (show 1 < 64 by decide), State.fld_setFld_self, Nat.zero_mod]

end

section
variable {tier : Tier} {s : State} (h : s.Hears (tierBlk tier / 0x100000))
include h

theorem exec_mapEnable : exec (.mapEnable tier) s = .next (s.setMap tier 1) :=
  congrArg Host.Outcome.next (State.hostWriteIn_hears h _)

theorem exec_mapDisable : exec (.mapDisable tier) s = .next (s.setMap tier 0) :=
  congrArg Host.Outcome.next (State.hostWriteIn_hears h _)

theorem exec_hashKeyWrite (key : BitVec 64) : exec (.hashKeyWrite tier key) s = .next (s.writeHashKey tier key.toNat) :=
  congrArg Host.Outcome.next (State.hostWriteIn_hears h _)

end

/-- R268: the key of a mapped tier is fixed. -/
theorem State.writeHashKey_mapped {s : State} {k : Tier} (h : s.isSet (Fd.MAP_CTL_MAP_EN k) = true) (v : Nat) :
    s.writeHashKey k v = s.log 0x0505 := if_pos h

theorem State.writeHashKey_unmapped {s : State} {k : Tier} (h : s.isSet (Fd.MAP_CTL_MAP_EN k) = false) (v : Nat) :
    s.writeHashKey k v = s.setFld (Fd.HASH_KEY_KEY k) v := if_neg (Bool.eq_false_iff.mp h)

/-- A key fills its field. -/
theorem State.fld_hashKey (s : State) (k : Tier) (key : BitVec 64) :
    (s.setFld (Fd.HASH_KEY_KEY k) key.toNat).fld (Fd.HASH_KEY_KEY k) = key.toNat := by
  rw [State.fld_setFld_self]
  exact Nat.mod_eq_of_lt key.isLt

theorem exec_regionInitDone (tier : Tier) (r : Nat) (s : State) : exec (.regionInitDone tier r) s =
    .next (if r = s.fld (Fd.MEM_INIT_NEXT tier) then s.initRegion tier r else s) := rfl

/-! What a unit reports (R274 to R276, R297) -/

/-- R274, R296: a unit shows the depth of its queue, and the deepest so far. -/
def State.showDepth (s : State) (k : Tier) (u depth : Nat) : State :=
  (s.setFld (Fd.CH_QDEPTH_CUR k u) depth).setFld (Fd.CH_QDEPTH_PEAK k u) (max (s.fld (Fd.CH_QDEPTH_PEAK k u)) depth)

/-- R274: the depth from which a queue is hot. -/
def State.hotDepth (s : State) (k : Tier) : Nat := max 1 (s.fld (Fd.ERR_CTL_HOT_DEPTH k)) * 8

theorem Reg.addr_errCtl_ne_chQdepth (k : Tier) (u : Nat) : (Reg.ERR_CTL k).addr ≠ (Reg.CH_QDEPTH k u).addr := by
  simp only [Reg.addr]
  omega

/-- What a unit shows does not move the depth from which it is hot. -/
theorem State.hotDepth_showDepth (s : State) (k : Tier) (u depth : Nat) : (s.showDepth k u depth).hotDepth k = s.hotDepth k := by
  have apart {g : Fld} (hg : g.addr = (Reg.CH_QDEPTH k u).addr) (hgl : g.lo < 64) : (Fd.ERR_CTL_HOT_DEPTH k).key ≠ g.key :=
    Fld.key_ne_of_addr (show 32 < 64 by decide) hgl (by rw [hg]; exact Reg.addr_errCtl_ne_chQdepth k u)
  have cur : (Fd.ERR_CTL_HOT_DEPTH k).key ≠ (Fd.CH_QDEPTH_CUR k u).key := apart rfl (show 0 < 64 by decide)
  have peak : (Fd.ERR_CTL_HOT_DEPTH k).key ≠ (Fd.CH_QDEPTH_PEAK k u).key := apart rfl (show 16 < 64 by decide)
  rw [State.hotDepth, State.showDepth, State.fld_setFld_ne _ _ _ _ peak, State.fld_setFld_ne _ _ _ _ cur, State.hotDepth]

section
variable {tier : Tier} {unit : Fin 24} {s : State} (he : unitExists tier unit.val = true)
include he

/-- R274: a queue cools, stays hot, or turns hot and is counted. -/
theorem exec_queueHotDetect (depth : Fin 257) :
    let u := s.showDepth tier unit.val depth.val
    let key := unitKey tier unit.val
    exec (.queueHotDetect tier unit depth) s =
      if s.hotDepth tier ≤ depth.val then
        if s.dram.hot.contains key then .next u
        else .next ((({ u with dram := { s.dram with hot := s.dram.hot ++ [key] } } : State).setFld
          (Fd.CH_STAT_HOT tier unit.val) 1).incFld (Fd.CH_QDEPTH_HOT_EVENTS tier unit.val))
      else .next { u with dram := { s.dram with hot := s.dram.hot.filter (· ≠ key) } } := by
  have peak : (s.setFld (Fd.CH_QDEPTH_CUR tier unit.val) depth.val).fld (Fd.CH_QDEPTH_PEAK tier unit.val) =
      s.fld (Fd.CH_QDEPTH_PEAK tier unit.val) :=
    s.fld_setFld_ne _ _ _ (Fld.key_ne_of_lo rfl (show 16 ≠ 0 by decide))
  intro u key
  rw [← s.hotDepth_showDepth tier unit.val depth.val]
  change execQueueHotDetect tier unit depth s = _
  unfold execQueueHotDetect
  simp only [he, peak, Bool.not_true, Bool.false_eq_true, if_false]
  rfl

/-- R275: a row counts once in its refresh window. -/
theorem exec_actLimitReached (row : Nat) :
    let u := ({ s with dram := { s.dram with rows := s.dram.rows ++ [(unitKey tier unit.val, row)] } } : State).incFld
      (Fd.CH_RH_MITIGATIONS tier unit.val)
    exec (.actLimitReached tier unit row) s =
      if s.dram.rows.contains (unitKey tier unit.val, row) then .next s
      else .next (if tier = .near then u.incFld (Fd.CH_RH_ALERTS tier unit.val) else u) := by
  change execActLimitReached tier unit row s = _
  simp [execActLimitReached, he]

/-- R276: a unit shows its temperature and level, and records the reaching of CRIT. -/
theorem exec_dramTempReport (temp : BitVec 8) :
    let lv := s.heatLevel tier temp.toNat
    let u := (s.setFld (Fd.CH_STAT_TEMP tier unit.val) temp.toNat).setFld (Fd.CH_STAT_THROTTLE tier unit.val) lv
    let c := u.setFld (Fd.CH_STAT_CRIT_SEEN tier unit.val) 1
    exec (.dramTempReport tier unit temp) s = .next (if lv = 3 then
      (if s.fld (Fd.CH_STAT_THROTTLE tier unit.val) = 3 then c else c.logRec 0x0507 3 unit.val) else u) := by
  change execDramTempReport tier unit temp s = _
  simp [execDramTempReport, he]

end

theorem exec_refreshWindowEnd (tier : Tier) (unit : Fin 24) (s : State) : exec (.refreshWindowEnd tier unit) s =
    .next { s with dram := { s.dram with rows := s.dram.rows.filter (fun e => e.1 ≠ unitKey tier unit.val) } } := rfl

theorem exec_dimmActAlert (unit : Fin 24) (s : State) :
    exec (.dimmActAlert unit) s = .next (s.incFld (Fd.CH_RH_ALERTS .far unit.val)) := rfl

/-- R282: the oldest remap of a stack is done; a stack in full service is degraded by it. -/
theorem exec_nearColumnRemapDone {unit : Fin 24} {s : State} {e : Nat × Nat}
    (h : s.dram.remaps.find? (fun e => e.1 = unit.val) = some e) :
    let b := unit.val * 2048 + columnBank e.2
    let u : State := { s with dram := { s.dram with
      remaps := s.dram.remaps.erase e, spares := s.dram.spares.set b (s.dram.spares.getD b 0 + 1) } }
    exec (.nearColumnRemapDone unit) s = .next ((if s.fld (Fd.CH_STAT_STATE .near unit.val) = 2 then
      u.setFld (Fd.CH_STAT_STATE .near unit.val) 3 else u).showSpares unit.val) := by
  change execNearColumnRemapDone unit s = _
  simp only [execNearColumnRemapDone, h]
  rfl

/-! A patrol read, and what the codes correct (R277, R278, R280, R284, R295) -/

theorem exec_patrolScrubRead_absent {line : Nat} {s : State} (h : s.lineHome line = none) (errs : CodeErrors) (inner : BitVec 8)
    (hours : Nat) : exec (.patrolScrubRead line errs inner hours) s = .next s := by
  change execPatrolScrubRead line errs inner hours s = _
  simp only [execPatrolScrubRead, h]

/-- A line that is backed is read once its inner codes are counted and its region is initialised. -/
theorem exec_patrolScrubRead {line : Nat} {s : State} {home : LineHome} (h : s.lineHome line = some home) (errs : CodeErrors)
    (inner : BitVec 8) (hours : Nat) :
    let p := (s.countInner home inner.toNat).touch (line * 64) 64
    exec (.patrolScrubRead line errs inner hours) s = .next (
      if p.badLine line = true ∨ p.seenErrors home errs = [] then p
      else if p.correctable line home (p.seenErrors home errs) then p.corrected line home (p.seenErrors home errs) hours
      else (p.countUe home).poisonLines [line]) := by
  change execPatrolScrubRead line errs inner hours s = _
  simp only [execPatrolScrubRead, h]
  rfl

section
variable {s : State} {line u : Nat}

/-- The far code corrects what one device does. -/
theorem State.correctable_oneDevice (h : s.spareMode line u = false) (d : Nat) (ps : List Nat) :
    s.correctable line (.far u) (ps.map (fun k => (d, k))) = true := by
  have devices : (ps.map (fun k => (d, k))).map (·.1) = List.replicate ps.length d :=
    List.map_map.trans List.map_const
  simp only [State.correctable, h, devices, Bool.false_eq_true, if_false, decide_eq_true_eq]
  exact length_eraseDups_replicate _ _

/-- In spare-device mode two symbols are too many for it. -/
theorem State.correctable_spareMode (h : s.spareMode line u = true) (x y : Nat × Nat) (rest : CodeErrors) :
    s.correctable line (.far u) (x :: y :: rest) = false := by
  simp [State.correctable, h]

theorem State.correctable_oneSymbol (x : Nat × Nat) : s.correctable line (.near u) [x] = true := rfl

theorem State.correctable_twoSymbols (x y : Nat × Nat) (rest : CodeErrors) :
    s.correctable line (.near u) (x :: y :: rest) = false := by
  simp [State.correctable]

end

/-- R278: a correction that is due is finished, and its places are remembered. -/
theorem exec_scrubWriteback {line : Nat} {s : State} {pos : CodeErrors} (h : SMap.find s.dram.scrubs line = some pos) :
    exec (.scrubWriteback line) s = .next { s with dram := { s.dram with
      scrubs := SMap.erase s.dram.scrubs line
      seen := SMap.erase s.dram.seen line
      fixed := s.dram.fixed.set line (s.dram.fixed.getD line [] ++ s.dram.seen.getD line []).eraseDups } } := by
  change execScrubWriteback line s = _
  simp only [execScrubWriteback, h]

/-- R279: a newer write has made it void. -/
theorem exec_scrubWriteback_void {line : Nat} {s : State} (h : SMap.find s.dram.scrubs line = none) :
    exec (.scrubWriteback line) s = .next s := by
  change execScrubWriteback line s = _
  simp only [execScrubWriteback, h]

/-- Settles O46: each event by the equation of its command, and the mapping by what a change of MAP_EN leaves. -/
theorem dramEvents : Obligations.DramEvents := by
  refine ⟨fun tier s heard => ?mapping, fun tier s => ⟨?nextRegion, fun r hr => ?otherRegion⟩, fun tier unit s he => ?reports,
    fun unit s => ⟨exec_dimmActAlert unit s, fun e hfind => ?remap⟩, fun line hours h errs inner s => ?lines⟩
  case mapping =>
    intro base size maps
    have changes {j : Instr} {v : Nat} (hv : v % 2 = v) (hj : exec j s = .next (s.setMap tier v)) : maps j v := by
      refine ⟨fun same => ?_, fun differs => ⟨_, hj, ?_⟩⟩
      · rw [hj, State.setMap_same (same.trans hv.symm)]
      · have h : s.fld (Fd.MAP_CTL_MAP_EN tier) ≠ v % 2 := by rwa [hv]
        obtain ⟨hnext, hdone⟩ := State.memInit_setMap h
        refine ⟨(State.mapEn_setMap h).trans hv, State.initDone_setMap h, hnext, hdone, fun a hlo hhi => ?_, fun a hout => ?_,
          State.threads_setMap h⟩ <;>
          rw [State.mem_setMap h, State.poison_setMap h]
        · exact ⟨s.mem_clearTier_in ⟨hlo, hhi⟩, s.poison_clearTier_in ⟨hlo, hhi⟩⟩
        · exact ⟨s.mem_clearTier_out hout, s.poison_clearTier_out hout⟩
    refine ⟨changes rfl (exec_mapEnable heard), changes rfl (exec_mapDisable heard), fun key => ⟨fun mapped => ?_, fun unmapped =>
      ⟨_, exec_hashKeyWrite heard key, ?_⟩⟩⟩
    · rw [exec_hashKeyWrite heard, State.writeHashKey_mapped mapped]
    · rw [State.writeHashKey_unmapped unmapped]
      exact ⟨rfl, s.fld_hashKey tier key⟩
  case nextRegion => rw [exec_regionInitDone, if_pos rfl]
  case otherRegion => rw [exec_regionInitDone, if_neg hr]
  case reports =>
    refine ⟨fun depth => ⟨fun cool => ?_, fun hot was => ?_, fun hot was => ?_⟩,
      fun row => ⟨fun counted => ?_, fun new => ⟨fun far => ?_, fun near => ?_⟩⟩, exec_refreshWindowEnd tier unit s,
      fun temp => ⟨fun below => ?_, fun crit was => ?_, fun crit was => ?_⟩⟩
    · exact (exec_queueHotDetect he depth).trans (if_neg (Nat.not_le.mpr cool))
    · exact (exec_queueHotDetect he depth).trans ((if_pos hot).trans (if_pos was))
    · exact (exec_queueHotDetect he depth).trans ((if_pos hot).trans (if_neg (Bool.eq_false_iff.mp was)))
    · exact (exec_actLimitReached he row).trans (if_pos counted)
    · rw [exec_actLimitReached he, if_neg (Bool.eq_false_iff.mp new), if_neg (by simp [far])]
    · rw [exec_actLimitReached he, if_neg (Bool.eq_false_iff.mp new), if_pos near]
    · rw [exec_dramTempReport he, if_neg below]
    · rw [exec_dramTempReport he, if_pos crit, if_pos was]
    · rw [exec_dramTempReport he, if_pos crit, if_neg was]
  case remap =>
    refine ⟨fun full => ?_, fun other => ?_⟩
    · rw [exec_nearColumnRemapDone hfind, if_pos full]
    · rw [exec_nearColumnRemapDone hfind, if_neg other]
  case lines =>
    refine ⟨fun hh => ⟨fun clean => ?_, fun good errors => ⟨fun can => ?_, fun cannot => ?_⟩⟩,
      fun hn => exec_patrolScrubRead_absent hn errs inner hours, fun u => State.correctable_oneDevice,
      fun u => State.correctable_spareMode, fun u => State.correctable_oneSymbol, fun u => State.correctable_twoSymbols,
      fun pos => exec_scrubWriteback, exec_scrubWriteback_void⟩
    · rw [exec_patrolScrubRead hh, if_pos clean]
    all_goals rw [exec_patrolScrubRead hh, if_neg (not_or.mpr ⟨Bool.eq_false_iff.mp good, errors⟩)]
    · rw [if_pos can]
    · rw [if_neg (Bool.eq_false_iff.mp cannot)]

end Sys2Proof.Machine
end

section
/-! The receive flow: the table of R322, what an acceptance leaves in its entry, and what a packet comes to that is not accepted (R320,
R322, R323, R326). -/

namespace Sys2Proof.Machine

/-! An acknowledgement leaves every receive entry -/

section
variable (s : State)

theorem State.enqueue_recvs (p typ : Nat) (k : Packet) (whence : Nat) : (s.enqueue p typ k whence).recvs = s.recvs := by
  unfold State.enqueue
  split <;> rfl

theorem State.emit_recvs (typ : Nat) (k : Packet) : (s.emit typ k).recvs = s.recvs := by
  unfold State.emit
  split
  case h_1 p _ =>
    split
    · rfl
    · exact s.enqueue_recvs _ _ _ _
  case h_2 => rfl

@[simp] theorem State.sendCtl_recvs (d vc typ : Nat) (seq : BitVec 32) (ep : BitVec 16) (body : List Byte) :
    (s.sendCtl d vc typ seq ep body).recvs = s.recvs := by
  unfold State.sendCtl
  dsimp only
  split
  · rfl
  · exact s.emit_recvs _ _

@[simp] theorem State.sendAck_recvs (src vc : Nat) (rf : RecvFlow) :
    (s.sendAck src vc rf).recvs = s.recvs.set (src * 16 + vc) { rf with since := 0 } := by
  simp [State.sendAck]

end

/-! The table of R322 -/

section
variable {s : State} {src vc : Nat} {k : Packet}

/-- R326: a flow without an entry opens one while there is room. -/
theorem State.verdict_noEntry (h : SMap.find s.recvs (src * 16 + vc) = none) : s.verdict src vc k =
    if k.opn ∧ k.seq = 0 then
      if s.recvs.length < 32768 then .take { epoch := k.epoch, expected := 0 } none else .full
    else .discard := by
  simp only [State.verdict, h]

/-- R324: a packet of another epoch is discarded, or opens the flow anew. -/
theorem State.verdict_otherEpoch {q : RecvFlow} (h : SMap.find s.recvs (src * 16 + vc) = some q) (he : q.epoch ≠ k.epoch) :
    s.verdict src vc k =
      if k.opn ∧ k.seq = 0 then .take { epoch := k.epoch, expected := 0 } (some q) else .discard := by
  simp only [State.verdict, h, if_pos he]

theorem State.verdict_sameEpoch {q : RecvFlow} (h : SMap.find s.recvs (src * 16 + vc) = some q) (he : q.epoch = k.epoch) :
    s.verdict src vc k =
      if k.seq = q.expected then .take q none
      else if (q.expected - k.seq).toNat ≤ 2 ^ 31 then .duplicate q else .discard := by
  simp only [State.verdict, h, if_neg (Decidable.not_not.mpr he)]

section
variable {q : RecvFlow} (h : SMap.find s.recvs (src * 16 + vc) = some q) (he : q.epoch = k.epoch)
include h he

theorem State.verdict_expected (hs : q.expected = k.seq) : s.verdict src vc k = .take q none := by
  rw [State.verdict_sameEpoch h he, if_pos hs.symm]

theorem State.verdict_accepted (hs : q.expected ≠ k.seq) (hle : (q.expected - k.seq).toNat ≤ 2 ^ 31) :
    s.verdict src vc k = .duplicate q := by
  rw [State.verdict_sameEpoch h he, if_neg hs.symm, if_pos hle]

/-- A packet that lies before those accepted by more than half the numbers is one too far on. -/
theorem State.verdict_ahead (hlt : 2 ^ 31 < (q.expected - k.seq).toNat) : s.verdict src vc k = .discard := by
  have hs : k.seq ≠ q.expected := by
    rintro e
    simp [e] at hlt
  rw [State.verdict_sameEpoch h he, if_neg hs, if_neg (Nat.not_le.mpr hlt)]

end

theorem State.verdict_full (h : SMap.find s.recvs (src * 16 + vc) = none) (hn : 32768 ≤ s.recvs.length) :
    s.verdict src vc k = if k.opn ∧ k.seq = 0 then .full else .discard := by
  rw [State.verdict_noEntry h, if_neg (Nat.not_lt.mpr hn)]

/-- R322: what a flow accepts is the next packet of the epoch of the entry it counts in. -/
theorem State.verdict_take {rf : RecvFlow} {old : Option RecvFlow} (h : s.verdict src vc k = .take rf old) :
    rf.epoch = k.epoch ∧ rf.expected = k.seq := by
  have opens {o : Option RecvFlow} {v : Verdict} (hv : v ≠ .take rf old)
      (hc : (if k.opn ∧ k.seq = 0 then .take { epoch := k.epoch, expected := 0 } o else v) = Verdict.take rf old) :
      rf.epoch = k.epoch ∧ rf.expected = k.seq := by
    split at hc
    case isTrue h0 =>
      cases hc
      exact ⟨rfl, h0.2.symm⟩
    case isFalse => exact absurd hc hv
  cases hq : SMap.find s.recvs (src * 16 + vc) with
  | none =>
    by_cases hn : s.recvs.length < 32768
    · rw [State.verdict_noEntry hq, if_pos hn] at h
      exact opens (by simp) h
    · rw [State.verdict_full hq (Nat.not_lt.mp hn)] at h
      split at h <;> cases h
  | some q =>
    by_cases he : q.epoch = k.epoch
    · rw [State.verdict_sameEpoch hq he] at h
      split at h
      case isTrue hs =>
        cases h
        exact ⟨he, hs.symm⟩
      case isFalse => split at h <;> cases h
    · rw [State.verdict_otherEpoch hq he] at h
      exact opens (by simp) h

end

/-! An acceptance (R323) -/

section
variable (s : State) (src vc : Nat) {k : Packet} (rf : RecvFlow)

/-- A packet that does not close its flow advances EXPECTED by one. -/
theorem State.find_commitRecv_self (hc : k.cls = false) : ∃ n, SMap.find (s.commitRecv src vc k rf).recvs (src * 16 + vc) =
    some { rf with expected := rf.expected + 1, since := n, landed := 0 } := by
  simp only [State.commitRecv, hc, Bool.false_eq_true, or_false, if_false]
  split
  case isTrue => exact ⟨0, by simp⟩
  case isFalse => exact ⟨_, SMap.find_set_self _ _ _⟩

/-- R324: a CLOSE frees its entry. -/
theorem State.find_commitRecv_close (hc : k.cls = true) : SMap.find (s.commitRecv src vc k rf).recvs (src * 16 + vc) = none := by
  simp only [State.commitRecv, hc, if_true, SMap.find_erase_self]

variable (k) in
theorem State.find_commitRecv_ne {n : Nat} (hn : n ≠ src * 16 + vc) :
    SMap.find (s.commitRecv src vc k rf).recvs n = SMap.find s.recvs n := by
  have kept (v : RecvFlow) (m : SMap RecvFlow) : SMap.find (m.set (src * 16 + vc) v) n = SMap.find m n :=
    SMap.find_set_ne _ _ _ _ hn
  unfold State.commitRecv
  dsimp only
  split <;> split <;> simp [kept, SMap.find_erase_ne _ _ _ hn]

/-- A packet just accepted is a duplicate from then on. -/
theorem State.verdict_commitRecv {rf} (hc : k.cls = false) (he : rf.epoch = k.epoch) (hs : rf.expected = k.seq) :
    ∃ q, SMap.find (s.commitRecv src vc k rf).recvs (src * 16 + vc) = some q ∧ q.epoch = k.epoch ∧ q.expected = k.seq + 1 ∧
      (s.commitRecv src vc k rf).verdict src vc k = .duplicate q := by
  obtain ⟨n, hq⟩ := s.find_commitRecv_self src vc rf hc
  have next : rf.expected + 1 ≠ k.seq := by
    rw [hs]
    bv_omega
  have near : (rf.expected + 1 - k.seq).toNat ≤ 2 ^ 31 := by
    rw [hs]
    bv_omega
  exact ⟨_, hq, he, by rw [hs], State.verdict_accepted hq he next near⟩

end

/-! What is not accepted -/

section
variable {s : State} {k : Packet} (p typ : Nat)

theorem State.receive_discard (h : s.verdict k.src.toNat k.vc.toNat k = .discard) : s.receive p typ k = s := by
  simp only [State.receive, h]

theorem State.receive_duplicate {q : RecvFlow} (h : s.verdict k.src.toNat k.vc.toNat k = .duplicate q) :
    s.receive p typ k = s.sendAck k.src.toNat k.vc.toNat q := by
  simp only [State.receive, h]

theorem State.receive_full (h : s.verdict k.src.toNat k.vc.toNat k = .full) :
    s.receive p typ k = (s.incFld Fd.JL_FLOWS_REFUSED_FULL).sendNack k.src.toNat k.vc.toNat k 1 := by
  simp only [State.receive, h]

end

/-- Settles O41: what the table of R322 says of a packet, and of the same packet once its flow has counted it. -/
theorem receiveFlows : Obligations.ReceiveFlows := by
  refine ⟨?accepted, ?table⟩
  case accepted =>
    intro s k rf old vc src u hv
    obtain ⟨he, hs⟩ := State.verdict_take hv
    exact ⟨he, hs, fun hc => s.verdict_commitRecv src vc hc he hs, s.find_commitRecv_close src vc rf,
      fun n hn => s.find_commitRecv_ne src vc k rf hn⟩
  case table =>
    intro p typ s k vc src
    exact ⟨State.receive_discard p typ, fun q => State.receive_duplicate p typ, State.receive_full p typ, State.verdict_full,
      fun q hq he => ⟨State.verdict_expected hq he, State.verdict_accepted hq he, State.verdict_ahead hq he⟩⟩

end Sys2Proof.Machine
end

section
/-! The flits of a port: what a slot sends, and what a flit does that comes (R305 to R311, R314, R332, R342). -/

namespace Sys2Proof.Machine

/-! The ports of the link layer -/

section
variable (s : State) (p : Nat) (x : LinkPort)

@[simp] theorem State.link_setLink_self : (s.setLink p x).link p = x := by
  simp [State.link, State.setLink]

theorem State.link_setLink_ne {q : Nat} (h : q ≠ p) : (s.setLink p x).link q = s.link q :=
  SMap.getD_set_ne _ _ _ _ _ h

@[simp] theorem State.setLink_setLink (y : LinkPort) : (s.setLink p x).setLink p y = s.setLink p y := by
  simp [State.setLink]

end

/-! One slot sends one flit (R305, R309) -/

/-- R305, R309: a port has sent one flit, with a correct CRC, the acknowledgement of all received in order and the NAK that was due; of the
other ports only what waits in their receivers, and the credits owed for it, may have changed. -/
structure State.SentFlit (s : State) (p : Nat) (u : State) : Prop where
  flit : ∃ f, u.out = s.out ++ [.flit p f] ∧ f.crc = flitCrc f ∧ f.ack = (s.link p).expL - 1 ∧ f.nak = (s.link p).nakDue
  nakTold : (u.link p).nakDue = false
  others : ∀ q, q ≠ p → { u.link q with
    kept := (s.link q).kept, pooled := (s.link q).pooled, returns := (s.link q).returns } = s.link q

section
variable {s : State} {p : Nat}

/-- What else a port has changed by then, its acknowledgement and its NAK apart, does not matter. -/
theorem State.sentFlit_sendFlit {y : LinkPort} (he : y.expL = (s.link p).expL) (hn : y.nakDue = (s.link p).nakDue) (f : Flit) :
    s.SentFlit p ((s.setLink p y).sendFlit p f) := by
  refine ⟨⟨Flit.seal { f with ack := y.expL - 1, nak := y.nakDue }, ?sent, rfl, ?ack, hn⟩, ?told, fun q hq => ?others⟩
  case sent => simp [State.sendFlit, State.setLink, State.link]
  case ack => rw [← he]; rfl
  case told => exact congrArg LinkPort.nakDue ((s.setLink p y).link_setLink_self p _)
  case others =>
    have kept : ((s.setLink p y).sendFlit p f).link q = s.link q :=
      (State.link_setLink_ne _ _ _ hq).trans (State.link_setLink_ne _ _ _ hq)
    rw [kept]

theorem LinkPort.giveCredits_expL (x : LinkPort) (f : Flit) : (x.giveCredits f).1.expL = x.expL := by
  unfold LinkPort.giveCredits
  dsimp only
  split <;> rfl

theorem LinkPort.giveCredits_nakDue (x : LinkPort) (f : Flit) : (x.giveCredits f).1.nakDue = x.nakDue := by
  unfold LinkPort.giveCredits
  dsimp only
  split <;> rfl

section
variable {y : LinkPort} (he : y.expL = (s.link p).expL) (hn : y.nakDue = (s.link p).nakDue)
include he hn

theorem State.sentFlit_sendIdle_setLink : s.SentFlit p ((s.setLink p y).sendIdle p) := by
  simp only [State.sendIdle, State.setLink_setLink, State.link_setLink_self]
  exact State.sentFlit_sendFlit ((y.giveCredits_expL _).trans he) ((y.giveCredits_nakDue _).trans hn) _

theorem State.sentFlit_sendNew (f : Flit) : s.SentFlit p (s.sendNew p y f) := by
  refine State.sentFlit_sendFlit ?ack ?nak _
  case ack => exact (y.giveCredits_expL f).trans he
  case nak => exact (y.giveCredits_nakDue f).trans hn

end

variable (s p)

theorem State.sentFlit_sendIdle : s.SentFlit p (s.sendIdle p) :=
  State.sentFlit_sendFlit (LinkPort.giveCredits_expL _ _) (LinkPort.giveCredits_nakDue _ _) _

theorem State.sentFlit_sendHeaders : s.SentFlit p (s.sendHeaders p) := by
  unfold State.sendHeaders
  extract_lets x go outq
  exact State.sentFlit_sendNew (y := { x with outq := outq }) rfl rfl _

/-- R314: that a flit leaves the receiver it waited in changes what waits there, and the credits owed. -/
theorem State.SentFlit.freed {u : State} (h : s.SentFlit p u) (w key n : Nat) :
    s.SentFlit p (u.setLink w ((u.link w).freed key n)) := by
  refine ⟨h.flit, ?told, fun q hq => ?others⟩
  case told =>
    by_cases hw : p = w
    · subst hw
      rw [State.link_setLink_self]
      exact h.nakTold
    · rw [State.link_setLink_ne _ _ _ hw]
      exact h.nakTold
  case others =>
    by_cases hw : q = w
    · subst hw
      rw [State.link_setLink_self]
      exact h.others q hq
    · rw [State.link_setLink_ne _ _ _ hw]
      exact h.others q hq

theorem State.sentFlit_sendData (key : Nat) (o : OutPkt) : s.SentFlit p (s.sendData p key o) := by
  unfold State.sendData
  extract_lets x bs q outq u
  have leaves : s.SentFlit p u :=
    State.sentFlit_sendNew (y := { x with outq := outq, credits := x.credits.set key (x.credits.getD key 0 - 1) }) rfl rfl _
  split
  · exact leaves.freed s p _ _ _
  · exact leaves

end

/-! What a slot sends (R307, R308, R310, R332) -/

section
variable {p : Port} {s : State} (hp : s.portCarries p.val = true)
include hp

section
variable {l : BitVec 12} {ls : List (BitVec 12)} (hr : (s.link p.val).resend = l :: ls)
include hr

/-- R310: a flit that was acknowledged since is not sent again. -/
theorem exec_flitTransmit_released (hf : (s.link p.val).replay.find? (fun r => r.flit.lseq = l) = none) :
    exec (.flitTransmit p) s = .next ((s.setLink p.val { s.link p.val with resend := ls }).sendIdle p.val) := by
  change execFlitTransmit p s = _
  simp [execFlitTransmit, hp, hr, hf]

/-- R311: nothing is sent again past a slot that waits for its good copy. -/
theorem exec_flitTransmit_hole {r : ReplaySlot} (hf : (s.link p.val).replay.find? (fun r => r.flit.lseq = l) = some r)
    (hh : r.hole = true) : exec (.flitTransmit p) s = .next (s.sendIdle p.val) := by
  change execFlitTransmit p s = _
  simp [execFlitTransmit, hp, hr, hf, hh]

theorem exec_flitTransmit_again {r : ReplaySlot} (hf : (s.link p.val).replay.find? (fun r => r.flit.lseq = l) = some r)
    (hh : r.hole = false) : exec (.flitTransmit p) s =
      .next ((s.setLink p.val { s.link p.val with resend := ls }).sendFlit p.val r.flit) := by
  change execFlitTransmit p s = _
  simp [execFlitTransmit, hp, hr, hf, hh]

end

section
variable (hr : (s.link p.val).resend = [])
include hr

theorem exec_flitTransmit_full (hroom : (s.link p.val).room = false) :
    exec (.flitTransmit p) s = .next (s.sendIdle p.val) := by
  change execFlitTransmit p s = _
  simp [execFlitTransmit, hp, hr, hroom]

variable (hroom : (s.link p.val).room = true)
include hroom

/-- R307, R332: a port in UP first starts the packets that wait. -/
theorem exec_flitTransmit_headers (h : s.portState p.val = 2 ∧ ∃ o ∈ (s.link p.val).outq, o.hdrSent = false) :
    exec (.flitTransmit p) s = .next (s.sendHeaders p.val) := by
  change execFlitTransmit p s = _
  simp [execFlitTransmit, hp, hr, hroom, h]

variable (h : ¬ (s.portState p.val = 2 ∧ ∃ o ∈ (s.link p.val).outq, o.hdrSent = false))
include h

theorem exec_flitTransmit_data {key : Nat} {o : OutPkt} (hd : (s.link p.val).dataKey = some (key, o)) :
    exec (.flitTransmit p) s = .next (s.sendData p.val key o) := by
  change execFlitTransmit p s = _
  simp [execFlitTransmit, hp, hr, hroom, h, hd]

theorem exec_flitTransmit_idle (hd : (s.link p.val).dataKey = none) :
    exec (.flitTransmit p) s = .next (s.sendIdle p.val) := by
  change execFlitTransmit p s = _
  simp [execFlitTransmit, hp, hr, hroom, h, hd]

end

/-- R305, R309: whatever there is to send, a slot of a port that carries flits sends one. -/
theorem exec_flitTransmit_sends : ∃ u, exec (.flitTransmit p) s = .next u ∧ s.SentFlit p.val u := by
  cases hr : (s.link p.val).resend with
  | cons l ls =>
    cases hf : (s.link p.val).replay.find? (fun r => r.flit.lseq = l) with
    | none => exact ⟨_, exec_flitTransmit_released hp hr hf, State.sentFlit_sendIdle_setLink rfl rfl⟩
    | some r =>
      cases hh : r.hole with
      | true => exact ⟨_, exec_flitTransmit_hole hp hr hf hh, s.sentFlit_sendIdle _⟩
      | false => exact ⟨_, exec_flitTransmit_again hp hr hf hh,
          State.sentFlit_sendFlit (y := { s.link p.val with resend := ls }) rfl rfl _⟩
  | nil =>
    cases hroom : (s.link p.val).room with
    | false => exact ⟨_, exec_flitTransmit_full hp hr hroom, s.sentFlit_sendIdle _⟩
    | true =>
      by_cases h : s.portState p.val = 2 ∧ ∃ o ∈ (s.link p.val).outq, o.hdrSent = false
      · exact ⟨_, exec_flitTransmit_headers hp hr hroom h, s.sentFlit_sendHeaders _⟩
      · cases hd : (s.link p.val).dataKey with
        | none => exact ⟨_, exec_flitTransmit_idle hp hr hroom h hd, s.sentFlit_sendIdle _⟩
        | some e => exact ⟨_, exec_flitTransmit_data hp hr hroom h hd, s.sentFlit_sendData _ _ _⟩

end

/-! A flit that comes (R309 to R311) -/

/-- R342: the FEC's codewords of a flit are counted. -/
def State.countFec (s : State) (p : Nat) (r : FecReport) : State :=
  (s.incFld (Fd.JL_P_FEC_CORR p) r.corr).incFld (Fd.JL_P_FEC_UNCORR p) r.uncorr

theorem exec_flitReceive {p : Port} {s : State} (hp : s.portCarries p.val = true) (f : Flit) (r : FecReport) :
    exec (.flitReceive p f r) s = .next
      (if f.body.length = 256 ∧ f.crc = flitCrc f then (s.countFec p.val r).flitPasses p.val f
      else (s.countFec p.val r).flitFails p.val f r) := by
  change execFlitReceive p f r s = _
  simp [execFlitReceive, hp, State.countFec]

/-- R309: a port once it has accepted a flit in order: it expects the next, and no NAK is due. -/
def LinkPort.accepts (x : LinkPort) (f : Flit) : LinkPort :=
  { (x.acked f.ack f.nak).credited f with expL := (x.acked f.ack f.nak).expL + 1, discarding := false, nakDue := false }

section
variable {s : State} {p : Nat} {f : Flit}

theorem State.lockedLanes_countRetry (s : State) (p : Nat) : (s.incFld (Fd.JL_P_COUNT_RETRIES p)).lockedLanes p = s.lockedLanes p := by
  have apart : (Fd.JL_P_LANES_LOCKED p).key ≠ (Fd.JL_P_COUNT_RETRIES p).key :=
    Fld.key_ne_of_addr (show 32 < 64 by decide) (show 0 < 64 by decide) (by simp [Fd.JL_P_LANES_LOCKED, Fd.JL_P_COUNT_RETRIES, Reg.addr])
  rw [State.lockedLanes, State.incFld, State.fld_setFld_ne _ _ _ _ apart, State.lockedLanes]

/-- R310: a flit that fails its check, and is not the next data flit, only counts, is charged and makes a NAK due. -/
theorem State.flitFails_charged (r : FecReport) (h : (s.link p).discarding = true ∨ f.kind ≠ 2 ∨ f.lseq ≠ (s.link p).expL) :
    s.flitFails p f r = (s.incFld (Fd.JL_P_COUNT_RETRIES p)).setLink p { s.link p with
      charges := (s.link p).charges.filter (fun e => decide (r.ms ≤ e.2 + 10000)) ++ [(worstLane r.errs (s.lockedLanes p), r.ms)]
      nakDue := true, discarding := true } := by
  rw [← s.lockedLanes_countRetry p]
  exact if_pos h

theorem State.flitPasses_idle (hk : f.kind = 0) :
    s.flitPasses p f = s.setLink p (((s.link p).acked f.ack f.nak).credited f) := by
  simp [State.flitPasses, hk]

section
variable (hs : f.lseq = ((s.link p).acked f.ack f.nak).expL)
include hs

theorem State.flitPasses_headers (hk : f.kind = 1) :
    s.flitPasses p f = (s.setLink p ((s.link p).accepts f)).takeHeaders p (flitHeaders f.body) := by
  simp [State.flitPasses, LinkPort.accepts, hk, hs]

theorem State.flitPasses_data (hk : f.kind = 2) : s.flitPasses p f = (s.setLink p ((s.link p).accepts f)).takeData p f := by
  simp [State.flitPasses, LinkPort.accepts, hk, hs]

end

section
variable (hk : f.kind ≠ 0) (hs : f.lseq ≠ ((s.link p).acked f.ack f.nak).expL)
include hk hs

theorem State.flitPasses_received (h : (((s.link p).acked f.ack f.nak).expL - f.lseq).toNat ≤ 2048) :
    s.flitPasses p f = s.setLink p ((s.link p).acked f.ack f.nak) := by
  simp only [State.flitPasses, if_neg hk, if_neg hs, if_pos h]

/-- R309: a flit too far on makes a NAK due. -/
theorem State.flitPasses_ahead (h : 2048 < (((s.link p).acked f.ack f.nak).expL - f.lseq).toNat) :
    s.flitPasses p f = s.setLink p { (s.link p).acked f.ack f.nak with nakDue := true, discarding := true } := by
  simp only [State.flitPasses, if_neg hk, if_neg hs, if_neg (Nat.not_le.mpr h), State.setLink_setLink]

end

end

/-! An acknowledgement (R309, R310) -/

section
variable {x : LinkPort} {ack : BitVec 12} (nak : Bool)

theorem LinkPort.acked_names {i : Nat} (h : x.replay.findIdx? (fun r => r.flit.lseq = ack) = some i) :
    (x.acked ack nak).replay = x.replay.drop (i + 1) := by
  simp only [LinkPort.acked, h]

theorem LinkPort.acked_stray (h : ∀ r ∈ x.replay, r.flit.lseq ≠ ack) : (x.acked ack nak).replay = x.replay := by
  have none : x.replay.findIdx? (fun r => r.flit.lseq = ack) = none :=
    List.findIdx?_eq_none_iff.mpr fun r hr => decide_eq_false (h r hr)
  simp only [LinkPort.acked, none]

end

/-- Settles O43: a slot by what there is to send, a flit that comes by its check and its number. -/
theorem linkSlots : Obligations.LinkSlots := by
  refine ⟨?sends, ?receives, fun x ack nak => ⟨fun i => LinkPort.acked_names nak, LinkPort.acked_stray nak⟩⟩
  case sends =>
    intro p s hp x
    refine ⟨?one, fun hr => ⟨exec_flitTransmit_full hp hr, fun hroom => ⟨fun up waits => ?headers, fun hs => ?body⟩⟩⟩
    case one =>
      obtain ⟨u, hu, ⟨f, hout, hcrc, hack, hnak⟩, told, others⟩ := exec_flitTransmit_sends hp
      exact ⟨u, f, hu, hout, hcrc, hack, hnak, told, others⟩
    case headers => exact exec_flitTransmit_headers hp hr hroom ⟨up, waits⟩
    case body =>
      have started : ¬ (s.portState p.val = 2 ∧ ∃ o ∈ x.outq, o.hdrSent = false) := by
        rintro ⟨up, o, ho, waits⟩
        rcases hs with draining | all
        · simp [up] at draining
        · simp [all o ho] at waits
      exact ⟨fun key o => exec_flitTransmit_data hp hr hroom started, exec_flitTransmit_idle hp hr hroom started⟩
  case receives =>
    intro p f r s0 hp q s x good
    refine ⟨rfl, fun bad h => ?fails, fun hg => ?passes⟩
    case fails =>
      have fails : exec (.flitReceive p f r) s0 = .next (s.flitFails q f r) := by
        rw [exec_flitReceive hp, if_neg bad]
        rfl
      rw [fails, State.flitFails_charged r h]
    case passes =>
      have passes : exec (.flitReceive p f r) s0 = .next (s.flitPasses q f) := by
        rw [exec_flitReceive hp, if_pos hg]
        rfl
      refine ⟨fun hk => ?idle, fun hs => ⟨fun hk => ?headers, fun hk => ?data⟩,
        fun hk hs => ⟨fun h => ?received, fun h => ?ahead⟩⟩ <;>
        rw [passes]
      case idle => rw [State.flitPasses_idle hk]
      case headers => rw [State.flitPasses_headers hs hk]; rfl
      case data => rw [State.flitPasses_data hs hk]; rfl
      case received => rw [State.flitPasses_received hk hs h]
      case ahead => rw [State.flitPasses_ahead hk hs h]

end Sys2Proof.Machine
end

section
/-! What ACK, NACK and NOTICE packets do, and CLOSE, management, lap and relay packets that their flow would accept (R312, R318, R320 to
R325, R334, R391, R395, R447, R448, R638, R640). -/

namespace Sys2Proof.Machine

/-! From the command to the packet -/

section
variable (p : Port) (k : Packet) (s : State)

theorem exec_ack : exec (.ack p k) s = .next (s.arrive p.val 0x08 k) := rfl
theorem exec_nack : exec (.nack p k) s = .next (s.arrive p.val 0x09 k) := rfl
theorem exec_close : exec (.close p k) s = .next (s.arrive p.val 0x0A k) := rfl
theorem exec_notice : exec (.notice p k) s = .next (s.arrive p.val 0x11 k) := rfl
theorem exec_lap : exec (.lap p k) s = .next (s.arrive p.val 0x18 k) := rfl

/-- R638: a MGMT packet of the MTYPE of its row. -/
theorem State.mgmtRow_of_type {mtype : Nat} (h : numAt k.body 0 1 = mtype) : s.mgmtRow p.val mtype k = s.arrive p.val 0x10 k :=
  if_pos h

theorem exec_lapgeo (h : numAt k.body 0 1 = 1) : exec (.lapgeo p k) s = .next (s.arrive p.val 0x10 k) :=
  congrArg Host.Outcome.next (s.mgmtRow_of_type p k h)

theorem exec_fwchunk (h : numAt k.body 0 1 = 2) : exec (.fwchunk p k) s = .next (s.arrive p.val 0x10 k) :=
  congrArg Host.Outcome.next (s.mgmtRow_of_type p k h)

theorem exec_fwstatus (h : numAt k.body 0 1 = 3) : exec (.fwstatus p k) s = .next (s.arrive p.val 0x10 k) :=
  congrArg Host.Outcome.next (s.mgmtRow_of_type p k h)

/-- R447: a RELAY packet of a batch of the KIND of its row. -/
theorem State.relayRow_of_kind {kind : Nat} (h : (RelHdr.dec (s.batchHdr k)).kind = kind) :
    s.relayRow p.val kind k = s.arrive p.val 0x20 k := by
  simp [State.relayRow, h]

end

/-! A packet that comes whole for this module -/

/-- R312, R327: a port that carries flits brings a packet of a VC that the module may use already. -/
structure State.Brings (s : State) (p : Nat) (k : Packet) : Prop where
  carries : s.portCarries p = true
  sealedOrVc0 : s.isSealed = true ∨ k.vc.toNat = 0

section
variable {s : State} {p typ : Nat} {k : Packet} (h : s.Brings p k) (ht : typeOnVc typ k.vc.toNat = true)
include h ht

theorem State.Brings.allowed : ¬ (!(s.portCarries p) ∨ !(typeOnVc typ k.vc.toNat) ∨ (!s.isSealed ∧ k.vc ≠ 0)) := by
  have usable : s.isSealed = false → k.vc = 0 := fun unsealed =>
    BitVec.eq_of_toNat_eq (h.sealedOrVc0.resolve_left (by simp [unsealed]))
  simpa [h.carries, ht] using usable

/-- R334: a NOTICE is taken whatever its destination. -/
theorem State.Brings.arrive_notice (hn : typ = 0x11) : s.arrive p typ k = s.noticeArrives p k := by
  rw [State.arrive, if_neg (h.allowed ht), if_pos hn]

theorem State.Brings.arrive_home (hn : typ ≠ 0x11) (hd : k.dst.toNat = s.moduleId) : s.arrive p typ k = s.atHome p typ k := by
  rw [State.arrive, if_neg (h.allowed ht), if_neg hn, if_pos hd]

end

/-- R325: a NACK of the epoch of its flow, with a reason R318 gives, ends a wait. -/
theorem State.takeNack_ends {s : State} {k : Packet} {f : SendFlow}
    (hf : SMap.find s.sends (k.src.toNat * 16 + k.vc.toNat) = some f) (he : f.epoch = k.epoch)
    (h1 : 1 ≤ numAt k.body 0 1) (h3 : numAt k.body 0 1 ≤ 3) : s.takeNack k = s.endWait k.src.toNat k.vc.toNat := by
  simp [State.takeNack, hf, he, h1, h3]

/-- R320, R334: ACK, NACK and NOTICE packets are no part of the sequence of a flow; the others are. -/
def isSequenced (typ : Nat) : Bool := decide (typ ≠ 0x08) && decide (typ ≠ 0x09) && decide (typ ≠ 0x11)

/-! A packet that its flow would accept, by what its consumer makes of it -/

/-- R312, R322: a packet for this module that is the next of its entry, or opens the flow. -/
structure State.Offers (s : State) (p : Nat) (k : Packet) (rf : RecvFlow) : Prop extends s.Brings p k where
  home : k.dst.toNat = s.moduleId
  next : s.verdict k.src.toNat k.vc.toNat k = .take rf none

section
variable (s : State) (p src vc : Nat) (rf : RecvFlow) (body : List Byte)

theorem State.consume_close : s.consume p 0x0A src vc rf body = .yes rf s := rfl
theorem State.consume_mgmt : s.consume p 0x10 src vc rf body = .yes rf (s.takeMgmt p src body) := rfl
theorem State.consume_lap : s.consume p 0x18 src vc rf body = s.takeLap src (vc - 2) rf body := rfl
theorem State.consume_relay : s.consume p 0x20 src vc rf body = s.takeRelay src vc rf body := rfl

end

section
variable {s u : State} {p typ : Nat} {k : Packet} {rf : RecvFlow} (h : s.Offers p k rf) (ht : typeOnVc typ k.vc.toNat = true)
  (hq : isSequenced typ = true)
include h ht hq

theorem State.Offers.arrive_receive : s.arrive p typ k = s.receive p typ k := by
  obtain ⟨⟨h8, h9⟩, hn⟩ : (typ ≠ 0x08 ∧ typ ≠ 0x09) ∧ typ ≠ 0x11 := by simpa [isSequenced] using hq
  rw [h.arrive_home ht hn h.home, State.atHome, if_neg h8, if_neg h9]

/-- R322: one that is taken is counted in its flow. -/
theorem State.Offers.arrive_taken {x : RecvFlow}
    (hc : s.consume p typ k.src.toNat k.vc.toNat { rf with port := p } k.body = .yes x u) :
    s.arrive p typ k = u.commitRecv k.src.toNat k.vc.toNat k x := by
  rw [h.arrive_receive ht hq]
  simp only [State.receive, h.next, hc]

/-- R318: one that is not is refused with its reason. -/
theorem State.Offers.arrive_refused {reason : Nat} (hr : reason ≠ 0)
    (hc : s.consume p typ k.src.toNat k.vc.toNat { rf with port := p } k.body = .no reason u) :
    s.arrive p typ k = u.sendNack k.src.toNat k.vc.toNat k reason := by
  rw [h.arrive_receive ht hq]
  simp [State.receive, h.next, hc, hr]

end

/-! Management packets (R638) -/

/-- The lowest byte of a number is the first of its bytes. -/
theorem bits_leNat_low (bs : List Byte) : bits (leNat bs) 0 8 = leNat (bs.take 1) := by
  cases bs with
  | nil => rfl
  | cons b bs =>
    have hb : b.toNat < 256 := b.isLt
    simp only [bits, leNat, List.take_succ_cons, List.take_zero]
    omega

theorem bits_numAt_low (body : List Byte) {n : Nat} (hn : 1 ≤ n) : bits (numAt body 0 n) 0 8 = numAt body 0 1 := by
  rw [numAt, bits_leNat_low, List.take_take, Nat.min_eq_left hn, numAt]

section
variable {s : State} {body : List Byte} (p src : Nat)

/-- R391: a geometry of VC2 or VC3. -/
theorem State.takeMgmt_geo (h : numAt body 0 1 = 1) {i : Nat} (hi : i < 2) (hv : bits (numAt body 0 16) 8 8 = 2 + i) :
    s.takeMgmt p src body = s.geoArrive i (bits (numAt body 0 16) 16 10, bits (numAt body 0 16) 32 12) := by
  have lapVc : 2 + i = 2 ∨ 2 + i = 3 := by omega
  simp only [State.takeMgmt, bits_numAt_low body (by decide : 1 ≤ 16), h, hv, if_pos lapVc, Nat.add_sub_cancel_left]

theorem State.takeMgmt_chunk (h : numAt body 0 1 = 2) : s.takeMgmt p src body = s.chunkArrives p src body := by
  simp only [State.takeMgmt, bits_numAt_low body (by decide : 1 ≤ 16), h]

/-- R640: a status of this module's last image counts. -/
theorem State.takeMgmt_status (h : numAt body 0 1 = 3) : s.takeMgmt p src body =
    if bits (numAt body 0 16) 32 32 = s.fw.seq.toNat then s.countStatus (bits (numAt body 0 16) 64 16) else s := by
  simp only [State.takeMgmt, bits_numAt_low body (by decide : 1 ≤ 16), h]

end

/-! Lap packets (R390, R395) -/

section
variable {s : State} {body : List Byte} (up : s.computeUp = true) (hl : body.length = 4096) (src i : Nat) (rf : RecvFlow)
include up hl

theorem State.takeLap_posted {q : Posting} {off : Nat} (h : s.lapTarget i src rf.count = some (q, off)) :
    s.takeLap src i rf body = .yes { rf with count := rf.count + 1 } (s.lapAccept i q off body) := by
  simp [State.takeLap, up, hl, h]

theorem State.takeLap_unposted (h : s.lapTarget i src rf.count = none) : s.takeLap src i rf body = .no 2 (s.noPost i) := by
  simp [State.takeLap, up, hl, h]

end

/-! Relay packets (R447, R448) -/

section
variable {s : State} {rf : RecvFlow} {body : List Byte} (vc src : Nat)

section
variable (hh : rf.hdr = [])
include hh

theorem State.relayPacket_refused (h : s.relClassify src (RelHdr.dec body) = .refuse) : s.relayPacket rf vc src body = none := by
  simp only [State.relayPacket, if_pos hh, h]

/-- R447: a header with data to come is held in the flow. -/
theorem State.relayPacket_header {e : Nat} (h : s.relClassify src (RelHdr.dec body) = .take e) (hb : (RelHdr.dec body).bytes ≠ 0) :
    s.relayPacket rf vc src body = some ({ rf with hdr := body, data := [], drop := false }, s) := by
  simp only [State.relayPacket, if_pos hh, h, if_neg hb]

theorem State.relayPacket_bare {e : Nat} (h : s.relClassify src (RelHdr.dec body) = .take e) (hb : (RelHdr.dec body).bytes = 0) :
    s.relayPacket rf vc src body = some (rf, s.takeBatch e vc src (RelHdr.dec body) []) := by
  simp only [State.relayPacket, if_pos hh, h, if_pos hb]

end

section
variable (hh : rf.hdr ≠ [])
include hh

theorem State.relayPacket_data (h : (rf.data ++ body).length < (RelHdr.dec rf.hdr).bytes) :
    s.relayPacket rf vc src body = some ({ rf with data := rf.data ++ body }, s) := by
  simp only [State.relayPacket, if_neg hh, if_pos h]

/-- R448: the last data of a batch gives it to the entry that still takes it. -/
theorem State.relayPacket_completes {e : Nat} (h : (RelHdr.dec rf.hdr).bytes ≤ (rf.data ++ body).length) (hd : rf.drop = false)
    (ho : s.relOpen (RelHdr.dec rf.hdr) = some e) : s.relayPacket rf vc src body =
      some ({ rf with hdr := [], data := [] }, s.takeBatch e vc src (RelHdr.dec rf.hdr) (rf.data ++ body)) := by
  simp only [State.relayPacket, if_neg hh, if_neg (Nat.not_lt.mpr h), hd, ho, Bool.false_eq_true, if_false]

end

variable (up : s.computeUp = true)
include up

theorem State.takeRelay_taken {x : RecvFlow} {u : State} (h : s.relayPacket rf vc src body = some (x, u)) :
    s.takeRelay src vc rf body = .yes x u := by
  simp [State.takeRelay, up, h]

theorem State.takeRelay_refused (h : s.relayPacket rf vc src body = none) : s.takeRelay src vc rf body = .no 3 s := by
  simp [State.takeRelay, up, h]

end

/-! Which VCs allow these packets (R312) -/

theorem typeOnVc_lap {vc : Nat} (h : vc = 2 ∨ vc = 3) : typeOnVc 0x18 vc = true := by
  rcases h with rfl | rfl <;> rfl

theorem typeOnVc_relay {vc : Nat} (h4 : 4 ≤ vc) (h11 : vc ≤ 11) : typeOnVc 0x20 vc = true := by
  simp [typeOnVc]
  omega

theorem typeOnVc_mgmt {vc : Nat} (h : vc = 0) : typeOnVc 0x10 vc = true := by
  rw [h]
  rfl

theorem typeOnVc_notice {vc : Nat} (h : vc = 0) : typeOnVc 0x11 vc = true := by
  rw [h]
  rfl

/-- Settles O40: what each packet's consumer makes of it, and how its flow counts or refuses it then. -/
theorem packetsOfRoles : Obligations.PacketsOfRoles := by
  intro p k s vc src h hp hs
  have brings : s.Brings p.val k := ⟨hp, hs⟩
  refine ⟨fun h0 => ?notice, fun hd => ⟨?ack, fun f hf he h1 h3 => ?nack, fun rf hv => ?sequenced⟩⟩
  case notice => rw [exec_notice, brings.arrive_notice (typeOnVc_notice h0) rfl]; rfl
  case ack => rw [exec_ack, brings.arrive_home rfl (by decide) hd]; rfl
  case nack =>
    rw [exec_nack, brings.arrive_home rfl (by decide) hd, ← State.takeNack_ends hf he h1 h3]
    rfl
  case sequenced =>
    have offers : s.Offers p.val k rf := ⟨brings, hd, hv⟩
    intro x
    have mgmt {u : State} (h0 : vc = 0) (hu : s.takeMgmt p.val src k.body = u) :
        s.arrive p.val 0x10 k = u.commitRecv src vc k x := by
      subst hu
      exact offers.arrive_taken (typeOnVc_mgmt h0) rfl (s.consume_mgmt p.val src vc x k.body)
    refine ⟨?close, fun h0 => ⟨fun i hm hi hb => ?geo, fun hm => ?chunk, fun hm => ?status⟩, fun hv up hl => ?lap,
      fun h4 h11 up => ?relay⟩
    case close => rw [exec_close, offers.arrive_taken rfl rfl (s.consume_close p.val src vc x k.body)]
    case geo => rw [exec_lapgeo p k s hm, mgmt h0 (State.takeMgmt_geo p.val src hm hi hb)]
    case chunk => rw [exec_fwchunk p k s hm, mgmt h0 (State.takeMgmt_chunk p.val src hm)]
    case status => rw [exec_fwstatus p k s hm, mgmt h0 (State.takeMgmt_status p.val src hm)]
    case lap =>
      refine ⟨fun q off hq => ?posted, fun hq => ?unposted⟩ <;> rw [exec_lap]
      case posted =>
        rw [offers.arrive_taken (typeOnVc_lap hv) rfl
          ((s.consume_lap p.val src vc x k.body).trans (State.takeLap_posted up hl src (vc - 2) x hq))]
      case unposted =>
        rw [offers.arrive_refused (typeOnVc_lap hv) rfl (by decide)
          ((s.consume_lap p.val src vc x k.body).trans (State.takeLap_unposted up hl src (vc - 2) x hq))]
    case relay =>
      intro rows
      have hvc := typeOnVc_relay h4 h11
      have taken {y : RecvFlow} {u : State} (hu : s.relayPacket x vc src k.body = some (y, u)) :
          s.arrive p.val 0x20 k = u.commitRecv src vc k y :=
        offers.arrive_taken hvc rfl
          ((s.consume_relay p.val src vc x k.body).trans (State.takeRelay_taken vc src up hu))
      have row {j : Instr} {kind : Nat} (hj : exec j s = .next (s.relayRow p.val kind k)) : rows j kind := by
        intro hk
        rw [hj, s.relayRow_of_kind p k hk]
        refine ⟨fun hh => ⟨fun hc => ?refused, fun e hc => ⟨fun hb => ?header, fun hb => ?bare⟩⟩,
          fun hh => ⟨fun hlt => ?data, fun e hle hdrop ho => ?completes⟩⟩
        case refused =>
          rw [offers.arrive_refused hvc rfl (by decide)
            ((s.consume_relay p.val src vc x k.body).trans
              (State.takeRelay_refused vc src up (State.relayPacket_refused (rf := x) vc src hh hc)))]
        case header => rw [taken (State.relayPacket_header (rf := x) vc src hh hc hb)]
        case bare => rw [taken (State.relayPacket_bare (rf := x) vc src hh hc hb)]
        case data => rw [taken (State.relayPacket_data (rf := x) vc src hh hlt)]
        case completes => rw [taken (State.relayPacket_completes (rf := x) vc src hh hle hdrop ho)]
      exact ⟨row rfl, row rfl, row rfl, row rfl, row rfl, row rfl, row rfl⟩

end Sys2Proof.Machine
end

section
/-! The timers of flows: acknowledgement, resend, failure, reopening, closing, and the entries that expire (R320, R323 to R325, R330,
R390, R400, R640). -/

namespace Sys2Proof.Machine

/-! The life of a receive entry (R323, R324, R400) -/

/-- R400: a lap VC gives back its incomplete lap. -/
theorem State.dropLapEntry_of_lap {vc : Nat} (h : vc = 2 ∨ vc = 3) (s : State) (rf : RecvFlow) :
    s.dropLapEntry vc rf = s.lapReplaced (vc - 2) rf.count := if_pos h

section
variable {m : ModId} {vc : BitVec 4} {s : State}

theorem exec_ackTimerExpiry {rf : RecvFlow} (h : SMap.find s.recvs (m.toNat * 16 + vc.toNat) = some rf) :
    exec (.ackTimerExpiry m vc) s = .next (if rf.since = 0 then s else s.sendAck m.toNat vc.toNat rf) := by
  change execAckTimerExpiry m vc s = _
  simp only [execAckTimerExpiry, h]

theorem exec_ackTimerExpiry_absent (h : SMap.find s.recvs (m.toNat * 16 + vc.toNat) = none) :
    exec (.ackTimerExpiry m vc) s = .next s := by
  change execAckTimerExpiry m vc s = _
  simp only [execAckTimerExpiry, h]

theorem exec_recvEntryExpiry {rf : RecvFlow} (h : SMap.find s.recvs (m.toNat * 16 + vc.toNat) = some rf) :
    exec (.recvEntryExpiry m vc) s = .next { s.dropLapEntry vc.toNat rf with
      recvs := SMap.erase (s.dropLapEntry vc.toNat rf).recvs (m.toNat * 16 + vc.toNat) } := by
  change execRecvEntryExpiry m vc s = _
  simp only [execRecvEntryExpiry, h]

theorem exec_recvEntryExpiry_absent (h : SMap.find s.recvs (m.toNat * 16 + vc.toNat) = none) :
    exec (.recvEntryExpiry m vc) s = .next s := by
  change execRecvEntryExpiry m vc s = _
  simp only [execRecvEntryExpiry, h]

end

/-! The life of a send flow (R320, R324, R325) -/

section
variable {d vc : Nat} {s : State}

theorem State.endWait_absent (h : SMap.find s.sends (d * 16 + vc) = none) : s.endWait d vc = s := by
  simp only [State.endWait, h]

theorem State.reopenFlow_absent (h : SMap.find s.sends (d * 16 + vc) = none) : s.reopenFlow d vc = s := by
  simp only [State.reopenFlow, h]

/-- R320: a flow that opens while there is room takes its epoch once the failed one is passed. -/
theorem State.openFlow_room (h : s.openFlows < 32768) (ws : List WaitPkt) :
    let q := s.passFailed (d * 16 + vc)
    s.openFlow d vc ws = { q with
      sends := q.sends.set (d * 16 + vc) { epoch := q.newEpoch, piste := q.pisteFor d q.curPiste, waiting := ws } } := by
  simp [State.openFlow, Nat.not_le.mpr h]

/-- R320: with 32,768 flows open it waits for a place. -/
theorem State.openFlow_full (h : 32768 ≤ s.openFlows) (ws : List WaitPkt) : (s.openFlow d vc ws).sends = s.sends.set (d * 16 + vc)
    { epoch := s.newEpoch, piste := s.pisteFor d s.curPiste, waiting := ws, held := true } := by
  simp [State.openFlow, h]

section
variable {f : SendFlow} (h : SMap.find s.sends (d * 16 + vc) = some f)
include h

/-- R325: nothing unacknowledged, nothing to resend. -/
theorem State.endWait_settled (hu : f.unacked = []) : s.endWait d vc = s := by
  simp only [State.endWait, h, hu, or_true, if_true]

section
variable (hr : f.reopen = false) (hu : f.unacked ≠ [])
include hr hu

/-- R330: a wait that ends on a piste that has become invalid fails the flow. -/
theorem State.endWait_fails (hf : s.routeFault d vc f.piste = 0x0602) : s.endWait d vc = s.failFlow d vc 0x0602 := by
  simp [State.endWait, h, hr, hu, hf]

/-- R325: one that ends doubles the next, and resends. -/
theorem State.endWait_resends (hf : s.routeFault d vc f.piste ≠ 0x0602) :
    let g := { f with wait := min 16 (2 * f.wait) }
    s.endWait d vc = ({ s with sends := s.sends.set (d * 16 + vc) g } : State).resendFlow d vc g := by
  simp [State.endWait, h, hr, hu, hf]

end

theorem State.reopenFlow_open (hr : f.reopen = false) : s.reopenFlow d vc = s := by
  simp [State.reopenFlow, h, hr]

section
variable (hr : f.reopen = true)
include hr

theorem State.reopenFlow_frees (hw : f.waiting = []) :
    s.reopenFlow d vc = { s with sends := SMap.erase s.sends (d * 16 + vc) } := by
  simp [State.reopenFlow, h, hr, hw]

theorem State.reopenFlow_opens (hw : f.waiting ≠ []) :
    s.reopenFlow d vc = (s.openFlow d vc f.waiting).pumpFlow d vc f.waiting.length := by
  simp [State.reopenFlow, h, hr, hw]

end

end

end

/-! The timers of a send flow -/

section
variable (m : ModId) (vc : BitVec 4) (s : State)

theorem exec_e2eResendTimeout : exec (.e2eResendTimeout m vc) s = .next (s.endWait m.toNat vc.toNat) := rfl

theorem exec_flowReopenWaitEnd : exec (.flowReopenWaitEnd m vc) s = .next (s.reopenFlow m.toNat vc.toNat) := rfl

theorem exec_fwImageTimeout :
    exec (.fwImageTimeout m) s = .next { s with fw := { s.fw with imgs := SMap.erase s.fw.imgs m.toNat } } := rfl

end

section
variable {m : ModId} {vc : BitVec 4} {s : State}

theorem exec_flowFail_absent (h : SMap.find s.sends (m.toNat * 16 + vc.toNat) = none) :
    exec (.flowFail m vc) s = .next s := by
  change execFlowFail m vc s = _
  simp only [execFlowFail, h]

theorem exec_idleFlowClose_absent (h : SMap.find s.sends (m.toNat * 16 + vc.toNat) = none) :
    exec (.idleFlowClose m vc) s = .next s := by
  change execIdleFlowClose m vc s = _
  simp only [execIdleFlowClose, h]

variable {f : SendFlow} (h : SMap.find s.sends (m.toNat * 16 + vc.toNat) = some f)
include h

theorem exec_flowFail (hr : f.reopen = false) :
    exec (.flowFail m vc) s = .next (if f.unacked = [] then s else s.failFlow m.toNat vc.toNat 0x0603) := by
  change execFlowFail m vc s = _
  simp [execFlowFail, h, hr]

/-- R324, R390: a flow with nothing sent or waiting closes, a lap flow at a lap boundary. -/
theorem exec_idleFlowClose (hr : f.reopen = false) (hc : f.closing = false) (hu : f.unacked = []) (hw : f.waiting = [])
    (hlap : vc.toNat = 2 ∨ vc.toNat = 3 → (s.lap (vc.toNat - 2)).cur = 0) :
    exec (.idleFlowClose m vc) s = .next (s.sendPkt m.toNat vc.toNat 0x0A [] .none true) := by
  change execIdleFlowClose m vc s = _
  have idle : ¬ (f.reopen ∨ f.closing ∨ f.unacked ≠ [] ∨ f.waiting ≠ [] ∨
      ((vc.toNat = 2 ∨ vc.toNat = 3) ∧ (s.lap (vc.toNat - 2)).cur ≠ 0)) := by
    simpa [hr, hc, hu, hw] using hlap
  simp only [execIdleFlowClose, h, if_neg idle]

end

/-- Settles O42: each timer by the equation of its command, and what a flow that opens finds. -/
theorem flowTimers : Obligations.FlowTimers := by
  intro m vc s d v key
  refine ⟨fun rf h => ⟨fun hn => ?acknowledges, fun h0 => ?quiet, ?expires⟩,
    fun h => ⟨exec_ackTimerExpiry_absent h, exec_recvEntryExpiry_absent h⟩,
    fun f h => ⟨fun hr hu => ?unacked, fun hr hu => ?settled, fun hr hw => ?frees, fun hr hw room => ?opens,
      fun hr hw full => ⟨_, State.openFlow_full full f.waiting, rfl, rfl⟩, fun hr => ?stands, exec_idleFlowClose h⟩,
    fun h => ?absent, exec_fwImageTimeout m s⟩
  case acknowledges => rw [exec_ackTimerExpiry h, if_neg hn]; rfl
  case quiet => rw [exec_ackTimerExpiry h, if_pos h0]
  case expires =>
    refine ⟨_, exec_recvEntryExpiry h, SMap.find_erase_self _ _, fun ⟨h2, h3⟩ => ?_, fun lap => ?_⟩
    · rw [State.dropLapEntry_of_not_lap h2 h3]
    · rw [State.dropLapEntry_of_lap lap]
  case unacked =>
    refine ⟨fun hf => ?_, fun hf => ?_, ?_⟩
    · rw [exec_e2eResendTimeout, State.endWait_fails h hr hu hf]
    · rw [exec_e2eResendTimeout, State.endWait_resends h hr hu hf]; rfl
    · rw [exec_flowFail h hr, if_neg hu]
  case settled =>
    rw [exec_e2eResendTimeout, State.endWait_settled h hu, exec_flowFail h hr, if_pos hu]
    exact ⟨rfl, rfl⟩
  case frees => rw [exec_flowReopenWaitEnd, State.reopenFlow_frees h hr hw]
  case opens => rw [exec_flowReopenWaitEnd, State.reopenFlow_opens h hr hw, State.openFlow_room room]; rfl
  case stands => rw [exec_flowReopenWaitEnd, State.reopenFlow_open h hr]
  case absent =>
    rw [exec_e2eResendTimeout, State.endWait_absent h, exec_flowFail_absent h, exec_flowReopenWaitEnd, State.reopenFlow_absent h,
      exec_idleFlowClose_absent h]
    exact ⟨rfl, rfl, rfl, rfl⟩

end Sys2Proof.Machine
end

section
/-! The events of a port: training, lost and worn lanes, draining, retraining, disabling, reviving, and the seal of the torus (R303, R304,
R327, R331 to R334, R336, R338 to R340). -/

namespace Sys2Proof.Machine

/-! What these events leave of a port's fields -/

theorem State.fld_raiseVec (s : State) (f : Fld) (port vec : Nat) : (s.raiseVec port vec).fld f = s.fld f := by
  unfold State.raiseVec
  dsimp only
  split <;> rfl

/-- R671: a record of the fault log moves the pointers of the log, and no other field. -/
theorem State.fld_logRec {f : Fld} (hl : f.lo < 64) (ha : f.addr ≠ (Reg.HST_FLOG_PTR).addr) (s : State) (code source detail : Nat) :
    (s.logRec code source detail).fld f = s.fld f := by
  have other {g : Fld} (hg : g.addr = (Reg.HST_FLOG_PTR).addr) (hgl : g.lo < 64) (u : State) (n : Nat) :
      (u.incFld g n).fld f = u.fld f :=
    u.fld_setFld_ne g f _ (Fld.key_ne_of_addr hl hgl (hg ▸ ha))
  have head := other (g := Fd.HST_FLOG_PTR_FHEAD) rfl (by decide)
  have tail := other (g := Fd.HST_FLOG_PTR_FTAIL) rfl (by decide)
  have overrun := other (g := Fd.HST_FLOG_PTR_FOVER) rfl (by decide)
  unfold State.logRec
  extract_lets h n r full u v w
  have moved : u.fld f = s.fld f := by
    unfold u
    split
    · rw [overrun, tail]
    · rfl
  have logged : w.fld f = s.fld f := (head v 1).trans moved
  split
  · rw [State.fld_raiseVec, logged]
  · exact logged

section
variable (s : State) (p : Nat)

/-- R339: the state of a port is a field of its own beside the lanes and failures that JL_P_STAT, JL_P_LANES and JL_P_COUNT show. -/
theorem State.portState_setFld {f : Fld} (h : (Fd.JL_P_STAT_STATE p).key ≠ f.key) (v : Nat) :
    (s.setFld f v).portState p = s.portState p := s.fld_setFld_ne f _ v h

/-- What JL_P_STAT shows is apart from what JL_P_LANES and JL_P_COUNT show. -/
theorem key_jlStat_ne {f g : Fld} (hf : f.addr = (Reg.JL_P_STAT p).addr) (hfl : f.lo < 64)
    (hg : g.addr = (Reg.JL_P_LANES p).addr ∨ g.addr = (Reg.JL_P_COUNT p).addr) (hgl : g.lo < 64) : f.key ≠ g.key := by
  refine Fld.key_ne_of_addr hfl hgl ?_
  rw [hf]
  rcases hg with hg | hg <;> rw [hg] <;> simp [Reg.addr]

theorem State.portState_setLocked (v : Nat) : (s.setFld (Fd.JL_P_LANES_LOCKED p) v).portState p = s.portState p :=
  s.portState_setFld p (key_jlStat_ne p rfl (show 0 < 64 by decide) (.inl rfl) (show 32 < 64 by decide)) v

theorem State.portState_showLanes : (s.showLanes p).portState p = s.portState p :=
  s.portState_setFld p (key_jlStat_ne p rfl (show 0 < 64 by decide) (.inl rfl) (show 0 < 64 by decide)) _

theorem State.portState_setFails (v : Nat) : (s.setFld (Fd.JL_P_STAT_RETRAIN_FAILS p) v).portState p = s.portState p :=
  s.portState_setFld p (Fld.key_ne_of_lo (f := Fd.JL_P_STAT_STATE p) (g := Fd.JL_P_STAT_RETRAIN_FAILS p) rfl (show 0 ≠ 12 by decide)) v

end

/-! Gateway ports (R339) -/

/-- R339: whether one port is a gateway port is shown. -/
def State.showGateway (s : State) (p : Nat) : State := s.setFld (Fd.JL_P_STAT_GATEWAY p) (b2n (s.gatewayPort s.moduleId p))

theorem State.showGateways_eq (s : State) : s.showGateways = (List.range 6).foldl State.showGateway s := rfl

theorem Fd.gateway_key_ne {p q : Nat} (h : q ≠ p) : (Fd.JL_P_STAT_GATEWAY q).key ≠ (Fd.JL_P_STAT_GATEWAY p).key :=
  Fld.key_ne_of_addr (show 10 < 64 by decide) (show 10 < 64 by decide)
    (show 0x800008 + q * 0x10000 ≠ 0x800008 + p * 0x10000 by omega)

/-- The torus registers lie behind those of the six ports. -/
theorem State.fld_showGateway {f : Fld} (hf : f.lo < 64) (ha : 0x880000 ≤ f.addr) {p : Nat} (hp : p < 6) (s : State) :
    (s.showGateway p).fld f = s.fld f :=
  s.fld_setFld_ne _ f _ (Fld.key_ne_of_addr hf (show 10 < 64 by decide) (by
    have hg : (Fd.JL_P_STAT_GATEWAY p).addr = 0x800008 + p * 0x10000 := rfl
    omega))

section
variable {p : Nat} (hp : p < 6) (s : State)
include hp

theorem State.moduleId_showGateway : (s.showGateway p).moduleId = s.moduleId :=
  State.fld_showGateway (f := Fd.JL_TORUS_MODULE_ID) (show 0 < 64 by decide) (by simp [Fd.JL_TORUS_MODULE_ID, Reg.addr]) hp s

theorem State.gatewayPort_showGateway (m q : Nat) : (s.showGateway p).gatewayPort m q = s.gatewayPort m q := by
  have kept (i : Nat) {f : Fld} (hl : f.lo < 64) (ha : f.addr = (Reg.JL_GATEWAY i).addr) : (s.showGateway p).fld f = s.fld f :=
    State.fld_showGateway hl (by rw [ha]; simp only [Reg.addr]; omega) hp s
  have joined (i : Nat) := kept i (f := Fd.JL_GATEWAY_JOINED i) (show 24 < 64 by decide) rfl
  have gwId (i : Nat) := kept i (f := Fd.JL_GATEWAY_GW_ID i) (show 0 < 64 by decide) rfl
  have gwPort (i : Nat) := kept i (f := Fd.JL_GATEWAY_GW_PORT i) (show 18 < 64 by decide) rfl
  simp only [State.gatewayPort, State.isSet, joined, gwId, gwPort]

end

theorem State.fld_gateway_showGateway (s : State) (p : Nat) :
    (s.showGateway p).fld (Fd.JL_P_STAT_GATEWAY p) = b2n (s.gatewayPort s.moduleId p) := by
  rw [State.showGateway, State.fld_setFld_self]
  cases s.gatewayPort s.moduleId p <;> rfl

/-- Each port shown, whether still to come or shown already, shows what it is. -/
theorem State.fld_gateway_foldl {q : Nat} (ps : List Nat) (hps : ∀ p ∈ ps, p < 6) (s : State)
    (h : q ∈ ps ∨ s.fld (Fd.JL_P_STAT_GATEWAY q) = b2n (s.gatewayPort s.moduleId q)) :
    (ps.foldl State.showGateway s).fld (Fd.JL_P_STAT_GATEWAY q) = b2n (s.gatewayPort s.moduleId q) := by
  induction ps generalizing s with
  | nil => exact h.resolve_left List.not_mem_nil
  | cons p ps ih =>
    have hp : p < 6 := hps p List.mem_cons_self
    have now : b2n ((s.showGateway p).gatewayPort (s.showGateway p).moduleId q) = b2n (s.gatewayPort s.moduleId q) := by
      rw [State.gatewayPort_showGateway hp, State.moduleId_showGateway hp]
    rw [List.foldl_cons, ← now]
    refine ih (fun x hx => hps x (List.mem_cons_of_mem p hx)) (s.showGateway p) ?_
    rw [now]
    by_cases hq : q = p
    · rw [hq]
      exact .inr (s.fld_gateway_showGateway p)
    · have kept : (s.showGateway p).fld (Fd.JL_P_STAT_GATEWAY q) = s.fld (Fd.JL_P_STAT_GATEWAY q) :=
        s.fld_setFld_ne _ _ _ (Fd.gateway_key_ne hq)
      rw [kept]
      exact h.imp_left fun hm => (List.mem_cons.mp hm).resolve_left hq

theorem State.fld_gateway_showGateways {q : Nat} (hq : q < 6) (s : State) :
    s.showGateways.fld (Fd.JL_P_STAT_GATEWAY q) = b2n (s.gatewayPort s.moduleId q) :=
  s.showGateways_eq ▸ State.fld_gateway_foldl _ (fun _ => List.mem_range.mp) s (.inl (List.mem_range.mpr hq))

/-! The lanes of a port (R331, R340) -/

section
variable {s : State} {p : Nat}

theorem State.takeLanes_none (h : laneSet (s.fld (Fd.JL_P_LANES_RETIRED p)) = none) : s.takeLanes p = (s.retirePort p, false) := by
  simp only [State.takeLanes, h]

theorem State.takeLanes_some {w k m : Nat} (h : laneSet (s.fld (Fd.JL_P_LANES_RETIRED p)) = some (w, k, m)) : s.takeLanes p =
    (((s.setFld (Fd.JL_P_STAT_WIDTH p) w).setFld (Fd.JL_P_STAT_LANESET p) k).setFld (Fd.JL_P_LANES_LOCKED p) m, true) := by
  simp only [State.takeLanes, h]

variable (s p) in
/-- R597: which lanes have saved settings does not change as the port takes the lanes it uses. -/
theorem State.laneUnits_setLanes (w k m : Nat) :
    (((s.setFld (Fd.JL_P_STAT_WIDTH p) w).setFld (Fd.JL_P_STAT_LANESET p) k).setFld (Fd.JL_P_LANES_LOCKED p) m).laneUnits p =
      s.laneUnits p := by
  have locked : (Fd.JL_P_LANES_RETIRED p).key ≠ (Fd.JL_P_LANES_LOCKED p).key :=
    Fld.key_ne_of_lo (f := Fd.JL_P_LANES_RETIRED p) (g := Fd.JL_P_LANES_LOCKED p) rfl (show 0 ≠ 32 by decide)
  have stat {f : Fld} (hf : f.addr = (Reg.JL_P_STAT p).addr) (hl : f.lo < 64) : (Fd.JL_P_LANES_RETIRED p).key ≠ f.key :=
    (key_jlStat_ne p hf hl (.inl rfl) (show 0 < 64 by decide)).symm
  have width := stat (f := Fd.JL_P_STAT_WIDTH p) rfl (show 5 < 64 by decide)
  have laneset := stat (f := Fd.JL_P_STAT_LANESET p) rfl (show 7 < 64 by decide)
  simp only [State.laneUnits, State.fld_setFld_ne _ _ _ _ locked, State.fld_setFld_ne _ _ _ _ laneset,
    State.fld_setFld_ne _ _ _ _ width]

end

theorem State.fld_lanesRetired_learnLanes (s : State) (p : Nat) (peer : BitVec 32) :
    (s.learnLanes p peer).fld (Fd.JL_P_LANES_RETIRED p) = (s.ownLanes.getD p 0 ||| peer.toNat) % 2 ^ 32 := by
  simp only [State.learnLanes, State.showLanes, State.fld_setFld_self, SMap.getD_set_self]
  rfl

/-! A port that comes up (R336) -/

theorem State.revivedUp_returns {s : State} {p : Nat} (h : (s.link p).revived = true ∨ s.retired.contains (s.moduleId * 8 + p) = true) :
    s.revivedUp p =
      ((s.setLink p { s.link p with revived := false }).forgetRetired s.moduleId p).sendNotices 6 s.moduleId p 2 := if_pos h

theorem State.revivedUp_stayed {s : State} {p : Nat} (hr : (s.link p).revived = false)
    (hm : s.retired.contains (s.moduleId * 8 + p) = false) : s.revivedUp p = s :=
  if_neg (by simp only [hr, hm]; decide)

/-! Training (R303, R304) -/

/-- R303, R304, R336, R598: a port that has its lanes settles the saved settings of its units, learns its peer and comes up; `x` is
its link as training ended. -/
def State.trained (s : State) (p : Nat) (units : List Nat) (info : TrainInfo) (x : LinkPort) : State :=
  let gen := if info.oftan ∨ x.gen1 ∨ info.gen.toNat < 2 then 1 else 2
  let s := units.foldl (fun s u => s.useSetting 1 u info.cond) s
  let s := (s.setFld (Fd.JL_P_STAT_GEN p) gen).setFld (Fd.JL_P_STAT_OFTAN p) (b2n info.oftan)
  let s := (s.setFld (Fd.JL_P_STAT_PEER_ID p) info.peerId.toNat).setFld (Fd.JL_P_STAT_PEER_PORT p) info.peerPort.toNat
  let s := (s.showGateways.setLink p { freshLink with revived := x.revived }).portUpNow p
  let s := ((s.setFld (Fd.JL_P_STAT_RETRAIN_FAILS p) 0).revivedUp p).sendKnown p
  if info.oftan then s.rerouteAll else s

section
variable {p : Port} {info : TrainInfo} {s : State} (hs : s.portState p.val = 1) (hg : s.fld (Fd.JL_P_STAT_GEN p.val) = 0)
include hs hg

/-- R333: a first training that fails goes on, one that a REVIVE began counts. -/
theorem exec_portTrainingDone_failed (ho : info.ok = false) : exec (.portTrainingDone p info) s =
    .next (if (s.link p.val).revived then s.retrainFailed p.val else s) := by
  change execPortTrainingDone p info s = _
  simp [execPortTrainingDone, hs, hg, ho]

theorem exec_portTrainingDone_trained (ho : info.ok = true) {r : State × Bool}
    (hr : (s.learnLanes p.val info.peerRetired).takeLanes p.val = r) : exec (.portTrainingDone p info) s =
    .next (if r.2 then r.1.trained p.val ((s.learnLanes p.val info.peerRetired).laneUnits p.val) info (s.link p.val) else r.1) := by
  subst hr
  change execPortTrainingDone p info s = _
  have training : ¬ (s.portState p.val ≠ 1 ∨ s.fld (Fd.JL_P_STAT_GEN p.val) ≠ 0) := by simp [hs, hg]
  have good : ¬ ((!info.ok) = true) := by simp [ho]
  unfold execPortTrainingDone
  extract_lets q gen was u r
  rw [if_neg training, if_neg good]
  cases hr : r.2 with
  | true => rfl
  | false => rfl

end

/-! Lanes that lose lock (R332) -/

/-- R332: a lane of a port has lost lock, and its time is kept. -/
def State.loseLane (s : State) (p l ms : Nat) : State :=
  (s.setFld (Fd.JL_P_LANES_LOCKED p) (s.fld (Fd.JL_P_LANES_LOCKED p) - 2 ^ l)).setLink p
    { s.link p with lol := (s.link p).lol ++ [(l, ms)] }

theorem State.portState_loseLane (s : State) (p l ms : Nat) : (s.loseLane p l ms).portState p = s.portState p :=
  s.portState_setLocked p _

theorem exec_laneLossOfLock {p : Port} {lane : Fin 32} {s : State} (hb : bitAt (s.fld (Fd.JL_P_LANES_LOCKED p.val)) lane.val = true)
    (hs : s.portState p.val = 1 ∨ s.portState p.val = 2 ∨ s.portState p.val = 3) (ms : Nat) :
    exec (.laneLossOfLock p lane ms) s = .next (if s.portState p.val = 1 then s.loseLane p.val lane.val ms
      else (s.loseLane p.val lane.val ms).beginRetrain p.val) := by
  change execLaneLossOfLock p lane ms s = _
  have used : ¬ (!bitAt (s.fld (Fd.JL_P_LANES_LOCKED p.val)) lane.val ∨
      (s.portState p.val ≠ 2 ∧ s.portState p.val ≠ 3 ∧ s.portState p.val ≠ 1)) := by
    simp only [hb, Bool.not_true, Bool.false_eq_true, false_or]
    omega
  rw [← s.portState_loseLane p.val lane.val ms, execLaneLossOfLock, if_neg used]
  rfl

/-! Lanes that reach a threshold (R331, R332, R341) -/

/-- R332: the lanes named that have reached a threshold and are not retired yet. -/
def State.wornLanes (s : State) (p : Nat) (lanes : BitVec 32) : List Nat :=
  (List.range 32).filter (fun l => lanes.getLsbD l && s.laneWorn p l && !bitAt (s.fld (Fd.JL_P_LANES_RETIRED p)) l)

/-- R331: lanes with some more of them. -/
def withLanes (lanes : Nat) (ls : List Nat) : Nat := ls.foldl (fun a l => a ||| 2 ^ l) lanes

/-- R332: this end of a port retires lanes, and records each. -/
def State.retireLanes (s : State) (p : Nat) (ls : List Nat) : State :=
  let w : State := { s with ownLanes := s.ownLanes.set p (withLanes (s.ownLanes.getD p 0) ls) }
  ls.foldl (fun s _ => s.logRec 0x0606 4 p) ((w.showLanes p).incFld (Fd.JL_P_COUNT_LANE_RETIRES p) ls.length)

/-- R332: what JL_P_STAT shows stays as lanes retire. -/
theorem State.fld_retireLanes {f : Fld} {p : Nat} (hf : f.addr = (Reg.JL_P_STAT p).addr) (hl : f.lo < 64) (s : State) (ls : List Nat) :
    (s.retireLanes p ls).fld f = s.fld f := by
  have logs : f.addr ≠ (Reg.HST_FLOG_PTR).addr := by
    rw [hf]
    simp only [Reg.addr]
    omega
  unfold State.retireLanes
  dsimp only
  rw [foldl_leaves (fun u : State => u.fld f) _ (fun u _ => State.fld_logRec hl logs u _ _ _),
    State.incFld, State.fld_setFld_ne _ _ _ _ (key_jlStat_ne p hf hl (.inr rfl) (show 48 < 64 by decide)),
    State.showLanes, State.fld_setFld_ne _ _ _ _ (key_jlStat_ne p hf hl (.inl rfl) (show 0 < 64 by decide))]
  rfl

section
variable {p : Port} {lanes : BitVec 32} {s : State} (hn : s.wornLanes p.val lanes ≠ []) (hs : s.portState p.val = 2)
include hn hs

theorem State.counts_wornLanes :
    ¬ (s.wornLanes p.val lanes = [] ∨ (s.portState p.val ≠ 2 ∧ s.portState p.val ≠ 3 ∧ s.portState p.val ≠ 1)) := by
  simp [hn, hs]

/-- R332: with too few lanes left the port retires. -/
theorem exec_laneThresholdReached_few
    (h : laneSet (withLanes (s.fld (Fd.JL_P_LANES_RETIRED p.val)) (s.wornLanes p.val lanes)) = none) :
    exec (.laneThresholdReached p lanes) s = .next ((s.retireLanes p.val (s.wornLanes p.val lanes)).retirePort p.val) := by
  change execLaneThresholdReached p lanes s = _
  unfold execLaneThresholdReached
  extract_lets q old own ls new u v w
  have hnew : laneSet new = none := h
  refine (if_neg (State.counts_wornLanes hn hs)).trans ?_
  simp only [hnew]
  rfl

/-- R332: a port whose lanes in use change drains. -/
theorem exec_laneThresholdReached_some {w k m : Nat}
    (h : laneSet (withLanes (s.fld (Fd.JL_P_LANES_RETIRED p.val)) (s.wornLanes p.val lanes)) = some (w, k, m)) :
    let u := s.retireLanes p.val (s.wornLanes p.val lanes)
    exec (.laneThresholdReached p lanes) s = .next
      (if (w, k) ≠ (s.fld (Fd.JL_P_STAT_WIDTH p.val), s.fld (Fd.JL_P_STAT_LANESET p.val)) then
        u.setFld (Fd.JL_P_STAT_STATE p.val) 3 else u) := by
  intro u
  change execLaneThresholdReached p lanes s = _
  have up : u.portState p.val = 2 := (State.fld_retireLanes rfl (show 0 < 64 by decide) s _).trans hs
  have width : u.fld (Fd.JL_P_STAT_WIDTH p.val) = s.fld (Fd.JL_P_STAT_WIDTH p.val) :=
    State.fld_retireLanes rfl (show 5 < 64 by decide) s _
  have laneset : u.fld (Fd.JL_P_STAT_LANESET p.val) = s.fld (Fd.JL_P_STAT_LANESET p.val) :=
    State.fld_retireLanes rfl (show 7 < 64 by decide) s _
  have drains : (u.portState p.val = 2 ∧ (w, k) ≠ (u.fld (Fd.JL_P_STAT_WIDTH p.val), u.fld (Fd.JL_P_STAT_LANESET p.val))) ↔
      (w, k) ≠ (s.fld (Fd.JL_P_STAT_WIDTH p.val), s.fld (Fd.JL_P_STAT_LANESET p.val)) := by
    rw [width, laneset]
    exact and_iff_right up
  unfold execLaneThresholdReached
  extract_lets q old own ls new x y z
  have hnew : laneSet new = some (w, k, m) := h
  refine (if_neg (State.counts_wornLanes hn hs)).trans ?_
  simp only [hnew, ← drains]
  rfl

end

/-! Draining and retraining (R332, R333) -/

theorem exec_portDrainDone {p : Port} {s : State} (hs : s.portState p.val = 3) (hr : (s.link p.val).replay = [])
    (ho : ∀ o ∈ (s.link p.val).outq, o.hdrSent = false) : exec (.portDrainDone p) s = .next (s.beginRetrain p.val) := by
  change execPortDrainDone p s = _
  have drained : (s.link p.val).drained = true := by simpa [LinkPort.drained, hr] using ho
  simp [execPortDrainDone, hs, drained]

section
variable {p : Port} {s : State} (hs : s.portState p.val = 1)
include hs

theorem exec_portRetrainDone_ok (hg : s.fld (Fd.JL_P_STAT_GEN p.val) ≠ 0) (peer : BitVec 32) :
    exec (.portRetrainDone p true peer) s = .next
      (let r := ((s.setFld (Fd.JL_P_STAT_RETRAIN_FAILS p.val) 0).learnLanes p.val peer).takeLanes p.val
      if r.2 then (r.1.portUpNow p.val).revivedUp p.val else r.1) := by
  change execPortRetrainDone p true peer s = _
  simp [execPortRetrainDone, hs, hg]

theorem exec_portRetrainDone_failed (hg : s.fld (Fd.JL_P_STAT_GEN p.val) ≠ 0 ∨ (s.link p.val).revived = true) (peer : BitVec 32) :
    exec (.portRetrainDone p false peer) s = .next (s.retrainFailed p.val) := by
  change execPortRetrainDone p false peer s = _
  have retrains : ¬ (s.portState p.val ≠ 1 ∨
      (s.fld (Fd.JL_P_STAT_GEN p.val) = 0 ∧ ((false : Bool) = true ∨ (!(s.link p.val).revived) = true))) := by
    rcases hg with hg | hg <;> simp [hs, hg]
  rw [execPortRetrainDone, if_neg retrains]
  rfl

end

section
variable {s : State} {p : Nat}

/-- R333: at the limit a retraining that fails retires the port. -/
theorem State.retrainFailed_retires (h : (s.incFld (Fd.JL_P_STAT_RETRAIN_FAILS p)).fld (Fd.JL_P_THRESH_RETRAIN_LIMIT p) ≤
    (s.incFld (Fd.JL_P_STAT_RETRAIN_FAILS p)).fld (Fd.JL_P_STAT_RETRAIN_FAILS p)) :
    s.retrainFailed p = (s.incFld (Fd.JL_P_STAT_RETRAIN_FAILS p)).retirePort p := if_pos h

theorem State.retrainFailed_retries (h : (s.incFld (Fd.JL_P_STAT_RETRAIN_FAILS p)).fld (Fd.JL_P_STAT_RETRAIN_FAILS p) <
    (s.incFld (Fd.JL_P_STAT_RETRAIN_FAILS p)).fld (Fd.JL_P_THRESH_RETRAIN_LIMIT p)) :
    s.retrainFailed p = (s.incFld (Fd.JL_P_STAT_RETRAIN_FAILS p)).satFld (Fd.JL_P_COUNT_RETRAINS p) := if_neg (Nat.not_le.mpr h)

end

/-! Disabling and reviving (R333, R336, R338) -/

theorem exec_portDisable {p : Port} {s : State} (h : s.Hears 8) :
    exec (.portDisable p) s = .next ((s.setFld (Fd.JL_P_CTL_ENABLE p.val) 0).retirePort p.val) :=
  congrArg Host.Outcome.next (State.hostWriteIn_hears h _)

theorem exec_portRevive {p : Port} {s : State} (h : s.Hears 8) : exec (.portRevive p) s = .next (s.revivePort p.val) :=
  congrArg Host.Outcome.next (State.hostWriteIn_hears h _)

/-- R336: a port with no lane that its own end retired, and no failure. -/
def State.pardoned (s : State) (p : Nat) : State :=
  let own : State := { s with ownLanes := SMap.erase s.ownLanes p }
  ((own.showLanes p).setFld (Fd.JL_P_STAT_RETRAIN_FAILS p) 0).setLink p { s.link p with revived := true }

theorem State.portState_pardoned (s : State) (p : Nat) : (s.pardoned p).portState p = s.portState p :=
  (State.portState_setFails _ p 0).trans (State.portState_showLanes _ p)

theorem State.revivePort_sound {s : State} {p : Nat} (hu : s.unitRetired 12 (portDie p) p 0 = false)
    (he : s.isSet (Fd.JL_P_CTL_ENABLE p) = true) (hl : s.linkPower = true) (hs : s.portState p ≠ 0) : s.revivePort p =
      if s.portState p = 4 then ((s.pardoned p).beginTraining p).satFld (Fd.JL_P_COUNT_RETRAINS p)
      else if s.portState p = 2 then (s.pardoned p).setFld (Fd.JL_P_STAT_STATE p) 3
      else s.pardoned p := by
  have sound : ¬ (s.unitRetired 12 (portDie p) p 0 ∨ !(s.isSet (Fd.JL_P_CTL_ENABLE p)) ∨ !s.linkPower ∨ s.portState p = 0) := by
    simp [hu, he, hl, hs]
  rw [← s.portState_pardoned p, State.revivePort, if_neg sound]
  rfl

/-! The seal (R327) -/

theorem exec_torusSeal {s : State} (h : s.Hears 8) :
    exec .torusSeal s = .next (if s.isSealed then s else if s.sealOk then s.setFld Fd.JL_SEAL_SEAL 1 else s.log 0x0609) :=
  congrArg Host.Outcome.next (State.hostWriteIn_hears h _)

/-- Settles O45: each event by the equation of its command, and what it leaves of the fields that it reads again. -/
theorem portEvents : Obligations.PortEvents := by
  refine ⟨fun p s => ⟨fun info hs hg => ?training, State.revivedUp_returns, State.revivedUp_stayed,
    State.fld_gateway_showGateways p.isLt s, ?loses, ?worn, exec_portDrainDone, fun peer hs => ?retrains,
    s.fld_lanesRetired_learnLanes p.val, fun h => ⟨exec_portDisable h, fun hu he hl hs => ?revives⟩⟩, fun s h => ?seals⟩
  case training =>
    refine ⟨fun ho hr => ?_, fun ho hr => ?_, fun ho hn => ?_, fun ho w k m hl => ?_⟩
    · rw [exec_portTrainingDone_failed hs hg ho, if_neg (Bool.eq_false_iff.mp hr)]
    · rw [exec_portTrainingDone_failed hs hg ho, if_pos hr]
    · rw [exec_portTrainingDone_trained hs hg ho (State.takeLanes_none hn)]
      rfl
    · intro a0 a gen b c0 c
      rw [exec_portTrainingDone_trained hs hg ho (State.takeLanes_some hl), ← State.laneUnits_setLanes _ p.val w k m]
      rfl
  case loses =>
    intro lane ms locked u hb
    refine ⟨fun hs => ?_, fun hs => ?_⟩
    · rw [exec_laneLossOfLock hb (.inr hs), if_neg (by omega)]
      rfl
    · rw [exec_laneLossOfLock hb (.inl hs), if_pos hs]
      rfl
  case worn =>
    intro lanes old ls new w u hn hs
    refine ⟨exec_laneThresholdReached_few hn hs, fun w k m hl => ⟨fun hd => ?_, fun hd => ?_⟩⟩
    · exact (exec_laneThresholdReached_some hn hs hl).trans (congrArg _ (if_pos hd))
    · exact (exec_laneThresholdReached_some hn hs hl).trans (congrArg _ (if_neg (not_not_intro hd)))
  case retrains =>
    refine ⟨fun hg => ⟨fun hr => ?_, fun hr => ?_⟩, fun hg => ⟨fun hlim => ?_, fun hlim => ?_⟩⟩
    · exact (exec_portRetrainDone_ok hs hg peer).trans (congrArg _ (if_pos hr))
    · exact (exec_portRetrainDone_ok hs hg peer).trans (congrArg _ (if_neg (Bool.eq_false_iff.mp hr)))
    · rw [exec_portRetrainDone_failed hs hg, State.retrainFailed_retires hlim]
    · rw [exec_portRetrainDone_failed hs hg, State.retrainFailed_retries hlim]
  case revives =>
    refine ⟨fun retired => ?_, fun up => ?_, fun trains => ?_⟩ <;> rw [exec_portRevive h, State.revivePort_sound hu he hl hs]
    · rw [if_pos retired]
      rfl
    · rw [if_neg (by omega), if_pos up]
      rfl
    · rw [if_neg (by omega), if_neg (by omega)]
      rfl
  case seals =>
    refine ⟨fun hs => ?_, fun hs ho => ?_, fun hs ho => ?_⟩ <;> rw [exec_torusSeal h]
    · rw [if_pos hs]
    · rw [if_neg (Bool.eq_false_iff.mp hs), if_pos ho]
    · rw [if_neg (Bool.eq_false_iff.mp hs), if_neg (Bool.eq_false_iff.mp ho)]

end Sys2Proof.Machine
end

section
/-! Fields of numbers, and a page entry and its 128 bits (R352, R354). -/

namespace Sys2Proof.Machine

/-! Fields of a number -/

theorem testBit_bits (v lo len i : Nat) : (bits v lo len).testBit i = (decide (i < len) && v.testBit (lo + i)) := by
  rw [bits, Nat.testBit_mod_two_pow, Nat.testBit_div_two_pow, Nat.add_comm]

/-- Replacing a field replaces its bits and no others. -/
theorem testBit_setBits (v lo len x i : Nat) :
    (setBits v lo len x).testBit i = if lo ≤ i ∧ i < lo + len then x.testBit (i - lo) else v.testBit i := by
  have low : v % 2 ^ lo < 2 ^ lo := Nat.mod_lt _ (Nat.two_pow_pos lo)
  have mid : 2 ^ lo * (x % 2 ^ len) + v % 2 ^ lo < 2 ^ (lo + len) :=
    calc 2 ^ lo * (x % 2 ^ len) + v % 2 ^ lo < 2 ^ lo * (x % 2 ^ len + 1) := Nat.add_lt_add_left low _
      _ ≤ 2 ^ lo * 2 ^ len := Nat.mul_le_mul_left _ (Nat.mod_lt x (Nat.two_pow_pos len))
      _ = 2 ^ (lo + len) := (Nat.pow_add 2 lo len).symm
  have layout : setBits v lo len x = 2 ^ (lo + len) * (v / 2 ^ (lo + len)) + (2 ^ lo * (x % 2 ^ len) + v % 2 ^ lo) := by
    rw [setBits, Nat.add_comm, Nat.mul_comm (v / _), Nat.add_comm (v % _), Nat.mul_comm (x % _)]
  rw [layout, Nat.testBit_two_pow_mul_add _ mid, Nat.testBit_two_pow_mul_add _ low, Nat.testBit_mod_two_pow, Nat.testBit_mod_two_pow,
    Nat.testBit_div_two_pow]
  by_cases hhigh : i < lo + len
  · by_cases hlow : i < lo
    · rw [if_pos hhigh, if_pos hlow, if_neg (by omega), decide_eq_true hlow, Bool.true_and]
    · rw [if_pos hhigh, if_neg hlow, if_pos (by omega), decide_eq_true (by omega), Bool.true_and]
  · rw [if_neg hhigh, if_neg (by omega), Nat.sub_add_cancel (by omega)]

theorem setBits_lt {v lo len n : Nat} (hn : lo + len ≤ n) (hv : v < 2 ^ n) (x : Nat) : setBits v lo len x < 2 ^ n := by
  refine Nat.lt_pow_two_of_testBit _ fun i hi => ?_
  rw [testBit_setBits, if_neg (by omega)]
  exact Nat.testBit_lt_two_pow (Nat.lt_of_lt_of_le hv (Nat.pow_le_pow_right (by decide) hi))

@[simp] theorem bits_setBits_self (v lo len x : Nat) : bits (setBits v lo len x) lo len = x % 2 ^ len := by
  refine Nat.eq_of_testBit_eq fun i => ?_
  rw [testBit_bits, testBit_setBits, Nat.testBit_mod_two_pow, Nat.add_sub_cancel_left]
  by_cases hi : i < len
  · rw [if_pos (by omega)]
  · simp [hi]

theorem bits_setBits_ne {lo len lo' len' : Nat} (h : lo' + len' ≤ lo ∨ lo + len ≤ lo') (v x : Nat) :
    bits (setBits v lo len x) lo' len' = bits v lo' len' := by
  refine Nat.eq_of_testBit_eq fun i => ?_
  rw [testBit_bits, testBit_bits, testBit_setBits]
  by_cases hi : i < len'
  · rw [if_neg (by omega)]
  · simp [hi]

theorem bitAt_setBits_ne {lo len i : Nat} (h : i < lo ∨ lo + len ≤ i) (v x : Nat) : bitAt (setBits v lo len x) i = bitAt v i := by
  rw [bitAt_eq_testBit, bitAt_eq_testBit, testBit_setBits, if_neg (by omega)]

theorem b2n_lt (b : Bool) : b2n b < 2 := by
  cases b <;> decide

theorem bitAt_of_b2n {v i : Nat} {b : Bool} (h : v / 2 ^ i % 2 = b2n b) : bitAt v i = b := by
  cases b <;> simp [bitAt, h, b2n]

/-! A page entry -/

/-- R354: the fields of an entry fit its 128 bits: FRAME lies on a 64 KiB boundary, SCALE on a 2 KiB boundary of the same module. -/
structure Entry.Fits (e : Entry) : Prop where
  loc : e.loc < 8
  record : e.record < 2 ^ 24
  frame : e.frame < 2 ^ 64
  frameAligned : e.frame % 65536 = 0
  scaleAligned : e.scale % 2048 = 0
  sameModule : e.scale / 2 ^ 46 = e.frame / 2 ^ 46

/-- R354: an entry in the units that its fields count: FRAME of 64 KiB, SCALE of 2 KiB within its module. -/
theorem Entry.Fits.enc_eq {e : Entry} (h : e.Fits) (w : Wheel) : ∃ f sc, f < 2 ^ 48 ∧ sc < 2 ^ 35 ∧ e.frame = f * 65536 ∧
    e.scale = f / 2 ^ 30 * 2 ^ 46 + sc * 2048 ∧
    e.enc w = b2n e.valid + 2 * b2n e.cow + e.loc * 4 + w.fmt * 32 + b2n w.scaleEn * 512 + f * 65536 + e.record * 2 ^ 64
      + sc * 2 ^ 88 := by
  obtain ⟨_, _, hf, hfa, hsa, hm⟩ := h
  refine ⟨e.frame / 65536, e.scale % 2 ^ 46 / 2048, by omega, by omega, by omega, by omega, rfl⟩

section
variable {e : Entry} (h : e.Fits) {w : Wheel} (hw : w.fmt < 16)
include h hw

/-- R354: what each field of the 128 bits holds. -/
theorem Entry.Fits.enc_fields : e.enc w < 2 ^ 128 ∧ Entry.dec (e.enc w) = e ∧ bits (e.enc w) 5 4 = w.fmt ∧
    bitAt (e.enc w) 9 = w.scaleEn := by
  obtain ⟨f, sc, hf, hsc, frame, scale, enc⟩ := h.enc_eq w
  have hl := h.loc
  have hr := h.record
  have hv := b2n_lt e.valid
  have hc := b2n_lt e.cow
  have hx := b2n_lt w.scaleEn
  rw [enc]
  refine ⟨by omega, ?_, by rw [bits]; omega, bitAt_of_b2n (by omega)⟩
  rw [Entry.dec, bitAt_of_b2n (b := e.valid) (by omega), bitAt_of_b2n (b := e.cow) (by omega)]
  obtain ⟨valid, cow, loc, frame', record, scale'⟩ := e
  simp only [bits, Entry.mk.injEq, true_and] at *
  omega

end

end Sys2Proof.Machine
end

section
/-! The records of a pool in far memory: what a write of the wheel unit leaves and what is read after it, and the list of a pool
(R351, R355, R358). -/

namespace Sys2Proof.Machine

/-! Bytes and the number they spell (R8) -/

@[simp] theorem length_leBytes (n v : Nat) : (leBytes n v).length = n := by
  induction n generalizing v with
  | zero => rfl
  | succ n ih => simp [leBytes, ih]

theorem leNat_leBytes (n v : Nat) : leNat (leBytes n v) = v % 256 ^ n := by
  induction n generalizing v with
  | zero => simp [leBytes, leNat, Nat.mod_one]
  | succ n ih =>
    have low : (BitVec.ofNat 8 v).toNat = v % 256 := BitVec.toNat_ofNat v 8
    rw [leBytes, leNat, ih, low, Nat.pow_succ', Nat.mod_mul (a := 256)]

theorem leNat_lt (bs : List Byte) : leNat bs < 256 ^ bs.length := by
  induction bs with
  | nil => decide
  | cons b bs ih =>
    have hb : b.toNat < 256 := b.isLt
    rw [leNat, List.length_cons, Nat.pow_succ']
    omega

/-! Bytes written to memory and read back -/

theorem Memory.get_write_ne {c : Nat} (bs : List Byte) (m : Memory) {a : Nat} (h : c < a) : (m.write a bs).get c = m.get c := by
  induction bs generalizing m a with
  | nil => rfl
  | cons b bs ih => rw [Memory.write, ih _ (by omega), Memory.get_set_ne _ _ _ _ (by omega)]

theorem Memory.read_succ (m : Memory) (a n : Nat) : m.read a (n + 1) = m.get a :: m.read (a + 1) n := by
  simp [Memory.read, List.range_succ_eq_map, Function.comp_def, Nat.add_assoc, Nat.add_comm 1]

theorem Memory.read_write_self (m : Memory) (a : Nat) (bs : List Byte) : (m.write a bs).read a bs.length = bs := by
  induction bs generalizing m a with
  | nil => rfl
  | cons b bs ih =>
    rw [List.length_cons, Memory.read_succ, Memory.write, ih, Memory.get_write_ne _ _ (Nat.lt_succ_self a), Memory.get_set_self]

theorem cellsFrom_cons (a : Nat) (b : Byte) (bs : List Byte) : cellsFrom a (b :: bs) = (a, b) :: cellsFrom (a + 1) bs := by
  simp only [cellsFrom, List.zipIdx_cons', List.map_cons, List.map_map, Function.comp_def, Prod.map, id, Nat.add_zero, Nat.add_assoc,
    Nat.add_comm 1]

theorem mem_cellsFrom {a : Nat} {bs : List Byte} {c : Nat × Byte} (h : c ∈ cellsFrom a bs) : ∃ i < bs.length, c.1 = a + i := by
  obtain ⟨x, hx, rfl⟩ := List.mem_map.mp h
  exact ⟨x.2, by simpa using List.snd_lt_of_mem_zipIdx hx, rfl⟩

@[simp] theorem length_cellsFrom (a : Nat) (bs : List Byte) : (cellsFrom a bs).length = bs.length := by
  simp [cellsFrom]

/-- Bytes put at addresses of this module go to its memory. -/
theorem State.putCells_local (bs : List Byte) (s : State) (a : Nat) (h : ∀ i, i < bs.length → regionOf (a + i) ≠ .host) :
    s.putCells (cellsFrom a bs) = { s with mem := s.mem.write a bs } := by
  induction bs generalizing s a with
  | nil => rfl
  | cons b bs ih =>
    have here : s.putByte a b = { s with mem := s.mem.set a b } := if_neg (h 0 (Nat.succ_pos _))
    have next (i : Nat) (hi : i < bs.length) : regionOf (a + 1 + i) ≠ .host := by
      rw [Nat.add_assoc, Nat.add_comm 1 i]
      exact h (i + 1) (Nat.succ_lt_succ hi)
    rw [cellsFrom_cons]
    change (s.putByte a b).putCells (cellsFrom (a + 1) bs) = _
    rw [here, ih _ _ next]
    rfl

theorem State.readNat_local {s : State} {a n : Nat} (h : ∀ i, i < n → regionOf (a + i) ≠ .host) :
    s.readNat a n = leNat (s.mem.read a n) := by
  refine congrArg leNat (List.map_congr_left fun i hi => ?_)
  exact if_neg (h i (List.mem_range.mp hi))

/-! What initialising a region leaves (R270) -/

/-- The registers that follow the initialisation of the DRAM tiers. -/
def Fld.followsInit (f : Fld) : Prop := ∃ k, f.addr = (Reg.MAP_CTL k).addr ∨ f.addr = (Reg.MEM_INIT k).addr

/-- A state differs from another in what initialisation, pending scrub write-backs and the bytes of memory are alone. -/
structure State.SameTables (s u : State) : Prop where
  poison : u.poison = s.poison
  bars : u.bars = s.bars
  units : u.dram.units = s.dram.units
  fld : ∀ f, f.lo < 64 → ¬ f.followsInit → u.fld f = s.fld f

theorem State.SameTables.refl (s : State) : s.SameTables s := ⟨rfl, rfl, rfl, fun _ _ _ => rfl⟩

theorem State.SameTables.trans {s u v : State} (h : s.SameTables u) (g : u.SameTables v) : s.SameTables v :=
  ⟨g.poison.trans h.poison, g.bars.trans h.bars, g.units.trans h.units,
    fun f hl hf => (g.fld f hl hf).trans (h.fld f hl hf)⟩

theorem State.sameTables_setFld {g : Fld} (hl : g.lo < 64) (hg : g.followsInit) (s : State) (v : Nat) : s.SameTables (s.setFld g v) := by
  refine ⟨rfl, rfl, rfl, fun f hfl hf => s.fld_setFld_ne g f v (Fld.key_ne_of_addr hfl hl fun ha => hf ?_)⟩
  obtain ⟨k, hk⟩ := hg
  exact ⟨k, ha ▸ hk⟩

theorem State.sameTables_flagFld {g : Fld} (hl : g.lo < 64) (hg : g.followsInit) (s : State) (c : Bool) : s.SameTables (s.flagFld g c) := by
  cases c with
  | false => exact .refl s
  | true => exact State.sameTables_setFld hl hg s 1

theorem State.sameTables_initRegion (s : State) (k : Tier) (r : Nat) : s.SameTables (s.initRegion k r) := by
  have memInit {g : Fld} (hg : g.addr = (Reg.MEM_INIT k).addr) : g.followsInit := ⟨k, .inr hg⟩
  unfold State.initRegion
  extract_lets key n u v w
  split
  · have marked : s.SameTables u := ⟨rfl, rfl, rfl, fun _ _ _ => rfl⟩
    have counted : u.SameTables v := State.sameTables_setFld (show 16 < 64 by decide) (memInit rfl) u _
    have moved : v.SameTables w := State.sameTables_setFld (show 0 < 64 by decide) (memInit rfl) v _
    exact ((marked.trans counted).trans moved).trans (State.sameTables_flagFld (show 1 < 64 by decide) ⟨k, .inl rfl⟩ w _)
  · exact .refl s

theorem State.sameTables_touch1 (s : State) (a : Nat) : s.SameTables (s.touch1 a) := by
  unfold State.touch1
  split
  · exact s.sameTables_initRegion _ _
  · exact s.sameTables_initRegion _ _
  · exact .refl s

theorem State.sameTables_touchCells (s : State) (cells : List (Nat × Byte)) : s.SameTables (s.touchCells cells) :=
  List.foldlRecOn (motive := s.SameTables) _ _ (.refl s) fun u hu a _ => hu.trans (u.sameTables_touch1 a)

theorem State.sameTables_voidScrubs (s : State) (ls : List Nat) : s.SameTables (s.voidScrubs ls) := by
  unfold State.voidScrubs
  split
  · exact .refl s
  · exact ⟨rfl, rfl, rfl, fun _ _ _ => rfl⟩

/-! A write within a line (R286) -/

theorem eraseDups_eq_singleton {α : Type} [BEq α] [LawfulBEq α] {l : List α} {x : α} (hne : l ≠ []) (h : ∀ y ∈ l, y = x) :
    l.eraseDups = [x] := by
  cases l with
  | nil => exact absurd rfl hne
  | cons y ys =>
    obtain rfl := h y List.mem_cons_self
    have none : ys.filter (fun b => !b == y) = [] :=
      List.filter_eq_nil_iff.mpr fun z hz => by simp [h z (List.mem_cons_of_mem y hz)]
    rw [List.eraseDups_cons, none, List.eraseDups_nil]

section
variable {s : State} {a : Nat} {bs : List Byte} (hne : bs ≠ []) (hshort : bs.length < 64)
  (hl : ∀ i, i < bs.length → lineOf (a + i) = lineOf a) (hr : ∀ i, i < bs.length → regionOf (a + i) ≠ .host)
  (hb : s.badLine (lineOf a) = false)
include hne hshort hl hr hb

/-- R270, R286: fewer bytes than a line's reach their cells in a line that reads good. -/
theorem State.write_line : ∃ u, s.write (cellsFrom a bs) = (u, false) ∧ s.SameTables u ∧ u.mem = s.mem.write a bs := by
  have inLine : ∀ c ∈ cellsFrom a bs, lineOf c.1 = lineOf a := by
    intro c hc
    obtain ⟨i, hi, hc⟩ := mem_cellsFrom hc
    rw [hc]
    exact hl i hi
  have lines : ((cellsFrom a bs).map (fun c => lineOf c.1)).eraseDups = [lineOf a] := by
    refine eraseDups_eq_singleton (fun h => hne ?_) fun y hy => ?_
    · exact List.length_eq_zero_iff.mp (by simpa using congrArg List.length h)
    · obtain ⟨c, hc, rfl⟩ := List.mem_map.mp hy
      exact inLine c hc
  have whole : (cellsFrom a bs).filter (fun c => decide (lineOf c.1 = lineOf a)) = cellsFrom a bs :=
    List.filter_eq_self.mpr fun c hc => decide_eq_true (inLine c hc)
  obtain ⟨clean, alive⟩ := Bool.or_eq_false_iff.mp hb
  have stored : s.storeLine (cellsFrom a bs) (s, false) (lineOf a) = ({ s with mem := s.mem.write a bs }, false) := by
    unfold State.storeLine
    dsimp only
    rw [whole, length_cellsFrom, if_neg (Bool.eq_false_iff.mp alive), if_neg (Nat.not_le.mpr hshort), if_neg (Bool.eq_false_iff.mp clean),
      State.putCells_local bs s a hr]
  refine ⟨(({ s with mem := s.mem.write a bs } : State).touchCells (cellsFrom a bs)).voidScrubs [lineOf a], ?_, ?_, ?_⟩
  · unfold State.write
    dsimp only
    rw [lines, List.foldl_cons, List.foldl_nil, stored]
  · exact (⟨rfl, rfl, rfl, fun _ _ _ => rfl⟩ : s.SameTables { s with mem := s.mem.write a bs }).trans
      ((State.sameTables_touchCells _ _).trans (State.sameTables_voidScrubs _ _))
  · rw [State.voidScrubs_mem, State.touchCells_mem]

/-- Where no barrier object is known, the same holds of an ordinary write. -/
theorem State.store_line (h0 : s.bars = []) :
    ∃ u, s.store (cellsFrom a bs) = (u, false) ∧ s.SameTables u ∧ u.mem = s.mem.write a bs := by
  have unsealed : (cellsFrom a bs).any (fun c => s.roByte c.1) = false := by
    refine List.any_eq_false.mpr fun c hc => ?_
    obtain ⟨i, hi, hc⟩ := mem_cellsFrom hc
    simp [State.roByte, hc, hr i hi]
  obtain ⟨u, written, same, mem⟩ := State.write_line hne hshort hl hr hb
  have unbarred : u.storeOverBars s (cellsFrom a bs) = u := by
    rw [State.storeOverBars, same.bars, h0, List.foldl_nil]
  refine ⟨u, ?_, same, mem⟩
  unfold State.store
  dsimp only
  rw [written, unbarred, unsealed]
  rfl

end

/-! A record of a pool (R351, R355) -/

section
variable {s u : State} (h : s.SameTables u)
include h

theorem State.SameTables.recAddr (r : Nat) : u.recAddr r = s.recAddr r := by
  have base : u.fld Fd.KV_TABLE_REC_REC_BASE = s.fld Fd.KV_TABLE_REC_REC_BASE := h.fld _ (by decide) (by
    rintro ⟨k | k, hk | hk⟩ <;> exact absurd hk (by decide))
  rw [State.recAddr, State.recAddr, base]

theorem State.SameTables.badLine (l : Nat) : u.badLine l = s.badLine l := by
  have off : u.fld Fd.PWR_CARRIER_DIMM_OFF = s.fld Fd.PWR_CARRIER_DIMM_OFF := h.fld _ (by decide) (by
    rintro ⟨k | k, hk | hk⟩ <;> exact absurd hk (by decide))
  have key : u.fld (Fd.HASH_KEY_KEY .far) = s.fld (Fd.HASH_KEY_KEY .far) := h.fld _ (by decide) (by
    rintro ⟨k | k, hk | hk⟩ <;> exact absurd hk (by decide))
  unfold State.badLine State.lineDead State.dramPlace
  simp only [h.poison, h.units, off, key]

end

/-- R351, R355: a record lies in a line of far memory that reads good, and no barrier object is known. -/
structure State.RecPlain (s : State) (r : Nat) : Prop where
  far : ∀ i, i < 32 → regionOf (s.recAddr r + i) = .far
  clean : s.badLine (lineOf (s.recAddr r)) = false
  bars : s.bars = []

theorem State.SameTables.recPlain {s u : State} {r : Nat} (h : s.SameTables u) (p : s.RecPlain r) : u.RecPlain r :=
  ⟨h.recAddr r ▸ p.far, by rw [h.recAddr, h.badLine, p.clean], h.bars.trans p.bars⟩

/-- R355: two records share a line, and none lies in two. -/
theorem State.lineOf_recAddr (s : State) (r : Nat) {i : Nat} (hi : i < 32) : lineOf (s.recAddr r + i) = lineOf (s.recAddr r) := by
  unfold lineOf State.recAddr
  omega

theorem State.readNat_lt (s : State) (a n : Nat) : s.readNat a n < 256 ^ n := by
  have h := leNat_lt (s.readBytes a n)
  rwa [State.readBytes, List.length_map, List.length_range] at h

namespace State.RecPlain

variable {s : State} {r : Nat} (p : s.RecPlain r)
include p

theorem notHost {i : Nat} (hi : i < 32) : regionOf (s.recAddr r + i) ≠ .host := by
  rw [p.far i hi]
  decide

/-- The 256 bits of a record are those of this module's memory. -/
theorem readNat_eq : s.readNat (s.recAddr r) 32 = leNat (s.mem.read (s.recAddr r) 32) :=
  State.readNat_local fun _ hi => p.notHost hi

/-- A change of a record's bits is what is read of it, and the only one among the tables. -/
theorem setRec_spec {lo len : Nat} (hlen : lo + len ≤ 256) (v : Nat) : s.SameTables (s.setRec r lo len v) ∧
    (s.setRec r lo len v).readNat (s.recAddr r) 32 = setBits (s.readNat (s.recAddr r) 32) lo len v := by
  have fits : setBits (s.readNat (s.recAddr r) 32) lo len v < 256 ^ 32 := setBits_lt hlen (s.readNat_lt (s.recAddr r) 32) v
  generalize hx : setBits (s.readNat (s.recAddr r) 32) lo len v = x at fits
  have length : (leBytes 32 x).length = 32 := length_leBytes 32 x
  obtain ⟨u, stored, same, mem⟩ := State.store_line (bs := leBytes 32 x) (fun h => by simp [h] at length) (by rw [length]; decide)
    (fun i hi => s.lineOf_recAddr r (length ▸ hi)) (fun i hi => p.notHost (length ▸ hi)) p.clean p.bars
  have eq : s.setRec r lo len v = u := by
    unfold State.setRec State.kvWrite
    dsimp only
    rw [hx, stored]
    rfl
  rw [eq]
  refine ⟨same, ?_⟩
  have back := (s.mem).read_write_self (s.recAddr r) (leBytes 32 x)
  rw [length] at back
  rw [← same.recAddr r, (same.recPlain p).readNat_eq, same.recAddr, mem, back, leNat_leBytes, Nat.mod_eq_of_lt fits]

section
variable {lo len : Nat} (hlen : lo + len ≤ 256) (v : Nat)
include hlen

theorem setRec : (s.setRec r lo len v).RecPlain r := (p.setRec_spec hlen v).1.recPlain p

theorem fld_setRec {f : Fld} (hl : f.lo < 64) (hf : ¬ f.followsInit) : (s.setRec r lo len v).fld f = s.fld f :=
  (p.setRec_spec hlen v).1.fld f hl hf

/-- The bits changed read as they were put. -/
theorem recBits_setRec_self : (s.setRec r lo len v).recBits r lo len = v % 2 ^ len := by
  obtain ⟨same, read⟩ := p.setRec_spec hlen v
  rw [State.recBits, same.recAddr, read, bits_setBits_self]

/-- Any others read as before. -/
theorem recBits_setRec_ne {lo' len' : Nat} (h : lo' + len' ≤ lo ∨ lo + len ≤ lo') :
    (s.setRec r lo len v).recBits r lo' len' = s.recBits r lo' len' := by
  obtain ⟨same, read⟩ := p.setRec_spec hlen v
  rw [State.recBits, same.recAddr, read, bits_setBits_ne h]
  rfl

end

/-- A record is what memory holds where the base of the records places it. -/
theorem recBits_of_mem {u : State} (hm : u.mem = s.mem) (hb : u.fld Fd.KV_TABLE_REC_REC_BASE = s.fld Fd.KV_TABLE_REC_REC_BASE)
    (lo len : Nat) : u.recBits r lo len = s.recBits r lo len := by
  have place : u.recAddr r = s.recAddr r := by rw [State.recAddr, hb, State.recAddr]
  rw [State.recBits, State.recBits, place, State.readNat_local fun i hi => p.notHost hi, hm, p.readNat_eq]

end State.RecPlain

/-! The list of a pool (R358) -/

/-- The registers of the KV block do not follow initialisation. -/
theorem Fld.not_followsInit {f : Fld} (hl : 0xB00000 ≤ f.addr) (hh : f.addr < 0xC00000) : ¬ f.followsInit := by
  rintro ⟨k | k, ha | ha⟩ <;> simp only [Reg.addr, tierBlk] at ha <;> omega

/-- R358: a record that names the head of its pool's list as the next, and is free. -/
def State.linkRec (s : State) (r : Nat) : State :=
  (s.setRec r 192 24 (s.fld (Fd.KV_POOL_CFG_HEAD (s.recBits r 24 4)))).setRec r 28 3 0

theorem State.freeRec_eq (s : State) (r : Nat) : s.freeRec r =
    let u := (s.linkRec r).setFld (Fd.KV_POOL_CFG_HEAD (s.recBits r 24 4)) r
    u.setFld (Fd.KV_POOL_STAT_FREE (s.recBits r 24 4)) (u.fld (Fd.KV_POOL_STAT_FREE (s.recBits r 24 4)) + 1) := rfl

theorem Fd.poolHead_key_ne_poolFree (i j : Nat) : (Fd.KV_POOL_CFG_HEAD i).key ≠ (Fd.KV_POOL_STAT_FREE j).key :=
  Fld.key_ne_of_addr (show 16 < 64 by decide) (show 0 < 64 by decide) (show 0xB00100 + i * 16 ≠ 0xB00108 + j * 16 by omega)

theorem Fd.recBase_key_ne_poolHead (i : Nat) : Fd.KV_TABLE_REC_REC_BASE.key ≠ (Fd.KV_POOL_CFG_HEAD i).key :=
  Fld.key_ne_of_addr (show 5 < 64 by decide) (show 16 < 64 by decide) (show 0xB00010 ≠ 0xB00100 + i * 16 by omega)

theorem Fd.recBase_key_ne_poolFree (i : Nat) : Fd.KV_TABLE_REC_REC_BASE.key ≠ (Fd.KV_POOL_STAT_FREE i).key :=
  Fld.key_ne_of_addr (show 5 < 64 by decide) (show 0 < 64 by decide) (show 0xB00010 ≠ 0xB00108 + i * 16 by omega)

/-- A record that goes back is the head of its pool's list. -/
theorem State.head_freeRec {r : Nat} (hr : r < 2 ^ 24) (s : State) :
    (s.freeRec r).fld (Fd.KV_POOL_CFG_HEAD (s.recBits r 24 4)) = r := by
  rw [State.freeRec_eq, State.fld_setFld_ne _ _ _ _ (Fd.poolHead_key_ne_poolFree _ _), State.fld_setFld_self]
  exact Nat.mod_eq_of_lt hr

namespace State.RecPlain

variable {s : State} {r : Nat} (p : s.RecPlain r)
include p

theorem recBits_freeRec (lo len : Nat) : (s.freeRec r).recBits r lo len = (s.linkRec r).recBits r lo len := by
  have linked : (s.linkRec r).RecPlain r := (p.setRec (by decide) _).setRec (by decide) 0
  rw [State.freeRec_eq]
  refine linked.recBits_of_mem (by rw [State.setFld_mem, State.setFld_mem]) ?_ lo len
  rw [State.fld_setFld_ne _ _ _ _ (Fd.recBase_key_ne_poolFree _), State.fld_setFld_ne _ _ _ _ (Fd.recBase_key_ne_poolHead _)]

/-- R358: the next of a record that goes back is the former head. -/
theorem next_freeRec : (s.freeRec r).recBits r 192 24 = s.fld (Fd.KV_POOL_CFG_HEAD (s.recBits r 24 4)) % 2 ^ 24 := by
  rw [p.recBits_freeRec, State.linkRec, (p.setRec (by decide) _).recBits_setRec_ne (by decide) _ (by decide),
    p.recBits_setRec_self (by decide)]

theorem state_freeRec : (s.freeRec r).recBits r 28 3 = 0 := by
  rw [p.recBits_freeRec, State.linkRec, (p.setRec (by decide) _).recBits_setRec_self (by decide), Nat.zero_mod]

/-- A record that goes back keeps its other fields. -/
theorem recBits_freeRec_ne {lo len : Nat} (h28 : lo + len ≤ 28 ∨ 31 ≤ lo) (h192 : lo + len ≤ 192 ∨ 216 ≤ lo) :
    (s.freeRec r).recBits r lo len = s.recBits r lo len := by
  rw [p.recBits_freeRec, State.linkRec, (p.setRec (by decide) _).recBits_setRec_ne (by decide) _ h28,
    p.recBits_setRec_ne (by decide) _ h192]

/-- A record that goes back is counted. -/
theorem free_freeRec (hn : s.fld (Fd.KV_POOL_STAT_FREE (s.recBits r 24 4)) + 1 < 2 ^ 24) :
    (s.freeRec r).fld (Fd.KV_POOL_STAT_FREE (s.recBits r 24 4)) = s.fld (Fd.KV_POOL_STAT_FREE (s.recBits r 24 4)) + 1 := by
  have pool : s.recBits r 24 4 < 16 := Nat.mod_lt _ (by decide)
  have apart : ¬ (Fd.KV_POOL_STAT_FREE (s.recBits r 24 4)).followsInit :=
    Fld.not_followsInit (show 0xB00000 ≤ 0xB00108 + _ by omega) (show 0xB00108 + s.recBits r 24 4 * 16 < 0xC00000 by omega)
  have same : (s.linkRec r).fld (Fd.KV_POOL_STAT_FREE (s.recBits r 24 4)) = s.fld (Fd.KV_POOL_STAT_FREE (s.recBits r 24 4)) := by
    rw [State.linkRec, (p.setRec (by decide) _).fld_setRec (by decide) _ (show 0 < 64 by decide) apart,
      p.fld_setRec (by decide) _ (show 0 < 64 by decide) apart]
  rw [State.freeRec_eq, State.fld_setFld_self, State.fld_setFld_ne _ _ _ _ (Fd.poolHead_key_ne_poolFree _ _).symm, same]
  exact Nat.mod_eq_of_lt (Nat.lt_trans hn (show 2 ^ 24 < 2 ^ 25 by decide))

end State.RecPlain

/-- Settles O32: the fields of the 128 bits of an entry, of a number with one field replaced, and of a record that goes back. -/
theorem wheelTables : Obligations.WheelTables := by
  refine ⟨fun e w loc record fmt frame frameAligned scaleAligned sameModule => ?entry, fun v lo len x hlen hv => ?field,
    fun s r => ?record⟩
  case entry =>
    obtain ⟨fits, back, fmtRead, scaleRead⟩ :=
      Entry.Fits.enc_fields ⟨loc, record, frame, frameAligned, scaleAligned, sameModule⟩ fmt
    exact ⟨back, fmtRead, scaleRead, fits⟩
  case field => exact ⟨setBits_lt hlen hv x, bits_setBits_self v lo len x, fun i hi => bitAt_setBits_ne hi v x⟩
  case record =>
    intro pool u plain hplain bars hr hn
    have p : s.RecPlain r := ⟨fun i hi => (hplain i hi).1, (hplain 0 (by decide)).2, bars⟩
    exact ⟨s.head_freeRec hr, p.free_freeRec hn, p.next_freeRec, p.state_freeRec, p.recBits_freeRec_ne (by decide) (by decide),
      p.recBits_freeRec_ne (by decide) (by decide), p.recBits_freeRec_ne (by decide) (by decide)⟩

end Sys2Proof.Machine
end

section
/-! The wheel commands: when one starts, and what it does then (R353, R366 to R368, R371, R373, R374, R377, R378). -/

namespace Sys2Proof.Machine

/-- R378, R282: a wheel command starts: the wheel unit is idle, no KV.PUT waits for it, and its tables are in no held bank. -/
structure State.StartsWheel (s : State) (k : CmdRef) (opc : Nat) (used : List (Nat × Nat)) (c : Cmd) : Prop where
  starts : s.Starts k opc used c
  idle : s.wops = []
  noLine : s.kvWaiting = []
  tables : s.tablesHeld (s.cmdTables opc c) = false

/-- R270, R372: the state in which a wheel command that has started acts: the descriptors of its wheels are read. -/
def State.wheelStarted (s : State) (k : CmdRef) (wns : List Nat) : State :=
  ((s.startCmd k).touchAll (wns.map (fun w => ((s.startCmd k).wheelAddr w, 64)))).newTry 0

/-- R378: a wheel command that starts has its own effect. -/
theorem State.StartsWheel.wheelCmd {s : State} {k : CmdRef} {opc : Nat} {used : List (Nat × Nat)} {c : Cmd}
    (h : s.StartsWheel k opc used c) (run : Cmd → State → State) :
    s.wheelCmd k opc used run = run c (s.wheelStarted k (cmdWheels opc c)) := by
  obtain ⟨⟨held, may, clean⟩, idle, noLine, tables⟩ := h
  simp only [State.wheelCmd, held, may, idle, noLine, tables, clean, Bool.not_false, and_self, if_true]
  rfl

section
variable {s : State} {k : CmdRef} {c : Cmd}

/-! CREATE -/

/-- R353: the descriptor, the directory and the cleared leaf tables of a new wheel are written. -/
def State.makeWheel (s : State) (wn v : Nat) : State :=
  let n := Wheel.dec v
  let u := (List.range n.streams).foldl (fun s d =>
    s.kvWrite (n.dir + 8 * d) 8 (1 + (n.leaf + d * n.indices * 16) / 16 * 16))
    (s.zeroRange (selfDev n.leaf) (n.streams * n.indices * 16))
  (u.kvWrite (u.wheelAddr wn) 64 (setBits v 0 3 1)).forget wn

theorem exec_create (h : s.StartsWheel k 0x10 [(0, 2), (16, 64)] c) :
    let p := s.wheelStarted k [c.body 0 2]
    let v := c.bits (128 + 128) 512
    exec (.create k) s = .next (
      if p.stateFault (c.body 0 2) [0] ≠ 0 then p.finishCmd k (p.stateFault (c.body 0 2) [0])
      else if !(p.createOk (Wheel.dec v)) then p.finishCmd k 0x0704
      else (p.makeWheel (c.body 0 2) v).finishCmd k 0) :=
  congrArg Host.Outcome.next (h.wheelCmd _)

/-! SHARE -/

/-- R366: the geometry of two wheels agrees, and both have the page indices up to i1. -/
abbrev Wheel.agrees (x y : Wheel) (i1 : Nat) : Prop :=
  x.psize = y.psize ∧ x.fmt = y.fmt ∧ x.scaleEn = y.scaleEn ∧ x.rowbLog = y.rowbLog ∧ x.layers = y.layers ∧ x.groups = y.groups ∧
    x.tbase = y.tbase ∧ i1 ≤ x.indices ∧ i1 ≤ y.indices

/-- R366: the places of a page range of a wheel, stream by stream. -/
def Wheel.range (w : Wheel) (i0 i1 : Nat) : List (Nat × Nat) :=
  (List.range w.streams).flatMap (fun d => (List.range (i1 - i0)).map (fun j => (d, i0 + j)))

/-- R366: the entry of a place is copied to a second wheel, COW set in both. -/
def State.sharePage (s : State) (a b : Nat) (x : Wheel) (q : Nat × Nat) : State :=
  let e := s.entry x q.1 q.2
  if e.valid then
    let e := { e with cow := true }
    let s := (s.setEntry a q.1 q.2 e).setEntry b q.1 q.2 e
    let s := if e.record = noRec then s else s.setRec e.record 0 24 (s.recBits e.record 0 24 + 1)
    s.setWheel b 96 32 ((s.wheel b).pages + 1)
  else s

section
variable (h : s.StartsWheel k 0x11 [(0, 4), (8, 8)] c) {p : State} (hp : s.wheelStarted k [c.body 0 2, c.body 2 2] = p)
  (ha : p.stateFault (c.body 0 2) [1] = 0) (hb : p.stateFault (c.body 2 2) [1] = 0)
include h hp ha hb

/-- R366: what is left of a SHARE of two wheels that are LIVE. -/
theorem exec_share :
    let x := p.wheel (c.body 0 2)
    let y := p.wheel (c.body 2 2)
    let ps := x.range (c.body 8 4) (c.body 12 4)
    exec (.share k) s = .next (
      if c.body 12 4 ≤ c.body 8 4 then p.finishCmd k 0
      else if ¬ x.agrees y (c.body 12 4) ∨ ps.any (fun q => (p.entry y q.1 q.2).valid) then p.finishCmd k 0x0706
      else (ps.foldl (fun s q => s.sharePage (c.body 0 2) (c.body 2 2) x q) p).finishCmd k 0) := by
  subst hp
  refine congrArg Host.Outcome.next ((h.wheelCmd _).trans ?_)
  have sound {f : Nat} (hf : f = 0) (n : Nat) (hn : n ≠ 0) : f ≠ n := hf ▸ hn.symm
  dsimp only
  refine (if_neg (not_or.mpr ⟨sound ha _ (by decide), sound hb _ (by decide)⟩)).trans ?_
  refine (if_neg (not_or.mpr ⟨sound ha _ (by decide), sound hb _ (by decide)⟩)).trans ?_
  refine (if_neg (not_or.mpr ⟨not_not_intro ha, not_not_intro hb⟩)).trans ?_
  rfl

end

/-! COPY, FREE, PARK and RESUME -/

/-- R368: the places of a page range of a wheel whose entries are COW, in page order. -/
def State.cowPlaces (s : State) (w : Wheel) (i0 i1 : Nat) : List (Nat × Nat) :=
  w.places.filter (fun q => decide (i0 ≤ q.2) && decide (q.2 < i1) && (s.entry w q.1 q.2).cow)

theorem exec_wheelCopy (h : s.StartsWheel k 0x12 [(0, 2), (8, 8)] c) :
    let p := s.wheelStarted k [c.body 0 2]
    exec (.wheelCopy k) s = .next (
      if p.stateFault (c.body 0 2) [1] ≠ 0 then p.finishCmd k (p.stateFault (c.body 0 2) [1])
      else ({ p with wops := [.cowList (c.body 0 2) (p.cowPlaces (p.wheel (c.body 0 2)) (c.body 8 4) (c.body 12 4)) k] } : State).wheelProceed) :=
  congrArg Host.Outcome.next (h.wheelCmd _)

/-- R371: every valid entry of a wheel is dropped in page order, and the wheel is FREE. -/
def State.freeWheel (s : State) (wn : Nat) : State :=
  let w := s.wheel wn
  let u := w.places.foldl (fun s q =>
    let e := s.entry w q.1 q.2
    if e.valid then s.swing wn q.1 q.2 { e with valid := false } else s) s
  (u.setWheelState wn 0).setWheel wn 96 32 0

/-- R370, R371: a FREE that starts waits for room among the epochs first. -/
theorem exec_free (h : s.StartsWheel k 0x13 [(0, 2)] c)
    (hroom : s.stateFault (c.body 0 2) [1, 3, 5] = 0 → s.epochRoom (s.wheel (c.body 0 2)).pages = true) :
    let p := s.wheelStarted k [c.body 0 2]
    exec (.free k) s = .next (
      if p.stateFault (c.body 0 2) [1, 3, 5] ≠ 0 then p.finishCmd k (p.stateFault (c.body 0 2) [1, 3, 5])
      else (p.freeWheel (c.body 0 2)).finishCmd k 0) := by
  have goes : (decide (s.stateFault (c.body 0 2) [1, 3, 5] = 0) && !s.epochRoom (s.wheel (c.body 0 2)).pages) = false := by
    by_cases hf : s.stateFault (c.body 0 2) [1, 3, 5] = 0
    · simp [hroom hf]
    · simp [hf]
  change execFree k s = _
  simp only [execFree, h.starts.held, goes]
  exact congrArg Host.Outcome.next ((if_neg Bool.false_ne_true).trans (h.wheelCmd _))

theorem exec_park (h : s.StartsWheel k 0x14 [(0, 2)] c) :
    let p := s.wheelStarted k [c.body 0 2]
    exec (.park k) s = .next (
      if p.stateFault (c.body 0 2) [1] ≠ 0 then p.finishCmd k (p.stateFault (c.body 0 2) [1])
      else p.startPark (c.body 0 2) 0 (some k)) :=
  congrArg Host.Outcome.next (h.wheelCmd _)

/-- R374: the places of a wheel whose entries are valid and name no record, in page order. -/
def State.cavePlaces (s : State) (w : Wheel) : List (Nat × Nat) :=
  w.places.filter (fun q => let e := s.entry w q.1 q.2; e.valid && e.record = noRec)

theorem exec_resume (h : s.StartsWheel k 0x15 [(0, 2)] c) :
    let p := s.wheelStarted k [c.body 0 2]
    exec (.resume k) s = .next (
      if p.stateFault (c.body 0 2) [3] ≠ 0 then p.finishCmd k (p.stateFault (c.body 0 2) [3])
      else (p.setWheelState (c.body 0 2) 4).resumeNext (c.body 0 2) (p.cavePlaces (p.wheel (c.body 0 2))) [] k []) :=
  congrArg Host.Outcome.next (h.wheelCmd _)

end

/-- An answer that depends on a fault, case by case. -/
theorem next_of_fault {o : Host.Outcome State Fault Refusal} {f : Nat} {a b : State} (h : o = .next (if f ≠ 0 then a else b)) :
    (f ≠ 0 → o = .next a) ∧ (f = 0 → o = .next b) :=
  ⟨fun hf => h.trans (congrArg _ (if_pos hf)), fun hf => h.trans (congrArg _ (if_neg (not_not_intro hf)))⟩

/-- Settles O30: each command by its equation, the fault of its wheel first. -/
theorem wheelCommands : Obligations.WheelCommands := by
  intro k s c idle noLine p wn free w
  refine ⟨fun hs hf => ?create, fun hs hf => ?share, fun hs hf => ?copy, fun hs hf hroom => ?free, fun hs hf => ?park,
    fun hs hf => ?resume⟩
  case create =>
    obtain ⟨faults, sound⟩ := next_of_fault (exec_create ⟨hs, idle, noLine, hf⟩)
    refine ⟨faults, fun h0 hbad => (sound h0).trans (congrArg _ (if_pos ((Bool.not_eq_true' _).mpr hbad))),
      fun h0 hok => (sound h0).trans (congrArg _ (if_neg fun hbad => ?_))⟩
    exact Bool.eq_false_iff.mp ((Bool.not_eq_true' _).mp hbad) hok
  case share =>
    intro b p w i0 i1 y ps ha hb
    have eq := exec_share ⟨hs, idle, noLine, hf⟩ rfl ha hb
    refine ⟨fun hi => eq.trans (congrArg _ (if_pos hi)), fun hi hgeo hempty => eq.trans (congrArg _ ?_),
      fun hi ⟨q, hq, hv⟩ => eq.trans (congrArg _ ?_)⟩
    · refine (if_neg (Nat.not_le.mpr hi)).trans (if_neg (not_or.mpr ⟨not_not_intro hgeo, ?_⟩))
      intro hany
      obtain ⟨q, hq, hv⟩ := List.any_eq_true.mp hany
      exact Bool.eq_false_iff.mp (hempty q hq) hv
    · exact (if_neg (Nat.not_le.mpr hi)).trans (if_pos (.inr (List.any_eq_true.mpr ⟨q, hq, hv⟩)))
  case copy => exact next_of_fault (exec_wheelCopy ⟨hs, idle, noLine, hf⟩)
  case free => exact next_of_fault (exec_free ⟨hs, idle, noLine, hf⟩ hroom)
  case park => exact next_of_fault (exec_park ⟨hs, idle, noLine, hf⟩)
  case resume => exact next_of_fault (exec_resume ⟨hs, idle, noLine, hf⟩)

end Sys2Proof.Machine
end

section
/-! The steps of the wheel unit and of the page walkers (R365, R368, R370, R372 to R375). -/

namespace Sys2Proof.Machine

/-! Page copies (R368, R373, R374) -/

/-- R282, R368: a page copy may go on: its reads have been answered, none with a fault, and what it reads and writes lies in no held
bank. -/
structure State.CopyReady (s : State) (wn d i : Nat) (cp : PageCopy) : Prop where
  read : cp.reads = 0
  sound : cp.fault = 0
  tables : s.tablesHeld (s.walkRanges wn d i ++ s.pageRanges cp) = false

/-- R368: the bytes of a page copy are written once. -/
def State.writeOnce (s : State) (cp : PageCopy) : State × Nat := if cp.moved then (s, 0) else s.writePage cp

section
variable {s : State} {wn d i : Nat} {cp : PageCopy} (h : s.CopyReady wn d i cp)
include h

/-- A copy that may go on does not wait. -/
theorem State.CopyReady.goes : ¬ (cp.reads ≠ 0 ∨ s.tablesHeld (s.walkRanges wn d i ++ s.pageRanges cp) = true) := by
  simp [h.read, h.tables]

/-- One that swings an entry then needs room among the epochs besides (R370). -/
theorem State.CopyReady.goes_room (he : s.epochRoom 1 = true) :
    ¬ (cp.reads ≠ 0 ∨ (!s.epochRoom 1) = true ∨ s.tablesHeld (s.walkRanges wn d i ++ s.pageRanges cp) = true) := by
  simp [h.read, h.tables, he]

theorem State.CopyReady.writeOnce :
    (if cp.moved = true ∨ cp.fault ≠ 0 then (s, cp.fault) else s.writePage cp) = s.writeOnce cp := by
  simp [State.writeOnce, h.sound]

/-- R368: a copy-on-write ends with the fault it meets, waits for its writes to be acknowledged, or swings its entry to the new frame. -/
theorem exec_cowCopyDone {r : Nat} {rest : List WheelOp} (hw : s.wops = .cow wn d i r cp :: rest) (he : s.epochRoom 1 = true) :
    let q := s.writeOnce cp
    let u := q.1.swing wn d i (q.1.entryOf (q.1.wheel wn).pool r)
    exec .cowCopyDone s =
      if q.2 ≠ 0 then .next (q.1.cowFail r q.2 cp rest)
      else if q.1.wheelWrites then .next { q.1 with wops := .cow wn d i r { cp with moved := true } :: rest }
      else .next ({ (u.dropPin cp.pin.1 cp.pin.2).incFld Fd.KV_STAT_COWS with wops := rest } : State).wheelProceed := by
  change execCowCopyDone s = _
  unfold execCowCopyDone
  rw [hw]
  dsimp only
  rw [if_neg (h.goes_room he), h.writeOnce]

section
variable (hf : (s.writePage cp).2 = 0)
include hf

/-- R373: a page that a park has written swings its entry to the cave slot, and the park comes to the next. -/
theorem exec_caveSlotCopyDone_park {more : List (Nat × Nat)} {slots cause fault : Nat} {k : Option CmdRef} {rest : List WheelOp}
    (hw : s.wops = .park wn ((d, i) :: more) slots cause k fault (some cp) false :: rest) (he : s.epochRoom 1 = true) :
    let q := (s.writePage cp).1
    let u := (q.swing wn d i ((q.wheel wn).caveEntry slots)).dropPin cp.pin.1 cp.pin.2
    let r := u.parkNext wn more (slots + 1) cause k fault
    exec .caveSlotCopyDone s = .next { r.2 with wops := r.1 :: rest } := by
  change execCaveSlotCopyDone s = _
  unfold execCaveSlotCopyDone
  rw [hw]
  dsimp only
  rw [if_neg (h.goes_room he), if_pos h.sound, if_neg (not_not_intro hf), if_neg (not_not_intro hf), if_neg (not_not_intro hf)]

/-- R374: a page that a resume has written waits for its writes to be acknowledged, and the resume comes to the next. -/
theorem exec_caveSlotCopyDone_resume {more : List (Nat × Nat)} {got : List (Nat × Nat × Nat)} {k : CmdRef} {rest : List WheelOp}
    (hw : s.wops = .resume wn ((d, i) :: more) got k (some cp) :: rest) (hm : cp.moved = false) :
    let q := (s.writePage cp).1
    exec .caveSlotCopyDone s = .next (if q.wheelWrites
      then { q with wops := .resume wn ((d, i) :: more) got k (some { cp with moved := true }) :: rest }
      else (q.dropPin cp.pin.1 cp.pin.2).resumeNext wn more got k rest) := by
  have once : s.writeOnce cp = s.writePage cp := if_neg (Bool.eq_false_iff.mp hm)
  change execCaveSlotCopyDone s = _
  unfold execCaveSlotCopyDone
  rw [hw]
  dsimp only
  rw [if_neg h.goes, h.writeOnce, once, if_neg (not_not_intro hf), apply_ite Host.Outcome.next]

end

end

/-! The end of a park (R373, R375) -/

theorem exec_parkFinish_full {s : State} (h : s.kvRingRoom = false) : exec .parkFinish s = .next s := by
  change execParkFinish s = _
  unfold execParkFinish
  split
  · rw [if_pos ((Bool.not_eq_true' _).mpr h)]
  · rfl

theorem exec_parkFinish {s : State} {wn slots cause fault : Nat} {todo : List (Nat × Nat)} {k : Option CmdRef} {cp : Option PageCopy}
    {rest : List WheelOp} (hw : s.wops = .park wn todo slots cause k fault cp true :: rest) (h : s.kvRingRoom = true) :
    let parked := if (s.wheel wn).state = 3 then s.incFld Fd.KV_STAT_PARKS else s
    let u := parked.parkRecord wn cause fault slots
    exec .parkFinish s =
      .next ({ (match k with | some k => u.finishCmd k fault | none => u) with wops := rest } : State).wheelProceed := by
  change execParkFinish s = _
  unfold execParkFinish
  rw [hw]
  dsimp only
  exact if_neg (by rw [h]; decide)

/-! A pool that runs low, and a frame whose readers have finished (R370, R372) -/

theorem exec_poolLowPreempt {s : State} {pool : Fin 16} {x : Nat} (en : s.isSet Fd.KV_CTL_EN = true) (idle : s.wops = [])
    (noLine : s.kvWaiting = []) (low : s.fld (Fd.KV_POOL_STAT_FREE pool.val) < s.fld (Fd.KV_POOL_CFG_LOW pool.val))
    (hv : s.victim pool.val 15 65536 [] = some x) : exec (.poolLowPreempt pool) s = .next (s.startPark x 2 none) := by
  change execPoolLowPreempt pool s = _
  unfold execPoolLowPreempt
  dsimp only
  rw [if_pos ⟨en, idle, noLine, low⟩, hv]

theorem exec_frameReclaim {s : State} {rec : BitVec 24} (awaits : s.reclaim.contains rec.toNat = true)
    (tables : s.tablesHeld ((s.frameRanges rec.toNat).filterMap
      (fun x => if s.here x.1 then some ((devSplit x.1).2, x.2) else none)) = false)
    (finished : ∀ e ∈ s.busyEpochs,
      (s.kvEpoch - e).toNat < (s.kvEpoch - BitVec.ofNat 32 (s.recBits rec.toNat 32 32)).toNat) :
    let v := s.reclaimRec rec.toNat
    exec (.frameReclaim rec) s = .next ({ v with reclaim := v.reclaim.filter (· ≠ rec.toNat) } : State).wheelProceed := by
  change execFrameReclaim rec s = _
  unfold execFrameReclaim
  dsimp only
  rw [if_pos ⟨awaits, by rw [tables]; rfl, List.all_eq_true.mpr fun e he => decide_eq_true (finished e he)⟩]

/-! A page walk (R365) -/

section
variable {s : State} {tile : Fin 36} {cid : Nat} {c : Copy} {q : KvRun}
  (hc : (s.tile tile.val).copies.find? (fun e => e.2.walk.isSome) = some (cid, c)) (hq : c.walk = some q)
include hc hq

theorem exec_pageWalkDone :
    let w := s.wheel q.wheel
    let i := (q.token - w.tbase) / w.tokens
    exec (.pageWalkDone tile) s = .next (
      if s.anyHeld (s.walkRanges q.wheel q.d i) then s
      else if s.walkBad q.wheel q.d i then s.walkFail tile.val cid
      else s.walkEnd tile.val cid q) := by
  change execPageWalkDone tile s = _
  unfold execPageWalkDone
  simp only [hc, hq]

end

/-- Settles O31: each step by its equation. -/
theorem wheelUnitSteps : Obligations.WheelUnitSteps := by
  intro s
  refine ⟨fun wn d i r cp rest hw read room sound tables => ?cow,
    fun wn d i more slots cause k fault cp rest hw read room sound tables hf =>
      exec_caveSlotCopyDone_park ⟨read, sound, tables⟩ hf hw room,
    fun wn d i more got k cp rest hw read sound hm tables hf => exec_caveSlotCopyDone_resume ⟨read, sound, tables⟩ hf hw hm,
    fun wn slots cause k fault => rfl, exec_parkFinish_full,
    fun wn todo slots cause k fault cp rest hw room => exec_parkFinish hw room,
    fun pool x en idle noLine low hv => exec_poolLowPreempt en idle noLine low hv,
    fun rec awaits tables finished => exec_frameReclaim awaits tables finished, fun tile cid c q hc hq => ?walk⟩
  case cow =>
    intro q
    have eq := exec_cowCopyDone ⟨read, sound, tables⟩ hw room
    refine ⟨fun hbad => eq.trans (if_pos hbad), fun h0 hwr => ?_, fun h0 hwr => ?_⟩
    · exact eq.trans ((if_neg (not_not_intro h0)).trans (if_pos hwr))
    · exact eq.trans ((if_neg (not_not_intro h0)).trans (if_neg (Bool.eq_false_iff.mp hwr)))
  case walk =>
    intro w i v visited u free
    have eq := exec_pageWalkDone hc hq
    have goes : ¬ s.anyHeld (s.walkRanges q.wheel q.d i) = true := Bool.eq_false_iff.mp free
    refine ⟨fun hgood => eq.trans (congrArg _ ?_), fun hbad => eq.trans (congrArg _ ?_)⟩
    · exact (if_neg goes).trans (if_neg (Bool.eq_false_iff.mp hgood))
    · exact (if_neg goes).trans (if_pos hbad)

end Sys2Proof.Machine
end

section
/-! Enabling and disabling the wheels, the check of the pools, and the tail of the event ring (R356, R357, R375). -/

namespace Sys2Proof.Machine

section
variable {s : State} (h : s.boot.done1 = true)
include h

/-- R52: after stage 1 a write of the host to control space is made. -/
theorem State.hostWrite_done1 (go : State → State) : s.hostWrite go = go s := if_pos h

theorem exec_kvEnable : exec .kvEnable s = .next s.kvEnable := congrArg Host.Outcome.next (State.hostWrite_done1 h _)

theorem exec_kvDisable : exec .kvDisable s = .next s.kvDisable := congrArg Host.Outcome.next (State.hostWrite_done1 h _)

end

section
variable {s : State}

/-- R357: what a wheel that is not FREE says. -/
theorem State.allFree_iff : s.allFree = true ↔ ∀ w, w < s.fld Fd.KV_TABLE_WHEELS → (s.wheel w).state = 0 := by
  simp [State.allFree]

theorem State.kvEnable_off (h : s.isSet Fd.KV_CTL_EN = false) : s.kvEnable = s.setFld Fd.KV_CTL_CHECKING 1 :=
  if_neg (Bool.eq_false_iff.mp h)

theorem State.kvEnable_on (h : s.isSet Fd.KV_CTL_EN = true) : s.kvEnable = s := if_pos h

theorem State.kvDisable_off (h : s.isSet Fd.KV_CTL_EN = false) : s.kvDisable = s := if_pos ((Bool.not_eq_true' _).mpr h)

/-- R357: EN is cleared with every wheel FREE, and otherwise stays. -/
theorem State.kvDisable_on (h : s.isSet Fd.KV_CTL_EN = true) :
    s.kvDisable = if s.allFree then s.setFld Fd.KV_CTL_EN 0 else s.log 0x0708 :=
  if_neg (by rw [h]; decide)

/-! The check of the pools (R356) -/

theorem exec_kvCheckDone_idle (h : s.isSet Fd.KV_CTL_CHECKING = false) : exec .kvCheckDone s = .next s :=
  if_neg fun ⟨hc, _⟩ => Bool.eq_false_iff.mp h hc

section
variable (h : s.isSet Fd.KV_CTL_CHECKING = true) (hh : s.tablesHeld [] = false)
include h hh

theorem exec_kvCheckDone_passes (hn : (s.setFld Fd.KV_CTL_CHECKING 0).poolCheck = none) :
    exec .kvCheckDone s = .next ((s.setFld Fd.KV_CTL_CHECKING 0).setFld Fd.KV_CTL_EN 1) := by
  change execKvCheckDone s = _
  unfold execKvCheckDone
  dsimp only
  rw [if_pos ⟨h, (Bool.not_eq_true' _).mpr hh⟩, hn]

theorem exec_kvCheckDone_fails {r : Nat} (hr : (s.setFld Fd.KV_CTL_CHECKING 0).poolCheck = some r) : exec .kvCheckDone s =
    .next (((s.setFld Fd.KV_CTL_CHECKING 0).setFld Fd.KV_CTL_CFG_BAD 1).setFld Fd.KV_CTL_CFG_ERR r) := by
  change execKvCheckDone s = _
  unfold execKvCheckDone
  dsimp only
  rw [if_pos ⟨h, (Bool.not_eq_true' _).mpr hh⟩, hr]

end

/-! The tail of the event ring (R375) -/

theorem exec_kvEvtTailWrite (h : s.Hears 11) (tail : BitVec 20) :
    exec (.kvEvtTailWrite tail) s = .next (s.setFld Fd.KV_EVT_PTR_KV_EVT_TAIL tail.toNat) :=
  congrArg Host.Outcome.next (State.hostWriteIn_hears h _)

/-- A tail fills its field. -/
theorem State.fld_kvEvtTail (s : State) (tail : BitVec 20) :
    (s.setFld Fd.KV_EVT_PTR_KV_EVT_TAIL tail.toNat).fld Fd.KV_EVT_PTR_KV_EVT_TAIL = tail.toNat := by
  rw [State.fld_setFld_self]
  exact Nat.mod_eq_of_lt tail.isLt

end

/-- Settles O33: what a write of EN does as EN stands, the two ends of the check, and the tail. -/
theorem kvEnabling : Obligations.KvEnabling := by
  intro s
  refine ⟨fun h1 => ⟨fun off => ?_, fun on => ?_, fun off => ?_, fun on hfree => ?_, fun on w hw hbusy => ?_⟩,
    fun h hh => ⟨exec_kvCheckDone_passes h hh, fun r hr => exec_kvCheckDone_fails h hh hr⟩, exec_kvCheckDone_idle,
    fun tail h => ⟨_, exec_kvEvtTailWrite h tail, rfl, s.fld_kvEvtTail tail⟩⟩
  · rw [exec_kvEnable h1, State.kvEnable_off off]
  · rw [exec_kvEnable h1, State.kvEnable_on on]
  · rw [exec_kvDisable h1, State.kvDisable_off off]
  · rw [exec_kvDisable h1, State.kvDisable_on on, if_pos (State.allFree_iff.mpr hfree)]
  · rw [exec_kvDisable h1, State.kvDisable_on on, if_neg fun hall => hbusy (State.allFree_iff.mp hall w hw)]

end Sys2Proof.Machine
end

section
/-! The control of power and heat, saved settings, the compute-part reset, and the carrier (R376, R597 to R607, R653, R656, R660 to
R662). -/

namespace Sys2Proof.Machine

/-- A command that needs a condition which holds has its effect. -/
theorem next_of_on {b : Bool} (h : b = true) (s u : State) :
    (.next (if !b then s else u) : Host.Outcome State Fault Refusal) = .next u := by
  rw [h]
  rfl

/-- A command that needs a condition which holds, and another that does not, has its effect. -/
theorem next_of_on_off {a b : Bool} (ha : a = true) (hb : b = false) (s u : State) :
    (.next (if !a ∨ b then s else u) : Host.Outcome State Fault Refusal) = .next u := by
  rw [ha, hb]
  rfl

/-! Power and heat (R605, R606) -/

/-- R605, R606: what the power controller shows at a tick: the power measured, and the hottest tile. -/
def State.showPower (s : State) (panelW dimmW : BitVec 16) (hottest : BitVec 8) : State :=
  let a := ((s.setFld Fd.PWR_IN_P_PANEL_W panelW.toNat).setFld Fd.PWR_IN_P_DIMM_W dimmW.toNat).setFld Fd.PWR_THERM_TJ_MAX hottest.toNat
  (List.range 36).foldl (fun s t =>
    if hottest.toNat < s.fld (Fd.PWR_TILE_TEMP t) then s.setFld (Fd.PWR_TILE_TEMP t) hottest.toNat else s) a

section
variable (s : State) (panelW dimmW : BitVec 16) (hottest : BitVec 8)

/-- The power measured and the temperatures are fields of their own. -/
theorem State.fld_showPower {f : Fld} (hl : f.lo < 64) (hin : f.addr ≠ (Reg.PWR_IN).addr) (hmax : f.key ≠ Fd.PWR_THERM_TJ_MAX.key)
    (htile : f.addr < 0x200100) : (s.showPower panelW dimmW hottest).fld f = s.fld f := by
  have temp (u : State) (t v : Nat) : (u.setFld (Fd.PWR_TILE_TEMP t) v).fld f = u.fld f :=
    u.fld_setFld_ne _ f v (Fld.key_ne_of_addr hl (show 0 < 64 by decide) (show f.addr ≠ 0x200100 + t * 8 by omega))
  have tiles (u : State) (t : Nat) : (if hottest.toNat < u.fld (Fd.PWR_TILE_TEMP t) then
      u.setFld (Fd.PWR_TILE_TEMP t) hottest.toNat else u).fld f = u.fld f := by
    split
    · exact temp u t _
    · rfl
  unfold State.showPower
  dsimp only
  rw [foldl_leaves (fun u : State => u.fld f) _ tiles, State.fld_setFld_ne _ _ _ _ hmax,
    State.fld_setFld_ne _ _ _ _ (Fld.key_ne_of_addr hl (show 48 < 64 by decide) hin),
    State.fld_setFld_ne _ _ _ _ (Fld.key_ne_of_addr hl (show 32 < 64 by decide) hin)]

theorem State.boot_showPower : (s.showPower panelW dimmW hottest).boot = s.boot := by
  refine foldl_leaves State.boot _ (fun u t => ?_) _ _
  split <;> rfl

/-- R605: what is shown does not move the cap. -/
theorem State.effectiveCap_showPower : (s.showPower panelW dimmW hottest).effectiveCap = s.effectiveCap := by
  have kept {f : Fld} (hl : f.lo < 64) (ha : f.addr = (Reg.PWR_CAP).addr ∨ f.addr = (Reg.PWR_STAT).addr) :=
    s.fld_showPower panelW dimmW hottest hl (by rcases ha with ha | ha <;> rw [ha] <;> decide)
      (Fld.key_ne_of_addr hl (by decide) (by rcases ha with ha | ha <;> rw [ha] <;> decide)) (by rcases ha with ha | ha <;> rw [ha] <;> decide)
  have cap := kept (f := Fd.PWR_CAP_CAP_W) (by decide) (.inl rfl)
  have coolCap := kept (f := Fd.PWR_CAP_COOL_CAP_W) (by decide) (.inl rfl)
  have coolLow : (s.showPower panelW dimmW hottest).isSet Fd.PWR_STAT_COOL_LOW = s.isSet Fd.PWR_STAT_COOL_LOW :=
    congrArg (fun n => decide (n = 1)) (kept (f := Fd.PWR_STAT_COOL_LOW) (by decide) (.inr rfl))
  rw [State.effectiveCap, coolLow, cap, coolCap, State.effectiveCap]

theorem State.throttle_showPower :
    (s.showPower panelW dimmW hottest).fld Fd.PWR_THERM_TJ_THROTTLE = s.fld Fd.PWR_THERM_TJ_THROTTLE :=
  s.fld_showPower panelW dimmW hottest (by decide) (by decide) (by decide) (by decide)

theorem State.boot_raiseVec (port vec : Nat) : (s.raiseVec port vec).boot = s.boot := by
  unfold State.raiseVec
  dsimp only
  split <;> rfl

/-- R671: a record of the fault log leaves what the start holds. -/
theorem State.boot_logRec (code source detail : Nat) : (s.logRec code source detail).boot = s.boot := by
  unfold State.logRec
  extract_lets h n r full u v w
  have moved : u.boot = s.boot := by
    unfold u
    split <;> rfl
  have logged : w.boot = s.boot := moved
  split
  · rw [State.boot_raiseVec, logged]
  · exact logged

theorem State.boot_log (code detail : Nat) : (s.log code detail).boot = s.boot := s.boot_logRec _ _ _

/-- An episode leaves the targets of the clock domains. -/
theorem State.goal_episode (n : Nat) (c : Bool) (code : Nat) : (s.episode n c code).boot.goal = s.boot.goal := by
  unfold State.episode
  split
  · rfl
  split
  · rfl
  · rw [State.boot_log]
    rfl

theorem State.boot_flagFld (f : Fld) (c : Bool) : (s.flagFld f c).boot = s.boot := by
  cases c <;> rfl

/-- R605, R606: the episodes that a tick finds, shown and recorded. -/
def State.powerEpisodes (s : State) (above hot : Bool) : State :=
  (((s.flagFld Fd.PWR_STAT_CAPPING above).flagFld Fd.PWR_STAT_THROTTLE hot).episode 1 above 0x0F01).episode 2 hot 0x0F02

theorem State.domGoal_powerEpisodes (above hot : Bool) (d : Nat) : (s.powerEpisodes above hot).domGoal d = s.domGoal d := by
  rw [State.domGoal, State.powerEpisodes, State.goal_episode, State.goal_episode, State.boot_flagFld, State.boot_flagFld, State.domGoal]

theorem State.domGoal_showPower (d : Nat) : (s.showPower panelW dimmW hottest).domGoal d = s.domGoal d := by
  rw [State.domGoal, State.boot_showPower, State.domGoal]

variable {s}

/-- R605, R606: the core target is lowered above the cap or the throttle temperature, raised well below the cap, and else stays. -/
theorem exec_powerControlTick (h : s.boot.done0 = true) :
    let above := decide (s.effectiveCap < panelW.toNat)
    let hot := decide (s.fld Fd.PWR_THERM_TJ_THROTTLE ≤ hottest.toNat)
    let d := (s.showPower panelW dimmW hottest).powerEpisodes above hot
    exec (.powerControlTick panelW dimmW hottest) s = .next (
      if above ∨ hot then d.controlCore (lowerGoal (s.domGoal 0))
      else if panelW.toNat * 100 ≤ s.effectiveCap * 97 then d.controlCore (raiseGoal (s.domGoal 0)) else d).holdOrGo := by
  intro above hot d
  have goal : d.domGoal 0 = s.domGoal 0 := by rw [State.domGoal_powerEpisodes, State.domGoal_showPower]
  rw [← goal]
  refine (next_of_on h s _).trans ?_
  unfold d above hot
  rw [← s.effectiveCap_showPower panelW dimmW hottest, ← s.throttle_showPower panelW dimmW hottest]
  rfl

end

section
variable {s : State} (h : s.boot.done0 = true)
include h

theorem exec_tileTempTrip (tile : Fin 36) (temp : BitVec 8) :
    let a := s.setFld (Fd.PWR_TILE_TEMP tile.val) temp.toNat
    let u := a.setFld Fd.PWR_THERM_TJ_MAX (max (a.fld Fd.PWR_THERM_TJ_MAX) temp.toNat)
    exec (.tileTempTrip tile temp) s = .next (if u.fld Fd.PWR_THERM_TJ_TRIP ≤ temp.toNat then (u.log 0x0F03).raiseCpr 5 else u) :=
  next_of_on h s _

theorem exec_coolantSample (inlet : BitVec 8) (flow : BitVec 16) :
    let low := decide (45 < inlet.toNat) || decide (flow.toNat < 160)
    let severe := decide (50 < inlet.toNat) || decide (flow.toNat < 100)
    let u := ((((s.setFld Fd.PWR_THERM_INLET_C inlet.toNat).setFld Fd.PWR_THERM_FLOW_DLPM flow.toNat).setFld Fd.PWR_STAT_COOL_LOW
      (b2n low)).episode 6 low 0x0F06).episode 12 (decide (inlet.toNat < 20)) 0x0F0C
    exec (.coolantSample inlet flow) s =
      .next (u.setBoot { u.boot with coolTimer := severe, coolTrip := u.boot.coolTrip && severe }).holdOrGo :=
  next_of_on h s _

theorem exec_railFault : exec .railFault s = .next ((s.log 0x0F08).raiseCpr 6) := congrArg Host.Outcome.next (if_pos h)

/-! The carrier after stage 0 (R656, R660, R662) -/

theorem exec_dimmOverdraw {unit : Fin 24} (hu : s.dram.overdraw.contains unit.val = false) : exec (.dimmOverdraw unit) s =
    .next (({ s with dram := { s.dram with overdraw := s.dram.overdraw ++ [unit.val] } } : State).log 0x0F0B) :=
  next_of_on_off h hu s _

theorem exec_dimmFuseOpen {unit : Fin 24} (hu : bitAt (s.fld Fd.PWR_CARRIER_DIMM_OFF) unit.val = false) : exec (.dimmFuseOpen unit) s =
    .next (((s.putBit Fd.PWR_CARRIER_DIMM_OFF unit.val true).setFld (Fd.CH_STAT_STATE .far unit.val) 5).log 0x0F0B) :=
  next_of_on_off h hu s _

theorem exec_leakDetect (hl : s.isSet Fd.PWR_CARRIER_LEAK = false) :
    exec .leakDetect s = .next (((s.setFld Fd.PWR_CARRIER_LEAK 1).log 0x0F0A).raiseCpr 5) :=
  next_of_on_off h hl s _

theorem exec_i3cAddressAssign (addr : BitVec 7) :
    exec (.i3cAddressAssign addr) s = .next { s with trust := { s.trust with i3c := some addr } } :=
  congrArg Host.Outcome.next (if_pos h)

end

theorem exec_coolantTripTimer {s : State} (h : s.boot.coolTimer = true) : exec .coolantTripTimer s =
    .next (((s.setBoot { s.boot with coolTimer := false, coolTrip := true }).log 0x0F03).raiseCpr 5) :=
  next_of_on h s _

/-! The input current (R607), and cables (R653) -/

section
variable {s : State} (h : s.boot.powered = true)
include h

theorem exec_iinLimitReached (da : BitVec 16) :
    let u := s.setFld Fd.PWR_IN_IIN_DA da.toNat
    exec (.iinLimitReached da) s = .next (if 2150 ≤ da.toNat ∧ s.boot.dropped ≠ 4 then
      ((u.setBoot { s.boot with dropped := 4 }).setFld Fd.PWR_STAT_IIN_LIMIT 1).log 0x0F07 else u) :=
  next_of_on h s _

theorem exec_iinLimitClear (da : BitVec 16) :
    let u := s.setFld Fd.PWR_IN_IIN_DA da.toNat
    exec (.iinLimitClear da) s = .next (if da.toNat < 2050 then
      u.setBoot { s.boot with dropped := if s.boot.dropped = 4 then 8 else if s.boot.dropped = 8 then 16 else 0 } else u) :=
  next_of_on h s _

theorem exec_cableSeated {p : Port} (hp : bitAt (s.fld Fd.PWR_CARRIER_CAGE_PRES) p.val = false) (watts : BitVec 8) :
    let u := s.putBit Fd.PWR_CARRIER_CAGE_PRES p.val true
    exec (.cableSeated p watts) s =
      .next (if watts.toNat ≤ 12 then u.putBit Fd.PWR_CARRIER_CAGE_PWR_OFF p.val false else u.cutCable p.val) :=
  next_of_on_off h hp s _

end

section
variable {s : State} {p : Port} (h : bitAt (s.fld Fd.PWR_CARRIER_CAGE_PRES) p.val = true)
include h

theorem exec_cableRemoved :
    exec (.cableRemoved p) s = .next ((s.putBit Fd.PWR_CARRIER_CAGE_PRES p.val false).portDark p.val) :=
  congrArg Host.Outcome.next (if_pos h)

theorem exec_cableOverdraw (hp : bitAt (s.fld Fd.PWR_CARRIER_CAGE_PWR_OFF) p.val = false) :
    exec (.cableOverdraw p) s = .next (s.cutCable p.val) :=
  congrArg Host.Outcome.next (if_pos (by rw [h, hp]; rfl))

end

/-! Saved settings (R599 to R601) -/

/-- R599: what marks a unit: a record that does not cover its conditions, too many errors, or a margin that fails. -/
theorem State.checkFails_iff (s : State) (u : SettingUnit) (o : UnitCheck) : s.checkFails u o = true ↔
    (∃ n ∈ (s.settingsOf u).2, (s.setting (s.settingsOf u).1 n).covers o.cond = false) ∨
      (∃ n, s.rateLimit u = some n ∧ n < o.rate) ∨ o.margin = false := by
  have many : (match s.rateLimit u with
      | some n => decide (n < o.rate)
      | none => false) = true ↔ ∃ n, s.rateLimit u = some n ∧ n < o.rate := by
    cases s.rateLimit u <;> simp
  unfold State.checkFails
  simp only [Bool.or_eq_true, or_assoc, List.any_eq_true, Bool.not_eq_true']
  exact or_congr_right (or_congr_left many)

/-- R599: a check of a unit in use, after stage 3. -/
theorem exec_bgSettingCheck {s : State} {u : SettingUnit} (h3 : s.fld Fd.PWR_STAGE_STAGE = 3)
    (hen : s.isSet Fd.MC_SET_CTL_BG_CHECK_EN = true) (hu : s.unitInUse u = true) (o : UnitCheck) :
    let k := s.settingsOf u
    exec (.bgSettingCheck u o) s = .next (
      if s.checkFails u o then
        if s.boot.marked.contains u ∨ s.boot.retraining = some u then s
        else (s.setBoot { s.boot with marked := s.boot.marked ++ [u] }).showMarked
      else if o.heavy then
        k.2.foldl (fun s n => if bits (s.setting k.1 n).tag.toNat 50 2 = 0 then s.heavySetting k.1 n else s) s
      else s) := by
  refine congrArg Host.Outcome.next (if_neg ?_)
  simp [h3, hen, hu]

/-- R600, R332: a port drains before it retrains; another unit retrains at once. -/
def State.drainUnit (s : State) : SettingUnit → State
  | .port p => s.setFld (Fd.JL_P_STAT_STATE p.val) 3
  | _ => s

theorem State.drainUnit_other {u : SettingUnit} (h : ∀ p, u ≠ .port p) (s : State) : s.drainUnit u = s := by
  cases u with
  | port p => exact absurd rfl (h p)
  | channel | stack | tile => rfl

/-- R600: a quiet window takes the next marked unit. -/
theorem exec_quietWindowRetrain {s : State} {u : SettingUnit} {rest : List SettingUnit} (hm : s.boot.marked = u :: rest)
    (hq : s.quiet = true) (hr : s.boot.retraining = none) :
    let a := ((s.setBoot { s.boot with marked := rest, retraining := some u }).showMarked).satFld Fd.MC_SET_STAT_RETRAINS
    exec .quietWindowRetrain s = .next (
      if !(s.unitInUse u) then (s.setBoot { s.boot with marked := rest }).showMarked else a.drainUnit u) := by
  have goes : ¬ ((!s.quiet) = true ∨ s.boot.retraining.isSome = true) := by simp [hq, hr]
  change execQuietWindowRetrain s = _
  unfold execQuietWindowRetrain
  rw [hm]
  dsimp only
  rw [if_neg goes]
  cases u <;> rfl

/-- R600: the unit that retrained is back: a port that could not retrain is UP on its previous settings. -/
def State.unitBack (s : State) (u : SettingUnit) : State :=
  let idle := s.setBoot { s.boot with retraining := none }
  match u with
  | .port p => if idle.portState p.val = 1 ∧ idle.fld (Fd.JL_P_STAT_GEN p.val) ≠ 0 then idle.portUpNow p.val else idle
  | _ => idle

/-- R601: a unit has no failures in a row. -/
def State.clearFails (s : State) (u : SettingUnit) : State :=
  s.setBoot { s.boot with fails := SMap.erase s.boot.fails (settingCode u) }

theorem State.boot_remeasure (s : State) (u : SettingUnit) (c : UnitCond) : (s.remeasure u c).boot = s.boot :=
  foldl_leaves State.boot (fun v n => v.measure (s.settingsOf u).1 n c 1) (fun _ _ => rfl) _ s

section
variable {s : State} {u : SettingUnit} (hr : s.boot.retraining = some u) (c : UnitCond)
include hr

/-- R600, R601: a success renews the records of its unit; the measurement of a core rail always does. -/
theorem exec_retrainDone_renews {ok : Bool} (hd : ok = true ∨ ∃ t, u = .tile t) :
    exec (.retrainDone ok c) s = .next (((s.unitBack u).remeasure u c).clearFails u) := by
  rw [State.clearFails, State.boot_remeasure]
  change execRetrainDone ok c s = _
  unfold execRetrainDone
  rw [hr]
  rcases hd with rfl | ⟨t, rfl⟩
  · cases u <;> rfl
  · rfl

/-- R601: the second failure in a row retires a unit. -/
theorem exec_retrainDone_fails (ht : ∀ t, u ≠ .tile t) :
    let a := s.unitBack u
    let n := a.boot.fails.getD (settingCode u) 0 + 1
    exec (.retrainDone false c) s = .next (
      if n < 2 then a.setBoot { a.boot with fails := a.boot.fails.set (settingCode u) n } else (a.clearFails u).retireUnit u) := by
  change execRetrainDone false c s = _
  unfold execRetrainDone
  rw [hr]
  cases u with
  | tile t => exact absurd rfl (ht t)
  | channel | stack | port => rfl

end

/-! The compute-part reset (R602, R604) -/

section
variable {s : State} (h : s.boot.done1 = true)
include h

theorem exec_cprRequest : exec .cprRequest s = .next s.requestCpr := congrArg Host.Outcome.next (State.hostWrite_done1 h _)

theorem exec_cprRelease : exec .cprRelease s = .next (s.setFld Fd.PWR_CPR_RELEASE 1).holdOrGo :=
  congrArg Host.Outcome.next (State.hostWrite_done1 h _)

end

section
variable {s : State}

theorem exec_computeBringupStep_trains (h : s.cpr = 2) : exec .computeBringupStep s =
    .next { (s.setFld Fd.MC_PANEL_DIES_DIE_UP (s.fld Fd.MC_PANEL_DIES_DIE_UP ||| 0x1E0)).showStacks with cpr := 3 } :=
  congrArg Host.Outcome.next (if_pos h)

theorem exec_computeBringupStep_maps (h : s.cpr = 3) (hn : s.nearResolved = true) (hr : s.isSet Fd.ID_RNG_HEALTHY = true) :
    exec .computeBringupStep s = .next ((s.setMap .near 0).mapTier .near).bringUpLifts :=
  congrArg Host.Outcome.next ((if_neg (by rw [h]; decide)).trans (if_pos ⟨h, hn, hr⟩))

/-- R604, R579: the compute part is up, and stage 3 is complete at a first start. -/
def State.computeReturns (s : State) : State :=
  let u : State := { s.setFld Fd.PWR_STAGE_COMPUTE_UP 1 with cpr := 0, cycle := 0, edges := 0, lost := [] }
  ((if u.fld Fd.PWR_STAGE_STAGE = 3 then u else (u.setFld Fd.PWR_STAGE_STAGE 3).stageEnds).setFld
    Fd.CLK_ROOT_STATUS_RECOVERY 0).beginReplays

theorem exec_computeBringupDone_again (h : s.cpr = 5) :
    exec .computeBringupDone s = .next s.loseWheels.wheelProceed.computeReturns := by
  change execComputeBringupDone s = _
  unfold execComputeBringupDone
  rw [if_pos (.inl h), if_pos h]
  rfl

theorem exec_computeBringupDone_first (h : s.cpr = 0) (hu : s.computeUp = false) (hl : s.boot.liftsEnded = 6)
    (hn : s.boot.lift = none) (hr : s.boot.refused = false) : exec .computeBringupDone s = .next s.computeReturns := by
  have not5 : s.cpr ≠ 5 := by
    rw [h]
    decide
  change execComputeBringupDone s = _
  unfold execComputeBringupDone
  rw [if_pos (.inr ⟨h, (Bool.not_eq_true' _).mpr hu, hl, hn, (Bool.not_eq_true' _).mpr hr⟩), if_neg not5]
  rfl

end

/-- Settles O54: each command by its equation, and what the power controller's display leaves of the fields it compares. -/
theorem powerAndCarrier : Obligations.PowerAndCarrier := by
  intro s
  refine ⟨fun h0 => ⟨fun panelW dimmW hottest => ?tick, fun tile temp => ?trip, fun inlet flow => exec_coolantSample h0 inlet flow,
      exec_railFault h0, fun unit => ⟨exec_dimmOverdraw h0, exec_dimmFuseOpen h0⟩, exec_leakDetect h0, exec_i3cAddressAssign h0⟩,
    exec_coolantTripTimer, fun hp => ⟨fun da => ?current, fun p watts h => ?seated⟩,
    fun p h => ⟨exec_cableRemoved h, exec_cableOverdraw h⟩, fun unit => rfl, rfl, fun u h3 hen hu o => ?check,
    fun u rest hm hq hr => ?quiet, fun u hr => ?retrained, fun h1 => ⟨fun h3 => ?request, fun h3 => ?early, exec_cprRelease h1⟩,
    exec_computeBringupStep_trains, exec_computeBringupStep_maps, exec_computeBringupDone_again, exec_computeBringupDone_first⟩
  case tick =>
    intro a b cap above hot d g
    have eq := exec_powerControlTick panelW dimmW hottest h0
    refine ⟨fun limits => eq.trans ?_, fun ha hh low => eq.trans ?_, fun ha hh high => eq.trans ?_⟩
    · exact congrArg (fun u : State => Host.Outcome.next u.holdOrGo) (if_pos limits)
    all_goals
      have below : ¬ (above = true ∨ hot = true) := by simp [ha, hh]
      refine congrArg (fun u : State => Host.Outcome.next u.holdOrGo) ((if_neg below).trans ?_)
    · exact if_pos low
    · exact if_neg (Nat.not_le.mpr high)
  case trip =>
    intro a u
    have eq := exec_tileTempTrip h0 tile temp
    exact ⟨fun trips => eq.trans (congrArg _ (if_pos trips)), fun low => eq.trans (congrArg _ (if_neg (Nat.not_le.mpr low)))⟩
  case current =>
    intro u
    have reached := exec_iinLimitReached hp da
    have clears := exec_iinLimitClear hp da
    refine ⟨fun hi hd => reached.trans (congrArg _ (if_pos ⟨hi, hd⟩)), fun hlo => reached.trans (congrArg _ (if_neg ?_)),
      fun hlo => clears.trans (congrArg _ (if_pos hlo)), fun hi => clears.trans (congrArg _ (if_neg (Nat.not_lt.mpr hi)))⟩
    omega
  case seated =>
    have eq := exec_cableSeated hp h watts
    exact ⟨fun low => eq.trans (congrArg _ (if_pos low)), fun high => eq.trans (congrArg _ (if_neg (Nat.not_le.mpr high)))⟩
  case check =>
    intro k outside many bad
    have eq := exec_bgSettingCheck h3 hen hu o
    have marks : s.checkFails u o = true ↔ bad := s.checkFails_iff u o
    refine ⟨fun good light => ?_, fun good heavy => ?_, fun hb known => ?_, fun hb fresh idle => ?_⟩ <;> refine eq.trans (congrArg _ ?_)
    · exact (if_neg (mt marks.mp good)).trans (if_neg (Bool.eq_false_iff.mp light))
    · exact (if_neg (mt marks.mp good)).trans (if_pos heavy)
    · exact (if_pos (marks.mpr hb)).trans (if_pos known)
    · exact (if_pos (marks.mpr hb)).trans (if_neg (not_or.mpr ⟨Bool.eq_false_iff.mp fresh, idle⟩))
  case quiet =>
    have eq := exec_quietWindowRetrain hm hq hr
    refine ⟨fun idle => eq.trans (congrArg _ (if_pos ((Bool.not_eq_true' _).mpr idle))), fun used => ?_⟩
    intro a
    have begins : exec .quietWindowRetrain s = .next (a.drainUnit u) := eq.trans (congrArg _ (if_neg (by rw [used]; decide)))
    exact ⟨fun p hu => by rw [begins, hu]; rfl, fun hu => by rw [begins, State.drainUnit_other hu]⟩
  case retrained =>
    intro idle a n clear k c renewed
    refine ⟨exec_retrainDone_renews hr c (.inl rfl), fun t ht => exec_retrainDone_renews hr c (.inr ⟨t, ht⟩), fun ht => ?_⟩
    have eq := exec_retrainDone_fails hr c ht
    exact ⟨fun once => eq.trans (congrArg _ (if_pos once)), fun twice => eq.trans (congrArg _ (if_neg (Nat.not_lt.mpr twice)))⟩
  case request =>
    rw [exec_cprRequest h1, State.requestCpr, if_neg (not_not_intro h3)]
  case early => rw [exec_cprRequest h1, State.requestCpr, if_pos h3]

end Sys2Proof.Machine
end

section
/-! Attention regions: the bias and masks of a score region and the conversion of keys (R407 to R417). -/

namespace Sys2Proof.Machine

/-! The bias index (R407) -/

/-- R407: the bucket of a distance below 2^24. -/
theorem biasBucket_lt {d : Nat} (h : d < 2 ^ 24) : biasBucket d < 108 := by
  unfold biasBucket
  split
  case isTrue near => omega
  case isFalse =>
    have exponent : Nat.log2 d < 24 := (Nat.log2_lt (by omega)).mpr h
    dsimp only
    omega

theorem biasIndex_of_nonneg {d : Int} (h : 0 ≤ d) : biasIndex d = biasBucket d.toNat := if_pos h

theorem biasIndex_of_neg {d : Int} (h : d < 0) : biasIndex d = 128 + biasBucket (-d).toNat := if_neg (Int.not_le.mpr h)

/-! The checks of ATT.BIAS (R410) -/

/-- A range that lies in the vat or in a core's scratchpad begins within the window of the tile. -/
theorem inVatOrOwn_below {c lo n : Nat} (hc : c < 16) (hn : n ≠ 0) (h : inVatOrOwn c lo n = true) : lo < 2 ^ 28 := by
  simp only [inVatOrOwn, Bool.or_eq_true, Bool.and_eq_true, decide_eq_true_eq] at h
  omega

/-- R410: what ATT.BIAS asks of a score region and of the segment arrays, which lie at sq and sk where segs holds. -/
structure BiasAllowed (c : Nat) (d : Desc) (gq gk h sq sk : Nat) (segs : Bool) : Prop where
  sound : d.fault c true false = 0
  head : h ≤ 63
  format : d.fmt = 0
  filled : d.some = true
  rows : gq + d.rows - 1 < 2 ^ 24
  cols : gk + d.cols - 1 < 2 ^ 24
  arrays : segs = true → segOk c sq d.rows = true ∧ segOk c sk d.cols = true

theorem BiasAllowed.arrays_below {c gq gk h sq sk : Nat} {d : Desc} {segs : Bool} (hb : BiasAllowed c d gq gk h sq sk segs)
    (hc : c < 16) (hs : segs = true) : sq < 2 ^ 28 ∧ sk < 2 ^ 28 := by
  obtain ⟨hq, hk⟩ := hb.arrays hs
  have filled := hb.filled
  simp only [segOk, Desc.some, Bool.and_eq_true, decide_eq_true_eq] at hq hk filled
  exact ⟨inVatOrOwn_below hc (by omega) hq.2, inVatOrOwn_below hc (by omega) hk.2⟩

/-- A score region and segment arrays that are allowed pass the checks before their use. -/
theorem BiasAllowed.passes {c gq gk h sq sk : Nat} {d : Desc} {segs : Bool} (hb : BiasAllowed c d gq gk h sq sk segs) (hc : c < 16)
    (s : State) (k : Eff) :
    (if d.fault c true false ≠ 0 then .fault (d.fault c true false) s
      else if 63 < h ∨ d.fmt ≠ 0 then .fault 0x0802 s
      else if !d.some then .retire s
      else if 2 ^ 24 ≤ gq + d.rows - 1 ∨ 2 ^ 24 ≤ gk + d.cols - 1 then .fault 0x0802 s
      else if segs ∧ (2 ^ 28 ≤ sq ∨ 2 ^ 28 ≤ sk) then .fault 0x0104 s
      else if segs ∧ !(segOk c sq d.rows && segOk c sk d.cols) then .fault 0x0802 s else k) = k := by
  have shape : ¬ (63 < h ∨ d.fmt ≠ 0) := not_or.mpr ⟨Nat.not_lt.mpr hb.head, not_not_intro hb.format⟩
  have places : ¬ (2 ^ 24 ≤ gq + d.rows - 1 ∨ 2 ^ 24 ≤ gk + d.cols - 1) :=
    not_or.mpr ⟨Nat.not_le.mpr hb.rows, Nat.not_le.mpr hb.cols⟩
  have below : ¬ (segs = true ∧ (2 ^ 28 ≤ sq ∨ 2 ^ 28 ≤ sk)) := by
    rintro ⟨hs, high⟩
    have := hb.arrays_below hc hs
    omega
  have lie : ¬ (segs = true ∧ (!(segOk c sq d.rows && segOk c sk d.cols)) = true) := by
    rintro ⟨hs, bad⟩
    obtain ⟨hq, hk⟩ := hb.arrays hs
    rw [hq, hk] at bad
    exact absurd bad (by decide)
  rw [if_neg (not_not_intro hb.sound), if_neg shape, if_neg (by rw [hb.filled]; decide), if_neg places, if_neg below, if_neg lie]

/-! The checks of ATT.KCVT (R415 to R418) -/

/-- R415 to R417: a conversion from the region k into the region d that its descriptors and its modifier, narrow, allow. -/
structure KcvtAllowed (c : Nat) (d k : Desc) (narrow : Bool) : Prop where
  formats : (fmtBad d.fmt || fmtBad k.fmt) = false
  dest : d.fault c true false = 0
  source : k.fault c false false = 0
  shapes : kcvtBad d k = false
  plain : kcvtWidens k.fmt d.fmt = true → d.scaleEn = false
  narrows : d.fmt ≠ k.fmt → kcvtWidens k.fmt d.fmt = false → narrow = true

/-- A conversion that is allowed passes the checks before its use. -/
theorem KcvtAllowed.passes {c : Nat} {d k : Desc} {narrow : Bool} (h : KcvtAllowed c d k narrow) (s : State) (e : Eff) :
    (if fmtBad d.fmt || fmtBad k.fmt then .fault 0x0302 s
      else if kcvtBad d k || (kcvtWidens k.fmt d.fmt && d.scaleEn) then .fault 0x0805 s
      else if d.fmt ≠ k.fmt ∧ !kcvtWidens k.fmt d.fmt ∧ !narrow then .fault 0x0803 s
      else if descFaults [d.fault c true false, k.fault c false false] ≠ 0 then
        .fault (descFaults [d.fault c true false, k.fault c false false]) s
      else e) = e := by
  have sound : descFaults [d.fault c true false, k.fault c false false] = 0 := descFaults_eq_zero (by simp [h.dest, h.source])
  have scales : ¬ (kcvtBad d k || (kcvtWidens k.fmt d.fmt && d.scaleEn)) = true := by
    rw [h.shapes, Bool.false_or, Bool.and_eq_true]
    exact fun ⟨widens, scaled⟩ => Bool.eq_false_iff.mp (h.plain widens) scaled
  have modifier : ¬ (d.fmt ≠ k.fmt ∧ (!kcvtWidens k.fmt d.fmt) = true ∧ (!narrow) = true) := by
    rintro ⟨differ, narrower, off⟩
    rw [h.narrows differ ((Bool.not_eq_true' _).mp narrower)] at off
    exact absurd off (by decide)
  rw [if_neg (Bool.eq_false_iff.mp h.formats), if_neg scales, if_neg modifier, if_neg (not_not_intro sound)]

/-- Settles O21: each instruction passes its checks and opens its regions; the index by the sign of the distance. -/
theorem attentionRegions : Obligations.AttentionRegions := by
  refine ⟨fun t w s u mt he => ?acts, fun d low high => ⟨biasIndex_of_nonneg, biasIndex_of_neg, ?index⟩⟩
  case acts =>
    intro th tile r p d
    refine ⟨?bias, ?kcvt⟩
    case bias =>
      intro gq gk h sq sk reads segs hr sound head format
      refine ⟨fun h0 => ?empty, fun filled rows cols arrays ho => ?filled⟩
      case empty =>
        have shape : ¬ (63 < h ∨ d.fmt ≠ 0) := not_or.mpr ⟨Nat.not_lt.mpr head, not_not_intro format⟩
        refine congrArg Host.Outcome.next (State.issue_idles (by rw [List.append_nil]; exact hr) rfl he ?_)
        simp only [State.regs_pastGuard, TRegs.getD'_past, TRegs.getG_past]
        rw [if_neg (not_not_intro sound), if_neg shape, if_pos (by rw [h0]; rfl)]
      case filled =>
        intro masked bias cells
        have allowed : BiasAllowed t.core.val d gq gk h sq sk (w.m 1) := ⟨sound, head, format, filled, rows, cols, arrays⟩
        refine congrArg Host.Outcome.next (State.issue_retires (by rw [List.append_nil]; exact hr) rfl he ?_)
        simp only [State.regs_pastGuard, TRegs.getD'_past, TRegs.getG_past]
        rw [allowed.passes t.core.isLt, State.access_opens ho]
    case kcvt =>
      intro k hr badD badK dest source shapes plain narrows
      have allowed : KcvtAllowed t.core.val d k (w.m 0) := ⟨by rw [badD, badK]; rfl, dest, source, shapes, plain, narrows⟩
      refine ⟨fun h0 => ?empty, fun filled ho => ?filled⟩
      case empty =>
        refine congrArg Host.Outcome.next (State.issue_idles hr rfl he ?_)
        simp only [State.regs_pastGuard, TRegs.getD'_past]
        rw [allowed.passes, if_pos (by rw [h0]; rfl)]
      case filled =>
        intro q
        refine ⟨fun exact' => ?_, fun stops => ?_⟩
        · refine congrArg Host.Outcome.next (State.issue_retires hr rfl he ?_)
          simp only [State.regs_pastGuard, TRegs.getD'_past]
          rw [allowed.passes, filled, State.access_opens ho]
          exact if_pos exact'
        · refine congrArg Host.Outcome.next (State.issue_faults hr rfl he ?_)
          simp only [State.regs_pastGuard, TRegs.getD'_past]
          rw [allowed.passes, filled, State.access_opens ho]
          exact if_neg (Bool.eq_false_iff.mp stops)
  case index =>
    rcases Int.lt_or_le d 0 with neg | nonneg
    · have := biasBucket_lt (d := (-d).toNat) (by omega)
      rw [biasIndex_of_neg neg]
      omega
    · have := biasBucket_lt (d := d.toNat) (by omega)
      rw [biasIndex_of_nonneg nonneg]
      omega

end Sys2Proof.Machine
end

section
/-! The lap instructions: what a posting and a slice to send put into their lap VC (R392, R394, R402, R404, R405). -/

namespace Sys2Proof.Machine

/-! A change of a thread leaves every route and the faults of a link -/

section
variable (s : State) (t : Nat) (x : Thread) (d : Nat)

theorem State.setThread_path (order dir n m : Nat) : (s.setThread t x).path n m d order dir = s.path n m d order dir := by
  have hop (m : Nat) : (s.setThread t x).hop m d order dir = s.hop m d order dir := rfl
  have neighbour (m p : Nat) : (s.setThread t x).neighbour m p = s.neighbour m p := rfl
  induction n generalizing m with
  | zero => rfl
  | succ n ih => simp only [State.path, hop, neighbour, State.setThread_fld, ih]

theorem State.setThread_crosses (order dir : Nat) : (s.setThread t x).crosses d order dir = s.crosses d order dir := by
  simp only [State.crosses, State.route, State.setThread_path]
  rfl

theorem State.setThread_altFrom (n i : Nat) : (s.setThread t x).altFrom d n i = s.altFrom d n i := by
  have piste (i : Nat) : (s.setThread t x).piste i = s.piste i := rfl
  induction n generalizing i with
  | zero => rfl
  | succ n ih => simp only [State.altFrom, piste, State.setThread_crosses, ih]

theorem State.setThread_pisteFor (i : Nat) : (s.setThread t x).pisteFor d i = s.pisteFor d i := by
  simp only [State.pisteFor, State.setThread_altFrom, State.setThread_crosses]
  rfl

theorem State.setThread_orderDir (vc i : Nat) : (s.setThread t x).orderDir d vc i = s.orderDir d vc i := by
  simp only [State.orderDir, State.setThread_crosses]
  rfl

theorem State.setThread_exitPort (order dir : Nat) : (s.setThread t x).exitPort d order dir = s.exitPort d order dir := rfl

theorem State.setThread_linkFault (vc : Nat) : (s.setThread t x).linkFault d vc = s.linkFault d vc := by
  have curPiste : (s.setThread t x).curPiste = s.curPiste := rfl
  simp only [State.linkFault, State.setThread_pisteFor, State.setThread_orderDir, State.setThread_exitPort, curPiste]
  rfl

theorem State.setThread_lapLinkFault (i : Nat) : (s.setThread t x).lapLinkFault i = s.lapLinkFault i := by
  simp only [State.lapLinkFault, State.setThread_linkFault]
  rfl

end

/-! What the guard of a word leaves as it is -/

/-- What a change of one thread leaves as it is, the guard of a word leaves so. -/
theorem State.pastGuard_leaves {α : Type} (view : State → α) {s : State} {t : Tid} (h : ∀ x, view (s.setThread t.code x) = view s)
    (w : IWord) : view (s.pastGuard t w) = view s := by
  unfold State.pastGuard
  split
  · rfl
  · exact h _

section
variable (s : State) (t : Tid) (w : IWord)

@[simp] theorem State.pastGuard_lap (i : Nat) : (s.pastGuard t w).lap i = s.lap i :=
  State.pastGuard_leaves (State.lap · i) (fun _ => rfl) w

@[simp] theorem State.pastGuard_lapArmed (i : Nat) : (s.pastGuard t w).lapArmed i = s.lapArmed i :=
  State.pastGuard_leaves (State.lapArmed · i) (fun _ => rfl) w

@[simp] theorem State.pastGuard_lapSlices (i : Nat) : (s.pastGuard t w).lapSlices i = s.lapSlices i :=
  State.pastGuard_leaves (State.lapSlices · i) (fun _ => rfl) w

@[simp] theorem State.pastGuard_sliceBytes (i : Nat) : (s.pastGuard t w).sliceBytes i = s.sliceBytes i :=
  State.pastGuard_leaves (State.sliceBytes · i) (fun _ => rfl) w

@[simp] theorem State.pastGuard_lapLinkFault (i : Nat) : (s.pastGuard t w).lapLinkFault i = s.lapLinkFault i :=
  State.pastGuard_leaves (State.lapLinkFault · i) (fun x => s.setThread_lapLinkFault t.code x i) w

@[simp] theorem State.pastGuard_lapRoom (i slice : Nat) : (s.pastGuard t w).lapRoom i slice = s.lapRoom i slice :=
  State.pastGuard_leaves (State.lapRoom · i slice) (fun _ => rfl) w

@[simp] theorem State.pastGuard_barEpoch (a : Nat) : (s.pastGuard t w).barEpoch a = s.barEpoch a :=
  State.pastGuard_leaves (State.barEpoch · a) (fun _ => rfl) w

@[simp] theorem State.pastGuard_addrFault (q : Req) (a n : Nat) : (s.pastGuard t w).addrFault q a n = s.addrFault q a n :=
  State.pastGuard_leaves (State.addrFault · q a n) (fun _ => rfl) w

@[simp] theorem State.pastGuard_descHeld (wn : Nat) : (s.pastGuard t w).descHeld wn = s.descHeld wn :=
  State.pastGuard_leaves (State.descHeld · wn) (fun _ => rfl) w

@[simp] theorem State.pastGuard_wheel (wn : Nat) : (s.pastGuard t w).wheel wn = s.wheel wn :=
  State.pastGuard_leaves (State.wheel · wn) (fun _ => rfl) w

@[simp] theorem State.pastGuard_wheelFault (wn : Nat) : (s.pastGuard t w).wheelFault wn = s.wheelFault wn :=
  State.pastGuard_leaves (State.wheelFault · wn) (fun _ => rfl) w

@[simp] theorem State.pastGuard_runWalks (wn d token n : Nat) :
    (s.pastGuard t w).runWalks wn d token n = s.runWalks wn d token n :=
  State.pastGuard_leaves (State.runWalks · wn d token n) (fun _ => rfl) w

@[simp] theorem State.pastGuard_anyHeld (l : List (Nat × Nat)) : (s.pastGuard t w).anyHeld l = s.anyHeld l :=
  State.pastGuard_leaves (State.anyHeld · l) (fun _ => rfl) w

@[simp] theorem State.pastGuard_rangesPoisoned (l : List (Nat × Nat)) :
    (s.pastGuard t w).rangesPoisoned l = s.rangesPoisoned l :=
  State.pastGuard_leaves (State.rangesPoisoned · l) (fun _ => rfl) w

/-! How an enabled word ends -/

/-- The state that an enabled word leaves which issued in s and whose own effect is e: one that waits gives its guard back. -/
def Eff.ended (e : Eff) (s : State) (t : Tid) (w : IWord) : State :=
  (e.unguard t.code (s.regs t.code).ctrl).finish t.code w.size

theorem Eff.ended_retire (u : State) : (Eff.retire u).ended s t w = u.advance t w := rfl

theorem Eff.ended_fault (code : Nat) (u : State) : (Eff.fault code u).ended s t w = u.raise t.code code w.size := rfl

theorem Eff.ended_wait (st : TState) : (Eff.wait st (s.pastGuard t w)).ended s t w = s.waitIn t.code st :=
  s.waitIn_unguard_pastGuard t w st

end

/-! Postings (R392, R394) -/

/-- Where bit 1 is zero already, clearing it changes nothing. -/
theorem and_not_two_of_not_second {v : BitVec 16} (h : v.getLsbD 1 = false) : v &&& ~~~2#16 = v := by
  have kept : ∀ i < 16, i ≠ 1 → (~~~2#16).getLsbD i = true := by decide
  refine BitVec.eq_of_getLsbD_eq fun i hi => ?_
  rw [BitVec.getLsbD_and]
  by_cases h1 : i = 1
  · rw [h1, h, Bool.false_and]
  · rw [kept i hi h1, Bool.and_true]

theorem or_two_of_second {v : BitVec 16} (h : v.getLsbD 1 = true) : v ||| 2#16 = v := by
  have clear : ∀ i < 16, i ≠ 1 → (2#16).getLsbD i = false := by decide
  refine BitVec.eq_of_getLsbD_eq fun i hi => ?_
  rw [BitVec.getLsbD_or]
  by_cases h1 : i = 1
  · rw [h1, h, Bool.true_or]
  · rw [clear i hi h1, Bool.or_false]

section
variable {s : State} {t : Tid} {w : IWord} (he : s.Enabled t w)
include he

theorem exec_lapPost (hm : w.m 1 = false) (hr : s.Ready t w (({ a := .g, b := .g, c := .g, mods := 1 } : Form).ok w) true
    [gR w.a.toNat, gR w.b.toNat, gR w.c.toNat]) :
    let g (k : Nat) : Nat := ((s.regs t.code).getG k).toNat
    exec (.lapPost t w) s = .next (((s.pastGuard t w).postLap t.code (w.ms 0 1) (g w.a.toNat) (g w.b.toNat)
      (g w.c.toNat) false).ended s t w) := by
  show execLapPost t w s = _
  simp only [execLapPost, and_not_two_of_not_second hm]
  rw [State.issue_enabled hr rfl he]
  simp only [State.regs_pastGuard, TRegs.getG_past]
  rfl

theorem exec_lapPostDiscard (hm : w.m 1 = true) (hr : s.Ready t w (({ a := .g, c := .g, mods := 3 } : Form).ok w) true
    [gR w.a.toNat, gR w.c.toNat]) :
    let g (k : Nat) : Nat := ((s.regs t.code).getG k).toNat
    exec (.lapPostDiscard t w) s = .next (((s.pastGuard t w).postLap t.code (w.ms 0 1) (g w.a.toNat) 0
      (g w.c.toNat) true).ended s t w) := by
  show execLapPostDiscard t w s = _
  simp only [execLapPostDiscard, or_two_of_second hm]
  rw [State.issue_enabled hr rfl he]
  simp only [State.regs_pastGuard, TRegs.getG_past]
  rfl

end

/-- R392: a region that a posting may name begins within the window of its tile. -/
theorem lapRegionOk_below {a n : Nat} (h : lapRegionOk a n = true) : a < 2 ^ 28 := by
  simp only [lapRegionOk, Bool.or_eq_true, Bool.and_eq_true, decide_eq_true_eq] at h
  omega

section
variable {s : State} {t i slice a bar : Nat} {discard : Bool}

theorem State.postLap_unarmed (h : s.lapArmed i = false) : s.postLap t i slice a bar discard = .fault 0x0801 s :=
  if_pos (by rw [h]; rfl)

theorem State.postLap_outside (h : s.lapArmed i = true) (hs : s.lapSlices i ≤ slice) :
    s.postLap t i slice a bar discard = .fault 0x0805 s :=
  (if_neg (by rw [h]; decide)).trans (if_pos hs)

variable (armed : s.lapArmed i = true) (inside : slice < s.lapSlices i)
variable (region : discard = false → lapRegionOk a (s.sliceBytes i) = true) (good : barFault bar = 0)
include armed inside region good

/-- R392, R394: a posting that is allowed comes to the queue of its slice. -/
theorem State.postLap_allowed : s.postLap t i slice a bar discard =
    if 4 ≤ ((s.lap i).posts.filter (fun q => q.slice = slice)).length then .wait .waitData s
    else .retire (s.setLap i { s.lap i with nextId := (s.lap i).nextId + 1, posts := (s.lap i).posts ++ [{
      t := t, pc := (s.regs t).pc, owner := (s.thread t).owner, id := (s.lap i).nextId, slice := slice,
      addr := if discard then 0 else tileBase (tileOf t) + a, bar := barAddr t bar,
      ep := s.barEpoch (barAddr t bar), discard := discard }] }) := by
  have below : ¬ ((!discard) = true ∧ 2 ^ 28 ≤ a) := by
    rintro ⟨names, high⟩
    exact Nat.not_le.mpr (lapRegionOk_below (region ((Bool.not_eq_true' _).mp names))) high
  have lies : ¬ ((!discard) = true ∧ (!lapRegionOk a (s.sliceBytes i)) = true) := by
    rintro ⟨names, bad⟩
    rw [region ((Bool.not_eq_true' _).mp names)] at bad
    exact absurd bad (by decide)
  unfold State.postLap
  rw [if_neg (by rw [armed]; decide), if_neg (Nat.not_le.mpr inside), if_neg below, if_neg lies, if_neg (not_not_intro good)]

end

/-! Slices to send (R402, R405) -/

/-- LAP.SEND's own effect behind the guard: slice of lap VC i with its source at a. -/
def State.sendLap (s : State) (t i slice a bar : Nat) : Eff :=
  let n := s.sliceBytes i
  if !(s.lapArmed i) then .fault 0x0801 s
  else if s.lapSlices i ≤ slice ∨ s.lapSourceBad t a n then .fault 0x0805 s
  else if s.lapLinkFault i ≠ 0 then .fault (s.lapLinkFault i) s
  else if s.addrFault .thread a n ≠ 0 then .fault (s.addrFault .thread a n) s
  else if barFault bar ≠ 0 then .fault (barFault bar) s
  else if !(s.lapRoom i slice) then .wait .waitData s
  else .retire (s.lapEnqueue i
    { id := 0, slice := slice, t := t, pc := (s.regs t).pc, owner := (s.thread t).owner, bar := barAddr t bar,
      ep := s.barEpoch (barAddr t bar), srcs := [(selfDev a, n)] })

/-- The operands of LAP.SEND.KV (R404, R491). -/
structure KvSlice where
  slice : Nat
  wheel : Nat
  bar : Nat
  layer : Nat
  group : Nat
  kind : Nat
  token : Nat
  n : Nat
  scales : Bool

/-- The operands of LAP.SEND.KV in their registers. -/
def kvSlice (r : TRegs) (w : IWord) : KvSlice :=
  { slice := (r.getG w.a.toNat).toNat, wheel := (r.getG w.b.toNat).toNat, bar := (r.getG w.c.toNat).toNat,
    layer := (r.getG (w.f 0)).toNat, group := (r.getG (w.f 1)).toNat, kind := w.ms 1 1,
    token := (r.getG (w.f 2)).toNat, n := (r.getG (w.f 3)).toNat, scales := w.m 2 }

/-- R404: the bytes of a run of rows or of block scales. -/
def KvSlice.bytes (q : KvSlice) (wh : Wheel) : Nat := q.n * (if q.scales then wh.scaleRow else wh.rowb)

/-- R404: the run names a layer, a group or tokens that its wheel does not have. -/
def KvSlice.bad (q : KvSlice) (wh : Wheel) : Bool := wh.runBad q.layer q.group q.token q.n

/-- R346: the stream of a run. -/
def KvSlice.stream (q : KvSlice) (wh : Wheel) : Nat := wh.stream' q.layer q.group q.kind

/-- R365: what the walks to the pages of a run read. -/
def KvSlice.walks (q : KvSlice) (s : State) : List (List (Nat × Nat)) :=
  s.runWalks q.wheel (q.stream (s.wheel q.wheel)) q.token q.n

/-- R404, R405: a run joins the sequencer of lap VC i, its pages translated and its pin taken. -/
def State.joinRun (s : State) (t i : Nat) (q : KvSlice) : State :=
  let walks := (q.walks s).flatten
  let pin := (s.touchAll walks).takePin (pinEngine (tileOf t))
  let r := pin.2.runRanges (tileOf t) q.wheel (q.stream (s.wheel q.wheel)) q.token q.n q.scales
  r.2.2.lapEnqueue i
    { id := 0, slice := q.slice, t := t, pc := (s.regs t).pc, owner := (s.thread t).owner, bar := barAddr t q.bar,
      ep := s.barEpoch (barAddr t q.bar), srcs := r.1,
      fault := if s.rangesPoisoned walks then 0x0511 else if r.2.1 then 0x0703 else 0,
      pin := some (pinEngine (tileOf t), pin.1) }

/-- LAP.SEND.KV's own effect behind the guard. -/
def State.sendKv (s : State) (t i : Nat) (q : KvSlice) : Eff :=
  let wh := s.wheel q.wheel
  if !(s.lapArmed i) then .fault 0x0801 s
  else if s.descHeld q.wheel then .wait .waitData s
  else if s.lapSlices i ≤ q.slice ∨ q.n = 0 ∨
      ((s.wheelExists q.wheel && decide (wh.state ≠ 0)) ∧ q.bytes wh ≠ s.sliceBytes i) then .fault 0x0805 s
  else if s.lapLinkFault i ≠ 0 then .fault (s.lapLinkFault i) s
  else if s.wheelFault q.wheel ≠ 0 then .fault (s.wheelFault q.wheel) s
  else if q.bad wh then .fault 0x0702 s
  else if barFault q.bar ≠ 0 then .fault (barFault q.bar) s
  else if !(s.lapRoom i q.slice) ∨ (q.walks s).any s.anyHeld then .wait .waitData s
  else .retire (s.joinRun t i q)

section
variable {s : State} {t : Tid} {w : IWord} (he : s.Enabled t w)
include he

theorem exec_lapSend (hr : s.Ready t w (({ a := .g, b := .g, c := .g, mods := 1 } : Form).ok w) true
    [gR w.a.toNat, gR w.b.toNat, gR w.c.toNat]) :
    let g (k : Nat) : Nat := ((s.regs t.code).getG k).toNat
    exec (.lapSend t w) s = .next (((s.pastGuard t w).sendLap t.code (w.ms 0 1) (g w.a.toNat) (g w.b.toNat % 2 ^ 46)
      (g w.c.toNat)).ended s t w) := by
  have past : ((s.pastGuard t w).thread t.code).regs = (s.regs t.code).past w := s.regs_pastGuard t w
  refine congrArg Host.Outcome.next ((State.issue_enabled hr rfl he _).trans ?_)
  simp only [past, TRegs.getG_past, State.sendLap, State.regs_pastGuard]
  rfl

theorem exec_lapSendKv (hr : s.Ready t w
    (({ a := .g, b := .g, c := .g, mods := 7, x := .fields [0, 1, 2, 3] } : Form).ok w) true
    [gR w.a.toNat, gR w.b.toNat, gR w.c.toNat, gR (w.f 0), gR (w.f 1), gR (w.f 2), gR (w.f 3)]) :
    exec (.lapSendKv t w) s = .next (((s.pastGuard t w).sendKv t.code (w.ms 0 1)
      (kvSlice (s.regs t.code) w)).ended s t w) := by
  have past : ((s.pastGuard t w).thread t.code).regs = (s.regs t.code).past w := s.regs_pastGuard t w
  refine congrArg Host.Outcome.next ((State.issue_enabled hr rfl he _).trans ?_)
  simp only [past, TRegs.getG_past, State.sendKv, State.joinRun, State.regs_pastGuard]
  rfl

end

section
variable {s : State} {t i slice a bar : Nat}

theorem State.sendLap_unarmed (h : s.lapArmed i = false) : s.sendLap t i slice a bar = .fault 0x0801 s :=
  if_pos (by rw [h]; rfl)

variable (armed : s.lapArmed i = true)
include armed

theorem State.sendLap_outside (h : s.lapSlices i ≤ slice) : s.sendLap t i slice a bar = .fault 0x0805 s :=
  (if_neg (by rw [armed]; decide)).trans (if_pos (.inl h))

/-- R402: a slice of a source outside the places where it may lie faults. -/
theorem State.sendLap_badSource (h : s.lapSourceBad t a (s.sliceBytes i) = true) : s.sendLap t i slice a bar = .fault 0x0805 s :=
  (if_neg (by rw [armed]; decide)).trans (if_pos (.inr h))

variable (inside : slice < s.lapSlices i) (source : s.lapSourceBad t a (s.sliceBytes i) = false)
include inside source

/-- R402: a slice number and a source that are allowed come to the checks of the link. -/
theorem State.sendLap_sourced : s.sendLap t i slice a bar =
    if s.lapLinkFault i ≠ 0 then .fault (s.lapLinkFault i) s
    else if s.addrFault .thread a (s.sliceBytes i) ≠ 0 then .fault (s.addrFault .thread a (s.sliceBytes i)) s
    else if barFault bar ≠ 0 then .fault (barFault bar) s
    else if !(s.lapRoom i slice) then .wait .waitData s
    else .retire (s.lapEnqueue i
      { id := 0, slice := slice, t := t, pc := (s.regs t).pc, owner := (s.thread t).owner, bar := barAddr t bar,
        ep := s.barEpoch (barAddr t bar), srcs := [(selfDev a, s.sliceBytes i)] }) := by
  unfold State.sendLap
  rw [if_neg (by rw [armed]; decide), if_neg (not_or.mpr ⟨Nat.not_le.mpr inside, Bool.eq_false_iff.mp source⟩)]

end

/-! Runs of a wheel to send (R404, R405) -/

section
variable {s : State} {t i : Nat} {q : KvSlice}

theorem State.sendKv_unarmed (h : s.lapArmed i = false) : s.sendKv t i q = .fault 0x0801 s := if_pos (by rw [h]; rfl)

variable (armed : s.lapArmed i = true)
include armed

/-- R282: a run waits while the descriptor of its wheel lies in a held bank. -/
theorem State.sendKv_held (h : s.descHeld q.wheel = true) : s.sendKv t i q = .wait .waitData s :=
  (if_neg (by rw [armed]; decide)).trans (if_pos h)

variable (free : s.descHeld q.wheel = false)
include free

theorem State.sendKv_outside (h : s.lapSlices i ≤ q.slice) : s.sendKv t i q = .fault 0x0805 s :=
  (if_neg (by rw [armed]; decide)).trans ((if_neg (Bool.eq_false_iff.mp free)).trans (if_pos (.inl h)))

variable (inside : q.slice < s.lapSlices i) (filled : q.n ≠ 0) (fits : q.bytes (s.wheel q.wheel) = s.sliceBytes i)
variable (link : s.lapLinkFault i = 0)
include inside filled fits link

/-- R404: a run of the bytes of a slice on a link that is up comes to the checks of its wheel. -/
theorem State.sendKv_fits : s.sendKv t i q =
    if s.wheelFault q.wheel ≠ 0 then .fault (s.wheelFault q.wheel) s
    else if q.bad (s.wheel q.wheel) then .fault 0x0702 s
    else if barFault q.bar ≠ 0 then .fault (barFault q.bar) s
    else if !(s.lapRoom i q.slice) ∨ (q.walks s).any s.anyHeld then .wait .waitData s
    else .retire (s.joinRun t i q) := by
  have shape : ¬ (s.lapSlices i ≤ q.slice ∨ q.n = 0 ∨ ((s.wheelExists q.wheel && decide ((s.wheel q.wheel).state ≠ 0)) = true ∧
      q.bytes (s.wheel q.wheel) ≠ s.sliceBytes i)) :=
    not_or.mpr ⟨Nat.not_le.mpr inside, not_or.mpr ⟨filled, fun h => h.2 fits⟩⟩
  unfold State.sendKv
  dsimp only
  rw [if_neg (by rw [armed]; decide), if_neg (Bool.eq_false_iff.mp free), if_neg shape, if_neg (not_not_intro link)]

theorem State.sendKv_wheelFault (h : s.wheelFault q.wheel ≠ 0) : s.sendKv t i q = .fault (s.wheelFault q.wheel) s := by
  rw [State.sendKv_fits armed free inside filled fits link, if_pos h]

/-- R404, R405: a run that is allowed joins the sequencer, or waits for room or for the tables that it reads (R282). -/
theorem State.sendKv_allowed (sound : s.wheelFault q.wheel = 0) (good : q.bad (s.wheel q.wheel) = false) (hbar : barFault q.bar = 0) :
    s.sendKv t i q = if !(s.lapRoom i q.slice) ∨ (q.walks s).any s.anyHeld then .wait .waitData s else .retire (s.joinRun t i q) := by
  rw [State.sendKv_fits armed free inside filled fits link, if_neg (not_not_intro sound), if_neg (Bool.eq_false_iff.mp good),
    if_neg (not_not_intro hbar)]

end

/-- What the guard of a word leaves of the pages of a run. -/
theorem KvSlice.walks_pastGuard (q : KvSlice) (s : State) (t : Tid) (w : IWord) : q.walks (s.pastGuard t w) = q.walks s := by
  simp only [KvSlice.walks, State.pastGuard_wheel, State.pastGuard_runWalks]

/-- Settles O34: each instruction by the effect behind its guard, and that effect by its checks. -/
theorem lapInstructions : Obligations.LapInstructions := by
  intro t w s he th i r p g x stops posts
  have pUnarmed : s.lapArmed i = false → p.lapArmed i = false := fun h => by rw [State.pastGuard_lapArmed, h]
  have pArmed : s.lapArmed i = true → p.lapArmed i = true := fun h => by rw [State.pastGuard_lapArmed, h]
  have slices : p.lapSlices i = s.lapSlices i := s.pastGuard_lapSlices t w i
  have posting {j : Instr} {slice a bar : Nat} {discard : Bool}
      (hj : exec j s = .next ((p.postLap th i slice a bar discard).ended s t w)) : stops j slice ∧ posts j slice a bar discard := by
    refine ⟨⟨fun h => ?_, fun h outside => ?_⟩, fun h inside region good => ?_⟩
    · rw [hj, State.postLap_unarmed (pUnarmed h), Eff.ended_fault]
    · rw [hj, State.postLap_outside (pArmed h) (slices ▸ outside), Eff.ended_fault]
    · have pRegion : discard = false → lapRegionOk a (p.sliceBytes i) = true := by rwa [State.pastGuard_sliceBytes]
      have allowed := State.postLap_allowed (t := th) (pArmed h) (slices ▸ inside) pRegion good
      rw [State.pastGuard_lap] at allowed
      refine ⟨fun full => ?_, fun room => ?_⟩
      · rw [hj, allowed, if_pos full, Eff.ended_wait]
      · rw [hj, allowed, if_neg (Nat.not_le.mpr room), Eff.ended_retire]
        simp only [p, th, State.regs_pastGuard, TRegs.pc_past, State.pastGuard_owner, State.pastGuard_barEpoch]
        rfl
  refine ⟨fun hm hr => posting (exec_lapPost he hm hr), fun hm hr => posting (exec_lapPostDiscard he hm hr), fun hr => ?send,
    fun hr => ?kv⟩
  case send =>
    intro slice a bar n
    have hj := exec_lapSend he hr
    have bytes : p.sliceBytes i = n := s.pastGuard_sliceBytes t w i
    refine ⟨⟨fun h => ?_, fun h outside => ?_⟩, fun h _ bad => ?_, fun h inside source => ?_⟩
    · rw [hj, State.sendLap_unarmed (pUnarmed h), Eff.ended_fault]
    · rw [hj, State.sendLap_outside (pArmed h) (slices ▸ outside), Eff.ended_fault]
    · rw [hj, State.sendLap_badSource (pArmed h) (bytes ▸ bad), Eff.ended_fault]
    · have sourced := State.sendLap_sourced (bar := bar) (pArmed h) (slices ▸ inside) (bytes ▸ source)
      simp only [p, State.pastGuard_lapLinkFault, State.pastGuard_addrFault, State.pastGuard_lapRoom, State.pastGuard_sliceBytes] at sourced
      refine ⟨fun down => ?_, fun link reached good => ⟨fun full => ?_, fun room => ?_⟩⟩
      · rw [hj, sourced, if_pos down, Eff.ended_fault]
      all_goals rw [hj, sourced, if_neg (not_not_intro link), if_neg (not_not_intro reached), if_neg (not_not_intro good)]
      · rw [if_pos (by rw [full]; rfl), Eff.ended_wait]
      · rw [if_neg (by rw [room]; decide), Eff.ended_retire]
        simp only [p, th, State.regs_pastGuard, TRegs.pc_past, State.pastGuard_owner, State.pastGuard_barEpoch]
        rfl
  case kv =>
    intro sc slice wn bar n wh d walks
    let q := kvSlice r w
    have hj : exec (.lapSendKv t w) s = .next ((p.sendKv th i q).ended s t w) := exec_lapSendKv he hr
    refine ⟨fun h held => ?_, fun free => ?_⟩
    · rw [hj, State.sendKv_held (pArmed h) ((s.pastGuard_descHeld t w wn).trans held), Eff.ended_wait]
    have pFree : p.descHeld wn = false := (s.pastGuard_descHeld t w wn).trans free
    refine ⟨⟨fun h => ?_, fun h outside => ?_⟩, fun h inside filled fits link => ?_⟩
    · rw [hj, State.sendKv_unarmed (pUnarmed h), Eff.ended_fault]
    · rw [hj, State.sendKv_outside (pArmed h) pFree (slices ▸ outside), Eff.ended_fault]
    · have pFits : q.bytes (p.wheel wn) = p.sliceBytes i := by
        rw [State.pastGuard_wheel, State.pastGuard_sliceBytes]
        exact fits
      have pLink : p.lapLinkFault i = 0 := (s.pastGuard_lapLinkFault t w i).trans link
      have pWheel : p.wheelFault wn = s.wheelFault wn := s.pastGuard_wheelFault t w wn
      refine ⟨fun fault => ?_, fun sound good hbar => ?_⟩
      · rw [hj, State.sendKv_wheelFault (pArmed h) pFree (slices ▸ inside) filled pFits pLink (pWheel ▸ fault), Eff.ended_fault]
        exact congrArg (fun f => Host.Outcome.next (p.raise th f w.size)) pWheel
      have run : p.sendKv th i q = if !(s.lapRoom i slice) ∨ walks.any p.anyHeld then .wait .waitData p
          else .retire (p.joinRun th i q) := by
        have pGood : q.bad (p.wheel wn) = false := by rwa [State.pastGuard_wheel]
        rw [State.sendKv_allowed (pArmed h) pFree (slices ▸ inside) filled pFits pLink (pWheel.trans sound) pGood hbar,
          State.pastGuard_lapRoom, KvSlice.walks_pastGuard]
        rfl
      rw [hj, run]
      refine ⟨fun full => ?_, fun room rests => ?_⟩
      · rw [if_pos (.inl ((Bool.not_eq_true' _).mpr full)), Eff.ended_wait]
      · have rested : ¬ ((!s.lapRoom i slice) = true ∨ walks.any p.anyHeld = true) := by
          rintro (full | held)
          · exact Bool.eq_false_iff.mp ((Bool.not_eq_true' _).mp full) room
          · obtain ⟨x, hx, hheld⟩ := List.any_eq_true.mp held
            exact Bool.eq_false_iff.mp (rests x hx) ((s.pastGuard_anyHeld t w x).symm.trans hheld)
        rw [if_neg rested]
        simp only [Eff.ended_retire, State.joinRun, KvSlice.walks_pastGuard, State.pastGuard_wheel, State.regs_pastGuard, p, th,
          TRegs.pc_past, State.pastGuard_owner, State.pastGuard_barEpoch, State.pastGuard_rangesPoisoned]
        rfl

end Sys2Proof.Machine
end

section
/-! The events of the lap VCs and the bias tables (R391, R400, R402 to R405, R411, R412, R414). -/

namespace Sys2Proof.Machine

/-! Arming (R391) -/

/-- R391: the state in which a lap VC is armed, a geometry that has come compared and forgotten. -/
def State.lapKnown (s : State) (i : Nat) : State :=
  let armed := s.setFld (Fd.JOB_LAP_CFG_ARM i) 1
  match (s.lap i).geom with
  | some g => (armed.setLap i { s.lap i with geom := none }).geoCompare i g
  | none => armed.setLap i { s.lap i with geom := none }

theorem State.lapArm_fresh {s : State} {i : Nat} (h : s.lapArmed i = false) : s.lapArm i =
    match (s.lapKnown i).lapRing i with
    | none => s.lapKnown i
    | some r =>
      if r.next = (s.lapKnown i).moduleId then
        (s.lapKnown i).geoArrive i ((s.lapKnown i).fld (Fd.JOB_LAP_CFG_SLICES_M1 i), (s.lapKnown i).lapPages i)
      else if (s.lapKnown i).linkFault r.next 0 = 0 then (s.lapKnown i).sendPkt r.next 0 0x10 ((s.lapKnown i).geoBody i) .none
      else s.lapKnown i := by
  unfold State.lapArm
  rw [if_neg (Bool.eq_false_iff.mp h)]
  rfl

/-- A comparison of geometries leaves a lap VC armed or not as it is. -/
theorem State.lapArmed_geoCompare (s : State) (i : Nat) (g : Nat × Nat) : (s.geoCompare i g).lapArmed i = s.lapArmed i := by
  have ok : (Fd.JOB_LAP_CFG_ARM i).key ≠ (Fd.JOB_LAP_CFG_PEER_OK i).key := Fld.key_ne_of_lo rfl (show 0 ≠ 32 by decide)
  have mismatch : (Fd.JOB_LAP_CFG_ARM i).key ≠ (Fd.JOB_LAP_CFG_MISMATCH i).key := Fld.key_ne_of_lo rfl (show 0 ≠ 33 by decide)
  have apart : (Fd.JOB_LAP_CFG_ARM i).addr ≠ (Reg.HST_FLOG_PTR).addr := by
    show 0xD03000 + i * 8 ≠ 0x602000
    omega
  have same : (s.geoCompare i g).fld (Fd.JOB_LAP_CFG_ARM i) = s.fld (Fd.JOB_LAP_CFG_ARM i) := by
    unfold State.geoCompare
    split
    · exact s.fld_setFld_ne _ _ _ ok
    · exact (State.fld_logRec (show 0 < 64 by decide) apart _ _ _ _).trans
        ((State.fld_setFld_ne _ _ _ _ mismatch).trans (s.fld_setFld_ne _ _ _ ok))
  unfold State.lapArmed State.isSet
  rw [same]

theorem State.lapArmed_lapKnown (s : State) (i : Nat) : (s.lapKnown i).lapArmed i = true := by
  have armed : (s.setFld (Fd.JOB_LAP_CFG_ARM i) 1).lapArmed i = true := by
    unfold State.lapArmed State.isSet
    rw [State.fld_setFld_self]
    rfl
  unfold State.lapKnown
  dsimp only
  split
  · exact (State.lapArmed_geoCompare _ i _).trans armed
  · exact armed

section
variable {s : State} {i : Fin 2} (h : s.Hears 13)
include h

theorem exec_lapArm : exec (.lapArm i) s = .next (s.lapArm i.val) := congrArg Host.Outcome.next (State.hostWriteIn_hears h _)

theorem exec_lapDisarm : exec (.lapDisarm i) s = .next (s.lapDisarm i.val) :=
  congrArg Host.Outcome.next (State.hostWriteIn_hears h _)

variable (off : s.lapArmed i.val = false)
include off

theorem exec_lapArm_noRing (hr : (s.lapKnown i.val).lapRing i.val = none) : exec (.lapArm i) s = .next (s.lapKnown i.val) := by
  rw [exec_lapArm h, State.lapArm_fresh off, hr]

variable {r : Ring} (hr : (s.lapKnown i.val).lapRing i.val = some r)
include hr

/-- R391: a module sends its geometry to another one that is NEXT. -/
theorem exec_lapArm_sends (other : r.next ≠ (s.lapKnown i.val).moduleId) (up : (s.lapKnown i.val).linkFault r.next 0 = 0) :
    exec (.lapArm i) s = .next ((s.lapKnown i.val).sendPkt r.next 0 0x10 ((s.lapKnown i.val).geoBody i.val) .none) := by
  rw [exec_lapArm h, State.lapArm_fresh off, hr]
  dsimp only
  rw [if_neg other, if_pos up]

/-- R391: a module on a ring of one compares its own geometry. -/
theorem exec_lapArm_alone (own : r.next = (s.lapKnown i.val).moduleId) :
    exec (.lapArm i) s = .next ((s.lapKnown i.val).geoCompare i.val
      ((s.lapKnown i.val).fld (Fd.JOB_LAP_CFG_SLICES_M1 i.val), (s.lapKnown i.val).lapPages i.val)) := by
  rw [exec_lapArm h, State.lapArm_fresh off, hr]
  dsimp only
  rw [if_pos own, State.geoArrive, if_pos (s.lapArmed_lapKnown i.val)]

end

/-! The sequencer (R402 to R405) -/

/-- R402 to R405, R563: what a sequencer does of the slice that is due. -/
def State.sendDue (s : State) (v : Nat) (q : LapSend) : State :=
  if q.fault ≠ 0 then s.lapStop v q (s.lapNext v) q.fault
  else if s.lapPoisoned q then s.lapStop v q (s.lapNext v) 0x0511
  else match s.lapNext v with
    | none => s.lapStop v q none 0x0602
    | some d =>
      let f := if d = s.moduleId then 0 else s.linkFault d (2 + v)
      if f ≠ 0 then s.lapStop v q (some d) f
      else if !(s.lapSettled q) then s
      else if !q.asked ∧ q.srcs.any (fun r => !(s.here r.1)) then s.lapAsk v q
      else if q.reads ≠ 0 ∨ !(s.engineRoom (tileOf q.t) (s.sliceBytes v / 256)) then s
      else if d = s.moduleId ∧ (s.lapTarget v s.moduleId (s.lap v).loop).isNone then s
      else s.lapLeave v q d

theorem exec_lapSliceSend_due {s : State} {i : Fin 2} {q : LapSend}
    (hq : (s.lap i.val).sends.find? (fun q => !q.sent && q.slice = (s.lap i.val).cur) = some q) (up : s.computeUp = true) :
    exec (.lapSliceSend i) s = .next (s.sendDue i.val q) := by
  show execLapSliceSend i s = _
  unfold execLapSliceSend State.sendDue
  dsimp only
  rw [hq]
  dsimp only
  rw [if_neg (by rw [up]; decide)]
  cases s.lapNext i.val <;> simp only [apply_ite Host.Outcome.next]

section
variable {s : State} {v : Nat} {q : LapSend}

theorem State.sendDue_fault (h : q.fault ≠ 0) : s.sendDue v q = s.lapStop v q (s.lapNext v) q.fault := if_pos h

variable (sound : q.fault = 0)
include sound

/-- R405: a slice that reads poison stops the sequencer. -/
theorem State.sendDue_poisoned (h : s.lapPoisoned q = true) : s.sendDue v q = s.lapStop v q (s.lapNext v) 0x0511 :=
  (if_neg (not_not_intro sound)).trans (if_pos h)

variable (clean : s.lapPoisoned q = false) {d : Nat} (hd : s.lapNext v = some d)
include clean hd

/-- R328, R405: a slice whose NEXT no link reaches stops the sequencer. -/
theorem State.sendDue_unreached (other : d ≠ s.moduleId) (h : s.linkFault d (2 + v) ≠ 0) :
    s.sendDue v q = s.lapStop v q (some d) (s.linkFault d (2 + v)) := by
  unfold State.sendDue
  rw [if_neg (not_not_intro sound), if_neg (Bool.eq_false_iff.mp clean), hd]
  dsimp only
  rw [if_neg other, if_pos h]

variable (reached : d ≠ s.moduleId → s.linkFault d (2 + v) = 0) (settled : s.lapSettled q = true)
include reached settled

/-- R403: a slice whose NEXT is reached and whose sources rest comes to its peers, its engine and its posting. -/
theorem State.sendDue_settled : s.sendDue v q =
    if !q.asked ∧ q.srcs.any (fun r => !(s.here r.1)) then s.lapAsk v q
    else if q.reads ≠ 0 ∨ !(s.engineRoom (tileOf q.t) (s.sliceBytes v / 256)) then s
    else if d = s.moduleId ∧ (s.lapTarget v s.moduleId (s.lap v).loop).isNone then s
    else s.lapLeave v q d := by
  have link : (if d = s.moduleId then 0 else s.linkFault d (2 + v)) = 0 := by
    split
    · rfl
    · next other => exact reached other
  unfold State.sendDue
  rw [if_neg (not_not_intro sound), if_neg (Bool.eq_false_iff.mp clean), hd]
  dsimp only
  rw [if_neg (not_not_intro link), if_neg (by rw [settled]; decide)]

/-- R260: a slice asks its peers once for the bytes that lie with them. -/
theorem State.sendDue_asks (fresh : q.asked = false) (away : ∃ a ∈ q.srcs, s.here a.1 = false) : s.sendDue v q = s.lapAsk v q := by
  obtain ⟨a, ha, hfar⟩ := away
  have asks : (!q.asked) = true ∧ q.srcs.any (fun r => !(s.here r.1)) = true :=
    ⟨by rw [fresh]; rfl, List.any_eq_true.mpr ⟨a, ha, by rw [hfar]; rfl⟩⟩
  rw [State.sendDue_settled sound clean hd reached settled, if_pos asks]

/-- R403, R405: a slice that nothing holds back leaves. -/
theorem State.sendDue_leaves (got : q.reads = 0) (whole : q.asked = true ∨ ∀ a ∈ q.srcs, s.here a.1 = true)
    (room : s.engineRoom (tileOf q.t) (s.sliceBytes v / 256) = true)
    (posted : d = s.moduleId → (s.lapTarget v s.moduleId (s.lap v).loop).isSome = true) : s.sendDue v q = s.lapLeave v q d := by
  have known : ¬ ((!q.asked) = true ∧ q.srcs.any (fun r => !(s.here r.1)) = true) := by
    rintro ⟨fresh, away⟩
    obtain ⟨a, ha, hfar⟩ := List.any_eq_true.mp away
    rcases whole with asked | here
    · rw [asked] at fresh
      exact absurd fresh (by decide)
    · rw [here a ha] at hfar
      exact absurd hfar (by decide)
  have ready : ¬ (q.reads ≠ 0 ∨ (!(s.engineRoom (tileOf q.t) (s.sliceBytes v / 256))) = true) := by
    rw [room]
    exact not_or.mpr ⟨not_not_intro got, by decide⟩
  have taken : ¬ (d = s.moduleId ∧ (s.lapTarget v s.moduleId (s.lap v).loop).isNone = true) := by
    rintro ⟨own, absent⟩
    rw [Option.isNone_iff_eq_none.mp absent] at posted
    exact absurd (posted own) (by decide)
  rw [State.sendDue_settled sound clean hd reached settled, if_neg known, if_neg ready, if_neg taken]

end

/-! The bias tables: TBL.LOAD and TBL.FENCE (R411, R412, R414) -/

section
variable (s : State) (t : Tid) (w : IWord)

@[simp] theorem State.pastGuard_tile (k : Nat) : (s.pastGuard t w).tile k = s.tile k :=
  State.pastGuard_leaves (State.tile · k) (fun _ => rfl) w

/-- R414: a fence that waits behind its guard is pending, and changes its thread in that alone. -/
theorem Eff.ended_fence : (Eff.wait .waitSync ((s.pastGuard t w).setThread t.code
    { (s.pastGuard t w).thread t.code with fence := true })).ended s t w =
    s.setThread t.code { s.thread t.code with st := .waitSync, fence := true } := by
  unfold Eff.ended Eff.unguard Eff.finish State.waitIn State.unguard State.pastGuard State.modRegs TRegs.past
  by_cases h : w.pred = 0#5 <;> simp [h, State.regs]

end

/-- TBL.LOAD's own effect behind the guard. -/
def State.queueLoad (s : State) (t src h0 n : Nat) : Eff :=
  if 64 < h0 + n then .fault 0x0802 s
  else if n ≠ 0 ∧ (src % 16 ≠ 0 ∨ 2 ^ 28 ≤ src) then .fault 0x0104 s
  else if n ≠ 0 ∧ !(inVatOrOwn (coreIdx (coreOf t)) src (n * 512)) then .fault 0x0103 s
  else .retire (s.setTile (tileOf t) { s.tile (tileOf t) with
    loads := (s.tile (tileOf t)).loads ++
      [{ t := t, pc := (s.regs t).pc, owner := (s.thread t).owner, src := src, h0 := h0, n := n }] })

/-- R411: a load of heads that exist, from a source that its thread may read, joins the loads of its tile. -/
theorem State.queueLoad_allowed {s : State} {t src h0 n : Nat} (heads : h0 + n ≤ 64)
    (aligned : n ≠ 0 → src % 16 = 0 ∧ src < 2 ^ 28) (own : n ≠ 0 → inVatOrOwn (coreIdx (coreOf t)) src (n * 512) = true) :
    s.queueLoad t src h0 n = .retire (s.setTile (tileOf t) { s.tile (tileOf t) with
      loads := (s.tile (tileOf t)).loads ++
        [{ t := t, pc := (s.regs t).pc, owner := (s.thread t).owner, src := src, h0 := h0, n := n }] }) := by
  have placed : ¬ (n ≠ 0 ∧ (src % 16 ≠ 0 ∨ 2 ^ 28 ≤ src)) := by
    rintro ⟨filled, bad⟩
    have := aligned filled
    omega
  have lies : ¬ (n ≠ 0 ∧ (!(inVatOrOwn (coreIdx (coreOf t)) src (n * 512))) = true) := by
    rintro ⟨filled, bad⟩
    rw [own filled] at bad
    exact absurd bad (by decide)
  unfold State.queueLoad
  rw [if_neg (Nat.not_lt.mpr heads), if_neg placed, if_neg lies]

section
variable {s : State} {t : Tid} {w : IWord} (he : s.Enabled t w)
include he

theorem exec_tblLoad (hr : s.Ready t w (({ a := .g, b := .g, c := .g } : Form).ok w) true
    [gR w.a.toNat, gR w.b.toNat, gR w.c.toNat]) :
    let g (k : Nat) : Nat := ((s.regs t.code).getG k).toNat
    exec (.tblLoad t w) s =
      .next (((s.pastGuard t w).queueLoad t.code (g w.a.toNat) (g w.b.toNat) (g w.c.toNat)).ended s t w) := by
  have past : ((s.pastGuard t w).thread t.code).regs = (s.regs t.code).past w := s.regs_pastGuard t w
  refine congrArg Host.Outcome.next ((State.issue_enabled hr rfl he _).trans ?_)
  simp only [past, TRegs.getG_past, State.queueLoad, State.regs_pastGuard]
  rfl

theorem exec_tblFence_free (hr : s.Ready t w (({} : Form).ok w) true []) (h : (s.pastGuard t w).tblFree (tileOf t.code) = true) :
    let u := (s.pastGuard t w).tblSwitch (tileOf t.code)
    exec (.tblFence t w) s = .next ((u.setThread t.code { u.thread t.code with fence := false }).advance t w) := by
  refine congrArg Host.Outcome.next (State.issue_retires hr rfl he ?_)
  exact if_pos h

theorem exec_tblFence_pending (hr : s.Ready t w (({} : Form).ok w) true [])
    (h : (s.pastGuard t w).tblFree (tileOf t.code) = false) :
    exec (.tblFence t w) s = .next (s.setThread t.code { s.thread t.code with st := .waitSync, fence := true }) := by
  refine congrArg Host.Outcome.next ((State.issue_enabled hr rfl he _).trans (Eq.trans ?_ (Eff.ended_fence s t w)))
  exact congrArg (fun e : Eff => e.ended s t w) (if_neg (Bool.eq_false_iff.mp h))

end

/-! The heads of a load (R411) -/

/-- Entries b to b + n - 1 of a table take the values of f, the rest stands; an entry that is zero is not listed. -/
def putHeads (f : Nat → Nat) (b n : Nat) (m : SMap Nat) : SMap Nat :=
  (List.range n).foldl (fun m k => if f k = 0 then SMap.erase m (b + k) else m.set (b + k) (f k)) m

theorem SMap.getD_putEntry (m : SMap Nat) (k v e : Nat) :
    (if v = 0 then SMap.erase m k else m.set k v).getD e 0 = if e = k then v else m.getD e 0 := by
  by_cases he : e = k
  · rw [if_pos he, he]
    split
    · next hv => rw [SMap.getD_erase_self, hv]
    · exact SMap.getD_set_self m k v 0
  · rw [if_neg he]
    split
    · exact SMap.getD_erase_ne m k e 0 he
    · exact SMap.getD_set_ne m k e v 0 he

theorem getD_putHeads (f : Nat → Nat) (b n e : Nat) (m : SMap Nat) :
    (putHeads f b n m).getD e 0 = if b ≤ e ∧ e < b + n then f (e - b) else m.getD e 0 := by
  induction n with
  | zero => exact (if_neg (by omega)).symm
  | succ n ih =>
    have last : putHeads f b (n + 1) m =
        if f n = 0 then SMap.erase (putHeads f b n m) (b + n) else (putHeads f b n m).set (b + n) (f n) := by
      simp only [putHeads, List.range_succ, List.foldl_append, List.foldl_cons, List.foldl_nil]
    rw [last, SMap.getD_putEntry, ih]
    by_cases he : e = b + n
    · rw [if_pos he, if_pos (by omega), he, Nat.add_sub_cancel_left]
    · rw [if_neg he]
      by_cases listed : b ≤ e ∧ e < b + n
      · rw [if_pos listed, if_pos (by omega)]
      · rw [if_neg listed, if_neg (by omega)]

/-! The events of the tables (R411, R412) -/

section
variable {s : State} {tile : Fin 36} {l : TblLoad} {rest : List TblLoad}
variable (hl : (s.tile tile.val).loads = l :: rest)
include hl

/-- R101, R411: a load waits while a line of its source glides. -/
theorem exec_tblLoadDone_glides
    (h : ∃ x ∈ linesOf (tileBase tile.val + l.src) (l.n * 512), (SMap.find s.ltags x).isSome = true) :
    exec (.tblLoadDone tile) s = .next s := by
  show execTblLoadDone tile s = _
  unfold execTblLoadDone
  dsimp only
  rw [hl]
  exact if_pos (by rw [List.any_eq_true.mpr h, Bool.or_true])

variable (up : s.computeUp = true)
variable (rests : ¬ ∃ x ∈ linesOf (tileBase tile.val + l.src) (l.n * 512), (SMap.find s.ltags x).isSome = true)
include up rests

/-- R411: the oldest load of a tile, whose source rests, is served, or fails its thread where the source is poisoned. -/
theorem exec_tblLoadDone_served :
    let q := s.tile tile.val
    let a := tileBase tile.val + l.src
    exec (.tblLoadDone tile) s =
      if s.poisoned a (l.n * 512) then .next ((s.setTile tile.val { q with loads := rest }).failLater l.t 0x0510 l.pc l.owner)
      else .next ((s.setTile tile.val { q with
        loads := rest, copied := true
        shadow := putHeads (fun k => s.readNat (a + 2 * k) 2) (l.h0 * 256) (l.n * 256) (if q.copied then q.shadow else q.front) }).setFld
          (Fd.TILE_ATT_TBL_SHADOW_READY tile.val) 1) := by
  intro q a
  have still : ¬ ((!(s.computeUp) || (linesOf a (l.n * 512)).any (fun k => (SMap.find s.ltags k).isSome)) = true) := by
    rw [up]
    exact fun glides => rests (List.any_eq_true.mp glides)
  show execTblLoadDone tile s = _
  unfold execTblLoadDone
  dsimp only
  rw [hl]
  exact if_neg still

end

theorem exec_tblGenSwitch_pending {s : State} {tile : Fin 36} {t : Nat} {x : Thread}
    (ht : s.threads.find? (fun e => decide (tileOf e.1 = tile.val) && e.2.fence) = some (t, x)) (free : s.tblFree tile.val = true)
    (up : s.computeUp = true) : exec (.tblGenSwitch tile) s =
      .next (((s.tblSwitch tile.val).setThread t { x with fence := false }).goTo t (x.regs.pc + 8)) := by
  show execTblGenSwitch tile s = _
  unfold execTblGenSwitch
  rw [ht]
  exact if_pos ⟨free, up⟩

/-! The switch (R412) -/

section
variable {s : State} {k : Nat}

theorem State.tblSwitch_idle (h : s.isSet (Fd.TILE_ATT_TBL_SHADOW_READY k) = false) : s.tblSwitch k = s :=
  if_neg (Bool.eq_false_iff.mp h)

variable (h : s.isSet (Fd.TILE_ATT_TBL_SHADOW_READY k) = true)
include h

theorem State.tblSwitch_ready : s.tblSwitch k =
    ((s.setTile k { s.tile k with front := (s.tile k).shadow, shadow := (s.tile k).front, copied := false }).incFld
      (Fd.TILE_ATT_TBL_GEN k)).setFld (Fd.TILE_ATT_TBL_SHADOW_READY k) 0 := if_pos h

theorem State.tile_tblSwitch : (s.tblSwitch k).tile k =
    { s.tile k with front := (s.tile k).shadow, shadow := (s.tile k).front, copied := false } := by
  rw [State.tblSwitch_ready h]
  exact SMap.getD_set_self _ _ _ _

theorem State.fld_gen_tblSwitch : (s.tblSwitch k).fld (Fd.TILE_ATT_TBL_GEN k) =
    (s.fld (Fd.TILE_ATT_TBL_GEN k) + 1) % 2 ^ (Fd.TILE_ATT_TBL_GEN k).len := by
  have apart : (Fd.TILE_ATT_TBL_GEN k).key ≠ (Fd.TILE_ATT_TBL_SHADOW_READY k).key := Fld.key_ne_of_lo rfl (show 0 ≠ 16 by decide)
  rw [State.tblSwitch_ready h, State.fld_setFld_ne _ _ _ _ apart, State.incFld, State.fld_setFld_self, State.setTile_fld]

theorem State.isSet_ready_tblSwitch : (s.tblSwitch k).isSet (Fd.TILE_ATT_TBL_SHADOW_READY k) = false := by
  rw [State.tblSwitch_ready h, State.isSet, State.fld_setFld_self]
  rfl

end

/-- Settles O35: each event and each instruction by its own lemma, one for each case. -/
theorem lapsAndTables : Obligations.LapsAndTables := by
  refine ⟨fun i s h => ?arming, fun i s q => ?sequencer, fun t w s he => ?tables, fun tile s => ?events⟩
  case arming =>
    intro v armed known
    refine ⟨fun on => ?_, exec_lapArm_noRing h, fun r off ring => exec_lapArm_sends h off ring,
      fun r off ring => exec_lapArm_alone h off ring, exec_lapDisarm h⟩
    rw [exec_lapArm h, State.lapArm, if_pos on]
  case sequencer =>
    intro v x due up
    rw [exec_lapSliceSend_due due up]
    refine ⟨fun fault => congrArg _ (State.sendDue_fault fault), fun sound poison => congrArg _ (State.sendDue_poisoned sound poison),
      fun d sound clean hd other down => congrArg _ (State.sendDue_unreached sound clean hd other down),
      fun d sound clean hd reached settled got =>
        ⟨fun fresh away => congrArg _ (State.sendDue_asks sound clean hd reached settled fresh away),
          fun whole room posted => congrArg _ (State.sendDue_leaves sound clean hd reached settled got whole room posted)⟩⟩
  case tables =>
    intro th tile r p
    refine ⟨fun hr => ?load, fun hr => ⟨exec_tblFence_free he hr, exec_tblFence_pending he hr⟩⟩
    case load =>
      intro src h0 n q
      refine ⟨fun many => ?_, fun heads aligned own => ?_⟩
      · exact (exec_tblLoad he hr).trans (congrArg (fun e : Eff => Host.Outcome.next (e.ended s t w)) (if_pos many))
      · rw [exec_tblLoad he hr, State.queueLoad_allowed heads aligned own, Eff.ended_retire]
        simp only [p, th, q, State.regs_pastGuard, TRegs.pc_past, State.pastGuard_owner, State.pastGuard_tile]
        rfl
  case events =>
    intro k q
    refine ⟨fun l rest hl up => ?served, fun t x ht free up => exec_tblGenSwitch_pending ht free up,
      fun h => ⟨State.tile_tblSwitch h, State.fld_gen_tblSwitch h, State.isSet_ready_tblSwitch h⟩, State.tblSwitch_idle⟩
    case served =>
      intro a u glides
      refine ⟨exec_tblLoadDone_glides hl, fun rests => ?_⟩
      rw [exec_tblLoadDone_served hl up rests]
      refine ⟨fun bad => if_pos bad, fun clean => ⟨_, if_neg (Bool.eq_false_iff.mp clean), fun e => ?_⟩⟩
      rw [getD_putHeads, ← Nat.add_mul]

end Sys2Proof.Machine
end

section
/-! The exact sums of the relay: what words on a grid add up to, and what a NaN and a copy that comes second do (R429, R430, R450). -/

namespace Sys2Proof.Machine

/-! Two's complement of a number in the range (R429) -/

theorem signed_toTwos {n : Int} (h : n.natAbs < 2 ^ 63) : signed 64 (toTwos 64 n) = n := by
  unfold signed toTwos
  split <;> omega

theorem toTwos_ne_bfxNan {n : Int} (h : n.natAbs < 2 ^ 63) : toTwos 64 n ≠ bfxNan := by
  unfold toTwos bfxNan
  omega

/-! One addition (R430) -/

/-- R430: two words whose sum stays in the range add exactly. -/
theorem bfxAdd_of_lt {a b : Nat} (ha : a ≠ bfxNan) (hb : b ≠ bfxNan) (h : (signed 64 a + signed 64 b).natAbs < 2 ^ 63) :
    bfxAdd a b = (toTwos 64 (signed 64 a + signed 64 b), false) := by
  have inside : ¬ ((2 ^ 63 - 1 : Int) < signed 64 a + signed 64 b ∨ signed 64 a + signed 64 b < -(2 ^ 63 - 1 : Int)) := by omega
  unfold bfxAdd
  rw [if_neg (not_or.mpr ⟨ha, hb⟩)]
  exact if_neg inside

theorem bfxAdd_nan_left (b : Nat) : (bfxAdd bfxNan b).1 = bfxNan := by
  unfold bfxAdd
  rw [if_pos (.inl rfl)]

theorem bfxAdd_nan_right (a : Nat) : (bfxAdd a bfxNan).1 = bfxNan := by
  unfold bfxAdd
  rw [if_pos (.inr rfl)]

/-! A list of words (R430) -/

/-- R430: the words of a list added one after another to a word. -/
def bfxSum (a : Nat) (ws : List Nat) : Nat := ws.foldl (fun a x => (bfxAdd a x).1) a

/-- The numbers that words stand for, added up. -/
def exactSum (ws : List Nat) : Int := (ws.map (signed 64)).sum

/-- The magnitudes of words, added up. -/
def magnitudes (ws : List Nat) : Nat := (ws.map (fun x => (signed 64 x).natAbs)).sum

theorem exactSum_cons (x : Nat) (ws : List Nat) : exactSum (x :: ws) = signed 64 x + exactSum ws := List.sum_cons

theorem magnitudes_cons (x : Nat) (ws : List Nat) : magnitudes (x :: ws) = (signed 64 x).natAbs + magnitudes ws := List.sum_cons

/-- The magnitude of a sum is at most the sum of the magnitudes. -/
theorem natAbs_exactSum_le (ws : List Nat) : (exactSum ws).natAbs ≤ magnitudes ws := by
  induction ws with
  | nil => exact Nat.le_refl 0
  | cons x ws ih =>
    rw [exactSum_cons, magnitudes_cons]
    omega

theorem magnitudes_append (us vs : List Nat) : magnitudes (us ++ vs) = magnitudes us + magnitudes vs := by
  unfold magnitudes
  rw [List.map_append, List.sum_append]

/-- R430: while the magnitudes stay below 2^63, words added to a number give the exact sum. -/
theorem bfxSum_toTwos (ws : List Nat) (hws : ∀ x ∈ ws, x ≠ bfxNan) (n : Int) (h : n.natAbs + magnitudes ws < 2 ^ 63) :
    bfxSum (toTwos 64 n) ws = toTwos 64 (n + exactSum ws) := by
  induction ws generalizing n with
  | nil => exact congrArg (toTwos 64) (Int.add_zero n).symm
  | cons x ws ih =>
    rw [magnitudes_cons] at h
    have word : signed 64 (toTwos 64 n) = n := signed_toTwos (by omega)
    have step : bfxAdd (toTwos 64 n) x = (toTwos 64 (n + signed 64 x), false) := by
      rw [bfxAdd_of_lt (toTwos_ne_bfxNan (by omega)) (hws x List.mem_cons_self) (by omega), word]
    calc bfxSum (toTwos 64 n) (x :: ws)
      _ = bfxSum (toTwos 64 (n + signed 64 x)) ws := congrArg (fun r : Nat × Bool => bfxSum r.1 ws) step
      _ = toTwos 64 (n + signed 64 x + exactSum ws) := ih (fun y hy => hws y (List.mem_cons_of_mem x hy)) _ (by omega)
      _ = toTwos 64 (n + exactSum (x :: ws)) := by rw [exactSum_cons, Int.add_assoc]

section
variable {vs : List Nat} (hvs : ∀ x ∈ vs, x ≠ bfxNan) (h : magnitudes vs < 2 ^ 63)
include hvs h

/-- R430: the sum of words from zero is exact. -/
theorem bfxSum_zero : bfxSum 0 vs = toTwos 64 (exactSum vs) := by
  have sum := bfxSum_toTwos vs hvs 0 (by omega)
  rwa [Int.zero_add] at sum

/-- R430: no addition on the way leaves the range. -/
theorem bfxAdd_take_inside {k : Nat} (hk : k < vs.length) : (bfxAdd (bfxSum 0 (vs.take k)) (vs.getD k 0)).2 = false := by
  have split : magnitudes vs = magnitudes (vs.take k) + ((signed 64 vs[k]).natAbs + magnitudes (vs.drop (k + 1))) := by
    rw [← magnitudes_cons, ← List.drop_eq_getElem_cons hk, ← magnitudes_append, List.take_append_drop]
  have bound : (exactSum (vs.take k)).natAbs ≤ magnitudes (vs.take k) := natAbs_exactSum_le _
  have word : signed 64 (toTwos 64 (exactSum (vs.take k))) = exactSum (vs.take k) := signed_toTwos (by omega)
  rw [bfxSum_zero (fun x hx => hvs x (List.mem_of_mem_take hx)) (by omega), List.getD_eq_getElem vs 0 hk,
    bfxAdd_of_lt (toTwos_ne_bfxNan (by omega)) (hvs _ (List.getElem_mem hk)) (by omega)]

end

/-! NaN sticks (R430) -/

theorem bfxSum_nan (ws : List Nat) : bfxSum bfxNan ws = bfxNan := by
  induction ws with
  | nil => rfl
  | cons x ws ih => exact (congrArg (bfxSum · ws) (bfxAdd_nan_left x)).trans ih

theorem bfxSum_of_mem_nan {ws : List Nat} (h : bfxNan ∈ ws) (a : Nat) : bfxSum a ws = bfxNan := by
  induction ws generalizing a with
  | nil => exact absurd h List.not_mem_nil
  | cons x ws ih =>
    rcases List.mem_cons.mp h with rfl | later
    · exact (congrArg (bfxSum · ws) (bfxAdd_nan_right a)).trans (bfxSum_nan ws)
    · exact ih later (bfxAdd a x).1

/-! Quantisation (R429) -/

/-- R429: a quantised word is the NaN or stands for a number in the range. -/
theorem relQuant_range (e : Int) (code : Nat) :
    (relQuant e code).1 = bfxNan ∨ (signed 64 (relQuant e code).1).natAbs ≤ 2 ^ 63 - 1 := by
  unfold relQuant
  split
  · exact .inl rfl
  · next n _ =>
    split
    · exact .inl rfl
    · have inside : n.natAbs < 2 ^ 63 := by omega
      right
      rw [signed_toTwos inside]
      omega

/-! A copy that comes second (R450) -/

theorem State.compareTwin_unkept {s : State} {h slot b : Nat} (hk : SMap.find (s.relay h).kept (slot * 2 ^ 20 + b) = none)
    (codes : List Nat) : s.compareTwin h slot b codes = s := by
  unfold State.compareTwin
  dsimp only
  rw [hk]

theorem State.contribute_accepted {s : State} {h slot b : Nat} (ha : s.accepted h slot b = true) (twin : Bool) (codes : List Nat) :
    s.contribute h slot twin b codes = s.compareTwin h slot b codes := if_pos ha

/-- Settles O38: the sum of a list by induction over its words, in the order in which they come. -/
theorem relaySums : Obligations.RelaySums := by
  refine ⟨fun ws vs hws below perm => ?sums, fun ws a nan => bfxSum_of_mem_nan nan a, relQuant_range,
    fun s h slot b twin codes again unkept => ?second⟩
  case sums =>
    have words : ∀ x ∈ vs, x ≠ bfxNan := fun x hx => (hws x (perm.mem_iff.mpr hx)).2
    have inside : magnitudes vs < 2 ^ 63 := lt_of_eq_of_lt (perm.map (fun x => (signed 64 x).natAbs)).sum_eq.symm below
    have same : exactSum vs = exactSum ws := (perm.map (signed 64)).sum_eq.symm
    exact ⟨(bfxSum_zero words inside).trans (congrArg (toTwos 64) same), fun k hk => bfxAdd_take_inside words inside hk⟩
  case second => rw [State.contribute_accepted again, State.compareTwin_unkept unkept]

end Sys2Proof.Machine
end

section
/-! The relay's instructions: the arming of an entry, offers, and the posting of its results (R436, R438, R439, R454). -/

namespace Sys2Proof.Machine

/-! A change of a thread leaves the checks of an arm (R454) -/

section
variable (s : State) (t : Nat) (x : Thread)

theorem State.setThread_areaOk (a n al : Nat) : (s.setThread t x).areaOk a n al = s.areaOk a n al := rfl
theorem State.setThread_relTwice (h : Nat) : (s.setThread t x).relTwice h = s.relTwice h := rfl
theorem State.setThread_readMap (h : Nat) : (s.setThread t x).readMap h = s.readMap h := rfl
theorem State.setThread_ring (k : Nat) : (s.setThread t x).ring k = s.ring k := rfl
theorem State.setThread_hosted (m : List Nat) : (s.setThread t x).hosted m = s.hosted m := rfl

theorem State.setThread_armOk (h : Nat) : (s.setThread t x).armOk h = s.armOk h := by
  unfold State.armOk
  simp only [State.setThread_areaOk, State.setThread_relTwice, State.setThread_readMap, State.setThread_ring, State.setThread_hosted]
  rfl

end

/-! What the guard of a word leaves of an entry -/

section
variable (s : State) (t : Tid) (w : IWord) (h : Nat)

@[simp] theorem State.pastGuard_relay : (s.pastGuard t w).relay h = s.relay h :=
  State.pastGuard_leaves (State.relay · h) (fun _ => rfl) w

@[simp] theorem State.pastGuard_relState : (s.pastGuard t w).relState h = s.relState h :=
  State.pastGuard_leaves (State.relState · h) (fun _ => rfl) w

theorem State.pastGuard_slotsPoisoned :
    (s.pastGuard t w).poisoned ((s.pastGuard t w).fld (Fd.REL_RED_SLOTS_SLOT_MAP h)) (8 * (s.pastGuard t w).relK h) =
      s.poisoned (s.fld (Fd.REL_RED_SLOTS_SLOT_MAP h)) (8 * s.relK h) :=
  State.pastGuard_leaves (fun s => s.poisoned (s.fld (Fd.REL_RED_SLOTS_SLOT_MAP h)) (8 * s.relK h)) (fun _ => rfl) w

@[simp] theorem State.pastGuard_armOk : (s.pastGuard t w).armOk h = s.armOk h :=
  State.pastGuard_leaves (State.armOk · h) (fun x => s.setThread_armOk t.code x h) w

@[simp] theorem State.pastGuard_offerBad (k slot b0 nb a : Nat) :
    (s.pastGuard t w).offerBad k h slot b0 nb a = s.offerBad k h slot b0 nb a :=
  State.pastGuard_leaves (State.offerBad · k h slot b0 nb a) (fun _ => rfl) w

@[simp] theorem State.pastGuard_relBytes (bs : List Nat) : (s.pastGuard t w).relBytes h bs = s.relBytes h bs :=
  State.pastGuard_leaves (State.relBytes · h bs) (fun _ => rfl) w

@[simp] theorem State.pastGuard_due : (s.pastGuard t w).due h = s.due h :=
  State.pastGuard_leaves (State.due · h) (fun _ => rfl) w

@[simp] theorem State.pastGuard_moduleId : (s.pastGuard t w).moduleId = s.moduleId :=
  State.pastGuard_leaves State.moduleId (fun _ => rfl) w

@[simp] theorem State.pastGuard_isSet (f : Fld) : (s.pastGuard t w).isSet f = s.isSet f :=
  State.pastGuard_leaves (State.isSet · f) (fun _ => rfl) w

end

/-! REL.ARM (R436, R454) -/

/-- REL.ARM's own effect behind the guard. -/
def State.armRel (s : State) (t h : Nat) : Eff :=
  if s.relState h = 0 ∨ s.relState h = 2 then .fault 0x0901 s
  else if s.poisoned (s.fld (Fd.REL_RED_SLOTS_SLOT_MAP h)) (8 * s.relK h) then .fault 0x0510 s
  else if !(s.armOk h) then .fault 0x0906 s
  else .retire (s.armEntry h (s.thread t).owner)

section
variable {s : State} {t h : Nat}

theorem State.armRel_busy (st : s.relState h = 0 ∨ s.relState h = 2) : s.armRel t h = .fault 0x0901 s := if_pos st

variable (free : s.relState h ≠ 0) (idle : s.relState h ≠ 2)
include free idle

/-- R285: a slot map in a poisoned line is not read. -/
theorem State.armRel_lost (lost : s.poisoned (s.fld (Fd.REL_RED_SLOTS_SLOT_MAP h)) (8 * s.relK h) = true) :
    s.armRel t h = .fault 0x0510 s :=
  (if_neg (not_or.mpr ⟨free, idle⟩)).trans (if_pos lost)

variable (clean : s.poisoned (s.fld (Fd.REL_RED_SLOTS_SLOT_MAP h)) (8 * s.relK h) = false)
include clean

/-- R454: an entry in a state that may be armed, with a slot map that can be read, comes to the checks. -/
theorem State.armRel_checked : s.armRel t h = if s.armOk h then .retire (s.armEntry h (s.thread t).owner) else .fault 0x0906 s := by
  unfold State.armRel
  rw [if_neg (not_or.mpr ⟨free, idle⟩), if_neg (Bool.eq_false_iff.mp clean)]
  cases s.armOk h <;> rfl

end

/-! REL.SEND (R438) -/

/-- R438: the offer that a thread makes of nb blocks of a slot, from block b0 on. -/
def State.newOffer (s : State) (t h slot b0 nb a bar : Nat) : Offer :=
  { id := (s.relay h).nextId, t := t, pc := (s.regs t).pc, owner := (s.thread t).owner, slot := slot,
    twin := slotPrimary ((s.relay h).map.getD slot 0) ≠ s.moduleId, b0 := b0, next := b0,
    pre := if s.isSet (Fd.REL_RED_CTL_EXP_SRC h) then b0 else b0 + nb, stop := b0 + nb, addr := a,
    bytes := s.relBytes h ((List.range nb).map (b0 + ·)), bar := barAddr t bar, ep := s.barEpoch (barAddr t bar),
    host := slotHost ((s.relay h).map.getD slot 0) }

/-- R438: an offer of some blocks joins those of its entry. -/
def State.joinOffer (s : State) (h nb : Nat) (o : Offer) : State :=
  let x := s.relay h
  s.setRelay h { x with nextId := x.nextId + 1, offered := x.offered + nb, offers := x.offers ++ [o] }

/-- REL.SEND's own effect behind the guard. -/
def State.sendRel (s : State) (t h slot b0 nb a bar : Nat) : Eff :=
  if s.relState h ≠ 2 then .fault 0x0901 s
  else if s.offerBad t h slot b0 nb a then .fault 0x0902 s
  else if barFault bar ≠ 0 then .fault (barFault bar) s
  else
    let o := s.newOffer t h slot b0 nb a bar
    .retire (if nb = 0 then s.endOffer 0 o else s.joinOffer h nb o)

theorem State.newOffer_pastGuard (s : State) (t : Tid) (w : IWord) (h slot b0 nb a bar : Nat) :
    (s.pastGuard t w).newOffer t.code h slot b0 nb a bar = s.newOffer t.code h slot b0 nb a bar := by
  simp only [State.newOffer, State.pastGuard_relay, State.regs_pastGuard, TRegs.pc_past, State.pastGuard_owner,
    State.pastGuard_moduleId, State.pastGuard_isSet, State.pastGuard_relBytes, State.pastGuard_barEpoch]

theorem State.joinOffer_pastGuard (s : State) (t : Tid) (w : IWord) (h nb : Nat) (o : Offer) :
    (s.pastGuard t w).joinOffer h nb o = (s.pastGuard t w).setRelay h { s.relay h with
      nextId := (s.relay h).nextId + 1, offered := (s.relay h).offered + nb, offers := (s.relay h).offers ++ [o] } := by
  unfold State.joinOffer
  rw [State.pastGuard_relay]

section
variable {s : State} {t h slot b0 nb a bar : Nat}

theorem State.sendRel_unarmed (st : s.relState h ≠ 2) : s.sendRel t h slot b0 nb a bar = .fault 0x0901 s := if_pos st

variable (armed : s.relState h = 2)
include armed

theorem State.sendRel_bad (bad : s.offerBad t h slot b0 nb a = true) : s.sendRel t h slot b0 nb a bar = .fault 0x0902 s :=
  (if_neg (not_not_intro armed)).trans (if_pos bad)

theorem State.sendRel_good (good : s.offerBad t h slot b0 nb a = false) (hbar : barFault bar = 0) :
    s.sendRel t h slot b0 nb a bar = .retire (if nb = 0 then s.endOffer 0 (s.newOffer t h slot b0 nb a bar)
      else s.joinOffer h nb (s.newOffer t h slot b0 nb a bar)) :=
  (if_neg (not_not_intro armed)).trans ((if_neg (Bool.eq_false_iff.mp good)).trans (if_neg (not_not_intro hbar)))

end

/-! The faults of a range (R473) -/

theorem firstFault_eq_zero {a b : Nat} : firstFault a b = 0 ↔ a = 0 ∧ b = 0 := by
  unfold firstFault
  split
  · omega
  · split <;> omega

/-- R473: a range without a fault has none at any of the bytes that decide. -/
theorem foldl_firstFault_eq_zero {α : Type} (f : α → Nat) (xs : List α) (c : Nat) :
    xs.foldl (fun c x => firstFault c (f x)) c = 0 ↔ c = 0 ∧ ∀ x ∈ xs, f x = 0 := by
  induction xs generalizing c with
  | nil => simp
  | cons x xs ih => rw [List.foldl_cons, ih, firstFault_eq_zero, List.forall_mem_cons, and_assoc]

/-- R473: the ends of a range without a fault have none. -/
theorem State.byteFault_ends {s : State} {q : Req} {a n : Nat} (h : s.addrFault q a n = 0) :
    firstFault (s.byteFault q a) (s.byteFault q (a + n - 1)) = 0 := by
  have clear : ∀ x ∈ s.probes a n, s.byteFault q x = 0 := ((foldl_firstFault_eq_zero (s.byteFault q) _ 0).mp h).2
  have first : a ∈ s.probes a n := List.mem_cons_self
  have last : a + n - 1 ∈ s.probes a n := List.mem_cons_of_mem _ List.mem_cons_self
  exact firstFault_eq_zero.mpr ⟨clear a first, clear _ last⟩

/-! REL.POST (R439) -/

/-- R439: the posting of a thread is held. -/
def State.holdPost (s : State) (t h a bar : Nat) : State := s.modRelay h (fun x => { x with
  post := some { t := t, pc := (s.regs t).pc, owner := (s.thread t).owner, addr := a, bar := barAddr t bar,
                 ep := s.barEpoch (barAddr t bar) } })

/-- R439: the results that have gone out already land in the posting, in block order. -/
def State.landFinals (s : State) (h : Nat) : State :=
  (s.owned h).foldl (fun s b =>
    match SMap.find (s.relay h).finals b with
    | some codes => if (s.owned h).findIdx (· = b) < (s.relay h).outs then s.landResult h b codes else s
    | none => s) s

/-- R439: a posting of n bytes at a where its thread may not post. -/
@[reducible] def State.PostMisplaced (s : State) (t a n : Nat) : Prop :=
  let f := firstFault (s.byteFault .thread a) (s.byteFault .thread (a + n - 1))
  n ≠ 0 ∧ (tierOf a = 0 ∨ tierOf a ≠ tierOf (a + n - 1) ∨ foreignScratch t a = true ∨ (f ≠ 0 ∧ f ≠ 0x0709))

/-- R439: a posting of n bytes at a where its thread may post. -/
def State.PostAllowed (s : State) (t a n : Nat) : Prop :=
  n ≠ 0 → tierOf a ≠ 0 ∧ tierOf a = tierOf (a + n - 1) ∧ foreignScratch t a = false ∧ s.addrFault .thread a n = 0

section
variable {s : State} {t a n : Nat} (allowed : s.PostAllowed t a n)
include allowed

theorem State.PostAllowed.placed : ¬ s.PostMisplaced t a n := by
  rintro ⟨filled, outside⟩
  obtain ⟨backed, oneTier, own, clear⟩ := allowed filled
  rcases outside with unbacked | twoTiers | foreign | fault
  · exact backed unbacked
  · exact twoTiers oneTier
  · exact Bool.eq_false_iff.mp own foreign
  · exact fault.1 (State.byteFault_ends clear)

theorem State.PostAllowed.reached : ¬ (n ≠ 0 ∧ s.addrFault .thread a n ≠ 0) := by
  rintro ⟨filled, fault⟩
  obtain ⟨_, _, _, clear⟩ := allowed filled
  exact fault clear

end

/-- REL.POST's own effect behind the guard. -/
def State.postRel (s : State) (t h a bar : Nat) : Eff :=
  let n := s.relBytes h (s.due h)
  if s.relState h ≠ 2 ∨ (s.relay h).post.isSome ∨ a % 64 ≠ 0 ∨ s.PostMisplaced t a n then .fault 0x0905 s
  else if n ≠ 0 ∧ s.addrFault .thread a n ≠ 0 then .fault (s.addrFault .thread a n) s
  else if barFault bar ≠ 0 then .fault (barFault bar) s
  else .retire (((s.holdPost t h a bar).landFinals h).relayAdvance h)

theorem State.holdPost_pastGuard (s : State) (t : Tid) (w : IWord) (h a bar : Nat) :
    (s.pastGuard t w).holdPost t.code h a bar = (s.pastGuard t w).modRelay h (fun x => { x with
      post := some { t := t.code, pc := (s.regs t.code).pc, owner := (s.thread t.code).owner, addr := a, bar := barAddr t.code bar,
                     ep := s.barEpoch (barAddr t.code bar) } }) := by
  unfold State.holdPost
  rw [State.regs_pastGuard, TRegs.pc_past, State.pastGuard_owner, State.pastGuard_barEpoch]

section
variable {s : State} {t h a bar : Nat}

/-- R439: a posting beside another, of an entry that is not ARMED, or misaligned, faults. -/
theorem State.postRel_bad (bad : s.relState h ≠ 2 ∨ (s.relay h).post.isSome = true ∨ a % 64 ≠ 0) :
    s.postRel t h a bar = .fault 0x0905 s := if_pos (bad.imp_right (.imp_right .inl))

/-- R439: a posting where its thread may post is held, and takes the results that are final. -/
theorem State.postRel_good (armed : s.relState h = 2) (first : (s.relay h).post = none) (aligned : a % 64 = 0)
    (allowed : s.PostAllowed t a (s.relBytes h (s.due h))) (hbar : barFault bar = 0) :
    s.postRel t h a bar = .retire (((s.holdPost t h a bar).landFinals h).relayAdvance h) := by
  have good : ¬ (s.relState h ≠ 2 ∨ (s.relay h).post.isSome = true ∨ a % 64 ≠ 0 ∨
      s.PostMisplaced t a (s.relBytes h (s.due h))) := by
    rintro (unarmed | held | odd | misplaced)
    · exact unarmed armed
    · rw [first] at held
      exact absurd held (by decide)
    · exact odd aligned
    · exact allowed.placed misplaced
  exact (if_neg good).trans ((if_neg allowed.reached).trans (if_neg (not_not_intro hbar)))

end

/-! From the word to the effect behind its guard -/

section
variable {s : State} {t : Tid} {w : IWord} (he : s.Enabled t w)
include he

theorem exec_relArm (hr : s.Ready t w (({ a := .g } : Form).ok w) true [gR w.a.toNat]) :
    exec (.relArm t w) s =
      .next (((s.pastGuard t w).armRel t.code ((s.regs t.code).getG w.a.toNat).toNat).ended s t w) := by
  have past : ((s.pastGuard t w).thread t.code).regs = (s.regs t.code).past w := s.regs_pastGuard t w
  refine congrArg Host.Outcome.next ((State.issue_enabled hr rfl he _).trans ?_)
  simp only [past, TRegs.getG_past, State.armRel]
  rfl

theorem exec_relSend (hr : s.Ready t w (({ a := .g, b := .g, c := .g, d := .g, x := .fields [0, 1] } : Form).ok w) true
    [gR w.a.toNat, gR w.b.toNat, gR w.c.toNat, gR w.d.toNat, gR (w.f 0), gR (w.f 1)]) :
    let g (k : Nat) : Nat := ((s.regs t.code).getG k).toNat
    exec (.relSend t w) s = .next (((s.pastGuard t w).sendRel t.code (g w.a.toNat) (g w.b.toNat) (g w.c.toNat) (g w.d.toNat)
      (g (w.f 0) % 2 ^ 46) (g (w.f 1))).ended s t w) := by
  have past : ((s.pastGuard t w).thread t.code).regs = (s.regs t.code).past w := s.regs_pastGuard t w
  refine congrArg Host.Outcome.next ((State.issue_enabled hr rfl he _).trans ?_)
  simp only [past, TRegs.getG_past, State.sendRel, State.newOffer, State.joinOffer, State.regs_pastGuard]
  rfl

theorem exec_relPost (hr : s.Ready t w (({ a := .g, b := .g, c := .g } : Form).ok w) true
    [gR w.a.toNat, gR w.b.toNat, gR w.c.toNat]) :
    let g (k : Nat) : Nat := ((s.regs t.code).getG k).toNat
    exec (.relPost t w) s = .next (((s.pastGuard t w).postRel t.code (g w.a.toNat) (g w.b.toNat % 2 ^ 46) (g w.c.toNat)).ended s t w) := by
  have past : ((s.pastGuard t w).thread t.code).regs = (s.regs t.code).past w := s.regs_pastGuard t w
  refine congrArg Host.Outcome.next ((State.issue_enabled hr rfl he _).trans ?_)
  simp only [past, TRegs.getG_past, State.postRel, State.holdPost, State.regs_pastGuard]
  rfl

end

/-- Settles O36: each instruction by the effect behind its guard, and that effect by its checks. -/
theorem relInstructions : Obligations.RelayInstructions := by
  intro t w s he th r own p g h st
  refine ⟨fun hr => ?arm, fun hr => ?send, fun hr => ?post⟩
  case arm =>
    have run : exec (.relArm t w) s = .next ((p.armRel th h).ended s t w) := exec_relArm he hr
    have state : p.relState h = st := s.pastGuard_relState t w h
    refine ⟨fun busy => ?_, fun free idle lost => ?_, fun free idle clean bad => ?_, fun free idle clean good => ?_⟩
    · rw [run, State.armRel_busy (state ▸ busy), Eff.ended_fault]
    · rw [run, State.armRel_lost (state ▸ free) (state ▸ idle) ((s.pastGuard_slotsPoisoned t w h).trans lost), Eff.ended_fault]
    all_goals
      rw [run, State.armRel_checked (state ▸ free) (state ▸ idle) ((s.pastGuard_slotsPoisoned t w h).trans clean)]
    · rw [if_neg (Bool.eq_false_iff.mp ((s.pastGuard_armOk t w h).trans bad)), Eff.ended_fault]
    · rw [if_pos ((s.pastGuard_armOk t w h).trans good), Eff.ended_retire, State.pastGuard_owner]
  case send =>
    intro slot b0 nb a bar x v
    have run : exec (.relSend t w) s = .next ((p.sendRel th h slot b0 nb a bar).ended s t w) := exec_relSend he hr
    have state : p.relState h = st := s.pastGuard_relState t w h
    have checks : p.offerBad th h slot b0 nb a = s.offerBad th h slot b0 nb a := s.pastGuard_offerBad t w h th slot b0 nb a
    refine ⟨fun unarmed => ?_, fun armed bad => ?_, fun armed good hbar => ?_⟩
    · rw [run, State.sendRel_unarmed (state ▸ unarmed), Eff.ended_fault]
    · rw [run, State.sendRel_bad (state.trans armed) (checks.trans bad), Eff.ended_fault]
    · have sent := State.sendRel_good (state.trans armed) (checks.trans good) hbar
      rw [State.newOffer_pastGuard, State.joinOffer_pastGuard] at sent
      refine ⟨fun empty => ?_, fun filled => ?_⟩
      · rw [run, sent, if_pos empty]
        rfl
      · rw [run, sent, if_neg filled]
        rfl
  case post =>
    intro a bar n
    have run : exec (.relPost t w) s = .next ((p.postRel th h a bar).ended s t w) := exec_relPost he hr
    have state : p.relState h = st := s.pastGuard_relState t w h
    have entry : p.relay h = s.relay h := s.pastGuard_relay t w h
    have bytes : p.relBytes h (p.due h) = n := by rw [State.pastGuard_relBytes, State.pastGuard_due]
    refine ⟨fun bad => ?_, fun armed first aligned lies hbar => ?_⟩
    · rw [run, State.postRel_bad (by rw [state, entry]; exact bad), Eff.ended_fault]
    · have allowed : p.PostAllowed th a (p.relBytes h (p.due h)) := by
        rw [bytes, State.PostAllowed, State.pastGuard_addrFault]
        exact lies
      rw [run, State.postRel_good (state.trans armed) ((congrArg Relay.post entry).trans first) aligned allowed hbar,
        State.holdPost_pastGuard]
      rfl

end Sys2Proof.Machine
end

section
/-! The relay's own steps and the writes of its registers (R433, R438, R443, R449, R451, R452, R458, R459, R463, R464). -/

namespace Sys2Proof.Machine

/-! The next block of an offer (R433, R438, R449, R452) -/

/-- R438: the offer of a slot that has a block next and is hosted here. -/
def State.offerHere (s : State) (h slot block : Nat) : Option Offer :=
  (s.relay h).offers.find? (fun o => o.slot = slot && o.next = block && decide (o.next < o.stop) && o.host = s.moduleId)

/-- R433: the offer whose next magnitude to report is that of a block. -/
def State.offerReports (s : State) (h block : Nat) : Option Offer :=
  (s.relay h).offers.find? (fun o => o.pre = block && decide (o.pre < o.stop) && s.offerSettled h o block)

/-- R438: the offer that has a block next and sends it to another module. -/
def State.offerLeaves (s : State) (h block : Nat) : Option Offer :=
  (s.relay h).offers.find? (fun o => o.next = block && decide (o.next < o.stop) && o.pre = o.stop && o.host ≠ s.moduleId
    && s.offerSettled h o block)

section
variable {s : State} {h : Fin 1024} {block : Nat} {o : Offer}
variable (st : s.relState h.val = 2 ∨ s.relState h.val = 3) (up : s.computeUp = true)
include st up

section
variable {slot : Fin 1024} (here : s.offerHere h.val slot.val block = some o) (settled : s.offerSettled h.val o block = true)
include here settled

/-- R438: an offered block whose source rests comes to its magnitude, its poison and its exponent. -/
theorem exec_relayLocalAccept_settled : exec (.relayLocalAccept h slot block) s =
    if o.pre ≤ block then .next ((s.reportOffer h.val o block).relayAdvance h.val)
    else if s.poisoned (o.at0 block) (4 * s.relLen h.val block) then .next ((s.poisonedOffer h.val o block).relayAdvance h.val)
    else if !(s.expKnown h.val block) then .next s
    else .next ((((s.touch (o.at0 block) (4 * s.relLen h.val block)).localCopy h.val o block).alterOffer h.val o.id
      (fun o => { o with next := block + 1 })).relayAdvance h.val) := by
  have acts : ¬ ((s.relState h.val ≠ 2 ∧ s.relState h.val ≠ 3) ∨ (!s.computeUp) = true ∨ (!s.offerSettled h.val o block) = true) := by
    rintro (⟨unarmed, undone⟩ | down | moving)
    · exact st.elim unarmed undone
    · rw [up] at down
      exact absurd down (by decide)
    · rw [settled] at moving
      exact absurd moving (by decide)
  show execRelayLocalAccept h slot block s = _
  unfold execRelayLocalAccept
  dsimp only
  unfold State.offerHere at here
  rw [here]
  exact if_neg acts

end

/-- R433, R438, R443: a magnitude that is due comes first, then a block that leaves, then a partial. -/
theorem exec_relayBlockSend_acts : exec (.relayBlockSend h block) s =
    match s.offerReports h.val block with
    | some o => .next ((s.reportOffer h.val o block).relayAdvance h.val)
    | none =>
      match s.offerLeaves h.val block with
      | some o =>
        if s.poisoned (o.at0 block) (4 * s.relLen h.val block) then .next ((s.poisonedOffer h.val o block).relayAdvance h.val)
        else .next ((((s.touch (o.at0 block) (4 * s.relLen h.val block)).alterOffer h.val o.id
          (fun o => { o with next := block + 1 })).relaySend h.val o.host 0 o.slot o.twin block 1 []
          ((s.offerCodes h.val o block).flatMap (leBytes 4)) o.id).relayAdvance h.val)
      | none => .next (if s.relState h.val = 2 then (s.sendPartial h.val block).relayAdvance h.val else s) := by
  have acts : ¬ ((s.relState h.val ≠ 2 ∧ s.relState h.val ≠ 3) ∨ (!s.computeUp) = true) := by
    rintro (⟨unarmed, undone⟩ | down)
    · exact st.elim unarmed undone
    · rw [up] at down
      exact absurd down (by decide)
  exact if_neg acts

theorem exec_relayBlockSend_reports (due : s.offerReports h.val block = some o) :
    exec (.relayBlockSend h block) s = .next ((s.reportOffer h.val o block).relayAdvance h.val) := by
  rw [exec_relayBlockSend_acts st up, due]

variable (reported : s.offerReports h.val block = none)
include reported

theorem exec_relayBlockSend_partial (kept : s.offerLeaves h.val block = none) :
    exec (.relayBlockSend h block) s =
      .next (if s.relState h.val = 2 then (s.sendPartial h.val block).relayAdvance h.val else s) := by
  rw [exec_relayBlockSend_acts st up, reported, kept]

variable (leaves : s.offerLeaves h.val block = some o)
include leaves

/-- R452: a poisoned block does not leave. -/
theorem exec_relayBlockSend_poisoned (poison : s.poisoned (o.at0 block) (4 * s.relLen h.val block) = true) :
    exec (.relayBlockSend h block) s = .next ((s.poisonedOffer h.val o block).relayAdvance h.val) := by
  rw [exec_relayBlockSend_acts st up, reported, leaves]
  exact if_pos poison

theorem exec_relayBlockSend_leaves (clean : s.poisoned (o.at0 block) (4 * s.relLen h.val block) = false) :
    exec (.relayBlockSend h block) s = .next ((((s.touch (o.at0 block) (4 * s.relLen h.val block)).alterOffer h.val o.id
      (fun o => { o with next := block + 1 })).relaySend h.val o.host 0 o.slot o.twin block 1 []
      ((s.offerCodes h.val o block).flatMap (leBytes 4)) o.id).relayAdvance h.val) := by
  rw [exec_relayBlockSend_acts st up, reported, leaves]
  exact if_neg (Bool.eq_false_iff.mp clean)

end

section
variable {s : State} {h : Nat} {o : Offer} {block : Nat}

theorem State.localCopy_armed (st : s.relState h = 2) :
    s.localCopy h o block = s.contribute h o.slot o.twin block (s.offerCodes h o block) :=
  if_neg (fun late => by rw [st] at late; exact absurd late.1 (by decide))

/-- R451: a copy that reaches a DONE entry whose compare window has closed is only counted. -/
theorem State.localCopy_late (st : s.relState h = 3) (closed : (s.relay h).window = false) :
    s.localCopy h o block = s.lateCopies h o.slot block 1 :=
  if_pos ⟨st, by rw [closed]; rfl⟩

end

/-! The noise record (R458) -/

/-- R458: the noise record of a set. -/
def State.noiseRecord (s : State) (k : Nat) : Nat :=
  let x := s.norm k
  s.fld (Fd.REL_NORM_CTL_JOB k) + k * 2 ^ 16 + x.seq.toNat * 2 ^ 32 + x.ssqf * 2 ^ 64 + x.slotsf * 2 ^ 96
    + x.slots.length % 2 ^ 16 * 2 ^ 128 + x.fault * 2 ^ 160

/-- R458: the record of a set appended to the noise ring. -/
def State.putNoise (s : State) (k : Nat) : State :=
  (s.ringPut (s.fld Fd.REL_NOISE_BASE * 64 + s.fld Fd.REL_NOISE_PTR_HEAD % 2 ^ (s.fld Fd.REL_NOISE_ENTRIES_LOG + 4) * 64)
    (leBytes 64 (s.noiseRecord k))).incFld Fd.REL_NOISE_PTR_HEAD

/-- R458: a set that waits for a ring with room appends its record, raises its vector where one is enabled, and completes. -/
theorem exec_noiseRecordWrite {set : Fin 16} {s : State} (closing : (s.norm set.val).closing = true) (room : s.noiseRoom = true) :
    let u := s.putNoise set.val
    exec (.noiseRecordWrite set) s = .next ((if u.isSet Fd.REL_NOISE_VEC_EN then
      u.raiseVec (u.fld Fd.HST_IRQ_CTL_EVT_PORT) (u.fld Fd.REL_NOISE_VEC) else u).finishNorm set.val) :=
  if_pos ⟨closing, room⟩

/-! A timeout (R459), and the end of a twin's grace (R451) -/

theorem exec_relayTimeout (h : Fin 1024) (s : State) : exec (.relayTimeout h) s = .next (s.relayFail h.val 0x0903) := rfl

theorem State.relayFail_idle {s : State} {h : Nat} (st : s.relState h ≠ 2) (code : Nat) : s.relayFail h code = s := if_pos st

/-- R459: an entry marked as failed. -/
def State.markFailed (s : State) (h code : Nat) : State :=
  ((s.setFld (Fd.REL_RED_CTL_FAULT h) code).setFld (Fd.REL_RED_CTL_STATE h) 4).setFld (Fd.REL_RED_CTL_EXP_STALE h) 1

section
variable (s : State) (h code : Nat)

/-- R459: marking an entry as failed changes its fault, its state and the mark of its exponents alone. -/
theorem State.fld_markFailed {f : Fld} (fault : f.key ≠ (Fd.REL_RED_CTL_FAULT h).key)
    (state : f.key ≠ (Fd.REL_RED_CTL_STATE h).key) (stale : f.key ≠ (Fd.REL_RED_CTL_EXP_STALE h).key) :
    (s.markFailed h code).fld f = s.fld f := by
  unfold State.markFailed
  rw [State.fld_setFld_ne _ _ _ _ stale, State.fld_setFld_ne _ _ _ _ state, State.fld_setFld_ne _ _ _ _ fault]

theorem State.fld_markFailed_ctl {f : Fld} (ha : f.addr = (Reg.REL_RED_CTL h).addr) (fault : f.lo ≠ 32) (state : f.lo ≠ 0)
    (stale : f.lo ≠ 31) : (s.markFailed h code).fld f = s.fld f :=
  s.fld_markFailed h code (Fld.key_ne_of_lo ha fault) (Fld.key_ne_of_lo ha state) (Fld.key_ne_of_lo ha stale)

theorem State.fld_markFailed_other {f : Fld} (hl : f.lo < 64) (ha : f.addr ≠ (Reg.REL_RED_CTL h).addr) :
    (s.markFailed h code).fld f = s.fld f :=
  s.fld_markFailed h code (Fld.key_ne_of_addr hl (show 32 < 64 by decide) ha) (Fld.key_ne_of_addr hl (show 0 < 64 by decide) ha)
    (Fld.key_ne_of_addr hl (show 31 < 64 by decide) ha)

theorem State.isSet_normEn_markFailed :
    (s.markFailed h code).isSet (Fd.REL_RED_CTL_NORM_EN h) = s.isSet (Fd.REL_RED_CTL_NORM_EN h) := by
  unfold State.isSet
  rw [s.fld_markFailed_ctl h code rfl (show 14 ≠ 32 by decide) (show 14 ≠ 0 by decide) (show 14 ≠ 31 by decide)]

theorem State.job_markFailed : (s.markFailed h code).fld (Fd.REL_RED_CTL_JOB h) = s.fld (Fd.REL_RED_CTL_JOB h) :=
  s.fld_markFailed_ctl h code rfl (show 48 ≠ 32 by decide) (show 48 ≠ 0 by decide) (show 48 ≠ 31 by decide)

theorem State.ofJob_markFailed (hh : h < 1024) (job : Nat) : (s.markFailed h code).ofJob job = s.ofJob job := by
  have apart : (Reg.JOB_CTL).addr ≠ (Reg.REL_RED_CTL h).addr := by
    show 0xD00000 ≠ 0xC10000 + h * 0x80
    omega
  unfold State.ofJob State.isSet
  rw [s.fld_markFailed_other h code (show 16 < 64 by decide) apart, s.fld_markFailed_other h code (show 0 < 64 by decide) apart]

end

section
variable {s : State} {h : Nat}

theorem State.setRelay_modRelay (f : Relay → Relay) (y : Relay) : (s.modRelay h f).setRelay h y = s.setRelay h y := by
  unfold State.modRelay State.setRelay
  rw [SMap.set_set]

theorem State.endOffers_none (offers : (s.relay h).offers = []) (fault : Nat) :
    s.endOffers h fault = s.modRelay h (fun x => { x with offers := [] }) := by
  unfold State.endOffers
  rw [offers]
  rfl

theorem State.failPost_none {x : Relay} (post : x.post = none) (code : Nat) : s.failPost h code x = s := by
  unfold State.failPost
  rw [post]

theorem State.failNorm_off (norm : s.isSet (Fd.REL_RED_CTL_NORM_EN h) = false) (code : Nat) (x : Relay) : s.failNorm h code x = s :=
  if_neg (fun due => Bool.eq_false_iff.mp norm due.1)

/-- R459: where an entry's packets come from, in its present generation. -/
def State.fromEntry (s : State) (h : Nat) (o : Origin) : Bool :=
  match o with
  | .relay j g _ => j = h && g = s.relGen h
  | _ => false

/-- R459: an entry's working state without offers and posting. -/
def Relay.ended (x : Relay) : Relay := { x with offers := [], post := none, window := false }

/-- R459: an entry as it stands when its offers and its posting have ended. -/
def State.stopped (s : State) (h code : Nat) : State :=
  (((s.markFailed h code).endOffers h code).failPost h code (s.relay h)).setRelay h (s.relay h).ended

/-- R459: what a failed entry still had to send is dropped, where its header has not left. -/
def State.dropEntry (s : State) (h : Nat) : State := s.dropWaiting (s.fromEntry h)

/-- R459, R556: the step of a reduction's job fails with it. -/
def State.failJob (s : State) (h code : Nat) : State :=
  if s.ofJob (s.fld (Fd.REL_RED_CTL_JOB h)) then s.failStep code else s

/-- R459: how an ARMED entry fails. -/
theorem State.relayFail_armed (armed : s.relState h = 2) (code : Nat) :
    s.relayFail h code = (((s.stopped h code).dropEntry h).failNorm h code (s.relay h)).failJob h code := by
  unfold State.relayFail
  rw [if_neg (not_not_intro armed)]
  rfl

/-- R459: an entry without offer and posting stops as it is marked. -/
theorem State.stopped_alone (offers : (s.relay h).offers = []) (post : (s.relay h).post = none) (code : Nat) :
    s.stopped h code = (s.markFailed h code).setRelay h (s.relay h).ended := by
  have unoffered : ((s.markFailed h code).relay h).offers = [] := offers
  unfold State.stopped
  rw [State.failPost_none post, State.endOffers_none unoffered, State.setRelay_modRelay]

/-- R459: an ARMED entry without offer, posting, norm set and running job is marked, and its packets that wait are dropped. -/
theorem State.relayFail_alone (hh : h < 1024) (armed : s.relState h = 2) (offers : (s.relay h).offers = [])
    (post : (s.relay h).post = none) (norm : s.isSet (Fd.REL_RED_CTL_NORM_EN h) = false)
    (job : s.ofJob (s.fld (Fd.REL_RED_CTL_JOB h)) = false) (code : Nat) :
    s.relayFail h code = ((s.markFailed h code).setRelay h (s.relay h).ended).dropEntry h := by
  have unowed : (((s.markFailed h code).setRelay h (s.relay h).ended).dropEntry h).isSet (Fd.REL_RED_CTL_NORM_EN h) = false :=
    (s.isSet_normEn_markFailed h code).trans norm
  have unjoined : (s.markFailed h code).ofJob ((s.markFailed h code).fld (Fd.REL_RED_CTL_JOB h)) = false := by
    rw [State.job_markFailed, State.ofJob_markFailed _ _ _ hh, job]
  rw [State.relayFail_armed armed, State.stopped_alone offers post, State.failNorm_off unowed]
  exact if_neg (Bool.eq_false_iff.mp unjoined)

end

theorem exec_twinGraceExpiry {h : Fin 1024} {s : State} (st : s.relState h.val = 3) (window : (s.relay h.val).window = true) :
    exec (.twinGraceExpiry h) s = .next ((s.incFld (Fd.REL_RED_CHK_UNCHECKED h.val)
      ((s.relay h.val).kept.filter (fun e => !e.2)).length).setRelay h.val { s.relay h.val with window := false }) :=
  if_pos ⟨st, window⟩

/-! Registers (R463, R464) -/

section
variable {s : State} (hears : s.Hears 12)
include hears

theorem exec_relayEntryWrite (h : Fin 1024) (reg : Fin 10) (value : BitVec 64) :
    exec (.relayEntryWrite h reg value) s = .next (s.writeRel h.val reg.val fullMask value.toNat) :=
  congrArg Host.Outcome.next (State.hostWriteIn_hears hears _)

theorem exec_normSetWrite (set : Fin 16) (reg : Fin 4) (value : BitVec 64) :
    exec (.normSetWrite set reg value) s = .next (s.writeNorm set.val reg.val fullMask value.toNat) :=
  congrArg Host.Outcome.next (State.hostWriteIn_hears hears _)

theorem exec_noiseTailWrite (tail : BitVec 20) :
    exec (.noiseTailWrite tail) s = .next (s.setFld Fd.REL_NOISE_PTR_TAIL tail.toNat) :=
  congrArg Host.Outcome.next (State.hostWriteIn_hears hears _)

end

theorem State.fld_noiseTail (s : State) (tail : BitVec 20) :
    (s.setFld Fd.REL_NOISE_PTR_TAIL tail.toNat).fld Fd.REL_NOISE_PTR_TAIL = tail.toNat :=
  (s.fld_setFld_self _ _).trans (Nat.mod_eq_of_lt tail.isLt)

section
variable {s : State} {h i : Nat} (mask v : Nat)

/-- R463: a write of an ARMED entry is discarded. -/
theorem State.writeRel_armed (st : s.relState h = 2) : s.writeRel h i mask v = s.logRec 0x0906 5 h := if_pos st

/-- R463: a write of a set-up register ends the offers left over and makes the entry SET. -/
theorem State.writeRel_setup (st : s.relState h ≠ 2) (hi : i < 8) :
    s.writeRel h i mask v = ((s.endOffers h 0).writeFields (relReg h i) mask v).setFld (Fd.REL_RED_CTL_STATE h) 1 := by
  unfold State.writeRel
  rw [if_neg st, if_pos hi, if_pos hi]

theorem State.writeRel_count (st : s.relState h ≠ 2) (hi : 8 ≤ i) : s.writeRel h i mask v = s.writeFields (relReg h i) mask v := by
  unfold State.writeRel
  rw [if_neg st, if_neg (Nat.not_lt.mpr hi), if_neg (Nat.not_lt.mpr hi)]

/-- R464: a write of a norm set that counts is discarded. -/
theorem State.writeNorm_counting {k : Nat} (counts : (s.norm k).count ≠ 0) : s.writeNorm k i mask v = s.logRec 0x0906 5 k :=
  if_pos counts

theorem State.writeNorm_idle {k : Nat} (idle : (s.norm k).count = 0) :
    s.writeNorm k i mask v = s.writeFields (normReg k i) mask v := if_neg (not_not_intro idle)

end

/-- Settles O37: each step by its own lemma, one for each case, and each write by the register that it names. -/
theorem relaySteps : Obligations.RelaySteps := by
  refine ⟨fun h slot block s o => ?offers, fun set s => ?noise, fun h s => ?ends, fun s hears => ?writes⟩
  case offers =>
    intro k st up
    refine ⟨fun here settled => ?_, State.localCopy_armed, State.localCopy_late, ?_⟩
    · have run := exec_relayLocalAccept_settled st up here settled
      refine ⟨fun due => ?_, fun reported poison => ?_, fun reported clean known => ?_⟩
      · rw [run, if_pos due]
      all_goals rw [run, if_neg (Nat.not_le.mpr reported)]
      · rw [if_pos poison]
      · rw [if_neg (Bool.eq_false_iff.mp clean), if_neg (by rw [known]; decide)]
    · intro reports leaves
      exact ⟨fun due => exec_relayBlockSend_reports st up due,
        fun reported due poison => exec_relayBlockSend_poisoned st up reported due poison,
        fun reported due clean => exec_relayBlockSend_leaves st up reported due clean,
        fun reported kept => exec_relayBlockSend_partial st up reported kept⟩
  case noise =>
    intro k x log v a u closing room
    have run := exec_noiseRecordWrite closing (decide_eq_true room)
    refine ⟨fun off => ?_, fun on => ?_⟩
    · exact run.trans (congrArg (fun q : State => Host.Outcome.next (q.finishNorm k)) (if_neg (Bool.eq_false_iff.mp off)))
    · exact run.trans (congrArg (fun q : State => Host.Outcome.next (q.finishNorm k)) (if_pos on))
  case ends =>
    intro k x
    refine ⟨fun _ => exec_relayTimeout h s, fun idle => ?_, fun armed offers post norm job => ?_, exec_twinGraceExpiry⟩
    · rw [exec_relayTimeout, State.relayFail_idle idle]
    · intro u
      rw [State.relayFail_alone h.isLt armed offers post norm job]
      rfl
  case writes =>
    refine ⟨fun h reg value => ?_, fun set reg value => ?_, fun tail => ⟨_, exec_noiseTailWrite hears tail, rfl, s.fld_noiseTail tail⟩⟩
    · intro u
      rw [exec_relayEntryWrite hears]
      refine ⟨fun armed => ?_, fun idle setup => ?_, fun idle count => ?_⟩
      · rw [State.writeRel_armed _ _ armed]
      · rw [State.writeRel_setup _ _ idle setup]
        simp only [u, if_pos setup]
      · rw [State.writeRel_count _ _ idle count]
        simp only [u, if_neg (Nat.not_lt.mpr count)]
    · rw [exec_normSetWrite hears]
      exact ⟨fun counts => congrArg _ (State.writeNorm_counting _ _ counts), fun idle => congrArg _ (State.writeNorm_idle _ _ idle)⟩

end Sys2Proof.Machine
end

section
/-! What every step keeps: it answers a next state, takes the front of the queue, and leaves memory canonical. -/

namespace Sys2Proof.Machine

/-- A command goes on: it answers a next state. -/
def Runs (o : Host.Outcome State Fault Refusal) : Prop := ∃ u, o = .next u

theorem runs_next (u : State) : Runs (.next u) := ⟨u, rfl⟩

theorem runs_ite {p : Prop} [Decidable p] {a b : Host.Outcome State Fault Refusal} (ha : Runs a) (hb : Runs b) :
    Runs (if p then a else b) := by
  split
  · exact ha
  · exact hb

theorem execEngineTransactionComplete_runs (tile : Fin 36) (id : Nat) (s : State) : Runs (execEngineTransactionComplete tile id s) := by
  unfold execEngineTransactionComplete
  split
  · exact runs_next _
  split
  · exact runs_next _
  exact runs_ite (runs_next _) (runs_next _)

theorem execRelayLocalAccept_runs (h : Fin 1024) (slot : Fin 1024) (block : Nat) (s : State) : Runs (execRelayLocalAccept h slot block s) := by
  unfold execRelayLocalAccept
  dsimp only
  split
  · exact runs_next _
  exact runs_ite (runs_next _) (runs_ite (runs_next _) (runs_ite (runs_next _) (runs_ite (runs_next _) (runs_next _))))

theorem execRelayBlockSend_runs (h : Fin 1024) (block : Nat) (s : State) : Runs (execRelayBlockSend h block s) := by
  refine runs_ite (runs_next _) ?_
  split
  · exact runs_next _
  split
  · exact runs_ite (runs_next _) (runs_next _)
  · exact runs_next _

theorem execTwinGraceExpiry_runs (h : Fin 1024) (s : State) : Runs (execTwinGraceExpiry h s) :=
  runs_ite (runs_next _) (runs_next _)

theorem execNoiseRecordWrite_runs (set : Fin 16) (s : State) : Runs (execNoiseRecordWrite set s) :=
  runs_ite (runs_next _) (runs_next _)

theorem execCaveSlotCopyDone_runs (s : State) : Runs (execCaveSlotCopyDone s) := by
  unfold execCaveSlotCopyDone
  split
  · exact runs_ite (runs_next _) (runs_next _)
  · exact runs_ite (runs_next _) (runs_ite (runs_next _) (runs_ite (runs_next _) (runs_next _)))
  · exact runs_next _
  · exact runs_next _

theorem execCowCopyDone_runs (s : State) : Runs (execCowCopyDone s) := by
  unfold execCowCopyDone
  split
  · exact runs_ite (runs_next _) (runs_ite (runs_next _) (runs_ite (runs_next _) (runs_next _)))
  · exact runs_next _

theorem execParkFinish_runs (s : State) : Runs (execParkFinish s) := by
  unfold execParkFinish
  split
  · exact runs_ite (runs_next _) (runs_next _)
  · exact runs_next _

theorem execPoolLowPreempt_runs (pool : Fin 16) (s : State) : Runs (execPoolLowPreempt pool s) := by
  refine runs_ite ?_ (runs_next _)
  split
  · exact runs_next _
  · exact runs_next _

theorem execFrameReclaim_runs (rec : BitVec 24) (s : State) : Runs (execFrameReclaim rec s) :=
  runs_ite (runs_next _) (runs_next _)

theorem execKvCheckDone_runs (s : State) : Runs (execKvCheckDone s) := by
  refine runs_ite ?_ (runs_next _)
  dsimp only
  split
  · exact runs_next _
  · exact runs_next _

theorem execPortTrainingDone_runs (p : Port) (info : TrainInfo) (s : State) : Runs (execPortTrainingDone p info s) :=
  runs_ite (runs_next _) (runs_ite (runs_next _) (runs_ite (runs_next _) (runs_next _)))

theorem execLaneLossOfLock_runs (p : Port) (lane : Fin 32) (ms : Nat) (s : State) : Runs (execLaneLossOfLock p lane ms s) :=
  runs_ite (runs_next _) (runs_next _)

theorem execLaneThresholdReached_runs (p : Port) (lanes : BitVec 32) (s : State) : Runs (execLaneThresholdReached p lanes s) :=
  runs_ite (runs_next _) (runs_next _)

theorem execPortRetrainDone_runs (p : Port) (ok : Bool) (peerRetired : BitVec 32) (s : State) : Runs (execPortRetrainDone p ok peerRetired s) :=
  runs_ite (runs_next _) (runs_ite (runs_next _) (runs_next _))

theorem execQueueHotDetect_runs (tier : Tier) (unit : Fin 24) (depth : Fin 257) (s : State) : Runs (execQueueHotDetect tier unit depth s) :=
  runs_ite (runs_next _) (runs_ite (runs_ite (runs_next _) (runs_next _)) (runs_next _))

theorem execActLimitReached_runs (tier : Tier) (unit : Fin 24) (row : Nat) (s : State) : Runs (execActLimitReached tier unit row s) :=
  runs_ite (runs_next _) (runs_next _)

theorem execDramTempReport_runs (tier : Tier) (unit : Fin 24) (temp : BitVec 8) (s : State) : Runs (execDramTempReport tier unit temp s) :=
  runs_ite (runs_next _) (runs_next _)

theorem execPatrolScrubRead_runs (line : Nat) (errs : CodeErrors) (inner : BitVec 8) (hours : Nat) (s : State) :
    Runs (execPatrolScrubRead line errs inner hours s) := by
  unfold execPatrolScrubRead
  split
  · exact runs_next _
  · exact runs_next _

theorem execNearColumnRemapDone_runs (unit : Fin 24) (s : State) : Runs (execNearColumnRemapDone unit s) := by
  unfold execNearColumnRemapDone
  dsimp only
  split
  · exact runs_next _
  · exact runs_next _

theorem execFlitTransmit_runs (p : Port) (s : State) : Runs (execFlitTransmit p s) := by
  refine runs_ite (runs_next _) ?_
  split
  · split
    · exact runs_next _
    · exact runs_ite (runs_next _) (runs_next _)
  · refine runs_ite (runs_next _) (runs_ite (runs_next _) ?_)
    split
    · exact runs_next _
    · exact runs_next _

theorem execTblLoadDone_runs (tile : Fin 36) (s : State) : Runs (execTblLoadDone tile s) := by
  unfold execTblLoadDone
  dsimp only
  split
  · exact runs_next _
  · exact runs_ite (runs_next _) (runs_ite (runs_next _) (runs_next _))

theorem execTblGenSwitch_runs (tile : Fin 36) (s : State) : Runs (execTblGenSwitch tile s) := by
  unfold execTblGenSwitch
  split
  · exact runs_next _
  · exact runs_ite (runs_next _) (runs_next _)

theorem execLapSliceSend_runs (i : Fin 2) (s : State) : Runs (execLapSliceSend i s) := by
  unfold execLapSliceSend
  dsimp only
  split
  · exact runs_next _
  refine runs_ite (runs_next _) (runs_ite (runs_next _) (runs_ite (runs_next _) ?_))
  split
  · exact runs_next _
  · exact runs_ite (runs_next _) (runs_ite (runs_next _) (runs_ite (runs_next _) (runs_ite (runs_next _)
      (runs_ite (runs_next _) (runs_next _)))))

/-- No command stops the block. -/
theorem exec_runs (i : Instr) (s : State) : Runs (exec i s) := by
  cases i with
  | engineTransactionComplete tile id => exact execEngineTransactionComplete_runs tile id s
  | relayLocalAccept h slot block => exact execRelayLocalAccept_runs h slot block s
  | relayBlockSend h block => exact execRelayBlockSend_runs h block s
  | twinGraceExpiry h => exact execTwinGraceExpiry_runs h s
  | noiseRecordWrite set => exact execNoiseRecordWrite_runs set s
  | caveSlotCopyDone => exact execCaveSlotCopyDone_runs  s
  | cowCopyDone => exact execCowCopyDone_runs  s
  | parkFinish => exact execParkFinish_runs  s
  | poolLowPreempt pool => exact execPoolLowPreempt_runs pool s
  | frameReclaim rec => exact execFrameReclaim_runs rec s
  | kvCheckDone => exact execKvCheckDone_runs  s
  | portTrainingDone p info => exact execPortTrainingDone_runs p info s
  | laneLossOfLock p lane ms => exact execLaneLossOfLock_runs p lane ms s
  | laneThresholdReached p lanes => exact execLaneThresholdReached_runs p lanes s
  | portRetrainDone p ok peerRetired => exact execPortRetrainDone_runs p ok peerRetired s
  | queueHotDetect tier unit depth => exact execQueueHotDetect_runs tier unit depth s
  | actLimitReached tier unit row => exact execActLimitReached_runs tier unit row s
  | dramTempReport tier unit temp => exact execDramTempReport_runs tier unit temp s
  | patrolScrubRead line errs inner hours => exact execPatrolScrubRead_runs line errs inner hours s
  | nearColumnRemapDone unit => exact execNearColumnRemapDone_runs unit s
  | flitTransmit p => exact execFlitTransmit_runs p s
  | tblLoadDone tile => exact execTblLoadDone_runs tile s
  | tblGenSwitch tile => exact execTblGenSwitch_runs tile s
  | lapSliceSend i => exact execLapSliceSend_runs i s
  | _ => exact ⟨_, rfl⟩

/-- The state a command goes on in. -/
theorem exec_next (i : Instr) (s : State) : exec i s = .next (outState (exec i s) s) := by
  obtain ⟨u, hu⟩ := exec_runs i s
  rw [hu, outState_next]

/-- Settles O59: no command adds to the queue, so what waits after a step waited before it. -/
theorem queueFirstOut : Obligations.QueueFirstOut := by
  intro s
  cases hq : s.pending with
  | nil =>
    refine ⟨s.idle, by rw [step, hq], by rw [State.idle_pending, hq, List.tail_nil], fun hwf => ?_⟩
    unfold State.QueueWf
    rwa [State.idle_pending]
  | cons c rest =>
    have hrest : (outState (exec c { s with pending := rest }) { s with pending := rest }).pending = rest := exec_pending _ _
    refine ⟨outState (exec c { s with pending := rest }) { s with pending := rest }, ?_, hrest, fun hwf x hx => ?_⟩
    · rw [step, hq]
      exact exec_next c _
    · rw [hrest] at hx
      exact hwf x (hq ▸ List.mem_cons_of_mem c hx)

/-- Settles O60: every command and the idle step keep the canonical form of memory. -/
theorem memoryCanonical : Obligations.MemoryCanonical := by
  intro s u hm hstep
  unfold step at hstep
  split at hstep
  · cases hstep
    exact State.idle_memWf s hm
  · next c rest _ =>
    have hu : outState (exec c { s with pending := rest }) { s with pending := rest } = u := by rw [hstep, outState_next]
    unfold State.MemWf
    rw [← hu]
    exact exec_memWf c _ hm

/-! An edge of the core clock (R117, R593, R607) -/

/-- R593: the cycles that the tiles of a list have lost, after one more of each. -/
theorem getD_foldl_bump (l : List Nat) (hl : l.Nodup) (m : SMap Nat) (k : Nat) :
    (l.foldl (fun m d => SMap.set m d (m.getD d 0 + 1)) m).getD k 0 = m.getD k 0 + if k ∈ l then 1 else 0 := by
  induction l generalizing m with
  | nil => simp
  | cons d l ih =>
    obtain ⟨hd, hl⟩ := List.nodup_cons.mp hl
    rw [List.foldl_cons, ih hl]
    by_cases hk : k = d
    · subst hk
      simp [hd]
    · simp [SMap.getD_set_ne _ _ _ _ _ hk, hk]

theorem State.edgeDropped_iff (s : State) (n : Nat) : s.edgeDropped n = true ↔ n ≠ 0 ∧ s.edges % n = n - 1 := by
  simp [State.edgeDropped]

theorem State.tick_down {s : State} (h : ¬ s.computeUp = true) : s.tick = s := by
  simp [State.tick, h]

/-- R607: an edge that the limit drops counts as an edge alone. -/
theorem State.tick_dropped {s : State} (h : s.computeUp = true) (hd : s.edgeDropped s.boot.dropped = true) :
    s.tick = { s with edges := s.edges + 1 } := by
  simp [State.tick, h, hd]

theorem State.tick_counted {s : State} (h : s.computeUp = true) (hd : ¬ s.edgeDropped s.boot.dropped = true) :
    s.tick = { s with
      edges := s.edges + 1
      cycle := s.cycle + 1
      lost := if s.edgeDropped 16 then s.boot.droop.foldl (fun m d => SMap.set m d (m.getD d 0 + 1)) s.lost else s.lost } := by
  simp [State.tick, h, hd]

theorem State.tick_edges {s : State} (h : s.computeUp = true) : s.tick.edges = s.edges + 1 := by
  by_cases hd : s.edgeDropped s.boot.dropped = true
  · rw [State.tick_dropped h hd]
  · rw [State.tick_counted h hd]

/-- An edge changes the counts of edges, cycles and lost cycles alone. -/
theorem State.tick_frame {s : State} (h : s.computeUp = true) :
    { s.tick with edges := s.edges, cycle := s.cycle, lost := s.lost } = s := by
  by_cases hd : s.edgeDropped s.boot.dropped = true
  · rw [State.tick_dropped h hd]
  · rw [State.tick_counted h hd]

theorem State.serveInbox_empty {s : State} (h : s.inbox = []) : s.serveInbox = s := by
  rw [State.serveInbox, if_pos h]

/-- Settles O1: the front command runs on the rest of the queue; with none, an edge passes and the inbox is served. -/
theorem stepRunsFront : Obligations.StepRunsFront := by
  intro c rest s
  have idle (hq : s.pending = []) : step s = .next s.tick.serveInbox := by rw [step, hq, State.idle]
  refine ⟨rfl, fun u => State.serveInbox_empty, fun hq hdown => by rw [idle hq, State.tick_down hdown], fun hq hup => ?_⟩
  refine ⟨s.tick, idle hq, State.tick_frame hup, State.tick_edges hup, fun hd => ?_, fun hd => ?_⟩
  · rw [State.tick_dropped hup ((s.edgeDropped_iff _).mpr hd)]
    exact ⟨rfl, rfl⟩
  · rw [State.tick_counted hup (fun h => hd ((s.edgeDropped_iff _).mp h))]
    refine ⟨rfl, fun hnodup tile => ?_⟩
    by_cases h16 : s.edges % 16 = 15
    · have hlost := getD_foldl_bump s.boot.droop hnodup s.lost tile
      rw [if_pos ((s.edgeDropped_iff 16).mpr ⟨by decide, h16⟩)]
      exact ⟨fun ⟨ht, _⟩ => by rw [hlost, if_pos ht], fun ht => by rw [hlost, if_neg (fun hm => ht ⟨hm, h16⟩), Nat.add_zero]⟩
    · rw [if_neg (fun h => h16 ((s.edgeDropped_iff 16).mp h).2)]
      exact ⟨fun ⟨_, h⟩ => absurd h h16, fun _ => rfl⟩

end Sys2Proof.Machine
end

section
/-! The scalar instructions of the control unit: arithmetic, moves between the register files and descriptors (R467, R480, R482, R483). -/

namespace Sys2Proof.Machine

/-! A word that writes registers of its thread alone -/

@[simp] theorem scalarC_past (r : TRegs) (w : IWord) : scalarC (r.past w) w = scalarC r w := by
  simp only [scalarC, TRegs.getG_past]

section
variable {s : State} {t : Tid} {w : IWord} (he : s.Enabled t w)
include he

/-- R482: a ready scalar operation writes its result, with the tags of what it read, and retires. -/
theorem scalarOp_ready {mods : Nat} {ok : Bool}
    (h : s.Ready t w ((scalarForm w mods).ok w && ok) false (scalarReads w ++ [gR w.a.toNat])) (f : BitVec 64 → BitVec 64 → BitVec 64) :
    scalarOp t w s mods ok f = s.retire t w (fun q => q.setG w.a.toNat
      (f ((s.regs t.code).getG w.b.toNat) (scalarC (s.regs t.code) w)) ((s.regs t.code).resultTag w (scalarReads w))) := by
  unfold scalarOp
  rw [State.issue_retire (f := fun q => q.setG w.a.toNat (f (q.getG w.b.toNat) (scalarC q w))
    ((s.regs t.code).resultTag w (scalarReads w))) h rfl he rfl (fun _ => rfl)]
  exact s.retire_congr t w _ _ (by simp only [TRegs.getG_past, scalarC_past])

end

/-- Settles O2: one rule for every operation, and for CMP the condition that its code names. -/
theorem scalarResults : Obligations.ScalarResults := by
  intro t w s he r b c n reads wrote
  refine ⟨fun h => ?ops, fun h => ?cmp⟩
  case ops =>
    have run (f : BitVec 64 → BitVec 64 → BitVec 64) :
        (.next (scalarOp t w s 1 true f) : Host.Outcome State Fault Refusal) = wrote (f b c) :=
      congrArg Host.Outcome.next (scalarOp_ready he (by rw [Bool.and_true]; exact h) f)
    exact ⟨run _, run _, run _, run _, run _, run _, run _, run _, run _, run _, run _, run _, run _⟩
  case cmp =>
    have run {k : Nat} (hk : w.ms 1 3 = k) (h5 : k ≤ 5) :
        exec (.cmp t w) s = wrote (if scalarCond k b c then 1 else 0) := by
      subst hk
      exact congrArg Host.Outcome.next (scalarOp_ready he (by rw [decide_eq_true h5, Bool.and_true]; exact h) _)
    refine ⟨fun hk => ?_, fun hk => ?_, fun hk => ?_, fun hk => ?_, fun hk => ?_, fun hk => ?_⟩
    all_goals
      rw [run hk (by decide)]
      simp only [scalarCond, decide_eq_true_eq]

/-- R98: behind its guard the thread differs in its registers alone. -/
theorem State.thread_pastGuard (s : State) (t : Tid) (w : IWord) :
    (s.pastGuard t w).thread t.code = { s.thread t.code with regs := (s.regs t.code).past w } := by
  unfold State.pastGuard TRegs.past
  split
  · rfl
  · simp [State.modRegs, State.regs]

/-- Settles O3: each move changes the registers of its thread alone. -/
theorem registerMoves : Obligations.RegisterMoves := by
  intro t w s he r did a b c d plain
  refine ⟨fun hm hp hx h => ?movi, fun h => ?sel, fun h => ?pset, fun h => ?pget, fun h => ?dset, fun h => ?dget, fun h => ?dofs,
    fun h => ?cyc, fun h => ?st⟩
  case movi =>
    have hok : (decide (w.mod = 0) && decide (w.pred.toNat ≤ 16)
        && (!w.x || (decide (w.b = 0) && decide (w.c = 0) && decide (w.d = 0) && decide (w.imm = 0)))) = true := by
      cases hw : w.x
      · simp [hm, hp]
      · simp [hm, hp, hx hw]
    exact congrArg Host.Outcome.next (State.issue_retire (by rw [hok]; exact h) rfl he rfl (fun _ => rfl))
  case sel =>
    refine congrArg Host.Outcome.next ((State.issue_retire h rfl he rfl (by intro; rfl)).trans (s.retire_congr t w _ _ ?_))
    simp only [TRegs.getG_past, TRegs.getP_past]
    rfl
  case pset =>
    refine congrArg Host.Outcome.next ((State.issue_retire h rfl he rfl (by intro; rfl)).trans (s.retire_congr t w _ _ ?_))
    simp only [TRegs.getG_past]
    rfl
  case pget =>
    refine congrArg Host.Outcome.next ((State.issue_retire h rfl he rfl (by intro; rfl)).trans (s.retire_congr t w _ _ ?_))
    simp only [TRegs.getP_past]
    rfl
  case dset =>
    refine congrArg Host.Outcome.next ((State.issue_retire h rfl he rfl (by intro; rfl)).trans (s.retire_congr t w _ _ ?_))
    simp only [TRegs.getG_past]
    rfl
  case dget =>
    refine congrArg Host.Outcome.next ((State.issue_retire h rfl he rfl (by intro; rfl)).trans (s.retire_congr t w _ _ ?_))
    simp only [TRegs.getD'_past]
    rfl
  case dofs =>
    refine congrArg Host.Outcome.next ((State.issue_retire h rfl he rfl (by intro; rfl)).trans (s.retire_congr t w _ _ ?_))
    simp only [TRegs.getG_past, TRegs.getD'_past]
    rfl
  case cyc =>
    refine congrArg Host.Outcome.next (State.issue_retire h rfl he ?_ (fun _ => rfl))
    simp only [State.coreCycle, State.pastGuard_cycle, State.pastGuard_lost]
    rfl
  case st =>
    refine congrArg Host.Outcome.next (State.issue_retire h rfl he ?_ (fun _ => rfl))
    simp only [State.thread_pastGuard]
    rfl

end Sys2Proof.Machine
end

section
/-! Descriptor fields and lanes of a vector register (R471, R483), and the lane instructions (R238, R493, R494). -/

namespace Sys2Proof.Machine

/-! The two halves and the moved fields of a descriptor -/

/-- R483: the number of the descriptor that DSC.OFS writes. -/
theorem toNat_descOffset (d : BitVec 128) (b c : BitVec 64) :
    (descOffset d b c).toNat = setBits (setBits d.toNat 0 28 (bits d.toNat 0 28 + b.toNat)) 96 28 (bits d.toNat 96 28 + c.toNat) := by
  unfold descOffset
  rw [BitVec.toNat_ofNat, bits_setBits_ne (by decide),
    Nat.mod_eq_of_lt (setBits_lt (by decide) (setBits_lt (by decide) d.isLt _) _)]

theorem toNat_append_words (b c : BitVec 64) : (c ++ b : BitVec 128).toNat = c.toNat * 2 ^ 64 + b.toNat := by
  rw [BitVec.toNat_append, Nat.shiftLeft_eq, Nat.mul_comm, Nat.two_pow_add_eq_or_of_lt b.isLt]

/-- Settles O4: the fields DSC.OFS moves and keeps, the halves DSC.SET joins, and the retirements of RegisterMoves. -/
theorem descriptorFields : Obligations.DescriptorFields := by
  refine ⟨fun d b c => ⟨?_, ?_, ?_, ?_⟩, fun b c => ⟨toNat_append_words b c, ?_, ?_⟩, fun t w s he => ?_⟩
  · rw [toNat_descOffset, bits_setBits_ne (by decide), bits_setBits_self]
  · rw [toNat_descOffset, bits_setBits_self]
  · rw [toNat_descOffset, bits_setBits_ne (by decide), bits_setBits_ne (by decide)]
  · rw [toNat_descOffset, bits_setBits_ne (by decide), bits_setBits_ne (by decide)]
  · refine BitVec.eq_of_toNat_eq ?_
    rw [BitVec.extractLsb'_toNat, toNat_append_words, Nat.shiftRight_zero]
    have := b.isLt
    omega
  · refine BitVec.eq_of_toNat_eq ?_
    rw [BitVec.extractLsb'_toNat, toNat_append_words, Nat.shiftRight_eq_div_pow]
    have := b.isLt
    have := c.isLt
    omega
  · obtain ⟨-, -, -, -, hset, hget, hofs, -⟩ := registerMoves t w s he
    exact ⟨hset, fun h _ => hget h, hofs⟩

/-! A number of n digits of w bits -/

/-- The number whose digit i, of w bits, is f i. -/
def ofDigits (w n : Nat) (f : Nat → Nat) : Nat := (List.range n).foldl (fun a i => a + f i % 2 ^ w * 2 ^ (w * i)) 0

theorem ofDigits_succ (w n : Nat) (f : Nat → Nat) :
    ofDigits w (n + 1) f = f n % 2 ^ w * 2 ^ (w * n) + ofDigits w n f := by
  simp only [ofDigits, List.range_succ, List.foldl_append, List.foldl_cons, List.foldl_nil, Nat.add_comm]

theorem ofDigits_lt (w n : Nat) (f : Nat → Nat) : ofDigits w n f < 2 ^ (w * n) := by
  induction n with
  | zero => simp [ofDigits]
  | succ n ih =>
    rw [ofDigits_succ, Nat.mul_succ, Nat.add_comm (w * n), Nat.pow_add]
    have hd : f n % 2 ^ w + 1 ≤ 2 ^ w := Nat.mod_lt _ (Nat.two_pow_pos w)
    calc f n % 2 ^ w * 2 ^ (w * n) + ofDigits w n f
        < (f n % 2 ^ w + 1) * 2 ^ (w * n) := by rw [Nat.add_mul, Nat.one_mul]; exact Nat.add_lt_add_left ih _
      _ ≤ 2 ^ w * 2 ^ (w * n) := Nat.mul_le_mul_right _ hd

/-- Each digit is read back. -/
theorem bits_ofDigits (w : Nat) {n i : Nat} (f : Nat → Nat) (hi : i < n) : bits (ofDigits w n f) (w * i) w = f i % 2 ^ w := by
  induction n with
  | zero => exact absurd hi (Nat.not_lt_zero i)
  | succ n ih =>
    rw [ofDigits_succ, bits]
    rcases Nat.lt_succ_iff_lt_or_eq.mp hi with hlt | rfl
    · obtain ⟨k, rfl⟩ : ∃ k, n = i + 1 + k := ⟨n - (i + 1), by omega⟩
      have hpow : f (i + 1 + k) % 2 ^ w * 2 ^ (w * (i + 1 + k))
          = 2 ^ (w * i) * (2 ^ w * (2 ^ (w * k) * (f (i + 1 + k) % 2 ^ w))) := by
        rw [Nat.mul_add, Nat.mul_succ, Nat.pow_add, Nat.pow_add]
        ring
      rw [hpow, Nat.mul_add_div (Nat.two_pow_pos _), Nat.mul_add_mod]
      exact ih hlt
    · rw [Nat.add_comm, Nat.add_mul_div_right _ _ (Nat.two_pow_pos _), Nat.div_eq_of_lt (ofDigits_lt w i f), Nat.zero_add,
        Nat.mod_mod]

theorem testBit_ofDigits {n i : Nat} (f : Nat → Bool) (hi : i < n) : (ofDigits 1 n (fun i => b2n (f i))).testBit i = f i := by
  have h := bits_ofDigits 1 (fun i => b2n (f i)) hi
  rw [bits, Nat.one_mul, Nat.pow_one, Nat.mod_eq_of_lt (b2n_lt _)] at h
  rw [← bitAt_eq_testBit]
  exact bitAt_of_b2n h

/-! Elements of a vector register -/

theorem vElem_eq_bits (v : BitVec 2048) (w i : Nat) : vElem v w i = bits v.toNat (w * i) w := rfl

/-- A register made of lanes reads back lane by lane. -/
theorem lane_vMake (f : Nat → Nat) {i : Nat} (hi : i < 64) : lane (vMake 32 64 f) i = f i % 2 ^ 32 := by
  have hn : (vMake 32 64 f).toNat = ofDigits 32 64 f := by
    rw [vMake, BitVec.toNat_ofNat]
    exact Nat.mod_eq_of_lt (ofDigits_lt 32 64 f)
  rw [lane, vElem_eq_bits, hn, bits_ofDigits 32 f hi]

theorem lane_lt (v : BitVec 2048) (i : Nat) : lane v i < 2 ^ 32 := Nat.mod_lt _ (Nat.two_pow_pos 32)

/-- R471: a lane of a guarded write. -/
theorem lane_vLanes (old : BitVec 2048) (g : BitVec 64) (f : Nat → Nat) {i : Nat} (hi : i < 64) :
    lane (vLanes old g f) i = if g.getLsbD i then f i % 2 ^ 32 else lane old i := by
  rw [vLanes, lane_vMake _ hi]
  split
  · rfl
  · exact Nat.mod_eq_of_lt (lane_lt old i)

/-- R250, R254: a lane of a write below a row count. -/
theorem lane_vBelow (old : BitVec 2048) (n : Nat) (f : Nat → Nat) {i : Nat} (hi : i < 64) :
    lane (vBelow old n f) i = if i < n then f i % 2 ^ 32 else lane old i := by
  rw [vBelow, lane_vMake _ hi]
  split
  · rfl
  · exact Nat.mod_eq_of_lt (lane_lt old i)

/-- An element put into a register is read back, and the others are as they were. -/
theorem vElem_vPut (v : BitVec 2048) (w x : Nat) {j : Nat} (hj : (j + 1) * w ≤ 2048) (k : Nat) :
    vElem (vPut v (w * j) w x) w k = if k = j then x % 2 ^ w else vElem v w k := by
  have hend : w * j + w ≤ 2048 := by rw [← Nat.mul_succ, Nat.mul_comm]; exact hj
  rw [vElem_eq_bits, vElem_eq_bits, vPut, BitVec.toNat_ofNat, Nat.mod_eq_of_lt (setBits_lt hend v.isLt x)]
  split
  · next h => rw [h, bits_setBits_self]
  · next h =>
    refine bits_setBits_ne ?_ _ _
    rcases Nat.lt_or_gt_of_ne h with hlt | hgt
    · exact Or.inl (Nat.mul_le_mul_left w hlt)
    · exact Or.inr (Nat.mul_le_mul_left w hgt)

/-- Settles O7: a lane of each write, and an element put into a register. -/
theorem laneMask : Obligations.LaneMask := by
  intro old g n f i hi
  refine ⟨fun hg => ?_, fun hg => ?_, fun h => ?_, fun h => ?_, fun w j x k hj _ => vElem_vPut old w x hj k⟩
  · rw [lane_vLanes old g f hi, if_pos hg]
  · rw [lane_vLanes old g f hi, hg, if_neg Bool.false_ne_true]
  · rw [lane_vBelow old n f hi, if_pos h]
  · rw [lane_vBelow old n f hi, if_neg (Nat.not_lt.mpr h)]

/-! The lane instructions -/

/-- Settles O8: each is a lane instruction on the lanes of its sources. -/
theorem floatLanes : Obligations.FloatLanes := by
  intro t w s r a B C D ready lanes
  have run {ok : Bool} {reads : List Nat} (f : TRegs → Nat → Nat) (h : s.Ready t w ok false (reads ++ [vR w.a.toNat])) :
      (.next (laneOp t w s ok reads f) : Host.Outcome State Fault Refusal) = _ :=
    congrArg Host.Outcome.next (laneOp_ready h)
  exact ⟨fun h => ⟨run _ h, run _ h, run _ h, run _ h, run _ h⟩, fun h => run _ h, fun h => ⟨run _ h, run _ h⟩, fun h => run _ h,
    fun h => run _ h, fun h => run _ h⟩

/-- Settles O9: each is a lane instruction on the lanes of vB and vC. -/
theorem integerLanes : Obligations.IntegerLanes := by
  intro t w s r a B C reads lanes h
  have run (f : Nat → Nat → Nat) : (.next (laneOp2 t w s f) : Host.Outcome State Fault Refusal) = _ :=
    congrArg Host.Outcome.next (laneOp_ready h)
  exact ⟨run _, run _, run _, run _, run _, run _, run _, run _, run _⟩

/-- R493: bit i of the predicate that V.CMP writes. -/
theorem getLsbD_masked (old g : BitVec 64) (f : Nat → Bool) {i : Nat} (hi : i < 64) :
    ((old &&& ~~~g) ||| (BitVec.ofNat 64 ((List.range 64).foldl (fun a i => if f i then a + 2 ^ i else a) 0) &&& g)).getLsbD i
      = if g.getLsbD i then f i else old.getLsbD i := by
  have hfold : (List.range 64).foldl (fun a i => if f i then a + 2 ^ i else a) 0 = ofDigits 1 64 (fun i => b2n (f i)) := by
    unfold ofDigits
    congr 1
    funext a i
    by_cases hf : f i = true <;> simp [hf, b2n]
  rw [hfold, BitVec.getLsbD_or, BitVec.getLsbD_and, BitVec.getLsbD_and, BitVec.getLsbD_not, BitVec.getLsbD_ofNat,
    testBit_ofDigits f hi]
  cases g.getLsbD i <;> simp [hi]

section
variable {t : Tid} {w : IWord} {s : State}
  (h : s.Ready t w (({ a := .v, b := .v, mods := 3 } : Form).ok w && (w.m 0 || !w.m 1)) false [vR w.b.toNat, vR w.a.toNat]) (k : Nat)
include h

/-- R238: a special function of FP32 lanes. -/
theorem sfOp_lanes (hm : w.m 0 = false) :
    sfOp k t w s = s.retireLane t w (fun q => q.setV w.a.toNat
      (vLanes ((s.regs t.code).getV w.a.toNat) ((s.regs t.code).guard w) (fun j => s.sfEval k fp32 (lane ((s.regs t.code).getV w.b.toNat) j)))
      ((s.regs t.code).laneTag w [vR w.b.toNat] ||| (s.regs t.code).keepTag w (vR w.a.toNat))) := by
  refine (State.issue_lane h rfl rfl (fun r => ?_)).trans (s.retireLane_congr t w _ _ ?_)
  · dsimp only
    split <;> rfl
  · simp only [hm, Bool.false_eq_true, if_false]

/-- R238: a special function of a BF16 group. -/
theorem sfOp_group (hm : w.m 0 = true) :
    sfOp k t w s = s.retireLane t w (fun q => q.setV w.a.toNat
      (((List.range 64).filter (fun j => ((s.regs t.code).guard w).getLsbD j)).foldl (fun v j =>
        vPut v ((if w.m 1 then 1024 else 0) + 16 * j) 16 (s.sfEval k bf16 (lane ((s.regs t.code).getV w.b.toNat) j)))
        ((s.regs t.code).getV w.a.toNat))
      ((s.regs t.code).laneTag w [vR w.b.toNat] ||| (s.regs t.code).tag (vR w.a.toNat))) := by
  refine (State.issue_lane h rfl rfl (fun r => ?_)).trans (s.retireLane_congr t w _ _ ?_)
  · dsimp only
    split <;> rfl
  · simp only [hm, if_true]

end

/-- Settles O10: V.CMP bit by bit, and what V.EXTR, V.CVT and the special functions write. -/
theorem compareExtractConvert : Obligations.CompareExtractConvert := by
  intro t w s r a B C sf half
  refine ⟨fun h => ⟨_, congrArg Host.Outcome.next ((State.issue_lane h rfl rfl (by intro; rfl)).trans
      (s.retireLane_congr t w _ _ rfl)), fun i hi => getLsbD_masked _ _ _ hi⟩, fun he h => ?extr, ?cvt,
    fun h => ⟨fun hm => ?full, fun hm => ?half⟩⟩
  case extr =>
    refine congrArg Host.Outcome.next ((State.issue_retire h rfl he rfl (by intro; rfl)).trans (s.retire_congr t w _ _ ?_))
    simp only [TRegs.getG_past, TRegs.getV_past]
    rfl
  case cvt =>
    dsimp only
    intro h10 h10' hs hd hsg hdg h
    have hif {α : Type} (x y : α) :
        (if (decide (w.ms 0 4 = 9) || decide (w.ms 4 4 = 9)) = true then x else y) = if w.ms 0 4 = 9 ∨ w.ms 4 4 = 9 then x else y :=
      if_congr (by rw [Bool.or_eq_true, decide_eq_true_eq, decide_eq_true_eq]) rfl rfl
    unfold exec execVCvt
    refine congrArg Host.Outcome.next ((State.issue_lanes ?_ rfl _).trans ?_)
    · simpa only [hif, h10, h10', hs, hd, hsg, hdg, ne_eq, not_false_eq_true, decide_true, Bool.and_true, Bool.or_true] using h
    · simp only [hif, hs, hd, Bool.or_self, Bool.false_eq_true, if_false]
      refine (Eff.finish_retire_lane _ t w _ (by intro; rfl)).trans (State.retireLane_congr _ t w _ _ ?_)
      rw [State.regs, State.thread, State.convFlags_threads]
      rfl
  case full =>
    exact ⟨congrArg _ (sfOp_lanes h 0 hm), congrArg _ (sfOp_lanes h 1 hm), congrArg _ (sfOp_lanes h 2 hm), congrArg _ (sfOp_lanes h 3 hm),
      congrArg _ (sfOp_lanes h 4 hm)⟩
  case half =>
    exact ⟨congrArg _ (sfOp_group h 0 hm), congrArg _ (sfOp_group h 1 hm), congrArg _ (sfOp_group h 2 hm), congrArg _ (sfOp_group h 3 hm),
      congrArg _ (sfOp_group h 4 hm)⟩

end Sys2Proof.Machine
end

section
/-! The loads and stores of a thread: what each puts under way, what a load delivers, and the bytes a store writes (R471, R485). -/

namespace Sys2Proof.Machine

/-! What a load delivers (R485) -/

theorem toNat_ofNat_mod {n v : Nat} (h : n ≤ 64) : (BitVec.ofNat 64 (v % 2 ^ n)).toNat = v % 2 ^ n := by
  rw [BitVec.toNat_ofNat]
  exact Nat.mod_eq_of_lt (Nat.lt_of_lt_of_le (Nat.mod_lt _ (Nat.two_pow_pos n)) (Nat.pow_le_pow_right (by decide) h))

/-- The signed reading of n bits lies in their range. -/
theorem signed_bounds {n : Nat} (hn : 0 < n) (v : Nat) : -(2 ^ (n - 1) : Nat) ≤ signed n v ∧ signed n v < (2 ^ (n - 1) : Nat) := by
  obtain ⟨m, rfl⟩ : ∃ m, n = m + 1 := ⟨n - 1, by omega⟩
  have hlt : v % 2 ^ (m + 1) < 2 ^ (m + 1) := Nat.mod_lt _ (Nat.two_pow_pos _)
  have hp : 2 ^ (m + 1) = 2 * 2 ^ m := Nat.pow_succ'
  rw [signed, Nat.add_sub_cancel]
  split <;> omega

theorem signed_mod (n v : Nat) : signed n (v % 2 ^ n) = signed n v := by
  simp only [signed, Nat.mod_mod]

/-- A number of at most 64 bits, sign-extended to a register, keeps its signed reading. -/
theorem toInt_signExtended {n : Nat} (hn : 0 < n) (h64 : n ≤ 64) (v : Nat) :
    (BitVec.ofNat 64 (toTwos 64 (signed n v))).toInt = signed n v := by
  obtain ⟨lo, hi⟩ := signed_bounds hn v
  have hp : (2 ^ (n - 1) : Nat) ≤ 2 ^ 63 := Nat.pow_le_pow_right (by decide) (by omega)
  have hb : BitVec.ofNat 64 (toTwos 64 (signed n v)) = BitVec.ofInt 64 (signed n v) := by
    refine BitVec.eq_of_toNat_eq ?_
    rw [BitVec.toNat_ofNat, BitVec.toNat_ofInt, toTwos]
    omega
  rw [hb, BitVec.toInt_ofInt]
  exact Int.bmod_eq_of_le (by omega) (by omega)

theorem TRegs.getG_setG_self (r : TRegs) (i : Nat) (v : BitVec 64) (g : BitVec 8) : (r.setG i v g).getG i = v :=
  SMap.getD_set_self r.g i v 0

theorem TRegs.getG_setG_ne (r : TRegs) {i j : Nat} (h : j ≠ i) (v : BitVec 64) (g : BitVec 8) : (r.setG i v g).getG j = r.getG j :=
  SMap.getD_set_ne r.g i j v 0 h

theorem TRegs.tag_setTag_self (r : TRegs) (c : Nat) (g : BitVec 8) : (r.setTag c g).tag c = g := by
  unfold TRegs.tag TRegs.setTag
  split
  · next h => exact (SMap.getD_erase_self r.tags c 0).trans h.symm
  · exact SMap.getD_set_self r.tags c g 0

theorem TRegs.tag_setG_self (r : TRegs) (i : Nat) (v : BitVec 64) (g : BitVec 8) : (r.setG i v g).tag (gR i) = g :=
  TRegs.tag_setTag_self _ _ _

theorem TRegs.getV_setV_self (r : TRegs) (i : Nat) (v : BitVec 2048) (g : BitVec 8) : (r.setV i v g).getV i = v :=
  SMap.getD_set_self r.v i v 0

theorem TRegs.getD'_setD_self (r : TRegs) (i : Nat) (v : BitVec 128) (g : BitVec 8) : (r.setD i v g).getD' i = v :=
  SMap.getD_set_self r.d i v 0

section
variable (r : TRegs) {l : Load} (v : Nat)

theorem TRegs.putLoad_scalar {i : Nat} (h : l.dest = .scalar i) :
    r.putLoad l v = r.setG i (BitVec.ofNat 64 (if l.sext then toTwos 64 (signed (8 * l.size) v) else v % 2 ^ (8 * l.size))) l.tag := by
  unfold TRegs.putLoad
  rw [h]
  dsimp only
  rw [signed_mod]

theorem TRegs.putLoad_vector {i : Nat} {lanes : BitVec 64} (h : l.dest = .vector i lanes) :
    r.putLoad l v = r.setV i (vLanes (r.getV i) lanes (fun k => bits v (32 * (k - l.skip)) 32))
      (if lanes = allLanes then l.tag else l.tag ||| r.tag (vR i)) := by
  unfold TRegs.putLoad
  rw [h]

theorem TRegs.putLoad_desc {i : Nat} (h : l.dest = .desc i) : r.putLoad l v = r.setD i (BitVec.ofNat 128 v) l.tag := by
  unfold TRegs.putLoad
  rw [h]

end

theorem exec_localLoadReturn (t : Tid) (s : State) :
    exec (.localLoadReturn t) s = .next (match (s.thread t.code).loads.find? (fun l => l.remote.isNone) with
      | none => s
      | some l => s.deliver t.code l l.value) := rfl

/-- R261: a delivery changes its thread alone. -/
theorem State.deliver_sameBut (s : State) (t : Nat) (l : Load) (v : Nat) : s.SameBut t (s.deliver t l v) :=
  ⟨rfl, fun _ hx => State.thread_setThread_ne s _ _ _ hx⟩

/-- Settles O16: the oldest load of this module delivers, and what each kind of load leaves in its destination. -/
theorem loadsReturn : Obligations.LoadsReturn := by
  refine ⟨fun t s l hl => ?oldest, fun t s hr => ?none,
    fun r l v => ⟨fun i hd h8 h0 => ?scalar, fun i lanes k hd hk => ?vector, fun i hd => ?desc⟩⟩
  case oldest =>
    refine ⟨by rw [exec_localLoadReturn, hl], s.deliver_sameBut t.code l l.value, ?_, ?_, fun k hk => ?_⟩
    · simp [State.deliver, State.regs]
    · simp [State.deliver]
    · simpa [State.deliver] using hk
  case none =>
    have hn : (s.thread t.code).loads.find? (fun l => l.remote.isNone) = none := by
      rw [List.find?_eq_none]
      intro l hl
      have := hr l hl
      simp [Option.isSome_iff_ne_none.mp this]
    rw [exec_localLoadReturn, hn]
  case scalar =>
    rw [r.putLoad_scalar v hd]
    refine ⟨fun hs => ?_, fun hs => ?_, TRegs.tag_setG_self _ _ _ _, fun j hj => TRegs.getG_setG_ne _ hj _ _⟩
    · rw [TRegs.getG_setG_self, hs, if_neg Bool.false_ne_true, toNat_ofNat_mod (by omega)]
    · rw [TRegs.getG_setG_self, hs, if_pos rfl, toInt_signExtended (by omega) (by omega)]
  case vector =>
    rw [r.putLoad_vector v hd, TRegs.getV_setV_self, lane_vLanes _ _ _ hk]
    split
    · exact Nat.mod_mod _ _
    · rfl
  case desc =>
    rw [r.putLoad_desc v hd]
    exact ⟨TRegs.getD'_setD_self _ _ _ _, rfl, rfl⟩

/-! What a load puts under way (R48, R63, R102, R485) -/

section
variable {p : State} {th dev : Nat} {runs : List (Nat × Nat)} (dest : Dest) (size skip : Nat) (sext glide : Bool) (tag : BitVec 8)
  (r : TRegs)

section
variable (hf : p.rangesFault dev runs = 0)
include hf

section
variable (hs : p.isSelf (devSplit dev).1 = true)
include hs

/-- R11: a load of a control block brings its value at once. -/
theorem State.loadRuns_csr {off : Nat} (hc : csrOffset (devSplit dev).2 = some off) :
    let c := p.csrLoad off size (match dest with | .scalar _ => true | _ => false)
    p.loadRuns th dev runs dest size skip sext glide tag r = .retire (c.1.addLoad th
      { dest := dest, size := size, sext := sext, value := c.2, tag := tag, remote := none,
        pc := (p.thread th).regs.pc, ord := (p.thread th).joined }) := by
  simp only [State.loadRuns, hf, hs, hc, ne_eq, not_true_eq_false, if_false, Bool.not_true, Bool.false_eq_true] <;> rfl

section
variable (hc : csrOffset (devSplit dev).2 = none)
include hc

/-- R63, R282: a load waits for the array and for held banks. -/
theorem State.loadRuns_waits (hw : p.arrayOwes th runs = true ∨ p.anyHeld runs = true) :
    p.loadRuns th dev runs dest size skip sext glide tag r = .wait .waitData p := by
  simp only [State.loadRuns, hf, hs, hc, ne_eq, not_true_eq_false, if_false, Bool.not_true, Bool.false_eq_true, if_pos hw]

/-- R63: a load of this module is under way with its value. -/
theorem State.loadRuns_here (ho : p.arrayOwes th runs = false) (hh : p.anyHeld runs = false) (hp : p.rangesPoisoned runs = false)
    {mt : BitVec 8} (hm : p.loadTag th glide (rangeLines runs) = some mt) :
    let u := runs.foldl (fun s k => s.touch k.1 k.2) (if glide then p.joinTag th mt r else p)
    p.loadRuns th dev runs dest size skip sext glide tag r = .retire (u.addLoad th
      { dest := dest, size := size, sext := sext, value := p.readNat (devSplit dev).2 size, tag := tag ||| mt, remote := none
        pc := (p.thread th).regs.pc, ord := (u.thread th).joined }) := by
  simp only [State.loadRuns, hf, hs, hc, ho, hh, hp, hm, ne_eq, not_true_eq_false, if_false, Bool.not_true, Bool.false_eq_true, or_self]

end
end

/-- R48: a load of a peer leaves as a LOAD_REQ. -/
theorem State.loadRuns_peer (hs : p.isSelf (devSplit dev).1 = false) (hl : p.linkFault (devSplit dev).1 1 = 0) :
    let first := (runs.head?.getD ((devSplit dev).2, 0)).1
    let last := runs.getLast?.getD ((devSplit dev).2, 0)
    let k := p.newTag (.thread th (p.thread th).regs.pc (p.thread th).owner)
    p.loadRuns th dev runs dest size skip sext glide tag r = .retire ((k.2.addLoad th
      { dest := dest, size := size, sext := sext, value := 0, tag := tag, remote := some (BitVec.ofNat 32 k.1)
        pc := (p.thread th).regs.pc, ord := (p.thread th).joined, skip := skip }).sendPkt (devSplit dev).1 1 0x01
      (loadReqBody first (last.1 + last.2 - first) k.1) (.request k.1)) := by
  simp only [State.loadRuns, hf, hs, hl, ne_eq, not_true_eq_false, if_false, if_true, Bool.not_false]

end
end

@[simp] theorem memAddr_past (r : TRegs) (w : IWord) (n : Nat) : memAddr (r.past w) w n = memAddr r w n := by
  unfold memAddr
  rw [TRegs.getG_past]

section
variable {s : State} {t : Tid} {w : IWord}

section
variable (he : s.Enabled t w)
  (h : s.Ready t w (({ a := .g, b := .g, mods := 7, imm := true } : Form).ok w) false [gR w.b.toNat, gR w.a.toNat]) (glide : Bool)
include he h

/-- R485: LD and LD.GLIDE of an aligned address come to their load. -/
theorem scalarLoad_aligned (ha : memAddr (s.regs t.code) w (2 ^ w.ms 0 2) % 2 ^ w.ms 0 2 = 0) :
    scalarLoad t w glide s = (let n := 2 ^ w.ms 0 2
      let dev := memAddr (s.regs t.code) w n
      (s.pastGuard t w).loadRuns t.code dev [((devSplit dev).2, n)] (.scalar w.a.toNat) n 0 (w.m 2) glide
        ((s.regs t.code).resultTag w [gR w.b.toNat]) (s.regs t.code)).ended s t w := by
  refine (State.issue_enabled h rfl he _).trans ?_
  simp only [State.regs_pastGuard, memAddr_past, ha, ne_eq, not_true_eq_false, if_false]
  rfl

theorem scalarLoad_misaligned (ha : memAddr (s.regs t.code) w (2 ^ w.ms 0 2) % 2 ^ w.ms 0 2 ≠ 0) :
    scalarLoad t w glide s = (s.pastGuard t w).raise t.code 0x0104 w.size := by
  refine State.issue_faults h rfl he ?_
  simp only [State.regs_pastGuard, memAddr_past, if_pos ha]

end

/-- R485: DSC.LD of an aligned address comes to its load. -/
theorem exec_dscLd_aligned (he : s.Enabled t w)
    (h : s.Ready t w (({ a := .d, b := .g, imm := true } : Form).ok w) false [gR w.b.toNat, dR w.a.toNat])
    (ha : memAddr (s.regs t.code) w 16 % 16 = 0) :
    exec (.dscLd t w) s = .next ((let dev := memAddr (s.regs t.code) w 16
      (s.pastGuard t w).loadRuns t.code dev [((devSplit dev).2, 16)] (.desc w.a.toNat) 16 0 false false
        ((s.regs t.code).resultTag w [gR w.b.toNat]) ((s.regs t.code).past w)).ended s t w) := by
  refine congrArg Host.Outcome.next ((State.issue_enabled h rfl he _).trans ?_)
  simp only [State.regs_pastGuard, memAddr_past, ha, ne_eq, not_true_eq_false, if_false]
  rfl

section
variable (h : s.Ready t w (({ a := .v, b := .g, imm := true } : Form).ok w) false [gR w.b.toNat, vR w.a.toNat])
  (ha : memAddr (s.regs t.code) w 256 % 8 = 0) (glide : Bool)
include h ha

theorem vectorLoad_off (hn : laneRuns ((s.regs t.code).guard w) = []) : vectorLoad t w glide s = s.advance t w := by
  refine (State.issue_lanes h rfl _).trans ?_
  simp only [ha, hn, ne_eq, not_true_eq_false, if_false, if_true, Eff.finish_retire]

/-- R471, R485: VLD and VLD.GLIDE of an aligned address come to the load of their enabled lanes. -/
theorem vectorLoad_on (hn : laneRuns ((s.regs t.code).guard w) ≠ []) :
    vectorLoad t w glide s = (let dev := memAddr (s.regs t.code) w 256
      let runs := laneRuns ((s.regs t.code).guard w)
      s.loadRuns t.code dev (runBytes (devSplit dev).2 runs) (.vector w.a.toNat ((s.regs t.code).guard w)) 256
        (if s.isSelf (devSplit dev).1 then 0 else (runs.head?.getD (0, 0)).1) false glide
        ((s.regs t.code).laneTag w [gR w.b.toNat]) (s.regs t.code)).finish t.code w.size := by
  refine (State.issue_lanes h rfl _).trans ?_
  simp only [ha, hn, ne_eq, not_true_eq_false, if_false, Bool.not_eq_true', ← Bool.not_eq_true, ite_not]

end
end

/-- Settles O15: each instruction comes to its load, and a load is one of this module's memory, of a control block or of a peer. -/
theorem loadsIssue : Obligations.LoadsIssue := by
  intro t w s th r n started p devS devV devD runs skip
  have start (fin : Eff → State) {i : Instr} {q : State} {dev : Nat} {runs : List (Nat × Nat)} {dest : Dest} {size skip : Nat}
      {sext glide : Bool} {tag : BitVec 8} (r' : TRegs) (hr : glide = true → r' = r) (hfin : ∀ u, fin (.retire u) = u.advance t w)
      (hwait : fin (.wait .waitData q) = s.waitIn th .waitData)
      (run : exec i s = .next (fin (q.loadRuns th dev runs dest size skip sext glide tag r'))) :
      started i q dev runs dest size skip sext glide tag := by
    have ended {u : State} (hu : q.loadRuns th dev runs dest size skip sext glide tag r' = .retire u) : exec i s = .next (u.advance t w) := by
      rw [run, hu, hfin]
    intro hf
    refine ⟨fun hs hc ho hh hp mt hm => ended ?_, fun hs hc hw => ?_, fun hs off hc => ended ?_, fun hs hl => ended ?_⟩
    · have := State.loadRuns_here dest size skip sext glide tag r' hf hs hc ho hh hp hm
      cases glide
      · exact this
      · rw [← hr rfl]
        exact this
    · rw [run, State.loadRuns_waits dest size skip sext glide tag r' hf hs hc hw, hwait]
    · exact State.loadRuns_csr dest size skip sext glide tag r' hf hs hc
    · exact State.loadRuns_peer dest size skip sext glide tag r' hf hs hl
  refine ⟨fun he h => ⟨fun ha => ⟨?_, ?_⟩, fun ha => ?_⟩, fun he h ha => ?_,
    fun h ha => ⟨fun hn => ⟨?_, ?_⟩, fun hn => ⟨?_, ?_⟩⟩⟩
  · exact start (·.ended s t w) r (fun _ => rfl) (fun _ => rfl) (Eff.ended_wait s t w _) (congrArg _ (scalarLoad_aligned he h false ha))
  · exact start (·.ended s t w) r (fun _ => rfl) (fun _ => rfl) (Eff.ended_wait s t w _) (congrArg _ (scalarLoad_aligned he h true ha))
  · exact congrArg _ (scalarLoad_misaligned he h false ha)
  · exact start (·.ended s t w) _ (fun hg => absurd hg Bool.false_ne_true) (fun _ => rfl) (Eff.ended_wait s t w _) (exec_dscLd_aligned he h ha)
  · exact congrArg _ (vectorLoad_off h ha false hn)
  · exact congrArg _ (vectorLoad_off h ha true hn)
  · exact start (·.finish t.code w.size) r (fun _ => rfl) (fun _ => rfl) rfl (congrArg _ (vectorLoad_on h ha false hn))
  · exact start (·.finish t.code w.size) r (fun _ => rfl) (fun _ => rfl) rfl (congrArg _ (vectorLoad_on h ha true hn))

/-! What a store writes (R48, R106, R485) -/

/-- The width that a control block sees of a store. -/
def storeWidth (size : Option Nat) : AccessSize := match size with | some n => widthOf n | none => .one

section
variable {p : State} {th dev : Nat} {runs : List ((Nat × Nat) × List Byte)} (size : Option Nat) (tag : BitVec 8)

section
variable (hf : p.rangesFault dev (runs.map (·.1)) = 0)
include hf

section
variable (hs : p.isSelf (devSplit dev).1 = true)
include hs

/-- R106: a store to this module writes its bytes once the access opens. -/
theorem State.storeRuns_here (hc : csrOffset (devSplit dev).2 = none) {u : State} {g : BitVec 8}
    (ho : p.Opens th [] (runs.map (·.1)) g u) :
    p.storeRuns th dev runs size tag = .retire (u.putTagged th (runs.flatMap (fun k => cellsFrom k.1.1 k.2)) tag) := by
  simp only [State.storeRuns, hf, hs, hc, ne_eq, not_true_eq_false, if_false, Bool.not_true, Bool.false_eq_true]
  exact State.access_opens ho _

/-- R11: a store to a control block is the register access of its width. -/
theorem State.storeRuns_csr {off : Nat} (hc : csrOffset (devSplit dev).2 = some off)
    (ha : threadCsrFault off (storeWidth size) = 0) :
    p.storeRuns th dev runs size tag = .retire (p.threadCsr off (storeWidth size)
      (leNat ((runs.head?.map (·.2)).getD []))) := by
  simp only [State.storeRuns, hf, hs, hc, ne_eq, not_true_eq_false, if_false, Bool.not_true, Bool.false_eq_true]
  exact if_neg (not_not_intro ha)

end

/-- R48: a store to a peer leaves as one packet for each run. -/
theorem State.storeRuns_peer (hs : p.isSelf (devSplit dev).1 = false) (hl : p.linkFault (devSplit dev).1 1 = 0) :
    p.storeRuns th dev runs size tag = .retire (runs.foldl (fun q k =>
      let g := q.newTag (.thread th (p.thread th).regs.pc (p.thread th).owner)
      g.2.sendPkt (devSplit dev).1 1 0x03 (storeBody k.1.1 g.1 k.2) (.store th (p.thread th).regs.pc (p.thread th).owner)) p) := by
  simp only [State.storeRuns, hf, hs, hl, ne_eq, not_true_eq_false, if_false, if_true, Bool.not_false]

end
end

section
variable {s : State} {t : Tid} {w : IWord}

section
variable (he : s.Enabled t w)
  (h : s.Ready t w (({ a := .g, b := .g, mods := 3, imm := true } : Form).ok w)
    (!(s.ownScratch t.code (memAddr (s.regs t.code) w (2 ^ w.ms 0 2)) [((devSplit (memAddr (s.regs t.code) w (2 ^ w.ms 0 2))).2, 2 ^ w.ms 0 2)]))
    [gR w.a.toNat, gR w.b.toNat])
include he h

/-- R485: ST of an aligned address comes to its store. -/
theorem exec_st_aligned (ha : memAddr (s.regs t.code) w (2 ^ w.ms 0 2) % 2 ^ w.ms 0 2 = 0) :
    exec (.st t w) s = .next ((let n := 2 ^ w.ms 0 2
      let dev := memAddr (s.regs t.code) w n
      (s.pastGuard t w).storeRuns t.code dev [(((devSplit dev).2, n), leBytes n ((s.regs t.code).getG w.a.toNat).toNat)] (some n)
        ((s.regs t.code).resultTag w [gR w.a.toNat, gR w.b.toNat])).ended s t w) := by
  refine congrArg Host.Outcome.next ((State.issue_enabled h rfl he _).trans ?_)
  simp only [State.regs_pastGuard, TRegs.getG_past, ha, ne_eq, not_true_eq_false, if_false]
  rfl

theorem exec_st_misaligned (ha : memAddr (s.regs t.code) w (2 ^ w.ms 0 2) % 2 ^ w.ms 0 2 ≠ 0) :
    exec (.st t w) s = .next ((s.pastGuard t w).raise t.code 0x0104 w.size) :=
  congrArg Host.Outcome.next (State.issue_faults h rfl he (if_pos ha))

end

section
variable (h : s.Ready t w (({ a := .v, b := .g, imm := true } : Form).ok w)
  (!(s.ownScratch t.code (memAddr (s.regs t.code) w 256)
    (runBytes (devSplit (memAddr (s.regs t.code) w 256)).2 (laneRuns ((s.regs t.code).guard w))))) [vR w.a.toNat, gR w.b.toNat])
include h

theorem exec_vst_misaligned (ha : memAddr (s.regs t.code) w 256 % 8 ≠ 0) : exec (.vst t w) s = .next (s.raise t.code 0x0104 w.size) := by
  refine congrArg Host.Outcome.next ((State.issue_lanes h rfl _).trans ?_)
  simp only [if_pos ha, Eff.finish_fault]

section
variable (ha : memAddr (s.regs t.code) w 256 % 8 = 0)
include ha

theorem exec_vst_off (hn : laneRuns ((s.regs t.code).guard w) = []) : exec (.vst t w) s = .next (s.advance t w) := by
  refine congrArg Host.Outcome.next ((State.issue_lanes h rfl _).trans ?_)
  simp only [ha, hn, ne_eq, not_true_eq_false, if_false, if_true, Eff.finish_retire]

/-- R471, R485: VST of an aligned address comes to the store of its enabled lanes. -/
theorem exec_vst_on (hn : laneRuns ((s.regs t.code).guard w) ≠ []) :
    exec (.vst t w) s = .next ((let dev := memAddr (s.regs t.code) w 256
      s.storeRuns t.code dev ((laneRuns ((s.regs t.code).guard w)).map (fun k => (((devSplit dev).2 + 4 * k.1, 4 * k.2),
        leBytes (4 * k.2) (bits ((s.regs t.code).getV w.a.toNat).toNat (32 * k.1) (32 * k.2))))) none
        ((s.regs t.code).laneTag w [vR w.a.toNat, gR w.b.toNat])).finish t.code w.size) := by
  refine congrArg Host.Outcome.next ((State.issue_lanes h rfl _).trans ?_)
  simp only [ha, hn, ne_eq, not_true_eq_false, if_false]

end
end
end

/-- Settles O17: ST and VST come to their store, and a store is one of this module's memory, of a control block or of a peer. -/
theorem storesIssue : Obligations.StoresIssue := by
  intro t w s th r n stored devS devV runs bytesS bytesV
  have start (fin : Eff → State) {i : Instr} {q : State} {dev : Nat} {runs : List ((Nat × Nat) × List Byte)} {size : Option Nat}
      {tag : BitVec 8} (hfin : ∀ u, fin (.retire u) = u.advance t w) (run : exec i s = .next (fin (q.storeRuns th dev runs size tag))) :
      stored i q dev runs size tag := by
    have ended {u : State} (hu : q.storeRuns th dev runs size tag = .retire u) : exec i s = .next (u.advance t w) := by
      rw [run, hu, hfin]
    intro hf
    exact ⟨fun hs hc u g ho => ended (State.storeRuns_here size tag hf hs hc ho),
      fun hs off hc ha => ended (State.storeRuns_csr size tag hf hs hc ha), fun hs hl => ended (State.storeRuns_peer size tag hf hs hl)⟩
  exact ⟨fun he h => ⟨fun ha => start (·.ended s t w) (fun _ => rfl) (exec_st_aligned he h ha), fun ha => exec_st_misaligned he h ha⟩,
    fun h => ⟨fun ha => exec_vst_misaligned h ha, fun ha hn => exec_vst_off h ha hn,
      fun ha hn => start (·.finish t.code w.size) (fun _ => rfl) (exec_vst_on h ha hn)⟩⟩

end Sys2Proof.Machine
end

section
/-! The copies a tile's memory engine accepts: of a thread (R359 to R362, R490) and of a stream command (R514, R516). -/

namespace Sys2Proof.Machine

section
variable {s : State} {t : Tid} {w : IWord}

/-- R260: the end of an instruction that asks the engine of its tile to accept a copy. -/
def State.asksCopy (p : State) (tile f n : Nat) (c : Copy) : Eff :=
  if f ≠ 0 then .fault f p else if !(p.engineRoom tile n) then .wait .waitData p else .retire (p.acceptCopy tile c)

section
variable {p : State} {tile f n : Nat} {c : Copy}

theorem State.asksCopy_fault (h : f ≠ 0) : p.asksCopy tile f n c = .fault f p := if_pos h

theorem State.asksCopy_accepted (h : f = 0) (hr : p.engineRoom tile n = true) : p.asksCopy tile f n c = .retire (p.acceptCopy tile c) := by
  simp [State.asksCopy, h, hr]

theorem State.asksCopy_full (h : f = 0) (hr : p.engineRoom tile n = false) : p.asksCopy tile f n c = .wait .waitData p := by
  simp [State.asksCopy, h, hr]

end

section
variable (he : s.Enabled t w)
include he

/-- R490: MOVE asks for a copy of the bytes its operands name. -/
theorem exec_move (h : s.Ready t w (({ a := .g, b := .g, c := .g, d := .g } : Form).ok w) true
      [gR w.a.toNat, gR w.b.toNat, gR w.c.toNat, gR w.d.toNat]) :
    exec (.move t w) s = .next ((let p := s.pastGuard t w
      let g (i : BitVec 6) : Nat := ((s.regs t.code).getG i.toNat).toNat
      let f := if g w.c = 0 then 0 else p.moveFault (g w.a) (g w.b) (g w.c)
      let bar := barAddr t.code (g w.d)
      p.asksCopy t.tile.val (if f ≠ 0 then f else barFault (g w.d)) (g w.c / 256 + 1)
        { org := .thread t.code (s.thread t.code).regs.pc (s.thread t.code).owner, bar := bar, ep := p.barEpoch bar
          segs := if g w.c = 0 then [] else [.mv (g w.b) (g w.a) (g w.c) true] }).ended s t w) := by
  refine congrArg Host.Outcome.next ((State.issue_enabled h rfl he _).trans ?_)
  simp only [State.thread_pastGuard, TRegs.getG_past, TRegs.pc_past]
  rfl

/-- R490: MOVE.T asks for a copy of the transposed block. -/
theorem exec_moveT (h : let us := if w.m 4 then [0, 1, 2, 3, 4, 5] else [0, 1, 2, 3]
      s.Ready t w (({ a := .g, b := .g, c := .g, mods := if w.m 4 then 0x3F else 0x1F, x := .fields us } : Form).ok w) true
        ([gR w.a.toNat, gR w.b.toNat, gR w.c.toNat] ++ us.map (fun k => gR (w.f k)))) :
    exec (.moveT t w) s = .next ((let p := s.pastGuard t w
      let g (i : Nat) : Nat := ((s.regs t.code).getG i).toNat
      let geom : Geom := { fmt := w.ms 0 4, src := g w.b.toNat, dst := g w.a.toNat, sstride := g (w.f 2), dstride := g (w.f 3),
                           rows := g (w.f 0), cols := g (w.f 1) }
      let y : Transp := { g := geom, sc := w.m 4, col := w.m 5, ssrc := g (w.f 4), sdst := g (w.f 5) }
      let f := p.transpFault y
      let zero := geom.rows = 0 ∨ geom.cols = 0
      let bar := barAddr t.code (g w.c.toNat)
      p.asksCopy t.tile.val (if f ≠ 0 then f else barFault (g w.c.toNat)) (if zero then 1 else y.room)
        { org := .thread t.code (s.thread t.code).regs.pc (s.thread t.code).owner, bar := bar, ep := p.barEpoch bar
          segs := if zero then [] else y.segs, geom := some geom }).ended s t w) := by
  unfold exec execMoveT
  refine congrArg Host.Outcome.next ((State.issue_enabled (by rw [List.append_nil]; exact h) rfl he _).trans ?_)
  simp only [State.thread_pastGuard, TRegs.getG_past, TRegs.pc_past]
  rfl

end
end

@[simp] theorem kvArgs_past (r : TRegs) (w : IWord) : kvArgs (r.past w) w = kvArgs r w := by
  simp only [kvArgs, TRegs.getG_past, TRegs.getD'_past]

/-! KV.GET and KV.PUT -/

theorem Eff.ended_waiting (s u : State) (t : Tid) (w : IWord) (st : TState) :
    (Eff.wait st u).ended s t w = (u.unguard t.code (s.regs t.code).ctrl).waitIn t.code st := rfl

theorem Eff.ended_stop (s u : State) (t : Tid) (w : IWord) (code : BitVec 16) (pc : Nat) :
    (Eff.stop code pc u).ended s t w = u.stopThread t.code code pc := rfl

theorem State.pastGuard_walkRanges (s : State) (t : Tid) (w : IWord) (wn d : Nat) :
    (s.pastGuard t w).walkRanges wn d = s.walkRanges wn d :=
  State.pastGuard_leaves (fun s => State.walkRanges s wn d) (by intro; rfl) w

/-- R378: the state in which a KV.PUT prepares its pages: one that is not in the line yet tries anew. -/
def State.putTry (p : State) (th : Nat) : State := if p.inLine th then p else p.newTry (th + 1)

theorem State.putTry_anyHeld (p : State) (th : Nat) (l : List (Nat × Nat)) : (p.putTry th).anyHeld l = p.anyHeld l := by
  unfold State.putTry
  split <;> rfl

theorem State.putTry_walkRanges (p : State) (th wn d : Nat) : (p.putTry th).walkRanges wn d = p.walkRanges wn d := by
  unfold State.putTry
  split <;> rfl

section
variable {s : State} {t : Tid} {w : IWord} (he : s.Enabled t w) (h : s.Ready t w (kvSpec w).ok true (kvSpec w).reads)
include he h

section
variable (hd : (s.pastGuard t w).descHeld (kvArgs (s.regs t.code) w).wheel = true)
include hd

theorem exec_kvGet_held : exec (.kvGet t w) s = .next (s.waitIn t.code .waitData) := by
  refine congrArg Host.Outcome.next ((State.issue_enabled h rfl he _).trans (Eq.trans ?_ (Eff.ended_wait s t w _)))
  simp only [State.thread_pastGuard, kvArgs_past, hd, if_true]
  rfl

theorem exec_kvPut_held : exec (.kvPut t w) s = .next (s.waitIn t.code .waitData) := by
  refine congrArg Host.Outcome.next ((State.issue_enabled h rfl he _).trans (Eq.trans ?_ (Eff.ended_wait s t w _)))
  simp only [State.thread_pastGuard, kvArgs_past, hd, if_true]
  rfl

end

section
variable (hd : (s.pastGuard t w).descHeld (kvArgs (s.regs t.code) w).wheel = false)
include hd

theorem exec_kvGet_fault (hf : (s.pastGuard t w).kvFault t.code (kvArgs (s.regs t.code) w) true ≠ 0) :
    exec (.kvGet t w) s = .next ((s.pastGuard t w).raise t.code
      ((s.pastGuard t w).kvFault t.code (kvArgs (s.regs t.code) w) true) w.size) := by
  refine congrArg Host.Outcome.next (State.issue_faults h rfl he ?_)
  simp only [State.thread_pastGuard, kvArgs_past, hd, Bool.false_eq_true, if_false, if_pos hf]

theorem exec_kvPut_fault (hf : (s.pastGuard t w).putFault t.code (kvArgs (s.regs t.code) w) ≠ 0) :
    exec (.kvPut t w) s = .next ((s.pastGuard t w).raise t.code
      ((s.pastGuard t w).putFault t.code (kvArgs (s.regs t.code) w)) w.size) := by
  refine congrArg Host.Outcome.next (State.issue_faults h rfl he ?_)
  simp only [State.thread_pastGuard, kvArgs_past, hd, Bool.false_eq_true, if_false, if_pos hf]

theorem exec_kvGet_accepted (hf : (s.pastGuard t w).kvFault t.code (kvArgs (s.regs t.code) w) true = 0)
    (hr : (s.pastGuard t w).engineRoom t.tile.val (2 * (kvArgs (s.regs t.code) w).n) = true) :
    let p := s.pastGuard t w
    let a := kvArgs (s.regs t.code) w
    let pin := p.takePin (coreOf t.code)
    let y := pin.2.tile t.tile.val
    let c : Copy := { org := .thread t.code (s.thread t.code).regs.pc (s.thread t.code).owner, bar := barAddr t.code a.bar
                      ep := p.barEpoch (barAddr t.code a.bar), segs := [], pin := some (coreOf t.code, pin.1)
                      walk := some { wheel := a.wheel, d := (p.wheel a.wheel).stream' a.layer a.group a.kind, desc := a.dsc
                                     token := a.token, left := a.n, row := 0 } }
    let q := (pin.2.setTile t.tile.val { y with nextId := y.nextId + 1, copies := y.copies.set y.nextId c }).translate
      (a.n + 2) t.tile.val y.nextId none
    exec (.kvGet t w) s = .next (((q.issueTxns t.tile.val 8192).settleCopy t.tile.val y.nextId).advance t w) := by
  refine congrArg Host.Outcome.next (State.issue_retires h rfl he ?_)
  simp only [State.thread_pastGuard, kvArgs_past, hd, hf, hr, Bool.false_eq_true, if_false, ne_eq, not_true_eq_false, Bool.not_true,
    TRegs.pc_past]
  rfl

/-- R359, R362, R378: how a KV.PUT ends, its pages prepared: accepted, in line, or stopped. -/
def PutPrep.ends (prep : PutPrep) (t : Tid) (x : Thread) (a : KvArgs) (d : Nat) (pages : List Nat) : Eff :=
  match prep with
  | .wait u => .wait .waitData (u.joinLine t.code)
  | .fail u => .stop 0x0721 x.regs.pc (u.leaveLine t.code)
  | .ready u =>
    let v := u.leaveLine t.code
    let pin := v.takePin (coreOf t.code)
    let bar := barAddr t.code a.bar
    let q := pin.2.putSegs t.tile.val a.wheel d (Desc.dec a.dsc) a.token a.n pages
    .retire (q.2.acceptCopy t.tile.val
      { org := .thread t.code x.regs.pc x.owner, bar := bar, ep := v.barEpoch bar, segs := q.1, pin := some (coreOf t.code, pin.1) })

/-- R285, R359: a KV.PUT that passes its tests, with room and its tables at rest, reads its pages' tables and prepares them. -/
theorem exec_kvPut_served (hf : (s.pastGuard t w).putFault t.code (kvArgs (s.regs t.code) w) = 0)
    (hr : (s.pastGuard t w).engineRoom t.tile.val (2 * (kvArgs (s.regs t.code) w).n) = true) :
    let p := s.pastGuard t w
    let a := kvArgs (s.regs t.code) w
    let d := (p.wheel a.wheel).stream' a.layer a.group a.kind
    let pages := (p.wheel a.wheel).pagesOf a.token a.n
    let q := if p.inLine t.code then p else p.newTry (t.code + 1)
    (∀ l ∈ pages.map (s.walkRanges a.wheel d), p.anyHeld l = false) →
    exec (.kvPut t w) s = .next ((if pages.any (q.walkBad a.wheel d) then .fault 0x0510 (q.leaveLine t.code)
      else ((q.touchAll (pages.flatMap (s.walkRanges a.wheel d))).putPages t.code a.wheel d pages).ends
        t (s.thread t.code) a d pages).ended s t w) := by
  intro p a d pages q hh
  have hq : q = p.putTry t.code := rfl
  have hrest : pages.any (fun i => q.anyHeld (q.walkRanges a.wheel d i)) = false := by
    rw [List.any_eq_false]
    intro i hi
    rw [hq, State.putTry_anyHeld, State.putTry_walkRanges, State.pastGuard_walkRanges, hh _ (List.mem_map_of_mem hi)]
    exact Bool.false_ne_true
  have hwalk : q.walkRanges a.wheel d = s.walkRanges a.wheel d := by
    rw [hq, State.putTry_walkRanges, State.pastGuard_walkRanges]
  refine congrArg Host.Outcome.next ((State.issue_enabled h rfl he _).trans ?_)
  simp only [State.thread_pastGuard, kvArgs_past, hd, hf, hr, Bool.false_eq_true, if_false, ne_eq, not_true_eq_false, Bool.not_true,
    TRegs.pc_past]
  change Eff.ended (if pages.any (fun i => q.anyHeld (q.walkRanges a.wheel d i)) = true then _
    else if pages.any (q.walkBad a.wheel d) = true then _ else _) s t w = _
  rw [hrest, if_neg Bool.false_ne_true, ← hwalk]
  rfl

theorem exec_kvPut_poisoned (hf : (s.pastGuard t w).putFault t.code (kvArgs (s.regs t.code) w) = 0)
    (hr : (s.pastGuard t w).engineRoom t.tile.val (2 * (kvArgs (s.regs t.code) w).n) = true) :
    let p := s.pastGuard t w
    let a := kvArgs (s.regs t.code) w
    let d := (p.wheel a.wheel).stream' a.layer a.group a.kind
    let pages := (p.wheel a.wheel).pagesOf a.token a.n
    let q := if p.inLine t.code then p else p.newTry (t.code + 1)
    (∀ l ∈ pages.map (s.walkRanges a.wheel d), p.anyHeld l = false) →
    (∃ i ∈ pages, q.walkBad a.wheel d i = true) →
    exec (.kvPut t w) s = .next ((q.leaveLine t.code).raise t.code 0x0510 w.size) := by
  intro p a d pages q hh hb
  rw [exec_kvPut_served he h hd hf hr hh, if_pos (List.any_eq_true.mpr hb), Eff.ended_fault]

theorem exec_kvPut_prepared (hf : (s.pastGuard t w).putFault t.code (kvArgs (s.regs t.code) w) = 0)
    (hr : (s.pastGuard t w).engineRoom t.tile.val (2 * (kvArgs (s.regs t.code) w).n) = true) {prep : PutPrep} :
    let p := s.pastGuard t w
    let a := kvArgs (s.regs t.code) w
    let d := (p.wheel a.wheel).stream' a.layer a.group a.kind
    let pages := (p.wheel a.wheel).pagesOf a.token a.n
    let q := if p.inLine t.code then p else p.newTry (t.code + 1)
    (∀ l ∈ pages.map (s.walkRanges a.wheel d), p.anyHeld l = false) →
    (∀ i ∈ pages, q.walkBad a.wheel d i = false) →
    (q.touchAll (pages.map (s.walkRanges a.wheel d)).flatten).putPages t.code a.wheel d pages = prep →
    exec (.kvPut t w) s = .next ((prep.ends t (s.thread t.code) a d pages).ended s t w) := by
  intro p a d pages q hh hb hp
  have hclean : ¬ pages.any (q.walkBad a.wheel d) = true := by
    rw [List.any_eq_true]
    exact fun ⟨i, hi, hbad⟩ => absurd hbad (Bool.eq_false_iff.mp (hb i hi))
  rw [exec_kvPut_served he h hd hf hr hh, if_neg hclean, List.flatMap_def, hp]

end
end

/-- Settles O27: MOVE and MOVE.T ask for their copy; KV.GET and KV.PUT by what they meet. -/
theorem copiesAccepted : Obligations.CopiesAccepted := by
  intro t w s he th tile x p g made accepts
  have take {i : Instr} {f n : Nat} {c : Copy} (run : exec i s = .next ((p.asksCopy tile f n c).ended s t w)) : accepts i f n c :=
    ⟨fun hf => by rw [run, State.asksCopy_fault hf, Eff.ended_fault], fun hf hr => by rw [run, State.asksCopy_accepted hf hr, Eff.ended_retire],
      fun hf hr => by rw [run, State.asksCopy_full hf hr, Eff.ended_wait]⟩
  refine ⟨fun h => take (exec_move he h), fun h => take (exec_moveT he h),
    fun h => ⟨fun hd => ⟨exec_kvGet_held he h hd, exec_kvPut_held he h hd⟩,
    fun hd => ⟨exec_kvGet_fault he h hd, fun hf hr => ?get, exec_kvPut_fault he h hd, fun hf hr hh => ⟨fun hb => ?poisoned, fun hb =>
      ⟨fun u hu => ?ready, fun u hu => ?wait, fun u hu => ?fail⟩⟩⟩⟩⟩
  case get => exact exec_kvGet_accepted he h hd hf hr
  case poisoned => exact exec_kvPut_poisoned he h hd hf hr hh hb
  case ready => exact (exec_kvPut_prepared he h hd hf hr hh hb hu).trans (congrArg _ (Eff.ended_retire s t w _))
  case wait => exact (exec_kvPut_prepared he h hd hf hr hh hb hu).trans (congrArg _ (Eff.ended_waiting s _ t w _))
  case fail => exact (exec_kvPut_prepared he h hd hf hr hh hb hu).trans (congrArg _ (Eff.ended_stop s _ t w _ _))

/-! The copies of stream commands -/

section
variable {s : State} {k : CmdRef} {c : Cmd}

/-- R511: a copy command that starts runs once its engine has room. -/
theorem State.copyCmd_runs {opc : Nat} {used : List (Nat × Nat)} (h : s.Starts k opc used c) {room : Cmd → State → Bool}
    (hr : room c s = true) (run : Cmd → State → State) : s.copyCmd k opc used room run = run c (s.startCmd k) := by
  unfold State.copyCmd
  simp [h.held, h.may, h.clean, hr]

theorem State.copyTile_startCmd (s : State) (k : CmdRef) (b : Nat) : (s.startCmd k).copyTile b = s.copyTile b := rfl

theorem State.tilesOn_startCmd (s : State) (k : CmdRef) : (s.startCmd k).tilesOn = s.tilesOn := rfl

section
variable {t : Nat} (h : s.Starts k 0x02 [(0, 25)] c) (ht : s.copyTile (c.body 24 1) = some t)
  (hr : s.engineRoom t (c.body 16 8 / 256 + 1) = true)
include h ht hr

/-- R514: COPY with room in its engine: the ends of its count and its ranges, or the copy. -/
theorem exec_copy_runs :
    exec (.copy k) s = .next (let p := s.startCmd k
      let n := c.body 16 8
      let f := p.moveFault (c.body 0 8) (c.body 8 8) n
      if 2 ^ 40 < n then p.finishCmd k 0x0A11 else if n = 0 then p.finishCmd k 0 else if f ≠ 0 then p.finishCmd k f
      else p.acceptCopy t { org := .cmd k, bar := 0, ep := 0, segs := [.mv (c.body 8 8) (c.body 0 8) n true] }) := by
  refine congrArg Host.Outcome.next ((State.copyCmd_runs h ?_ _).trans ?_)
  · rw [ht]
    exact hr
  · simp only [State.copyTile_startCmd, ht]

end

section
variable {t : Nat} (h : s.Starts k 0x03 [(0, 26), (32, 40)] c) (ht : s.copyTile (c.body 24 1) = some t)
  (hr : s.engineRoom t ((transpOf c).srcLen / 256 + (transpOf c).dstLen / 256 + 2) = true)
include h ht hr

/-- R514: COPY.T with room in its engine. -/
theorem exec_copyT_runs :
    exec (.copyT k) s = .next (let p := s.startCmd k
      let x := transpOf c
      let f := p.transpFault x
      if c.body 25 1 ≥ 64 then p.finishCmd k 0x0A11 else if f ≠ 0 then p.finishCmd k f
      else if x.g.rows = 0 ∨ x.g.cols = 0 then p.finishCmd k 0
      else p.acceptCopy t { org := .cmd k, bar := 0, ep := 0, segs := x.segs, geom := some x.g }) := by
  refine congrArg Host.Outcome.next ((State.copyCmd_runs h ?_ _).trans ?_)
  · rw [ht]
    exact hr
  · simp only [State.copyTile_startCmd, ht]

end

section
variable {t : Nat} (h : s.Starts k 0x18 [(0, 13)] c) (ht : s.tilesOn.head? = some t) (hr : s.engineRoom t 1 = true)
  (hh : s.caveHeld c = false)
include h ht hr hh

/-- R516: CAVE with room in the engine of the lowest tile, its list not in a held bank. -/
theorem exec_cave_runs :
    exec (.cave k) s = .next (let p := s.startCmd k
      let a := c.body 0 8 % 2 ^ 46
      let n := c.body 8 4
      let f := p.addrFault .engine a (24 * n)
      let es := (List.range n).map (fun i => p.caveExtent (c.body 12 1) (a + 24 * i))
      let fault := ((es.find? (fun e => e.2 ≠ 0)).map (·.2)).getD 0
      if 2 ^ 20 < n ∨ 1 < c.body 12 1 then p.finishCmd k 0x0A11
      else if n = 0 then p.finishCmd k 0
      else if f ≠ 0 then p.finishCmd k f
      else if p.poisoned a (24 * n) then p.finishCmd k 0x0511
      else if fault ≠ 0 then (p.touch a (24 * n)).finishCmd k fault
      else (p.touch a (24 * n)).acceptCopy t { org := .cmd k, bar := 0, ep := 0, ordered := true
                                               segs := (es.filter (fun e => e.1.2.2 ≠ 0)).map (fun e => .mv e.1.1 e.1.2.1 e.1.2.2 true) }) := by
  refine congrArg Host.Outcome.next ((State.copyCmd_runs h ?_ _).trans ?_)
  · rw [ht, hh]
    exact Bool.and_eq_true_iff.mpr ⟨hr, rfl⟩
  · simp only [State.tilesOn_startCmd, ht]

end
end

/-- Settles O28: each command that starts with room, by what its operands meet. -/
theorem copyCommands : Obligations.CopyCommands := by
  intro k s c p
  refine ⟨fun t h ht hr => ?copy, fun t h ht hr hb => ?copyT, fun t h ht hr hh => ?cave⟩
  case copy =>
    rw [exec_copy_runs h ht hr]
    refine ⟨fun h0 => ?_, fun h40 => ?_, fun hpos h40 hf => ?_, fun hpos h40 hf => ?_⟩
    · rw [if_neg (by omega), if_pos h0]
    · rw [if_pos h40]
    · rw [if_neg (by omega), if_neg (by omega), if_pos hf]
    · rw [if_neg (by omega), if_neg (by omega), if_neg (not_not_intro hf)]
  case copyT =>
    rw [exec_copyT_runs h ht hr]
    refine ⟨fun hf => ?_, fun hf hz => ?_, fun hf hrows hcols => ?_⟩
    · rw [if_neg (by omega), if_pos hf]
    · rw [if_neg (by omega), if_neg (not_not_intro hf), if_pos hz]
    · rw [if_neg (by omega), if_neg (not_not_intro hf), if_neg (not_or.mpr ⟨hrows, hcols⟩)]
  case cave =>
    intro a n es hn hdir
    rw [exec_cave_runs h ht hr hh]
    refine ⟨fun h0 => ?_, fun hpos hf hp => ?_, fun hpos hf hp => ⟨fun e he => ?_, fun hgood => ?_⟩⟩
    · rw [if_neg (by omega), if_pos h0]
    · rw [if_neg (by omega), if_neg (by omega), if_neg (not_not_intro hf), if_pos hp]
    · have hne : e.2 ≠ 0 := by simpa using List.find?_some he
      have hfault : ((es.find? (fun e => e.2 ≠ 0)).map (·.2)).getD 0 = e.2 := by rw [he]; rfl
      rw [if_neg (by omega), if_neg (by omega), if_neg (not_not_intro hf), if_neg (Bool.eq_false_iff.mp hp), hfault, if_pos hne]
    · have hnone : ((es.find? (fun e => e.2 ≠ 0)).map (·.2)).getD 0 = 0 := by
        rw [List.find?_eq_none.mpr (fun e he => by simp [hgood e he])]
        rfl
      rw [if_neg (by omega), if_neg (by omega), if_neg (not_not_intro hf), if_neg (Bool.eq_false_iff.mp hp), hnone,
        if_neg (not_not_intro rfl)]

end Sys2Proof.Machine
end

section
/-! The stream front end (R507 to R509, R511, R518 to R521, R531). -/

namespace Sys2Proof.Machine

/-! What a record of the fault log leaves (R671) -/

section
variable {β : Type} (view : State → β) (hfld : ∀ s f v, view (State.setFld s f v) = view s)
  (hlog : ∀ (s : State) l n, view { s with flog := l, flogCount := n } = view s)
  (hpend : ∀ (s : State) m, view { s with msixPend := m } = view s) (hout : ∀ (s : State) o, view { s with out := o } = view s)
include hpend hout

theorem State.raiseVec_leaves (s : State) (port vec : Nat) : view (s.raiseVec port vec) = view s := by
  unfold State.raiseVec
  dsimp only
  split
  · exact hpend s _
  · exact hout s _

include hfld hlog

/-- R671: a record of the fault log changes fields, the log and the vectors alone. -/
theorem State.logRec_leaves (s : State) (code source detail : Nat) : view (s.logRec code source detail) = view s := by
  unfold State.logRec
  extract_lets h n r full u v w
  have moved : view u = view s := by
    unfold u
    split
    · exact (hfld _ _ _).trans (hfld _ _ _)
    · rfl
  have logged : view w = view s := (hfld _ _ _).trans ((hlog _ _ _).trans moved)
  split
  · exact (State.raiseVec_leaves view hpend hout _ _ _).trans logged
  · exact logged

theorem State.log_leaves (s : State) (code detail : Nat) : view (s.log code detail) = view s :=
  State.logRec_leaves view hfld hlog hpend hout s _ _ _

end

theorem State.log_cpr (s : State) (code detail : Nat) : (s.log code detail).cpr = s.cpr :=
  State.log_leaves State.cpr (fun _ _ _ => rfl) (fun _ _ _ => rfl) (fun _ _ => rfl) (fun _ _ => rfl) s code detail

theorem State.portPut_cpr (s : State) (q a : Nat) (bs : List Byte) : (s.portPut q a bs).cpr = s.cpr := by
  unfold State.portPut
  extract_lets f
  split
  · exact s.log_cpr _ _
  split
  · exact s.log_cpr _ _
  split
  · exact s.log_cpr _ _
  · rfl

theorem State.jWrite_cpr (s : State) (i kind seq opc crc : Nat) : (s.jWrite i kind seq opc crc).cpr = s.cpr :=
  s.portPut_cpr _ _ _

theorem State.finishCmd_cpr (s : State) (k : CmdRef) (fault result : Nat) (poison : Bool) :
    (s.finishCmd k fault result poison).cpr = s.cpr := by
  unfold State.finishCmd
  split
  · rfl
  split
  · rfl
  dsimp only
  split
  · unfold State.fillDone
    dsimp only
    split <;> rfl
  · rfl

/-! Stream control (R507, R509, R531) -/

/-- R13: a one-bit field that the mask names takes its bit of the value. -/
theorem State.storeFld_bit {f : Fld} (h : f.acc = .rw) (hl : f.len = 1) {mask : Nat} (hm : bits mask f.lo f.len = 1) (s : State) (v : Nat) :
    s.storeFld f mask v = s.setFld f (bits v f.lo 1) := by
  have one : bits v f.lo f.len = bits v f.lo 1 := by rw [hl]
  have bit : maskMix (s.fld f) (bits v f.lo 1) 1 % 2 = bits v f.lo 1 % 2 := by
    have := bitAt_maskMix (s.fld f) (bits v f.lo 1) 1 0
    simp only [bitAt, Nat.pow_zero, Nat.div_one, decide_eq_decide, if_true, Nat.one_mod, decide_true] at this
    omega
  rw [s.storeFld_rw mask v h, hm, if_neg Nat.one_ne_zero, State.setFld, State.setFld, one, hl, Nat.pow_one, bit]

section
variable (s : State) (i v : Nat)

theorem streamCtl_noLk : ∀ f ∈ (Reg.HST_S_CTL i).fields, f.acc ≠ .lk := by
  simp [Reg.fields, Fd.HST_S_CTL_EN, Fd.HST_S_CTL_PORT, Fd.HST_S_CTL_STOP, Fd.HST_S_CTL_RESUME, Fd.HST_S_CTL_CMD_LOG,
    Fd.HST_S_CTL_CPL_LOG, Fd.HST_S_CTL_VEC, Fd.HST_S_CTL_VEC_EN]

/-- R507: a write of bit 0 of HST_S_CTL alone reaches EN alone. -/
theorem State.writeFields_streamEn : s.writeFields (.HST_S_CTL i) 1 v = s.setFld (Fd.HST_S_CTL_EN i) (bits v 0 1) := by
  rw [State.writeFields_noLk (streamCtl_noLk i)]
  simp only [Reg.fields, List.foldl_cons, List.foldl_nil]
  rw [State.storeFld_bit (f := Fd.HST_S_CTL_EN i) (mask := 1) rfl rfl (show bits 1 0 1 = 1 by decide),
    State.storeFld_unnamed (f := Fd.HST_S_CTL_PORT i) rfl (show bits 1 1 1 = 0 by decide),
    State.storeFld_unnamed (f := Fd.HST_S_CTL_STOP i) rfl (show bits 1 2 1 = 0 by decide),
    State.storeFld_discards (f := Fd.HST_S_CTL_RESUME i) _ _ _ (.inr rfl),
    State.storeFld_unnamed (f := Fd.HST_S_CTL_CMD_LOG i) rfl (show bits 1 4 4 = 0 by decide),
    State.storeFld_unnamed (f := Fd.HST_S_CTL_CPL_LOG i) rfl (show bits 1 8 4 = 0 by decide),
    State.storeFld_unnamed (f := Fd.HST_S_CTL_VEC i) rfl (show bits 1 16 12 = 0 by decide),
    State.storeFld_unnamed (f := Fd.HST_S_CTL_VEC_EN i) rfl (show bits 1 28 1 = 0 by decide)]
  rfl

/-- R531: a write that does not name bit 0 of HST_S_CTL leaves EN. -/
theorem State.isSet_streamEn_writeFields {mask : Nat} (hm : bits mask 0 1 = 0) :
    (s.writeFields (.HST_S_CTL i) mask v).isSet (Fd.HST_S_CTL_EN i) = s.isSet (Fd.HST_S_CTL_EN i) := by
  have other {f : Fld} (ha : f.addr = (Reg.HST_S_CTL i).addr) (hl : 0 ≠ f.lo) (u : State) :
      (u.storeFld f mask v).fld (Fd.HST_S_CTL_EN i) = u.fld (Fd.HST_S_CTL_EN i) :=
    u.fld_storeFld_ne mask v (Fld.key_ne_of_lo ha.symm hl)
  suffices hf : (s.writeFields (.HST_S_CTL i) mask v).fld (Fd.HST_S_CTL_EN i) = s.fld (Fd.HST_S_CTL_EN i) by
    simp only [State.isSet, hf]
  rw [State.writeFields_noLk (streamCtl_noLk i)]
  simp only [Reg.fields, List.foldl_cons, List.foldl_nil]
  rw [other (f := Fd.HST_S_CTL_VEC_EN i) rfl (by simp [Fd.HST_S_CTL_VEC_EN]), other (f := Fd.HST_S_CTL_VEC i) rfl (by simp [Fd.HST_S_CTL_VEC]),
    other (f := Fd.HST_S_CTL_CPL_LOG i) rfl (by simp [Fd.HST_S_CTL_CPL_LOG]),
    other (f := Fd.HST_S_CTL_CMD_LOG i) rfl (by simp [Fd.HST_S_CTL_CMD_LOG]),
    other (f := Fd.HST_S_CTL_RESUME i) rfl (by simp [Fd.HST_S_CTL_RESUME]), other (f := Fd.HST_S_CTL_STOP i) rfl (by simp [Fd.HST_S_CTL_STOP]),
    other (f := Fd.HST_S_CTL_PORT i) rfl (by simp [Fd.HST_S_CTL_PORT]), State.storeFld_unnamed (f := Fd.HST_S_CTL_EN i) rfl hm]

end

/-! Enabling and stopping -/

section
variable {s : State} {i : Nat}

/-- R507: the state of a stream and of its commands is that of a stream that has accepted none. -/
def State.streamGone (s : State) (i : Nat) : State :=
  { s with streams := SMap.erase s.streams i, cmds := s.cmds.filter (fun e => e.1 / 2 ^ 32 ≠ i) }

theorem State.isSet_setFld_one (s : State) {f : Fld} (h : f.len = 1) : (s.setFld f 1).isSet f = true := by
  simp [State.isSet, h]

theorem State.isSet_setFld_zero (s : State) (f : Fld) : (s.setFld f 0).isSet f = false := by
  simp [State.isSet]

section
variable (h : s.isSet (Fd.HST_S_CTL_EN i) = false)
include h

/-- R507: EN written 1 starts a disabled stream whose rings pass their checks. -/
theorem State.writeStreamCtl_enables (ho : (s.writeFields (.HST_S_CTL i) 1 1).streamOk i = true) :
    s.writeStreamCtl i 1 1 = (((((s.writeFields (.HST_S_CTL i) 1 1).streamGone i).setFld (Fd.HST_S_SEQ_ACCEPTED i) 0xFFFFFFFF).setFld
      (Fd.HST_S_SEQ_COMMITTED i) 0xFFFFFFFF).setFld (Fd.HST_S_CPLP_COMPLETED i) 0xFFFFFFFF).showStream i := by
  have on : (s.writeFields (.HST_S_CTL i) 1 1).isSet (Fd.HST_S_CTL_EN i) = true := by
    rw [State.writeFields_streamEn]
    exact State.isSet_setFld_one s rfl
  simp only [State.writeStreamCtl, h, on, ho, Bool.false_eq_true, Bool.not_true, Bool.not_false, and_self, if_true, if_false]
  rfl

theorem State.writeStreamCtl_refused (ho : (s.writeFields (.HST_S_CTL i) 1 1).streamOk i = false) :
    s.writeStreamCtl i 1 1 = s.streamFault i 0x0A17 := by
  have on : (s.writeFields (.HST_S_CTL i) 1 1).isSet (Fd.HST_S_CTL_EN i) = true := by
    rw [State.writeFields_streamEn]
    exact State.isSet_setFld_one s rfl
  simp only [State.writeStreamCtl, h, on, ho, Bool.false_eq_true, Bool.not_true, Bool.not_false, and_self, if_true, if_false]

end

/-- R531: EN written 0 clears a stopped stream whose commands have completed, and is refused otherwise. -/
theorem State.writeStreamCtl_disables (h : s.isSet (Fd.HST_S_CTL_EN i) = true) :
    s.writeStreamCtl i 1 0 =
      if s.fld (Fd.HST_S_STAT_STATE i) = 4 ∧ s.fld (Fd.HST_S_CPLP_COMPLETED i) = s.fld (Fd.HST_S_SEQ_ACCEPTED i) then
        ((s.writeFields (.HST_S_CTL i) 1 0).streamGone i).showStream i
      else s.streamFault i 0x0A17 := by
  have off : (s.writeFields (.HST_S_CTL i) 1 0).isSet (Fd.HST_S_CTL_EN i) = false := by
    rw [State.writeFields_streamEn]
    exact State.isSet_setFld_zero s _
  simp only [State.writeStreamCtl, h, off, Bool.not_false, and_self, if_true]
  rfl

/-- R509, R531: a write that does not name EN stores, and with RESUME lets a halted stream go on. -/
theorem State.writeStreamCtl_keeps {mask v : Nat} (hm : bits mask 0 1 = 0) :
    s.writeStreamCtl i mask v = ((if bitAt mask 3 && bitAt v 3 then
      (s.writeFields (.HST_S_CTL i) mask v).setStream i (fun x => { x with halted := false }) else s.writeFields (.HST_S_CTL i) mask v)).showStream i := by
  have en := s.isSet_streamEn_writeFields i v hm
  unfold State.writeStreamCtl
  simp only [en]
  cases s.isSet (Fd.HST_S_CTL_EN i) <;> rfl

end

theorem State.writeStreamCtl_stops (s : State) (i : Nat) : s.writeStreamCtl i 4 4 = (s.writeFields (.HST_S_CTL i) 4 4).showStream i := by
  rw [State.writeStreamCtl_keeps (by decide), if_neg (by decide)]

theorem State.writeStreamCtl_resumes (s : State) (i : Nat) : s.writeStreamCtl i 8 8 =
    ((s.writeFields (.HST_S_CTL i) 8 8).setStream i (fun x => { x with halted := false })).showStream i := by
  rw [State.writeStreamCtl_keeps (by decide), if_pos (by decide)]

/-! Tails, fetches and acceptance (R508, R509, R511, R519) -/

section
variable {s : State} {i : Nat}

/-- R508: a tail that is ahead is taken. -/
theorem State.learnTail_ahead {v : BitVec 32} (he : s.isSet (Fd.HST_S_CTL_EN i) = true) (h0 : 0 < (v - (s.stream i).tail).toNat)
    (h31 : (v - (s.stream i).tail).toNat < 2 ^ 31) : s.learnTail i v = s.setStream i (fun x => { x with tail := v }) :=
  if_pos ⟨he, h0, h31⟩

theorem State.learnTail_behind {v : BitVec 32} (h : (v - (s.stream i).tail).toNat = 0 ∨ 2 ^ 31 ≤ (v - (s.stream i).tail).toNat) :
    s.learnTail i v = s :=
  if_neg (fun ⟨_, h0, h31⟩ => by omega)

/-- R509: the ring overran: the host wrote over an uncommitted slot. -/
theorem State.tailFar_iff : s.tailFar i = true ↔
    s.cmdEntries i < ((s.stream i).tail - BitVec.ofNat 32 (s.fld (Fd.HST_S_SEQ_COMMITTED i) + 1)).toNat := by
  simp [State.tailFar]

/-- R509: a running stream that has fetched nothing takes the next entry, or halts. -/
theorem exec_entryFetch_running {st : Fin 4096} {s : State} (entry : BitVec 1024) (he : s.isSet (Fd.HST_S_CTL_EN st.val) = true)
    (hh : (s.stream st.val).halted = false) (hu : s.streamUp st.val = true) (hr : (s.stream st.val).replay = none)
    (h1 : s.fld (Fd.HST_S_STAT_STATE st.val) = 1) (hf : (s.stream st.val).fetched = none) :
    let n : BitVec 32 := BitVec.ofNat 32 (s.fld (Fd.HST_S_SEQ_ACCEPTED st.val) + 1)
    let ahead := ((s.stream st.val).tail - n).toNat
    0 < ahead → ahead < 2 ^ 31 →
    exec (.entryFetch st entry) s = .next (if bits entry.toNat 32 32 ≠ n.toNat ∨ s.tailFar st.val then s.haltStream st.val
      else s.setStream st.val (fun x => { x with fetched := some entry })) := by
  intro n ahead h0 h31
  have taken : ¬ ((s.stream st.val).fetched.isSome = true ∨ ahead = 0 ∨ 2 ^ 31 ≤ ahead) := by
    rw [hf]
    simp only [Option.isSome_none, Bool.false_eq_true, false_or]
    omega
  refine congrArg Host.Outcome.next ?_
  simp only [he, hh, hu, hr, h1, Bool.not_true, Bool.false_eq_true, or_self, if_false, if_true]
  exact if_neg taken

theorem State.acceptEntry_cpr (s : State) (i : Nat) (k : CmdRef) (opc : Nat) (c : Cmd) (isFill idle : Bool) :
    (s.acceptEntry i k opc c isFill idle).cpr = s.cpr := by
  unfold State.acceptEntry
  extract_lets a b c h
  have journal : c.cpr = s.cpr := by simp only [c, b, a, State.setStream_cpr, State.setFld_cpr, State.jWrite_cpr]
  have held : h.cpr = s.cpr := by
    unfold h
    split <;> exact journal
  split
  · exact held
  split
  · exact (State.finishCmd_cpr _ _ _ _ _).trans held
  · exact held

/-- R509: an entry whose ring has overrun since its fetch halts the stream. -/
theorem exec_commandAccept_far {st : Fin 4096} {s : State} {e : BitVec 1024} (hf : (s.stream st.val).fetched = some e)
    (h1 : s.fld (Fd.HST_S_STAT_STATE st.val) = 1) (hu : s.streamUp st.val = true) (ht : s.tailFar st.val = true) :
    exec (.commandAccept st) s = .next (s.haltStream st.val) := by
  refine congrArg Host.Outcome.next ?_
  simp only [hf, h1, hu, ht, ne_eq, not_true_eq_false, Bool.not_true, Bool.false_eq_true, or_self, if_false, if_true]

/-- R511, R519: outside a compute-part reset an entry is journalled, numbered and screened. -/
theorem exec_commandAccept {st : Fin 4096} {s : State} {e : BitVec 1024} (hf : (s.stream st.val).fetched = some e)
    (h1 : s.fld (Fd.HST_S_STAT_STATE st.val) = 1) (hu : s.streamUp st.val = true) (ht : s.tailFar st.val = false)
    (hj : s.jRoom = true) (hc : s.cpr = 0) :
    let k : CmdRef := { stream := st, seq := BitVec.ofNat 32 (s.fld (Fd.HST_S_SEQ_ACCEPTED st.val) + 1) }
    let opc := bits e.toNat 0 8
    let isFill := decide (opc = 0x28) && decide (bits e.toNat 224 8 = 1)
    let idle := decide (s.fld Fd.JOB_STEP_STATE = 0)
    exec (.commandAccept st) s = .next ((s.acceptEntry st.val k opc
      { entry := e, commit := e.getLsbD 8 || opcForcing opc || decide (255 ≤ s.openCount st.val), crc := crc32 (entryBytes e)
        again := false, replayed := false, fill := isFill && idle, pre := 0 } isFill idle).screen k opc) := by
  refine congrArg Host.Outcome.next ?_
  simp only [hf, h1, hu, ht, hj, State.acceptEntry_cpr, hc, ne_eq, not_true_eq_false, Bool.not_true, Bool.false_eq_true, or_self, if_false,
    if_true, decide_false, Bool.and_false]

/-! Commit points (R521) -/

/-- R521: an interval is committed: its entry, COMMITTED, its commands forgotten. -/
def State.commitInterval (s : State) (i : Nat) (l : List (Nat × Cmd)) : State :=
  let last := (l.getLast?.map (·.1)).getD 0 % 2 ^ 32
  let a := (s.jWrite i 2 last 0 0).setFld (Fd.HST_S_SEQ_COMMITTED i) last
  { a with cmds := a.cmds.filter (fun e => !(l.map (·.1)).contains e.1) }

/-- R521: the records of a completed first interval are written, and it is committed where the rings have room. -/
theorem exec_commitPoint {st : Fin 4096} {s : State} {l : List (Nat × Cmd)} (hl : firstInterval (s.streamCmds st.val) = some l)
    (hu : s.streamUp st.val = true) (hd : ∀ e ∈ l, 2 ≤ e.2.st ∧ e.2.again = false) :
    let i := st.val
    let r := s.writeRecords i l
    let b := r.1.commitInterval i l
    exec (.commitPoint st) s = .next (if r.2 ∧ r.1.jRoom then
        (if l.any (fun e => e.2.irq) ∧ b.isSet (Fd.HST_S_CTL_VEC_EN i) then
          b.raiseVec (b.fld (Fd.HST_S_CTL_PORT i)) (b.fld (Fd.HST_S_CTL_VEC i)) else b).showStream i
      else r.1) := by
  have hall : l.all (fun e => decide (2 ≤ e.2.st) && !e.2.again) = true := by
    rw [List.all_eq_true]
    intro e he
    obtain ⟨h2, ha⟩ := hd e he
    simp [h2, ha]
  refine congrArg Host.Outcome.next ?_
  simp only [hl, hu, hall, and_self, if_true]
  rfl

end

/-- Settles O50: the stream's control, its tails, fetches and acceptances, and its commit points. -/
theorem streamFrontEnd : Obligations.StreamFrontEnd := by
  refine ⟨fun st s hs => ?host, fun st s => ?port⟩
  case host =>
    intro i gone
    have heard (go : State → State) : (.next (s.hostWriteIn 6 go) : Host.Outcome State Fault Refusal) = .next (go s) :=
      congrArg Host.Outcome.next (State.hostWriteIn_hears hs go)
    refine ⟨fun he => ⟨fun ho => ?enable, fun ho => ?refuse⟩, fun he => ⟨fun hi => ?disable, fun hi => ?keep⟩, ?stop, ?resume,
      fun tail => heard _, fun head => ⟨_, heard _, rfl, ?head⟩, fun tail => ⟨_, heard _, rfl, ?tail⟩⟩
    case enable => exact (heard (State.writeStreamCtl · i 1 1)).trans (congrArg Host.Outcome.next (State.writeStreamCtl_enables he ho))
    case refuse => exact (heard (State.writeStreamCtl · i 1 1)).trans (congrArg Host.Outcome.next (State.writeStreamCtl_refused he ho))
    case disable => exact (heard (State.writeStreamCtl · i 1 0)).trans (congrArg Host.Outcome.next ((State.writeStreamCtl_disables he).trans (if_pos hi)))
    case keep => exact (heard (State.writeStreamCtl · i 1 0)).trans (congrArg Host.Outcome.next ((State.writeStreamCtl_disables he).trans (if_neg hi)))
    case stop => exact (heard (State.writeStreamCtl · i 4 4)).trans (congrArg Host.Outcome.next (s.writeStreamCtl_stops i))
    case resume => exact (heard (State.writeStreamCtl · i 8 8)).trans (congrArg Host.Outcome.next (s.writeStreamCtl_resumes i))
    case head => exact (State.fld_setFld_self _ _ _).trans (Nat.mod_eq_of_lt head.isLt)
    case tail => exact (State.fld_setFld_self _ _ _).trans (Nat.mod_eq_of_lt tail.isLt)
  case port =>
    intro i x
    refine ⟨fun tail => ⟨fun hm => ?reads, fun h1 h2 => ?deaf, fun he h0 h31 => State.learnTail_ahead he h0 h31, State.learnTail_behind⟩,
      fun entry => ?fetch, fun e hf h1 hu ht => exec_commandAccept_far hf h1 hu ht, fun e hf h1 hu ht hj hc => ?accept,
      fun l hl hu hd => ?commit⟩
    case reads => exact congrArg Host.Outcome.next (if_pos hm)
    case deaf => exact congrArg Host.Outcome.next (if_neg (not_or.mpr ⟨h1, h2⟩))
    case fetch =>
      intro n ahead overrun he hh hu hr h1 hf h0 h31
      rw [exec_entryFetch_running entry he hh hu hr h1 hf h0 h31]
      exact ⟨fun hq ho => congrArg Host.Outcome.next (if_neg (not_or.mpr ⟨not_not_intro hq, fun hfar => ho (State.tailFar_iff.mp hfar)⟩)),
        fun h => congrArg Host.Outcome.next (if_pos (h.imp_right State.tailFar_iff.mpr))⟩
    case accept =>
      intro n k opc crc isFill idle c a b h d
      refine (exec_commandAccept hf h1 hu ht hj hc).trans (congrArg (fun u => Host.Outcome.next (State.screen u k opc)) ?_)
      rw [← Bool.decide_and, ← Bool.decide_and]
      by_cases hfill : isFill
      · by_cases hidle : idle
        · rw [decide_eq_true hfill, decide_eq_true hidle]
          exact ((if_pos hfill).trans (if_pos hidle)).symm
        · rw [decide_eq_true hfill, decide_eq_false hidle]
          exact ((if_pos hfill).trans (if_neg hidle)).symm
      · rw [decide_eq_false hfill]
        exact (if_neg hfill).symm
    case commit =>
      intro r last a b
      have run := exec_commitPoint hl hu hd
      refine ⟨fun h => ?_, fun hr hj => ⟨fun hirq hv => ?_, fun h => ?_⟩⟩
      · rw [run, if_neg (fun ⟨h1, h2⟩ => h.elim (fun h => Bool.eq_false_iff.mp h h1) (fun h => Bool.eq_false_iff.mp h h2))]
      · rw [run, if_pos ⟨hr, hj⟩, if_pos ⟨List.any_eq_true.mpr hirq, hv⟩]
        rfl
      · rw [run, if_pos ⟨hr, hj⟩, if_neg ?_]
        · rfl
        · rintro ⟨hany, hset⟩
          obtain ⟨e, he, hirq⟩ := List.any_eq_true.mp hany
          exact h.elim (fun h => Bool.eq_false_iff.mp (h e he) hirq) (fun h => Bool.eq_false_iff.mp h hset)

end Sys2Proof.Machine
end

section
/-! The other stream commands (R511 to R513, R517, R538, R539, R566, R567, R626, R633, R641). -/

namespace Sys2Proof.Machine

/-! A command starts (R511) -/

/-- R511: what a command of one opcode does: once it may start, its own effect. -/
def State.onStart (s : State) (k : CmdRef) (opc : Nat) (run : Cmd → State) : State :=
  match s.cmd k with
  | none => s
  | some c => if s.mayStart k [opc] then run c else s

section
variable {s : State} {k : CmdRef} {opc : Nat}

theorem State.onStart_waits (h : s.mayStart k [opc] = false) (run : Cmd → State) : s.onStart k opc run = s := by
  unfold State.onStart
  rw [h]
  split <;> rfl

theorem State.onStart_runs {c : Cmd} (hc : s.cmd k = some c) (h : s.mayStart k [opc] = true) (run : Cmd → State) :
    s.onStart k opc run = run c := by
  simp only [State.onStart, hc, h, if_true]

/-- R511: a command that sets bytes its class does not use finishes with 0x0A11. -/
theorem State.onStart_strays {c : Cmd} {used : List (Nat × Nat)} (hc : s.cmd k = some c) (h : s.mayStart k [opc] = true)
    (hu : c.clean used = false) (run : Cmd → State) :
    s.onStart k opc (fun c => if !(c.clean used) then (s.startCmd k).finishCmd k 0x0A11 else run c) = (s.startCmd k).finishCmd k 0x0A11 := by
  rw [State.onStart_runs hc h, hu, Bool.not_false, if_pos rfl]

theorem State.onStart_clean {c : Cmd} {used : List (Nat × Nat)} (h : s.Starts k opc used c) (run : Cmd → State) :
    s.onStart k opc (fun c => if !(c.clean used) then (s.startCmd k).finishCmd k 0x0A11 else run c) = run c := by
  rw [State.onStart_runs h.held h.may, h.clean, Bool.not_true, if_neg Bool.false_ne_true]

end

/-! NOP, RELAY.SET and PISTE.LOAD (R511, R517) -/

section
variable {s : State} {k : CmdRef}

theorem exec_nopCommand : exec (.nopCommand k) s =
    .next (s.onStart k 0x3F (fun c => (s.startCmd k).finishCmd k (if c.clean [] then 0 else 0x0A11))) := rfl

theorem exec_relaySet : exec (.relaySet k) s = .next (s.onStart k 0x20 (fun c =>
    if !(c.clean [(0, 2), (8, 64)]) then (s.startCmd k).finishCmd k 0x0A11
    else
      let p := s.startCmd k
      let h := c.body 0 2
      if 1023 < h ∨ p.relState h = 2 then (p.log 0x0906).finishCmd k 0x0906
      else ((List.range 8).foldl (fun s i => s.writeRel h i fullMask (c.body (8 + 8 * i) 8)) p).finishCmd k 0)) := rfl

/-- R330, R517: what PISTE.LOAD does with a clean body. -/
def State.loadImage (p : State) (k : CmdRef) (i a : Nat) : State :=
  if p.pisteFault i ≠ 0 then p.refusePiste k (p.pisteFault i)
  else if p.here a then
    let l := (devSplit a).2
    let f := p.addrFault .engine l 144
    if f ≠ 0 then p.finishCmd k f
    else if p.poisoned l 144 then p.finishCmd k 0x0511
    else ((p.touch l 144).loadPiste i ((p.touch l 144).readBytes l 144)).finishCmd k 0
  else
    let f := p.linkFault (devSplit a).1 1
    if f ≠ 0 then p.finishCmd k f
    else
      let r := p.newTag (.piste k)
      r.2.sendPkt (devSplit a).1 1 0x01 (loadReqBody (devSplit a).2 144 r.1) (.request r.1)

theorem exec_pisteLoad : exec (.pisteLoad k) s = .next (s.onStart k 0x21 (fun c =>
    if !(c.clean [(0, 1), (8, 8)]) then (s.startCmd k).finishCmd k 0x0A11
    else (s.startCmd k).loadImage k (c.body 0 1) (c.body 8 8))) := rfl

section
variable {p : State} {i a : Nat}

theorem State.loadImage_refused (h : p.pisteFault i ≠ 0) : p.loadImage k i a = p.refusePiste k (p.pisteFault i) := if_pos h

theorem State.loadImage_here (h : p.pisteFault i = 0) (hh : p.here a = true) (hf : p.addrFault .engine (devSplit a).2 144 = 0)
    (hp : p.poisoned (devSplit a).2 144 = false) : p.loadImage k i a =
      ((p.touch (devSplit a).2 144).loadPiste i ((p.touch (devSplit a).2 144).readBytes (devSplit a).2 144)).finishCmd k 0 := by
  rw [State.loadImage, if_neg (not_not_intro h), if_pos hh]
  dsimp only
  rw [if_neg (not_not_intro hf), hp, if_neg Bool.false_ne_true]

theorem State.loadImage_peer (h : p.pisteFault i = 0) (hh : p.here a = false) (hl : p.linkFault (devSplit a).1 1 = 0) :
    let r := p.newTag (.piste k)
    p.loadImage k i a = r.2.sendPkt (devSplit a).1 1 0x01 (loadReqBody (devSplit a).2 144 r.1) (.request r.1) := by
  rw [State.loadImage, if_neg (not_not_intro h), hh, if_neg Bool.false_ne_true]
  exact if_neg (not_not_intro hl)

end

/-! Launches (R512, R513) -/

/-- R512: what LAUNCH does once it starts. -/
def State.tryLaunch (s : State) (k : CmdRef) (c : Cmd) : State :=
  let b := launchBody c
  let go := s.startCmd k
  if !(c.clean [(0, 14), (16, 4), (24, 64)]) ∨ b.tiles ≥ 2 ^ 36 ∨ 1 < c.body 12 1 then (go.launchFault c.job 0x0A11).finishCmd k 0x0A11
  else if s.launchBad b then (go.launchFault c.job 0x0A10).finishCmd k 0x0A10
  else if s.ofJob c.job ∧ s.fld Fd.JOB_STEP_STATE = 2 then go.finishCmd k 0x0C09
  else if s.computeUp ∧ b.tids.all (fun t => (s.thread t).st = .free) then
    let st : State := { go with launches := go.launches.set k.code { tids := b.tids, live := b.tids, job := BitVec.ofNat 16 c.job } }
    (b.tids.foldl (fun st t => st.startThread k b t) st).phaseCheck
  else s

theorem exec_launch : exec (.launch k) s = .next (s.onStart k 0x01 (s.tryLaunch k)) := rfl

section
variable {c : Cmd}

theorem State.tryLaunch_strays (h : c.clean [(0, 14), (16, 4), (24, 64)] = false) :
    s.tryLaunch k c = ((s.startCmd k).launchFault c.job 0x0A11).finishCmd k 0x0A11 :=
  if_pos (.inl (by rw [h]; rfl))

section
variable (h : c.clean [(0, 14), (16, 4), (24, 64)] = true) (ht : (launchBody c).tiles < 2 ^ 36) (hi : c.body 12 1 ≤ 1)
include h ht hi

theorem launch_fields : ¬ ((!c.clean [(0, 14), (16, 4), (24, 64)]) = true ∨ (launchBody c).tiles ≥ 2 ^ 36 ∨ 1 < c.body 12 1) := by
  rw [h]
  simp only [Bool.not_true, Bool.false_eq_true, false_or]
  omega

theorem State.tryLaunch_bad (hb : s.launchBad (launchBody c) = true) :
    s.tryLaunch k c = ((s.startCmd k).launchFault c.job 0x0A10).finishCmd k 0x0A10 :=
  (if_neg (launch_fields h ht hi)).trans (if_pos hb)

section
variable (hb : s.launchBad (launchBody c) = false) (hj : s.ofJob c.job = true → s.fld Fd.JOB_STEP_STATE ≠ 2)
include hb hj

theorem State.tryLaunch_eq : s.tryLaunch k c =
    if s.computeUp ∧ (launchBody c).tids.all (fun t => (s.thread t).st = .free) then
      ((launchBody c).tids.foldl (fun u t => u.startThread k (launchBody c) t) ({ s.startCmd k with
        launches := (s.startCmd k).launches.set k.code
          { tids := (launchBody c).tids, live := (launchBody c).tids, job := BitVec.ofNat 16 c.job } } : State)).phaseCheck
    else s :=
  (if_neg (launch_fields h ht hi)).trans ((if_neg (Bool.eq_false_iff.mp hb)).trans (if_neg (fun ⟨h1, h2⟩ => hj h1 h2)))

end
end
end

theorem exec_launchComplete_live {l : Launch} (h : SMap.find s.launches k.code = some l) (hl : l.live ≠ []) :
    exec (.launchComplete k) s = .next s := by
  refine congrArg Host.Outcome.next ?_
  simp only [h, if_neg hl]

/-- R513: with no thread left a launch frees its stopped threads and finishes. -/
theorem exec_launchComplete_done {l : Launch} (h : SMap.find s.launches k.code = some l) (hl : l.live = []) :
    let a := l.tids.foldl (fun u t =>
      if (u.thread t).owner = some k then { u with threads := SMap.erase u.threads t } else u) s
    let b : State := { a with launches := SMap.erase a.launches k.code }
    exec (.launchComplete k) s =
      .next (((b.launchFault l.job.toNat l.fault).finishCmd k l.fault l.tids.length).phaseCheck) := by
  refine congrArg Host.Outcome.next ?_
  simp only [h, if_pos hl]

/-! Checkpoints (R566, R567) -/

section
variable {c : Cmd} (fill : Bool)

theorem State.startChk_waits (h : s.mayStart k [0x28] = false) : s.startChk k fill = s := by
  unfold State.startChk
  rw [h]
  split
  · rfl
  · exact if_neg (fun h => Bool.false_ne_true h.1)

theorem State.runChk_new (h : SMap.find s.chks k.code = none) : s.runChk k fill = s.startChk k fill := by
  unfold State.runChk
  rw [h]

/-- R566: a CHECKPOINT whose body, list and links meet no fault is under way. -/
theorem State.startChk_runs (hs : s.Starts k 0x28 [(0, 36)] c) (hd : decide (c.body 12 1 = 1) = fill) (hh : s.chkHeld c = false)
    (hok : (s.startCmd k).chkOk c = true) (hplan : fill = true → c.body 28 2 = (s.startCmd k).fld Fd.JOB_FILL_PLAN)
    (hf : (s.startCmd k).addrFault .engine (c.body 0 8) (24 * c.body 8 4) = 0)
    (hp : (s.startCmd k).poisoned (c.body 0 8) (24 * c.body 8 4) = false) :
    let p := s.startCmd k
    let es := (List.range (c.body 8 4)).map (fun i => p.chkExtent (c.body 0 8 + 24 * i))
    let u := p.touch (c.body 0 8) (24 * c.body 8 4)
    let m := (devSplit (c.body 16 8)).1
    let x : Chk := { fill := fill, hdr := c.body 16 8, vc := c.body 13 1, job := c.job, step := c.body 24 4, count := c.body 8 4
                     exts := es, want := if fill then 0 else (es.map (fun e => e.2.2)).sum }
    (∀ e ∈ es, p.extentOk (c.body 12 1) (c.body 16 8) e = true) → u.linkFault m 1 = 0 → (fill = false → u.linkFault m (c.body 13 1) = 0) →
    s.startChk k fill = if fill then
        (let r := (u.setChk k x).newTag (.fill k (c.body 16 8))
         r.2.sendPkt m 1 0x01 (loadReqBody (devSplit (c.body 16 8)).2 64 r.1) (.request r.1))
      else (u.setChk k x).sendHeader k x false := by
  intro p es u m x hes h1 hvc
  have hlink : firstFault (u.linkFault m 1) (if fill then 0 else u.linkFault m (c.body 13 1)) = 0 := by
    rw [h1]
    cases fill
    · exact hvc rfl
    · rfl
  have hno : ¬ (fill = true ∧ c.body 28 2 ≠ p.fld Fd.JOB_FILL_PLAN) := fun ⟨h, hne⟩ => hne (hplan h)
  unfold State.startChk
  simp only [hs.held, hs.may, hd, hh, hs.clean, Bool.not_false, Bool.not_true, and_self, if_true, Bool.false_eq_true, if_false]
  change (if (!p.chkOk c) = true then _ else if fill = true ∧ c.body 28 2 ≠ p.fld Fd.JOB_FILL_PLAN then _ else _) = _
  rw [if_neg (by rw [hok]; decide), if_neg hno, if_neg (not_not_intro hf), if_neg (Bool.eq_false_iff.mp hp),
    if_neg (by rw [List.all_eq_true.mpr hes]; decide), if_neg (not_not_intro hlink)]

end

/-! Ingest (R538 to R541) -/

section
variable {c : Cmd}

theorem exec_ingest_waits (h : s.mayStart k [0x30] = false) : exec (.ingest k) s = .next s := by
  refine congrArg Host.Outcome.next ?_
  rw [h]
  split <;> rfl

section
variable (hs : s.Starts k 0x30 [(0, 64)] c)
include hs

/-- R540: a command that is not the engine's next waits in its line. -/
theorem exec_ingest_lines (h : s.ingest ≠ none ∨ s.fld Fd.ING_CTL_PIPES_EN = 0 ∨ (s.lineUp k).head? ≠ some k) :
    exec (.ingest k) s = .next { s with ingLine := s.lineUp k } := by
  have busy : ¬ (s.ingest = none ∧ s.fld Fd.ING_CTL_PIPES_EN ≠ 0 ∧ (s.lineUp k).head? = some k) := fun ⟨h1, h2, h3⟩ =>
    h.elim (· h1) (fun h => h.elim h2 (· h3))
  refine congrArg Host.Outcome.next ?_
  simp only [hs.held, hs.may, Bool.not_true, Bool.false_eq_true, if_false]
  exact if_neg busy

/-- R539, R541: the engine's next command meets the fault of its body, or becomes the one under way and logs. -/
theorem exec_ingest_next (h1 : s.ingest = none) (h2 : s.fld Fd.ING_CTL_PIPES_EN ≠ 0) (h3 : (s.lineUp k).head? = some k) :
    let p := ({ s with ingLine := (s.lineUp k).tail } : State).startCmd k
    let b := ingestBody c
    let f := p.ingestFault c b (p.profile b.prof)
    exec (.ingest k) s = .next (if f ≠ 0 then p.finishCmd k f
      else ({ p with ingest := some { k := k, prof := p.profile b.prof } } : State).ingLog) := by
  refine congrArg Host.Outcome.next ?_
  simp only [hs.held, hs.may, Bool.not_true, Bool.false_eq_true, if_false]
  refine (if_pos ⟨h1, h2, h3⟩).trans ?_
  simp only [hs.clean, Bool.not_true, Bool.false_eq_true, if_false]

end
end

/-! Licences, BIST and RESYNC (R626, R633, R641) -/

theorem exec_licence : exec (.licence k) s = .next (s.onStart k 0x38 (fun c =>
    if !(c.clean [(0, 8)]) then (s.startCmd k).finishCmd k 0x0A11
    else
      let p := s.startCmd k
      let a := c.body 0 8
      let bs := p.readBytes (devSplit a).2 128
      let f := p.licenceFault bs
      if a % 16 ≠ 0 then p.finishCmd k 0x0104
      else if !(p.inOpenWindow a 128) then p.finishCmd k 0x0E14
      else if f ≠ 0 then p.finishCmd k f
      else ((({ p with fw := { p.fw with pend := bs } } : State).setHeld Fd.LIC_PEND_PENDING 1).setHeld
        Fd.LIC_PEND_PEND_LSEQ (numAt bs 16 4)).finishCmd k 0 (numAt bs 16 4))) := rfl

theorem exec_resync : exec (.resync k) s = .next (s.onStart k 0x3A (fun c =>
    if !(c.clean [(0, 16)]) then (s.startCmd k).finishCmd k 0x0A11
    else
      let p := s.startCmd k
      let a := c.body 0 8
      let bs := p.assemble.1
      let u := p.assemble.2.snapshot bs
      let f := u.destFault a bs.length
      if a % 64 ≠ 0 then p.finishCmd k 0x0104
      else if c.body 8 8 < bs.length then u.finishCmd k 0x0E51 bs.length
      else if f ≠ 0 then (if f = 0x0A14 then u.log f else u).finishCmd k f
      else ((u.store (cellsFrom (devSplit a).2 bs)).1).finishCmd k 0 bs.length)) := rfl

theorem exec_bist_waits (h : s.mayStart k [0x39] = false) : exec (.bist k) s = .next s := by
  refine congrArg Host.Outcome.next ?_
  rw [h]
  split
  · rfl
  · exact if_neg (fun h => Bool.false_ne_true h.1)

/-- R633: a BIST whose fields are good begins where its dies are held. -/
theorem exec_bist_runs {c : Cmd} (hs : s.Starts k 0x39 [(0, 9), (16, 8)] c) (hb : s.trust.bist = none) :
    let p := s.startCmd k
    let dies := (List.range 45).filter (fun i => bitAt (c.body 0 8) i)
    let fl := c.body 8 1
    let res := c.body 16 8
    bitAt (c.body 0 8) 0 = false → c.body 0 8 < 2 ^ 45 → fl < 8 → res % 64 = 0 → dies ≠ [] → p.destFault res (32 * dies.length) = 0 →
    exec (.bist k) s = .next (if !(dies.all p.dieHeld) then p.finishCmd k 0x0E31
      else (p.setTrust { p.trust with bist := some {
        k := k, dies := dies, todo := sixes 6 (dies.filter (9 ≤ ·)) ++ (dies.filter (· < 9)).map (fun d => [d]),
        lbist := bitAt fl 0, mbist := bitAt fl 1, retire := bitAt fl 2, res := res } }).setFld Fd.BIST_STAT_RUNNING 1) := by
  intro p dies fl res h0 h45 hfl hres hd hf
  have good : ¬ ((!c.clean [(0, 9), (16, 8)]) = true ∨ bitAt (c.body 0 8) 0 = true ∨ 2 ^ 45 ≤ c.body 0 8 ∨ 8 ≤ fl) := by
    rw [hs.clean, h0]
    simp only [Bool.not_true, Bool.false_eq_true, false_or]
    omega
  have place : (if res % 64 ≠ 0 then 0x0104 else if dies = [] then 0 else p.destFault res (32 * dies.length)) = 0 := by
    rw [if_neg (not_not_intro hres), if_neg hd, hf]
  refine congrArg Host.Outcome.next ?_
  simp only [hs.held, hs.may, hb, Option.isNone_none, and_self, if_true]
  refine (if_neg good).trans ((if_neg (not_not_intro place)).trans ?_)
  refine ite_congr rfl (fun _ => rfl) (fun _ => if_neg hd)

end

/-- Settles O51: each command is the effect of its class on a command that starts. -/
theorem streamCommands : Obligations.StreamCommands := by
  intro k s p waits stray
  have waitsOf {j : Instr} {opc : Nat} {run : Cmd → State} (e : exec j s = .next (s.onStart k opc run)) : waits j opc :=
    fun h => e.trans (congrArg Host.Outcome.next (State.onStart_waits h run))
  have strayOf {j : Instr} {opc : Nat} {used : List (Nat × Nat)} {run : Cmd → State} (e : exec j s =
      .next (s.onStart k opc (fun c => if !(c.clean used) then p.finishCmd k 0x0A11 else run c))) : stray j opc used :=
    fun _ hc h hu => e.trans (congrArg Host.Outcome.next (State.onStart_strays hc h hu run))
  have runOf {j : Instr} {opc : Nat} {used : List (Nat × Nat)} {run : Cmd → State} {c : Cmd} (hs : s.Starts k opc used c) (e : exec j s =
      .next (s.onStart k opc (fun c => if !(c.clean used) then p.finishCmd k 0x0A11 else run c))) : exec j s = .next (run c) :=
    e.trans (congrArg Host.Outcome.next (State.onStart_clean hs run))
  have newRun (fill : Bool) (hk : SMap.find s.chks k.code = none) : s.runChk k fill = s.startChk k fill := State.runChk_new fill hk
  refine ⟨waitsOf exec_launch, fun c hc h hu => ?launchStray, waitsOf exec_relaySet, strayOf exec_relaySet, waitsOf exec_pisteLoad,
    strayOf exec_pisteLoad, fun hk => ⟨fun h => ?save, fun h => ?fill⟩, exec_ingest_waits, waitsOf exec_licence, strayOf exec_licence,
    exec_bist_waits, waitsOf exec_resync, strayOf exec_resync, waitsOf exec_nopCommand, fun c hc h hu => ?nopStray, fun c hs => ?nop,
    fun c hs => ?launch,
    fun l hl => ⟨exec_launchComplete_live hl, exec_launchComplete_done hl⟩, fun c hs => ?relay, fun c hs => ?piste,
    fun c hs hk hheld hok => ?check, fun c hs => exec_ingest_lines hs, fun c hs h1 h2 h3 => ?ingest, fun c hs => ?licence,
    fun c hs hb => ?bist, fun c hs => ?resync⟩
  case launchStray =>
    rw [exec_launch, State.onStart_runs hc h, State.tryLaunch_strays hu]
  case save => exact congrArg Host.Outcome.next ((newRun false hk).trans (State.startChk_waits false h))
  case fill => exact congrArg Host.Outcome.next ((newRun true hk).trans (State.startChk_waits true h))
  case nopStray =>
    rw [exec_nopCommand, State.onStart_runs hc h, hu, if_neg Bool.false_ne_true]
  case nop =>
    rw [exec_nopCommand, State.onStart_runs hs.held hs.may, hs.clean, if_pos rfl]
  case launch =>
    intro b ht hi
    refine ⟨fun hb => ?_, fun hb hj => ?_⟩
    · rw [exec_launch, State.onStart_runs hs.held hs.may, State.tryLaunch_bad hs.clean ht hi hb]
    have free : ((launchBody c).tids.all (fun t => (s.thread t).st = .free)) = true ↔ ∀ t ∈ b.tids, (s.thread t).st = .free :=
      List.all_eq_true.trans (forall₂_congr fun _ _ => decide_eq_true_iff)
    have run := exec_launch.trans (congrArg Host.Outcome.next ((State.onStart_runs hs.held hs.may _).trans (State.tryLaunch_eq hs.clean ht hi hb hj)))
    refine ⟨fun hup hfree => run.trans (congrArg Host.Outcome.next (if_pos ⟨hup, free.mpr hfree⟩)),
      fun busy => run.trans (congrArg Host.Outcome.next (if_neg ?_))⟩
    rintro ⟨hup, hfree⟩
    rcases busy with hdown | ⟨t, ht, hne⟩
    · exact Bool.false_ne_true (hdown.symm.trans hup)
    · exact hne (free.mp hfree t ht)
  case relay =>
    have run := runOf hs exec_relaySet
    refine ⟨fun bad => run.trans (congrArg Host.Outcome.next (if_pos bad)),
      fun hle hne => run.trans (congrArg Host.Outcome.next (if_neg ?_))⟩
    exact fun bad => bad.elim (Nat.not_lt.mpr hle) hne
  case piste =>
    have run := runOf hs exec_pisteLoad
    exact ⟨fun h => run.trans (congrArg Host.Outcome.next (State.loadImage_refused h)),
      fun h hh hf hp => run.trans (congrArg Host.Outcome.next (State.loadImage_here h hh hf hp)),
      fun h hh hl => run.trans (congrArg Host.Outcome.next (State.loadImage_peer h hh hl))⟩
  case check =>
    intro list n dir vc hdr m es u x hf hp hes h1
    refine ⟨fun h0 hvc => congrArg Host.Outcome.next ((newRun false hk).trans ?_),
      fun h1' hplan => congrArg Host.Outcome.next ((newRun true hk).trans ?_)⟩
    · have run := State.startChk_runs false hs (by rw [show c.body 12 1 = 0 from h0]; rfl) hheld hok Bool.noConfusion hf hp hes h1 (fun _ => hvc)
      have hne : ¬ dir = 1 := by omega
      have hx : x = { x with fill := false, want := (es.map (fun e => e.2.2)).sum } :=
        congrArg₂ (fun f w => ({ x with fill := f, want := w } : Chk)) (decide_eq_false hne) (if_neg hne)
      exact run.trans ((if_neg Bool.false_ne_true).trans (congrArg (fun x => (u.setChk k x).sendHeader k x false) hx.symm))
    · have run := State.startChk_runs true hs (decide_eq_true h1') hheld hok (fun _ => hplan) hf hp hes h1 Bool.noConfusion
      have hx : x = { x with fill := true, want := 0 } :=
        congrArg₂ (fun f w => ({ x with fill := f, want := w } : Chk)) (decide_eq_true h1') (if_pos h1')
      exact run.trans ((if_pos rfl).trans (congrArg (fun x =>
        let r := (u.setChk k x).newTag (.fill k hdr)
        r.2.sendPkt m 1 0x01 (loadReqBody (devSplit hdr).2 64 r.1) (.request r.1)) hx.symm))
  case ingest => exact next_of_fault (exec_ingest_next hs h1 h2 h3)
  case licence =>
    intro a bs f h16 hw
    refine next_of_fault ((runOf hs exec_licence).trans (congrArg Host.Outcome.next ((if_neg (not_not_intro h16)).trans (if_neg ?_))))
    change ¬ (!(p.inOpenWindow a 128)) = true
    rw [hw]
    exact Bool.false_ne_true
  case bist =>
    intro dies fl res h0 h45 hfl hres hd hf
    have run := exec_bist_runs hs hb h0 h45 hfl hres hd hf
    refine ⟨fun ⟨d, hd, hno⟩ => run.trans (congrArg Host.Outcome.next (if_pos ?_)),
      fun hall => run.trans (congrArg Host.Outcome.next (if_neg ?_))⟩
    · rw [Bool.not_eq_true', ← Bool.not_eq_true, List.all_eq_true]
      exact fun h => Bool.false_ne_true (hno.symm.trans (h d hd))
    · rw [List.all_eq_true.mpr hall]
      exact Bool.false_ne_true
  case resync =>
    intro a bs u f
    have run := runOf hs exec_resync
    refine ⟨fun bad => run.trans (congrArg Host.Outcome.next (if_pos bad)),
      fun h hlt => run.trans (congrArg Host.Outcome.next ((if_neg (not_not_intro h)).trans (if_pos hlt))),
      fun h hle hf => run.trans (congrArg Host.Outcome.next ((if_neg (not_not_intro h)).trans
        ((if_neg (Nat.not_lt.mpr hle)).trans (if_neg (not_not_intro hf)))))⟩

end Sys2Proof.Machine
end

section
/-! The security version, the random source, the watchdog, a firmware load, a BIST group and the RESYNC record (R504, R616, R620, R631,
R633, R634, R639, R641). -/

namespace Sys2Proof.Machine

/-! A firmware load at its source (R639) -/

/-- R639: the counts of a load that begins are cleared. -/
def State.clearLoad (s : State) : State :=
  let u : State := { s with fw := { s.fw with seq := s.fw.seq + 1 } }
  ((u.setFld Fd.MC_FWB_COUNT_DONE 0).setFld Fd.MC_FWB_COUNT_FAILED 0).setFld Fd.MC_FWB_STAT_FAULT 0

/-- R639: the image of n bytes at a, with its kind and its destination, is checked, read and handed on. -/
def State.takeImage (v : State) (a n kind dst : Nat) : State :=
  if (if kind = 0 then 2 ^ 23 else 2 ^ 26) < n then v.failLoad 0x0E71
  else if n ≠ 0 ∧ !(v.inOpenWindow (0x3FFFF * 2 ^ 46 + a) n) then v.failLoad 0x0502
  else v.placeLoad { image := v.fw.seq.toNat, kind := kind, total := n, dst := dst, crc := crc32 (v.readBytes a n) } (v.readBytes a n)

section
variable {s v : State} {a n kind dst : Nat}

theorem State.startLoad_begins (h : s.isSet Fd.MC_FWB_CTL_START = false) : s.startLoad =
    s.clearLoad.takeImage (s.clearLoad.fld Fd.MC_FWB_SRC_SRC) (s.clearLoad.fld Fd.MC_FWB_STAT_LEN) (s.clearLoad.fld Fd.MC_FWB_CTL_KIND)
      (s.clearLoad.fld Fd.MC_FWB_CTL_DST) := if_neg (Bool.eq_false_iff.mp h)

theorem State.takeImage_long (h : (if kind = 0 then 2 ^ 23 else 2 ^ 26) < n) : v.takeImage a n kind dst = v.failLoad 0x0E71 := if_pos h

section
variable (h : n ≤ if kind = 0 then 2 ^ 23 else 2 ^ 26)
include h

theorem State.takeImage_unseen (hw : ¬ (n = 0 ∨ v.inOpenWindow (0x3FFFF * 2 ^ 46 + a) n = true)) :
    v.takeImage a n kind dst = v.failLoad 0x0502 := by
  obtain ⟨hn, hw⟩ := not_or.mp hw
  refine (if_neg (Nat.not_lt.mpr h)).trans (if_pos ⟨hn, ?_⟩)
  rw [Bool.eq_false_iff.mpr hw]
  rfl

theorem State.takeImage_seen (hw : n = 0 ∨ v.inOpenWindow (0x3FFFF * 2 ^ 46 + a) n = true) : v.takeImage a n kind dst =
    v.placeLoad { image := v.fw.seq.toNat, kind := kind, total := n, dst := dst, crc := crc32 (v.readBytes a n) } (v.readBytes a n) := by
  refine (if_neg (Nat.not_lt.mpr h)).trans (if_neg ?_)
  rintro ⟨hn, hno⟩
  rw [hw.resolve_left hn] at hno
  exact Bool.noConfusion hno

end
end

/-! The security version and the random source (R616, R620) -/

section
variable {s : State}

theorem State.commitSvn_free (h : s.isSet Fd.ID_SVN_COMMIT = false) : s.commitSvn =
    if s.fw.run = 0 ∨ fwSvn s.fw.running ≤ s.fld Fd.ID_SVN_SVN then s.log 0x0E06 else s.setFld Fd.ID_SVN_COMMIT 1 :=
  if_neg (Bool.eq_false_iff.mp h)

/-- R616: a health test of a powered module. -/
theorem exec_rngHealthTest (h : s.boot.powered = true) (pass : Bool) : exec (.rngHealthTest pass) s = .next (
    if pass then ((s.setFld Fd.ID_RNG_HEALTHY 1).setBoot { s.boot with rngFails := 0 }).answerStalled
    else
      let v := ((s.setFld Fd.ID_RNG_HEALTHY 0).satFld Fd.ID_RNG_FAILS).setBoot { s.boot with rngFails := s.boot.rngFails + 1 }
      if s.boot.rngFails + 1 = 3 then v.log 0x0E61 else v) := by
  refine congrArg Host.Outcome.next ?_
  rw [h]
  cases pass <;> rfl

/-! The watchdog (R631) -/

theorem State.kick_resumes (h : s.mgmtStop = true) (hr : s.fw.run ≠ 0) : s.kick = s.resumeMgmt := if_pos ⟨h, hr⟩

theorem State.kick_idle (h : s.mgmtStop = false) : s.kick = s := if_neg (fun ⟨h1, _⟩ => Bool.false_ne_true (h.symm.trans h1))

theorem exec_wdtExpiry (h : s.isSet Fd.MC_WDT_EN = true) :
    let u : State := { s with mgmtStop := true }
    let v := ((u.setFld Fd.MC_WDT_HUNG 1).incFld Fd.MC_WDT_EXPIRIES).log 0x0E41
    exec .wdtExpiry s = .next ((if v.fld Fd.MC_FWB_STAT_STATE = 1 then v.failLoad 0x0E41 else v).runFirmware false) := by
  refine congrArg Host.Outcome.next (if_neg ?_)
  rw [h]
  exact Bool.false_ne_true

/-! BIST results (R633, R634) -/

/-- R633: the groups that run now are every rind die and the first group of tiles left. -/
theorem mem_runningGroups {gs : List (List Nat)} {ds : List Nat} (rind tiles : List Nat → Bool) :
    (gs.filter rind ++ (gs.filter tiles).take 1).contains ds = true ↔ ds ∈ gs.filter rind ∨ (gs.filter tiles).head? = some ds := by
  rw [List.contains_iff_mem, List.mem_append]
  refine or_congr_right ?_
  cases gs.filter tiles with
  | nil => simp
  | cons g gs => simp [eq_comm]

/-- R634: with the results of a group that runs in, the run goes on or ends. -/
theorem exec_bistGroupDone {x : BistRun} (hx : s.trust.bist = some x) (rs : List BistResult) :
    let ds := rs.map (fun r => r.index.val)
    let rind := x.todo.filter (fun g => g.all (· < 9))
    let tiles := x.todo.filter (fun g => g.all (9 ≤ ·))
    let r := rs.foldl (fun (p : State × BistRun) q => p.1.bistResult p.2 q) (s, x)
    let y : BistRun := { r.2 with todo := r.2.todo.filter (fun g => g ≠ ds) }
    exec (.bistGroupDone rs) s = .next (if ds ∈ rind ∨ tiles.head? = some ds then
      (if y.todo = [] then r.1.endBist y else r.1.setTrust { r.1.trust with bist := some y }) else s) := by
  intro ds rind tiles r y
  refine congrArg Host.Outcome.next ?_
  simp only [hx]
  change (if (!(rind ++ tiles.take 1).contains ds) = true then s else if y.todo = [] then r.1.endBist y else _) = _
  by_cases h : ds ∈ rind ∨ tiles.head? = some ds
  · rw [if_pos h, (mem_runningGroups _ _).mpr h]
    rfl
  · rw [if_neg h, Bool.eq_false_iff.mpr (mt (mem_runningGroups _ _).mp h)]
    rfl

end

/-- Settles O55: each event in the state that hears it. -/
theorem trustEvents : Obligations.TrustEvents := by
  refine ⟨fun s h1 => ⟨fun hc => ?commit, ?load⟩,
    fun s => ⟨fun hc => ?fused, fun hp => ?health, fun hm hr => ⟨congrArg Host.Outcome.next (State.kick_resumes hm hr), fun h1 => ?kick⟩,
      fun hm => congrArg Host.Outcome.next (State.kick_idle hm), fun hw => ?expiry, fun h0 => ?resync⟩,
    fun s x rs => ?group⟩
  case commit =>
    have run : exec .svnCommit s = .next _ := congrArg Host.Outcome.next ((State.hostWrite_done1 h1 _).trans (State.commitSvn_free hc))
    exact ⟨fun hr hlt => run.trans (congrArg Host.Outcome.next (if_neg (not_or.mpr ⟨hr, Nat.not_le.mpr hlt⟩))),
      fun bad => run.trans (congrArg Host.Outcome.next (if_pos bad))⟩
  case load =>
    intro n a kind u v most seen bs x hs ha hn hk hd
    have run : exec .fwLoadStart s = .next (v.takeImage a n kind (s.fld Fd.MC_FWB_CTL_DST)) := by
      refine congrArg Host.Outcome.next ((State.hostWrite_done1 h1 _).trans ((State.startLoad_begins hs).trans ?_))
      change v.takeImage (v.fld Fd.MC_FWB_SRC_SRC) (v.fld Fd.MC_FWB_STAT_LEN) (v.fld Fd.MC_FWB_CTL_KIND) (v.fld Fd.MC_FWB_CTL_DST) = _
      rw [ha, hn, hk, hd]
    exact ⟨fun h => run.trans (congrArg Host.Outcome.next (State.takeImage_long h)),
      fun h hw => run.trans (congrArg Host.Outcome.next (State.takeImage_unseen h hw)),
      fun h hw => run.trans (congrArg Host.Outcome.next (State.takeImage_seen h hw))⟩
  case fused => exact congrArg Host.Outcome.next (if_pos hc)
  case health =>
    exact ⟨exec_rngHealthTest hp true,
      fun h3 => (exec_rngHealthTest hp false).trans (congrArg Host.Outcome.next (if_pos h3)),
      fun h3 => (exec_rngHealthTest hp false).trans (congrArg Host.Outcome.next (if_neg h3))⟩
  case kick => exact congrArg Host.Outcome.next ((State.hostWrite_done1 h1 _).trans (State.kick_resumes hm hr))
  case expiry =>
    intro u v
    have run := exec_wdtExpiry hw
    exact ⟨fun h => run.trans (congrArg (fun w : State => Host.Outcome.next (w.runFirmware false)) (if_neg h)),
      fun h => run.trans (congrArg (fun w : State => Host.Outcome.next (w.runFirmware false)) (if_pos h))⟩
  case resync =>
    intro r sent
    have heard : ¬ (!s.boot.done0) = true := by
      rw [h0]
      exact Bool.false_ne_true
    exact ⟨congrArg Host.Outcome.next (if_pos h0), congrArg Host.Outcome.next (if_neg heard),
      fun p hp => congrArg Host.Outcome.next ((if_neg heard).trans (congrArg (fun u : State => sent u u.trust.mctp p) (if_neg hp)))⟩
  case group =>
    intro ds rind tiles r y hx
    have run := exec_bistGroupDone hx rs
    refine ⟨fun h => ⟨fun hy => ?_, fun hy => ?_⟩, fun h1 h2 => run.trans (congrArg Host.Outcome.next (if_neg (not_or.mpr ⟨h1, h2⟩)))⟩
    · exact run.trans (congrArg Host.Outcome.next ((if_pos h).trans (if_neg hy)))
    · exact run.trans (congrArg Host.Outcome.next ((if_pos h).trans (if_pos hy)))

end Sys2Proof.Machine
end

section
/-! The SPDM responder: its requests, the connection and its sessions (R528, R579, R616, R621 to R623). -/

namespace Sys2Proof.Machine

section
variable {m : Spdm} {s : State}

/-! What the responder hears and refuses -/

theorem State.hears_of (h0 : s.boot.done0 = true) (hf : 2 ≤ m.transport.val ∨ 12 + m.body.length ≤ 4096) : s.hears m = true := by
  rw [State.hears, spdmFits, h0, Bool.true_and, Bool.or_eq_true, decide_eq_true_iff, decide_eq_true_iff]
  exact hf

theorem State.unheard (h : s.hears m = false) : (!(s.hears m)) = true := by
  rw [h]
  rfl

theorem State.respond_unheard (h : s.hears m = false) (go : State → State) : s.respond m go = s := if_pos (State.unheard h)

theorem State.spdmError_early (hp : s.spdmPhase m < 3) : s.spdmError m = 0x04 := if_pos hp

theorem State.not_unheard (h : s.hears m = true) : ¬ (!(s.hears m)) = true := by
  rw [h]
  exact Bool.false_ne_true

section
variable (h : s.hears m = true)
include h

theorem State.respond_early (hp : s.spdmPhase m < 3) (go : State → State) : s.respond m go = s.refuseSpdm m 0x04 := by
  have he := State.spdmError_early hp
  unfold State.respond
  rw [if_neg (State.not_unheard h), he]
  rfl

theorem State.respond_goes (he : s.spdmError m = 0) (go : State → State) : s.respond m go = go s :=
  (if_neg (State.not_unheard h)).trans (if_neg (not_not_intro he))

/-! The connection (R621) -/

theorem exec_getVersion : exec (.getVersion m) s = .next (if m.version ≠ 0x10 then s.refuseSpdm m 0x41
    else (s.setTrust { s.trust with
      vers := SMap.erase s.trust.vers m.transport.val, phase := s.trust.phase.set m.transport.val 1,
      sessions := s.trust.sessions.filter (fun e => e.2.transport ≠ m.transport.val) }).answer m 0x04 0 0 [0, 2, 0x00, 0x11, 0x00, 0x12]) :=
  congrArg Host.Outcome.next (if_neg (State.not_unheard h))

theorem exec_getCapabilities : exec (.getCapabilities m) s = .next (if s.spdmPhase m = 0 then s.refuseSpdm m 0x04
    else if m.version ≠ 0x11 ∧ m.version ≠ 0x12 then s.refuseSpdm m 0x41
    else
      let u := s.setTrust { s.trust with
        vers := s.trust.vers.set m.transport.val m.version.toNat, phase := s.trust.phase.set m.transport.val 2 }
      { u with free := u.free + 1 }.answer m 0x61 0 0 ([0] ++ u.freeBytes 1 ++ [0, 0]
        ++ leBytes 4 0x62D6 ++ (if m.version = 0x12 then leBytes 4 4096 ++ leBytes 4 4096 else []))) :=
  congrArg Host.Outcome.next (if_neg (State.not_unheard h))

/-- R621: the algorithms structures that NEGOTIATE_ALGORITHMS answers, of what the request offers. -/
def algStructs (m : Spdm) : List (List Byte) := (List.range m.param1.toNat).filterMap (fun i =>
  let o := 28 + 4 * i
  let ty := numAt m.body o 1
  let ours := if ty = 2 then 0x10 else if ty = 3 then 0x02 else if ty = 5 then 0x01 else 0
  if 2 ≤ ty ∧ ty ≤ 5 ∧ o + 4 ≤ m.body.length then some (leBytes 1 ty ++ [0x20] ++ leBytes 2 (numAt m.body (o + 2) 2 &&& ours)) else none)

theorem exec_negotiateAlgorithms : exec (.negotiateAlgorithms m) s = .next (if s.spdmPhase m < 2 then s.refuseSpdm m 0x04
    else if SMap.find s.trust.vers m.transport.val ≠ some m.version.toNat then s.refuseSpdm m 0x41
    else (s.setTrust { s.trust with phase := s.trust.phase.set m.transport.val 3 }).answer m 0x63 (algStructs m).length 0
      (leBytes 2 (36 + 4 * (algStructs m).length)
        ++ leBytes 1 (numAt m.body 2 1 &&& 1) ++ [0] ++ leBytes 4 0x4 ++ leBytes 4 (numAt m.body 4 4 &&& 0x80)
        ++ leBytes 4 (numAt m.body 8 4 &&& 0x2) ++ List.replicate 16 0 ++ (algStructs m).flatten)) :=
  congrArg Host.Outcome.next (if_neg (State.not_unheard h))

/-! Certificates (R622) -/

section
variable (he : s.spdmError m = 0)
include he

theorem exec_getDigests : exec (.getDigests m) s = .next (
    if Config.certChain = [] then s.refuseSpdm m 0x05 else s.answer m 0x01 0 1 (sha384 Config.certChain)) :=
  congrArg Host.Outcome.next (State.respond_goes h he _)

theorem exec_getCertificate : exec (.getCertificate m) s = .next (
    let off := numAt m.body 0 2
    let chain := Config.certChain
    let part := (chain.drop off).take (numAt m.body 2 2)
    if m.param1 ≠ 0 then s.refuseSpdm m 0x01
    else if chain = [] then s.refuseSpdm m 0x05
    else if chain.length ≤ off then s.refuseSpdm m 0x01
    else s.answer m 0x02 0 0 (leBytes 2 part.length ++ leBytes 2 (chain.length - off - part.length) ++ part)) :=
  congrArg Host.Outcome.next (State.respond_goes h he _)

/-! Requests that need the random source (R616, R623) -/

theorem exec_challenge : exec (.challenge m) s = .next (s.needRandom 0x83 m) := congrArg Host.Outcome.next (State.respond_goes h he _)

theorem exec_getMeasurements : exec (.getMeasurements m) s = .next (s.needRandom 0xE0 m) :=
  congrArg Host.Outcome.next (State.respond_goes h he _)

theorem exec_keyExchange : exec (.keyExchange m) s = .next (s.needRandom 0xE4 m) := congrArg Host.Outcome.next (State.respond_goes h he _)

/-! Requests within a session (R621) -/

section
variable {n : Nat} {x : Session} (hx : s.session m = some (n, x)) (go : Nat → State → State)
include hx

theorem State.inSession_live (hl : x.live = true) : s.inSession m go = go n s := by
  refine (State.respond_goes h he _).trans ?_
  simp only [hx, hl, if_true]

theorem State.inSession_opening (hl : x.live = false) : s.inSession m go = s.refuseSpdm m 0x04 := by
  refine (State.respond_goes h he _).trans ?_
  simp only [hx, hl, Bool.false_eq_true, if_false]

end
end

theorem exec_finish : exec (.finish m) s = .next (match s.session m with
    | none => s.refuseSpdm m 0x04
    | some (n, x) =>
      if x.live then s.refuseSpdm m 0x04
      else if m.verified then
        (s.setTrust { s.trust with sessions := s.trust.sessions.set n { x with live := true } }).answer m 0x65 0 0 []
      else (s.setTrust { s.trust with sessions := SMap.erase s.trust.sessions n }).refuseSpdm m 0x06) :=
  congrArg Host.Outcome.next (if_neg (State.not_unheard h))

end

theorem State.needRandom_waits (h : s.isSet Fd.ID_RNG_HEALTHY = false) (code : Nat) :
    s.needRandom code m = s.setTrust { s.trust with stalled := s.trust.stalled ++ [(code, m)] } := if_neg (Bool.eq_false_iff.mp h)

theorem State.needRandom_answers (h : s.isSet Fd.ID_RNG_HEALTHY = true) (code : Nat) :
    s.needRandom code m = s.answerRandom code m := if_pos h

/-- R623: GET_MEASUREMENTS of a list of blocks, none of them being operation 0. -/
theorem State.answerMeasure_lists {l : List Nat} (h0 : m.param2.toNat ≠ 0)
    (hl : (if m.param2.toNat = 0xFF then [1, 2, 3, 4, 5, 6] else [m.param2.toNat]) = l) (hop : m.param2.toNat ≤ 6 ∨ m.param2.toNat = 0xFF) :
    let r := s.measureAll l
    let n := { s with free := s.free + 32 }
    let g := if m.param1.getLsbD 0 then n.drawBytes 96 else ([], n)
    s.answerMeasure m = g.2.answer m 0x60 0 0 (leBytes 1 l.length ++ leBytes 3 r.length ++ r ++ s.freeBytes 32 ++ [0, 0] ++ g.1) := by
  have hop : ¬ (6 < m.param2.toNat ∧ m.param2.toNat ≠ 0xFF) := by omega
  subst hl
  unfold State.answerMeasure
  simp only [if_neg hop, if_neg h0]
  rfl

/-- R621: KEY_EXCHANGE opens the lowest free session. -/
theorem State.answerExchange_opens {n : Nat} (hn : (List.range 4).find? (fun n => (SMap.find s.trust.sessions n).isNone) = some n)
    (h0 : m.param2 = 0) :
    let x := { s with free := s.free + 33 }
    let y := { x with free := x.free + 96 }
    let g := { y with free := y.free + 144 }
    let a := s.freeBytes 33
    s.answerExchange m = (g.setTrust { s.trust with
      sessions := s.trust.sessions.set n { transport := m.transport.val, live := false } }).answer m 0x64 (leNat (a.take 1)) 0
        (leBytes 2 n ++ [0, 0] ++ a.drop 1 ++ x.freeBytes 96 ++ s.measureSummary m.param1.toNat ++ [0, 0] ++ y.freeBytes 144) := by
  intro x y g a
  unfold State.answerExchange
  rw [hn]
  exact if_neg (not_not_intro h0)

theorem State.answerExchange_full (hn : (List.range 4).find? (fun n => (SMap.find s.trust.sessions n).isNone) = none) :
    s.answerExchange m = s.refuseSpdm m 0x0A := by
  unfold State.answerExchange
  rw [hn]

end

/-- Settles O56: each request by its equation, behind what the responder hears and refuses. -/
theorem spdmRequests : Obligations.SpdmRequests := by
  refine ⟨fun m s h => ?deaf, fun m s h0 hf => ?heard⟩
  case deaf =>
    have first (a : State) : (if (!(s.hears m)) = true then s else a) = s := if_pos (State.unheard h)
    have deaf := State.respond_unheard h
    exact ⟨congrArg Host.Outcome.next (first _), congrArg Host.Outcome.next (first _), congrArg Host.Outcome.next (first _),
      congrArg Host.Outcome.next (deaf _), congrArg Host.Outcome.next (deaf _), congrArg Host.Outcome.next (deaf _),
      congrArg Host.Outcome.next (deaf _), congrArg Host.Outcome.next (deaf _), congrArg Host.Outcome.next (first _),
      congrArg Host.Outcome.next (deaf _), congrArg Host.Outcome.next (deaf _), congrArg Host.Outcome.next (deaf _)⟩
  case heard =>
    intro t p v
    have h := State.hears_of h0 hf
    have version := exec_getVersion h
    have capable := exec_getCapabilities h
    have agreed := exec_negotiateAlgorithms h
    refine ⟨fun hv => version.trans (congrArg Host.Outcome.next (if_neg (not_not_intro hv))),
      fun hv => version.trans (congrArg Host.Outcome.next (if_pos hv)),
      fun hp => capable.trans (congrArg Host.Outcome.next (if_pos hp)),
      fun hp hv => capable.trans (congrArg Host.Outcome.next ((if_neg hp).trans (if_neg (fun ⟨h1, h2⟩ => hv.elim h1 h2)))),
      fun hp => agreed.trans (congrArg Host.Outcome.next (if_pos hp)),
      fun hp hv => agreed.trans (congrArg Host.Outcome.next ((if_neg (Nat.not_lt.mpr hp)).trans (if_pos hv))),
      fun hp hv => agreed.trans (congrArg Host.Outcome.next ((if_neg (Nat.not_lt.mpr hp)).trans (if_neg (not_not_intro hv)))),
      fun hp _ => ⟨congrArg Host.Outcome.next (State.respond_early h hp _), congrArg Host.Outcome.next (State.respond_early h hp _)⟩,
      fun he => ?sound, fun n x hx => ?finish, fun hx => ?finishNone⟩
    case finish =>
      have run := exec_finish h
      rw [hx] at run
      refine ⟨fun hl hv => run.trans (congrArg Host.Outcome.next ((if_neg (Bool.eq_false_iff.mp hl)).trans (if_pos hv))),
        fun hl hv => run.trans (congrArg Host.Outcome.next ((if_neg (Bool.eq_false_iff.mp hl)).trans (if_neg (Bool.eq_false_iff.mp hv)))),
        fun hl => run.trans (congrArg Host.Outcome.next (if_pos hl))⟩
    case finishNone =>
      have run := exec_finish h
      rw [hx] at run
      exact run
    case sound =>
      intro chain off part kept
      have digests := exec_getDigests h he
      have cert := exec_getCertificate h he
      refine ⟨fun hc => digests.trans (congrArg Host.Outcome.next (if_pos hc)),
        fun hc h1 => cert.trans (congrArg Host.Outcome.next ((if_neg (not_not_intro h1)).trans (if_pos hc))),
        fun hc => digests.trans (congrArg Host.Outcome.next (if_neg hc)),
        fun h1 hlt => cert.trans (congrArg Host.Outcome.next ((if_neg (not_not_intro h1)).trans ((if_neg ?_).trans (if_neg (Nat.not_le.mpr hlt))))),
        fun h1 => cert.trans (congrArg Host.Outcome.next (if_pos h1)),
        fun hr => ⟨(exec_challenge h he).trans (congrArg Host.Outcome.next (State.needRandom_waits hr _)),
          (exec_getMeasurements h he).trans (congrArg Host.Outcome.next (State.needRandom_waits hr _)),
          (exec_keyExchange h he).trans (congrArg Host.Outcome.next (State.needRandom_waits hr _))⟩,
        fun hr => ?random, fun n x hx => ?session⟩
      · exact List.ne_nil_of_length_pos (Nat.zero_lt_of_lt hlt)
      case random =>
        have chal := (exec_challenge h he).trans (congrArg Host.Outcome.next (State.needRandom_answers hr 0x83))
        have meas := (exec_getMeasurements h he).trans (congrArg Host.Outcome.next (State.needRandom_answers hr 0xE0))
        have keys := (exec_keyExchange h he).trans (congrArg Host.Outcome.next (State.needRandom_answers hr 0xE4))
        intro d e
        refine ⟨fun h1 => chal.trans (congrArg Host.Outcome.next (if_neg (not_not_intro h1))), ?all, ?one, ?opens,
          fun hn => keys.trans (congrArg Host.Outcome.next (State.answerExchange_full hn))⟩
        case all =>
          intro r n g hop hsig
          have hop : m.param2.toNat = 0xFF := congrArg BitVec.toNat hop
          refine meas.trans (congrArg Host.Outcome.next ((State.answerMeasure_lists (by omega) (if_pos hop) (.inr hop)).trans ?_))
          rw [if_pos hsig]
          rfl
        case one =>
          intro i hi h1 h6 hsig r n
          have hop : m.param2.toNat ≤ 6 := hi ▸ h6
          have hone : (if m.param2.toNat = 0xFF then [1, 2, 3, 4, 5, 6] else [m.param2.toNat]) = [i] := by
            rw [if_neg (by omega), hi]
          refine meas.trans (congrArg Host.Outcome.next ((State.answerMeasure_lists (by omega) hone (.inl hop)).trans ?_))
          rw [if_neg (Bool.eq_false_iff.mp hsig), State.measureAll, List.flatMap_singleton]
          rfl
        case opens => exact fun h2 n hn => keys.trans (congrArg Host.Outcome.next (State.answerExchange_opens hn h2))
      case session =>
        refine ⟨fun hl => ⟨congrArg Host.Outcome.next (State.inSession_live h he hx _ hl), ?_, ?_,
            congrArg Host.Outcome.next (State.inSession_live h he hx _ hl)⟩,
          fun hl => ⟨congrArg Host.Outcome.next (State.inSession_opening h he hx _ hl),
            congrArg Host.Outcome.next (State.inSession_opening h he hx _ hl),
            congrArg Host.Outcome.next (State.inSession_opening h he hx _ hl)⟩⟩
        · exact fun h1 h3 => congrArg Host.Outcome.next ((State.inSession_live h he hx _ hl).trans (if_pos ⟨h1, h3⟩))
        · intro hbad
          refine congrArg Host.Outcome.next ((State.inSession_live h he hx _ hl).trans (if_neg ?_))
          have hbad : m.param1.toNat = 0 ∨ 3 < m.param1.toNat := hbad.imp_left (congrArg BitVec.toNat)
          omega

end Sys2Proof.Machine
end

section
/-! The staged start and the clocks (R579 to R598, R632, R659). -/

namespace Sys2Proof.Machine

section
variable {s : State}

/-! Stages 0 to 2 (R579, R581, R617 to R619) -/

/-- R579: stage 0 of a powered module ends. -/
theorem exec_stage0Done (hp : s.boot.powered = true) (h0 : s.boot.done0 = false) (flashOk : Bool) :
    let a : State := { s with loaded := true }
    let b := ((a.setBoot { a.boot with done0 := true }).setFld Fd.MC_PANEL_DIES_DIE_UP 0x1FF).stageEnds
    exec (.stage0Done flashOk) s =
      .next (if flashOk && flashListOk then b.loadFlash.setFld Fd.PWR_STAGE_STAGE 1 else b.log 0x0D07) := by
  refine congrArg Host.Outcome.next (if_neg ?_)
  rw [hp, h0]
  simp

/-- R617: the ROM reads the slots and the licences of a flash that can be read. -/
theorem exec_firmwareSelect (hf : s.boot.flash = true) (h1 : s.boot.done1 = false) (a b : FwSlot) (lic pend : Licence) :
    let q := flashHas s.fw.pend pend.bytes
    let u : State := { s with fw := { s.fw with
      slotA := flashHas s.fw.slotA a.image, slotB := flashHas s.fw.slotB b.image
      lic := if q = [] then flashHas s.fw.lic lic.bytes else q, pend := [] } }
    let v := u.setBoot { u.boot with selected := true }
    exec (.firmwareSelect a b lic pend) s =
      .next (((v.setHeld Fd.LIC_PEND_PENDING 0).setHeld Fd.LIC_PEND_PEND_LSEQ 0).runFirmware true) := by
  refine congrArg Host.Outcome.next (if_neg ?_)
  rw [hf, h1]
  simp

/-- R619: a slot is written while no firmware runs. -/
theorem exec_fwSlotWrite (hf : s.boot.flash = true) (hr : s.fw.run = 0) (slotB : Bool) (img : FwSlot) :
    let u : State := { s with fw := { (if slotB then { s.fw with slotB := img.image } else { s.fw with slotA := img.image }) with prefer := 0 } }
    exec (.fwSlotWrite slotB img) s = .next (if s.boot.selected then u.runFirmware (!s.boot.done1) else u) := by
  refine congrArg Host.Outcome.next (if_neg ?_)
  rw [hf, hr]
  simp

/-- R579: what lets stage 2 start. -/
theorem stage2_starts (h1 : s.boot.done1 = true) (h2 : s.boot.done2 = false) (hs : s.fld Fd.PWR_STAGE_STAGE = 1)
    (hx : s.isSet Fd.CLK_ROOT_STATUS_XTAL_OK = true) (hl : s.isSet Fd.CLK_ROOT_STATUS_PLL_LOCK = true) :
    ¬ ((!s.boot.done1) = true ∨ s.boot.done2 = true ∨ s.fld Fd.PWR_STAGE_STAGE ≠ 1 ∨ (!(s.isSet Fd.CLK_ROOT_STATUS_XTAL_OK)) = true
      ∨ (!(s.isSet Fd.CLK_ROOT_STATUS_PLL_LOCK)) = true) := by
  rw [h1, h2, hs, hx, hl]
  simp

theorem State.setMap_cpr (s : State) (k : Tier) (v : Nat) : (s.setMap k v).cpr = s.cpr := by
  unfold State.setMap
  split
  · rfl
  · simp only [State.setFld_cpr]
    rfl

theorem State.useFree_cpr (s : State) : s.useFree.cpr = s.cpr := rfl

theorem State.mapTier_cpr (s : State) (k : Tier) : (s.mapTier k).cpr = s.cpr := by
  unfold State.mapTier
  dsimp only
  split
  · rfl
  · simp only [State.setMap_cpr, State.useFree_cpr, State.setFld_cpr]

theorem State.stageEnds_cpr (s : State) : s.stageEnds.cpr = s.cpr := rfl

theorem State.mapIfNot_cpr (s : State) (k : Tier) : (s.mapIfNot k).cpr = s.cpr := by
  unfold State.mapIfNot
  split
  · rfl
  · exact s.mapTier_cpr k

/-- R581: what ends stage 2. -/
theorem exec_stage2Done (hs : s.fld Fd.PWR_STAGE_STAGE = 2) (h2 : s.boot.done2 = false) (hr : s.isSet Fd.ID_RNG_HEALTHY = true)
    (hn : s.nearResolved = true) (hf : s.farResolved = true) :
    let m := (s.mapIfNot .far).mapIfNot .near
    let u := (m.setBoot { m.boot with done2 := true }).stageEnds
    exec .stage2Done s = .next (if s.cpr = 0 then u.beginLifts
      else if s.cpr = 1 ∧ u.mayBringUp then ((u.setFld Fd.PWR_CPR_RELEASE 0).setFld Fd.PWR_CPR_HELD 0).bringUpLifts else u) := by
  intro m u
  have hm : m.cpr = s.cpr := ((s.mapIfNot .far).mapIfNot_cpr .near).trans (s.mapIfNot_cpr .far)
  have hc : u.cpr = s.cpr := (State.stageEnds_cpr _).trans hm
  rw [← hc]
  refine congrArg Host.Outcome.next (if_neg ?_)
  rw [hs, h2, hr, hn, hf]
  simp

/-! Saved settings and signatures (R598, R632) -/

section
variable {kind unit : Nat} {c : UnitCond}

theorem State.useSetting_saved (hv : (s.setting kind unit).valid kind unit = true) (hc : (s.setting kind unit).covers c = true) :
    s.useSetting kind unit c = s := by
  refine if_pos ?_
  rw [hv, hc]
  rfl

/-- R598: a unit whose record is not valid, or does not cover its conditions, is measured anew. -/
theorem State.useSetting_measures (h : ¬ ((s.setting kind unit).valid kind unit = true ∧ (s.setting kind unit).covers c = true)) :
    s.useSetting kind unit c = (((if (s.setting kind unit).present kind unit then s.incFld Fd.MC_SET_STAT_REJECTED else s).measure kind unit c
      0).logRec 0x0D05 7 (kind + unit * 16)) := by
  refine if_neg (fun hb => h ?_)
  exact Bool.and_eq_true_iff.mp hb

theorem State.logRec_settings (s : State) (code source detail : Nat) : (s.logRec code source detail).settings = s.settings :=
  State.logRec_leaves State.settings State.setFld_settings (by intros; rfl) (by intros; rfl) (by intros; rfl) s _ _ _

theorem State.useSetting_recorded (h : ¬ ((s.setting kind unit).valid kind unit = true ∧ (s.setting kind unit).covers c = true)) :
    SMap.find (s.useSetting kind unit c).settings (kind + unit * 16) ≠ none := by
  rw [State.useSetting_measures h, State.logRec_settings, State.measure, SMap.find_set_self]
  exact Option.some_ne_none _

end

/-! Lifts (R595, R596) -/

/-- R596: the rails of a lift are settled, `dead` having failed twice. -/
def State.railsSettled (s : State) (k : Nat) (supply : BitVec 2) (dead : List Nat) : State :=
  let ts := s.liftTiles k
  let live := ts.filter (fun t => !(dead.contains t))
  let s := s.setBoot { s.boot with
    lift := some (k, true), again := 0
    rails := dead.foldl (fun a t => a ||| 2 ^ t) s.boot.rails
    liveTiles := live.foldl (fun a t => a ||| 2 ^ t) s.boot.liveTiles }
  let s := dead.foldl (fun s _ => s.log 0x0F05) s
  let s := if dead = [] then s
    else (s.setFld Fd.PWR_STAGE_LIFT_FAIL (s.fld Fd.PWR_STAGE_LIFT_FAIL ||| 2 ^ k)).showPanel (s.fld Fd.MC_PANEL_TILES_EXCL_ROW)
  (live.foldl (fun s t =>
    s.useSetting 4 t { temp := BitVec.ofNat 8 (s.fld (Fd.PWR_TILE_TEMP t)), supply := supply }) s).startDomain 0

theorem exec_liftRailCheck {k : Nat} (hk : s.boot.lift = some (k, false)) (bad : BitVec 36) (supply : BitVec 2) :
    let low := (s.liftTiles k).filter (fun t => bad.getLsbD t)
    exec (.liftRailCheck bad supply) s = .next (if s.boot.again = 0 ∧ low ≠ [] then
        s.setBoot { s.boot with again := low.foldl (fun a t => a + 2 ^ t) 0 }
      else s.railsSettled k supply (low.filter (fun t => bitAt s.boot.again t))) := by
  refine congrArg Host.Outcome.next ?_
  simp only [hk]
  rfl

theorem State.railsSettled_good (k : Nat) (supply : BitVec 2) : s.railsSettled k supply [] =
    (((s.liftTiles k).foldl (fun s t => s.useSetting 4 t { temp := BitVec.ofNat 8 (s.fld (Fd.PWR_TILE_TEMP t)), supply := supply })
      (s.setBoot { s.boot with
        lift := some (k, true), again := 0
        liveTiles := (s.liftTiles k).foldl (fun a t => a ||| 2 ^ t) s.boot.liveTiles })).startDomain 0) := by
  have all : (s.liftTiles k).filter (fun t => !(([] : List Nat).contains t)) = s.liftTiles k := List.filter_eq_self.mpr (fun _ _ => rfl)
  unfold State.railsSettled
  simp only [all]
  rfl

theorem State.railsSettled_dead (k : Nat) (supply : BitVec 2) {dead : List Nat} (h : dead ≠ []) :
    let live := (s.liftTiles k).filter (fun t => !(dead.contains t))
    let a := dead.foldl (fun s _ => s.log 0x0F05) (s.setBoot { s.boot with
      lift := some (k, true), again := 0, rails := dead.foldl (fun a t => a ||| 2 ^ t) s.boot.rails,
      liveTiles := live.foldl (fun a t => a ||| 2 ^ t) s.boot.liveTiles })
    s.railsSettled k supply dead = ((live.foldl (fun s t =>
      s.useSetting 4 t { temp := BitVec.ofNat 8 (s.fld (Fd.PWR_TILE_TEMP t)), supply := supply })
        ((a.setFld Fd.PWR_STAGE_LIFT_FAIL (a.fld Fd.PWR_STAGE_LIFT_FAIL ||| 2 ^ k)).showPanel
          (a.fld Fd.MC_PANEL_TILES_EXCL_ROW))).startDomain 0) := by
  unfold State.railsSettled
  simp only [if_neg h]

/-- R595, R628: what follows a lift whose tests have run: the next lift, or the refusal of stage 3. -/
def State.afterLift (u : State) (k : Nat) : State :=
  if u.routerBad then (u.showPanel (u.fld Fd.MC_PANEL_TILES_EXCL_ROW)).refuseStage3 0x0E21
  else if (u.takeClass false).boot.refused then u.takeClass false
  else State.nextLift (5 - k) (u.takeClass false)

section
variable {u : State} (k : Nat)

theorem State.afterLift_routerBad (h : u.routerBad = true) :
    u.afterLift k = (u.showPanel (u.fld Fd.MC_PANEL_TILES_EXCL_ROW)).refuseStage3 0x0E21 := if_pos h

variable (h : u.routerBad = false)
include h

theorem State.afterLift_refused (hr : (u.takeClass false).boot.refused = true) : u.afterLift k = u.takeClass false :=
  (if_neg (Bool.eq_false_iff.mp h)).trans (if_pos hr)

theorem State.afterLift_next (hr : (u.takeClass false).boot.refused = false) : u.afterLift k = State.nextLift (5 - k) (u.takeClass false) :=
  (if_neg (Bool.eq_false_iff.mp h)).trans (if_neg (Bool.eq_false_iff.mp hr))

end

theorem exec_liftBistEnd {k : Nat} (hk : s.boot.lift = some (k, true)) (tests : List BistResult) : exec (.liftBistEnd tests) s =
    .next ((((tests.filter (fun r => (s.liftTiles k).any (fun t => r.index.val = 9 + t))).foldl State.quickBist s).liftDone k).afterLift k) := by
  refine congrArg Host.Outcome.next ?_
  simp only [hk]
  rfl

/-! Clocks (R584 to R591) -/

theorem exec_xtalQualWindowEnd (h : s.boot.xtal = 1) (edges : Bool) (count : BitVec 32) :
    exec (.xtalQualWindowEnd edges count) s = .next (if edges then
        ((s.setFld Fd.CLK_ROOT_STATUS_IOSC_CAL count.toNat).setFld Fd.CLK_ROOT_STATUS_XTAL_OK 1).setBoot
          { s.boot with xtal := 3, badWindow := false }
      else (s.setBoot { s.boot with xtal := 2 }).log 0x0D01) := congrArg Host.Outcome.next (if_neg (not_not_intro h))

theorem exec_xtalMonitorWindowEnd (h : s.boot.xtal = 3) (count : BitVec 32) :
    let cal := s.fld Fd.CLK_ROOT_STATUS_IOSC_CAL
    let u := (s.satFld Fd.CLK_ROOT_STATUS_XTAL_FAILS).setBoot { s.boot with badWindow := true }
    exec (.xtalMonitorWindowEnd count) s = .next (if cal * 995 ≤ count.toNat * 1000 ∧ count.toNat * 1000 ≤ cal * 1005 then
        s.setBoot { s.boot with badWindow := false }
      else if s.boot.badWindow then u.loseCrystal else u) := congrArg Host.Outcome.next (if_neg (not_not_intro h))

theorem exec_pllLock (hx : s.isSet Fd.CLK_ROOT_STATUS_XTAL_OK = true) (hl : s.isSet Fd.CLK_ROOT_STATUS_PLL_LOCK = false)
    (ht : s.boot.pllTries < 4) (locked : Bool) : exec (.pllLock locked) s = .next (if locked then
        (List.range 8).foldl (fun s d =>
          if s.domHz d = 0 then s else (s.setFld (Fd.CLK_DOM_CTL_SRC d) 1).aim d (nominalGoal d)) (s.setFld Fd.CLK_ROOT_STATUS_PLL_LOCK 1)
      else (s.setBoot { s.boot with pllTries := s.boot.pllTries + 1 }).log 0x0D03) := by
  refine congrArg Host.Outcome.next (if_neg ?_)
  rw [hx, hl]
  simp only [Bool.not_true, Bool.false_eq_true, false_or]
  omega

/-- R589: one step of a domain that ramps. -/
theorem exec_domainRampStep {d : Fin 8} (h : s.isSet (Fd.CLK_DOM_CTL_RAMPING d.val) = true) :
    let k := d.val
    let f := s.domHz k
    let g := s.domGoal k
    let goal := goalHz g
    let f' := if f < goal then min goal (f + f / 16) else max goal (f - f / 16)
    let u := s.setBoot { s.boot with freq := s.boot.freq.set k f' }
    exec (.domainRampStep d) s = .next (if (!g.2.2) = true ∧ f * 15 ≤ goal * 16 then
        (((s.setBoot { s.boot with freq := s.boot.freq.set k goal }).setFld (Fd.CLK_DOM_CTL_RAMPING k) 0).setFld
          (Fd.CLK_DOM_CTL_SRC k) 0).recovered
      else if g.2.2 = true ∧ f' = goal then u.setFld (Fd.CLK_DOM_CTL_RAMPING k) 0 else u) := by
  refine congrArg Host.Outcome.next (if_neg ?_)
  rw [h]
  exact Bool.false_ne_true

theorem exec_domainRampStep_still {d : Fin 8} (h : s.isSet (Fd.CLK_DOM_CTL_RAMPING d.val) = false) : exec (.domainRampStep d) s = .next s := by
  refine congrArg Host.Outcome.next (if_pos ?_)
  rw [h]
  rfl

/-- R591: a core ratio is held, and aimed at until the power controller has set one. -/
def State.takeRatio (s : State) (num den : Nat) : State :=
  let w := (s.setFld (Fd.CLK_DOM_CTL_NUM 0) num).setFld (Fd.CLK_DOM_CTL_DEN 0) den
  if s.boot.coreSet then w else w.aimCore num den

section
variable {num den : Nat} (hd : den ≠ 0)
include hd

theorem State.writeCoreRatio_within (h0 : num ≠ 0) (hlo : 375000000 * num ≤ 12000000000 * den)
    (hhi : 12000000000 * den ≤ 1500000000 * num) : s.writeCoreRatio num den = s.takeRatio num den := by
  have above : ¬ (num = 0 ∨ 12000000000 * den > 1500000000 * num) := by omega
  have under : ¬ (num ≠ 0 ∧ 12000000000 * den < 375000000 * num) := by omega
  unfold State.writeCoreRatio
  simp only [if_neg hd, if_neg above, if_neg under, if_neg (not_or.mpr ⟨above, under⟩)]
  rfl

theorem State.writeCoreRatio_above (h : num = 0 ∨ 1500000000 * num < 12000000000 * den) :
    s.writeCoreRatio num den = (s.log 0x0F04).takeRatio 8 1 := by
  have above : num = 0 ∨ 12000000000 * den > 1500000000 * num := h
  unfold State.writeCoreRatio
  simp only [if_neg hd, if_pos above, if_pos (Or.inl above)]
  rfl

theorem State.writeCoreRatio_under (h0 : num ≠ 0) (h : 12000000000 * den < 375000000 * num) :
    s.writeCoreRatio num den = (s.log 0x0F04).takeRatio 32 1 := by
  have above : ¬ (num = 0 ∨ 12000000000 * den > 1500000000 * num) := by omega
  have under : num ≠ 0 ∧ 12000000000 * den < 375000000 * num := ⟨h0, h⟩
  unfold State.writeCoreRatio
  simp only [if_neg hd, if_neg above, if_pos under, if_pos (Or.inr under)]
  rfl

end

end

/-- Settles O53: each event by its equation in the stage that waits for it. -/
theorem startAndClocks : Obligations.StartAndClocks := by
  intro s
  refine ⟨fun slot => ⟨fun hp => ?rise, fun hp => congrArg Host.Outcome.next (if_pos hp)⟩, fun hp => ?powered, fun hf => ?flash,
    fun h1 h2 hs hx hl dimms tests => congrArg Host.Outcome.next (if_neg (stage2_starts h1 h2 hs hx hl)), fun unit ok c => ?training,
    fun kind unit c => ?setting, fun hs h2 hr hn hf => ?stage2, fun k bad supply hk => ?rails, fun r => ?quick,
    fun k tests hk => ?bist, fun count h => ⟨exec_xtalQualWindowEnd h true count, exec_xtalQualWindowEnd h false count⟩,
    fun h => congrArg Host.Outcome.next (if_pos h), fun count h => ?monitor,
    fun hx hl ht => ⟨exec_pllLock hx hl ht true, exec_pllLock hx hl ht false⟩, fun d => ?domain, fun num den h1 => ?ratio,
    fun tile => ⟨fun hl hd => ?droop, rfl⟩⟩
  case rise => exact congrArg Host.Outcome.next (if_neg (Bool.eq_false_iff.mp hp))
  case powered =>
    have on : ¬ (!s.boot.powered) = true := by
      rw [hp]
      exact Bool.false_ne_true
    refine ⟨congrArg Host.Outcome.next (if_pos hp),
      fun us h => congrArg Host.Outcome.next (if_neg (not_or.mpr ⟨on, Nat.not_lt.mpr h⟩)),
      fun us h => congrArg Host.Outcome.next (if_pos (.inr h)), fun mv => ?volt, fun h0 => ?stage0,
      fun hx => congrArg Host.Outcome.next (if_pos ⟨hp, hx⟩)⟩
    case volt =>
      intro u
      have run : exec (.inputVoltageLow mv) s =
          .next (u.episode 9 (decide (46000 ≤ mv.toNat) && decide (mv.toNat < 50000)) 0x0F09) := congrArg Host.Outcome.next (if_neg on)
      refine ⟨fun hlo hhi => run.trans ?_, fun hout => run.trans ?_⟩
      · rw [decide_eq_true hlo, decide_eq_true hhi, Bool.true_and]
      · rw [← Bool.decide_and, decide_eq_false (by omega)]
    case stage0 =>
      intro a b
      have run := exec_stage0Done hp h0
      refine ⟨fun hl => (run true).trans (congrArg Host.Outcome.next (if_pos ?_)),
        fun hl => (run true).trans (congrArg Host.Outcome.next (if_neg ?_)), run false⟩
      · rw [hl, Bool.and_self]
      · rw [hl, Bool.and_false]
        exact Bool.false_ne_true
  case flash =>
    refine ⟨fun a b lic pend h1 => exec_firmwareSelect hf h1 a b lic pend, fun img hr => ?_⟩
    have run := exec_fwSlotWrite hf hr
    exact ⟨fun h => ⟨(run false img).trans (congrArg Host.Outcome.next (if_pos h)),
        (run true img).trans (congrArg Host.Outcome.next (if_pos h))⟩,
      fun h => ⟨(run false img).trans (congrArg Host.Outcome.next (if_neg (Bool.eq_false_iff.mp h))),
        (run true img).trans (congrArg Host.Outcome.next (if_neg (Bool.eq_false_iff.mp h)))⟩⟩
  case training =>
    have waits (h2 : s.boot.done2 = false) : (!s.boot.done2) = true := by
      rw [h2]
      rfl
    exact ⟨fun hs h2 h0 => congrArg Host.Outcome.next
        (if_neg (not_or.mpr ⟨not_not_intro (.inl ⟨hs, waits h2⟩), not_not_intro h0⟩)),
      fun hw h0 => congrArg Host.Outcome.next (if_neg (not_or.mpr
        ⟨not_not_intro (hw.imp (fun h => ⟨h.1, waits h.2⟩) (fun h => ⟨rfl, h⟩)), not_not_intro h0⟩))⟩
  case setting =>
    intro r
    refine ⟨fun hv hc => State.useSetting_saved hv hc, fun h => ⟨fun hp => ?_, fun hp => ?_, State.useSetting_recorded h⟩⟩
    · rw [State.useSetting_measures h, if_pos hp]
    · rw [State.useSetting_measures h, if_neg (Bool.eq_false_iff.mp hp)]
  case stage2 =>
    intro m u
    have run : exec .stage2Done s = .next _ := exec_stage2Done hs h2 hr hn hf
    refine ⟨fun h => run.trans (congrArg Host.Outcome.next (if_pos h)),
      fun h hb => run.trans (congrArg Host.Outcome.next ((if_neg (by omega)).trans (if_pos ⟨h, hb⟩))),
      fun h hb => run.trans (congrArg Host.Outcome.next ((if_neg (by omega)).trans (if_neg ?_)))⟩
    exact fun ⟨_, hgo⟩ => Bool.false_ne_true (hb.symm.trans hgo)
  case rails =>
    intro ts low models
    have run := exec_liftRailCheck hk bad supply
    refine ⟨fun ha hl => run.trans (congrArg Host.Outcome.next (if_pos ⟨ha, hl⟩)), fun hl => run.trans (congrArg Host.Outcome.next ?_),
      fun ha dead hdead hne => run.trans (congrArg Host.Outcome.next ((if_neg (fun h => ha h.1)).trans ?_))⟩
    · have none : (s.liftTiles k).filter (fun t => bad.getLsbD t) = [] := hl
      rw [none, if_neg (fun h => h.2 rfl), List.filter_nil]
      exact State.railsSettled_good k supply
    · exact (congrArg (s.railsSettled k supply) hdead.symm).trans (State.railsSettled_dead k supply hne)
  case quick =>
    intro d shown es u differs
    exact ⟨fun h => if_neg h, fun h => if_pos h⟩
  case bist =>
    intro ts a u
    have run : exec (.liftBistEnd tests) s = .next (u.afterLift k) := exec_liftBistEnd hk tests
    clear_value u
    exact ⟨fun hb => run.trans (congrArg Host.Outcome.next (State.afterLift_routerBad k hb)),
      fun hb hr => run.trans (congrArg Host.Outcome.next (State.afterLift_refused k hb hr)),
      fun hb hr => run.trans (congrArg Host.Outcome.next (State.afterLift_next k hb hr))⟩
  case monitor =>
    intro cal good u
    have run := exec_xtalMonitorWindowEnd h count
    exact ⟨fun hg => run.trans (congrArg Host.Outcome.next (if_pos hg)),
      fun hg hb => run.trans (congrArg Host.Outcome.next ((if_neg hg).trans (if_neg (Bool.eq_false_iff.mp hb)))),
      fun hg hb => run.trans (congrArg Host.Outcome.next ((if_neg hg).trans (if_pos hb)))⟩
  case domain =>
    intro k f g goal
    refine ⟨fun hr => ?ramps, exec_domainRampStep_still, fun count hx => congrArg Host.Outcome.next (if_pos hx)⟩
    have run := exec_domainRampStep hr
    refine ⟨fun hg => ?pll, fun hg => ?osc⟩
    case pll =>
      intro f' u
      have away : ¬ ((!g.2.2) = true ∧ f * 15 ≤ goal * 16) := by
        rw [hg]
        exact fun h => Bool.false_ne_true h.1
      exact ⟨fun hne => run.trans (congrArg Host.Outcome.next ((if_neg away).trans (if_neg (fun h => hne h.2)))),
        fun heq => run.trans (congrArg Host.Outcome.next ((if_neg away).trans (if_pos ⟨hg, heq⟩)))⟩
    case osc =>
      have osc : (!g.2.2) = true := by
        rw [hg]
        rfl
      refine ⟨fun hle => run.trans (congrArg Host.Outcome.next (if_pos ⟨osc, hle⟩)),
        fun hlt => run.trans (congrArg Host.Outcome.next ((if_neg (fun h => Nat.not_le.mpr hlt h.2)).trans
          ((if_neg (fun h => Bool.false_ne_true (hg.symm.trans h.1))).trans ?_)))⟩
      have down : ¬ f < goal := by omega
      exact congrArg (fun x => s.setBoot { s.boot with freq := s.boot.freq.set k x }) (if_neg down)
  case ratio =>
    intro n m ratio
    have run : exec (.coreRatioWrite num den) s = .next (s.writeCoreRatio n m) := congrArg Host.Outcome.next (State.hostWrite_done1 h1 _)
    have logged (a b : Nat) : (s.log 0x0F04).takeRatio a b = ratio (s.log 0x0F04) a b :=
      ite_congr (congrArg (fun x : Boot => x.coreSet = true) (s.boot_log 0x0F04 _)) (fun _ => rfl) (fun _ => rfl)
    exact ⟨fun hd => run.trans (congrArg Host.Outcome.next (if_pos hd)),
      fun hd hn hlo hhi => run.trans (congrArg Host.Outcome.next (State.writeCoreRatio_within hd hn hlo hhi)),
      fun hd h => run.trans (congrArg Host.Outcome.next ((State.writeCoreRatio_above hd h).trans (logged 8 1))),
      fun hd hn h => run.trans (congrArg Host.Outcome.next ((State.writeCoreRatio_under hd hn h).trans (logged 32 1)))⟩
  case droop =>
    refine congrArg Host.Outcome.next (if_neg ?_)
    rw [hl, hd]
    simp

end Sys2Proof.Machine
end

section
/-! NOP, GATE and RNG.SEEK, and the transfers of control (R65, R98, R104, R228, R480, R481). -/

namespace Sys2Proof.Machine

/-! RNG.SEEK (R228) -/

section
variable (s : State) (t : Tid) (w : IWord)

@[simp] theorem State.pastGuard_rngKey (k : Nat) : (s.pastGuard t w).rngKey k = s.rngKey k :=
  State.pastGuard_leaves (State.rngKey · k) (fun _ => rfl) w

@[simp] theorem State.pastGuard_rngKeyPos (n : Nat) : (s.pastGuard t w).rngKeyPos n = s.rngKeyPos n :=
  State.pastGuard_leaves (State.rngKeyPos · n) (fun _ => rfl) w

end

/-- Without .POS bit 0 of MOD is zero as it is. -/
theorem IWord.without_pos {w : IWord} (h : w.mod = 0) : ({ w with mod := w.mod &&& ~~~1 } : IWord) = w := by
  rw [and_not_one_of_even (by rw [h]; rfl)]

/-- With .POS it is one as it is. -/
theorem IWord.with_pos {w : IWord} (h : w.mod = 1) : ({ w with mod := w.mod ||| 1 } : IWord) = w := by
  rw [or_one_of_odd (by rw [h]; rfl)]

/-- Settles O5: NOP and an open GATE change nothing, and each form of RNG.SEEK changes key and counter. -/
theorem nopGateSeek : Obligations.NopGateSeek := by
  intro t w s he r did
  refine ⟨fun h => ?nop, fun h => ?gate, fun hm h => ?seek, fun hm h => ?pos⟩
  case nop => exact congrArg Host.Outcome.next (State.issue_idles h rfl he rfl)
  case gate => exact congrArg Host.Outcome.next (State.issue_idles h rfl he rfl)
  case seek =>
    change execRngSeek t w s = _
    unfold execRngSeek
    rw [IWord.without_pos hm]
    refine congrArg Host.Outcome.next ((State.issue_retire h rfl he rfl (by intro; rfl)).trans (s.retire_congr t w _ _ ?_))
    simp only [TRegs.getG_past, State.pastGuard_rngKey, r]
  case pos =>
    change execRngSeekPos t w s = _
    unfold execRngSeekPos
    rw [IWord.with_pos hm]
    refine congrArg Host.Outcome.next ((State.issue_retire h rfl he rfl (by intro; rfl)).trans (s.retire_congr t w _ _ ?_))
    simp only [TRegs.getG_past, State.pastGuard_rngKeyPos, r]

/-! Transfers of control (R65, R98, R481) -/

/-- R65: a target that a transfer may have: a multiple of 8 within the vat. -/
def InVat (x : Int) : Prop := 0 ≤ x ∧ x < 0x4000000 ∧ x % 8 = 0

/-- R65: a transfer to such a target faults not. -/
theorem jumpTo_inVat (s : State) {x : Int} (h : InVat x) : jumpTo s x = .jump x.toNat s := by
  obtain ⟨low, high, eighth⟩ := h
  exact if_neg (by omega)

/-- R98: the control tag takes the tag of a register tested. -/
def TRegs.tested (reg : Nat) (q : TRegs) : TRegs := { q with ctrl := q.ctrl ||| q.tag reg }

@[simp] theorem branchTarget_testTag (s : State) (t : Tid) (w : IWord) (reg : Nat) :
    branchTarget (testTag s t reg) t w = branchTarget s t w := by
  unfold branchTarget testTag
  rw [State.regs_modRegs_self]

@[simp] theorem branchTarget_pastGuard (s : State) (t : Tid) (w : IWord) : branchTarget (s.pastGuard t w) t w = branchTarget s t w := by
  unfold branchTarget
  rw [State.regs_pastGuard, TRegs.pc_past]

/-- A transfer depends on what its change makes of the registers behind the guard. -/
theorem State.jumped_congr (s : State) (t : Tid) (w : IWord) (pc : Nat) (f g : TRegs → TRegs)
    (h : f ((s.regs t.code).past w) = g ((s.regs t.code).past w)) : s.jumped t w pc f = s.jumped t w pc g := by
  unfold State.regs at h
  unfold State.jumped
  dsimp only
  rw [h]

section
variable {s : State} {t : Tid} {w : IWord}

/-- A transfer behind the guard that changes the thread's registers. -/
theorem Eff.finish_jump_pastGuard (pc : Nat) (f : TRegs → TRegs) :
    (Eff.jump pc ((s.pastGuard t w).modRegs t.code f)).finish t.code w.size = s.jumped t w pc f := by
  unfold Eff.finish State.goTo State.jumped State.pastGuard State.modRegs TRegs.past
  by_cases h : w.pred = 0#5 <;> simp [h]

/-- A transfer behind the guard that changes nothing else. -/
theorem Eff.finish_jump_still (pc : Nat) : (Eff.jump pc (s.pastGuard t w)).finish t.code w.size = s.jumped t w pc id := by
  rw [← Eff.finish_jump_pastGuard]
  simp [Eff.finish, State.goTo, State.modRegs]

section
variable {sp : Spec} (h : s.Ready t w sp.ok sp.gate (sp.reads ++ sp.writes)) (hl : sp.lane = false) (he : s.Enabled t w)
  {body : State → BitVec 8 → Eff}
include h hl he

/-- A ready word whose effect behind the guard is a transfer goes to its target. -/
theorem State.issue_jumps {pc : Nat} {f : TRegs → TRegs}
    (hb : body (s.pastGuard t w) ((s.regs t.code).resultTag w sp.reads) = .jump pc ((s.pastGuard t w).modRegs t.code f)) :
    s.issue t w sp body = s.jumped t w pc f := by
  rw [State.issue_enabled h hl he, hb, Eff.unguard_jump, Eff.finish_jump_pastGuard]

/-- R98, R481: the two ends of a conditional branch whose test says c. -/
theorem State.issue_branches {reg : Nat} {taken : Bool} {c : Prop} (near : InVat (branchTarget s t w)) (ht : taken = true ↔ c)
    (hb : body (s.pastGuard t w) ((s.regs t.code).resultTag w sp.reads) = branchIf t w (s.pastGuard t w) reg taken) :
    (c → (.next (s.issue t w sp body) : Host.Outcome State Fault Refusal) =
      .next (s.jumped t w (branchTarget s t w).toNat (TRegs.tested reg))) ∧
    (¬ c → (.next (s.issue t w sp body) : Host.Outcome State Fault Refusal) = .next (s.retire t w (TRegs.tested reg))) := by
  refine ⟨fun hc => congrArg Host.Outcome.next (State.issue_jumps h hl he (hb.trans ((if_pos (ht.mpr hc)).trans ?_))),
    fun hc => congrArg Host.Outcome.next (State.issue_retire h hl he (hb.trans (if_neg (mt ht.mp hc))) (fun _ => rfl))⟩
  rw [branchTarget_testTag, branchTarget_pastGuard, jumpTo_inVat _ near]
  rfl

end

/-- R65, R481: BR to a target that it may have. -/
theorem exec_br (he : s.Enabled t w) (h : s.Ready t w (formIOk .none w) false []) (near : InVat (branchTarget s t w)) :
    exec (.br t w) s = .next (s.jumped t w (branchTarget s t w).toNat id) := by
  refine congrArg Host.Outcome.next ((State.issue_enabled h rfl he _).trans ?_)
  rw [branchTarget_pastGuard, jumpTo_inVat _ near, Eff.unguard_jump, Eff.finish_jump_still]

/-- R481: CALL keeps the place behind it in its link register. -/
theorem exec_call (he : s.Enabled t w) (h : s.Ready t w (formIOk .g w) false [gR w.a.toNat]) (near : InVat (branchTarget s t w)) :
    exec (.call t w) s = .next (s.jumped t w (branchTarget s t w).toNat (fun q =>
      q.setG w.a.toNat (BitVec.ofNat 64 ((s.regs t.code).pc + 8)) ((s.regs t.code).resultTag w []))) := by
  refine congrArg Host.Outcome.next ((State.issue_jumps (pc := (branchTarget s t w).toNat) (f := fun q =>
    q.setG w.a.toNat (BitVec.ofNat 64 (q.pc + 8)) ((s.regs t.code).resultTag w [])) h rfl he ?_).trans (s.jumped_congr t w _ _ _ ?_))
  · dsimp only
    rw [branchTarget_pastGuard, jumpTo_inVat _ near]
  · rw [TRegs.pc_past]

/-- R65, R481: RET goes to the offset in its register. -/
theorem exec_ret (he : s.Enabled t w) (h : s.Ready t w (({ a := .g } : Form).ok w) false [gR w.a.toNat])
    (near : InVat ((s.regs t.code).getG w.a.toNat).toNat) :
    exec (.ret t w) s = .next (s.jumped t w ((s.regs t.code).getG w.a.toNat).toNat (TRegs.tested (gR w.a.toNat))) := by
  refine congrArg Host.Outcome.next (State.issue_jumps h rfl he ?_)
  rw [State.regs_pastGuard, TRegs.getG_past, jumpTo_inVat _ near]
  rfl

end

/-- Settles O6: the two ends of a conditional branch, and the transfers that test nothing. -/
theorem branchTargets : Obligations.BranchTargets := by
  intro t w s he r a target near jump tested cond
  refine ⟨rfl, fun hn => ⟨fun h => exec_br he h hn, fun h => ⟨?_, ?_, exec_call he h hn⟩, fun h => ⟨?_, ?_⟩⟩, fun hn h => exec_ret he h hn⟩
  all_goals exact State.issue_branches h rfl he hn (by simp [r, a]) rfl

end Sys2Proof.Machine
end

section
/-! The barrier instructions (R80 to R90, R99, R101, R122, R414). -/

namespace Sys2Proof.Machine

/-! A word that waits behind its guard -/

/-- R98: without what the guard adds to the control tag the registers are those before it. -/
theorem TRegs.ctrl_past (r : TRegs) (w : IWord) : { r.past w with ctrl := r.ctrl } = r := by
  unfold TRegs.past
  split <;> rfl

/-- R99: an effect that waits gives back the registers as they were before the instruction. -/
theorem Eff.ended_waits {s u : State} {t : Tid} {w : IWord} (hu : u.regs t.code = (s.regs t.code).past w) (st : TState) :
    (Eff.wait st u).ended s t w = u.setThread t.code { u.thread t.code with st := st, regs := s.regs t.code } := by
  unfold State.regs at hu
  rw [Eff.ended_waiting, State.unguard, State.modRegs, hu, State.waitIn, State.thread_setThread_self, State.setThread_setThread]
  exact congrArg (fun r => u.setThread t.code { u.thread t.code with st := st, regs := r }) (TRegs.ctrl_past _ w)

/-! What a barrier instruction meets before its effect (R82, R101, R285) -/

@[simp] theorem State.barOperand_pastGuard (s : State) (t : Tid) (w : IWord) : (s.pastGuard t w).barOperand t w = s.barOperand t w := by
  unfold State.barOperand
  rw [State.regs_pastGuard, TRegs.getG_past]

section
variable {s u : State} {t : Tid} {w : IWord}

/-- R82: an operand that names no object. -/
theorem State.onBar_nameless (h : s.barOperand t w = 0 ∨ barFault (s.barOperand t w) ≠ 0) (wr : Bool) (k : State → Nat → Eff) :
    (s.pastGuard t w).onBar t w wr k = .fault 0x0105 (s.pastGuard t w) := by
  unfold State.onBar
  rw [State.barOperand_pastGuard]
  exact if_pos h

/-- The operand of a word behind its guard names an object, and the access to it opens. -/
structure State.Meets (s : State) (t : Tid) (w : IWord) (wr : Bool) (u : State) : Prop where
  named : s.barOperand t w ≠ 0
  sound : barFault (s.barOperand t w) = 0
  opens : ∃ tag, (s.pastGuard t w).Opens t.code [(barAddr t.code (s.barOperand t w), 16)]
    (if wr then [(barAddr t.code (s.barOperand t w), 16)] else []) tag u

section
variable {wr : Bool} (h : s.Meets t w wr u)
include h

/-- R101: an object that is met is open to the effect. -/
theorem State.Meets.onBar (k : State → Nat → Eff) :
    (s.pastGuard t w).onBar t w wr k = k u (barAddr t.code (s.barOperand t w)) := by
  obtain ⟨tag, ho⟩ := h.opens
  unfold State.onBar
  rw [State.barOperand_pastGuard]
  exact (if_neg (not_or.mpr ⟨h.named, not_not_intro h.sound⟩)).trans (State.access_opens ho _)

/-- The access leaves the registers behind the guard. -/
theorem State.Meets.regs : u.regs t.code = (s.regs t.code).past w := by
  obtain ⟨tag, ho⟩ := h.opens
  exact ho.regs_past

theorem State.Meets.mem : u.mem = s.mem := by
  obtain ⟨tag, ho⟩ := h.opens
  rw [ho.mem, State.pastGuard_mem]

end
end

/-! BAR.INIT (R84) -/

section
variable {s u : State} {t : Tid} {w : IWord} (he : s.Enabled t w)
  (hr : s.Ready t w (({ a := .g, b := .g } : Form).ok w) true [gR w.a.toNat, gR w.b.toNat]) (hm : s.Meets t w true u)
  (h0 : 0 < ((s.regs t.code).getG w.b.toNat).toNat) (h16 : ((s.regs t.code).getG w.b.toNat).toNat < 2 ^ 16)
include he hr hm h0 h16

/-- R84: BAR.INIT of a count that fits comes to the test of its object. -/
theorem exec_barInit_counted :
    let n := ((s.regs t.code).getG w.b.toNat).toNat
    let a := barAddr t.code (s.barOperand t w)
    let b := u.bar a
    exec (.barInit t w) s = .next (if b.broken ∨ b.idle
      then (u.setBar a { b with
        count := n, left := n, pend := 0, unconf := 0, phase := false, broken := false
        epoch := if b.broken then (b.epoch + 1) % 256 else b.epoch }).advance t w
      else u.raise t.code 0x0106 w.size) := by
  intro n a b
  refine congrArg Host.Outcome.next ((State.issue_enabled hr rfl he _).trans ?_)
  simp only [State.regs_pastGuard, TRegs.getG_past, if_neg (Nat.ne_of_gt h0), hm.onBar, if_neg (Nat.not_le.mpr h16)]
  split <;> rfl

end

/-- R84: idle, by the counts. -/
theorem Bar.idle_iff (b : Bar) : b.idle = true ↔ b.left = b.count ∧ b.pend = 0 ∧ b.unconf = 0 := by
  simp [Bar.idle, and_assoc]

/-- Settles O12: the object is written when it is BROKEN or idle, and otherwise the fault leaves memory. -/
theorem barrierInit : Obligations.BarrierInit := by
  intro t w s u tag he n v a b fresh hr h0 h16 hv hf ho
  have hm : s.Meets t w true u := ⟨hv, hf, tag, ho⟩
  have run := exec_barInit_counted he hr hm h0 h16
  refine ⟨fun hb => ?broken, fun hb hl hp hu => ?idle, fun hb hc => ⟨?busy, ?mem⟩⟩
  case broken =>
    rw [run, if_pos (Or.inl hb), if_pos hb]
  case idle =>
    rw [run, if_pos (Or.inr (b.idle_iff.mpr ⟨hl, hp, hu⟩)), hb]
    rfl
  case busy =>
    rw [run, if_neg (not_or.mpr ⟨ne_true_of_eq_false hb, mt b.idle_iff.mp hc⟩)]
  case mem =>
    rw [State.raise_mem, hm.mem]

/-! Arrivals (R80, R85, R88) -/

section
variable {s u : State} {t : Tid} {w : IWord}

section
variable (hm : s.Meets t w true u) (n : Nat)
include hm

theorem arriveBody_broken (hb : (u.bar (barAddr t.code (s.barOperand t w))).broken = true) :
    arriveBody t w n (s.pastGuard t w) = .fault 0x0107 u :=
  (hm.onBar _).trans (if_pos hb)

section
variable (hb : (u.bar (barAddr t.code (s.barOperand t w))).broken = false)
include hb

/-- R80: an arrival releases: it waits for the thread's loads of peers. -/
theorem arriveBody_away (hl : (u.thread t.code).away = true) : arriveBody t w n (s.pastGuard t w) = .wait .waitData u :=
  (hm.onBar _).trans ((if_neg (ne_true_of_eq_false hb)).trans (if_pos hl))

/-- R85, R88: an arrival leaves its object updated, or broken with the fault. -/
theorem arriveBody_arrives (hl : (u.thread t.code).away = false) :
    let a := barAddr t.code (s.barOperand t w)
    let c := (u.bar a).arrive n
    arriveBody t w n (s.pastGuard t w) = if c.broken then .fault 0x0107 (u.putBar a c) else .retire (u.putBar a c) :=
  (hm.onBar _).trans ((if_neg (ne_true_of_eq_false hb)).trans (if_neg (ne_true_of_eq_false hl)))

end
end

theorem State.putBar_broken {a : Nat} {b : Bar} (h : b.broken = true) : u.putBar a b = u.breakBar a b := if_pos h

theorem State.putBar_sound {a : Nat} {b : Bar} (h : b.broken = false) : u.putBar a b = u.setBar a b := if_neg (ne_true_of_eq_false h)

/-- R85: BAR.ARRIVE comes to the arrival of no bytes. -/
theorem exec_barArrive (he : s.Enabled t w) (h0 : w.m 0 = false) (hr : s.Ready t w (({ a := .g } : Form).ok w) true [gR w.a.toNat]) :
    exec (.barArrive t w) s = .next ((arriveBody t w 0 (s.pastGuard t w)).ended s t w) := by
  change execBarArrive t w s = _
  unfold execBarArrive
  rw [and_not_one_of_even h0]
  exact congrArg Host.Outcome.next (State.issue_enabled hr rfl he _)

/-- R85: BAR.ARRIVE.TX comes to the arrival of the bytes that its second register names. -/
theorem exec_barArriveTx (he : s.Enabled t w) (h0 : w.m 0 = true)
    (hr : s.Ready t w (({ a := .g, b := .g, mods := 1 } : Form).ok w) true [gR w.a.toNat, gR w.b.toNat]) :
    exec (.barArriveTx t w) s =
      .next ((arriveBody t w ((s.regs t.code).getG w.b.toNat).toNat (s.pastGuard t w)).ended s t w) := by
  change execBarArriveTx t w s = _
  unfold execBarArriveTx
  rw [or_one_of_odd h0]
  refine congrArg Host.Outcome.next ((State.issue_enabled hr rfl he _).trans ?_)
  rw [State.regs_pastGuard, TRegs.getG_past]
  rfl

end

/-! Waits (R88, R89, R99, R414) -/

section
variable {u : State} {th a : Nat} {w : IWord} {b : Bar}

theorem State.barPassed_iff : u.barPassed th w b = true ↔ b.phase ≠ w.m 0 ∧ (u.thread th).loads = [] := by
  simp [State.barPassed]

/-- R89, R99: the second case of BAR.WAIT.GLIDE. -/
theorem State.barGlides_iff : u.barGlides th a = true ↔
    (u.bar a).left = 0 ∧ (u.bar a).pend = 0 ∧ (u.bar a).unconf ≠ 0 ∧ (u.thread th).loads = [] ∧ u.barWindows (tileOf th) a ≠ [] ∧
      ∀ k ∈ u.barWindows (tileOf th) a, k.1 = coreOf th ∧
        ((SMap.find (u.thread th).ckpts k.2).isSome ∨ (u.participants k.1 k.2).length < 16) := by
  unfold State.barGlides
  simp only [Bool.and_eq_true, decide_eq_true_eq, List.all_eq_true, Bool.or_eq_true, and_assoc]
  exact ⟨fun ⟨left, pend, unconf, ws, loads, all⟩ => ⟨left, pend, unconf, loads, ws, all⟩,
    fun ⟨left, pend, unconf, loads, ws, all⟩ => ⟨left, pend, unconf, ws, loads, all⟩⟩

end

section
variable {s u : State} {t : Tid} {w : IWord} (he : s.Enabled t w)
  (hr : s.Ready t w (({ a := .g, mods := 1 } : Form).ok w) false [gR w.a.toNat])
include he hr

/-- R89: BAR.WAIT of an object that it meets comes to the test of the object. -/
theorem exec_barWait (hm : s.Meets t w false u) :
    let a := barAddr t.code (s.barOperand t w)
    exec (.barWait t w) s = .next ((if (u.bar a).broken then .fault 0x0107 u
      else if u.barPassed t.code w (u.bar a) then .retire u else u.waitOn t.code a : Eff).ended s t w) :=
  congrArg Host.Outcome.next ((State.issue_enabled hr rfl he _).trans (congrArg (·.ended s t w) (hm.onBar _)))

/-- R89, R99, R414: BAR.WAIT.GLIDE of an object that it meets comes to the same, with the windows of the object between. -/
theorem exec_barWaitGlide (hm : s.Meets t w false u) :
    let a := barAddr t.code (s.barOperand t w)
    exec (.barWaitGlide t w) s = .next ((if (u.bar a).broken then .fault 0x0107 u
      else if u.barPassed t.code w (u.bar a) then .retire u
      else if u.barGlides t.code a then
        if u.fencePend (tileOf t.code) ∧ u.barJoins t.code a then .wait .waitData u
        else .retire (u.join t.code ((u.barWindows (tileOf t.code) a).map (·.2)) (s.regs t.code))
      else u.waitOn t.code a : Eff).ended s t w) :=
  congrArg Host.Outcome.next ((State.issue_enabled hr rfl he _).trans (congrArg (·.ended s t w) (hm.onBar _)))

/-- R82: BAR.WAIT of an operand that names no object. -/
theorem exec_barWait_nameless (hv : s.barOperand t w = 0 ∨ barFault (s.barOperand t w) ≠ 0) :
    exec (.barWait t w) s = .next ((s.pastGuard t w).raise t.code 0x0105 w.size) :=
  congrArg Host.Outcome.next (State.issue_faults hr rfl he (State.onBar_nameless hv _ _))

end

/-- R88, R99: a thread that waits on a barrier has the registers before the instruction. -/
theorem State.Meets.ended_waitOn {s u : State} {t : Tid} {w : IWord} {wr : Bool} (hm : s.Meets t w wr u) (a : Nat) :
    (u.waitOn t.code a).ended s t w = u.setThread t.code { u.thread t.code with st := .waitSync, waitBar := some a, regs := s.regs t.code } := by
  have hu : (u.setThread t.code { u.thread t.code with waitBar := some a }).regs t.code = (s.regs t.code).past w := by
    rw [← hm.regs, State.regs, State.thread_setThread_self]
    rfl
  rw [State.waitOn, Eff.ended_waits hu, State.thread_setThread_self, State.setThread_setThread]

/-- Settles O13: each form comes to its test of the object, whose branches are the clauses. -/
theorem barrierUse : Obligations.BarrierUse := by
  intro t w s u tag he th v a b p ok object arrives waits glides
  have arrive {i : Instr} {n : Nat} (run : exec i s = .next ((arriveBody t w n p).ended s t w)) : arrives i n := by
    rintro ⟨hv, hf, ho⟩
    have hm : s.Meets t w true u := ⟨hv, hf, tag, ho⟩
    refine ⟨fun hb hl => ⟨fun hc => ?_, fun hc => ?_⟩, fun hb => ?_, fun hb hl => ?_⟩
    · rw [run, arriveBody_arrives hm n hb hl, if_neg (ne_true_of_eq_false hc), State.putBar_sound hc]
      rfl
    · rw [run, arriveBody_arrives hm n hb hl, if_pos hc, State.putBar_broken hc]
      rfl
    · rw [run, arriveBody_broken hm n hb]
      rfl
    · rw [run, arriveBody_away hm n hb hl, Eff.ended_waits hm.regs]
  have stays (hb : b.phase = w.m 0 ∨ (u.thread th).loads ≠ []) : ¬ u.barPassed th w b = true := fun h => by
    obtain ⟨hp, hl⟩ := State.barPassed_iff.mp h
    exact hb.elim hp (fun hn => hn hl)
  have wait {i : Instr} {g : Prop} (rest : Eff) (hrest : ¬ g → rest = u.waitOn th a)
      (run : s.Meets t w false u →
        exec i s = .next ((if b.broken then .fault 0x0107 u else if u.barPassed th w b then .retire u else rest).ended s t w)) :
      waits i g := by
    rintro ⟨hv, hf, ho⟩
    have hm : s.Meets t w false u := ⟨hv, hf, tag, ho⟩
    refine ⟨fun hb => ?_, fun hb hp hl => ?_, fun hb hs hg => ?_⟩
    · rw [run hm, if_pos hb]
      rfl
    · rw [run hm, if_neg (ne_true_of_eq_false hb), if_pos (State.barPassed_iff.mpr ⟨hp, hl⟩)]
      rfl
    · rw [run hm, if_neg (ne_true_of_eq_false hb), if_neg (stays hs), hrest hg, hm.ended_waitOn]
  refine ⟨fun h0 hr => arrive (exec_barArrive he h0 hr), fun h0 hr => arrive (exec_barArriveTx he h0 hr),
    fun hr => ⟨wait _ (fun _ => rfl) (exec_barWait he hr), wait _ (fun hg => if_neg (mt State.barGlides_iff.mp hg)) (exec_barWaitGlide he hr),
      ?joins, fun hv => exec_barWait_nameless he hr hv⟩⟩
  case joins =>
    rintro ⟨hv, hf, ho⟩ hb hp hg
    have hm : s.Meets t w false u := ⟨hv, hf, tag, ho⟩
    have run : exec (.barWaitGlide t w) s = .next ((if u.fencePend (tileOf th) ∧ u.barJoins th a then .wait .waitData u
        else .retire (u.join th ((u.barWindows (tileOf th) a).map (·.2)) (s.regs th)) : Eff).ended s t w) := by
      rw [exec_barWaitGlide he hr hm, if_neg (ne_true_of_eq_false hb), if_neg (stays (Or.inl hp)), if_pos (State.barGlides_iff.mpr hg)]
    refine ⟨fun hj => ?_, fun hf hj => ?_⟩
    · rw [run, if_neg (fun h => hj.elim (ne_true_of_eq_false · h.1) (ne_true_of_eq_false · h.2))]
      rfl
    · rw [run, if_pos ⟨hf, hj⟩, Eff.ended_waits hm.regs]

end Sys2Proof.Machine
end

section
/-! The counts of a barrier object, and its 128 bits (R82, R85 to R88). -/

namespace Sys2Proof.Machine

/-- R82: every field of an object fits its bits. -/
structure Bar.Fits (b : Bar) : Prop where
  pend_low : -(2 ^ 31) ≤ b.pend
  pend_high : b.pend < 2 ^ 31
  left : b.left < 2 ^ 16
  count : b.count < 2 ^ 16
  unconf : b.unconf < 2 ^ 32
  epoch : b.epoch < 2 ^ 8
  rest : b.rest < 2 ^ 22

theorem Bar.fits_iff (b : Bar) : b.Fits ↔ -(2 ^ 31) ≤ b.pend ∧ b.pend < 2 ^ 31 ∧ b.left < 2 ^ 16 ∧ b.count < 2 ^ 16 ∧
    b.unconf < 2 ^ 32 ∧ b.epoch < 2 ^ 8 ∧ b.rest < 2 ^ 22 :=
  ⟨fun ⟨pl, ph, l, c, u, e, r⟩ => ⟨pl, ph, l, c, u, e, r⟩, fun ⟨pl, ph, l, c, u, e, r⟩ => ⟨pl, ph, l, c, u, e, r⟩⟩

/-! The layout (R82) -/

/-- What is read of 128 bits fits. -/
theorem Bar.fits_dec (v : Nat) : (Bar.dec v).Fits where
  pend_low := (signed_bounds (n := 32) (by decide) v).1
  pend_high := (signed_bounds (n := 32) (by decide) v).2
  left := Nat.mod_lt _ (by decide)
  count := Nat.mod_lt _ (by decide)
  unconf := Nat.mod_lt _ (by decide)
  epoch := Nat.mod_lt _ (by decide)
  rest := Nat.mod_lt _ (by decide)

theorem toTwos_lt (n : Nat) (x : Int) : toTwos n x < 2 ^ n := by
  have := Int.emod_lt_of_pos x (b := (2 ^ n : Nat)) (by exact_mod_cast Nat.two_pow_pos n)
  unfold toTwos
  omega

theorem signed_toTwos_32 {x : Int} (hl : -(2 ^ 31) ≤ x) (hh : x < 2 ^ 31) : signed 32 (toTwos 32 x) = x := by
  unfold signed toTwos
  norm_num
  omega

theorem Bar.enc_lt (b : Bar) : b.enc < 2 ^ 128 := by
  have hp := toTwos_lt 32 b.pend
  have h1 := b2n_lt b.phase
  have h2 := b2n_lt b.broken
  unfold Bar.enc
  omega

/-- The fields of an object come back from its 128 bits. -/
theorem Bar.dec_enc {b : Bar} (h : b.Fits) : Bar.dec b.enc = b := by
  have hp := toTwos_lt 32 b.pend
  have hphase := b2n_lt b.phase
  have hbroken := b2n_lt b.broken
  have hs := signed_toTwos_32 h.pend_low h.pend_high
  obtain ⟨-, -, hl, hc, hu, he, hr⟩ := h
  have layout : b.enc = toTwos 32 b.pend + b.left * 2 ^ 32 + b.count * 2 ^ 48 + b.unconf * 2 ^ 64 + b2n b.phase * 2 ^ 96
      + b2n b.broken * 2 ^ 97 + b.epoch * 2 ^ 98 + b.rest * 2 ^ 106 := by
    rw [Bar.enc, Nat.mod_eq_of_lt hl, Nat.mod_eq_of_lt hc, Nat.mod_eq_of_lt hu, Nat.mod_eq_of_lt he, Nat.mod_eq_of_lt hr]
  have low : b.enc % 2 ^ 32 = toTwos 32 b.pend := by omega
  have pend : signed 32 b.enc = b.pend := by rw [← signed_mod, low, hs]
  have left : bits b.enc 32 16 = b.left := by unfold bits; omega
  have count : bits b.enc 48 16 = b.count := by unfold bits; omega
  have unconf : bits b.enc 64 32 = b.unconf := by unfold bits; omega
  have phase : bitAt b.enc 96 = b.phase := bitAt_of_b2n (by omega)
  have broken : bitAt b.enc 97 = b.broken := bitAt_of_b2n (by omega)
  have epoch : bits b.enc 98 8 = b.epoch := by unfold bits; omega
  have rest : bits b.enc 106 22 = b.rest := by unfold bits; omega
  rw [Bar.dec, pend, left, count, unconf, phase, broken, epoch, rest]

/-! Updates and arrivals (R85 to R88) -/

section
variable {b : Bar}

/-- R88: an update within the range of both counts. -/
theorem Bar.update_inRange {dp du : Int} (hl : -(2 ^ 31) ≤ b.pend + dp) (hh : b.pend + dp < 2 ^ 31) (hu : b.unconf + du < 2 ^ 32) :
    b.update dp du = { b with pend := b.pend + dp, unconf := (b.unconf + du).toNat } :=
  if_neg (by omega)

/-- R88: an update that takes PENDING past its 32 bits. -/
theorem Bar.update_overflow {dp : Int} (du : Int) (h : 2 ^ 31 ≤ b.pend + dp) : b.update dp du = { b with broken := true } :=
  if_pos (Or.inr (Or.inl h))

theorem Bar.arrive_none (h : b.left = 0) (n : Nat) : b.arrive n = { b with broken := true } := if_pos h

theorem Bar.arrive_overflow {n : Nat} (h : b.left ≠ 0) (hn : 2 ^ 31 ≤ b.pend + n) : b.arrive n = { b with broken := true } := by
  unfold Bar.arrive
  rw [if_neg h, Bar.update_overflow 0 hn]
  rfl

/-- R85: an arrival that breaks nothing counts, and ends the phase where that leaves nothing. -/
theorem Bar.arrive_counts {n : Nat} (hf : b.Fits) (hb : b.broken = false) (h : b.left ≠ 0) (hn : b.pend + n < 2 ^ 31) :
    b.arrive n = ({ b with pend := b.pend + n, left := b.left - 1 } : Bar).settle := by
  have hl := hf.pend_low
  have hu := hf.unconf
  unfold Bar.arrive
  rw [if_neg h, Bar.update_inRange (by omega) hn (by omega)]
  simp [hb]

theorem Bar.settle_ends (hb : b.broken = false) (h : b.left = 0 ∧ b.pend = 0 ∧ b.unconf = 0) :
    b.settle = { b with phase := !b.phase, left := b.count } := by
  simp [Bar.settle, hb, h]

theorem Bar.settle_goesOn (h : ¬ (b.left = 0 ∧ b.pend = 0 ∧ b.unconf = 0)) : b.settle = b := by
  refine if_neg fun hs => h ?_
  simp only [Bool.and_eq_true, decide_eq_true_eq] at hs
  obtain ⟨⟨⟨-, left⟩, pend⟩, unconf⟩ := hs
  exact ⟨left, pend, unconf⟩

/-- The end of a phase keeps the fields within their bits. -/
theorem Bar.Fits.settle (h : b.Fits) : b.settle.Fits := by
  unfold Bar.settle
  split
  · exact { h with left := h.count }
  · exact h

/-- R82: an arrival keeps the fields within their bits. -/
theorem Bar.Fits.arrive (h : b.Fits) (hb : b.broken = false) (n : Nat) : (b.arrive n).Fits := by
  by_cases h0 : b.left = 0
  · rw [Bar.arrive_none h0]
    exact { h with }
  by_cases hn : b.pend + n < 2 ^ 31
  · rw [Bar.arrive_counts h hb h0 hn]
    have low := h.pend_low
    have left := h.left
    exact Bar.Fits.settle { h with
      pend_low := show -(2 ^ 31) ≤ b.pend + n by omega
      pend_high := hn
      left := show b.left - 1 < 2 ^ 16 by omega }
  · rw [Bar.arrive_overflow h0 (not_lt.mp hn)]
    exact { h with }

/-- R86: bytes that glide and are refused then leave the counts as they were. -/
theorem Bar.update_refuse_glide {n : Nat} (h : b.Fits) (hl : -(2 ^ 31) ≤ b.pend - n) (hu : b.unconf + n < 2 ^ 32) :
    (b.update (-(n : Int)) n).update n (-(n : Int)) = b := by
  have low := h.pend_low
  have high := h.pend_high
  have unconf := h.unconf
  have glide : b.update (-(n : Int)) n = { b with pend := b.pend - n, unconf := b.unconf + n } :=
    Bar.update_inRange (by omega) (by omega) (by omega)
  rw [glide, Bar.update_inRange (by dsimp only; omega) (by dsimp only; omega) (by dsimp only; omega)]
  obtain ⟨pend, left, count, unconf, phase, broken, epoch, rest⟩ := b
  rw [Bar.mk.injEq]
  exact ⟨Int.sub_add_cancel pend n, rfl, rfl, by dsimp only; omega, rfl, rfl, rfl, rfl⟩

end

/-- Settles O14: the layout, the three outcomes of an arrival, and a refusal after a glide. -/
theorem barrierCounts : Obligations.BarrierCounts := by
  refine ⟨fun b hf => ⟨Bar.dec_enc (b.fits_iff.mpr hf), b.enc_lt⟩, fun v => (Bar.fits_iff _).mp (Bar.fits_dec v), fun b n hf hb => ?arrivals,
    fun b n hf hl hu => Bar.update_refuse_glide (b.fits_iff.mpr hf) hl hu⟩
  have fits := b.fits_iff.mpr hf
  refine ⟨fun h0 => Bar.arrive_none h0 n, Bar.arrive_overflow, fun h0 hn => ⟨fun hq => ?_, fun hq => ?_⟩,
    (Bar.fits_iff _).mp (fits.arrive hb n)⟩
  · rw [Bar.arrive_counts fits hb h0 hn]
    exact Bar.settle_ends hb hq
  · rw [Bar.arrive_counts fits hb h0 hn]
    exact Bar.settle_goesOn hq

end Sys2Proof.Machine
end

section
/-! Which bytes a write of cells changes: its own, those of the barrier objects it breaks, and no other (R72, R83, R286). -/

namespace Sys2Proof.Machine

/-- The bytes of this module's memory and those of host memory. -/
def State.stores (s : State) : Memory × SMap Byte := (s.mem, s.host)

/-! What changes neither -/

section
variable (s : State)

theorem State.initRegion_stores (k : Tier) (r : Nat) : (s.initRegion k r).stores = s.stores := by
  unfold State.initRegion State.flagFld
  dsimp only
  repeat' split
  all_goals rfl

theorem State.touch1_stores (a : Nat) : (s.touch1 a).stores = s.stores := by
  unfold State.touch1
  split
  · exact s.initRegion_stores _ _
  · exact s.initRegion_stores _ _
  · rfl

theorem State.touchCells_stores (cells : List (Nat × Byte)) : (s.touchCells cells).stores = s.stores :=
  foldl_leaves State.stores _ State.touch1_stores _ s

theorem State.voidScrubs_stores (ls : List Nat) : (s.voidScrubs ls).stores = s.stores := by
  unfold State.voidScrubs
  split <;> rfl

theorem State.knowBar_stores (a : Nat) : (s.knowBar a).stores = s.stores := rfl

theorem State.haltThread_stores (t : Nat) (code : BitVec 16) (pc : Nat) : (s.haltThread t code pc).stores = s.stores := by
  unfold State.haltThread
  dsimp only
  split <;> rfl

theorem State.endPeer_stores (t : Nat) : (s.endPeer t).stores = s.stores := by
  unfold State.endPeer
  dsimp only
  split
  case h_4 => exact s.haltThread_stores t _ _
  all_goals rfl

theorem State.endLaunch_stores (owner : Option CmdRef) (code : BitVec 16) : (s.endLaunch owner code).stores = s.stores := by
  unfold State.endLaunch
  split
  · rfl
  split
  · rfl
  split
  · rfl
  · exact foldl_leaves State.stores _ State.endPeer_stores _ s

/-- R105, R133: a fault at issue changes no byte. -/
theorem State.raise_stores (t code n : Nat) : (s.raise t code n).stores = s.stores := by
  unfold State.raise State.stopThread
  dsimp only
  split
  · rfl
  · rw [State.endLaunch_stores, State.haltThread_stores]

theorem State.log_stores (code detail : Nat) : (s.log code detail).stores = s.stores :=
  State.log_leaves State.stores (fun _ _ _ => rfl) (fun _ _ _ => rfl) (fun _ _ => rfl) (fun _ _ => rfl) s code detail

theorem State.addLineTag_stores (l : Nat) (tag : BitVec 8) (owner : Nat) : (s.addLineTag l tag owner).stores = s.stores := by
  unfold State.addLineTag
  repeat' split
  all_goals rfl

theorem State.tagWritten_stores (t : Nat) (cells : List (Nat × Byte)) (tag : BitVec 8) :
    (s.tagWritten t cells tag).stores = s.stores := by
  refine foldl_leaves State.stores _ (fun s l => ?_) _ s
  split
  · rfl
  · exact s.addLineTag_stores _ _ _

end

/-! What a write leaves that reaches none of some bytes -/

/-- A view of the bytes that a byte put at none of some addresses changes. -/
def Blind {α : Type} (view : Memory × SMap Byte → α) (P : Nat → Prop) : Prop :=
  ∀ (s : State) (a : Nat) (b : Byte), P a → view (s.putByte a b).stores = view s.stores

section
variable {α : Type} {view : Memory × SMap Byte → α} {P : Nat → Prop} (blind : Blind view P)
include blind

theorem Blind.putCells {cells : List (Nat × Byte)} (h : ∀ c ∈ cells, P c.1) (s : State) :
    view (s.putCells cells).stores = view s.stores :=
  List.foldlRecOn (motive := fun u => view u.stores = view s.stores) cells _ rfl fun u hu c hc => (blind u c.1 c.2 (h c hc)).trans hu

theorem Blind.storeLine {cells : List (Nat × Byte)} (h : ∀ c ∈ cells, P c.1) (s : State) (acc : State × Bool) (l : Nat) :
    view (s.storeLine cells acc l).1.stores = view acc.1.stores := by
  have put := blind.putCells (fun c hc => h c (List.mem_of_mem_filter hc)) (cells := cells.filter (fun c => decide (lineOf c.1 = l))) acc.1
  unfold State.storeLine
  dsimp only
  split
  · rfl
  split
  · exact put
  split
  · rfl
  · exact put

theorem Blind.write {cells : List (Nat × Byte)} (h : ∀ c ∈ cells, P c.1) (s : State) :
    view (s.write cells).1.stores = view s.stores := by
  unfold State.write
  dsimp only
  rw [State.voidScrubs_stores, State.touchCells_stores]
  exact foldl_leaves (fun a : State × Bool => view a.1.stores) _ (blind.storeLine h s) _ (s, false)

section
variable {e : Nat} (he : ∀ i, i < 16 → P (e + i))
include he

/-- R82: an object put at an address reaches its sixteen bytes. -/
theorem Blind.setBar (s : State) (b : Bar) : view (s.setBar e b).stores = view s.stores := by
  unfold State.setBar
  rw [State.knowBar_stores]
  refine blind.write (fun c hc => ?_) s
  obtain ⟨i, hi, hc⟩ := mem_cellsFrom hc
  rw [hc]
  exact he i (by simpa using hi)

/-- R88: an object that breaks is written, and its threads fault. -/
theorem Blind.breakBar (s : State) (b : Bar) : view (s.breakBar e b).stores = view s.stores :=
  (foldl_leaves (fun s : State => view s.stores) _ (fun s t => congrArg view (s.raise_stores t 0x0107 8)) _ _).trans (blind.setBar he s _)

end

/-- R83: of a known object, what a write over it leaves. -/
theorem Blind.storeOverBars {s : State} {cells : List (Nat × Byte)} (before : State)
    (he : ∀ e ∈ s.bars, (∃ c ∈ cells, e.1 ≤ c.1 ∧ c.1 < e.1 + 16) → ∀ i, i < 16 → P (e.1 + i)) :
    view (s.storeOverBars before cells).stores = view s.stores := by
  refine List.foldlRecOn (motive := fun u : State => view u.stores = view s.stores) s.bars _ rfl fun u hu e hmem => ?_
  dsimp only
  split
  · next met =>
    split
    · exact hu
    · refine (blind.breakBar (he e hmem ?_) u _).trans hu
      simpa using met
  · exact hu

end

/-! What the bytes of a write leave beside them -/

theorem State.putByte_bars (s : State) (a : Nat) (b : Byte) : (s.putByte a b).bars = s.bars := by
  unfold State.putByte
  repeat' split
  all_goals rfl

theorem State.putByte_poison (s : State) (a : Nat) (b : Byte) : (s.putByte a b).poison = s.poison := by
  unfold State.putByte
  repeat' split
  all_goals rfl

theorem State.putCells_bars (s : State) (cells : List (Nat × Byte)) : (s.putCells cells).bars = s.bars := by
  refine foldl_leaves State.bars _ (fun s c => ?_) cells s
  exact s.putByte_bars c.1 c.2

theorem State.putCells_poison (s : State) (cells : List (Nat × Byte)) : (s.putCells cells).poison = s.poison := by
  refine foldl_leaves State.poison _ (fun s c => ?_) cells s
  exact s.putByte_poison c.1 c.2

/-- The bytes of a write leave the objects known before it. -/
theorem State.write_bars (s : State) (cells : List (Nat × Byte)) : (s.write cells).1.bars = s.bars := by
  have line (acc : State × Bool) (l : Nat) : (s.storeLine cells acc l).1.bars = acc.1.bars := by
    unfold State.storeLine
    dsimp only
    split
    · rfl
    split
    · exact acc.1.putCells_bars _
    split
    · rfl
    · exact acc.1.putCells_bars _
  unfold State.write
  dsimp only
  rw [(State.sameTables_voidScrubs _ _).bars, (State.sameTables_touchCells _ _).bars]
  exact foldl_leaves (fun a : State × Bool => a.1.bars) _ line _ (s, false)

section
variable {α : Type} {view : Memory × SMap Byte → α} {P : Nat → Prop} (blind : Blind view P) {s : State} {cells : List (Nat × Byte)}
  (hc : ∀ c ∈ cells, P c.1) (he : ∀ e ∈ s.bars, (∃ c ∈ cells, e.1 ≤ c.1 ∧ c.1 < e.1 + 16) → ∀ i, i < 16 → P (e.1 + i))
include blind hc he

/-- R72, R83: a write that reaches none of the bytes, by its cells or by an object that they meet, leaves the view. -/
theorem Blind.store : view (s.store cells).1.stores = view s.stores := by
  have kept : view ((s.write cells).1.storeOverBars s cells).stores = view s.stores :=
    (blind.storeOverBars s (fun e hmem => he e (s.write_bars cells ▸ hmem))).trans (blind.write hc s)
  unfold State.store
  dsimp only
  split
  · rw [State.log_stores, kept]
  · exact kept

theorem Blind.putTagged (t : Nat) (tag : BitVec 8) : view (s.putTagged t cells tag).stores = view s.stores := by
  rw [State.putTagged, State.tagWritten_stores, blind.store hc he]

end

/-! The byte that a write puts at a cell -/

/-- A byte of this module's memory. -/
theorem State.byteAt_local {s : State} {a : Nat} (h : regionOf a ≠ .host) : s.byteAt a = s.stores.1.get a := if_neg h

theorem State.putByte_local {s : State} {a : Nat} (h : regionOf a ≠ .host) (b : Byte) : s.putByte a b = { s with mem := s.mem.set a b } :=
  if_neg h

/-- A byte put elsewhere leaves the byte at an address. -/
theorem blind_byte (a : Nat) : Blind (fun m => m.1.get a) (· ≠ a) := by
  intro s c b hc
  unfold State.putByte State.stores
  split
  · repeat' split
    all_goals rfl
  · exact Memory.get_set_ne _ _ _ _ hc.symm

/-- A byte put in this module's memory leaves host memory. -/
theorem blind_host : Blind Prod.snd (fun c => regionOf c ≠ .host) := by
  intro s c b hc
  rw [State.putByte_local hc]
  rfl

section
variable {cells : List (Nat × Byte)} (hn : (cells.map (·.1)).Nodup) {a : Nat} {b : Byte} (hm : (a, b) ∈ cells)
  (hr : regionOf a ≠ .host)
include hn hm hr

/-- Of cells with distinct addresses each is put. -/
theorem State.get_putCells (s : State) : (s.putCells cells).mem.get a = b := by
  induction cells generalizing s with
  | nil => cases hm
  | cons c cs ih =>
    rw [List.map_cons, List.nodup_cons] at hn
    obtain ⟨hfresh, hrest⟩ := hn
    change ((s.putByte c.1 c.2).putCells cs).mem.get a = b
    rcases List.mem_cons.mp hm with rfl | hcs
    · have other : ∀ d ∈ cs, d.1 ≠ a := fun d hd hda => hfresh (List.mem_map.mpr ⟨d, hd, hda⟩)
      refine ((blind_byte a).putCells other _).trans ?_
      rw [State.putByte_local hr]
      exact Memory.get_set_self _ _ _
    · exact ih hrest hcs _

/-- R286: the bytes of a write that fall in a good line are put. -/
theorem State.get_storeLine_self {s : State} (hb : s.lineDead (lineOf a) = false) {acc : State × Bool}
    (hp : acc.1.poison.getD (lineOf a) false = false) : (s.storeLine cells acc (lineOf a)).1.mem.get a = b := by
  have put : (acc.1.putCells (cells.filter (fun c => decide (lineOf c.1 = lineOf a)))).mem.get a = b :=
    State.get_putCells (hn.sublist (List.filter_sublist.map _)) (List.mem_filter.mpr ⟨hm, decide_eq_true rfl⟩) hr acc.1
  unfold State.storeLine
  dsimp only
  rw [if_neg (ne_true_of_eq_false hb), hp, if_neg Bool.false_ne_true]
  split
  · exact put
  · exact put

end

/-- The bytes of a write that fall in one line leave those of every other. -/
theorem State.get_storeLine_ne {a l : Nat} (h : l ≠ lineOf a) (s : State) (cells : List (Nat × Byte)) (acc : State × Bool) :
    (s.storeLine cells acc l).1.mem.get a = acc.1.mem.get a := by
  have put : (acc.1.putCells (cells.filter (fun c => decide (lineOf c.1 = l)))).mem.get a = acc.1.mem.get a := by
    refine (blind_byte a).putCells (fun c hc hca => h ?_) acc.1
    rw [← hca]
    exact (of_decide_eq_true (List.mem_filter.mp hc).2).symm
  unfold State.storeLine
  dsimp only
  split
  · rfl
  split
  · exact put
  split
  · rfl
  · exact put

/-- R286: a write poisons no line. -/
theorem State.poison_storeLine {k : Nat} {acc : State × Bool} (h : acc.1.poison.getD k false = false) (s : State)
    (cells : List (Nat × Byte)) (l : Nat) : (s.storeLine cells acc l).1.poison.getD k false = false := by
  unfold State.storeLine
  dsimp only
  split
  · exact h
  split
  · by_cases hk : k = l
    · rw [hk]
      exact SMap.getD_erase_self _ _ _
    · exact (SMap.getD_erase_ne _ _ _ _ hk).trans h
  split
  · exact h
  · rw [State.putCells_poison]
    exact h

section
variable {cells : List (Nat × Byte)} (hn : (cells.map (·.1)).Nodup) {a : Nat} {b : Byte} (hm : (a, b) ∈ cells)
  (hr : regionOf a ≠ .host) {s : State} (hb : s.badLine (lineOf a) = false)
include hn hm hr hb

/-- Line by line, a byte is put once its line is, and stays. -/
theorem State.get_storeLines (ls : List Nat) (acc : State × Bool) (hp : acc.1.poison.getD (lineOf a) false = false)
    (h : lineOf a ∈ ls ∨ acc.1.mem.get a = b) : (ls.foldl (s.storeLine cells) acc).1.mem.get a = b := by
  induction ls generalizing acc with
  | nil => exact h.resolve_left List.not_mem_nil
  | cons l ls ih =>
    refine ih _ (State.poison_storeLine hp s cells l) ?_
    by_cases hl : l = lineOf a
    · rw [hl]
      exact Or.inr (State.get_storeLine_self hn hm hr (Bool.or_eq_false_iff.mp hb).2 hp)
    · refine h.imp (fun h => (List.mem_cons.mp h).resolve_left (Ne.symm hl)) (fun h => ?_)
      rw [State.get_storeLine_ne hl, h]

/-- R72, R286: a write puts the byte of each of its cells in a good line. -/
theorem State.get_write : (s.write cells).1.mem.get a = b := by
  unfold State.write
  dsimp only
  rw [State.voidScrubs_mem, State.touchCells_mem]
  refine State.get_storeLines hn hm hr hb _ (s, false) (Bool.or_eq_false_iff.mp hb).1 (Or.inl ?_)
  exact List.mem_eraseDups.mpr (List.mem_map.mpr ⟨(a, b), hm, rfl⟩)

variable (he : ∀ e ∈ s.bars, ∀ c ∈ cells, ¬ (e.1 ≤ c.1 ∧ c.1 < e.1 + 16))
include he

/-- R72: a byte that is written is read back. -/
theorem State.get_store : (s.store cells).1.stores.1.get a = b := by
  have blind : Blind (fun m => m.1.get a) (fun _ => False) := fun _ _ _ h => h.elim
  have kept : ((s.write cells).1.storeOverBars s cells).stores.1.get a = b := by
    refine (blind.storeOverBars s fun e hmem ⟨c, hc, met⟩ => (he e (s.write_bars cells ▸ hmem) c hc met).elim).trans ?_
    exact State.get_write hn hm hr hb
  unfold State.store
  dsimp only
  split
  · rw [State.log_stores, kept]
  · exact kept

end

/-- Settles O18: a byte elsewhere and host memory are views that no cell of the write changes; a cell's own byte is read back. -/
theorem writesReachTheirBytesAlone : Obligations.WritesReachTheirBytesAlone := by
  intro s t cells tag a u v hn
  refine ⟨fun hr hc he => ?elsewhere, fun hc he => ?host, fun b hm hr hb he => ?cell⟩
  case elsewhere =>
    have apart : ∀ e ∈ s.bars, (∃ c ∈ cells, e.1 ≤ c.1 ∧ c.1 < e.1 + 16) → ∀ i, i < 16 → e.1 + i ≠ a := by
      intro e hmem _ i hi hia
      exact he e hmem (by omega)
    rw [State.byteAt_local hr, State.byteAt_local hr, State.byteAt_local hr]
    exact ⟨(blind_byte a).store hc apart, (blind_byte a).putTagged hc apart t tag⟩
  case host =>
    exact ⟨blind_host.store hc (fun e hmem _ => he e hmem), blind_host.putTagged hc (fun e hmem _ => he e hmem) t tag⟩
  case cell =>
    have put : u.stores.1.get a = b := State.get_store hn hm hr hb he
    rw [State.byteAt_local hr, State.byteAt_local hr]
    refine ⟨put, ?_⟩
    rw [← put]
    exact congrArg (·.1.get a) (State.tagWritten_stores _ _ _ _)

end Sys2Proof.Machine
end

section
/-! The atomics of a thread: ATOM and ATOM.ADD.BFX, here or to a peer, and the values of the operations (R81, R429, R453, R484 to R488). -/

namespace Sys2Proof.Machine

section
variable {s : State} {t : Tid} {w : IWord}

/-! ATOM (R81, R486) -/

/-- The registers that an ATOM reads: the third operand of CAS besides. -/
def atomReads (w : IWord) : List Nat := [gR w.b.toNat, gR w.c.toNat] ++ (if w.ms 0 4 = 9 then [gR w.d.toNat] else [])

section
variable (he : s.Enabled t w)
  (hr : s.Ready t w (atomForm w)
    (!(s.ownScratch t.code ((s.regs t.code).getG w.b.toNat).toNat
      [((devSplit ((s.regs t.code).getG w.b.toNat).toNat).2, 2 ^ w.ms 4 2)]))
    (atomReads w ++ (if w.m 6 then [] else [gR w.a.toNat])))
include he hr

/-- R484, R486: an aligned ATOM without a fault goes to its peer or to the access here. -/
theorem exec_atom (hd : ((s.regs t.code).getG w.b.toNat).toNat % 2 ^ w.ms 4 2 = 0)
    (hf : (s.pastGuard t w).atomFault ((s.regs t.code).getG w.b.toNat).toNat
      [((devSplit ((s.regs t.code).getG w.b.toNat).toNat).2, 2 ^ w.ms 4 2)] = 0) :
    let r := s.regs t.code
    let p := s.pastGuard t w
    let dev := (r.getG w.b.toNat).toNat
    let a := (devSplit dev).2
    let x := (r.getG w.c.toNat).toNat
    let cmp := if w.ms 0 4 = 9 then (r.getG w.d.toNat).toNat else 0
    exec (.atom t w) s = .next ((if !(p.isSelf (devSplit dev).1) then
        .retire (p.atomSend t.code w (p.thread t.code) dev x cmp (r.resultTag w (atomReads w)))
      else p.access t.code [(a, 2 ^ w.ms 4 2)] [(a, 2 ^ w.ms 4 2)]
        (fun u g => .retire (u.atomHere t.code w a x cmp (r.resultTag w (atomReads w) ||| g))) : Eff).ended s t w) := by
  have hwrites : (if w.m 6 then [] else [gR w.a.toNat]) = if !(w.m 6) then [gR w.a.toNat] else [] := by
    cases w.m 6 <;> rfl
  rw [hwrites] at hr
  have hregs : ((s.pastGuard t w).thread t.code).regs = (s.regs t.code).past w := s.regs_pastGuard t w
  refine congrArg Host.Outcome.next ((State.issue_enabled hr rfl he _).trans ?_)
  simp only [hregs, TRegs.getG_past, hd, hf, ne_eq, not_true_eq_false, if_false]
  rfl

end

/-! ATOM.ADD.BFX (R453, R487) -/

/-- The lanes that a guard enables. -/
def enabledLanes (g : BitVec 64) : List Nat := (List.range 64).filter (fun i => g.getLsbD i)

section
variable
  (hr : s.Ready t w (({ a := .g, b := .v, c := .g } : Form).ok w)
    (!(s.ownScratch t.code ((s.regs t.code).getG w.a.toNat).toNat ((enabledLanes ((s.regs t.code).guard w)).map
      (fun i => ((devSplit ((s.regs t.code).getG w.a.toNat).toNat).2 + 8 * i, 8)))))
    [gR w.a.toNat, vR w.b.toNat, gR w.c.toNat])
  (hd : ((s.regs t.code).getG w.a.toNat).toNat % 512 = 0)
include hr hd

/-- R471: ATOM.ADD.BFX without an enabled lane. -/
theorem exec_atomAddBfx_off (hn : enabledLanes ((s.regs t.code).guard w) = []) : exec (.atomAddBfx t w) s = .next (s.advance t w) := by
  refine congrArg Host.Outcome.next ((State.issue_lanes hr rfl _).trans ?_)
  rw [enabledLanes] at hn
  simp only [hd, hn, ne_eq, not_true_eq_false, if_false, if_true, Eff.finish_retire]

/-- R453, R487: an aligned ATOM.ADD.BFX without a fault goes to its peer or to the access here. -/
theorem exec_atomAddBfx_on (hn : enabledLanes ((s.regs t.code).guard w) ≠ [])
    (hf : s.atomFault ((s.regs t.code).getG w.a.toNat).toNat ((enabledLanes ((s.regs t.code).guard w)).map
      (fun i => ((devSplit ((s.regs t.code).getG w.a.toNat).toNat).2 + 8 * i, 8))) = 0) :
    let r := s.regs t.code
    let dev := (r.getG w.a.toNat).toNat
    let a := (devSplit dev).2
    let lanes := enabledLanes (r.guard w)
    let words := lanes.map (fun i => (a + 8 * i, 8))
    let qs := lanes.map (fun i => (a + 8 * i, relQuant (signed 8 (r.getG w.c.toNat).toNat) (lane (r.getV w.b.toNat) i)))
    let tag := r.laneTag w [gR w.a.toNat, vR w.b.toNat, gR w.c.toNat]
    exec (.atomAddBfx t w) s = .next ((if !(s.isSelf (devSplit dev).1) then
        .retire (s.bfxSend t.code (devSplit dev).1 (s.thread t.code) qs)
      else s.access t.code words words (fun u g => .retire (u.bfxAdd t.code qs (tag ||| g))) : Eff).finish t.code w.size) := by
  intro r dev a lanes words qs tag
  refine congrArg Host.Outcome.next ((State.issue_lanes hr rfl _).trans (congrArg (Eff.finish t.code w.size) ?_))
  exact (if_neg (not_not_intro hd)).trans ((if_neg hn).trans (if_neg (not_not_intro hf)))

end
end

/-! What an operation writes (R486) -/

/-- An atomic writes the bytes at its address alone; its flag lies beside memory. -/
theorem State.atomAt_mem (s : State) (a op sz x cmp : Nat) :
    (s.atomAt a op sz x cmp).2.mem = (s.store (cellsFrom a (leBytes (2 ^ sz)
      (atomNew op sz (s.readNat a (2 ^ sz)) (x % 2 ^ (8 * 2 ^ sz)) (cmp % 2 ^ (8 * 2 ^ sz))).1))).1.mem :=
  State.flagFld_mem _ _ _

/-- Settles O19: each instruction goes to its peer or opens its access; the operations are read off their table. -/
theorem atomicResults : Obligations.AtomicResults := by
  refine ⟨fun t w s => ⟨fun he hr hd hf => ⟨fun hs u g ho => ?here, fun hs => ?peer⟩, fun hr hd => ⟨fun hn => ?off, fun hn hf =>
    ⟨fun hs u g ho => ?addHere, fun hs => ?addPeer⟩⟩⟩, fun sz old x cmp => ?table, fun s a op sz x cmp => ⟨rfl, s.atomAt_mem a op sz x cmp⟩⟩
  case here =>
    rw [exec_atom he hr hd hf, hs, Bool.not_true, if_neg Bool.false_ne_true, State.access_opens ho]
    rfl
  case peer =>
    rw [exec_atom he hr hd hf, hs, Bool.not_false, if_pos rfl]
    rfl
  case off => exact exec_atomAddBfx_off hr hd hn
  case addHere =>
    rw [exec_atomAddBfx_on hr hd hn hf, hs, Bool.not_true, if_neg Bool.false_ne_true]
    exact congrArg (fun e => Host.Outcome.next (Eff.finish t.code w.size e)) (State.access_opens ho _)
  case addPeer =>
    rw [exec_atomAddBfx_on hr hd hn hf, hs, Bool.not_false, if_pos rfl]
    rfl
  case table => exact ⟨rfl, rfl, rfl, rfl, rfl, rfl, rfl, rfl, rfl, rfl, rfl⟩

end Sys2Proof.Machine
end

section
/-! The timeout of a glide window, and the control of glide (R114, R126, R127). -/

namespace Sys2Proof.Machine

/-- R114: a timeout of an open window without refused input refuses it, stops its participants, discards its input and closes it. -/
theorem exec_glideWindowTimeout_open {c : Cid} {w : Fin 8} {s : State} {x : Window}
    (h : SMap.find (s.core c.code).windows w.val = some x) (hp : ∀ p ∈ x.pieces, p.refused = false) :
    exec (.glideWindowTimeout c w) s = .next ((((s.participants c.code w.val).foldl
      (fun s t => s.stopThread t 0x0108 (s.regs t).pc) (s.refuseWindow c.code w.val)).discardLines x.lines).closeWindow c.code w.val) := by
  have sound : ¬ x.pieces.any (fun p => p.refused) = true := by
    simpa using hp
  change execGlideWindowTimeout c w s = _
  unfold execGlideWindowTimeout
  simp only [h]
  exact congrArg Host.Outcome.next (if_neg sound)

theorem exec_glideWindowTimeout_closed {c : Cid} {w : Fin 8} {s : State} (h : SMap.find (s.core c.code).windows w.val = none) :
    exec (.glideWindowTimeout c w) s = .next s := by
  change execGlideWindowTimeout c w s = _
  unfold execGlideWindowTimeout
  simp only [h]

/-- R126, R127: the fields that a write of TILE_GLIDE_CTL leaves. -/
def State.glideControl (s : State) (tile v : Nat) : State :=
  (((s.setFld (Fd.TILE_GLIDE_CTL_CUT_EN tile) v).setFld (Fd.TILE_GLIDE_CTL_SCALE_EN tile) (v / 2)).setFld
    (Fd.TILE_GLIDE_CTL_LAP_EN tile) (v / 4)).setFld (Fd.TILE_GLIDE_CTL_TIMEOUT tile) (v / 65536)

/-- A field that is put changes the fields alone. -/
theorem State.setFld_keeps {s u : State} (h : { u with flds := s.flds } = s) (f : Fld) (v : Nat) : { u.setFld f v with flds := s.flds } = s := h

theorem State.glideControl_frame (s : State) (tile v : Nat) : { s.glideControl tile v with flds := s.flds } = s :=
  State.setFld_keeps (State.setFld_keeps (State.setFld_keeps (State.setFld_keeps rfl _ _) _ _) _ _) _ _

section
variable (s : State) (tile v : Nat)

theorem State.fld_glideControl_timeout :
    (s.glideControl tile v).fld (Fd.TILE_GLIDE_CTL_TIMEOUT tile) = bits v 16 (Fd.TILE_GLIDE_CTL_TIMEOUT tile).len :=
  State.fld_setFld_self _ _ _

theorem State.fld_glideControl_lap : (s.glideControl tile v).fld (Fd.TILE_GLIDE_CTL_LAP_EN tile) = bits v 2 1 := by
  have timeout : (Fd.TILE_GLIDE_CTL_LAP_EN tile).key ≠ (Fd.TILE_GLIDE_CTL_TIMEOUT tile).key := Fld.key_ne_of_lo rfl (show 2 ≠ 16 by decide)
  rw [State.glideControl, State.fld_setFld_ne _ _ _ _ timeout]
  exact State.fld_setFld_self _ _ _

theorem State.fld_glideControl_scale : (s.glideControl tile v).fld (Fd.TILE_GLIDE_CTL_SCALE_EN tile) = bits v 1 1 := by
  have timeout : (Fd.TILE_GLIDE_CTL_SCALE_EN tile).key ≠ (Fd.TILE_GLIDE_CTL_TIMEOUT tile).key :=
    Fld.key_ne_of_lo rfl (show 1 ≠ 16 by decide)
  have lap : (Fd.TILE_GLIDE_CTL_SCALE_EN tile).key ≠ (Fd.TILE_GLIDE_CTL_LAP_EN tile).key := Fld.key_ne_of_lo rfl (show 1 ≠ 2 by decide)
  rw [State.glideControl, State.fld_setFld_ne _ _ _ _ timeout, State.fld_setFld_ne _ _ _ _ lap]
  exact State.fld_setFld_self _ _ _

theorem State.fld_glideControl_cut : (s.glideControl tile v).fld (Fd.TILE_GLIDE_CTL_CUT_EN tile) = bits v 0 1 := by
  have timeout : (Fd.TILE_GLIDE_CTL_CUT_EN tile).key ≠ (Fd.TILE_GLIDE_CTL_TIMEOUT tile).key := Fld.key_ne_of_lo rfl (show 0 ≠ 16 by decide)
  have lap : (Fd.TILE_GLIDE_CTL_CUT_EN tile).key ≠ (Fd.TILE_GLIDE_CTL_LAP_EN tile).key := Fld.key_ne_of_lo rfl (show 0 ≠ 2 by decide)
  have scale : (Fd.TILE_GLIDE_CTL_CUT_EN tile).key ≠ (Fd.TILE_GLIDE_CTL_SCALE_EN tile).key := Fld.key_ne_of_lo rfl (show 0 ≠ 1 by decide)
  rw [State.glideControl, State.fld_setFld_ne _ _ _ _ timeout, State.fld_setFld_ne _ _ _ _ lap, State.fld_setFld_ne _ _ _ _ scale,
    State.fld_setFld_self, bits, Nat.pow_zero, Nat.div_one]
  rfl

end

theorem exec_tileGlideCtlWrite {tile : Fin 36} {s : State} (h : s.Hears (0x10 + tile.val)) (value : BitVec 64) :
    exec (.tileGlideCtlWrite tile value) s = .next (s.glideControl tile.val value.toNat) :=
  congrArg Host.Outcome.next (State.hostWriteIn_hears h _)

/-- Settles O44: an open window times out, a closed one does not, and each field of the control reads as it was written. -/
theorem glideEvents : Obligations.GlideEvents :=
  ⟨fun _ _ _ => ⟨exec_glideWindowTimeout_closed, fun _ => exec_glideWindowTimeout_open⟩, fun tile value s h =>
    ⟨s.glideControl tile.val value.toNat, exec_tileGlideCtlWrite h value, s.fld_glideControl_cut _ _, s.fld_glideControl_scale _ _,
      s.fld_glideControl_lap _ _, s.fld_glideControl_timeout _ _, s.glideControl_frame _ _⟩⟩

end Sys2Proof.Machine
end

section
/-! The checks before a scalar instruction acts, what a fault leaves in its thread, and a record of the fault log (R59, R63, R65, R66,
R105, R133, R284, R471, R478, R526, R671). -/

namespace Sys2Proof.Machine

/-! The checks of an issue, in their order -/

section
variable {s : State} {t : Tid} {w : IWord} {sp : Spec} {body : State → BitVec 8 → Eff}

/-- R59: a thread that may not issue is left as it is. -/
theorem State.issue_dead (h : s.live t.code = false) : s.issue t w sp body = s := if_neg (ne_true_of_eq_false h)

section
variable (hl : s.live t.code = true)
include hl

/-- R478: a failure that is due stops the thread first. -/
theorem State.issue_due {f : BitVec 16 × Nat} (hd : (s.thread t.code).due = some f) :
    s.issue t w sp body = s.stopThread t.code f.1 f.2 := by
  unfold State.issue
  simp only [hl, hd, if_true]

section
variable (hd : (s.thread t.code).due = none)
include hd

theorem State.issue_attempts : s.issue t w sp body = (s.attempt t.code w sp body).finish t.code w.size := by
  unfold State.issue
  simp only [hl, hd, if_true]

/-- R65: a word past the vat, outside every window. -/
theorem State.issue_pastVat (hpc : 0x4000000 ≤ (s.thread t.code).regs.pc) (hc : (s.thread t.code).ckpts = []) :
    s.issue t w sp body = s.stopThread t.code 0x0102 (s.thread t.code).regs.pc := by
  rw [State.issue_attempts hl hd, State.attempt, if_pos hpc, if_neg (not_not_intro hc)]
  rfl

section
variable (hpc : (s.thread t.code).regs.pc < 0x4000000)
include hpc

/-- R284: a word in a poisoned line. -/
theorem State.issue_poisoned (hp : s.poisoned (tileBase (tileOf t.code) + (s.thread t.code).regs.pc) 8 = true) :
    s.issue t w sp body = s.raise t.code 0x0510 w.size := by
  rw [State.issue_attempts hl hd, State.attempt, if_neg (Nat.not_le.mpr hpc), if_pos hp]
  rfl

section
variable (hp : s.poisoned (tileBase (tileOf t.code) + (s.thread t.code).regs.pc) 8 = false)
include hp

/-- R66: a word that breaks a rule of its form. -/
theorem State.issue_illegal (hok : sp.ok = false) (hhead : sp.head = false) : s.issue t w sp body = s.raise t.code 0x0101 w.size := by
  rw [State.issue_attempts hl hd, State.attempt, if_neg (Nat.not_le.mpr hpc), if_neg (ne_true_of_eq_false hp), hok, hhead]
  rfl

/-- R63: a word of one whole form that names a register a load still writes. -/
theorem State.issue_busy (hok : sp.ok = true) (hx : w.x = false)
    (hb : (s.thread t.code).busy (guardRegs w ++ (sp.reads ++ sp.writes)) = true) :
    s.issue t w sp body = s.waitIn t.code .waitData := by
  have short : s.extFault t.code w = 0 := by
    rw [State.extFault, hx]
    rfl
  rw [guardRegs, ← List.append_assoc] at hb
  rw [State.issue_attempts hl hd, State.attempt, if_neg (Nat.not_le.mpr hpc), if_neg (ne_true_of_eq_false hp)]
  simp only [hok, short, hb, Bool.true_or, Bool.not_true, Bool.false_eq_true, if_false, if_true, and_false, ne_eq, not_true_eq_false,
    false_and]
  rfl

end
end
end
end
end

/-- R480: a two-operand scalar instruction takes no extension word. -/
theorem scalarForm_short {w : IWord} {mods : Nat} (h : (scalarForm w mods).ok w = true) : w.x = false := by
  have never : (scalarForm w mods).x = .never := by
    unfold scalarForm
    split <;> rfl
  unfold Form.ok at h
  rw [never] at h
  simpa using (Bool.and_eq_true_iff.mp h).2

/-- R480, R482: what the thirteen two-operand instructions share. -/
theorem exec_twoOperand {t : Tid} {w : IWord} (s : State) {i : Instr}
    (h : i ∈ [Instr.add t w, .sub t w, .mul t w, .and t w, .or t w, .xor t w, .shl t w, .shr t w, .sar t w, .smin t w, .smax t w,
      .umin t w, .umax t w]) : ∃ f, exec i s = .next (scalarOp t w s 1 true f) := by
  simp only [List.mem_cons, List.not_mem_nil, or_false] at h
  rcases h with rfl | rfl | rfl | rfl | rfl | rfl | rfl | rfl | rfl | rfl | rfl | rfl | rfl
  all_goals exact ⟨_, rfl⟩

/-! A fault at issue (R105, R133) -/

section
variable {s : State} {t : Nat}

theorem State.raise_outside (h : (s.thread t).ckpts = []) (code n : Nat) :
    s.raise t code n = s.stopThread t (BitVec.ofNat 16 code) (s.thread t).regs.pc := if_neg (not_not_intro h)

/-- R105: a participating thread holds the first fault and goes on. -/
theorem State.thread_raise_inside (h : (s.thread t).ckpts ≠ []) (code n : Nat) :
    (s.raise t code n).thread t =
      let x := s.thread t
      { x with
        st := .ready
        waitBar := none
        regs := { x.regs with held := some (x.regs.held.getD (BitVec.ofNat 16 code, x.regs.pc)), pc := x.regs.pc + n } } := by
  rw [State.raise, if_pos h]
  exact State.thread_setThread_self _ _ _

theorem State.thread_setArray (s : State) (c : Nat) (x : MatArray) (q : Nat) : (s.setArray c x).thread q = s.thread q := rfl

/-- R71, R133: a thread of no launch that a fault stops. -/
theorem State.thread_haltThread (h : (s.thread t).owner = none) (code : BitVec 16) (pc : Nat) :
    (s.haltThread t code pc).thread t =
      let x := s.thread t
      { x with
        st := .stopped, fault := code, faultPc := pc / 8 % 2 ^ 24, ckpts := [], loads := [], due := none, fence := false,
        regs := { x.regs with held := none } } := by
  unfold State.haltThread
  simp only [h]
  rw [State.thread_setArray]
  exact State.thread_setThread_self _ _ _

theorem State.endLaunch_none (u : State) (code : BitVec 16) : u.endLaunch none code = u := ite_self _

/-- R105: outside every window a thread of no launch stops with the fault it holds, or with this one. -/
theorem State.thread_stopThread (ho : (s.thread t).owner = none) (hc : (s.thread t).ckpts = []) (code : BitVec 16) (pc : Nat) :
    let f := (s.thread t).regs.held.getD (code, pc)
    ((s.stopThread t code pc).thread t).st = .stopped ∧ ((s.stopThread t code pc).thread t).fault = f.1 ∧
      ((s.stopThread t code pc).thread t).faultPc = f.2 / 8 % 2 ^ 24 := by
  have first : (s.thread t).firstFault code pc = (s.thread t).regs.held.getD (code, pc) := if_pos hc
  rw [State.stopThread, ho, State.endLaunch_none, State.thread_haltThread ho, first]
  exact ⟨rfl, rfl, rfl⟩

end

/-! A record of the fault log (R671, R526) -/

section
variable (s : State) (code source detail : Nat)

/-- R671: the record that the log takes. -/
def State.faultRecord : BitVec 128 :=
  BitVec.ofNat 128 (code % 2 ^ 16 + source % 2 ^ 8 * 2 ^ 16 + detail % 2 ^ 40 * 2 ^ 24
    + s.fld Fd.JOB_STEP_STEP * 2 ^ 64 + (s.flogCount + 1).toNat * 2 ^ 96)

/-- R671: a full log loses its oldest record. -/
def State.roomed : State :=
  if (s.fld Fd.HST_FLOG_PTR_FHEAD + 1) % 256 = s.fld Fd.HST_FLOG_PTR_FTAIL
  then (s.incFld Fd.HST_FLOG_PTR_FTAIL).incFld Fd.HST_FLOG_PTR_FOVER else s

/-- R671: the state with the record, before its vector is raised. -/
def State.logged : State :=
  ({ s.roomed with
    flog := s.roomed.flog.set (s.fld Fd.HST_FLOG_PTR_FHEAD) (s.faultRecord code source detail)
    flogCount := s.flogCount + 1 } : State).incFld Fd.HST_FLOG_PTR_FHEAD

theorem State.logRec_logged :
    s.logRec code source detail =
      let u := s.logged code source detail
      if u.isSet Fd.HST_IRQ_CTL_FLOG_VEC_EN then u.raiseVec (u.fld Fd.HST_IRQ_CTL_EVT_PORT) (u.fld Fd.HST_IRQ_CTL_FLOG_VEC) else u := rfl

/-- The fields of a record. -/
theorem State.bits_faultRecord (hc : code < 2 ^ 16) (hs : source < 2 ^ 8) (hd : detail < 2 ^ 40) (hj : s.fld Fd.JOB_STEP_STEP < 2 ^ 32) :
    let r := (s.faultRecord code source detail).toNat
    bits r 0 16 = code ∧ bits r 16 8 = source ∧ bits r 24 40 = detail ∧ bits r 64 32 = s.fld Fd.JOB_STEP_STEP ∧
      bits r 96 32 = (s.flogCount + 1).toNat := by
  have hn : (s.flogCount + 1).toNat < 2 ^ 32 := (s.flogCount + 1).isLt
  unfold State.faultRecord bits
  rw [BitVec.toNat_ofNat]
  generalize s.fld Fd.JOB_STEP_STEP = step at hj ⊢
  generalize (s.flogCount + 1).toNat = n at hn ⊢
  refine ⟨?_, ?_, ?_, ?_, ?_⟩
  all_goals omega

theorem State.roomed_full (h : (s.fld Fd.HST_FLOG_PTR_FHEAD + 1) % 256 = s.fld Fd.HST_FLOG_PTR_FTAIL) :
    s.roomed = (s.incFld Fd.HST_FLOG_PTR_FTAIL).incFld Fd.HST_FLOG_PTR_FOVER := if_pos h

theorem State.roomed_room (h : (s.fld Fd.HST_FLOG_PTR_FHEAD + 1) % 256 ≠ s.fld Fd.HST_FLOG_PTR_FTAIL) : s.roomed = s := if_neg h

/-- Making room changes fields alone. -/
theorem State.roomed_leaves {α : Type} (view : State → α) (h : ∀ (s : State) f v, view (s.setFld f v) = view s) : view s.roomed = view s := by
  unfold State.roomed
  split
  · exact (h _ _ _).trans (h _ _ _)
  · rfl

/-- A field of another place than the log's head reads as it does once there is room. -/
theorem State.fld_logged_ne {f : Fld} (h : f.key ≠ Fd.HST_FLOG_PTR_FHEAD.key) :
    (s.logged code source detail).fld f = s.roomed.fld f :=
  State.fld_setFld_ne _ _ _ _ h

theorem State.fld_head_roomed : s.roomed.fld Fd.HST_FLOG_PTR_FHEAD = s.fld Fd.HST_FLOG_PTR_FHEAD := by
  unfold State.roomed
  split
  · exact (State.fld_setFld_ne _ _ _ _ (by decide)).trans (State.fld_setFld_ne _ _ _ _ (by decide))
  · rfl

/-- R671: FHEAD moves on. -/
theorem State.fld_head_logged :
    (s.logged code source detail).fld Fd.HST_FLOG_PTR_FHEAD = (s.fld Fd.HST_FLOG_PTR_FHEAD + 1) % 256 := by
  have head := s.fld_head_roomed
  exact (State.fld_setFld_self _ _ _).trans (congrArg (fun v => (v + 1) % 256) head)

/-- R671: a full log moves its tail and counts what it loses. -/
theorem State.fld_tail_roomed (h : (s.fld Fd.HST_FLOG_PTR_FHEAD + 1) % 256 = s.fld Fd.HST_FLOG_PTR_FTAIL) :
    s.roomed.fld Fd.HST_FLOG_PTR_FTAIL = (s.fld Fd.HST_FLOG_PTR_FTAIL + 1) % 256 ∧
      s.roomed.fld Fd.HST_FLOG_PTR_FOVER = (s.fld Fd.HST_FLOG_PTR_FOVER + 1) % 2 ^ 32 := by
  have beside : (s.incFld Fd.HST_FLOG_PTR_FTAIL).fld Fd.HST_FLOG_PTR_FOVER = s.fld Fd.HST_FLOG_PTR_FOVER :=
    State.fld_setFld_ne _ _ _ _ (by decide)
  rw [s.roomed_full h]
  exact ⟨(State.fld_setFld_ne _ _ _ _ (by decide)).trans (State.fld_setFld_self _ _ _),
    (State.fld_setFld_self _ _ _).trans (congrArg (fun v => (v + 1) % 2 ^ 32) beside)⟩

/-- A view of the vectors: what left the block, and the pending bits. -/
def State.vectorsOut (s : State) : List Out × SMap Bool := (s.out, s.msixPend)

theorem State.logged_vectorsOut : (s.logged code source detail).vectorsOut = s.vectorsOut :=
  s.roomed_leaves State.vectorsOut (fun _ _ _ => rfl)

theorem State.logged_vecMasked (k : Nat) : (s.logged code source detail).vecMasked k = s.vecMasked k :=
  s.roomed_leaves (State.vecMasked · k) (fun _ _ _ => rfl)

/-- R671: a record leaves the fields of every other register. -/
theorem State.fld_logged {f : Fld} (hl : f.lo < 64) (ha : f.addr ≠ (Reg.HST_FLOG_PTR).addr) :
    (s.logged code source detail).fld f = s.fld f := by
  have apart {g : Fld} (hg : g.addr = (Reg.HST_FLOG_PTR).addr) (hgl : g.lo < 64) : f.key ≠ g.key := Fld.key_ne_of_addr hl hgl (hg ▸ ha)
  rw [State.fld_logged_ne _ _ _ _ (apart rfl (by decide))]
  unfold State.roomed
  split
  · exact (State.fld_setFld_ne _ _ _ _ (apart rfl (by decide))).trans (State.fld_setFld_ne _ _ _ _ (apart rfl (by decide)))
  · rfl

/-- What a view of no vector shows of a record is what it shows before the vector is raised. -/
theorem State.logRec_view {α : Type} (view : State → α) (hpend : ∀ (s : State) m, view { s with msixPend := m } = view s)
    (hout : ∀ (s : State) o, view { s with out := o } = view s) :
    view (s.logRec code source detail) = view (s.logged code source detail) := by
  rw [State.logRec_logged]
  dsimp only
  split
  · exact State.raiseVec_leaves view hpend hout _ _ _
  · rfl

/-- R526: with the vector disabled nothing leaves. -/
theorem State.logRec_silent (h : s.isSet Fd.HST_IRQ_CTL_FLOG_VEC_EN = false) :
    s.logRec code source detail = s.logged code source detail := by
  have enable : (s.logged code source detail).isSet Fd.HST_IRQ_CTL_FLOG_VEC_EN = false := by
    rw [State.isSet, State.fld_logged _ _ _ _ (by decide) (by decide)]
    exact h
  rw [State.logRec_logged]
  exact if_neg (ne_true_of_eq_false enable)

/-- R526: with it enabled, the vector of the log is raised at its port. -/
theorem State.logRec_raises (h : s.isSet Fd.HST_IRQ_CTL_FLOG_VEC_EN = true) :
    s.logRec code source detail =
      (s.logged code source detail).raiseVec (s.fld Fd.HST_IRQ_CTL_EVT_PORT) (s.fld Fd.HST_IRQ_CTL_FLOG_VEC) := by
  have enable : (s.logged code source detail).isSet Fd.HST_IRQ_CTL_FLOG_VEC_EN = true := by
    rw [State.isSet, State.fld_logged _ _ _ _ (by decide) (by decide)]
    exact h
  rw [State.logRec_logged]
  dsimp only
  rw [if_pos enable, State.fld_logged _ _ _ _ (by decide) (by decide), State.fld_logged _ _ _ _ (by decide) (by decide)]

end

section
variable (s : State) (port vec : Nat)

/-- R500, R526: a vector that nothing holds back leaves as a message. -/
theorem State.raiseVec_sends (hm : s.vecMasked (port * 2048 + vec % 2048) = false) (hp : s.fld (Fd.HST_PORT_STAT_MODE port) ≠ 0) :
    (s.raiseVec port vec).vectorsOut = (s.out ++ [.msix port (vec % 2048)], s.msixPend) := by
  have free : ¬ (s.vecMasked (port * 2048 + vec % 2048) = true ∨ s.fld (Fd.HST_PORT_STAT_MODE port) = 0) :=
    not_or.mpr ⟨ne_true_of_eq_false hm, hp⟩
  unfold State.raiseVec
  dsimp only
  rw [if_neg free]
  rfl

/-- R500, R526: a masked vector, or one of a port that is down, is pending. -/
theorem State.raiseVec_waits (h : s.vecMasked (port * 2048 + vec % 2048) = true ∨ s.fld (Fd.HST_PORT_STAT_MODE port) = 0) :
    (s.raiseVec port vec).vectorsOut = (s.out, s.msixPend.set (port * 2048 + vec % 2048) true) := by
  unfold State.raiseVec
  dsimp only
  rw [if_pos h]
  rfl

end

/-- Settles O57: the checks of an issue in their order, the two ends of a fault, and the record with its vector. -/
theorem issueChecks : Obligations.IssueChecks := by
  refine ⟨?checks, ?faults, ?log⟩
  case checks =>
    intro t w s x pc here form regs i hi
    obtain ⟨f, run⟩ := exec_twoOperand s hi
    rw [run]
    have whole {b : Bool} (h : form = b) : ((scalarForm w 1).ok w && true) = b := (Bool.and_true _).trans h
    refine ⟨fun hl => ?dead, fun f hl hd => ?due, fun hl hd => ⟨fun hpc hc => ?pastVat, fun hpc hp => ?poisoned, fun hpc hp =>
      ⟨fun hform => ?illegal, fun hform hx => ?long, fun hform _ hb => ?busy⟩⟩, fun hr he => ?disabled⟩
    case dead => exact congrArg Host.Outcome.next (State.issue_dead hl)
    case due => exact congrArg Host.Outcome.next (State.issue_due hl hd)
    case pastVat => exact congrArg Host.Outcome.next (State.issue_pastVat hl hd hpc hc)
    case poisoned => exact congrArg Host.Outcome.next (State.issue_poisoned hl hd hpc hp)
    case illegal => exact congrArg Host.Outcome.next (State.issue_illegal hl hd hpc hp (whole hform) (whole hform))
    case long => exact absurd hx (ne_true_of_eq_false (scalarForm_short hform))
    case busy => exact congrArg Host.Outcome.next (State.issue_busy hl hd hpc hp (whole hform) (scalarForm_short hform) hb)
    case disabled =>
      refine congrArg Host.Outcome.next (State.issue_disabled (sp := { ok := _, reads := _, writes := _ }) ?_ rfl he rfl _)
      rw [Bool.and_true]
      exact hr
  case faults =>
    intro t code n s x
    refine ⟨fun hc => ⟨State.raise_outside hc code n, fun ho => ?_⟩, fun hc => ?_⟩
    · rw [State.raise_outside hc code n]
      exact State.thread_stopThread ho hc _ _
    · dsimp only
      rw [State.thread_raise_inside hc code n]
      have holds {o : Option (BitVec 16 × Nat)} (h : x.regs.held = o) := congrArg (fun o => some (o.getD (BitVec.ofNat 16 code, x.regs.pc))) h
      exact ⟨rfl, rfl, rfl, fun hh => holds hh, fun h hh => holds hh⟩
  case log =>
    intro s code source detail h tl n u port vec hc hs hd hj hport
    have view {α : Type} (view : State → α) (hpend : ∀ (s : State) m, view { s with msixPend := m } = view s)
        (hout : ∀ (s : State) o, view { s with out := o } = view s) : view u = view (s.logged code source detail) :=
      s.logRec_view code source detail view hpend hout
    have flog : u.flog = s.flog.set h (s.faultRecord code source detail) := (view State.flog (fun _ _ => rfl) (fun _ _ => rfl)).trans
      (congrArg (SMap.set · h (s.faultRecord code source detail)) (s.roomed_leaves State.flog (fun _ _ _ => rfl)))
    have fld (f : Fld) : u.fld f = (s.logged code source detail).fld f := view (State.fld · f) (fun _ _ => rfl) (fun _ _ => rfl)
    have tail : u.fld Fd.HST_FLOG_PTR_FTAIL = s.roomed.fld Fd.HST_FLOG_PTR_FTAIL := (fld _).trans (s.fld_logged_ne _ _ _ (by decide))
    have lost : u.fld Fd.HST_FLOG_PTR_FOVER = s.roomed.fld Fd.HST_FLOG_PTR_FOVER := (fld _).trans (s.fld_logged_ne _ _ _ (by decide))
    have logged := s.logged_vectorsOut code source detail
    have masked := s.logged_vecMasked code source detail (port * 2048 + vec % 2048)
    have mode : (s.logged code source detail).fld (Fd.HST_PORT_STAT_MODE port) = s.fld (Fd.HST_PORT_STAT_MODE port) := by
      refine s.fld_logged _ _ _ (show 0 < 64 by decide) fun ha => ?_
      have : 0x600000 + port * 0x100 = 0x602000 := ha
      omega
    refine ⟨⟨_, (congrArg (SMap.find · h) flog).trans (SMap.find_set_self _ _ _), s.bits_faultRecord code source detail hc hs hd hj⟩,
      fun k hk => (congrArg (SMap.find · k) flog).trans (SMap.find_set_ne _ _ _ _ hk), view State.flogCount (fun _ _ => rfl) (fun _ _ => rfl),
      (fld _).trans (s.fld_head_logged code source detail), fun hfull => ?full, fun hroom => ?room, fun hen => ?silent, fun hen => ⟨fun hm hp => ?sends,
      fun hw => ?waits⟩⟩
    case full =>
      rw [tail, lost]
      exact s.fld_tail_roomed hfull
    case room =>
      rw [tail, lost, s.roomed_room hroom]
      exact ⟨rfl, rfl⟩
    case silent =>
      have still : u.vectorsOut = s.vectorsOut := (congrArg State.vectorsOut (s.logRec_silent code source detail hen)).trans logged
      exact Prod.mk.inj still
    case sends =>
      have sent := (congrArg State.vectorsOut (s.logRec_raises code source detail hen)).trans
        (State.raiseVec_sends _ port vec (masked.trans hm) (mode ▸ hp))
      exact (Prod.mk.inj sent).1.trans (congrArg (· ++ _) (Prod.mk.inj logged).1)
    case waits =>
      have waiting := (congrArg State.vectorsOut (s.logRec_raises code source detail hen)).trans
        (State.raiseVec_waits _ port vec (by rw [masked, mode]; exact hw))
      exact ⟨(Prod.mk.inj waiting).1.trans (Prod.mk.inj logged).1,
        (Prod.mk.inj waiting).2.trans (congrArg (SMap.set · _ true) (Prod.mk.inj logged).2)⟩

end Sys2Proof.Machine
end

section
/-! Ingest, the job and the switch of a flow's route (R335, R540 to R570). -/

namespace Sys2Proof.Machine

/-! A record enters a ring (R286) -/

/-- A record of 32 bytes: one whose place is reached is stored, and one that the store discards is lost with 0x0511. -/
theorem State.ringPut_record {s : State} {a : Nat} (h : (if regionOf a = .host then s.addrFault .engine a 32 else 0x0502) = 0) (v : Nat) :
    s.ringPut a (leBytes 32 v) =
      let w := s.store (cellsFrom a (leBytes 32 v))
      if w.2 then w.1.log 0x0511 else w.1 := by
  rw [State.ringPut, length_leBytes]
  exact if_neg (not_not_intro h)

/-- A record of 32 bytes whose place is not reached is lost with the fault of its place. -/
theorem State.ringPut_lost {s : State} {a : Nat} (h : (if regionOf a = .host then s.addrFault .engine a 32 else 0x0502) ≠ 0) (v : Nat) :
    s.ringPut a (leBytes 32 v) = s.log (if regionOf a = .host then s.addrFault .engine a 32 else 0x0502) := by
  rw [State.ringPut, length_leBytes]
  exact if_pos h

/-! Samples and the input log (R540, R541, R546 to R548) -/

section
variable {s : State} {g : Ingest} {c : Cmd} (hi : s.ingest = some g) (hc : s.cmd g.k = some c)
include hi hc

/-- R540: the next sample goes to the pipeline found. -/
theorem exec_sampleDispatch_deals {i : Nat}
    (hp : (List.range 8).find? (fun i => bitAt (s.fld Fd.ING_CTL_PIPES_EN) i && (SMap.find s.pipes i).isNone) = some i)
    (hl : g.logged = true) (hn : g.next < (ingestBody c).count) :
    let r := s.readEntry (ingestBody c) g.next
    exec .sampleDispatch s = .next (({ r.2 with
      ingest := some { g with next := g.next + 1 }, pipes := r.2.pipes.set i r.1 } : State).showPipe i) := by
  change execSampleDispatch s = _
  unfold execSampleDispatch
  simp only [hi, hc, hp]
  exact congrArg Host.Outcome.next (if_pos ⟨hl, hn⟩)

/-- R541: a sample whose slot meets no held bank is delivered, or skipped. -/
theorem exec_sampleDone_counts {pipe : Fin 8} {x : Pipe} (hx : SMap.find s.pipes pipe.val = some x)
    (hs : s.slotClear g (ingestBody c) x = true) :
    let b := ingestBody c
    let d := s.decodeSample g.prof x
    let r := sampleReason g.prof x d (s.sourceStop x)
    let u := s.touch x.src (min d.used (min x.len (s.reachEnd x.src - x.src)))
    let ok := r.1 = 0
    let bs := if ok then slotBytes g.prof x.fskip d else List.replicate g.prof.slotSize 0
    let w := u.store (cellsFrom (b.out + x.slot * b.slot) bs)
    let a := (w.1.incFld (if ok then Fd.ING_STAT_DELIVERED else Fd.ING_STAT_SKIPPED)).incFld (Fd.ING_PIPE_STAT_SAMPLES pipe.val)
    exec (.sampleDone pipe) s = .next ((({ a with pipes := SMap.erase a.pipes pipe.val } : State).showPipe pipe.val).ingFinish
      { g with
        done := g.done + 1
        stats := g.stats.set x.slot (statusEntry r.1 r.2 (if r.1 = 8 then 0 else x.codec) x.user)
        good := if ok then g.good + 1 else g.good
        bad := if ok then g.bad else g.bad + 1
        lost := g.lost || w.2 }) := by
  change execSampleDone pipe s = _
  unfold execSampleDone
  simp only [hx, hi, hc]
  refine congrArg Host.Outcome.next (if_neg ?_)
  rw [hs]
  decide

/-- R548: a record that waits is written once the input log has room. -/
theorem State.ingLog_writes (hl : g.logged = false) (hr : s.ingRoom = true) :
    s.ingLog = ((s.ringPut
      (s.fld Fd.ING_LOG_BASE_BASE * 32 + s.fld Fd.ING_LOG_PTR_HEAD % 2 ^ (s.fld Fd.ING_LOG_BASE_ENTRIES_LOG + 4) * 32)
      (leBytes 32 (ingRecord g.k c (ingestBody c)))).incFld Fd.ING_LOG_PTR_HEAD).ingFinish { g with logged := true } := by
  unfold State.ingLog
  simp only [hi, hc]
  exact if_pos ⟨by rw [hl]; rfl, hr⟩

/-- R548: without room the record waits on. -/
theorem State.ingLog_waits (hr : s.ingRoom = false) : s.ingLog = s := by
  unfold State.ingLog
  simp only [hi, hc]
  exact if_neg fun h => Bool.false_ne_true (hr.symm.trans h.2)

end

/-! Pipeline enables (R550) -/

/-- R550: the STATE that a pipeline shows. -/
def State.pipeShown (s : State) (i : Nat) : Nat :=
  if (SMap.find s.pipes i).isSome then 1 else if bitAt (s.fld Fd.ING_CTL_PIPES_EN) i then 0 else 3

theorem State.showPipe_eq (s : State) (i : Nat) : s.showPipe i = s.setFld (Fd.ING_PIPE_STAT_STATE i) (s.pipeShown i) := rfl

theorem State.pipeShown_lt (s : State) (i : Nat) : s.pipeShown i < 4 := by
  unfold State.pipeShown
  split
  · decide
  split <;> decide

theorem pipesEn_key_ne (i : Nat) : Fd.ING_CTL_PIPES_EN.key ≠ (Fd.ING_PIPE_STAT_STATE i).key :=
  Fld.key_ne_of_addr (show 0 < 64 by decide) (show 0 < 64 by decide) (show 0x700000 ≠ 0x700020 + i * 8 by omega)

theorem pipeState_key_ne {i j : Nat} (h : i ≠ j) : (Fd.ING_PIPE_STAT_STATE i).key ≠ (Fd.ING_PIPE_STAT_STATE j).key :=
  Fld.key_ne_of_addr (show 0 < 64 by decide) (show 0 < 64 by decide) (show 0x700020 + i * 8 ≠ 0x700020 + j * 8 by omega)

theorem State.fld_pipesEn_showPipe (s : State) (j : Nat) : (s.showPipe j).fld Fd.ING_CTL_PIPES_EN = s.fld Fd.ING_CTL_PIPES_EN :=
  State.fld_setFld_ne _ _ _ _ (pipesEn_key_ne j)

theorem State.pipeShown_showPipe (s : State) (i j : Nat) : (s.showPipe j).pipeShown i = s.pipeShown i := by
  unfold State.pipeShown
  rw [State.fld_pipesEn_showPipe]
  rfl

theorem State.fld_pipeState_showPipes (l : List Nat) (s : State) (i : Nat) :
    (l.foldl State.showPipe s).fld (Fd.ING_PIPE_STAT_STATE i) = if i ∈ l then s.pipeShown i else s.fld (Fd.ING_PIPE_STAT_STATE i) := by
  induction l generalizing s with
  | nil => rfl
  | cons j l ih =>
    rw [List.foldl_cons, ih, State.pipeShown_showPipe]
    by_cases hl : i ∈ l
    · rw [if_pos hl, if_pos (List.mem_cons_of_mem j hl)]
    rw [if_neg hl]
    by_cases hij : i = j
    · subst hij
      rw [if_pos List.mem_cons_self, State.showPipe_eq, State.fld_setFld_self]
      exact Nat.mod_eq_of_lt (s.pipeShown_lt i)
    · rw [if_neg (by simp [hij, hl]), State.showPipe_eq, State.fld_setFld_ne _ _ _ _ (pipeState_key_ne hij)]

theorem State.fld_pipesEn_showPipes (l : List Nat) (s : State) :
    (l.foldl State.showPipe s).fld Fd.ING_CTL_PIPES_EN = s.fld Fd.ING_CTL_PIPES_EN :=
  foldl_leaves (fun s => s.fld Fd.ING_CTL_PIPES_EN) State.showPipe (fun s j => s.fld_pipesEn_showPipe j) l s

theorem State.showPipes_keeps (l : List Nat) (s : State) : { l.foldl State.showPipe s with flds := [] } = { s with flds := [] } :=
  foldl_leaves (fun s => ({ s with flds := [] } : State)) State.showPipe (fun _ _ => rfl) l s

section
variable (s : State) (en : BitVec 8)

theorem State.fld_pipesEn_setFld : (s.setFld Fd.ING_CTL_PIPES_EN en.toNat).fld Fd.ING_CTL_PIPES_EN = en.toNat :=
  (State.fld_setFld_self _ _ _).trans (Nat.mod_eq_of_lt en.isLt)

theorem State.fld_pipesEn_writePipesEn : (s.writePipesEn en.toNat).fld Fd.ING_CTL_PIPES_EN = en.toNat :=
  (State.fld_pipesEn_showPipes _ _).trans (s.fld_pipesEn_setFld en)

/-- R550: after a write of PIPES_EN each pipeline shows whether it decodes, is free or is disabled. -/
theorem State.fld_pipeState_writePipesEn {i : Nat} (hi : i < 8) : (s.writePipesEn en.toNat).fld (Fd.ING_PIPE_STAT_STATE i) =
    if (SMap.find s.pipes i).isSome then 1 else if en.getLsbD i then 0 else 3 := by
  have bit : bitAt en.toNat i = en.getLsbD i := bitAt_eq_testBit _ _
  rw [State.writePipesEn, State.fld_pipeState_showPipes, if_pos (List.mem_range.mpr hi), State.pipeShown, s.fld_pipesEn_setFld, bit]
  rfl

theorem State.writePipesEn_keeps (v : Nat) : { s.writePipesEn v with flds := s.flds } = s :=
  congrArg (fun u => ({ u with flds := s.flds } : State)) (State.showPipes_keeps (List.range 8) (s.setFld Fd.ING_CTL_PIPES_EN v))

end

/-! The host's writes to the ingest block -/

theorem exec_ingLogTailWrite {s : State} (h : s.Hears 7) (tail : BitVec 20) :
    exec (.ingLogTailWrite tail) s = .next (s.setFld Fd.ING_LOG_PTR_TAIL tail.toNat) :=
  congrArg Host.Outcome.next (State.hostWriteIn_hears h _)

theorem exec_ingPipesEnWrite {s : State} (h : s.Hears 7) (en : BitVec 8) :
    exec (.ingPipesEnWrite en) s = .next (s.writePipesEn en.toNat) :=
  congrArg Host.Outcome.next (State.hostWriteIn_hears h _)

/-! Enabling the job (R554) -/

/-- A single bit of a mask leaves the bits above it. -/
theorem bits_maskMix_above {k lo len : Nat} (h : k < lo) (old v : Nat) : bits (maskMix old v (2 ^ k)) lo len = bits old lo len := by
  refine Nat.eq_of_testBit_eq fun i => ?_
  have other : bitAt (2 ^ k) (lo + i) = false := by
    rw [bitAt_eq_testBit]
    exact Nat.testBit_two_pow_of_ne (by omega)
  have bit := bitAt_maskMix old v (2 ^ k) (lo + i)
  rw [other, if_neg Bool.false_ne_true, bitAt_eq_testBit, bitAt_eq_testBit] at bit
  rw [testBit_bits, testBit_bits, bit]

theorem bitAt_two_pow_self (k : Nat) : bitAt (2 ^ k) k = true := by
  rw [bitAt_eq_testBit, Nat.testBit_two_pow_self]

/-- A single bit of a mask takes its value. -/
theorem bitAt_maskMix_two_pow (old v k : Nat) : bitAt (maskMix old v (2 ^ k)) k = bitAt v k := by
  rw [bitAt_maskMix, if_pos (bitAt_two_pow_self k)]

section
variable {s : State}

/-- R552: with a step open a write of EN records its fault alone. -/
theorem State.writeJobEn_open (h : s.stepOpen = true) (v : Nat) :
    s.writeJobCtl (2 ^ 16) v = s.log (if bitAt (s.regNat .JOB_CTL) 16 = true ∧ bitAt v 16 = false then 0x0C01 else 0x0C02) := by
  unfold State.writeJobCtl
  simp only [bitAt_maskMix_two_pow, h, if_true, Bool.not_eq_true']

/-- R554: with no step open a write of EN reaches it, and EN that sets clears HOLD and STATE. -/
theorem State.writeJobEn_idle (h : s.stepOpen = false) (v : Nat) :
    s.writeJobCtl (2 ^ 16) v =
      let on := s.writeFields .JOB_CTL (2 ^ 16) v
      (if bitAt (s.regNat .JOB_CTL) 16 = false ∧ bitAt v 16 = true then (on.setFld Fd.JOB_CTL_HOLD 0).setFld Fd.JOB_STEP_STATE 0
        else on).phaseCheck := by
  unfold State.writeJobCtl
  simp only [bitAt_maskMix_two_pow, bits_maskMix_above (show 16 < 17 by decide), h, Bool.false_eq_true, if_false, Bool.not_eq_true', ne_eq,
    not_true_eq_false]

section
variable (h : s.Hears 13)
include h

theorem exec_jobEnable : exec .jobEnable s = .next (s.writeJobCtl (2 ^ 16) (2 ^ 16)) :=
  congrArg Host.Outcome.next (State.hostWriteIn_hears h _)

theorem exec_jobDisable : exec .jobDisable s = .next (s.writeJobCtl (2 ^ 16) 0) :=
  congrArg Host.Outcome.next (State.hostWriteIn_hears h _)

theorem exec_jobEnable_open (ho : s.stepOpen = true) : exec .jobEnable s = .next (s.log 0x0C02) := by
  rw [exec_jobEnable h, State.writeJobEn_open ho, if_neg (fun hb => Bool.false_ne_true (hb.2.symm.trans (bitAt_two_pow_self 16)))]

theorem exec_jobDisable_open (ho : s.stepOpen = true) (hb : bitAt (s.regNat .JOB_CTL) 16 = true) :
    exec .jobDisable s = .next (s.log 0x0C01) := by
  rw [exec_jobDisable h, State.writeJobEn_open ho, if_pos ⟨hb, bitAt_zero 16⟩]

variable (ho : s.stepOpen = false)
include ho

/-- R554: EN sets. -/
theorem exec_jobEnable_sets (hb : bitAt (s.regNat .JOB_CTL) 16 = false) : exec .jobEnable s =
    .next ((((s.writeFields .JOB_CTL (2 ^ 16) (2 ^ 16)).setFld Fd.JOB_CTL_HOLD 0).setFld Fd.JOB_STEP_STATE 0).phaseCheck) := by
  rw [exec_jobEnable h, State.writeJobEn_idle ho]
  exact congrArg (fun u => Host.Outcome.next (State.phaseCheck u)) (if_pos ⟨hb, bitAt_two_pow_self 16⟩)

/-- R554: EN that stands set stays. -/
theorem exec_jobEnable_again (hb : bitAt (s.regNat .JOB_CTL) 16 = true) :
    exec .jobEnable s = .next (s.writeFields .JOB_CTL (2 ^ 16) (2 ^ 16)).phaseCheck := by
  rw [exec_jobEnable h, State.writeJobEn_idle ho]
  exact congrArg (fun u => Host.Outcome.next (State.phaseCheck u)) (if_neg (fun hn => Bool.false_ne_true (hn.1.symm.trans hb)))

theorem exec_jobDisable_clears : exec .jobDisable s = .next ((s.writeFields .JOB_CTL (2 ^ 16) 0).phaseCheck) := by
  rw [exec_jobDisable h, State.writeJobEn_idle ho]
  exact congrArg (fun u => Host.Outcome.next (State.phaseCheck u))
    (if_neg (fun hn => Bool.false_ne_true ((bitAt_zero 16).symm.trans hn.2)))

end
end

/-! The step of the job (R555, R558, R559) -/

section
variable {s : State}

/-- R555: what a step begins with: running, nothing valid, suspect or faulty. -/
def State.stepBegun (s : State) (verify : Bool) (step : Nat) : State :=
  (((((s.setFld Fd.JOB_STEP_STEP step).setFld Fd.JOB_STEP_STATE 1).setFld Fd.JOB_STEP_VERIFY (b2n verify)).setFld
    Fd.JOB_STEP_LOSS_VALID 0).setFld Fd.JOB_STEP_SUSPECT 0).setFld Fd.JOB_STEP_FAULT 0

theorem State.beginStep_disabled (h : s.isSet Fd.JOB_CTL_EN = false ∨ s.stepOpen = true) (verify : Bool) (step mapGen : Nat) :
    s.beginStep verify step mapGen = s.log 0x0C01 :=
  if_pos (h.imp_left (fun h => by rw [h]; rfl))

section
variable (he : s.isSet Fd.JOB_CTL_EN = true) (ho : s.stepOpen = false)
include he ho

theorem State.enabled_idle : ¬ ((!s.isSet Fd.JOB_CTL_EN) = true ∨ s.stepOpen = true) := by
  rw [he, ho]
  decide

theorem State.beginStep_otherMap {mapGen : Nat} (h : mapGen ≠ s.fld Fd.JOB_CTL_MAP_GEN) (verify : Bool) (step : Nat) :
    s.beginStep verify step mapGen = s.log 0x0C03 :=
  (if_neg (State.enabled_idle he ho)).trans (if_pos h)

variable {mapGen : Nat} (hm : mapGen = s.fld Fd.JOB_CTL_MAP_GEN) {verify : Bool}
include hm

theorem State.beginStep_held (h : s.fld Fd.JOB_FILL_PENDING ≠ 0 ∨ (s.isSet Fd.JOB_CTL_HOLD = true ∧ verify = false)) (step : Nat) :
    s.beginStep verify step mapGen = s.log 0x0C04 :=
  (if_neg (State.enabled_idle he ho)).trans ((if_neg (not_not_intro hm)).trans
    (if_pos (h.imp_right (fun h => ⟨h.1, by rw [h.2]; rfl⟩))))

theorem State.beginStep_runs (h : ¬ (s.fld Fd.JOB_FILL_PENDING ≠ 0 ∨ (s.isSet Fd.JOB_CTL_HOLD = true ∧ verify = false))) (step : Nat) :
    s.beginStep verify step mapGen = (s.stepBegun verify step).takePhase ((s.stepBegun verify step).fld Fd.JOB_PHASE_MPHASE) :=
  (if_neg (State.enabled_idle he ho)).trans ((if_neg (not_not_intro hm)).trans
    (if_neg (fun hh => h (hh.imp_right (fun hh => ⟨hh.1, Bool.not_eq_true' _ ▸ hh.2⟩)))))

end

/-- R558: the outcome of a step that ends. -/
def State.stepOutcome (s : State) : Nat :=
  let ok := s.isSet Fd.JOB_STEP_LOSS_VALID = true ∧ s.fld Fd.JOB_LOSS_LOSS = s.fld Fd.JOB_VERIFY_EXPECT
  if s.fld Fd.JOB_STEP_STATE = 2 then 1 else if s.isSet Fd.JOB_STEP_VERIFY then (if ok then 3 else 4) else 0

theorem State.endStep_idle (h : s.stepOpen = false) : s.endStep = s.log 0x0C01 :=
  if_pos (by rw [h]; rfl)

theorem State.endStep_open (h : s.stepOpen = true) : s.endStep =
    ({ s with jobRec := some (s.stepRecord s.stepOutcome (if s.stepOutcome = 4 then 0x0C05 else s.fld Fd.JOB_STEP_FAULT),
      decide (s.stepOutcome = 3)) } : State).writeStepRecord := by
  have outcome : (if decide (s.fld Fd.JOB_STEP_STATE = 2) = true then 1 else if (!s.isSet Fd.JOB_STEP_VERIFY) = true then 0
      else if (s.isSet Fd.JOB_STEP_LOSS_VALID && decide (s.fld Fd.JOB_LOSS_LOSS = s.fld Fd.JOB_VERIFY_EXPECT)) = true then 3 else 4) =
      s.stepOutcome := by
    unfold State.stepOutcome
    cases s.isSet Fd.JOB_STEP_VERIFY <;> simp only [decide_eq_true_iff, Bool.and_eq_true] <;> rfl
  unfold State.endStep
  rw [if_neg (by rw [h]; decide)]
  simp only [outcome]

theorem State.abortStep_idle (h : s.stepOpen = false) : s.abortStep = s.log 0x0C01 :=
  if_pos (by rw [h]; rfl)

/-- R559: an abort stops the job's threads, fails its armed reductions and disarms both lap VCs. -/
theorem State.abortStep_open (h : s.stepOpen = true) :
    let a := s.jobThreads.foldl (fun s t => s.haltThread t 0x0C0A (s.regs t).pc) s
    let hs := (List.range 1024).filter (fun h => a.relState h = 2 && a.ofJob (a.fld (Fd.REL_RED_CTL_JOB h)))
    let b := ((hs.foldl (fun s h => s.relayFail h 0x0C0A) a).lapDisarm 0).lapDisarm 1
    s.abortStep = ({ b with jobRec := some (b.stepRecord 2 (b.fld Fd.JOB_STEP_FAULT), false) } : State).writeStepRecord :=
  if_neg (by rw [h]; decide)

section
variable (h : s.Hears 13)
include h

theorem exec_stepBegin (verify : Bool) (step : BitVec 32) (mapGen : BitVec 8) : exec (.stepBegin verify step mapGen) s =
    .next (if s.jobRec.isSome then s.log 0x0C01 else s.beginStep verify step.toNat mapGen.toNat) :=
  congrArg Host.Outcome.next (State.hostWriteIn_hears h _)

theorem exec_stepEnd : exec .stepEnd s = .next (if s.jobRec.isSome then s.log 0x0C01 else s.endStep) :=
  congrArg Host.Outcome.next (State.hostWriteIn_hears h _)

theorem exec_stepAbort : exec .stepAbort s = .next (if s.jobRec.isSome then s.log 0x0C01 else s.abortStep) :=
  congrArg Host.Outcome.next (State.hostWriteIn_hears h _)

theorem exec_srecTailWrite (tail : BitVec 20) : exec (.srecTailWrite tail) s = .next (s.setFld Fd.JOB_SREC_PTR_TAIL tail.toNat) :=
  congrArg Host.Outcome.next (State.hostWriteIn_hears h _)

theorem exec_fillPlanWrite (plan : BitVec 16) : exec (.fillPlanWrite plan) s = .next (s.writePlan plan.toNat) :=
  congrArg Host.Outcome.next (State.hostWriteIn_hears h _)

end

/-! The step record (R558, R564, R573) -/

theorem State.writeStepRecord_waits (h : s.srecRoom = false) : s.writeStepRecord = s := by
  unfold State.writeStepRecord
  split
  · rfl
  · exact if_neg (fun hr => Bool.false_ne_true (h.symm.trans hr))

/-- R564: with room the record is written, STATE becomes IDLE and IDLE_PISTE current. -/
theorem State.writeStepRecord_room {r : Nat} {clear : Bool} (hj : s.jobRec = some (r, clear)) (h : s.srecRoom = true) :
    let a := s.fld Fd.JOB_SREC_BASE * 32 + s.fld Fd.JOB_SREC_PTR_HEAD % 2 ^ (s.fld Fd.JOB_SREC_ENTRIES_LOG + 4) * 32
    let n := s.srSeq + 1
    let b := (({ s.ringPut a (leBytes 32 (r + n.toNat * 2 ^ 96)) with jobRec := none, srSeq := n } : State).incFld
      Fd.JOB_SREC_PTR_HEAD).setFld Fd.JOB_STEP_STATE 0
    let d := if clear then b.setFld Fd.JOB_CTL_HOLD 0 else b
    s.writeStepRecord = d.selectPiste (d.fld Fd.JOB_CTL_IDLE_PISTE) := by
  unfold State.writeStepRecord
  simp only [hj]
  exact if_pos h

/-! The loss of the step (R560) -/

/-- A mask of every bit of a width takes a whole value of that width. -/
theorem maskMix_full (old : Nat) {v n : Nat} (hv : v < 2 ^ n) : maskMix old v (2 ^ n - 1) % 2 ^ n = v := by
  refine Nat.eq_of_testBit_eq fun i => ?_
  have bit := bitAt_maskMix old v (2 ^ n - 1) i
  simp only [bitAt_eq_testBit, Nat.testBit_two_pow_sub_one] at bit
  rw [Nat.testBit_mod_two_pow, bit]
  by_cases hi : i < n
  · simp [hi]
  · simp [hi, Nat.testBit_lt_two_pow (Nat.lt_of_lt_of_le hv (Nat.pow_le_pow_right (by decide) (Nat.le_of_not_lt hi)))]

/-- R13: a write of the whole of JOB_LOSS gives LOSS its value. -/
theorem State.writeFields_loss (s : State) (v : Nat) : s.writeFields .JOB_LOSS fullMask v =
    s.setFld Fd.JOB_LOSS_LOSS (maskMix (s.fld Fd.JOB_LOSS_LOSS) (bits v 0 64) (2 ^ 64 - 1)) := by
  rw [State.writeFields_noLk (by simp [Reg.fields, Fd.JOB_LOSS_LOSS])]
  simp only [Reg.fields, List.foldl_cons, List.foldl_nil]
  rw [State.storeFld_rw (f := Fd.JOB_LOSS_LOSS) _ _ _ rfl]
  exact if_neg (show bits fullMask 0 64 ≠ 0 by decide)

theorem State.fld_writeFields_loss (s : State) (loss : BitVec 64) :
    (s.writeFields .JOB_LOSS fullMask loss.toNat).fld Fd.JOB_LOSS_LOSS = loss.toNat := by
  have whole : bits loss.toNat 0 64 = loss.toNat := by
    rw [bits, Nat.pow_zero, Nat.div_one, Nat.mod_eq_of_lt loss.isLt]
  rw [State.writeFields_loss, State.fld_setFld_self, whole]
  exact maskMix_full _ loss.isLt

/-- R560: with a step open the loss stands as written, valid, and nothing else changes. -/
theorem State.writeLoss_open (h : s.stepOpen = true) (loss : BitVec 64) :
    let u := s.writeLoss fullMask loss.toNat
    u.fld Fd.JOB_LOSS_LOSS = loss.toNat ∧ u.isSet Fd.JOB_STEP_LOSS_VALID = true ∧ { u with flds := s.flds } = s := by
  have other : Fd.JOB_LOSS_LOSS.key ≠ Fd.JOB_STEP_LOSS_VALID.key :=
    Fld.key_ne_of_addr (show 0 < 64 by decide) (by decide) (show 0xD00020 ≠ 0xD00010 by decide)
  have run : s.writeLoss fullMask loss.toNat = (s.writeFields .JOB_LOSS fullMask loss.toNat).setFld Fd.JOB_STEP_LOSS_VALID 1 := if_pos h
  rw [run]
  refine ⟨(State.fld_setFld_ne _ _ _ _ other).trans (s.fld_writeFields_loss loss), State.isSet_setFld_one _ rfl, ?_⟩
  rw [State.writeFields_loss]
  rfl

theorem State.writeLoss_idle (h : s.stepOpen = false) (mask v : Nat) : s.writeLoss mask v = s :=
  if_neg (fun ho => Bool.false_ne_true (h.symm.trans ho))

theorem exec_jobLossWrite (t : Tid) (loss : BitVec 64) :
    exec (.jobLossWrite t loss) s = .next (s.behindGate t.code (fun s => s.writeLoss fullMask loss.toNat)) := rfl

/-! The fill plan (R570) -/

/-- HOLD lies beside the register of the fill plan. -/
theorem State.fld_fill_setFld_hold (s : State) {f : Fld} (ha : f.addr = (Reg.JOB_FILL).addr) (hl : f.lo < 64) (v : Nat) :
    (s.setFld Fd.JOB_CTL_HOLD v).fld f = s.fld f :=
  State.fld_setFld_ne _ _ _ _ (Fld.key_ne_of_addr hl (show 32 < 64 by decide) (ha ▸ show 0xD00030 ≠ 0xD00000 by decide))

/-- R570: the fields that a new plan leaves. -/
theorem State.fld_writePlan (s : State) (plan : BitVec 16) :
    let u := s.writePlan plan.toNat
    u.fld Fd.JOB_FILL_PLAN = plan.toNat ∧ u.fld Fd.JOB_FILL_PENDING = 0 ∧ u.fld Fd.JOB_FILL_DONE = 0 ∧
      u.isSet Fd.JOB_CTL_HOLD = true := by
  have pending_ne_done : Fd.JOB_FILL_PENDING.key ≠ Fd.JOB_FILL_DONE.key := Fld.key_ne_of_lo rfl (show 16 ≠ 32 by decide)
  have plan_ne_done : Fd.JOB_FILL_PLAN.key ≠ Fd.JOB_FILL_DONE.key := Fld.key_ne_of_lo rfl (show 0 ≠ 32 by decide)
  have plan_ne_pending : Fd.JOB_FILL_PLAN.key ≠ Fd.JOB_FILL_PENDING.key := Fld.key_ne_of_lo rfl (show 0 ≠ 16 by decide)
  let r := ((s.setFld Fd.JOB_FILL_PLAN plan.toNat).setFld Fd.JOB_FILL_PENDING 0).setFld Fd.JOB_FILL_DONE 0
  have planned : r.fld Fd.JOB_FILL_PLAN = plan.toNat := by
    rw [State.fld_setFld_ne _ _ _ _ plan_ne_done, State.fld_setFld_ne _ _ _ _ plan_ne_pending, State.fld_setFld_self]
    exact Nat.mod_eq_of_lt plan.isLt
  have pending : r.fld Fd.JOB_FILL_PENDING = 0 := by
    rw [State.fld_setFld_ne _ _ _ _ pending_ne_done, State.fld_setFld_self, Nat.zero_mod]
  have done : r.fld Fd.JOB_FILL_DONE = 0 := by
    rw [State.fld_setFld_self, Nat.zero_mod]
  exact ⟨(r.fld_fill_setFld_hold rfl (by decide) 1).trans planned, (r.fld_fill_setFld_hold rfl (by decide) 1).trans pending,
    (r.fld_fill_setFld_hold rfl (by decide) 1).trans done, State.isSet_setFld_one r rfl⟩

/-- R574: no FILL is held under a new plan. -/
theorem State.cmds_writePlan (s : State) (plan : Nat) : ∀ e ∈ (s.writePlan plan).cmds, e.2.fill = false := by
  intro e he
  obtain ⟨_, -, rfl⟩ := List.mem_map.mp he
  rfl

end

/-! A flow that turns to its new route (R335, R562) -/

section
variable {dst : ModId} {vc : BitVec 4} {s : State} {f : SendFlow} {i : Nat}
  (hf : SMap.find s.sends (dst.toNat * 16 + vc.toNat) = some f) (ht : f.toward = some i)
include hf ht

theorem exec_flowRouteSwitch_eq :
    let j := s.pisteFor dst.toNat i
    let fault := s.routeFault dst.toNat vc.toNat j
    let u : State := { s with sends := s.sends.set (dst.toNat * 16 + vc.toNat) { f with piste := j, toward := none } }
    exec (.flowRouteSwitch dst vc) s = .next (if f.reopen = true ∨ f.held = true ∨ f.unacked ≠ [] then s
      else if fault = 0 ∨ f.waiting = [] then u.pumpFlow dst.toNat vc.toNat f.waiting.length
      else u.failFlow dst.toNat vc.toNat fault) := by
  change execFlowRouteSwitch dst vc s = _
  unfold execFlowRouteSwitch State.switchRoute
  simp only [hf, ht]

/-- R335: a flow that has packets under way, opens again or is held keeps its route. -/
theorem exec_flowRouteSwitch_waits (h : f.unacked ≠ [] ∨ f.reopen = true ∨ f.held = true) : exec (.flowRouteSwitch dst vc) s = .next s := by
  rw [exec_flowRouteSwitch_eq hf ht]
  exact congrArg Host.Outcome.next (if_pos (or_assoc.mp (or_comm.mp h)))

/-- R335, R562: a drained flow takes its new route and sends on, or fails what waits. -/
theorem exec_flowRouteSwitch_drained (h1 : f.unacked = []) (h2 : f.reopen = false) (h3 : f.held = false) :
    let j := s.pisteFor dst.toNat i
    let fault := s.routeFault dst.toNat vc.toNat j
    let u : State := { s with sends := s.sends.set (dst.toNat * 16 + vc.toNat) { f with piste := j, toward := none } }
    exec (.flowRouteSwitch dst vc) s = .next (if fault = 0 ∨ f.waiting = [] then u.pumpFlow dst.toNat vc.toNat f.waiting.length
      else u.failFlow dst.toNat vc.toNat fault) := by
  rw [exec_flowRouteSwitch_eq hf ht]
  refine congrArg Host.Outcome.next (if_neg ?_)
  rw [h1, h2, h3]
  simp

end

/-! The groups of clauses -/

section
variable {s : State} {g : Ingest} {c : Cmd} (hi : s.ingest = some g) (hc : s.cmd g.k = some c)
include hi hc

/-- R548: with room the record that waits is stored where its place is reached, and lost where it is not. -/
theorem exec_ingestLogWrite_room (hl : g.logged = false) (hr : s.ingRoom = true) :
    let a := s.fld Fd.ING_LOG_BASE_BASE * 32 + s.fld Fd.ING_LOG_PTR_HEAD % 2 ^ (s.fld Fd.ING_LOG_BASE_ENTRIES_LOG + 4) * 32
    let f := if regionOf a = .host then s.addrFault .engine a 32 else 0x0502
    let w := s.store (cellsFrom a (leBytes 32 (ingRecord g.k c (ingestBody c))))
    let q := if w.2 then w.1.log 0x0511 else w.1
    (f = 0 → exec .ingestLogWrite s = .next ((q.incFld Fd.ING_LOG_PTR_HEAD).ingFinish { g with logged := true })) ∧
    (f ≠ 0 → exec .ingestLogWrite s = .next (((s.log f).incFld Fd.ING_LOG_PTR_HEAD).ingFinish { g with logged := true })) := by
  have run : exec .ingestLogWrite s = .next s.ingLog := rfl
  rw [run, State.ingLog_writes hi hc hl hr]
  exact ⟨fun hf => by rw [State.ringPut_record hf], fun hf => by rw [State.ringPut_lost hf]⟩

end

/-- R564: with room the record that waits is stored where its place is reached, and lost where it is not. -/
theorem exec_stepRecordWrite_room {s : State} {r : Nat} {clear : Bool} (hj : s.jobRec = some (r, clear)) (hr : s.srecRoom = true) :
    let a := s.fld Fd.JOB_SREC_BASE * 32 + s.fld Fd.JOB_SREC_PTR_HEAD % 2 ^ (s.fld Fd.JOB_SREC_ENTRIES_LOG + 4) * 32
    let n := s.srSeq + 1
    let f := if regionOf a = .host then s.addrFault .engine a 32 else 0x0502
    let w := s.store (cellsFrom a (leBytes 32 (r + n.toNat * 2 ^ 96)))
    let q := if f = 0 then (if w.2 then w.1.log 0x0511 else w.1) else s.log f
    let b := (({ q with jobRec := none, srSeq := n } : State).incFld Fd.JOB_SREC_PTR_HEAD).setFld Fd.JOB_STEP_STATE 0
    let d := if clear then b.setFld Fd.JOB_CTL_HOLD 0 else b
    exec .stepRecordWrite s = .next (d.selectPiste (d.fld Fd.JOB_CTL_IDLE_PISTE)) := by
  intro a n f w q b d
  have put : s.ringPut a (leBytes 32 (r + n.toNat * 2 ^ 96)) = q := by
    by_cases hf : f = 0
    · exact (State.ringPut_record hf _).trans (if_pos hf).symm
    · exact (State.ringPut_lost hf _).trans (if_neg hf).symm
  have run : exec .stepRecordWrite s = .next s.writeStepRecord := rfl
  rw [run, State.writeStepRecord_room hj hr, put]

/-- Settles O52: each command by its equation. -/
theorem ingestAndJobs : Obligations.IngestAndJobs := by
  refine ⟨fun s g c hi hc => ⟨fun i hp hl hn => exec_sampleDispatch_deals hi hc hp hl hn, fun pipe x hx hs => exec_sampleDone_counts hi hc hx hs,
      fun hl hr => exec_ingestLogWrite_room hi hc hl hr, fun hr => congrArg Host.Outcome.next (State.ingLog_waits hi hc hr)⟩,
    fun s h => ⟨fun tail => ⟨_, exec_ingLogTailWrite h tail, rfl, ?logTail⟩,
      fun en => ⟨_, exec_ingPipesEnWrite h en, s.fld_pipesEn_writePipesEn en, fun i hi => s.fld_pipeState_writePipesEn en hi,
        s.writePipesEn_keeps _⟩⟩,
    fun s h => ⟨fun ho => ⟨exec_jobEnable_open h ho, exec_jobDisable_open h ho⟩,
      fun ho => ⟨exec_jobEnable_sets h ho, exec_jobEnable_again h ho, exec_jobDisable_clears h ho⟩, ?stepBegin, ?stepWaits, ?stepEnds,
      fun tail => ⟨_, exec_srecTailWrite h tail, rfl, ?recTail⟩, ?plan⟩,
    ?loss,
    fun s r clear hj => ⟨fun hr => congrArg Host.Outcome.next (State.writeStepRecord_waits hr), fun hr => exec_stepRecordWrite_room hj hr⟩,
    fun dst vc s f i hf ht => ⟨exec_flowRouteSwitch_waits hf ht, fun h1 h2 h3 => ?route⟩⟩
  case logTail | recTail => exact (State.fld_setFld_self _ _ _).trans (Nat.mod_eq_of_lt tail.isLt)
  case stepBegin =>
    intro verify step mapGen j
    have run := exec_stepBegin h verify step mapGen
    refine ⟨fun hr => run.trans (congrArg _ (if_pos hr)), fun hr => ?_⟩
    have begins : exec j s = .next (s.beginStep verify step.toNat mapGen.toNat) := by
      rw [run, hr]
      rfl
    rw [begins]
    exact ⟨fun hd => congrArg _ (State.beginStep_disabled hd _ _ _), fun he ho =>
      ⟨fun hm => congrArg _ (State.beginStep_otherMap he ho hm _ _), fun hm =>
        ⟨fun hh => congrArg _ (State.beginStep_held he ho hm hh _), fun hh => congrArg _ (State.beginStep_runs he ho hm hh _)⟩⟩⟩
  case stepWaits =>
    exact fun hr => ⟨(exec_stepEnd h).trans (congrArg _ (if_pos hr)), (exec_stepAbort h).trans (congrArg _ (if_pos hr))⟩
  case stepEnds =>
    intro hr
    have free : ¬ s.jobRec.isSome = true := by
      rw [hr]
      exact Bool.false_ne_true
    rw [exec_stepEnd h, exec_stepAbort h, if_neg free, if_neg free]
    exact ⟨fun ho => ⟨congrArg _ (State.endStep_idle ho), congrArg _ (State.abortStep_idle ho)⟩,
      fun ho => ⟨congrArg _ (State.endStep_open ho), congrArg _ (State.abortStep_open ho)⟩⟩
  case plan =>
    intro plan
    obtain ⟨planned, pending, done, hold⟩ := s.fld_writePlan plan
    exact ⟨_, exec_fillPlanWrite h plan, planned, pending, done, hold, rfl, s.cmds_writePlan _, rfl, rfl⟩
  case loss =>
    intro t loss s x
    have run := exec_jobLossWrite (s := s) t loss
    refine ⟨fun hl => run.trans (congrArg _ (State.behindGate_dead _ hl)),
      fun hl hd => ⟨fun hw => run.trans (congrArg _ (State.behindGate_window _ hl hd hw)), fun hw hh => ?_⟩⟩
    have opens := run.trans (congrArg _ (State.behindGate_open _ hl hd hw hh))
    exact ⟨fun ho => opens.trans (congrArg _ (State.writeLoss_idle ho _ _)), fun ho => ⟨_, opens, State.writeLoss_open ho loss⟩⟩
  case route =>
    intro j fault u
    rw [exec_flowRouteSwitch_drained hf ht h1 h2 h3]
    exact ⟨fun hg => congrArg _ (if_pos hg), fun hz hw => congrArg _ (if_neg (not_or.mpr ⟨hz, hw⟩))⟩

end Sys2Proof.Machine
end
